-- ==== Sys2Proof/Word.lean ====
section
/-! DEFINITION. The word types of the module: bytes, the unsigned words that software reads whole, and the
binary64 word of the estimator (R196). Everything a test could show wrong (arithmetic, CRCs, rounding) lies in
Sys2Proof/Machine. -/
namespace Sys2Proof

/-- One byte. -/
abbrev Byte := BitVec 8
/-- A 16-bit word (u16). -/
abbrev Half := BitVec 16
/-- A 32-bit word (u32). -/
abbrev Word := BitVec 32
/-- A 64-bit word (u64). -/
abbrev DWord := BitVec 64

/-- An IEEE 754 binary64 value as its 64 bits (R196). -/
structure F64 where
  bits : DWord
  deriving DecidableEq, Repr, Inhabited

/-- One of the four legs L0 to L3 (R7). -/
abbrev Leg := Fin 4
/-- One of the eight converter phases P0 to P7 (R226). -/
abbrev Phase := Fin 8

end Sys2Proof
end

