-- ==== Sys2Proof/Config.lean ====
section
/-! DEFINITION. What the spec leaves open, as constants without a body: nothing in Lean can evaluate them, so a
statement holds for every value they might have. Each is named in a row of notes/assumptions. -/
namespace Sys2Proof

/-- e^x in binary64. R196 fixes binary64 and round-to-nearest-even, but IEEE 754 states no result for the
exponential, so its rounding is free (log 5). -/
opaque Config.exp : F64 → F64
/-- ln x in binary64, free for the same reason as `Config.exp` (log 5). -/
opaque Config.ln : F64 → F64
/-- sin x in the drive law of R339; the spec gives no rounding (log 5). -/
opaque Config.sin : F64 → F64
/-- cos x in the drive law of R339 (log 5). -/
opaque Config.cos : F64 → F64
/-- Ed25519 verification: key, message, signature (R446, R469). Left uninterpreted (log 6). -/
opaque Config.ed25519 : List Byte → List Byte → List Byte → Bool
/-- The random EPOCH of the start whose POWER_CYCLES is given (R409). Random in the spec (log 7). -/
opaque Config.epoch : Nat → Word
/-- The random 32-byte debug challenge of the n-th attempt of a start (R469); start, attempt (log 7). -/
opaque Config.challenge : Nat → Nat → List Byte
/-- A value the spec leaves open when the machine goes on, by the counter of such values in the state (log 8). -/
opaque Config.freeValue : Nat → Int
/-- The value a chemistry field has while no accepted plat carries it (R505 gives the module no default);
basic type, field index, element (log 9). -/
opaque Config.chemistry : Nat → Nat → Nat → Int
/-- The 56 payload bytes of a Baseline flit whose layout the spec does not give (R20, R21: it lays out the permit only), by
kind and content (log 261). -/
opaque Config.payloadBytes : Nat → List Int → List Byte
/-- What record 0x0201 sets, by its basic and its expert DATA and the field asked for. R92 makes the record mandatory
and no chapter gives its field table (log 10). Fields: 0 switching frequency code, 1 SYNC_PHASE, 2 and 3 its bounds,
4 SYNCIN enabled, 5 SYNCOUT mode. -/
opaque Config.syncField : List Byte → List Byte → Nat → Nat

end Sys2Proof
end

