-- ==== Sys2Proof/Machine/Num.lean ====
section
/-! DEFINITION. Integer arithmetic of the spec: rounding and saturation (R5), the formats of R2, saturating
counters, little-endian bytes (R4), and small helpers over lists and vectors. -/
namespace Sys2Proof.Machine

/-- R5: n / d rounded to the nearest integer, ties away from zero; 0 where d is 0. -/
def roundDiv (n d : Int) : Int :=
  if d = 0 then 0
  else
    let q : Nat := (2 * n.natAbs + d.natAbs) / (2 * d.natAbs)
    if (n < 0) = (d < 0) then (q : Int) else -(q : Int)

/-- Limits x to lo .. hi. -/
def clampInt (lo hi x : Int) : Int := if x < lo then lo else if x > hi then hi else x

/-- R2, R5: a u16 quantity, saturating at the largest valid code. -/
def satU16 (x : Int) : Nat := (clampInt 0 0xFFFE x).toNat
/-- R2: a u32 quantity whose invalid code is 0xFFFFFFFF. -/
def satU32 (x : Int) : Nat := (clampInt 0 0xFFFFFFFE x).toNat
/-- R2: an i32 quantity whose invalid code is 0x80000000. -/
def satI32 (x : Int) : Int := clampInt (-0x7FFFFFFF) 0x7FFFFFFF x
/-- R2: an i16 quantity whose invalid code is 0x8000. -/
def satI16 (x : Int) : Int := clampInt (-0x7FFF) 0x7FFF x
/-- R2: a charge, i64, whose invalid code is 0x8000000000000000. -/
def satI64 (x : Int) : Int := clampInt (-0x7FFFFFFFFFFFFFFF) 0x7FFFFFFFFFFFFFFF x
/-- R2: the invalid code of a charge. -/
def chargeInvalid : Int := -0x8000000000000000
/-- A saturating u32 event counter. -/
def incSat (n : Nat) : Nat := if n < 0xFFFFFFFF then n + 1 else 0xFFFFFFFF
/-- A saturating u32 counter advanced by k. -/
def addSat (n k : Nat) : Nat := min (n + k) 0xFFFFFFFF
/-- A 16-bit saturating count of a station register (R124). -/
def incSat16 (n : Nat) : Nat := if n < 0xFFFF then n + 1 else 0xFFFF

/-- R2: the invalid codes. -/
def vInvalid : Nat := 0xFFFF
/-- R2: the invalid temperature, 0x8000 as i16. -/
def tInvalid : Int := -32768

/-- R4: the k low bytes of n, least significant first. -/
def leBytes : Nat → Nat → List Byte
  | 0, _ => []
  | k + 1, n => BitVec.ofNat 8 n :: leBytes k (n / 256)
/-- R4: two's complement of x in k bytes. -/
def leInt (k : Nat) (x : Int) : List Byte := leBytes k (x % (256 ^ k : Nat)).toNat
/-- R4: the number a little-endian byte list spells. -/
def leNat : List Byte → Nat
  | [] => 0
  | b :: bs => b.toNat + 256 * leNat bs
/-- R3: the two's-complement number of k bytes. -/
def leSigned (bs : List Byte) : Int :=
  let n := leNat bs
  if 2 * n < 256 ^ bs.length then (n : Int) else (n : Int) - (256 ^ bs.length : Nat)
/-- Bytes o .. o + k - 1 of a byte list. -/
def slice (o k : Nat) (bs : List Byte) : List Byte := (bs.drop o).take k
/-- The little-endian number at bytes o .. o + k - 1. -/
def fieldAt (o k : Nat) (bs : List Byte) : Nat := leNat (slice o k bs)
/-- Bit i of n. -/
def bitAt (n i : Nat) : Bool := n.testBit i
/-- A Bool as a number. -/
def b2n (b : Bool) : Nat := if b then 1 else 0
/-- Bits hi .. lo of n. -/
def bitsAt (n hi lo : Nat) : Nat := (n >>> lo) % 2 ^ (hi + 1 - lo)
/-- n with bit i set or cleared. -/
def setBit (n i : Nat) (b : Bool) : Nat := if n.testBit i = b then n else if b then n + 2 ^ i else n - 2 ^ i
/-- The low k bits of n with every set bit of the mask cleared (a W1C write, R12). -/
def clearBits (n m : Nat) : Nat := n - (n &&& m)
/-- Number of set bits among bits 0 .. k - 1. -/
def popCount (k n : Nat) : Nat := ((List.range k).filter (fun i => n.testBit i)).length

/-- Entry i of a list, or d. -/
abbrev nth {α : Type} (xs : List α) (i : Nat) (d : α) : α := xs.getD i d
/-- The list with entry i changed by f (unchanged where there is none). -/
def updAt {α : Type} (xs : List α) (i : Nat) (f : α → α) : List α := xs.modify i f
/-- The vector with entry i changed by f. -/
def vmod {α : Type} {n : Nat} (v : Vector α n) (i : Fin n) (f : α → α) : Vector α n := v.set i.val (f v[i.val])

/-- Sparse map: the value of key k. -/
def lookupD {α : Type} (d : α) (xs : List (Nat × α)) (k : Nat) : α :=
  match xs.find? (fun p => p.1 == k) with
  | some p => p.2
  | none => d
/-- Sparse map in ascending key order: key k holds v. -/
def insertKey {α : Type} (k : Nat) (v : α) : List (Nat × α) → List (Nat × α)
  | [] => [(k, v)]
  | p :: ps => if k < p.1 then (k, v) :: p :: ps else if k = p.1 then (k, v) :: ps else p :: insertKey k v ps
/-- Sparse map: the value of key k changed by f. -/
def modKey {α : Type} (d : α) (k : Nat) (f : α → α) (xs : List (Nat × α)) : List (Nat × α) :=
  insertKey k (f (lookupD d xs k)) xs

/-- The largest of a list, or none. -/
def listMax? (xs : List Int) : Option Int := xs.foldl (fun a x => some (match a with | some y => max x y | none => x)) none
/-- The smallest of a list, or none. -/
def listMin? (xs : List Int) : Option Int := xs.foldl (fun a x => some (match a with | some y => min x y | none => x)) none
/-- Insertion into a list ordered by a number, after equals. -/
def insertBy {α : Type} (key : α → Nat) (x : α) : List α → List α
  | [] => [x]
  | y :: ys => if key x < key y then x :: y :: ys else y :: insertBy key x ys
/-- A list put into the order of a number, equals keeping their order. -/
def sortBy {α : Type} (key : α → Nat) (xs : List α) : List α := xs.foldl (fun acc x => insertBy key x acc) []

end Sys2Proof.Machine
end

