-- ==== Sys2Proof/Machine/Float.lean ====
section
/-! DEFINITION. IEEE 754 binary64 with round-to-nearest-even (R196), computed exactly on integers, so that the
kernel can evaluate it. Exponential, logarithm, sine and cosine are free (Config). -/
namespace Sys2Proof

open Machine (roundDiv)

/-- Sign bit. -/
def F64.neg? (x : F64) : Bool := x.bits.getLsbD 63
/-- Biased exponent. -/
def F64.ef (x : F64) : Nat := (x.bits.toNat / 2 ^ 52) % 2048
/-- Fraction field. -/
def F64.ff (x : F64) : Nat := x.bits.toNat % 2 ^ 52
/-- Not a number. -/
def F64.isNaN (x : F64) : Bool := x.ef == 2047 && x.ff != 0
/-- An infinity. -/
def F64.isInf (x : F64) : Bool := x.ef == 2047 && x.ff == 0
/-- Neither infinity nor NaN. -/
def F64.isFinite (x : F64) : Bool := x.ef != 2047
/-- Magnitude mantissa: a finite value is ± mant × 2^expo. -/
def F64.mant (x : F64) : Nat := if x.ef = 0 then x.ff else 2 ^ 52 + x.ff
/-- Exponent of the mantissa's unit, plus 1074 (so never negative). -/
def F64.expo (x : F64) : Nat := if x.ef = 0 then 0 else x.ef - 1
/-- Signed mantissa. -/
def F64.smant (x : F64) : Int := if x.neg? then -(x.mant : Int) else (x.mant : Int)

/-- The bits of sign, biased exponent and fraction. -/
def F64.pack (neg : Bool) (e f : Nat) : F64 := ⟨BitVec.ofNat 64 ((if neg then 2 ^ 63 else 0) + e * 2 ^ 52 + f)⟩
/-- Zero. -/
def F64.zero : F64 := ⟨0⟩
/-- One. -/
def F64.one : F64 := F64.pack false 1023 0
/-- The quiet NaN. -/
def F64.nan : F64 := F64.pack false 2047 (2 ^ 51)
/-- Infinity of a sign. -/
def F64.inf (neg : Bool) : F64 := F64.pack neg 2047 0

/-- num / den rounded to an integer, ties to even (den not 0). -/
def F64.divEven (num den : Nat) : Nat :=
  let q := num / den
  let r := num % den
  if 2 * r < den then q else if 2 * r > den then q + 1 else if q % 2 = 0 then q else q + 1

/-- ± num / den × 2^(-1074) in binary64, round to nearest even; den not 0. -/
def F64.ofQuot (neg : Bool) (num den : Nat) : F64 :=
  if num = 0 then F64.pack neg 0 0
  else
    let a := num.log2
    let b := den.log2
    -- k: floor(log2(num / den)), shifted so that it is a natural number where it is at least 0
    let small := num < den * 2 ^ (a - b) || a < b
    let k := if small then a - b - 1 else a - b
    -- quantum exponent above 2^(-1074)
    let q := k - 52
    let m := F64.divEven num (den * 2 ^ q)
    let (m, q) := if m = 2 ^ 53 then (2 ^ 52, q + 1) else (m, q)
    if m < 2 ^ 52 then F64.pack neg 0 m
    else if q + 1 ≥ 2047 then F64.inf neg
    else F64.pack neg (q + 1) (m - 2 ^ 52)

/-- The binary64 nearest to n / d, d not 0. -/
def F64.ofRatio (n : Int) (d : Nat) : F64 := F64.ofQuot (n < 0) (n.natAbs * 2 ^ 1074) d
/-- The binary64 nearest to n. -/
def F64.ofInt (n : Int) : F64 := F64.ofRatio n 1
/-- The binary64 nearest to n. -/
def F64.ofNat (n : Nat) : F64 := F64.ofRatio n 1

/-- −x. -/
def F64.negate (x : F64) : F64 := ⟨x.bits ^^^ (BitVec.ofNat 64 (2 ^ 63))⟩
/-- |x|. -/
def F64.abs (x : F64) : F64 := if x.neg? then x.negate else x

/-- x + y. -/
def F64.add (x y : F64) : F64 :=
  if x.isNaN || y.isNaN then F64.nan
  else if x.isInf then (if y.isInf && x.neg? != y.neg? then F64.nan else x)
  else if y.isInf then y
  else
    let s : Int := x.smant * (2 ^ x.expo : Nat) + y.smant * (2 ^ y.expo : Nat)
    if s = 0 then F64.pack (x.neg? && y.neg?) 0 0 else F64.ofQuot (s < 0) s.natAbs 1
/-- x − y. -/
def F64.sub (x y : F64) : F64 := if y.isNaN then F64.nan else x.add y.negate
/-- x × y. -/
def F64.mul (x y : F64) : F64 :=
  let n := x.neg? != y.neg?
  if x.isNaN || y.isNaN then F64.nan
  else if x.isInf || y.isInf then
    (if (x.isFinite && x.mant == 0) || (y.isFinite && y.mant == 0) then F64.nan else F64.inf n)
  else F64.ofQuot n (x.mant * y.mant * 2 ^ (x.expo + y.expo)) (2 ^ 1074)
/-- x / y. -/
def F64.div (x y : F64) : F64 :=
  let n := x.neg? != y.neg?
  if x.isNaN || y.isNaN then F64.nan
  else if x.isInf then (if y.isInf then F64.nan else F64.inf n)
  else if y.isInf then F64.pack n 0 0
  else if y.mant = 0 then (if x.mant = 0 then F64.nan else F64.inf n)
  else F64.ofQuot n (x.mant * 2 ^ x.expo * 2 ^ 1074) (y.mant * 2 ^ y.expo)

/-- floor of the square root of n, by k bits downwards. -/
def F64.isqrt : Nat → Nat → Nat → Nat
  | 0, _, r => r
  | k + 1, n, r =>
    let c := r + 2 ^ k
    F64.isqrt k n (if c * c ≤ n then c else r)
/-- √x. -/
def F64.sqrt (x : F64) : F64 :=
  if x.isNaN then F64.nan
  else if x.mant = 0 && x.isFinite then x
  else if x.neg? then F64.nan
  else if x.isInf then x
  else
    -- x = m × 2^(e - 1074); the unit of the root is 2^(-1074 + 8) or finer, with a sticky bit
    let n := x.mant * 2 ^ (x.expo + 1074 + 128)
    let r := F64.isqrt (n.log2 / 2 + 1) n 0
    F64.ofQuot false (2 * r + (if r * r = n then 0 else 1)) (2 ^ 65)

/-- x < y (false on NaN). -/
def F64.lt (x y : F64) : Bool :=
  if x.isNaN || y.isNaN then false
  else if x.isInf then x.neg? && !(y.isInf && y.neg?)
  else if y.isInf then !y.neg?
  else decide (x.smant * (2 ^ x.expo : Nat) < y.smant * (2 ^ y.expo : Nat))
/-- x = y as numbers (false on NaN). -/
def F64.eq (x y : F64) : Bool := !x.isNaN && !y.isNaN && !x.lt y && !y.lt x
/-- x ≤ y (false on NaN). -/
def F64.le (x y : F64) : Bool := x.lt y || x.eq y
/-- The smaller of the two. -/
def F64.min (x y : F64) : F64 := if y.lt x then y else x
/-- The larger of the two. -/
def F64.max (x y : F64) : F64 := if x.lt y then y else x
/-- Limits x to lo .. hi. -/
def F64.clamp (lo hi x : F64) : F64 := if x.lt lo then lo else if hi.lt x then hi else x

/-- R5: the nearest integer, ties away from zero; a NaN gives 0 and an infinity a number beyond every format. -/
def F64.round (x : F64) : Int :=
  if x.isNaN then 0
  else if x.isInf then (if x.neg? then -(2 ^ 1100 : Int) else 2 ^ 1100)
  else roundDiv (x.smant * (2 ^ x.expo : Nat)) (2 ^ 1074 : Nat)
/-- The largest integer not above x, for the saturating formats (as `round` on NaN and infinity). -/
def F64.floor (x : F64) : Int :=
  if x.isNaN then 0
  else if x.isInf then (if x.neg? then -(2 ^ 1100 : Int) else 2 ^ 1100)
  else (x.smant * (2 ^ x.expo : Nat)) / (2 ^ 1074 : Nat)
/-- The sum of a list in its order. -/
def F64.sum (xs : List F64) : F64 := xs.foldl F64.add F64.zero
/-- A sum of two products in the operation order of the text: a × b + c × d. -/
def F64.dot2 (a b c d : F64) : F64 := (a.mul b).add (c.mul d)

end Sys2Proof
end

