-- ==== Sys2Proof/Machine/Params.lean ====
section
/-! DEFINITION. The plat's field tables (R81, R106, R138, R168, R198, R199, R224, R225, R258, R259, R277, R298,
R323, R336, R353, R376, R392, R422, R440, R441, R459, R472), and the resolution of a parameter (R89, R90). -/
namespace Sys2Proof.Machine

/-- Field types of a plat table. -/
inductive FTy
  | u8 | u16 | u32 | i16 | i32
  deriving DecidableEq, Repr
/-- Default column of a field: values (the last one repeats), none (R505, or derived by Flosor), or another
field's value. -/
inductive Dflt
  | vals (xs : List Int)
  | unstated
  | sameAs (idx : Nat)
  deriving DecidableEq, Repr
/-- One row of a field table (R89). -/
structure PField where
  ty : FTy
  n : Nat
  dflt : Dflt
  lo : Int
  hi : Int
  expert : Bool
  deriving DecidableEq, Repr
/-- A parameter: basic record type and field index. -/
structure Par where
  basic : Nat
  idx : Nat
  deriving DecidableEq, Repr
/-- One record of an accepted body (R87). -/
structure PlatRec where
  type : Nat
  inst : Nat
  opt : Bool
  data : List Byte
  deriving DecidableEq, Repr

/-- Bytes of a field type. -/
def FTy.size : FTy → Nat
  | .u8 => 1
  | .u16 => 2
  | .i16 => 2
  | .u32 => 4
  | .i32 => 4
/-- Signed field types. -/
def FTy.signed : FTy → Bool
  | .i16 => true
  | .i32 => true
  | _ => false
/-- Bytes of a field. -/
def PField.bytes (f : PField) : Nat := f.ty.size * f.n
/-- Default of element e, where the table gives one. -/
def Dflt.at (d : Dflt) (e : Nat) : Option Int :=
  match d with
  | .vals xs => match xs[e]? with
    | some v => some v
    | none => xs.getLast?
  | _ => none

/-- The field table of R81 (basic type 0x0401). -/
def tab0401 : List PField := [
  ⟨.u8, 1, .vals [1], 0, 1, false⟩,
  ⟨.u32, 1, .vals [0], 0, 1000000, false⟩,
  ⟨.u16, 1, .vals [100], 0, 100, false⟩,
  ⟨.u16, 1, .vals [150], 0, 150, false⟩,
  ⟨.u16, 1, .vals [0], 0, 168, false⟩,
  ⟨.u8, 1, .vals [0], 0, 1, false⟩,
  ⟨.u16, 1, .vals [1000], 100, 10000, true⟩,
  ⟨.u16, 1, .vals [2000], 500, 10000, true⟩]

/-- The field table of R106 (basic type 0x0301). -/
def tab0301 : List PField := [
  ⟨.u8, 1, .vals [1], 0, 1, false⟩,
  ⟨.u8, 1, .vals [1], 0, 1, false⟩,
  ⟨.u8, 1, .vals [1], 0, 1, true⟩]

/-- The field table of R138 (basic type 0x1001 to 0x1301). -/
def tab1001 : List PField := [
  ⟨.u8, 1, .vals [24], 1, 24, false⟩,
  ⟨.u8, 1, .vals [0], 0, 1, false⟩,
  ⟨.u16, 1, .vals [600], 400, 1000, true⟩,
  ⟨.u16, 1, .vals [800], 600, 2000, true⟩,
  ⟨.u8, 1, .vals [3], 1, 5, true⟩,
  ⟨.u8, 1, .vals [2], 0, 3, true⟩,
  ⟨.u8, 1, .vals [5], 3, 50, true⟩,
  ⟨.u16, 1, .vals [50], 20, 500, true⟩]

/-- The field table of R168 (basic type 0x1401). -/
def tab1401 : List PField := [
  ⟨.u8, 1, .vals [8], 4, 64, false⟩,
  ⟨.u16, 24, .vals [65535], 15, 65535, false⟩,
  ⟨.u8, 24, .vals [255], 0, 255, false⟩,
  ⟨.u32, 1, .vals [0], 0, 100000, false⟩,
  ⟨.u8, 1, .vals [1], 0, 2, false⟩,
  ⟨.u16, 1, .vals [30000], 0, 50000, false⟩,
  ⟨.u16, 1, .vals [1650], 100, 10000, false⟩,
  ⟨.u16, 1, .vals [36500], 10000, 50000, false⟩,
  ⟨.u16, 1, .vals [25000], 5000, 40000, false⟩,
  ⟨.i16, 1, .vals [600], 0, 1000, false⟩,
  ⟨.i16, 1, .vals [-300], -500, 200, false⟩,
  ⟨.u16, 1, .vals [60], 1, 600, false⟩,
  ⟨.u8, 1, .vals [255], 0, 255, true⟩,
  ⟨.u8, 1, .vals [2], 0, 4, true⟩,
  ⟨.u16, 1, .vals [1000], 500, 5000, true⟩,
  ⟨.u8, 1, .vals [64], 16, 250, true⟩,
  ⟨.u16, 1, .vals [50], 10, 200, true⟩,
  ⟨.u8, 1, .vals [30], 5, 255, true⟩,
  ⟨.u16, 1, .vals [10], 1, 1000, true⟩,
  ⟨.u16, 1, .vals [5], 0, 999, true⟩,
  ⟨.u8, 1, .vals [80], 0, 100, true⟩,
  ⟨.u8, 1, .vals [8], 1, 16, true⟩,
  ⟨.u8, 1, .vals [0], 0, 1, true⟩,
  ⟨.u16, 408, .vals [0], 0, 10000, true⟩,
  ⟨.u16, 1, .vals [50], 10, 500, true⟩,
  ⟨.u16, 1, .vals [2000], 100, 10000, true⟩,
  ⟨.u16, 1, .vals [10], 1, 600, true⟩,
  ⟨.u16, 1, .vals [200], 50, 2000, true⟩,
  ⟨.u8, 1, .vals [3], 2, 16, true⟩,
  ⟨.u16, 1, .vals [10], 1, 1000, true⟩,
  ⟨.u16, 1, .vals [2000], 100, 20000, true⟩,
  ⟨.u16, 1, .vals [24], 1, 720, true⟩]

/-- The field table of R198 (basic type 0x2001). -/
def tab2001 : List PField := [
  ⟨.u8, 1, .vals [0], 0, 2, false⟩,
  ⟨.u32, 1, .vals [280000], 1000, 2000000, false⟩,
  ⟨.u32, 1, .vals [300], 10, 100000, false⟩,
  ⟨.u16, 101, .unstated, 0, 65534, true⟩,
  ⟨.u16, 101, .unstated, 0, 65534, true⟩,
  ⟨.i16, 101, .unstated, -2000, 2000, true⟩,
  ⟨.u16, 1, .vals [500], 10, 5000, true⟩,
  ⟨.i16, 4, .vals [50, 150, 250, 350], -400, 800, true⟩,
  ⟨.u32, 15, .unstated, 1, 1000000, true⟩,
  ⟨.u32, 15, .unstated, 1, 1000000, true⟩,
  ⟨.u32, 15, .unstated, 1, 10000000, true⟩,
  ⟨.u16, 2, .vals [1000, 1000], 100, 5000, true⟩,
  ⟨.u16, 2, .vals [900, 800], 100, 5000, true⟩,
  ⟨.u16, 2, .vals [1000, 1000], 100, 5000, true⟩,
  ⟨.u8, 16, .vals [0,0,1,1,2,2,3,3,4,4,5,5,6,6,7,7], 0, 7, true⟩]

/-- The field table of R199 (basic type 0x2002). -/
def tab2002 : List PField := [
  ⟨.u8, 1, .vals [3], 0, 3, false⟩,
  ⟨.u8, 1, .vals [1], 0, 1, false⟩,
  ⟨.u16, 1, .vals [30], 5, 600, true⟩,
  ⟨.u16, 1, .vals [200], 50, 1000, true⟩,
  ⟨.u16, 1, .vals [4000], 1000, 50000, true⟩,
  ⟨.u16, 1, .vals [40], 25, 200, true⟩,
  ⟨.u16, 1, .vals [25], 5, 100, true⟩,
  ⟨.u16, 1, .vals [1000], 0, 15000, true⟩,
  ⟨.u16, 1, .vals [500], 100, 5000, true⟩,
  ⟨.u32, 1, .vals [200], 50, 10000, true⟩,
  ⟨.u32, 1, .vals [200000], 1000, 1000000, true⟩,
  ⟨.u16, 1, .vals [60], 10, 1000, true⟩,
  ⟨.u16, 1, .vals [60], 1, 3600, true⟩,
  ⟨.u16, 1, .vals [300], 10, 2000, true⟩,
  ⟨.u16, 1, .vals [5], 1, 1000, true⟩,
  ⟨.u16, 1, .vals [20], 1, 100, true⟩,
  ⟨.u16, 1, .vals [30], 5, 720, true⟩,
  ⟨.u16, 1, .vals [3000], 1000, 9000, true⟩,
  ⟨.u16, 1, .vals [2000], 0, 50000, true⟩,
  ⟨.u32, 1, .vals [50000], 0, 5000000, true⟩,
  ⟨.u32, 1, .vals [500000], 1000, 10000000, true⟩,
  ⟨.u16, 1, .vals [100], 0, 10000, true⟩,
  ⟨.u16, 1, .vals [50], 0, 1000, true⟩]

/-- The field table of R224 (basic type 0x2003). -/
def tab2003 : List PField := [
  ⟨.u16, 1, .unstated, 10000, 50000, false⟩,
  ⟨.u16, 1, .unstated, 5000, 40000, false⟩,
  ⟨.u16, 1, .unstated, 10, 10000, false⟩,
  ⟨.u16, 1, .unstated, 10, 10000, false⟩,
  ⟨.u16, 1, .vals [975], 800, 1000, false⟩,
  ⟨.u32, 1, .vals [1000000], 0, 4000000, false⟩,
  ⟨.u32, 1, .vals [1000000], 0, 4000000, false⟩,
  ⟨.u16, 1, .vals [300], 60, 3600, true⟩,
  ⟨.u16, 1, .vals [200], 0, 500, true⟩,
  ⟨.i16, 1, .vals [100], -200, 300, true⟩,
  ⟨.u16, 1, .vals [100], 10, 1000, true⟩,
  ⟨.u16, 1, .unstated, 5000, 40000, true⟩,
  ⟨.u16, 1, .unstated, 10000, 50000, true⟩,
  ⟨.u8, 1, .vals [3], 1, 10, true⟩,
  ⟨.u16, 1, .vals [500], 100, 2000, true⟩,
  ⟨.u16, 1, .vals [500], 100, 2000, true⟩,
  ⟨.u16, 1, .vals [100], 10, 500, true⟩,
  ⟨.u16, 1, .vals [50], 0, 500, true⟩]

/-- The field table of R225 (basic type 0x2004). -/
def tab2004 : List PField := [
  ⟨.u16, 1, .vals [2000], 0, 10000, false⟩,
  ⟨.u16, 1, .vals [1000], 0, 10000, false⟩,
  ⟨.u16, 1, .vals [9000], 0, 10000, false⟩,
  ⟨.u16, 1, .vals [9500], 0, 10000, false⟩,
  ⟨.u16, 1, .vals [300], 0, 7200, false⟩,
  ⟨.u16, 1, .vals [300], 0, 7200, false⟩,
  ⟨.u16, 1, .vals [200], 0, 1000, true⟩,
  ⟨.u16, 1, .vals [60], 0, 600, true⟩,
  ⟨.u16, 1, .vals [2000], 0, 60000, true⟩,
  ⟨.u32, 1, .vals [10000], 0, 1000000, true⟩,
  ⟨.u8, 1, .vals [63], 0, 63, true⟩,
  ⟨.u16, 1, .vals [600], 60, 3600, true⟩]

/-- The field table of R258 (basic type 0x3001). -/
def tab3001 : List PField := [
  ⟨.u32, 1, .vals [250000], 1000, 2000000, false⟩,
  ⟨.u32, 1, .vals [400000], 1000, 4000000, false⟩,
  ⟨.u32, 1, .vals [600000], 1000, 4000000, false⟩,
  ⟨.u32, 1, .vals [1600000], 100000, 2000000, false⟩,
  ⟨.u32, 1, .vals [320000], 1000, 4000000, true⟩,
  ⟨.u8, 1, .vals [4], 2, 8, true⟩,
  ⟨.u16, 1, .vals [100], 20, 1000, true⟩,
  ⟨.u16, 1, .vals [100], 0, 1000, true⟩,
  ⟨.u16, 1, .vals [1500], 1000, 3000, true⟩,
  ⟨.u16, 1, .vals [1100], 1000, 3000, true⟩,
  ⟨.u16, 1, .vals [1000], 1, 10000, true⟩,
  ⟨.u16, 1, .vals [5000], 100, 60000, true⟩,
  ⟨.u32, 1, .vals [2000], 100, 50000, true⟩,
  ⟨.u16, 1, .vals [50], 0, 1000, true⟩]

/-- The field table of R259 (basic type 0x3002). -/
def tab3002 : List PField := [
  ⟨.u8, 1, .vals [0], 0, 1, false⟩,
  ⟨.u8, 1, .vals [2], 0, 2, false⟩,
  ⟨.u32, 1, .vals [900000], 100000, 1500000, false⟩,
  ⟨.u32, 1, .vals [1250000], 100000, 2000000, false⟩,
  ⟨.u32, 1, .vals [2000000], 1000, 8000000, false⟩,
  ⟨.u32, 1, .vals [750000], 100000, 1500000, false⟩,
  ⟨.u32, 1, .vals [1000000], 100000, 1500000, false⟩,
  ⟨.u32, 1, .vals [50000], 0, 1000000, false⟩,
  ⟨.u16, 1, .vals [500], 50, 10000, false⟩,
  ⟨.u16, 1, .vals [200], 10, 5000, false⟩,
  ⟨.u32, 1, .vals [1000], 10, 100000, false⟩,
  ⟨.u32, 1, .vals [2000], 1, 100000, true⟩,
  ⟨.u32, 1, .vals [2000000], 1000, 100000000, true⟩,
  ⟨.u32, 1, .vals [100], 1, 10000, true⟩,
  ⟨.u32, 1, .vals [20000], 0, 1000000, true⟩,
  ⟨.u32, 1, .vals [0], 0, 10000000, true⟩,
  ⟨.u32, 1, .vals [900000], 100000, 1500000, true⟩,
  ⟨.u16, 1, .vals [50], 10, 500, true⟩,
  ⟨.u16, 1, .vals [500], 100, 1000, true⟩,
  ⟨.u16, 1, .vals [100], 20, 500, true⟩,
  ⟨.u16, 1, .vals [2], 1, 50, true⟩,
  ⟨.u8, 1, .vals [3], 0, 3, true⟩,
  ⟨.u16, 1, .vals [2000], 100, 60000, true⟩,
  ⟨.u32, 1, .vals [30000], 1000, 500000, true⟩,
  ⟨.u32, 1, .vals [200], 10, 10000, true⟩,
  ⟨.u16, 1, .vals [20], 1, 1000, true⟩,
  ⟨.u16, 1, .vals [100], 10, 5000, true⟩,
  ⟨.u16, 1, .vals [20], 5, 200, true⟩,
  ⟨.u16, 1, .vals [2000], 0, 60000, true⟩,
  ⟨.u16, 1, .vals [2000], 0, 20000, true⟩,
  ⟨.u16, 1, .vals [20], 0, 1000, true⟩,
  ⟨.u16, 1, .vals [500], 0, 5000, true⟩,
  ⟨.u16, 1, .vals [10], 1, 10000, true⟩,
  ⟨.u16, 4, .vals [0], 0, 10000, true⟩]

/-- The field table of R277 (basic type 0x3801). -/
def tab3801 : List PField := [
  ⟨.u16, 1, .vals [1000], 0, 9999, false⟩,
  ⟨.u16, 1, .vals [9500], 1, 9999, false⟩,
  ⟨.u32, 1, .vals [150], 10, 10000, false⟩,
  ⟨.u32, 1, .vals [2000], 10, 100000, false⟩,
  ⟨.u32, 1, .vals [1200000], 100000, 2000000, false⟩,
  ⟨.u16, 1, .vals [2000], 100, 10000, false⟩,
  ⟨.u16, 1, .vals [300], 10, 2000, false⟩,
  ⟨.u16, 1, .vals [50], 1, 1000, false⟩,
  ⟨.u8, 2, .vals [0, 1], 0, 1, true⟩,
  ⟨.i32, 42, .unstated, -2147483648, 2147483647, true⟩,
  ⟨.i32, 2, .unstated, 0, 1073741824, true⟩,
  ⟨.i32, 2, .unstated, 0, 1073741824, true⟩]

/-- The field table of R298 (basic type 0x4001). -/
def tab4001 : List PField := [
  ⟨.u8, 8, .vals [1, 0, 0, 0, 0, 0, 0, 0], 0, 4, false⟩,
  ⟨.u8, 8, .vals [1], 0, 1, false⟩,
  ⟨.u8, 16, .vals [0,1,2,3,0,1,2,3,0,1,2,3,0,1,2,3], 0, 4, false⟩,
  ⟨.u8, 4, .vals [1, 1, 1, 0], 0, 2, false⟩,
  ⟨.u8, 1, .vals [1], 0, 1, false⟩,
  ⟨.u32, 1, .vals [2000], 100, 100000, false⟩,
  ⟨.u32, 1, .vals [2000], 100, 50000, false⟩,
  ⟨.u16, 1, .vals [200], 20, 2000, false⟩,
  ⟨.u16, 1, .vals [50], 10, 500, false⟩,
  ⟨.u16, 1, .unstated, 10000, 50000, false⟩,
  ⟨.u16, 1, .unstated, 5000, 40000, false⟩,
  ⟨.u16, 1, .vals [1], 1, 65535, false⟩,
  ⟨.u16, 1, .vals [0], 0, 65535, false⟩,
  ⟨.u16, 1, .vals [0], 0, 65535, false⟩,
  ⟨.u8, 1, .vals [0], 0, 1, false⟩,
  ⟨.u16, 1, .vals [3000], 1000, 4800, true⟩,
  ⟨.u16, 1, .vals [50], 10, 500, true⟩,
  ⟨.u16, 1, .vals [200], 100, 300, true⟩,
  ⟨.u32, 1, .vals [20000], 1000, 200000, true⟩,
  ⟨.u16, 1, .vals [100], 10, 500, true⟩,
  ⟨.u8, 1, .vals [2], 1, 4, true⟩,
  ⟨.u16, 1, .vals [2000], 100, 60000, true⟩,
  ⟨.u16, 1, .vals [10], 3, 600, true⟩,
  ⟨.u16, 1, .vals [20], 10, 1000, true⟩,
  ⟨.u16, 1, .vals [10], 5, 100, true⟩,
  ⟨.u16, 1, .vals [5000], 100, 30000, true⟩,
  ⟨.u32, 1, .vals [5000], 100, 100000, true⟩,
  ⟨.u16, 1, .vals [100], 20, 1000, true⟩]

/-- The field table of R323 (basic type 0x4801). -/
def tab4801 : List PField := [
  ⟨.u8, 1, .vals [0], 0, 1, false⟩,
  ⟨.u32, 1, .vals [0], 0, 4294967295, false⟩,
  ⟨.u8, 1, .vals [0], 0, 1, false⟩,
  ⟨.u16, 1, .vals [1000], 500, 2000, false⟩,
  ⟨.u16, 1, .vals [60], 60, 3600, true⟩,
  ⟨.u16, 1, .vals [60], 1, 3600, true⟩,
  ⟨.u16, 1, .vals [100], 50, 130, true⟩,
  ⟨.u16, 1, .vals [64], 16, 128, true⟩,
  ⟨.u16, 1, .vals [10], 2, 60, true⟩,
  ⟨.u8, 1, .vals [16], 4, 255, true⟩,
  ⟨.u16, 1, .vals [16], 4, 24, true⟩]

/-- The field table of R336 (basic type 0x5001). -/
def tab5001 : List PField := [
  ⟨.i16, 1, .unstated, 0, 900, false⟩,
  ⟨.i16, 1, .unstated, 0, 950, false⟩,
  ⟨.i16, 1, .unstated, 0, 1000, false⟩,
  ⟨.i16, 1, .unstated, -400, 300, false⟩,
  ⟨.i16, 1, .unstated, -400, 200, false⟩,
  ⟨.u32, 1, .vals [10000], 100, 1000000, false⟩,
  ⟨.u16, 1, .vals [3435], 2000, 6000, false⟩,
  ⟨.u32, 1, .vals [10000], 100, 1000000, false⟩,
  ⟨.u8, 4, .vals [0], 0, 1, false⟩,
  ⟨.u8, 4, .vals [15], 1, 15, false⟩,
  ⟨.i16, 4, .vals [250], -200, 600, false⟩,
  ⟨.u32, 4, .vals [0], 0, 1000000, false⟩,
  ⟨.u8, 4, .vals [0], 0, 2, false⟩,
  ⟨.u8, 4, .vals [15], 1, 15, false⟩,
  ⟨.u16, 1, .vals [30], 5, 100, true⟩,
  ⟨.i16, 1, .vals [900], 400, 1400, true⟩,
  ⟨.i16, 1, .vals [1000], 400, 1450, true⟩,
  ⟨.i16, 1, .vals [1100], 400, 1500, true⟩,
  ⟨.i16, 1, .vals [850], 300, 1400, true⟩,
  ⟨.u16, 1, .vals [50], 10, 200, true⟩,
  ⟨.i16, 1, .vals [550], 200, 1000, true⟩,
  ⟨.i16, 1, .vals [1100], 700, 1250, true⟩,
  ⟨.i16, 1, .vals [1200], 800, 1290, true⟩,
  ⟨.i16, 4, .vals [100], -200, 600, true⟩,
  ⟨.i16, 4, .vals [400], -200, 600, true⟩,
  ⟨.u16, 4, .vals [100], 1, 10000, true⟩,
  ⟨.u16, 4, .vals [120], 5, 3600, true⟩,
  ⟨.u16, 1, .vals [1000], 100, 10000, true⟩,
  ⟨.u16, 4, .vals [1000], 0, 1000, true⟩,
  ⟨.i16, 4, .vals [400], -200, 1200, true⟩,
  ⟨.i16, 4, .vals [800], -100, 1400, true⟩,
  ⟨.u16, 4, .vals [2000], 0, 10000, true⟩,
  ⟨.u16, 1, .vals [25000], 20, 40000, true⟩,
  ⟨.u8, 4, .vals [2], 1, 8, true⟩,
  ⟨.u16, 4, .vals [300], 0, 20000, true⟩,
  ⟨.u16, 1, .vals [2000], 0, 10000, true⟩,
  ⟨.u16, 1, .vals [5000], 1000, 60000, true⟩]

/-- The field table of R353 (basic type 0x5801). -/
def tab5801 : List PField := [
  ⟨.u8, 1, .vals [0], 0, 1, false⟩,
  ⟨.u16, 1, .vals [200], 4, 1000, false⟩,
  ⟨.u16, 1, .vals [64], 1, 256, false⟩,
  ⟨.u32, 1, .vals [1200], 10, 100000, false⟩,
  ⟨.u32, 1, .vals [3000], 10, 1000000, false⟩,
  ⟨.u32, 1, .vals [0], 0, 10000000, false⟩,
  ⟨.u16, 1, .vals [1000], 10, 10000, false⟩,
  ⟨.u16, 1, .vals [500], 0, 10000, false⟩,
  ⟨.u32, 1, .vals [6400], 1, 100000, false⟩,
  ⟨.u32, 1, .vals [12800], 1, 10000000, false⟩,
  ⟨.u8, 1, .vals [0], 0, 1, false⟩,
  ⟨.u8, 1, .vals [1], 0, 1, false⟩,
  ⟨.u32, 1, .sameAs 9, 1, 10000000, true⟩,
  ⟨.u8, 1, .vals [0], 0, 1, true⟩,
  ⟨.u32, 1, .vals [128000], 1, 100000000, true⟩,
  ⟨.u32, 1, .vals [64000], 1, 10000000, true⟩,
  ⟨.u32, 1, .vals [1600], 1, 100000, true⟩,
  ⟨.u32, 1, .vals [640], 0, 100000, true⟩,
  ⟨.i32, 1, .vals [0], -1000000, 1000000, true⟩,
  ⟨.u32, 1, .vals [1000000], 100, 10000000, true⟩,
  ⟨.u8, 1, .vals [1], 0, 1, true⟩,
  ⟨.u8, 1, .vals [1], 0, 1, true⟩,
  ⟨.u8, 1, .vals [3], 0, 3, true⟩,
  ⟨.u16, 1, .vals [500], 10, 60000, true⟩,
  ⟨.u8, 1, .vals [0], 0, 1, true⟩,
  ⟨.i32, 1, .vals [0], -10000000, 10000000, true⟩,
  ⟨.i32, 1, .vals [1000000], -10000000, 10000000, true⟩,
  ⟨.u16, 1, .vals [1100], 100, 10000, true⟩,
  ⟨.u16, 1, .vals [18000], 1000, 60000, true⟩]

/-- The field table of R376 (basic type 0x6001). -/
def tab6001 : List PField := [
  ⟨.u8, 1, .vals [1], 0, 1, false⟩,
  ⟨.u16, 1, .vals [64], 16, 128, false⟩,
  ⟨.u16, 1, .vals [128], 0, 184, false⟩,
  ⟨.u8, 1, .vals [2], 1, 10, true⟩,
  ⟨.u8, 1, .vals [8], 0, 32, true⟩,
  ⟨.u16, 1, .vals [20], 5, 1000, true⟩,
  ⟨.u16, 1, .vals [5], 1, 50, true⟩,
  ⟨.u16, 1, .vals [2000], 50, 10000, true⟩]

/-- The field table of R392 (basic type 0x6801). -/
def tab6801 : List PField := [
  ⟨.u32, 1, .vals [3600], 60, 86400, false⟩,
  ⟨.u16, 1, .vals [20], 1, 1000, true⟩,
  ⟨.u16, 1, .vals [128], 16, 1024, true⟩,
  ⟨.u16, 1, .vals [1000], 10, 10000, true⟩]

/-- The field table of R422 (basic type 0x7001). -/
def tab7001 : List PField := [
  ⟨.u32, 1, .vals [0], 0, 4294967295, false⟩,
  ⟨.u32, 1, .vals [4294901760], 0, 4294967295, false⟩,
  ⟨.u32, 1, .vals [0], 0, 4294967295, false⟩,
  ⟨.u32, 1, .vals [0], 0, 4294967295, false⟩,
  ⟨.u16, 1, .vals [0], 0, 4094, false⟩,
  ⟨.u8, 1, .vals [0], 0, 1, false⟩,
  ⟨.u8, 1, .vals [0], 0, 127, false⟩,
  ⟨.u8, 1, .vals [2], 0, 2, false⟩,
  ⟨.u16, 4, .vals [0], 0, 65535, false⟩,
  ⟨.u32, 4, .vals [0], 0, 4294967295, false⟩,
  ⟨.u8, 2, .vals [0, 1], 0, 31, true⟩,
  ⟨.u8, 1, .vals [0], 0, 2, true⟩,
  ⟨.u16, 2, .vals [0], 0, 2000, true⟩,
  ⟨.u16, 2, .vals [0], 0, 2000, true⟩,
  ⟨.u8, 1, .vals [6], 0, 7, true⟩,
  ⟨.u16, 1, .vals [2000], 100, 10000, true⟩,
  ⟨.u16, 1, .vals [60], 1, 600, true⟩,
  ⟨.u16, 1, .vals [1000], 100, 2500, true⟩,
  ⟨.u8, 1, .vals [32], 1, 64, true⟩,
  ⟨.u16, 1, .vals [60], 5, 3600, true⟩,
  ⟨.u32, 1, .vals [65536], 1466, 262144, true⟩]

/-- The field table of R440 (basic type 0x7801). -/
def tab7801 : List PField := [
  ⟨.u8, 1, .vals [0], 0, 1, false⟩,
  ⟨.u8, 1, .vals [2], 0, 3, false⟩,
  ⟨.u8, 1, .vals [0], 0, 4, false⟩,
  ⟨.u8, 1, .vals [0], 0, 1, false⟩,
  ⟨.u8, 1, .vals [1], 1, 8, false⟩,
  ⟨.u8, 8, .vals [32], 0, 255, false⟩,
  ⟨.u8, 1, .vals [0], 0, 1, false⟩,
  ⟨.u8, 1, .vals [0], 0, 7, false⟩,
  ⟨.u8, 1, .vals [0], 0, 1, false⟩,
  ⟨.u8, 1, .vals [0], 0, 31, false⟩,
  ⟨.u32, 1, .vals [419385344], 0, 536870907, false⟩,
  ⟨.u8, 1, .vals [1], 0, 1, false⟩,
  ⟨.u16, 1, .vals [100], 10, 10000, false⟩,
  ⟨.u8, 1, .vals [0], 0, 1, true⟩,
  ⟨.u8, 1, .vals [1], 0, 1, true⟩,
  ⟨.u16, 1, .vals [800], 500, 900, true⟩,
  ⟨.u16, 1, .vals [750], 500, 900, true⟩,
  ⟨.u16, 1, .vals [1000], 100, 10000, true⟩]

/-- The field table of R441 (basic type 0x7802). -/
def tab7802 : List PField := [
  ⟨.u8, 1, .vals [0], 0, 32, false⟩,
  ⟨.u8, 1024, .vals [0], 0, 255, false⟩,
  ⟨.u8, 1, .vals [0], 0, 16, false⟩,
  ⟨.u8, 512, .vals [0], 0, 255, false⟩]

/-- The field table of R459 (basic type 0x8001). -/
def tab8001 : List PField := [
  ⟨.u16, 1, .vals [600], 60, 3600, false⟩,
  ⟨.u8, 1, .vals [0], 0, 1, false⟩,
  ⟨.u8, 1, .vals [1], 0, 1, false⟩,
  ⟨.u16, 1, .vals [1000], 100, 60000, true⟩]

/-- The field table of R472 (basic type 0x8801). -/
def tab8801 : List PField := [
  ⟨.u8, 1, .vals [0], 0, 1, false⟩,
  ⟨.u8, 1, .vals [0], 0, 1, false⟩,
  ⟨.u16, 1, .vals [30], 11, 600, true⟩]

/-- The field table of a basic type known to the image, where the spec gives one. -/
def schema (basic : Nat) : Option (List PField) :=
  match basic with
  | 1025 => some tab0401
  | 769 => some tab0301
  | 4097 => some tab1001
  | 4353 => some tab1001
  | 4609 => some tab1001
  | 4865 => some tab1001
  | 5121 => some tab1401
  | 8193 => some tab2001
  | 8194 => some tab2002
  | 8195 => some tab2003
  | 8196 => some tab2004
  | 12289 => some tab3001
  | 12290 => some tab3002
  | 14337 => some tab3801
  | 16385 => some tab4001
  | 18433 => some tab4801
  | 20481 => some tab5001
  | 22529 => some tab5801
  | 24577 => some tab6001
  | 26625 => some tab6801
  | 28673 => some tab7001
  | 30721 => some tab7801
  | 30722 => some tab7802
  | 32769 => some tab8001
  | 34817 => some tab8801
  | _ => none

/-- R91: the basic type of a record type. -/
def basicOf (t : Nat) : Nat := if t % 256 > 0x80 then t - 0x80 else t
/-- R91: whether a record type is an expert type. -/
def isExpert (t : Nat) : Bool := decide (t % 256 > 0x80)
/-- R89: byte offset of field i among the fields. -/
def offsetOf (fs : List PField) (i : Nat) : Nat := ((fs.take i).map PField.bytes).sum
/-- R89: bytes of all fields. -/
def sizeAll (fs : List PField) : Nat := (fs.map PField.bytes).sum
/-- R89: bytes of the basic fields. -/
def sizeBasic (fs : List PField) : Nat := ((fs.filter (fun f => !f.expert)).map PField.bytes).sum
/-- R89: bytes of the presence map. -/
def mapBytes (fs : List PField) : Nat := (fs.length + 7) / 8
/-- R89: the DATA length of a record of a known type. -/
def dataLen (fs : List PField) (expert : Bool) : Nat := if expert then mapBytes fs + sizeAll fs else sizeBasic fs + sizeAll fs
/-- Element e of field i in the block of all fields that begins at byte base. -/
def readElem (fs : List PField) (base i e : Nat) (d : List Byte) : Option Int :=
  match fs[i]? with
  | none => none
  | some f =>
    let bs := slice (base + offsetOf fs i + e * f.ty.size) f.ty.size d
    if bs.length < f.ty.size then none else some (if f.ty.signed then leSigned bs else (leNat bs : Int))
/-- R89: presence bit i of an expert record. -/
def presence (d : List Byte) (i : Nat) : Bool := (nth d (i / 8) 0).getLsbD (i % 8)

/-- The record of a type and INSTANCE. -/
def findRec (recs : List PlatRec) (t inst : Nat) : Option PlatRec := recs.find? (fun r => r.type == t && r.inst == inst)

/-- R90 steps 1 to 4: element e of parameter p of the function's record `inst`, where a record carries it. -/
def carried (recs : List PlatRec) (p : Par) (inst e : Nat) : Option Int :=
  match schema p.basic with
  | none => none
  | some fs =>
    let expertAt (n : Nat) : Option Int :=
      match findRec recs (p.basic + 0x80) n with
      | some r => if presence r.data p.idx then readElem fs (mapBytes fs) p.idx e r.data else none
      | none => none
    let derivedAt (n : Nat) : Option Int :=
      match findRec recs p.basic n with
      | some r => readElem fs (sizeBasic fs) p.idx e r.data
      | none => none
    (expertAt inst).or ((expertAt 0xFF).or ((derivedAt inst).or (derivedAt 0xFF)))

/-- R90 step 5: the Default column; a field without one keeps the free value of `Config.chemistry` (log 9). -/
def defaultOf (p : Par) (e : Nat) : Int :=
  match (schema p.basic).bind (fun fs => fs[p.idx]?) with
  | none => 0
  | some f => (f.dflt.at e).getD (Config.chemistry p.basic p.idx e)

/-- R90: element e of parameter p for record instance `inst`; DEC of R353 defaults to the resolved ACC. -/
def resolve (recs : List PlatRec) (p : Par) (inst e : Nat) : Int :=
  match carried recs p inst e with
  | some v => v
  | none =>
    match ((schema p.basic).bind (fun fs => fs[p.idx]?)).map PField.dflt with
    | some (.sameAs k) => (carried recs ⟨p.basic, k⟩ inst e).getD (defaultOf ⟨p.basic, k⟩ e)
    | _ => defaultOf p e

/-- BACKUP_FITTED of R81. 0: VBACK unused, no transfer to VBACK and SUPPLY_LOW never set by VBACK alone. -/
def P.backupFitted : Par := ⟨0x0401, 0⟩
/-- HOLDUP_UF of R81. Declared nominal capacitance on VMAIN plus VBACK, in µF, checked as in R64. -/
def P.holdupUf : Par := ⟨0x0401, 1⟩
/-- VIO33_LOAD_MA of R81. Declared VIO33_OUT load, in mA. -/
def P.vio33LoadMa : Par := ⟨0x0401, 2⟩
/-- VIO18_LOAD_MA of R81. Declared VIO18_OUT load, in mA. -/
def P.vio18LoadMa : Par := ⟨0x0401, 3⟩
/-- LAYUP_TIMER of R81. Wake timer default, in hours, and the bound for the object. -/
def P.layupTimer : Par := ⟨0x0401, 4⟩
/-- WAKE_ON_SUPPLY of R81. 1: an input transfer in LAID-UP wakes the module. -/
def P.wakeOnSupply : Par := ⟨0x0401, 5⟩
/-- WAKE_IN_FILTER of R81. WAKE_IN qualification time, in µs. -/
def P.wakeInFilter : Par := ⟨0x0401, 6⟩
/-- TONE_QUALIFY of R81. Wake-tone qualification time, in µs. -/
def P.toneQualify : Par := ⟨0x0401, 7⟩
/-- PLAT_INSTALL_ENABLE of R106. 0: COMMAND PLAT_INSTALL returns status 0x08 outside recovery. -/
def P.platInstallEnable : Par := ⟨0x0301, 0⟩
/-- ARCHIVE_ENABLE of R106. 0: the accepted copy is not written to the archive. -/
def P.archiveEnable : Par := ⟨0x0301, 1⟩
/-- INSTALL_IN_FAULT_HOLD of R106. 0: COMMAND PLAT_INSTALL is accepted in SURVEYED only, except in recovery. -/
def P.installInFaultHold : Par := ⟨0x0301, 2⟩
/-- STATION_COUNT of R138. Stations fitted on the leg. -/
def P.stationCount (leg : Nat) : Par := ⟨0x1001 + 0x100 * leg, 0⟩
/-- COUPLING of R138. 0: transformer; 1: capacitor. -/
def P.coupling (leg : Nat) : Par := ⟨0x1001 + 0x100 * leg, 1⟩
/-- HOP_MIN of R138. Lowest acceptable h_k, in ns. -/
def P.hopMin (leg : Nat) : Par := ⟨0x1001 + 0x100 * leg, 2⟩
/-- HOP_MAX of R138. Highest acceptable h_k, in ns. -/
def P.hopMax (leg : Nat) : Par := ⟨0x1001 + 0x100 * leg, 3⟩
/-- STAKE_ATTEMPTS of R138. Staking passes of R126. -/
def P.stakeAttempts (leg : Nat) : Par := ⟨0x1001 + 0x100 * leg, 4⟩
/-- RETRIES of R138. Retries of a command with effect. -/
def P.retries (leg : Nat) : Par := ⟨0x1001 + 0x100 * leg, 5⟩
/-- TONE_LOSS of R138. Return-end tone loss time, in ms. -/
def P.toneLoss (leg : Nat) : Par := ⟨0x1001 + 0x100 * leg, 6⟩
/-- RETURN_MARGIN of R138. Return-timeout margin, in µs. -/
def P.returnMargin (leg : Nat) : Par := ⟨0x1001 + 0x100 * leg, 7⟩
/-- ROUND_MS of R168. Regular round period, in frames. -/
def P.roundMs : Par := ⟨0x1401, 0⟩
/-- CELL_MASK of R168. Populated cells per stake. -/
def P.cellMask : Par := ⟨0x1401, 1⟩
/-- TEMP_MASK of R168. Populated temperature points per stake. -/
def P.tempMask : Par := ⟨0x1401, 2⟩
/-- R_LINK of R168. Leg resistance outside the sense lines, in µΩ. -/
def P.rLink : Par := ⟨0x1401, 3⟩
/-- BAL_MODE of R168. 0: off; 1: top; 2: bottom. -/
def P.balMode : Par := ⟨0x1401, 4⟩
/-- BAL_MIN_V of R168. Lowest cell voltage for bleeding; Flosor derives it from the chemistry. -/
def P.balMinV : Par := ⟨0x1401, 5⟩
/-- BLEED_R of R168. Bleed resistance, LSB 0.01 Ω. -/
def P.bleedR : Par := ⟨0x1401, 6⟩
/-- SLEEP_OV of R168. Laid-up overvoltage threshold. -/
def P.sleepOv : Par := ⟨0x1401, 7⟩
/-- SLEEP_UV of R168. Laid-up undervoltage threshold. -/
def P.sleepUv : Par := ⟨0x1401, 8⟩
/-- SLEEP_OT of R168. Laid-up overtemperature threshold. -/
def P.sleepOt : Par := ⟨0x1401, 9⟩
/-- SLEEP_UT of R168. Laid-up undertemperature threshold. -/
def P.sleepUt : Par := ⟨0x1401, 10⟩
/-- SLEEP_PERIOD of R168. Laid-up check period, in s. -/
def P.sleepPeriod : Par := ⟨0x1401, 11⟩
/-- PLUMB_SAMPLE of R168. Sample whose latch is T_P. -/
def P.plumbSample : Par := ⟨0x1401, 12⟩
/-- STALE_ROUNDS of R168. Rounds a missing value is held. -/
def P.staleRounds : Par := ⟨0x1401, 13⟩
/-- TEMP_SLOW_MS of R168. Slow round period, in ms. -/
def P.tempSlowMs : Par := ⟨0x1401, 14⟩
/-- FAST_MS of R168. Fast list period, in ms. -/
def P.fastMs : Par := ⟨0x1401, 15⟩
/-- FAST_MARGIN of R168. Fast list margin, LSB 0.1 °C. -/
def P.fastMargin : Par := ⟨0x1401, 16⟩
/-- FAST_LEAVE_S of R168. Time beyond the margin before leaving, in s. -/
def P.fastLeaveS : Par := ⟨0x1401, 17⟩
/-- BAL_START of R168. Excess that starts bleeding, LSB 0.01 % of CAP_NOM. -/
def P.balStart : Par := ⟨0x1401, 18⟩
/-- BAL_STOP of R168. Excess that ends bleeding, LSB 0.01 % of CAP_NOM. -/
def P.balStop : Par := ⟨0x1401, 19⟩
/-- BAL_MIN_CONF of R168. Confidence needed, in percent. -/
def P.balMinConf : Par := ⟨0x1401, 20⟩
/-- BAL_MAX_CELLS of R168. Bleeds per station at once. -/
def P.balMaxCells : Par := ⟨0x1401, 21⟩
/-- BAL_NEIGHBOUR of R168. 1: neighbour mode of R156. -/
def P.balNeighbour : Par := ⟨0x1401, 22⟩
/-- WIRE_R of R168. Sense-line resistance in mΩ, entry (k - 1) × 17 + w. -/
def P.wireR : Par := ⟨0x1401, 23⟩
/-- CLOSURE_REL of R168. Relative closure tolerance, LSB 0.01 %. -/
def P.closureRel : Par := ⟨0x1401, 24⟩
/-- CLOSURE_ABS of R168. Absolute closure tolerance, in mV. -/
def P.closureAbs : Par := ⟨0x1401, 25⟩
/-- CLOSURE_HOLD of R168. Failure time before the leg is disabled, in s. -/
def P.closureHold : Par := ⟨0x1401, 26⟩
/-- OW_DEV of R168. Deviation threshold, LSB 100 µV. -/
def P.owDev : Par := ⟨0x1401, 27⟩
/-- OW_ROUNDS of R168. Rounds a pattern must hold. -/
def P.owRounds : Par := ⟨0x1401, 28⟩
/-- SW_R_MIN of R168. Lowest DROP / ISW, in mΩ. -/
def P.swRMin : Par := ⟨0x1401, 29⟩
/-- SW_R_MAX of R168. Highest DROP / ISW, in mΩ. -/
def P.swRMax : Par := ⟨0x1401, 30⟩
/-- BAL_TEST_H of R168. Switch test interval, in hours. -/
def P.balTestH : Par := ⟨0x1401, 31⟩
/-- CHEMISTRY of R198. 0: LFP; 1: NMC; 2: LTO. -/
def P.chemistry : Par := ⟨0x2001, 0⟩
/-- CAP_NOM of R198. Nominal cell capacity, mAh. -/
def P.capNom : Par := ⟨0x2001, 1⟩
/-- RS_NOM of R198. Rs at 25 °C and light load, µΩ. -/
def P.rsNom : Par := ⟨0x2001, 2⟩
/-- OCV_DIS of R198. Discharge branch. -/
def P.ocvDis : Par := ⟨0x2001, 3⟩
/-- OCV_CHG of R198. Charge branch. -/
def P.ocvChg : Par := ⟨0x2001, 4⟩
/-- OCV_TC of R198. Temperature coefficient, µV/K. -/
def P.ocvTc : Par := ⟨0x2001, 5⟩
/-- HYST_Q of R198. Charge for branch change, LSB 0.01 % of capacity. -/
def P.hystQ : Par := ⟨0x2001, 6⟩
/-- TBIN_EDGE of R198. Temperature bin edges. -/
def P.tbinEdge : Par := ⟨0x2001, 7⟩
/-- INIT_RS of R198. Initial Rs per bin, µΩ. -/
def P.initRs : Par := ⟨0x2001, 8⟩
/-- INIT_RP of R198. Initial Rp per bin, µΩ. -/
def P.initRp : Par := ⟨0x2001, 9⟩
/-- INIT_CP of R198. Initial Cp per bin, 0.01 F. -/
def P.initCp : Par := ⟨0x2001, 10⟩
/-- IDEP_RS of R198. Mid and full ratios to light, LSB 0.001. -/
def P.idepRs : Par := ⟨0x2001, 11⟩
/-- IDEP_RP of R198. -/
def P.idepRp : Par := ⟨0x2001, 12⟩
/-- IDEP_CP of R198. -/
def P.idepCp : Par := ⟨0x2001, 13⟩
/-- CELL_TEMP_MAP of R198. Temperature point per cell. -/
def P.cellTempMap : Par := ⟨0x2001, 14⟩
/-- PROBE_ENABLE of R199. Start value and map of the object. -/
def P.probeEnable : Par := ⟨0x2002, 0⟩
/-- NAT_STEP_ENABLE of R199. Start value of the object. -/
def P.natStepEnable : Par := ⟨0x2002, 1⟩
/-- PROBE_PERIOD of R199. Probe interval per pair, s. -/
def P.probePeriod : Par := ⟨0x2002, 2⟩
/-- PROBE_DI of R199. Step, LSB 0.01 % of I_RATED. -/
def P.probeDi : Par := ⟨0x2002, 3⟩
/-- PROBE_DI_MIN of R199. Smallest step, mA. -/
def P.probeDiMin : Par := ⟨0x2002, 4⟩
/-- PROBE_LEN of R199. Step length, ms. -/
def P.probeLen : Par := ⟨0x2002, 5⟩
/-- PROBE_YIELD of R199. Request change that ends a probe, percent of ΔI. -/
def P.probeYield : Par := ⟨0x2002, 6⟩
/-- PROBE_JOIN of R199. Join window for the second pair, ms. -/
def P.probeJoin : Par := ⟨0x2002, 7⟩
/-- NAT_STEP_MIN of R199. Smallest natural step, LSB 0.01 % of I_RATED. -/
def P.natStepMin : Par := ⟨0x2002, 8⟩
/-- TAU_MIN of R199. Lowest τ, µs. -/
def P.tauMin : Par := ⟨0x2002, 9⟩
/-- TAU_MAX of R199. Highest τ, µs. -/
def P.tauMax : Par := ⟨0x2002, 10⟩
/-- READ_NOISE of R199. Reading noise, µV. -/
def P.readNoise : Par := ⟨0x2002, 11⟩
/-- ANCHOR_INTERVAL of R199. Time between load anchors, s. -/
def P.anchorInterval : Par := ⟨0x2002, 12⟩
/-- ANCHOR_MAX_C of R199. Highest . -/
def P.anchorMaxC : Par := ⟨0x2002, 13⟩
/-- ANCHOR_MIN_SLOPE of R199. Lowest OCV slope, µV per 0.01 % SOC. -/
def P.anchorMinSlope : Par := ⟨0x2002, 14⟩
/-- REST_C of R199. Rest current, LSB 0.001 C. -/
def P.restC : Par := ⟨0x2002, 15⟩
/-- REST_MIN of R199. Rest time, min. -/
def P.restMin : Par := ⟨0x2002, 16⟩
/-- CAP_MIN_DSOC of R199. Anchor spacing for capacity, LSB 0.01 %. -/
def P.capMinDsoc : Par := ⟨0x2002, 17⟩
/-- COUNT_GAIN_ERR of R199. Count gain uncertainty, ppm. -/
def P.countGainErr : Par := ⟨0x2002, 18⟩
/-- OFFSET_ERR of R199. Count offset uncertainty, µA. -/
def P.offsetErr : Par := ⟨0x2002, 19⟩
/-- OFFSET_LIMIT of R199. Offset change that is recorded, µA. -/
def P.offsetLimit : Par := ⟨0x2002, 20⟩
/-- IMP_DRIFT of R199. Impedance drift, LSB 0.01 % per 30 days. -/
def P.impDrift : Par := ⟨0x2002, 21⟩
/-- SOC_SIGMA_FLOOR of R199. Lowest SOC σ, LSB 0.01 %. -/
def P.socSigmaFloor : Par := ⟨0x2002, 22⟩
/-- V_MAX_OP of R224. Charge operating limit; LFP 36,000. -/
def P.vMaxOp : Par := ⟨0x2003, 0⟩
/-- V_MIN_OP of R224. Discharge operating limit; LFP 28,000. -/
def P.vMinOp : Par := ⟨0x2003, 1⟩
/-- I_DIS_MAX_C of R224. Discharge rate cap, LSB 0.001 C; LFP 1,000. -/
def P.iDisMaxC : Par := ⟨0x2003, 2⟩
/-- I_CHG_MAX_C of R224. Charge rate cap, LSB 0.001 C; LFP 500. -/
def P.iChgMaxC : Par := ⟨0x2003, 3⟩
/-- ETA of R224. Converter efficiency, LSB 0.1 %. -/
def P.eta : Par := ⟨0x2003, 4⟩
/-- STRING_P_DIS_MAX of R224. String discharge power cap, W. -/
def P.stringPDisMax : Par := ⟨0x2003, 5⟩
/-- STRING_P_CHG_MAX of R224. String charge power cap, W. -/
def P.stringPChgMax : Par := ⟨0x2003, 6⟩
/-- CONT_T of R224. Continuous horizon, s. -/
def P.contT : Par := ⟨0x2003, 7⟩
/-- EXTRAP_MARGIN of R224. Margin of R201, LSB 0.1 %. -/
def P.extrapMargin : Par := ⟨0x2003, 8⟩
/-- CHG_COLD_FULL of R224. Full charge factor from here, temperature format. -/
def P.chgColdFull : Par := ⟨0x2003, 9⟩
/-- BUDGET_RECOVERY of R224. Budget recovery per frame, LSB 0.001 ms. -/
def P.budgetRecovery : Par := ⟨0x2003, 10⟩
/-- V_EMPTY of R224. Corrected empty voltage; LFP 29,000. -/
def P.vEmpty : Par := ⟨0x2003, 11⟩
/-- V_FULL of R224. Corrected full voltage; LFP 34,500. -/
def P.vFull : Par := ⟨0x2003, 12⟩
/-- END_ROUNDS of R224. Rounds for an end decision. -/
def P.endRounds : Par := ⟨0x2003, 13⟩
/-- EMPTY_GAP of R224. Count gap that lowers capacity at empty, LSB 0.01 %. -/
def P.emptyGap : Par := ⟨0x2003, 14⟩
/-- FULL_GAP of R224. -/
def P.fullGap : Par := ⟨0x2003, 15⟩
/-- END_SIGMA of R224. σ of an end anchor, LSB 0.01 %. -/
def P.endSigma : Par := ⟨0x2003, 16⟩
/-- DISAGREE_C of R224. Disagreement limit, LSB 0.001 C. -/
def P.disagreeC : Par := ⟨0x2003, 17⟩
/-- SOC_LOW1 of R225. SOC format. -/
def P.socLow1 : Par := ⟨0x2004, 0⟩
/-- SOC_LOW2 of R225. SOC format. -/
def P.socLow2 : Par := ⟨0x2004, 1⟩
/-- SOC_HIGH1 of R225. SOC format. -/
def P.socHigh1 : Par := ⟨0x2004, 2⟩
/-- SOC_HIGH2 of R225. SOC format. -/
def P.socHigh2 : Par := ⟨0x2004, 3⟩
/-- TTE_WARN of R225. s. -/
def P.tteWarn : Par := ⟨0x2004, 4⟩
/-- TTF_WARN of R225. s. -/
def P.ttfWarn : Par := ⟨0x2004, 5⟩
/-- SOC_HYST of R225. SOC format. -/
def P.socHyst : Par := ⟨0x2004, 6⟩
/-- TIME_HYST of R225. s. -/
def P.timeHyst : Par := ⟨0x2004, 7⟩
/-- TIME_QUALIFY of R225. ms. -/
def P.timeQualify : Par := ⟨0x2004, 8⟩
/-- TIME_MIN_P of R225. Power below which no time is formed, W. -/
def P.timeMinP : Par := ⟨0x2004, 9⟩
/-- ALERT_MASK of R225. Bit k: warning k of WARN_STATUS drives ALERT_N. -/
def P.alertMask : Par := ⟨0x2004, 10⟩
/-- LEARN_PERIOD of R225. Periodic write interval, s. -/
def P.learnPeriod : Par := ⟨0x2004, 11⟩
/-- I_RATED of R258. Leg-side current rating, mA. -/
def P.iRated : Par := ⟨0x3001, 0⟩
/-- PHASE_I_FS of R258. Phase current full scale, mA. -/
def P.phaseIFs : Par := ⟨0x3001, 1⟩
/-- LEG_I_FS of R258. Leg shunt full scale, mA. -/
def P.legIFs : Par := ⟨0x3001, 2⟩
/-- LEG_V_FS of R258. Leg voltage full scale, mV. -/
def P.legVFs : Par := ⟨0x3001, 3⟩
/-- FAST_LIM of R258. Phase fast limit, both directions, mA. -/
def P.fastLim : Par := ⟨0x3001, 4⟩
/-- FAST_LATCH of R258. Consecutive trip periods that latch. -/
def P.fastLatch : Par := ⟨0x3001, 5⟩
/-- DEAD_TIME of R258. Field cycles. -/
def P.deadTime : Par := ⟨0x3001, 6⟩
/-- MIN_ON of R258. Field cycles. -/
def P.minOn : Par := ⟨0x3001, 7⟩
/-- OVL_LVL_10MS of R258. LSB 0.1 % of I_RATED. -/
def P.ovlLvl10ms : Par := ⟨0x3001, 8⟩
/-- OVL_LVL_1S of R258. LSB 0.1 % of I_RATED. -/
def P.ovlLvl1s : Par := ⟨0x3001, 9⟩
/-- OVL_STEP of R258. k_ovl change per frame, ppm. -/
def P.ovlStep : Par := ⟨0x3001, 10⟩
/-- OVL_TRIP_T of R258. ms. -/
def P.ovlTripT : Par := ⟨0x3001, 11⟩
/-- I_ZERO_LEG of R258. mA. -/
def P.iZeroLeg : Par := ⟨0x3001, 12⟩
/-- EN_LEAD of R258. µs. -/
def P.enLead : Par := ⟨0x3001, 13⟩
/-- MODE of R259. Mode at ARMED: 0 bus-following; 1 bus-forming. -/
def P.mode : Par := ⟨0x3002, 0⟩
/-- MCK_FREQ of R259. 0: 10 MHz; 1: 16 MHz; 2: 20 MHz. -/
def P.mckFreq : Par := ⟨0x3002, 1⟩
/-- V_BUS_NOM of R259. mV. -/
def P.vBusNom : Par := ⟨0x3002, 2⟩
/-- BUS_V_FS of R259. mV. -/
def P.busVFs : Par := ⟨0x3002, 3⟩
/-- STR_I_FS of R259. MD17 full scale and dispatch bound, mA. -/
def P.strIFs : Par := ⟨0x3002, 4⟩
/-- V_SET_MIN of R259. mV. -/
def P.vSetMin : Par := ⟨0x3002, 5⟩
/-- V_SET_MAX of R259. mV. -/
def P.vSetMax : Par := ⟨0x3002, 6⟩
/-- DROOP_R of R259. µΩ. -/
def P.droopR : Par := ⟨0x3002, 7⟩
/-- DISPATCH_TIMEOUT of R259. ms; start value and bounds of the object. -/
def P.dispatchTimeout : Par := ⟨0x3002, 8⟩
/-- T_SS of R259. Bus-forming soft start, ms. -/
def P.tSs : Par := ⟨0x3002, 9⟩
/-- SS_RATE of R259. Bus-following soft start, A/s. -/
def P.ssRate : Par := ⟨0x3002, 10⟩
/-- RATE_I of R259. A/s. -/
def P.rateI : Par := ⟨0x3002, 11⟩
/-- RATE_P of R259. W/s. -/
def P.rateP : Par := ⟨0x3002, 12⟩
/-- RATE_V of R259. V/s. -/
def P.rateV : Par := ⟨0x3002, 13⟩
/-- SHARE_R of R259. µΩ. -/
def P.shareR : Par := ⟨0x3002, 14⟩
/-- FOLLOW_G of R259. mA/V. -/
def P.followG : Par := ⟨0x3002, 15⟩
/-- FOLLOW_VREF of R259. mV. -/
def P.followVref : Par := ⟨0x3002, 16⟩
/-- HEADROOM of R259. LSB 0.1 %. -/
def P.headroom : Par := ⟨0x3002, 17⟩
/-- BUS_LIVE of R259. LSB 0.1 % of V_BUS_NOM. -/
def P.busLive : Par := ⟨0x3002, 18⟩
/-- SHORT_V of R259. LSB 0.1 % of V_BUS_NOM. -/
def P.shortV : Par := ⟨0x3002, 19⟩
/-- SHORT_T of R259. ms. -/
def P.shortT : Par := ⟨0x3002, 20⟩
/-- START_RETRIES of R259. Retries before latching. -/
def P.startRetries : Par := ⟨0x3002, 21⟩
/-- RETRY_SPACING of R259. ms. -/
def P.retrySpacing : Par := ⟨0x3002, 22⟩
/-- LS_DV of R259. mV. -/
def P.lsDv : Par := ⟨0x3002, 23⟩
/-- LS_DVDT of R259. V/ms. -/
def P.lsDvdt : Par := ⟨0x3002, 24⟩
/-- LS_HOLD of R259. ms. -/
def P.lsHold : Par := ⟨0x3002, 25⟩
/-- LS_TIMEOUT of R259. ms. -/
def P.lsTimeout : Par := ⟨0x3002, 26⟩
/-- REENTER_I of R259. LSB 0.1 % of I_RATED. -/
def P.reenterI : Par := ⟨0x3002, 27⟩
/-- WD_HOLD of R259. ms. -/
def P.wdHold : Par := ⟨0x3002, 28⟩
/-- K_SOC of R259. LSB 0.001 per unit SOC. -/
def P.kSoc : Par := ⟨0x3002, 29⟩
/-- K_TEMP of R259. LSB 0.001 per K. -/
def P.kTemp : Par := ⟨0x3002, 30⟩
/-- K_IMP of R259. LSB 0.001. -/
def P.kImp : Par := ⟨0x3002, 31⟩
/-- STEER_SLEW of R259. LSB 0.0001 per frame. -/
def P.steerSlew : Par := ⟨0x3002, 32⟩
/-- FIXED_WEIGHTS of R259. LSB 0.0001; all 0: computed weights. -/
def P.fixedWeights : Par := ⟨0x3002, 33⟩
/-- PHI_S of R277. Sample phase, LSB 0.0001 of the period. -/
def P.phiS : Par := ⟨0x3801, 0⟩
/-- PHI_W of R277. Write phase, LSB 0.0001 of the period. -/
def P.phiW : Par := ⟨0x3801, 1⟩
/-- L_PHASE of R277. Phase inductance, µH. -/
def P.lPhase : Par := ⟨0x3801, 2⟩
/-- C_OUT of R277. String output capacitance per leg, µF. -/
def P.cOut : Par := ⟨0x3801, 3⟩
/-- V_LEG_DESIGN of R277. Leg voltage for the phase-loop design, mV. -/
def P.vLegDesign : Par := ⟨0x3801, 4⟩
/-- FC_PHASE of R277. Phase-loop crossover, Hz. -/
def P.fcPhase : Par := ⟨0x3801, 5⟩
/-- FC_OUTER of R277. Outer current-loop crossover, Hz. -/
def P.fcOuter : Par := ⟨0x3801, 6⟩
/-- FC_VOLT of R277. Bus-forming voltage-loop crossover, Hz. -/
def P.fcVolt : Par := ⟨0x3801, 7⟩
/-- BANK_MODE of R277. Mode of bank 0 and bank 1. -/
def P.bankMode : Par := ⟨0x3801, 8⟩
/-- COEF of R277. Coefficients, ordered as in COEF of R276. -/
def P.coef : Par := ⟨0x3801, 9⟩
/-- D_MIN of R277. Lower duty bound per bank, Q1.30. -/
def P.dMin : Par := ⟨0x3801, 10⟩
/-- D_MAX of R277. Upper duty bound per bank, Q1.30. -/
def P.dMax : Par := ⟨0x3801, 11⟩
/-- PAIR_FUNC of R298. Pair functions of R278. -/
def P.pairFunc : Par := ⟨0x4001, 0⟩
/-- PAIR_LATCH of R298. -/
def P.pairLatch : Par := ⟨0x4001, 1⟩
/-- TPS_ASSIGN of R298. Source of SFIi. -/
def P.tpsAssign : Par := ⟨0x4001, 2⟩
/-- FBK_USE of R298. -/
def P.fbkUse : Par := ⟨0x4001, 3⟩
/-- AUX_MODE of R298. -/
def P.auxMode : Par := ⟨0x4001, 4⟩
/-- STOP_SLOPE of R298. The plat's stop slope, A/s. -/
def P.stopSlope : Par := ⟨0x4001, 5⟩
/-- I_ZERO of R298. mA. -/
def P.iZero : Par := ⟨0x4001, 6⟩
/-- T_MAX of R298. ms. -/
def P.tMax : Par := ⟨0x4001, 7⟩
/-- OPERATE_T of R298. ms. -/
def P.operateT : Par := ⟨0x4001, 8⟩
/-- V_HARD_MAX of R298. LFP 37,000. -/
def P.vHardMax : Par := ⟨0x4001, 9⟩
/-- V_HARD_MIN of R298. LFP 25,000. -/
def P.vHardMin : Par := ⟨0x4001, 10⟩
/-- SAFE_ID of R298. Telegram identifier of this module. -/
def P.safeId : Par := ⟨0x4001, 11⟩
/-- TELEGRAM_SOURCE of R298. Control telegram source; 0 means none. -/
def P.telegramSource : Par := ⟨0x4001, 12⟩
/-- TRIP_DEST of R298. Breaker status destination; 0 means none. -/
def P.tripDest : Par := ⟨0x4001, 13⟩
/-- TELEGRAM_REQUIRED of R298. -/
def P.telegramRequired : Par := ⟨0x4001, 14⟩
/-- INPUT_FILTER of R298. µs. -/
def P.inputFilter : Par := ⟨0x4001, 15⟩
/-- DISCREPANCY_T of R298. ms. -/
def P.discrepancyT : Par := ⟨0x4001, 16⟩
/-- OUT_TEST_W of R298. µs. -/
def P.outTestW : Par := ⟨0x4001, 17⟩
/-- ENV_MARGIN_ABS of R298. mA. -/
def P.envMarginAbs : Par := ⟨0x4001, 18⟩
/-- ENV_MARGIN_REL of R298. LSB 0.1 %. -/
def P.envMarginRel : Par := ⟨0x4001, 19⟩
/-- HARD_ROUNDS of R298. Rounds. -/
def P.hardRounds : Par := ⟨0x4001, 20⟩
/-- INVALID_T of R298. ms. -/
def P.invalidT : Par := ⟨0x4001, 21⟩
/-- TEMP_INVALID_T of R298. s. -/
def P.tempInvalidT : Par := ⟨0x4001, 22⟩
/-- TELEGRAM_WD of R298. ms. -/
def P.telegramWd : Par := ⟨0x4001, 23⟩
/-- TELEGRAM_TX of R298. ms. -/
def P.telegramTx : Par := ⟨0x4001, 24⟩
/-- PRECHARGE_T of R298. ms. -/
def P.prechargeT : Par := ⟨0x4001, 25⟩
/-- PRECHARGE_DV of R298. mV. -/
def P.prechargeDv : Par := ⟨0x4001, 26⟩
/-- PRECHARGE_OVERLAP of R298. ms. -/
def P.prechargeOverlap : Par := ⟨0x4001, 27⟩
/-- UNIT of R323. 0: unit A; 1: unit B. -/
def P.unit : Par := ⟨0x4801, 0⟩
/-- PEER_SERIAL of R323. Expected peer module serial; 0: any. -/
def P.peerSerial : Par := ⟨0x4801, 1⟩
/-- TWIN_REQUIRED of R323. -/
def P.twinRequired : Par := ⟨0x4801, 2⟩
/-- START_WAIT of R323. ms. -/
def P.startWait : Par := ⟨0x4801, 3⟩
/-- SWAP_MIN_INSTEP of R323. s. -/
def P.swapMinInstep : Par := ⟨0x4801, 4⟩
/-- TWIN_GRACE of R323. s. -/
def P.twinGrace : Par := ⟨0x4801, 5⟩
/-- SILENCE_T of R323. µs. -/
def P.silenceT : Par := ⟨0x4801, 6⟩
/-- JOIN_FINAL of R323. KB. -/
def P.joinFinal : Par := ⟨0x4801, 7⟩
/-- JOIN_TIMEOUT of R323. s. -/
def P.joinTimeout : Par := ⟨0x4801, 8⟩
/-- PLAUS_SAMPLES of R323. Samples. -/
def P.plausSamples : Par := ⟨0x4801, 9⟩
/-- SEAL_ADMIT of R323. KB. -/
def P.sealAdmit : Par := ⟨0x4801, 10⟩
/-- CELL_WARN of R336. LFP 500. -/
def P.cellWarn : Par := ⟨0x5001, 0⟩
/-- CELL_THROTTLE of R336. LFP 550. -/
def P.cellThrottle : Par := ⟨0x5001, 1⟩
/-- CELL_SHUTDOWN of R336. LFP 600. -/
def P.cellShutdown : Par := ⟨0x5001, 2⟩
/-- CELL_LOW_WARN of R336. LFP 50. -/
def P.cellLowWarn : Par := ⟨0x5001, 3⟩
/-- CELL_CHG_BLOCK of R336. LFP 0. -/
def P.cellChgBlock : Par := ⟨0x5001, 4⟩
/-- NTC_R25 of R336. Ω. -/
def P.ntcR25 : Par := ⟨0x5001, 5⟩
/-- NTC_BETA of R336. K. -/
def P.ntcBeta : Par := ⟨0x5001, 6⟩
/-- NTC_PULLUP of R336. Ω. -/
def P.ntcPullup : Par := ⟨0x5001, 7⟩
/-- VALVE_MODE of R336. 1: PI loop of R330. -/
def P.valveMode : Par := ⟨0x5001, 8⟩
/-- VALVE_SRC of R336. Leg mask. -/
def P.valveSrc : Par := ⟨0x5001, 9⟩
/-- VALVE_SP of R336. Start set-point. -/
def P.valveSp : Par := ⟨0x5001, 10⟩
/-- VALVE_TRAVEL of R336. Microsteps. -/
def P.valveTravel : Par := ⟨0x5001, 11⟩
/-- FAN_SRC of R336. -/
def P.fanSrc : Par := ⟨0x5001, 12⟩
/-- FAN_LEGS of R336. Leg mask. -/
def P.fanLegs : Par := ⟨0x5001, 13⟩
/-- CELL_HYST of R336. LSB 0.1 °C. -/
def P.cellHyst : Par := ⟨0x5001, 14⟩
/-- STAGE_WARN of R336. -/
def P.stageWarn : Par := ⟨0x5001, 15⟩
/-- STAGE_THROTTLE of R336. -/
def P.stageThrottle : Par := ⟨0x5001, 16⟩
/-- STAGE_SHUTDOWN of R336. -/
def P.stageShutdown : Par := ⟨0x5001, 17⟩
/-- STAGE_RESTART of R336. -/
def P.stageRestart : Par := ⟨0x5001, 18⟩
/-- STAGE_HYST of R336. LSB 0.1 °C. -/
def P.stageHyst : Par := ⟨0x5001, 19⟩
/-- AMB_WARN of R336. -/
def P.ambWarn : Par := ⟨0x5001, 20⟩
/-- DIE_WARN of R336. -/
def P.dieWarn : Par := ⟨0x5001, 21⟩
/-- DIE_THROTTLE of R336. -/
def P.dieThrottle : Par := ⟨0x5001, 22⟩
/-- VALVE_SP_MIN of R336. Object bound. -/
def P.valveSpMin : Par := ⟨0x5001, 23⟩
/-- VALVE_SP_MAX of R336. Object bound. -/
def P.valveSpMax : Par := ⟨0x5001, 24⟩
/-- VALVE_KP of R336. LSB 0.1 % of travel per K. -/
def P.valveKp : Par := ⟨0x5001, 25⟩
/-- VALVE_TI of R336. s. -/
def P.valveTi : Par := ⟨0x5001, 26⟩
/-- VALVE_PERIOD of R336. Frames. -/
def P.valvePeriod : Par := ⟨0x5001, 27⟩
/-- VALVE_FAILSAFE of R336. LSB 0.1 % of travel. -/
def P.valveFailsafe : Par := ⟨0x5001, 28⟩
/-- FAN_T_LO of R336. -/
def P.fanTLo : Par := ⟨0x5001, 29⟩
/-- FAN_T_HI of R336. -/
def P.fanTHi : Par := ⟨0x5001, 30⟩
/-- FAN_MIN of R336. LSB 0.01 %. -/
def P.fanMin : Par := ⟨0x5001, 31⟩
/-- FAN_FREQ of R336. Hz. -/
def P.fanFreq : Par := ⟨0x5001, 32⟩
/-- TACH_PPR of R336. Pulses per revolution. -/
def P.tachPpr : Par := ⟨0x5001, 33⟩
/-- TACH_MIN_RPM of R336. rpm; 0 disables. -/
def P.tachMinRpm : Par := ⟨0x5001, 34⟩
/-- TACH_MIN_DUTY of R336. LSB 0.01 %. -/
def P.tachMinDuty : Par := ⟨0x5001, 35⟩
/-- TACH_FAULT_T of R336. ms. -/
def P.tachFaultT : Par := ⟨0x5001, 36⟩
/-- AX_FITTED of R353. 0: outputs held coils off. -/
def P.axFitted : Par := ⟨0x5801, 0⟩
/-- STEPS_PER_REV of R353. Full steps per revolution. -/
def P.stepsPerRev : Par := ⟨0x5801, 1⟩
/-- MICROSTEPS of R353. Microsteps per full step. -/
def P.microsteps : Par := ⟨0x5801, 2⟩
/-- WIND_R of R353. Winding resistance, mΩ. -/
def P.windR : Par := ⟨0x5801, 3⟩
/-- WIND_L of R353. Winding inductance, µH. -/
def P.windL : Par := ⟨0x5801, 4⟩
/-- KE of R353. Back-EMF constant, µV·s/rad. -/
def P.ke : Par := ⟨0x5801, 5⟩
/-- I_RUN of R353. mA. -/
def P.iRun : Par := ⟨0x5801, 6⟩
/-- I_HOLD of R353. mA. -/
def P.iHold : Par := ⟨0x5801, 7⟩
/-- VMAX of R353. Microsteps/s. -/
def P.vmax : Par := ⟨0x5801, 8⟩
/-- ACC of R353. Microsteps/s². -/
def P.acc : Par := ⟨0x5801, 9⟩
/-- HOME_DIR of R353. 0: negative; 1: positive. -/
def P.homeDir : Par := ⟨0x5801, 10⟩
/-- AUTO_HOME of R353. -/
def P.autoHome : Par := ⟨0x5801, 11⟩
/-- DEC of R353. Microsteps/s². -/
def P.dec : Par := ⟨0x5801, 12⟩
/-- PROFILE of R353. 0: trapezoidal; 1: jerk-limited. -/
def P.profile : Par := ⟨0x5801, 13⟩
/-- JERK of R353. Microsteps/s³. -/
def P.jerk : Par := ⟨0x5801, 14⟩
/-- LIMIT_DEC of R353. Microsteps/s². -/
def P.limitDec : Par := ⟨0x5801, 15⟩
/-- HOME_SPEED of R353. Microsteps/s. -/
def P.homeSpeed : Par := ⟨0x5801, 16⟩
/-- HOME_BACKOFF of R353. Microsteps. -/
def P.homeBackoff : Par := ⟨0x5801, 17⟩
/-- HOME_OFFSET of R353. Microsteps. -/
def P.homeOffset : Par := ⟨0x5801, 18⟩
/-- HOME_MAX_TRAVEL of R353. Microsteps. -/
def P.homeMaxTravel : Par := ⟨0x5801, 19⟩
/-- HOME_POL of R353. 1: active high. -/
def P.homePol : Par := ⟨0x5801, 20⟩
/-- LIM_POL of R353. 1: active high. -/
def P.limPol : Par := ⟨0x5801, 21⟩
/-- LIMITS_FITTED of R353. [0] LIMP; [1] LIMN. -/
def P.limitsFitted : Par := ⟨0x5801, 22⟩
/-- HOLD_T of R353. ms. -/
def P.holdT : Par := ⟨0x5801, 23⟩
/-- STANDSTILL of R353. -/
def P.standstill : Par := ⟨0x5801, 24⟩
/-- POS_MIN of R353. Microsteps. -/
def P.posMin : Par := ⟨0x5801, 25⟩
/-- POS_MAX of R353. Microsteps. -/
def P.posMax : Par := ⟨0x5801, 26⟩
/-- VMOT_DIV of R353. Sense divider ratio, LSB 0.01. -/
def P.vmotDiv : Par := ⟨0x5801, 27⟩
/-- VMOT_MIN of R353. mV. -/
def P.vmotMin : Par := ⟨0x5801, 28⟩
/-- PORT_CLOCK of R376. 0: 50 MHz; 1: 100 MHz. -/
def P.portClock : Par := ⟨0x6001, 0⟩
/-- FB_MB of R376. Field Book size, MB. -/
def P.fbMb : Par := ⟨0x6001, 1⟩
/-- TREND_MB of R376. Trend log size, MB. -/
def P.trendMb : Par := ⟨0x6001, 2⟩
/-- NAND_RESERVE of R376. Replacement blocks, percent. -/
def P.nandReserve : Par := ⟨0x6001, 3⟩
/-- ERASE_SUSPENDS of R376. Suspends per erase; 0 disables suspend. -/
def P.eraseSuspends : Par := ⟨0x6001, 4⟩
/-- READ_TIMEOUT of R376. µs. -/
def P.readTimeout : Par := ⟨0x6001, 5⟩
/-- PROG_TIMEOUT of R376. ms. -/
def P.progTimeout : Par := ⟨0x6001, 6⟩
/-- ERASE_TIMEOUT of R376. ms. -/
def P.eraseTimeout : Par := ⟨0x6001, 7⟩
/-- TIME_PERIOD of R392. s. -/
def P.timePeriod : Par := ⟨0x6801, 0⟩
/-- FB_RATE of R392. Records per source per second. -/
def P.fbRate : Par := ⟨0x6801, 1⟩
/-- ERASE_AHEAD of R392. Pages. -/
def P.eraseAhead : Par := ⟨0x6801, 2⟩
/-- NAND_FLUSH of R392. ms. -/
def P.nandFlush : Par := ⟨0x6801, 3⟩
/-- IP_ADDR of R422. 0: link-local of R98. -/
def P.ipAddr : Par := ⟨0x7001, 0⟩
/-- NETMASK of R422. -/
def P.netmask : Par := ⟨0x7001, 1⟩
/-- GATEWAY of R422. 0: none. -/
def P.gateway : Par := ⟨0x7001, 2⟩
/-- SERVICE_ADDR of R422. -/
def P.serviceAddr : Par := ⟨0x7001, 3⟩
/-- VLAN_ID of R422. 0: untagged. -/
def P.vlanId : Par := ⟨0x7001, 4⟩
/-- PTP_TRANSPORT of R422. -/
def P.ptpTransport : Par := ⟨0x7001, 5⟩
/-- PTP_DOMAIN of R422. -/
def P.ptpDomain : Par := ⟨0x7001, 6⟩
/-- PTP_LAN of R422. -/
def P.ptpLan : Par := ⟨0x7001, 7⟩
/-- TG_PEER_ID of R422. Telegram identifiers; 0: entry unused. -/
def P.tgPeerId : Par := ⟨0x7001, 8⟩
/-- TG_PEER_IP of R422. Address of the matching identifier. -/
def P.tgPeerIp : Par := ⟨0x7001, 9⟩
/-- PHY_ADDR of R422. LAN A, LAN B. -/
def P.phyAddr : Par := ⟨0x7001, 10⟩
/-- LINK_SPEED of R422. Advertised: 0: 100 and 1000 Mbit/s; 1: 100 only; 2: 1000 only. -/
def P.linkSpeed : Par := ⟨0x7001, 11⟩
/-- PHY_DELAY_RX of R422. ns, per port. -/
def P.phyDelayRx : Par := ⟨0x7001, 12⟩
/-- PHY_DELAY_TX of R422. ns, per port. -/
def P.phyDelayTx : Par := ⟨0x7001, 13⟩
/-- VLAN_PRIO of R422. -/
def P.vlanPrio : Par := ⟨0x7001, 14⟩
/-- PRP_LIFE_CHECK of R422. ms. -/
def P.prpLifeCheck : Par := ⟨0x7001, 15⟩
/-- NODE_FORGET of R422. s. -/
def P.nodeForget : Par := ⟨0x7001, 16⟩
/-- PTP_FAILOVER of R422. ms. -/
def P.ptpFailover : Par := ⟨0x7001, 17⟩
/-- HOST_MAX_PER_FRAME of R422. Requests per seal. -/
def P.hostMaxPerFrame : Par := ⟨0x7001, 18⟩
/-- SUB_LEASE of R422. s. -/
def P.subLease : Par := ⟨0x7001, 19⟩
/-- PUB_BYTES of R422. Bytes. -/
def P.pubBytes : Par := ⟨0x7001, 20⟩
/-- ENABLE of R440. Start value of CAN_ENABLE. -/
def P.canEnable : Par := ⟨0x7801, 0⟩
/-- ARB_RATE of R440. Code of R423. -/
def P.canArbRate : Par := ⟨0x7801, 1⟩
/-- DATA_RATE of R440. Code of R423. -/
def P.canDataRate : Par := ⟨0x7801, 2⟩
/-- AUTO_RATE of R440. -/
def P.canAutoRate : Par := ⟨0x7801, 3⟩
/-- RATE_COUNT of R440. Entries of RATE_LIST in use. -/
def P.canRateCount : Par := ⟨0x7801, 4⟩
/-- RATE_LIST of R440. Detection pairs. -/
def P.canRateList : Par := ⟨0x7801, 5⟩
/-- TX_ORDER of R440. -/
def P.canTxOrder : Par := ⟨0x7801, 6⟩
/-- GATEWAY_TX of R440. Bit b: buffer b belongs to the gateway. -/
def P.canGatewayTx : Par := ⟨0x7801, 7⟩
/-- GATEWAY_RX of R440. -/
def P.canGatewayRx : Par := ⟨0x7801, 8⟩
/-- STATUS_ENABLE of R440. -/
def P.canStatusEnable : Par := ⟨0x7801, 9⟩
/-- STATUS_BASE_ID of R440. Extended, or 0 to 0x7FB as base. -/
def P.canStatusBaseId : Par := ⟨0x7801, 10⟩
/-- STATUS_EXT of R440. -/
def P.canStatusExt : Par := ⟨0x7801, 11⟩
/-- STATUS_PERIOD of R440. Frames. -/
def P.canStatusPeriod : Par := ⟨0x7801, 12⟩
/-- LISTEN_ONLY of R440. Never leave listen-only. -/
def P.canListenOnly : Par := ⟨0x7801, 13⟩
/-- BUS_OFF_AUTO of R440. -/
def P.canBusOffAuto : Par := ⟨0x7801, 14⟩
/-- SP_NOM of R440. Sample point, LSB 0.1 %. -/
def P.canSpNom : Par := ⟨0x7801, 15⟩
/-- SP_DATA of R440. Sample point, LSB 0.1 %. -/
def P.canSpData : Par := ⟨0x7801, 16⟩
/-- RATE_DWELL of R440. ms. -/
def P.canRateDwell : Par := ⟨0x7801, 17⟩
/-- RX_COUNT of R441. Receive entries in use. -/
def P.canMapRxCount : Par := ⟨0x7802, 0⟩
/-- RX_MAP of R441. 32 entries of 32 bytes. -/
def P.canMapRxMap : Par := ⟨0x7802, 1⟩
/-- TX_COUNT of R441. Transmit entries in use. -/
def P.canMapTxCount : Par := ⟨0x7802, 2⟩
/-- TX_MAP of R441. 16 entries of 32 bytes. -/
def P.canMapTxMap : Par := ⟨0x7802, 3⟩
/-- TRIAL_TIME of R459. s, from entry to BOOT. -/
def P.updTrialTime : Par := ⟨0x8001, 0⟩
/-- ALLOW_DOWNGRADE of R459. 1: RESULT 7 is not applied. -/
def P.updAllowDowngrade : Par := ⟨0x8001, 1⟩
/-- UPDATE_ENABLE of R459. Start value of the object. -/
def P.updUpdateEnable : Par := ⟨0x8001, 2⟩
/-- TRIAL_FRAMES of R459. Frames. -/
def P.updTrialFrames : Par := ⟨0x8001, 3⟩
/-- BIST_ALLOW_OFF of R472. 1: BIST_ENABLE may be written 0. -/
def P.bistAllowOff : Par := ⟨0x8801, 0⟩
/-- DEBUG_ALLOWED of R472. 1: debug unlock of R469 may be accepted. -/
def P.debugAllowed : Par := ⟨0x8801, 1⟩
/-- PASS_LIMIT of R472. s. -/
def P.passLimit : Par := ⟨0x8801, 2⟩

end Sys2Proof.Machine
end

