-- ==== Sys2Proof/Types.lean ====
section
/-! DEFINITION. The operand types of the commands: what a sender, a wire, a pin or a converter brings to the module. -/
namespace Sys2Proof

/-- Voltages of the two supply inputs at the event, mV (R57). -/
structure SupplyMv where
  vmain : Nat
  vback : Nat
  deriving DecidableEq, Repr

/-- Direction of the Baseline (R20). -/
inductive BaseDir
  | f2c | c2f
  deriving DecidableEq, Repr
/-- When a received flit is released (R22): at 400 ns, at 600 ns after one replay, or later. -/
inductive ReleaseAt
  | ns400 | ns600 | later
  deriving DecidableEq, Repr
/-- Regions of on-chip memory (R18, R19). -/
inductive EccRegion
  | coreSram | safetyTcm | cle (leg : Leg) | ring (leg : Leg)
  deriving DecidableEq, Repr
/-- The two exported rails (R61). -/
inductive Rail
  | vio33 | vio18
  deriving DecidableEq, Repr
/-- The six frame windows (R41). -/
abbrev Window := Fin 6
/-- What the field die latches at a frame boundary (R21 classes 0 and 2, R42): code sums and samples of the four
coulomb accumulators, frame means of MD0 to MD19 in their channel's unit, NTC codes, junction temperatures, V_MOT,
FBK levels and output read-backs. -/
structure FieldLatch where
  accSum : Vector Int 4
  accN : Vector Nat 4
  md : Vector Int 20
  ntc : Vector Nat 12
  die : Vector Int 2
  vmot : Vector Nat 4
  fbk : Nat
  readback : Nat
  deriving DecidableEq, Repr
/-- The words of one leg for one sample (R17, R237): I_SET in mA, or V_REF in mV, W_n in 0.0001 and I_OFF in mA; and
the limit set per phase, mA magnitudes. -/
structure SetPoint where
  iSet : Int
  vRef : Int
  w : Nat
  iOff : Int
  limPos : Int
  limNeg : Int
  deriving DecidableEq, Repr
/-- What a station senses of itself when a frame passes: die temperature (0.1 °C), references and VDD, bleeds sensed
conducting, eight temperatures with the age of the oldest (10 ms), and ms since its last power-up. -/
structure StationSense where
  dieT : Int := 250
  vrefA : Nat := 25000
  vrefB : Nat := 25000
  vdd : Nat := 3300
  sensed : Nat := 0
  temps : List Int := []
  age : Nat := 0
  uptime : Nat := 0
  /-- FAULTS bits found since the last frame, but bit 3 (R124). -/
  faults : Nat := 0
  deriving DecidableEq, Repr
/-- How a ring frame travels (R112, R117): leg, originating end, STAKE field, how many stations of its path it
reaches, the position on its path from which its CRC is bad, whether it repeats the last frame of its end, and what
the stations sense, by chain position from end A. -/
structure RingTx where
  leg : Leg
  fromB : Bool
  stake : Nat
  reach : Nat
  badFrom : Option Nat
  retry : Bool
  sense : List StationSense
  deriving DecidableEq, Repr
/-- How a train came back (R119): damaged command part, positions of records with a bad RCRC, whether it arrived at
the other end unturned, and the measured time from frame mark to frame mark in ns (R127). -/
structure TrainBack where
  badCommand : Bool
  badRecords : List Nat
  atOther : Bool
  rtt : Nat
  deriving DecidableEq, Repr
/-- What a sleeping station converts in one check (R166): cells and temperature points. -/
structure SleepReading where
  cells : List Nat
  temps : List Int
  deriving DecidableEq, Repr
/-- Kind of a voltage round (R139): regular, and which of the rounds 0 to 3 of a probe or natural step it is (R189). A
regular round whose T_P equals T_P,0 serves as round 0. -/
structure RoundKind where
  regular : Bool
  probe : Option (Fin 4)
  deriving DecidableEq, Repr
/-- A capture at T_P (R142): the control-path outputs before and after it of leg voltage (mV) and current (mA), where
T_P lies between them (num / den), and what the count filter has added since the last frame boundary (R175). -/
structure PlumbCap where
  v0 : Int
  v1 : Int
  i0 : Int
  i1 : Int
  num : Nat
  den : Nat
  dAcc : Int
  dN : Nat
  deriving DecidableEq, Repr
/-- The sample words of a twin (R303 class 2, R310): C_0 to C_7, PWMEN, HELD and NOT_COMPUTED by leg. -/
structure SampleWords where
  c : List Nat
  pwmen : Nat
  held : Nat
  notComputed : Nat
  deriving DecidableEq, Repr
/-- The frame words of a twin at 850 µs (R310): axis targets, fan and pump duties, LEG_STATE, MODULE_STATE. -/
structure FrameWords where
  axes : List Int
  fans : List Nat
  legs : List Nat
  mode : Nat
  deriving DecidableEq, Repr
/-- What a unit announces of itself in class 3 (R300, R303, R310, R316): role, UNIT, serial, TWIN_KEY, compatibility
class, SFO read-back, own fault declared. -/
structure TwinStatus where
  role : Nat
  unit : Nat
  serial : Nat
  key : Nat
  compat : Nat
  readback : Nat
  fault : Bool
  deriving DecidableEq, Repr
/-- A further entry of a seal bundle (R306): TYPE, SOURCE, receive stamp, data. -/
structure SealEntry where
  typ : Nat
  source : Nat
  stamp : Nat
  data : List Byte
  deriving DecidableEq, Repr
/-- What the probe of a store port in BOOT finds (R355): kind (0 absent, 1 NOR, 2 NAND), capacity in MB, and the blocks
that carry a factory bad-block mark. -/
structure PortProbe where
  kind : Nat
  mb : Nat
  bad : List Nat
  deriving DecidableEq, Repr
/-- A CAN frame (R423, R424). -/
structure CanFrame where
  ide : Bool
  fd : Bool
  brs : Bool
  id : Nat
  data : List Byte
  deriving DecidableEq, Repr
/-- A host request as received (R407): the header fields, the payload and the MAC, where it came from, its receive
stamp, and whether it came in the active unit's seal bundle (R306). -/
structure HostReq where
  version : Nat
  flags : Nat
  keyId : Nat
  len : Nat
  epoch : Nat
  nonce : Nat
  tag : Nat
  payload : List Byte
  mac : List Byte
  ip : Nat
  port : Nat
  stamp : Nat
  forwarded : Bool
  deriving DecidableEq, Repr
/-- A PTP Announce (R402): port, domain, the sender's clockIdentity and port number, and its dataset. -/
structure Announce where
  lan : Nat
  domain : Nat
  identity : List Byte
  prio1 : Nat
  clockClass : Nat
  accuracy : Nat
  variance : Nat
  prio2 : Nat
  grandmaster : List Byte
  steps : Nat
  deriving DecidableEq, Repr
/-- What an Ethernet frame carries, as far as R396 to R399 sort it. -/
inductive EthKind
  | ptp
  | arp
  | icmp
  | udp (port : Nat) (fragment : Bool)
  | other
  deriving DecidableEq, Repr
/-- An Ethernet frame as received: source MAC, VLAN identifier, the SeqNr and LanId of a valid PRP trailer, kind, and
whether the FCS and the RGMII were clean (R396, R399, R421). -/
structure EthFrame where
  src : Nat
  vlan : Option Nat
  prp : Option (Nat × Nat)
  kind : EthKind
  good : Bool
  deriving DecidableEq, Repr
/-- What a poll of a PHY reads (R394): present, link, auto-negotiation complete, speed code. -/
structure PhyRead where
  present : Bool
  link : Bool
  aneg : Bool
  speed : Nat
  deriving DecidableEq, Repr
/-- The JEDEC ID as it is read and as its one retry reads it (R84). -/
structure JedecTry where
  first : Nat
  again : Nat
  deriving DecidableEq, Repr
/-- What a station's receive pair has done for 5 ms without a qualified tone (R114, R132): which pair, and whether frames still came on it. -/
structure ToneGap where
  up : Bool
  frames : Bool
  deriving DecidableEq, Repr
/-- A read of the plat flash (R84): whether it returned no data, and whether its one retry returned none either. -/
structure ReadTry where
  failed : Bool
  retryFailed : Bool
  deriving DecidableEq, Repr
/-- A function whose drain a host write began and whose completion has no event of its own besides this one (R49). -/
inductive DrainFn
  | leg (leg : Leg)
  | probe (pair : Fin 2)
  | balancing (leg : Leg)
  | axis (ax : Fin 4)
  | can (c : Fin 4)
  | dma (ch : Fin 16)
  | update
  | bist
  deriving DecidableEq, Repr

end Sys2Proof
end

