-- ==== Sys2Proof/Machine/Parts.lean ====
section
/-! DEFINITION. The parts of the state: every register, queue, buffer, counter, mode and pin the spec gives the module,
grouped by unit. A field's docstring gives its name in the spec, its width and its rule; its default is its value after
reset (logs 20 to 24). -/
namespace Sys2Proof.Machine

/-- The module states of R10, in the order of MODULE_STATE (R80). -/
inductive Mode
  | off | boot | plat | load | staking | surveyed | armed | running | stopping | laidUp | faultHold
  deriving DecidableEq, Repr
/-- The twin roles of R11. -/
inductive Role
  | active | standby | estranged
  deriving DecidableEq, Repr

/-- Supply selection and rails (R57 to R61, R80). -/
structure Supply where
  /-- VMAIN_MV (u16, R80): VMAIN in mV. -/
  vmain : Nat := 0
  /-- VBACK_MV (u16, R80): VBACK in mV. -/
  vback : Nat := 0
  /-- SEL (2 bits, R58, R80): 0 VMAIN, 1 VBACK, 2 higher input. -/
  sel : Nat := 0
  /-- SUPPLY_LOW (1 bit, R58). -/
  low : Bool := false
  /-- SWITCHED (1 bit, R60). -/
  switched : Bool := false
  /-- SWITCHOVER_COUNT (u32, R60, R80): transfers since manufacture. -/
  switchCount : Nat := 0
  /-- VIO33_OUT switched on (1 bit, R61). -/
  rail33 : Bool := false
  /-- VIO18_OUT switched on (1 bit, R61, R76). -/
  rail18 : Bool := false
  /-- VIO33_OVL (1 bit, R61). -/
  ovl33 : Bool := false
  /-- VIO18_OVL (1 bit, R61). -/
  ovl18 : Bool := false
  /-- REFCLK lost, the reset held until it returns (1 bit, R481). -/
  refclkLost : Bool := false
  deriving DecidableEq, Repr

/-- The RESETREQ_N monitor of the always-on domain (R69, R70). -/
structure ResetReq where
  /-- RESETREQ_N reads high (1 bit, R69). -/
  high : Bool := false
  /-- Armed (1 bit, R69). -/
  armed : Bool := false
  /-- An armed monitor has seen a falling edge and counts its 20 ms (1 bit, R69). -/
  qualifying : Bool := false
  /-- A stuck episode that needs 100 ms high before it re-arms (1 bit, R70). -/
  episode : Bool := false
  /-- RESETREQ_STUCK (1 bit, R70, R80). -/
  stuck : Bool := false
  /-- The record of the stuck episode waits for the Field Book (1 bit, R70). -/
  recordDue : Bool := false
  deriving DecidableEq, Repr

/-- The retained memory of the always-on domain (R77, 256 bytes) that the next start reads. -/
structure Retained where
  /-- The wake cause latched for the next start (8 bits, R77, R80). -/
  wake : Nat := 0
  /-- A die shutdown to be recorded: which die, its temperature and its stamp (R329, R384). -/
  dieShutdown : Option (Nat × Int × Nat) := none
  /-- The die shutdown still holds both dies in reset (R329). -/
  dieHold : Bool := false
  /-- DIE_RESTART is due at the next start (1 bit, R329). -/
  dieRestart : Bool := false
  /-- Queued records lost in last-gasp, counted at the next replay (u32, R387). -/
  lostRecords : Nat := 0
  /-- Last-gasp work was cut by a brown-out (1 bit, R66). -/
  lastGaspCut : Bool := false
  /-- A brown-out reset has come, for RESET_CAUSE of the next start (R68). -/
  brownOut : Bool := false
  /-- The end code of a trial (R455), 0 for none. -/
  trialEnd : Nat := 0
  /-- LAYUP_TIMER and WAKE_ON_SUPPLY as the always-on domain holds them in LAID-UP (R77, R78, R81). -/
  timer : Nat := 0
  wakeOnSupply : Bool := false
  /-- Supply transfers made while only the always-on domain ran, oldest first: SEL, VMAIN and VBACK in mV (R60, R77). -/
  transfers : List (Nat × Nat × Nat) := []
  deriving DecidableEq, Repr

/-- One-time-programmable fuses (R98, R395, R408, R446, R468). -/
structure Fuses where
  /-- The module serial number (u32, R98). -/
  serial : Nat := 0
  /-- Lifecycle state: 0 MANUFACTURE, 1 PROVISION, 2 FIELD, 3 RETIRED (R468). -/
  lifecycle : Nat := 1
  /-- Host key slots: role and 256-bit key, where programmed, and their revoke fuses (R408). -/
  hostKeys : Vector (Option (Nat × List Byte)) 8 := Vector.replicate 8 none
  hostRevoked : Vector Bool 8 := Vector.replicate 8 false
  /-- Ed25519 public update keys, where programmed, and their revoke fuses (R446). -/
  updateKeys : Vector (Option (List Byte)) 4 := Vector.replicate 4 none
  updateRevoked : Vector Bool 4 := Vector.replicate 4 false
  /-- MAC address (48 bits, R395). -/
  mac : Nat := 0
  deriving DecidableEq, Repr

/-- The laid-up sequence of R76: step 1 to 5 in progress, or 0. -/
structure Layup where
  /-- COMMAND LAY_UP has been accepted; the sequence begins at the next frame boundary (R76). -/
  due : Bool := false
  /-- Step of R76 in progress (0: none). -/
  step : Nat := 0
  /-- SET_SLEEP_THRESHOLDS echoes still awaited, as leg × 24 + stake − 1 (R165). -/
  awaiting : List Nat := []
  /-- LAYUP_TIMER (u16, hours, R80). -/
  timer : Nat := 0
  deriving DecidableEq, Repr

/-- Facts of the present start (R67 to R75). -/
structure Start where
  /-- Image version (u32) and twin compatibility class of the running image (R299, R444). -/
  imageVersion : Nat := 0
  twinClass : Nat := 0
  /-- RESET_CAUSE (10 bits, R68, R80) without RESETREQ_STUCK, which the monitor holds. -/
  cause : Nat := 0
  /-- WAKE_CAUSE (8 bits, R80). -/
  wakeCause : Nat := 0
  /-- Transfers taken over from retained memory whose records wait for the Field Book (R60, R77). -/
  transfers : List (Nat × Nat × Nat) := []
  /-- POWER_CYCLES (24 bits, R67). -/
  powerCycles : Nat := 0
  /-- Last-gasp in progress (R62). -/
  lastGasp : Bool := false
  /-- The Field Book was open and STAKING passed when last-gasp began; kept for its flush (R66). -/
  lastGaspFrom : Mode := .off
  /-- An image slot has been verified and runs (R445). -/
  imageOk : Bool := false
  /-- Both image slots fail verification (R71). -/
  noImage : Bool := false
  /-- Failed targets of the start-up BIST (5 bits, R460). -/
  bistFailed : Nat := 0
  /-- Start-up BIST has passed (R297 SAFETY_HEALTHY, R460). -/
  bistPassed : Bool := false
  /-- The reduced FAULT-HOLD of R461 or R97: engines not loaded. -/
  reduced : Bool := false
  /-- State whose limit of R75 expired, for the record (R75). -/
  limitExpired : Option Mode := none
  /-- The first temperature and housekeeping round has completed, per leg (R74). -/
  firstTemps : Vector Bool 4 := Vector.replicate 4 false
  /-- The first closure check has passed, per leg (R74). -/
  firstClosure : Vector Bool 4 := Vector.replicate 4 false
  /-- The offset calibration of the start is complete, per leg (R74, R177). -/
  offsetsDone : Vector Bool 4 := Vector.replicate 4 false
  /-- Learned values have been read (R74, R222). -/
  learnedRead : Bool := false
  /-- WAKE_OUT (pin, R73, R76). -/
  wakeOut : Bool := false
  /-- OP_TIME in ms at entry to BOOT (R453). -/
  opAtBoot : Nat := 0
  /-- The sampling phase of each sigma-delta input (R482): 16 while untrained, 17 where training failed. -/
  mckPhase : Vector Nat 20 := Vector.replicate 20 16
  deriving DecidableEq, Repr

/-- A plat header as read (R85). -/
structure PlatHeader where
  serial : Nat
  bodyLen : Nat
  recordCount : Nat
  noFallback : Bool
  quad : Bool
  imageMin : Nat
  flosor : Nat
  created : Nat
  tag : List Byte
  safetyCrc : Nat
  bodyHash : List Byte
  deriving DecidableEq, Repr

/-- The plat: flash, copies, the accepted body and the plat objects (R82 to R106). -/
structure Plat where
  /-- The plat flash of port P (4 MB, R83), unlisted bytes erased (0xFF). -/
  flash : List Host.Cell := []
  /-- The command that port P read the last body with: 0x6B in quad mode at 50 MHz, 0x03 at 25 MHz; 0: none yet (R84). -/
  bodyCommand : Nat := 0
  /-- The SERIAL of each flash copy whose header is a plat header, accepted or not: results 0, 5 and 6 of R96 (R100). -/
  serials : Vector (Option Nat) 2 := Vector.replicate 2 none
  /-- Headers that passed R94, copy A then copy B. -/
  headers : Vector (Option PlatHeader) 2 := Vector.replicate 2 none
  /-- Candidates still to be read, in the order of R95. -/
  candidates : List Nat := []
  /-- RESULT_A and RESULT_B (4 bits each, R105). -/
  result : Vector Nat 2 := Vector.replicate 2 1
  /-- PLAT_FAIL_TYPE (u16, R105, R506). -/
  failType : Nat := 0
  /-- PLAT_SKIPPED (u16, R93, R105). -/
  skipped : Nat := 0
  /-- COPY (2 bits, R105): 0 A, 1 B, 2 none. -/
  copy : Nat := 2
  /-- RECOVERY (R97). -/
  recovery : Bool := false
  /-- FALLBACK (R95). -/
  fallback : Bool := false
  /-- SERIAL_CLASH (R95). -/
  clash : Bool := false
  /-- INSTALL_FAIL (R101). -/
  installFail : Bool := false
  /-- INSTALLED (R101). -/
  installed : Bool := false
  /-- The accepted header (PLAT_SERIAL, PLAT_HASH, PLAT_SAFETY_CRC, PLAT_TAG, FLOSOR_VERSION, R105). -/
  header : Option PlatHeader := none
  /-- The records of the accepted body (R90). -/
  recs : List PlatRec := []
  /-- RESULT of STAGE_STATUS (4 bits, R105). -/
  stage : Nat := 1
  deriving DecidableEq, Repr

/-- The sample grid and its sources (R32 to R40). -/
structure Grid where
  /-- Switching frequency code: 0 to 4 for 16, 20, 25, 32 and 40 kHz (R33). -/
  freq : Nat := 1
  /-- SYNC_SRC (2 bits, R36, R56). -/
  source : Nat := 2
  /-- Field cycles still to shift, positive to lengthen (R39). -/
  slew : Int := 0
  /-- Sample index within the frame, 0 to N − 1 (R33). -/
  sample : Nat := 0
  /-- Field-timebase cycles (200 MHz) from the start to the present sample's beginning (R32, R33). -/
  cycles : Nat := 0
  /-- Meridian at the beginning of the present sample (64 bits, R35). -/
  stamp : Nat := 0
  /-- Frame and sample of the last sample latch, and its stamp by the field die's copy (64 bits, R34, R35). -/
  latched : Option (Nat × Nat) := none
  latchStamp : Nat := 0
  /-- Switching frequency code and SYNC_PHASE of the accepted plat, in force from the next frame boundary (R33, R38). -/
  due : Option (Nat × Nat) := none
  /-- The last good SYNCIN period less the nominal one, in field cycles, that the grid goes on with (R37). -/
  syncinDev : Int := 0
  /-- SYNC_PHASE (u16, R38, R56). -/
  phase : Nat := 0
  /-- The phase offset in force, in field cycles (R38). -/
  phaseCycles : Nat := 0
  /-- SYNCIN_ENABLE (u8, R56). -/
  syncinEnable : Bool := false
  /-- SYNCIN enabled in the plat (R36). -/
  syncinPlat : Bool := false
  /-- SYNCOUT mode: 0 samples, 1 frames, 2 low (R40). -/
  syncoutMode : Nat := 0
  /-- Bounds of SYNC_PHASE (R38, R103). -/
  phaseMin : Nat := 0
  phaseMax : Nat := 3599
  /-- Stamp of the last SYNCIN rising edge (R37). -/
  syncinLast : Option Nat := none
  /-- Consecutive SYNCIN periods within 1 % (R37). -/
  syncinGood : Nat := 0
  /-- Consecutive SYNCIN periods outside 1 % (R37). -/
  syncinBad : Nat := 0
  /-- SYNCIN_VALID (R37, R56). -/
  syncinValid : Bool := false
  /-- Pulses given on SYNCOUT in this start, modulo 2^32 (R40). -/
  syncoutPulses : Nat := 0
  deriving DecidableEq, Repr

/-- The Meridian and its discipline (R51 to R56, R402). -/
structure TimeBase where
  /-- The Meridian counter (64 bits, LSB 4 ns, R51). -/
  meridian : Nat := 0
  /-- The signed 32-bit fractional rate correction in units of 2^−32, within ±200 ppm (R51). -/
  rate : Int := 0
  /-- Fraction of a Meridian tick at the beginning of the present sample, in units of 2^−32 (R51). -/
  frac : Nat := 0
  /-- The field die's copy of the Meridian as last realigned (64 bits, R34). -/
  fieldCopy : Nat := 0
  /-- What the Meridian read at that realignment; the copy counts on from there (R34). -/
  copyAt : Nat := 0
  /-- FRAME_NUMBER (u32, R35, R56). -/
  frame : Nat := 0
  /-- FRAME_STAMP (u64, R35, R56). -/
  frameStamp : Nat := 0
  /-- TAI (R52, R56). -/
  tai : Bool := false
  /-- STEPPED (R52, R56). -/
  stepped : Bool := false
  /-- PTP_LOCKED (R52, R56). -/
  locked : Bool := false
  /-- HOLDOVER (R53, R56). -/
  holdover : Bool := false
  /-- Consecutive Sync intervals with the offset within ±1 µs (R52). -/
  inLock : Nat := 0
  /-- PTP_OFFSET (i32, ns, R56). -/
  offset : Int := 0
  /-- PPS_OUT pulses given in this start (R54). -/
  ppsOut : Nat := 0
  /-- PPS_IN_STAMP (u64, R54, R56). -/
  ppsIn : Nat := 0
  deriving DecidableEq, Repr

/-- Frame windows and overruns (R41 to R46, R56). -/
structure Windows where
  /-- OVERRUN_W0 to OVERRUN_W5 (u32 each, R44, R56). -/
  count : Vector Nat 6 := Vector.replicate 6 0
  /-- Frames since the last overrun of each window, saturating (R44). -/
  since : Vector Nat 6 := Vector.replicate 6 10
  /-- A window has overrun in the frame in progress (R44). -/
  now : Vector Bool 6 := Vector.replicate 6 false
  /-- OVERRUN (R56). -/
  any : Bool := false
  /-- SAFETY_OVERRUN (R56). -/
  safety : Bool := false
  /-- Consecutive frames with a safety-window overrun (R45). -/
  safetyRun : Nat := 0
  /-- The safety pair runs only the stop evaluation and the envelope monitoring (R45). -/
  stopOnly : Bool := false
  /-- EST_FROZEN (R46, R56). -/
  frozen : Bool := false
  /-- Consecutive frames in which W2 overran (R46). -/
  w2Run : Nat := 0
  /-- W2 of the frame in progress has completed (R46, R308). -/
  w2Done : Bool := false
  deriving DecidableEq, Repr

/-- Values latched at a frame boundary (R21 classes 0 and 2, R42): as the field die holds them, and as the core die has
sealed them. -/
structure Latched where
  /-- Leg-shunt currents of MD(4n + 2), mA (R292). -/
  legMa : Vector Int 4 := Vector.replicate 4 0
  /-- Frame means of the sigma-delta inputs MD0 to MD19, in their channel's unit (R21, R230). -/
  md : Vector Int 20 := Vector.replicate 20 0
  /-- NTC0 to NTC11 conversions (12 bits, R324). -/
  ntc : Vector Nat 12 := Vector.replicate 12 2048
  /-- Junction temperatures of the field and core die, 0.1 °C (R324). -/
  die : Vector Int 2 := Vector.replicate 2 250
  /-- V_MOT sense codes of AX0 to AX3, mV (R348). -/
  vmot : Vector Nat 4 := Vector.replicate 4 0
  /-- Tach edges counted in the frame (R333). -/
  tach : Vector Nat 4 := Vector.replicate 4 0
  /-- ACC_n (i64) and N_n (u64) of the four legs, modulo 2^64 (R175). -/
  acc : Vector Int 4 := Vector.replicate 4 0
  n : Vector Nat 4 := Vector.replicate 4 0
  deriving DecidableEq, Repr

/-- What a Baseline flit carries (R21). Class 0: the permit's bytes and the safety image; class 1: a set-point of one leg,
and the field die's copy of an engine's codes and compare values; class 2: the measurement bundle and the output bundle;
class 3: a train, and a frame for a ring port; class 4: an engine's microcode and banks. -/
inductive Payload
  | bytes (bs : List Byte)
  | image (sfi fbk readback : Nat)
  | setPoint (leg : Leg) (frame sample : Nat) (sp : SetPoint)
  | sampleCopy (leg : Leg) (codes : Vector Int 20) (a b : Nat)
  | bundle (x : Latched)
  | outputs (axes : List Int) (fans : Vector Nat 4)
  | train (leg : Leg) (serial : Nat)
  | ringFrame (leg : Leg) (fromB : Bool) (cmd : Nat) (payload : List Byte)
  | microcode (leg : Leg)
  deriving DecidableEq, Repr
/-- A Baseline flit: class and type, sequence, acknowledgement, NAK, tag, payload (R20). -/
structure Flit where
  cls : Nat
  typ : Nat
  seq : Nat
  ack : Nat
  nak : Bool
  tag : Nat
  payload : Payload
  deriving DecidableEq, Repr

/-- One direction of a flit link: the sender's and the receiver's side (R20 to R22, R303, R304). SEQ of the first flit
after a reset (0) and the ACK before any flit has come in order (255) are the model's: DESIGN CHOICE (log 264). -/
structure LinkDir where
  /-- Flits waiting to be sent, by class then age (R21). -/
  pending : List Flit := []
  /-- The replay buffer, 16 flits, oldest first (R22). -/
  replay : List Flit := []
  /-- Flits of a replay still to be sent (R22). -/
  replaying : List Flit := []
  /-- Sequence number of the next new flit (8 bits, R20). -/
  nextSeq : Nat := 0
  /-- Sequence number of the last flit received in order (8 bits, R20). -/
  lastRx : Nat := 255
  /-- The receiver discards until the named replay arrives, and its next flit carries NAK (R22). -/
  nakDue : Bool := false
  /-- The receiver is discarding after a CRC failure (R22). -/
  discarding : Bool := false
  /-- Flits received and not yet released (R22). -/
  received : List Flit := []
  /-- The last flit put on the lanes (80 ns each, R21). -/
  onWire : Option Flit := none
  /-- Flits sent in this start, modulo 2^32 (R21). -/
  sent : Nat := 0
  deriving DecidableEq, Repr

/-- The Baseline (R20 to R27). -/
structure Baseline where
  /-- Field to core. -/
  f2c : LinkDir := {}
  /-- Core to field. -/
  c2f : LinkDir := {}
  /-- LANE_F2C (4 bits, R23). -/
  laneF2c : Nat := 0
  /-- LANE_C2F (4 bits, R23). -/
  laneC2f : Nat := 0
  /-- AUTONOMY (R23, R25). -/
  autonomy : Bool := false
  /-- LOST (R23). -/
  lost : Bool := false
  /-- The last flit of a direction was released later than 600 ns (R23 UP). -/
  lateNow : Bool := false
  /-- Loss supervision is armed (R24). -/
  supervised : Bool := false
  /-- BASELINE_CRC_ERRORS (u32, R23). -/
  crcErrors : Nat := 0
  /-- BASELINE_REPLAYS (u32, R23). -/
  replays : Nat := 0
  /-- BASELINE_LATE (u32, R23). -/
  late : Nat := 0
  /-- The core die has declared the loss and uses no field data until reset (R26). -/
  coreLost : Bool := false
  /-- The field die has declared the loss (R25). -/
  fieldLost : Bool := false
  /-- The field die's autonomous ramp is running (R25). -/
  ramping : Bool := false
  /-- Leg currents at the field die's declaration, mA (R25, R292). -/
  i0 : Vector Int 4 := Vector.replicate 4 0
  /-- Frames since the field die's declaration (R25). -/
  frames : Nat := 0
  /-- Consecutive frame boundaries with every leg below I_ZERO (R25). -/
  zeroRun : Nat := 0
  /-- Engine firmware loaded over class 4 (R75, R273). -/
  enginesLoaded : Bool := false
  /-- Engines whose microcode and banks have been released (4 bits, R21 class 4). -/
  engineMask : Nat := 0
  /-- Set-points of W4 not yet handed to class 1: each goes one sample ahead (R17). -/
  ahead : List Flit := []
  /-- What the core die has been given since its last seal: image, bundle, trains (R28). -/
  inbox : List Payload := []
  /-- Corrected single-bit errors of on-chip memory (R19). -/
  eccCorrected : Nat := 0
  deriving DecidableEq, Repr

/-- A Field Book record as formed (R378, R381). -/
structure FbRecord where
  type : Nat
  code : Nat
  source : Nat
  index : Nat
  a : Int
  b : Int
  ext : List Byte
  /-- FLAGS [3:0]: TAI, QUEUED, DEFERRED, LAST_GASP. -/
  flags : Nat
  stamp : Nat
  powerCycles : Nat
  seq : Nat
  /-- Operating time of the stamp, in ms (R382). -/
  opMs : Nat
  role : Role
  mode : Mode
  frameLo : Nat
  deriving DecidableEq, Repr

/-- The Field Book (R377 to R392). -/
structure FieldBook where
  /-- The on-chip queue of formed records, oldest first, 256 at most (R383). -/
  queue : List FbRecord := []
  /-- Records formed in the frame in progress, put into R55 order at its W5 (R383). -/
  forming : List FbRecord := []
  /-- OPEN (R391). -/
  isOpen : Bool := false
  /-- REPLAYED (R391). -/
  replayed : Bool := false
  /-- REFORMATTED (R388, R391). -/
  reformatted : Bool := false
  /-- QUEUE_FULL (R383, R391). -/
  queueFull : Bool := false
  /-- WRITE_HALTED (R386, R391). -/
  writeHalted : Bool := false
  /-- CLOSED (R387, R391). -/
  closed : Bool := false
  /-- Logical page of the write point (R377, R384). -/
  page : Nat := 14336
  /-- Byte offset of the write point in its page; 0: the page is not opened yet (R377). -/
  offset : Nat := 0
  /-- PAGE_SEQ of the page at the write point (u32, R377). -/
  pageSeq : Nat := 1
  /-- FB_MB in force: of the plat, or in recovery as R384 finds it. -/
  mb : Nat := 64
  /-- Pages erased ahead of the write point (R385). -/
  erasedAhead : Nat := 0
  /-- The page the next erase of channel 12 begins at (R385). -/
  erasePage : Nat := 14336
  /-- Ring pages whose erase has failed twice, which the writer skips (R386). -/
  skip : List Nat := []
  /-- Bytes of the record in programming, still without its mark (R379). -/
  inProgram : Option (List Byte) := none
  /-- The body of the record is programmed and its MARK is being programmed (R379). -/
  marking : Bool := false
  /-- The record in programming has failed once (R386). -/
  retried : Bool := false
  /-- The NAND page buffer: whole records not yet programmed (R380). -/
  nandBuffer : List Byte := []
  /-- FB_OLDEST (u32 cursor, R391). -/
  oldest : Nat := 14336 * 4096 + 16
  /-- FB_RECORDS (u32, R391). -/
  records : Nat := 0
  /-- FB_DROPPED (u32, R391). -/
  dropped : Nat := 0
  /-- FB_SUPPRESSED (u32, R391). -/
  suppressed : Nat := 0
  /-- FB_CORRUPT (u32, R391). -/
  corrupt : Nat := 0
  /-- SRC_SEQ of each source that has formed a record (8 bits each, R378). -/
  srcSeq : List (Nat × Nat) := []
  /-- Records formed and withheld in the Meridian second in progress, by source (R383). -/
  rate : List (Nat × (Nat × Nat)) := []
  /-- The Meridian second that `rate` counts (R383). -/
  second : Nat := 0
  /-- Operating time from manufacture, in ms (R382). -/
  opMs : Nat := 0
  deriving DecidableEq, Repr

/-- A safety input channel (R278 to R282). -/
structure SafetyInput where
  /-- Raw level of SFIn (R279). -/
  level : Bool := false
  /-- Filtered level of SFIn, SFI_LEVEL (R279, R297). -/
  filtered : Bool := false
  /-- Level 100 µs before the pulse start in progress (R282). -/
  before : Bool := false
  deriving DecidableEq, Repr
/-- A safety input pair (R278 to R282, PAIR_STATUS of R297). -/
structure SafetyPair where
  discrepancy : Bool := false
  crossShort : Bool := false
  testFail : Bool := false
  latched : Bool := false
  /-- Consecutive test cycles passed with both channels high (R282). -/
  goodCycles : Nat := 0
  /-- The cycle in progress has seen a failed check or a low channel (R282). -/
  cycleBad : Bool := false
  deriving DecidableEq, Repr
/-- A safety output channel (R283 to R286, OUT_TEST of R297). -/
structure SafetyOutput where
  /-- Driven on by the field die (R289). -/
  driven : Bool := false
  /-- Read-back at the output driver (R285). -/
  readback : Bool := false
  stuckOn : Bool := false
  stuckOff : Bool := false
  diagFault : Bool := false
  lastGood : Bool := false
  /-- Intervals without a good test (4 bits, R286, R297). -/
  missed : Nat := 0
  /-- TEST_GOOD (u32, R297). -/
  good : Nat := 0
  /-- A good test fell in the interval in progress (R286). -/
  goodNow : Bool := false
  /-- The slot was skipped and is rescheduled (R286). -/
  skipped : Bool := false
  deriving DecidableEq, Repr
/-- Group state codes of CONTACTOR_STATUS (R297). -/
inductive GroupSt
  | opened | closing | closed | opening | welded | failedToClose | dropped | fbkDiscrepancy | unused
  deriving DecidableEq, Repr
/-- A contactor group (R283, R284, R287). -/
structure Group where
  /-- Commanded on (R284). -/
  on : Bool := false
  /-- State code (R297). -/
  st : GroupSt := .opened
  /-- Frames since the last change of command, 2 and more as 2 (R286). -/
  age : Nat := 2
  /-- The operate time of the last command is running (R287). -/
  operating : Bool := false
  /-- The extra operate time after PEER_HOLD of R317 is running. -/
  peerHold : Bool := false
  deriving DecidableEq, Repr
/-- A telegram copy waiting for its pair (R406). -/
structure TelegramCopy where
  lan : Nat
  stamp : Nat
  body : List Byte
  /-- Completely received before the last seal instant (R42). -/
  sealed : Bool := false
  deriving DecidableEq, Repr

/-- An entry of the safety pair's mailbox (R16): kind (0 a cell, 1 a temperature point), index, value, a flag or a stamp, and
the entry's own CRC-32. -/
structure MailEntry where
  kind : Nat
  index : Nat
  value : Int
  extra : Nat
  crc : Nat
  deriving DecidableEq, Repr
/-- The safety functions (R278 to R298). -/
structure Safety where
  input : Vector SafetyInput 16 := Vector.replicate 16 {}
  pair : Vector SafetyPair 8 := Vector.replicate 8 {}
  output : Vector SafetyOutput 8 := Vector.replicate 8 {}
  group : Vector Group 4 := Vector.replicate 4 {}
  /-- FBK0 to FBK7 levels (8 bits, R297): 1 means the contactor is open. -/
  fbk : Nat := 0xFF
  /-- The safety image latched at the last frame boundary: filtered inputs, feedback, read-back (R21). -/
  imgSfi : Nat := 0
  imgFbk : Nat := 0xFF
  imgReadback : Nat := 0
  /-- TPS0 to TPS3 driven high (R281). -/
  tps : Vector Bool 4 := Vector.replicate 4 false
  /-- SEQ_STEP (4 bits, R284, R297). -/
  seqStep : Nat := 0
  /-- Frames in the sequence step in progress (R284). -/
  stepFrames : Nat := 0
  /-- V_bus (MD16) of the last 20 frame boundaries, newest first, mV (R284). -/
  busHistory : List Int := []
  /-- Dark test in its window: channel, and whether its off-check passed (R285). -/
  dark : Option (Nat × Option Bool) := none
  /-- The channel under test was commanded on at the start of its window (R285, R286). -/
  darkOn : Bool := false
  /-- SFO_CMD of the last fresh permit at the field die (8 bits, R289). -/
  fieldCmd : Nat := 0
  /-- Channel named for a dark test from the next boundary (R285, TEST of R289). -/
  darkNext : Option Nat := none
  /-- MODULE_STATE at the last frame boundary, and at the one before (R286). -/
  modeNow : Mode := .off
  modePrev : Mode := .off
  /-- The last permit frame (56 bytes, R289). -/
  permit : List Byte := []
  /-- The field die holds a fresh permit (R289). -/
  fresh : Bool := false
  /-- PERMIT_TIMEOUT (R290, R297). -/
  permitTimeout : Bool := false
  /-- LOCKSTEP_FAULT (R290, R297). -/
  lockstep : Bool := false
  /-- FORCEOFF_N low (R289, R316). -/
  forceoff : Bool := false
  /-- The field die's LEG_PWM permission in force, per leg (R289). -/
  legPwm : Vector Bool 4 := Vector.replicate 4 false
  /-- Legs whose LEG_PWM bit is cleared because they left the envelope (R292). -/
  outOfEnvelope : Vector Bool 4 := Vector.replicate 4 false
  /-- STOP_ACTIVE and STOP_CAT (R292, R297): 0 none, 1 category 0, 2 category 1, 3 orderly. -/
  stopCat : Nat := 0
  /-- The stop in progress has a latching cause (R291). -/
  stopLatching : Bool := false
  /-- Frame boundaries since the demanding frame's boundary (R292). -/
  stopFrames : Nat := 0
  /-- I0_n, mA (R292). -/
  i0 : Vector Int 4 := Vector.replicate 4 0
  /-- Consecutive boundaries at which every leg read below I_ZERO (R292). -/
  zeroRun : Nat := 0
  /-- The contactors have been opened by the stop in progress (R292). -/
  opened : Bool := false
  /-- STOP_CAUSE (u32, R297). -/
  stopCause : Nat := 0
  /-- Causes latched until RELEASE (R291). -/
  latched : Nat := 0
  /-- Causes active at the last W1 (R291). -/
  activeCauses : Nat := 0
  /-- FIRST_CAUSE (u8, R297). -/
  firstCause : Nat := 0
  /-- STOP_STAMP (u64, R297). -/
  stopStamp : Nat := 0
  /-- CHARGE_INHIBIT and DISCHARGE_INHIBIT of the latest telegram (R288, R294). -/
  tgChargeInhibit : Bool := false
  tgDischargeInhibit : Bool := false
  /-- Stop bits of the latest accepted telegram: STOP0, STOP1 (R294). -/
  tgStop : Nat := 0
  /-- Last accepted SEQ, where one has been accepted (u32, R294). -/
  tgSeq : Option Nat := none
  /-- Copies waiting for their pair (R406). -/
  tgCopies : List TelegramCopy := []
  /-- TELEGRAM_RX (u32, R297). -/
  tgRx : Nat := 0
  /-- TELEGRAM_WD (R294, R297). -/
  tgWd : Bool := false
  /-- TELEGRAM_DEGRADED (R297). -/
  tgDegraded : Bool := false
  /-- SEQ of the module's own status telegrams (u32, R404). -/
  tgTxSeq : Nat := 0
  /-- Status telegrams sent, newest last: destination and bytes (R294). -/
  tgSent : List (Nat × List Byte) := []
  /-- BREAKER_TRIP_REQ (R287, R297). -/
  tripReq : Bool := false
  /-- Consecutive rounds with a cell at a hard limit, by global cell index (R293). -/
  hardRun : List (Nat × Nat) := []
  /-- Consecutive readings at the shutdown temperature and the stamp of the last, by temperature index (R293). -/
  hotRun : List (Nat × Nat × Nat) := []
  /-- Causes 6 and 8 as judged in the last W1 (R293). -/
  hardNow : Bool := false
  hotNow : Bool := false
  /-- The mailbox through which the other engines pass data to the safety pair (R16). -/
  mail : List MailEntry := []
  /-- Cells INVALID for INVALID_T, and stations with every point invalid for TEMP_INVALID_T (R291). -/
  cellInvalid : List Nat := []
  stationInvalid : List Nat := []
  deriving DecidableEq, Repr

/-- A round held by a station (R122). -/
structure HeldRound where
  round : Nat
  tag : Nat
  v : List Nat
  stackV : Nat
  late : Bool
  bleedNear : Bool
  deriving DecidableEq, Repr
/-- A record appended to a train (R114). -/
structure RingRec where
  stake : Nat
  status : Nat
  data : List Byte
  deriving DecidableEq, Repr
/-- The last ended test of a station, and the one running (R123). Each kind of test has its own TEST_SEQ and record:
DESIGN CHOICE (log 272): the spec does not say whether they share them. -/
structure StationTest where
  /-- Selected lines or cells of the test in progress. -/
  running : Option Nat := none
  /-- Bleeds that a switch test switches on: its MASK less the refused bits (R162). -/
  on : Nat := 0
  /-- TEST_SEQ of the newest test started (8 bits). -/
  seq : Nat := 0
  /-- TEST_SEQ, STATE and values of the last ended test. -/
  endedSeq : Nat := 0
  state : Nat := 0
  values : List Int := []
  deriving DecidableEq, Repr

/-- A cell station of the chain (R111 to R125, R160 to R166). -/
structure Station where
  /-- UID (64 bits, R124). -/
  uid : Nat := 0
  /-- HW_ID (16 bits, R124). -/
  hwId : Nat := 0
  /-- ROM_VERSION (16 bits, R124). -/
  romVersion : Nat := 0
  /-- MODE (2 bits, R114): 0 ROM loader, 1 loading, 2 operating code. -/
  mode : Nat := 0
  /-- CODE_VERSION (32 bits, R124). -/
  codeVersion : Nat := 0
  /-- STAKE (8 bits, R124): 0xFF while unstaked. -/
  stake : Nat := 0xFF
  /-- RESET of STATUS (R114). -/
  reset : Bool := true
  /-- TONE_LOST of STATUS: no qualified tone on the UP receive pair for 5 ms (R114). -/
  toneLost : Bool := false
  /-- CMD_ERR and DUP of STATUS, as the last command addressed to it left them (R114). -/
  cmdErr : Bool := false
  dup : Bool := false
  /-- No qualified tone or frame on the UP, or DOWN, receive pair for 5 ms (R132). -/
  lostUp : Bool := false
  lostDown : Bool := false
  /-- RX_VALID and RX_CRC_ERRORS (16 bits each, R124). -/
  rxValid : Nat := 0
  rxBad : Nat := 0
  /-- FAULTS (16 bits, R124). -/
  faults : Nat := 0
  /-- A code-memory error waits for the return to the ROM loader (R124). -/
  eccPending : Bool := false
  /-- CELLS_POPULATED, BAL_NEIGHBOUR, BAL_MAX_TEMP and REFLECT (16 bits each, R124). -/
  cellsPopulated : Nat := 0xFFFF
  balNeighbour : Nat := 0
  balMaxTemp : Nat := 850
  reflect : Nat := 0
  /-- Image bytes held by the loader: blocks in address order (R135). -/
  image : List (Nat × List Byte) := []
  /-- A SAMPLE_AT awaiting its conversion: ROUND, TAG, WAIT (R122). -/
  sampling : Option (Nat × (Nat × Nat)) := none
  /-- The last four rounds, newest first (R122). -/
  rounds : List HeldRound := []
  /-- Bleeds set by BALANCE_SET and not refused, while DURATION runs (R122). -/
  bleeds : Nat := 0
  /-- REFUSED of the last BALANCE_SET (R122). -/
  refused : Nat := 0
  /-- Windows in which quiet windows and conversions hold the bleeds off: first and last stamp (R122). -/
  quiets : List (Nat × Nat) := []
  /-- No valid frame for 50 ms: forward tone withheld (R130). -/
  frameLost : Bool := false
  /-- CMD, SEQ and record of the last frame it executed, and its stamp (R118). -/
  lastCmd : Option (Nat × Nat × Option RingRec × Nat) := none
  openWire : StationTest := {}
  switchTest : StationTest := {}
  /-- OV, UV, OT, UT and PERIOD of SET_SLEEP_THRESHOLDS, as sent (10 bytes, R120). -/
  sleepSet : List Byte := List.replicate 10 0
  /-- Sleeping (R166). -/
  sleeping : Bool := false
  /-- Stamp at which a violation was confirmed: 30 tone bursts, one a second, begin (R166). -/
  burstAt : Option Nat := none
  deriving DecidableEq, Repr

/-- A frame of the module under way in a ring (R112, R115, R117). -/
structure Flight where
  cmd : Nat
  stake : Nat
  seq : Nat
  payload : List Byte
  records : List RingRec
  /-- Position in the chain of the station that turned it, if any (R132). -/
  turnedAt : Option Nat
  /-- Stations it reached (R115). -/
  reached : Nat
  /-- NEXT as it left the last station (STAKE only, R125). -/
  next : Nat
  /-- Repetitions sent so far (R118). -/
  retries : Nat
  /-- Stamp of its frame mark (R110). -/
  sentAt : Nat := 0
  deriving DecidableEq, Repr
/-- A frame the module has planned and not yet sent: command, STAKE field, payload. -/
structure DueFrame where
  fromB : Bool
  cmd : Nat
  stake : Nat
  payload : List Byte
  /-- Repetition number, 0 for a new frame, and the SEQ a repetition reuses (R117, R118). -/
  retry : Nat
  seq : Nat
  /-- It takes the first ring slot (R49, R154). -/
  first : Bool := false
  deriving DecidableEq, Repr
/-- One record that R119 lets in: stake and record. -/
abbrev Taken := Nat × RingRec
/-- What became of a train (R117, R119): its command part came back good, came back bad, or it did not come back. -/
inductive Fate
  | good | bad | missing
  deriving DecidableEq, Repr
/-- A train that has come back, or has not, and waits for the seal of a frame (R42, R145): the stakes expected in it, the records
that R119 lets in, whether it arrived at the other end unturned, and its round trip in ns. -/
structure Arrival where
  serial : Nat
  fromB : Bool
  flight : Flight
  fate : Fate
  expected : List Nat
  taken : List Taken
  atOther : Bool
  rtt : Nat
  /-- A frame boundary has latched it. -/
  latched : Bool := false
  deriving DecidableEq, Repr
/-- A code load in progress (R135): STAKE field of its frames, and the blocks of 48 bytes still to send. -/
structure CodeLoad where
  stake : Nat
  left : List Nat
  deriving DecidableEq, Repr
/-- A round sent and not yet read, with what was captured at its T_P (R139, R142). -/
structure RoundInfo where
  round : Nat
  regular : Bool
  /-- T_P (64 bits). -/
  tp : Nat
  /-- Leg voltage and current at T_P, mV and mA. -/
  v : Int
  i : Int
  /-- ACC_n and N_n latched at T_P (R175). -/
  acc : Int
  n : Nat
  /-- Round 0 to 3 of a probe or natural step (R189). -/
  probe : Option Nat
  /-- The field die has captured it (R142), and W2 has predicted its cells (R169). -/
  captured : Bool := false
  predicted : Bool := false
  /-- Stamp of the frame boundary before T_P, and ACC_n and N_n latched there (R169, R175). -/
  mark : Nat := 0
  accMark : Int := 0
  nMark : Nat := 0
  /-- E of the probe or natural step it belongs to (R189, R191). -/
  edge : Option Nat := none
  /-- The ends whose READ_CELLS train has not returned (R146), and those whose train no seal has taken. -/
  out : List Bool := []
  left : List Bool := []
  /-- Every expected record has come (R194). -/
  whole : Bool := true
  deriving DecidableEq, Repr

/-- The module's side of one leg's ring (R117 to R138). -/
structure Ring where
  /-- Stations in chain order from end A (R107). -/
  chain : List Station := []
  /-- The frame in flight from end A and from end B (R117). -/
  flight : Vector (Option Flight) 2 := Vector.replicate 2 none
  /-- Sequence number of the next new frame of each end (8 bits, R117). -/
  seq : Vector Nat 2 := Vector.replicate 2 0
  /-- Frames planned and not yet sent (R146). -/
  due : List DueFrame := []
  /-- MODE of LINK_STATUS (R137): 0 loop, 1 split, 2 no station reachable, 3 not started. -/
  mode : Nat := 3
  /-- LOOP_TIME (u32, ns, R126, R137). -/
  loopTime : Nat := 0
  /-- D_k from end A and end B in units of 1/8 ns, by stake (R128). -/
  distA : List (Nat × Int) := []
  distB : List (Nat × Int) := []
  /-- D_k that replace table values at the next frame boundary: end B, stake, value (R143). -/
  distDue : List (Bool × Nat × Int) := []
  /-- RTT values measured so far of the stake in hand at end A and at end B: stake, values in ns (R127). -/
  rtt : Vector (Option (Nat × List Nat)) 2 := Vector.replicate 2 none
  /-- HOP_UNSTABLE stakes (R127). -/
  unstable : List Nat := []
  /-- Stakes whose hop delay is out of limits, so that LATE is set (R143). -/
  hopLate : List Nat := []
  /-- Stake of the next slow-round delay measurement (R143). -/
  hopNext : Nat := 1
  /-- TRAIN_MISSES, RECORD_ERRORS, SPLIT_ENTRIES (u32 each, R137), and the exits from split mode (R134). -/
  trainMisses : Nat := 0
  recordErrors : Nat := 0
  splitEntries : Nat := 0
  splitExits : Nat := 0
  /-- STATION_UID, STATION_STATUS, STATION_CODE, HW_ID by stake (R137). -/
  uids : List (Nat × Nat) := []
  statuses : List (Nat × Nat) := []
  codes : List (Nat × Nat) := []
  /-- REACH_A, REACH_B (5 bits each, R133). -/
  reachA : Nat := 0
  reachB : Nat := 0
  /-- SILENT_STAKE (5 bits, R131). -/
  silent : Nat := 31
  /-- STAKED, LOADED, STAKE_COMPLETE, CONTACT_LOST, TONE_OK, AVAILABLE (R137). -/
  staked : Nat := 0
  loaded : Bool := false
  stakeComplete : Bool := false
  contactLost : Bool := false
  toneOk : Bool := false
  /-- TONE_LOSS has passed without a qualified tone, and none has come back (R131). -/
  toneGone : Bool := false
  available : Bool := false
  /-- Staking passes made (R126). -/
  passes : Nat := 0
  /-- Where a staking pass stands (R126): 0 none, 1 STAKE from end A, 2 STAKE from end B, 3 the stakes on the end A side
  are learned, 4 the hop delays are measured. -/
  stakeStep : Nat := 0
  /-- Stakes that answered on the end A side of a leg staked from both ends (R126). -/
  heard : List Nat := []
  /-- Stakes whose records the STAKE from the other end of such a leg brought (R126). -/
  stakedFar : List Nat := []
  /-- The code load in progress (R135). -/
  load : Option CodeLoad := none
  /-- Earliest stamp of the next preamble of each end (R117), and of its next CODE_LOAD (R135). -/
  freeAt : Vector Nat 2 := Vector.replicate 2 0
  loadAt : Vector Nat 2 := Vector.replicate 2 0
  /-- Trains not yet taken into a frame, oldest first, and the number of the next (R42). -/
  arrived : List Arrival := []
  serial : Nat := 0
  /-- CODE_RUN attempts counted (R135). -/
  codeRuns : Nat := 0
  /-- Stakes whose station has restarted and awaits its reload (R126). -/
  restarted : List Nat := []
  /-- Consecutive return timeouts of each end (R133). -/
  missRun : Vector Nat 2 := Vector.replicate 2 0
  /-- Closed-ring sightings in a row (R134). -/
  sightings : Nat := 0
  /-- The PING of a contact loss is out (R131). -/
  contactPing : Bool := false
  /-- Split mode is due at the next boundary; its 5 ms wait runs (R133). -/
  splitDue : Bool := false
  splitWait : Bool := false
  /-- The stake that a PING with TURN looks for from each end in split mode; 0 none (R133). -/
  seek : Vector Nat 2 := Vector.replicate 2 0
  /-- ROUND of the newest round (8 bits, R140). -/
  round : Nat := 0
  /-- Rounds sent and not yet entered, oldest first; at most 4 of them unread (R146). -/
  unread : List RoundInfo := []
  /-- The round read last (R145). -/
  last : RoundInfo := { round := 0, regular := false, tp := 0, v := 0, i := 0, acc := 0, n := 0, probe := none }
  deriving DecidableEq, Repr

/-- One cell of the cell table (R147, R155, R159, R163). -/
structure Cell where
  /-- CELL_V (u16, 100 µV). -/
  v : Nat := 0xFFFF
  /-- CELL_FLAGS bits (R167). -/
  invalid : Bool := true
  late : Bool := false
  bleedNear : Bool := false
  stale : Bool := false
  bleeding : Bool := false
  deviation : Bool := false
  openAdj : Bool := false
  switchFail : Bool := false
  /-- The reading was corrected under R156. -/
  corrected : Bool := false
  /-- Rounds held since the last record (R148). -/
  held : Nat := 0
  /-- BLEED_CHARGE (i64, µAs, R155). -/
  bleedCharge : Int := 0
  /-- Charge bled since the last round, for estimation (R155). -/
  bledRound : Int := 0
  /-- Learned bleed conductance, nS; 0 for none (R155, R163). -/
  conductance : Nat := 0
  /-- The bleed is stuck on (R163). -/
  stuckOn : Bool := false
  /-- Where the time that its bleed conducts is counted from, where an applied bleed ends, and the ticks counted since
  the last round (R155). -/
  onFrom : Nat := 0
  onUntil : Nat := 0
  onTicks : Nat := 0
  /-- The last valid reading of it (R155). -/
  lastV : Nat := 0
  /-- "active" of R153. -/
  active : Bool := false
  /-- δ of the latest regular round, 100 µV (R159). -/
  delta : Int := 0
  /-- Consecutive regular rounds with |δ| below OW_DEV while DEVIATION is set (R159). -/
  devClear : Nat := 0
  deriving DecidableEq, Repr

/-- A temperature point (R147, R149). -/
structure TempPoint where
  /-- TEMP (i16, 0.1 °C). -/
  t : Int := -32768
  /-- Stamp of its last reading (R149). -/
  stamp : Nat := 0
  deriving DecidableEq, Repr

/-- What the module keeps of one station's diagnostics (R151, R159 to R164). -/
structure StationDiag where
  /-- Last FAULTS register seen (R151). -/
  faults : Nat := 0
  /-- Consecutive failing and passing VREF rounds (R151). -/
  vrefBad : Nat := 0
  vrefGood : Nat := 0
  vrefInvalid : Bool := false
  /-- Consecutive BAL_MASK mismatches, and BAL_MISMATCH (R151). -/
  balBad : Nat := 0
  mismatch : Bool := false
  /-- The last mask commanded, and REFUSED of its record (R151, R154). -/
  mask : Nat := 0
  refused : Nat := 0
  /-- Stack residuals S, newest first, at most 65, 100 µV; S available (R159). -/
  stack : List Int := []
  stackOk : Bool := false
  /-- Patterns of R159 in hand: row, line or cell, and counting rounds each has held. -/
  patterns : List (Nat × Nat × Nat) := []
  /-- OPEN_WIRES of the station (17 bits, R161). -/
  openWires : Nat := 0
  /-- Lines under suspicion or recorded as high-resistance, OW_SUSPECT (R161). -/
  suspect : Nat := 0
  /-- Lines whose detection is suspended until a stamp (R161). -/
  suspended : List (Nat × Nat) := []
  /-- TEST_SEQ that the open-wire, and the switch, test in hand will carry (R123). -/
  owSeq : Nat := 0
  swSeq : Nat := 0
  /-- An aborted test that is repeated after the next round (R161). -/
  owAgain : Bool := false
  swAgain : Bool := false
  /-- Cells of a retest that follows the one in hand (R163). -/
  swThen : Nat := 0
  /-- Tests still to run of a line that lies between the thresholds (R161). -/
  retest : List (Nat × Nat) := []
  /-- Cells selected by the switch test in hand (R164). -/
  swMask : Nat := 0
  /-- Wires selected by the open-wire test in hand (R161). -/
  owWires : Nat := 0
  /-- On the fast list (R150). -/
  fast : Bool := false
  deriving DecidableEq, Repr

/-- A round whose trains a frame has sealed, with the leg's cells as it left them (R42, R145). -/
structure SealedRound where
  info : RoundInfo
  cells : List (Nat × Cell)
  deriving DecidableEq, Repr
/-- Measurement, balancing and diagnostics of one leg (R145 to R167). -/
structure LegDiag where
  /-- PLUMB_STAMP (u64, R167). -/
  plumbStamp : Nat := 0
  /-- CLOSURE_RESIDUAL (i32, mV, R157). -/
  residual : Int := 0
  /-- Residuals E, newest first, at most 65, 100 µV (R159); CLOSURE_SKIPPED. -/
  residuals : List Int := []
  skipped : Bool := false
  /-- Consecutive failing and passing closure checks (R158). -/
  failRun : Nat := 0
  passRun : Nat := 0
  closureFail : Bool := false
  /-- Evaluated closure failures of STAKING (R158). -/
  startFails : Nat := 0
  /-- ROUND_VALID (R167). -/
  roundValid : Bool := false
  /-- HK_FAIL, and consecutive clean slow rounds (R151). -/
  hkFail : Bool := false
  hkClean : Nat := 0
  /-- The slow round in hand: ends whose temperatures, and whose housekeeping, have not come; no check of it has failed,
  and no record of it is missing (R149, R151). -/
  tempsLeft : List Bool := []
  hkLeft : List Bool := []
  hkPassed : Bool := true
  hkWhole : Bool := true
  /-- A slow round's temperatures, and its housekeeping, have come whole (R74). -/
  firstTemps : Bool := false
  firstHk : Bool := false
  /-- Sums of the stations' cells in the last rounds, newest first: T_P, then stake and sum in 100 µV (R151). -/
  sums : List (Nat × List (Nat × Int)) := []
  /-- MISSED_ROUNDS, OW_UNEXPLAINED (u32 each, R167). -/
  missed : Nat := 0
  unexplained : Nat := 0
  /-- Balancing runs; its parity is odd; the drain is pending (R152 to R154). -/
  balancing : Bool := false
  oddNext : Bool := true
  draining : Bool := false
  /-- Frame of the last phase boundary while balancing runs (R154). -/
  phaseAt : Option Nat := none
  /-- Station of the next switch test, and whether its even mask follows (R164). -/
  swNext : Nat := 1
  swEven : Bool := false
  /-- The rounds of this frame's seal that W1 has not judged yet (R42, R293). -/
  sealed : List SealedRound := []
  /-- Sealed rounds that wait for a W2 (R182). -/
  w2Due : List SealedRound := []
  /-- FAULT of CLOSURE_HOLD waits for the drain (R158). -/
  holdExpired : Bool := false
  deriving DecidableEq, Repr


/-- One impedance bin of a cell (R171): Rs and Rp in Ω, Cp in F, their σ, and the observation count. -/
structure Bin where
  rs : F64
  rp : F64
  cp : F64
  sRs : F64
  sRp : F64
  sCp : F64
  /-- Observations (15 bits, R197); 0: derived, EXTRAPOLATED (R173). -/
  count : Nat
  deriving DecidableEq, Repr
/-- What the model says of a cell at a round's T_P: Vp and predicted voltage in V (R169), counted SOC, and the cell's
counted charge in µAs (R182, R184). -/
structure AtTp where
  round : Nat
  vp : F64
  vHat : F64
  soc : F64
  charge : F64
  /-- Temperature of the cell at T_P, 0.1 °C, where it has had one (R195). -/
  temp : Option Int
  deriving DecidableEq, Repr
/-- A qualifying anchor kept for capacity learning (R184): SOC, σ, and the cell's counted charge at T_P, µAs. -/
structure KeptAnchor where
  soc : F64
  sigma : F64
  charge : F64
  deriving DecidableEq, Repr
/-- A probe round of a cell (R192): index, voltage in V, fresh, and Vp at its T_P. -/
structure ProbeRead where
  index : Nat
  v : F64
  fresh : Bool
  vp : F64
  /-- Temperature of the cell, 0.1 °C (R195). -/
  temp : Option Int
  deriving DecidableEq, Repr
/-- The estimator's state of one cell (R169 to R184, R209 to R212). -/
structure EstCell where
  /-- Counted SOC and its σ, fractions; whether it has been set (R180, R222). -/
  soc : F64 := F64.zero
  sSoc : F64 := F64.zero
  socSet : Bool := false
  /-- Capacity in mAh and its σ (R184). -/
  cap : F64 := F64.zero
  sCap : F64 := F64.zero
  /-- Hysteresis state h (R170). -/
  h : F64 := F64.zero
  /-- Polarisation voltage Vp, V (R169). -/
  vp : F64 := F64.zero
  /-- The 15 bins (R171). -/
  bins : List Bin := []
  /-- Predictions at the T_P of rounds not yet taken up. -/
  atTp : List AtTp := []
  /-- The last temperature (0.1 °C), where one has been had (R172). -/
  temp : Option Int := none
  /-- EST_FLAGS (R197). -/
  restAnchor : Bool := false
  capLearned : Bool := false
  tempSubst : Bool := false
  countOnly : Bool := true
  /-- Stamp of the last anchor (R181). -/
  anchorAt : Option Nat := none
  /-- Kept anchor (R184). -/
  kept : Option KeptAnchor := none
  /-- Charge counted to the cell since the start, µAs (R184). -/
  charge : F64 := F64.zero
  /-- Bleed charge since manufacture, µAs (R219). -/
  bledEver : Int := 0
  /-- Probe rounds read (R192). -/
  probes : List ProbeRead := []
  /-- Fresh rounds in a row that held the EMPTY, or FULL, condition (R209). -/
  emptyRun : Nat := 0
  fullRun : Nat := 0
  /-- END_FLAGS (R209 to R211, R223). -/
  empty : Bool := false
  full : Bool := false
  disEmpty : Bool := false
  disFull : Bool := false
  capUnder : Bool := false
  /-- END_Q, mAh (R211). -/
  endQ : F64 := F64.zero
  deriving DecidableEq, Repr

/-- Counting and probes of one leg (R174 to R177, R185, R192 to R197). -/
structure EstLeg where
  /-- ACC_n (i64) and N_n (u64), modulo 2^64, as last latched at a frame boundary (R175). -/
  acc : Int := 0
  n : Nat := 0
  /-- The latch before it, that W2 counts from, and its stamp. -/
  accPrev : Int := 0
  nPrev : Nat := 0
  stampPrev : Nat := 0
  /-- OFFSET in force, in codes (R177), and one that applies from the boundary after the given frame. -/
  offset : F64 := F64.zero
  offsetDue : Option (F64 × Nat) := none
  /-- Stamp of the last offset calibration; PWMEN_Ln has risen since it; a calibration runs (R177). -/
  calAt : Nat := 0
  /-- An OFFSET has been had, at this start or from the learned set. -/
  offsetKnown : Bool := false
  calNeeded : Bool := true
  calRunning : Bool := false
  /-- CHARGE_COUNT (i64, µAs, R176). -/
  charge : F64 := F64.zero
  /-- Mean current of the last frame, A (R169). -/
  mean : F64 := F64.zero
  /-- True rest has begun and its rest anchors are due (R183). -/
  rest : Bool := false
  restDue : Bool := false
  /-- LEG_SOC and LEG_SOC_CONF (R185). -/
  soc : Nat := 0xFFFF
  conf : Nat := 0
  /-- Probe rounds: index, T_P, captured current mA, every station read (R192). -/
  probeI : List (Nat × Nat × Int × Bool) := []
  /-- LAST_RESULT, NATURAL, PROBE_STAMP, PROBE_ACCEPTED, PROBE_DISCARDED (R197). -/
  lastResult : Nat := 0
  natural : Bool := false
  probeStamp : Nat := 0
  accepted : Nat := 0
  discarded : Nat := 0
  /-- A natural-step observation in progress: E and step in mA; spoilt by a stop or protection; the request it led to, mA
  (R191). -/
  natStep : Option (Nat × Int) := none
  natRequest : Int := 0
  natSpoilt : Bool := false
  /-- Latest regular round that may serve as a natural step's round 0: ROUND, T_P, and the request then, mA (R191). -/
  natRound0 : Option (Nat × Nat × Int) := none
  /-- The last regular round's data kept for a round 0: voltages by cell in V, fresh, Vp; current mA (R191). -/
  natReads : List (Nat × ProbeRead) := []
  natI : Int := 0
  /-- That round was read whole (R194). -/
  natWhole : Bool := false
  deriving DecidableEq, Repr

/-- Phase of a probe pair (R186 to R190). -/
inductive ProbePhase
  | idle | committed | running | observed
  deriving DecidableEq, Repr
/-- A probe pair: L0 with L1, or L2 with L3 (R186 to R190). -/
structure ProbePair where
  /-- PROBE_PERIOD has passed (R186). -/
  due : Bool := false
  /-- Stamp at which the pair became due, and at which its last probe ended or was cancelled (R186). -/
  dueAt : Nat := 0
  endedAt : Nat := 0
  phase : ProbePhase := .idle
  /-- Frame of the commitment, and its stamp (R186, R188). -/
  frame : Nat := 0
  committedAt : Nat := 0
  /-- Offsets ΔI of the two legs, mA (R187). -/
  dI : Vector Int 2 := Vector.replicate 2 0
  /-- Probes executed (R187). -/
  executed : Nat := 0
  /-- The offsets still stand in the set-points (R188, R190). -/
  applied : Bool := false
  /-- The observation has been spoilt before T_P,3 (R190, R194), with its LAST_RESULT. -/
  spoilt : Option Nat := none
  /-- Stamp of E, once it has come (R188). -/
  edge : Nat := 0
  /-- T_P,3 has been captured (R190). -/
  third : Bool := false
  /-- Requests of the two legs at the commitment, mA (R190). -/
  request : Vector Int 2 := Vector.replicate 2 0
  /-- ELIGIBLE (R197). -/
  eligible : Bool := false
  /-- PROBE_ENABLE cleared and its probe still completes (R190). -/
  draining : Bool := false
  deriving DecidableEq, Repr

/-- Limits of one leg (R200 to R208, R214, R223); index 0 to 3: 2 s, 10 s, 30 s, continuous. -/
structure LegLimits where
  /-- SOP_DIS_I and SOP_CHG_I, mA (R204). -/
  disI : Vector Int 4 := Vector.replicate 4 0
  chgI : Vector Int 4 := Vector.replicate 4 0
  /-- SOP_DIS_P and SOP_CHG_P, W (R205). -/
  disP : Vector Int 4 := Vector.replicate 4 0
  chgP : Vector Int 4 := Vector.replicate 4 0
  /-- SOP_CONF, percent (R205). -/
  conf : Nat := 0
  /-- DIS_BY, CHG_BY, MARGIN, RISING (R223, R507). -/
  disBy : Nat := 0
  chgBy : Nat := 0
  margin : Bool := false
  rising : Bool := false
  /-- E_DIS and E_CHG, Wh (R214). -/
  eDis : Nat := 0
  eChg : Nat := 0
  /-- ENF_LIMIT: discharge, charge, mA (R208). -/
  enfDis : Int := 0
  enfChg : Int := 0
  /-- Budgets B_2, B_10, B_30 in µs, of discharge and of charge (R208). -/
  budDis : Vector Nat 3 := Vector.replicate 3 0
  budChg : Vector Nat 3 := Vector.replicate 3 0
  deriving DecidableEq, Repr
/-- Limits, energy, time and warnings of the string (R206, R214 to R216, R223). -/
structure StringLimits where
  /-- STR_SOP_DIS_P and STR_SOP_CHG_P, W (R206). -/
  disP : Vector Int 4 := Vector.replicate 4 0
  chgP : Vector Int 4 := Vector.replicate 4 0
  /-- STR_SOP_CONF, percent (R206). -/
  conf : Nat := 0
  eDis : Nat := 0
  eChg : Nat := 0
  /-- TIME_TO_EMPTY and TIME_TO_FULL, s (R214). -/
  tte : Nat := 0xFFFFFFFF
  ttf : Nat := 0xFFFFFFFF
  /-- Signed string powers of the last frames, mW, newest first, at most 1,000 (R214). -/
  power : List Int := []
  /-- Warnings active, WARN_STATUS [5:0] (R215). -/
  warn : Nat := 0
  /-- LATCHED, WARN_STATUS [13:8] as bits 0 to 5 (R216). -/
  latched : Nat := 0
  /-- Frames in a row with TIME_TO_EMPTY, or TIME_TO_FULL, below its threshold (R215). -/
  tteRun : Nat := 0
  ttfRun : Nat := 0
  /-- The warning message of the CAN status set is due in W4 (R216). -/
  canDue : Bool := false
  deriving DecidableEq, Repr
/-- A learned-value set as snapshot (R218 to R220). -/
structure LearnSet where
  /-- TRIGGER (R218). -/
  trigger : Nat
  generation : Nat
  meridian : Nat
  frame : Nat
  powerCycles : Nat
  modelKey : Nat
  tai : Bool
  /-- OFFSET and its stamp, per leg. -/
  offsets : List (F64 × Nat)
  /-- Cell blocks by global cell index. -/
  cells : List (Nat × EstCell)
  deriving DecidableEq, Repr
/-- Persistence of learned values (R217 to R223). -/
structure Learn where
  /-- LAST_TRIGGER (4 bits), SHORT_APPLIED, INITIALISED, WRITE_FAIL (R223). -/
  lastTrigger : Nat := 0
  shortApplied : Bool := false
  initialised : Bool := false
  writeFail : Bool := false
  /-- A trigger waits for its snapshot at the next frame boundary (R220). -/
  due : Option Nat := none
  /-- PENDING: the snapshot that waits (R221). -/
  waiting : Option LearnSet := none
  /-- WRITING: the set being written (R220). -/
  writing : Option LearnSet := none
  /-- LEARN_GENERATION (u32, R223): GENERATION of the newest valid set. -/
  generation : Nat := 0
  /-- GENERATION of the newest valid full set, and its buffer (R220, R221). -/
  fullGen : Option Nat := none
  fullBuffer : Nat := 1
  /-- An orderly shutdown waits for its set (R220): 1 laid-up, 2 COMMAND RESET, 3 COMMAND PLAT_INSTALL. -/
  shutdown : Nat := 0
  deriving DecidableEq, Repr

/-- LEG_STATE, in the order of its codes (R257). -/
inductive LegSt
  | disabled | softStart | running | loadStepOff | draining | retryWait | fault | waitBus
  deriving DecidableEq, Repr
/-- What a drain leads to (R158, R251, R253, R256). -/
inductive DrainEnd
  | disabled | waitBus | fault (cause : Nat)
  deriving DecidableEq, Repr
/-- A ramp to zero of one leg (R253, R254): the reference in µA, as the leg's bus-side current, or in direct-reference
mode (R270) as a phase current. -/
structure Ramp where
  ref : Int
  direct : Bool
  /-- The field die's own ramp of a category 1 or autonomous stop (R25, R292). -/
  stop : Bool
  deriving DecidableEq, Repr
/-- PWM of one phase (R232, R248 to R250). -/
structure PhasePwm where
  /-- COMPARE: the compare value in force, in field cycles (R257). -/
  compare : Nat := 0
  /-- The compare value written for the next carrier start (R234). -/
  written : Nat := 0
  /-- PWMpH and PWMpL are held low by a trip until the next carrier start (R248, R249). -/
  held : Bool := false
  /-- R248, R249: what has acted in the carrier period in progress. -/
  fast : Bool := false
  desat : Bool := false
  /-- Consecutive trip periods (R250). -/
  run : Nat := 0
  /-- The cause of the first trip period of the run: 0 fast limit, 1 desaturation (R250). -/
  runDesat : Bool := false
  /-- FAST_TRIPS and DESAT_TRIPS (u32 each, R257). -/
  fastTrips : Nat := 0
  desatTrips : Nat := 0
  /-- The phase switches (R235). -/
  on : Bool := false
  /-- The current of the trip in the carrier period in progress, mA (R389). -/
  tripMa : Int := 0
  deriving DecidableEq, Repr
/-- One leg converter (R245 to R257). -/
structure LegConv where
  st : LegSt := .disabled
  /-- FAULT_CAUSE (4 bits, R257). -/
  cause : Nat := 0
  /-- Enabled by the last dispatch (R242, R245). -/
  enabled : Bool := false
  /-- An enable that waits for the drain (R50). -/
  heldEnable : Bool := false
  drainEnd : DrainEnd := .disabled
  /-- ENABLE_REFUSED, LIMITED, OVL_DERATE, PWMEN, PROBE_OFFSET of LEG_STATUS (R257). -/
  enableRefused : Bool := false
  limited : Bool := false
  ovlDerate : Bool := false
  pwmen : Bool := false
  probeOffset : Bool := false
  /-- k_ovl, ppm (R251). -/
  kOvl : Nat := 1000000
  /-- The overload filters of 10 ms and 1 s, mA (R251). -/
  f10 : F64 := F64.zero
  f1s : F64 := F64.zero
  /-- A filter is above its level at the last latch (R251). -/
  overload : Bool := false
  /-- The soft-start bound S, µA (R246). -/
  soft : Int := 0
  /-- W_n (R240). -/
  weight : F64 := F64.zero
  /-- The share a[n] of the last W3, mA (R241). -/
  share : Int := 0
  /-- LEG_SETPOINT: the last I_SET or I_TGT, mA (R257). -/
  setpoint : Int := 0
  ramp : Option Ramp := none
  /-- Consecutive latches with |I_bus| below I_ZERO_LEG, and field cycles since the set-point reached zero (R253). -/
  lowRun : Nat := 0
  zeroCycles : Nat := 0
  /-- Consecutive latches with both |I_P| below REENTER_I × I_RATED / 2 (R252). -/
  reenterRun : Nat := 0
  /-- The frame whose words gave the leg a share while it could take a request (R241, R246). -/
  plannedFor : Option Nat := none
  /-- Whole sample periods until the first pulse (EN_LEAD, R235). -/
  lead : Nat := 0
  /-- The first pulse of the soft start in progress has been given (R247). -/
  pulsed : Bool := false
  deriving DecidableEq, Repr
/-- A mode change in progress (R239): mode, leg mask, target kind, target, rate. -/
structure ModeChange where
  mode : Nat
  mask : Nat
  kind : Nat
  target : Int
  rate : Nat
  deriving DecidableEq, Repr
/-- The string level: dispatch, reference, steering (R236 to R247, R257). -/
structure StringConv where
  /-- MODE of STRING_STATUS (2 bits): 3, none dispatched (R257). -/
  mode : Nat := 3
  /-- The mode the legs run in, from ARMED on (R236, R272). -/
  running : Nat := 0
  /-- TARGET_KIND (2 bits): 3, none. -/
  kind : Nat := 3
  /-- X, X_t in µA, mW or µV, and r in µA/s, mW/s or µV/s (R243). -/
  x : Int := 0
  xt : Int := 0
  rate : Nat := 0
  /-- The leg mask of the last dispatch (R242). -/
  mask : Nat := 0
  /-- WD_HOLD, WD_EXPIRED, LIMITED (R257). -/
  wdHold : Bool := false
  wdExpired : Bool := false
  limited : Bool := false
  modeChange : Option ModeChange := none
  /-- START_RETRY (2 bits, R247). -/
  retries : Nat := 0
  /-- DISPATCH_TIMEOUT (u16, ms, R257), and its bounds. -/
  timeout : Nat := 500
  /-- The string current request of the last W3, mA (R241). -/
  request : Int := 0
  deriving DecidableEq, Repr
/-- One compensator of a CLE (R266 to R268): histories in Q1.30. -/
structure Comp where
  e1 : Int := 0
  e2 : Int := 0
  e3 : Int := 0
  u1 : Int := 0
  u2 : Int := 0
  u3 : Int := 0
  /-- Clamped in the last sample (SAT of R276), and SAT_SAMPLES (u32). -/
  sat : Bool := false
  satCount : Nat := 0
  deriving DecidableEq, Repr
/-- What a twin keeps of one sample of an engine for a recomputation (R311): frame, sample, codes, the word computed
with, bank, direct reference, the histories before it, and the compare values written. -/
structure CleSample where
  frame : Nat
  sample : Nat
  codes : Vector Int 20
  word : SetPoint
  bank : Nat
  direct : Option Int
  comp : Vector Comp 3
  written : Option (Nat × Nat)
  deriving DecidableEq, Repr
/-- A control-law engine (R260 to R276): outer, P(2n), P(2n+1). -/
structure Cle where
  comp : Vector Comp 3 := Vector.replicate 3 {}
  /-- ACTIVE_BANK, and BANK_SELECT with what it becomes at the next boundary (R272). -/
  bank : Nat := 0
  bankSelect : Nat := 0
  bankDue : Option Nat := none
  /-- RUNNING (R276). -/
  running : Bool := false
  /-- Direct-reference mode (R270). -/
  direct : Bool := false
  /-- The word and limits applied last (R270), and words delivered for later samples: frame mod 1,024, sample (R22). -/
  word : SetPoint := { iSet := 0, vRef := 0, w := 0, iOff := 0, limPos := 0, limNeg := 0 }
  words : List (Nat × Nat × SetPoint) := []
  /-- HELD_SAMPLES (u32, R22, R276), and whether the last sample ran on a held word (HELD of R303). -/
  held : Nat := 0
  heldNow : Bool := false
  /-- OUT_WORDS: u_out of the last sample of the previous frame (R276). -/
  outPrev : Vector Int 3 := Vector.replicate 3 0
  /-- u_out of the last sample (R268). -/
  out : Vector Int 3 := Vector.replicate 3 0
  /-- The codes of MD0 to MD19 at the last latch (18 bits each, R231, R234). -/
  codes : Vector Int 20 := Vector.replicate 20 0
  /-- In a twin: the inputs of the last 16 samples, newest first (R311). -/
  hist : List CleSample := []
  deriving DecidableEq, Repr

/-- Thermal management (R324 to R335). -/
structure Thermal where
  /-- CELL_WARN_HIGH, CELL_WARN_LOW, AMB_WARN, DIE_WARN, and STAGE_WARN per leg (R326, R335). -/
  warnHigh : Bool := false
  warnLow : Bool := false
  ambWarn : Bool := false
  dieWarn : Bool := false
  stageWarn : Vector Bool 4 := Vector.replicate 4 false
  /-- CELL_THROTTLE, CHARGE_BLOCK, DIE_THROTTLE (R326, R335). -/
  cellThrottle : Bool := false
  chargeBlock : Bool := false
  dieThrottle : Bool := false
  /-- NTC channels that read open or short (R325). -/
  ntcFault : Vector Bool 12 := Vector.replicate 12 false
  /-- Temperatures of NTC0 to NTC11, frame means, 0.1 °C (R325). -/
  ntc : Vector Int 12 := Vector.replicate 12 (-32768)
  /-- STAGE_TRIP and STAGE_TRIPS per leg (R328). -/
  stageTrip : Vector Bool 4 := Vector.replicate 4 false
  stageTrips : Vector Nat 4 := Vector.replicate 4 0
  /-- The leg whose trip waits for its restart was enabled when it tripped (R328). -/
  restart : Vector Bool 4 := Vector.replicate 4 false
  /-- DIE_RESTART (R329). -/
  dieRestart : Bool := false
  /-- VALVE_HOLD, I of each loop, VALVE_TARGET, VALVE_SP (R330, R331). -/
  valveHold : Vector Bool 4 := Vector.replicate 4 false
  valveI : Vector F64 4 := Vector.replicate 4 F64.zero
  valveTarget : Vector Nat 4 := Vector.replicate 4 0
  valveSp : Vector Int 4 := Vector.replicate 4 250
  /-- FAN_DUTY, FAN_OVERRIDE, LSB 0.01 %, and the duty that applies from the next PWM period (R332). -/
  fanDuty : Vector Nat 4 := Vector.replicate 4 10000
  fanNext : Vector Nat 4 := Vector.replicate 4 10000
  /-- The duties of the last output bundle that the field die has been given (R14, R21). -/
  fanOut : Vector Nat 4 := Vector.replicate 4 10000
  fanOverride : Vector Nat 4 := Vector.replicate 4 0
  /-- FAN_RPM and FAN_FAULT (R333). -/
  fanRpm : Vector Nat 4 := Vector.replicate 4 0
  fanFault : Vector Bool 4 := Vector.replicate 4 false
  /-- Tach edges since the last frame boundary, and of the last frames, newest first, at most 1,000 (R333). -/
  tachNow : Vector Nat 4 := Vector.replicate 4 0
  tachHist : Vector (List Nat) 4 := Vector.replicate 4 []
  /-- A comparator code of R328 has been locked for the leg's NTCs: trip and release, per power-stage NTC. -/
  tripCode : Vector Nat 8 := Vector.replicate 8 0
  relCode : Vector Nat 8 := Vector.replicate 8 4095
  /-- The thermal message of the CAN status set is due in W4 (R327). -/
  canDue : Bool := false
  deriving DecidableEq, Repr
/-- AXIS_STATE (R352), in the order of its codes. -/
inductive AxState
  | disabled | holding | moving | homing | stopping | fault | standstill
  deriving DecidableEq, Repr
/-- Steps of homing (R345, R346): stopping before it; leaving an active home input; backing off; searching; the
deceleration after the winning edge; the deceleration after a limit; the way back; the deceleration after it. -/
inductive HomeStep
  | settle | leave | backOff | search | found | limitStop | wayBack | wayBackStop
  deriving DecidableEq, Repr
/-- One axis (R337 to R353). -/
structure Axis where
  st : AxState := .disabled
  /-- AX_ENABLE (R352). -/
  enable : Bool := true
  /-- An enable that waits for the end of a drain (R50). -/
  heldEnable : Bool := false
  /-- HOMED (R345). -/
  homed : Bool := false
  /-- x in 1/40,000³ microstep, s in 1/40,000² microstep/s, and the acceleration in 1/40,000 microstep/s² (R340). -/
  x : Int := 0
  v : Int := 0
  a : Int := 0
  /-- AX_TARGET, and whether it waits for HOMED (R342). -/
  target : Int := 0
  held : Bool := false
  /-- A target of the valve loop that takes effect at the next frame boundary (R330, R341). -/
  nextTarget : Option Int := none
  /-- HOME_LEVEL, and its last qualified level (R343). -/
  homeLevel : Bool := false
  homeQual : Bool := false
  /-- A latched edge that has not yet qualified: x, stamp, level (R343). -/
  edge : Option (Int × Nat × Bool) := none
  /-- A home edge, or a limit, has come in the PWM period in progress (R346). -/
  edgeNow : Bool := false
  limitNow : Bool := false
  /-- Limits active (LIMP, LIMN), and LIMIT_P, LIMIT_N of AX_STATUS (R344). -/
  limit : Vector Bool 2 := Vector.replicate 2 false
  hit : Vector Bool 2 := Vector.replicate 2 false
  /-- AX_HOME_LATCH and AX_HOME_STAMP (R345). -/
  latch : Int := 0
  latchStamp : Nat := 0
  /-- AX_CHATTER, the stamps of the last chatters, CHATTER_WARN (R343). -/
  chatter : Nat := 0
  chatterAt : List Nat := []
  chatterWarn : Bool := false
  /-- AX_CLAMPS (R339). -/
  clamps : Nat := 0
  /-- AX_VMOT in mV (R339). -/
  vmot : Nat := 0
  /-- FAULT_CAUSE (R348). -/
  cause : Nat := 0
  /-- Homing: its step, x where the present direction began, whether the first limit trip has come, and whether the
  home input has gone active on the way back (R345, R346). -/
  step : HomeStep := .settle
  from' : Int := 0
  limitSeen : Bool := false
  sawActive : Bool := false
  /-- The deceleration in progress is a limit's (R344). -/
  limitDec : Bool := false
  /-- PWM periods of I_HOLD still to pass before a move from standstill (R347). -/
  lead : Nat := 0
  /-- Winding duties in cycles of 5,000, positive forward, and coils off (R338). -/
  dutyA : Int := 0
  dutyB : Int := 0
  off : Bool := true
  deriving DecidableEq, Repr
/-- A train of a seal bundle (R306), with what was captured at the T_P of its round. -/
structure SealedTrain where
  leg : Leg
  train : Arrival
  info : Option RoundInfo
  deriving DecidableEq, Repr
/-- A seal bundle (R306): FRAME, FRAME_STAMP, safety image, measurement bundle, W2 completion of both units, the further
entries, its trains, and whether its CRC-32 holds. -/
structure SealBundle where
  frame : Nat
  stamp : Nat
  sfi : Nat
  latch : FieldLatch
  w2 : Bool × Bool
  entries : List SealEntry
  trains : List SealedTrain
  crcOk : Bool
  deriving DecidableEq, Repr
/-- What a Backsight flit carries (R303). The spec lays out classes 1 and 2 only. -/
inductive TwinMsg
  | time (stamp : Nat)
  | codes (frame sample : Nat) (codes : Vector Int 18)
  | words (frame sample : Nat) (w : SampleWords)
  | status (t : TwinStatus)
  | permitWords (bytes : List Byte)
  | frameWords (w : FrameWords)
  | w2 (done : Bool)
  | verdict (selfOk : Bool)
  | joinRequest
  | joinAccept
  | joinAck (blocks : Nat)
  | launch (leg : Leg) (cmd stake : Nat) (payload : List Byte)
  | train (leg : Leg) (fromB : Bool) (back : TrainBack)
  | block (index : Nat) (data : List Byte)
  | bundle (b : SealBundle)
  | entry (e : SealEntry)
  | idle
  deriving DecidableEq, Repr
/-- STEP of TWIN_STATUS, suspect and dispute apart (R312, R322). -/
inductive TwinStep
  | none | joining | inStep | suspect | dispute
  deriving DecidableEq, Repr
/-- One direction of the Backsight (R303, R304). -/
structure BackDir where
  /-- Messages waiting, with their class (R303). -/
  pending : List (Nat × TwinMsg) := []
  /-- The replay buffer of classes 0 and 3 to 5, oldest first, at most 16, with sequence and class (R304). -/
  replay : List (Nat × Nat × TwinMsg) := []
  /-- Flits of a replay still to be sent. -/
  replaying : List (Nat × Nat × TwinMsg) := []
  nextSeq : Nat := 0
  lastRx : Nat := 255
  nakDue : Bool := false
  /-- The receiver discards until the replay of the next sequence number arrives, and how many flits the replay owes. -/
  discarding : Bool := false
  owed : Nat := 0
  onWire : Option (Nat × TwinMsg) := none
  /-- The 64 bytes of the flit on the wire (R302). -/
  wire : List Byte := []
  deriving DecidableEq, Repr
/-- Twin operation (R299 to R323). -/
structure Twin where
  /-- The role decision of R300 has been made, or unit B still waits for START_WAIT. -/
  waiting : Bool := false
  up : Bool := false
  /-- The link has reached UP in this start (R305). -/
  everUp : Bool := false
  noLink : Bool := false
  incompatible : Bool := false
  degraded : Bool := false
  /-- TAKEOVER_N low, ACTIVE_N low, PEER_ALIVE_OUT high, PEER_ALIVE_IN high (pins, R314, R313). -/
  takeoverOut : Bool := false
  activeN : Bool := false
  aliveOut : Bool := false
  peerAlive : Bool := false
  /-- The frame at whose boundary the active unit releases TAKEOVER_N (R308). -/
  releaseAt : Option Nat := none
  step : TwinStep := .none
  /-- The frame from whose boundary the standby is eligible (R309). -/
  eligibleFrom : Option Nat := none
  /-- Stamp since which the pair has been in step (IN_STEP_TIME). -/
  inStepAt : Nat := 0
  /-- Join blocks received or sent, and the phase is final (R308). -/
  blocks : Nat := 0
  final : Bool := false
  /-- PEER_SERIAL_SEEN, the peer's announced role, its read-back of SFO0 to SFO7. -/
  peerSerial : Nat := 0
  peerRole : Nat := 3
  peerReadback : Nat := 0
  /-- Codes forwarded for the sample in hand, and what has not come (R307). -/
  codes : Option (Vector Int 18) := none
  /-- The standby's own codes at the last latch (R307). -/
  ownCodes : Vector Int 20 := Vector.replicate 20 0
  /-- Consecutive samples in which the code of MDi differs (R307). -/
  diffRun : Vector Nat 18 := Vector.replicate 18 0
  /-- Legs whose codes were missing in the last sample (NOT_COMPUTED, R303). -/
  missing : Bool := false
  /-- The peer's last sample words, permit words and frame words (R310). -/
  peerWords : Option SampleWords := none
  /-- Own sample words of the last write (R310). -/
  ownWords : Option SampleWords := none
  /-- Frame and sample that raised the suspicion, or are disputed (R311). -/
  suspectAt : Nat × Nat := (0, 0)
  peerPermit : Option (List Byte) := none
  peerFrame : Option FrameWords := none
  /-- Own words kept for the comparison. -/
  ownFrame : Option FrameWords := none
  /-- W2 of the peer completed in this frame (R308). -/
  peerW2 : Option Bool := none
  /-- W2 of the active unit, and of the standby, completed in the previous frame (R306). -/
  w2Prev : Bool × Bool := (true, true)
  /-- Frame of the last complete seal bundle (R306). -/
  sealed : Nat := 0
  /-- Verdicts of a dispute, own and peer's: SELF_OK (R311). -/
  own : Option Bool := none
  peer : Option Bool := none
  /-- SINGLE_DIFFS, MISMATCHES, DIVERGENCES, TAKEOVERS, BACKSIGHT_ERRORS (u32, R322). -/
  singleDiffs : Nat := 0
  mismatches : Nat := 0
  divergences : Nat := 0
  takeovers : Nat := 0
  errors : Nat := 0
  late : Nat := 0
  /-- Stamps of divergences of the last 10 min (R308). -/
  divergeAt : List Nat := []
  /-- LAST_TAKEOVER (u64), LAST_OUTCOME, and word and frame of LAST_DISPUTE (R322). -/
  lastTakeover : Nat := 0
  outcome : Nat := 0
  disputeOutcome : Nat := 0
  disputeWord : Nat := 0
  disputeFrame : Nat := 0
  /-- Stamp D of a takeover decision that waits for its switch (R314). -/
  decided : Option Nat := none
  /-- Frame at whose boundary a swap acts (R319). -/
  swapAt : Option Nat := none
  /-- The own fault has been declared (R313). -/
  ownFault : Bool := false
  rx : BackDir := {}
  tx : BackDir := {}
  deriving DecidableEq, Repr
/-- Status of a DMA channel, in the order of CH_STATE (R375). -/
inductive ChSt
  | idle | active | waiting | halted | draining | disabled
  deriving DecidableEq, Repr
/-- What a descriptor does (R363, R364). -/
inductive DmaOp
  | read | write | erase
  deriving DecidableEq, Repr
/-- A DMA channel (R361 to R369). -/
structure Channel where
  st : ChSt := .idle
  op : DmaOp := .read
  /-- First byte of the descriptor in the logical page space, and its length in bytes. -/
  addr : Nat := 0
  len : Nat := 0
  /-- The bytes to write, or the bytes delivered (R364). -/
  data : List Byte := []
  /-- PROGRESS (R364). -/
  progress : Nat := 0
  /-- The program buffer (R363). -/
  buffer : List Byte := []
  /-- A program or erase of the channel has been issued (R363). -/
  issued : Bool := false
  /-- The unit at PROGRESS has been repeated once (R368). -/
  retried : Bool := false
  /-- FAULT, FAULT_PAGE, DMA_FAULTS (R375). -/
  fault : Nat := 0
  faultPage : Nat := 0
  faults : Nat := 0
  deriving DecidableEq, Repr
/-- A store port (R354 to R356, R370, R375). -/
structure Port where
  /-- SA_KIND: 0 absent, 1 NOR, 2 NAND; capacity in MB. -/
  kind : Nat := 0
  mb : Nat := 0
  up : Bool := false
  down : Bool := false
  /-- RETIRED_BLOCKS and PORT_RESETS. -/
  retired : Nat := 0
  resets : Nat := 0
  /-- Remapped NAND blocks with their replacement, and whether the device holds a remap table (R356). -/
  remap : List (Nat × Nat) := []
  hasMap : Bool := false
  /-- The channel last granted a burst (R362). -/
  last : Nat := 15
  /-- The channel whose program or erase is in progress, and the suspends of that erase (R363). -/
  busy : Option Nat := none
  suspends : Nat := 0
  /-- A recovery is running; stamps of failed ones within 10 s (R370). -/
  recovering : Bool := false
  failAt : List Nat := []
  deriving DecidableEq, Repr
/-- Who waits for a deferred reply: the OP, the key slot, TAG, address and port of the request (R374, R449). -/
structure HostCtx where
  op : Nat
  key : Nat
  tag : Nat
  ip : Nat
  port : Nat
  deriving DecidableEq, Repr
/-- A host window (R372 to R374). -/
structure HostWin where
  /-- SUBOP in progress, and who waits for its reply. -/
  op : Nat := 6
  reply : Option HostCtx := none
  /-- Address of the next byte of a held partial unit, and the unit so far (R373). -/
  next : Nat := 0
  held : List Byte := []
  /-- Held bytes of the operation in progress that precede its own data, for PROGRESS (R374). -/
  before : Nat := 0
  deriving DecidableEq, Repr
/-- The store (R354 to R376). -/
structure StoreUnit where
  port : Vector Port 2 := Vector.replicate 2 {}
  ch : Vector Channel 16 := Vector.replicate 16 {}
  /-- The channel last granted on the on-chip fabric (R362). -/
  fabricLast : Nat := 15
  /-- SUSPENDS, RESERVE_EMPTY, TRUNCATED, STORE_SHORT (R375). -/
  suspends : Nat := 0
  reserveEmpty : Bool := false
  truncated : Bool := false
  short : Bool := false
  win : Vector HostWin 2 := Vector.replicate 2 {}
  /-- The accepted plat awaits its copy into the archive (R99). -/
  archiveDue : Bool := false
  deriving DecidableEq, Repr

/-- One Ethernet port (R393, R394, R400, R421). -/
structure Lan where
  present : Bool := false
  link : Bool := false
  aneg : Bool := false
  speed : Nat := 0
  /-- Consecutive polls without link (R394). -/
  misses : Nat := 0
  degraded : Bool := false
  rxFrames : Nat := 0
  rxErrors : Nat := 0
  wrongLan : Nat := 0
  deriving DecidableEq, Repr
/-- A node of the PRP node table: MAC, and the SeqNr, port and stamp of its frames of the last 400 ms (R399). -/
structure PrpNode where
  mac : Nat
  seen : List (Nat × Nat × Nat)
  deriving DecidableEq, Repr
/-- PTP (R401 to R403). -/
structure Ptp where
  /-- PTP_PORT: 0 LAN A, 1 LAN B. -/
  lan : Nat := 0
  /-- The latest Announce of each master. -/
  masters : List Announce := []
  /-- The selected master's clockIdentity and port number. -/
  selected : Option (List Byte) := none
  /-- A Sync that awaits its Follow_Up: sequenceId, t2 in ns, correction in ns. -/
  sync : Option (Nat × Int × Int) := none
  /-- The Delay_Req that awaits its answer: sequenceId, t3 in ns; the next sequenceId. -/
  delayReq : Option (Nat × Int) := none
  reqSeq : Nat := 0
  /-- t2 − t1 of the last Sync, and t4 − t3 of the last answer, in ns. -/
  down : Option Int := none
  upPath : Option Int := none
  /-- Sync intervals since that answer. -/
  upAge : Nat := 0
  /-- PTP_PATH (i32, ns). -/
  path : Int := 0
  deriving DecidableEq, Repr
/-- Ethernet, PRP and IP (R393 to R406, R421). -/
structure Net where
  lan : Vector Lan 2 := Vector.replicate 2 {}
  /-- The ARP cache: address and MAC, newest first, at most 32 (R396). -/
  arp : List (Nat × Nat) := []
  /-- SeqNr of the next PRP frame (16 bits, R398), and supervision frame pairs sent. -/
  txSeq : Nat := 0
  supervision : Nat := 0
  /-- The node table (64 nodes, R399). -/
  nodes : List PrpNode := []
  duplicates : Nat := 0
  /-- Datagrams and frames discarded under R396. -/
  discarded : Nat := 0
  /-- ARP replies, gratuitous ARPs and ICMP replies sent (R396, R397); ICMP replies in the second that counts. -/
  arpSent : Nat := 0
  gratuitous : Nat := 0
  icmpSent : Nat := 0
  icmpNow : Nat := 0
  icmpSecond : Nat := 0
  ptp : Ptp := {}
  /-- TG_PAIRED, TG_SINGLE, TG_MISMATCH, TG_DUPLICATE, TG_LATE (R406). -/
  tg : Vector Nat 5 := Vector.replicate 5 0
  deriving DecidableEq, Repr

/-- A host message of the module (R407), its MAC apart: `auth` says whether it carries one under the slot's key. -/
structure HostMsg where
  op : Nat
  flags : Nat
  status : Nat
  key : Nat
  nonce : Nat
  tag : Nat
  payload : List Byte
  auth : Bool
  ip : Nat
  port : Nat
  deriving DecidableEq, Repr
/-- What the module keeps per key slot (R409). -/
structure HostSlot where
  /-- Highest accepted NONCE, and the accepted ones of the 64 below it. -/
  nonce : Nat := 0
  accepted : List Nat := []
  /-- The module's own NONCE counter of the slot. -/
  txNonce : Nat := 0
  /-- The last 16 responses, newest first, with their stamps. -/
  responses : List (Nat × HostMsg) := []
  deriving DecidableEq, Repr
/-- A subscription (R414): SUB_ID, destination and key, PERIOD, items (ID, FIRST, NUM), its first frame, publications
sent, and the stamp of its last renewal. -/
structure Sub where
  id : Nat
  ip : Nat
  port : Nat
  key : Nat
  period : Nat
  items : List (Nat × Nat × Nat)
  first : Nat
  count : Nat
  renewed : Nat
  deriving DecidableEq, Repr
/-- A follower of host events (R415). -/
structure Follower where
  ip : Nat
  port : Nat
  key : Nat
  count : Nat
  renewed : Nat
  deriving DecidableEq, Repr
/-- The host protocol (R407 to R421). -/
structure HostUnit where
  slot : Vector HostSlot 8 := Vector.replicate 8 {}
  /-- Responses waiting for W4, and messages sent in this start, newest last. -/
  outbox : List HostMsg := []
  sent : List HostMsg := []
  /-- Responses to forwarded requests, sent only if the unit is ACTIVE in W4 (R419). -/
  shadow : List HostMsg := []
  /-- Requests held while KEYS_VALID is clear (R467): OP and request. -/
  held : List (Nat × HostReq) := []
  /-- Requests admitted to the present seal (R409). -/
  admitted : Nat := 0
  /-- HOST_AUTH_FAIL, HOST_REPLAY, HOST_BUSY, EVENT_OVERFLOW (R421). -/
  authFail : Nat := 0
  replay : Nat := 0
  busy : Nat := 0
  overflow : Nat := 0
  /-- Failures since the last record; unauthenticated replies of the second that counts (R409). -/
  failNow : Nat := 0
  unauthNow : Nat := 0
  unauthSecond : Nat := 0
  subs : List Sub := []
  followers : List Follower := []
  /-- Accepted writes that apply at the next frame boundary: object, element, value (R30, R48). -/
  writes : List (Nat × Nat × Int) := []
  /-- Events were dropped in the last frame, so that an entry of CODE 10 follows (R415). -/
  dropped : Bool := false
  deriving DecidableEq, Repr

/-- A CAN transmit buffer (R426). -/
structure CanTx where
  /-- 0 EMPTY, 1 PENDING, 2 ON_WIRE, 3 DONE, 4 ABORTED, 5 FAILED. -/
  st : Nat := 0
  frame : CanFrame := { ide := false, fd := false, brs := false, id := 0, data := [] }
  oneShot : Bool := false
  /-- An abort waits for the end of the attempt on the wire. -/
  abort : Bool := false
  /-- Stamp of the last success (R425, R435). -/
  stamp : Nat := 0
  deriving DecidableEq, Repr
/-- An entry of a receive queue (R429): SEQ, frame, stamp, sealed. -/
structure CanRx where
  seq : Nat
  frame : CanFrame
  stamp : Nat
  sealed : Bool
  deriving DecidableEq, Repr
/-- A CAN controller (R423 to R441). -/
structure Can where
  /-- CTRL_STATE: 0 OFF, 1 integrating, 2 running, 3 DRAINING, 4 DISABLED. -/
  st : Nat := 0
  enable : Bool := false
  /-- An enable that waits for the drain (R50). -/
  heldEnable : Bool := false
  listen : Bool := false
  detecting : Bool := false
  /-- i, good and errors of R431. -/
  rate : Nat := 0
  good : Nat := 0
  errors : Nat := 0
  /-- RATE_IN_USE: arbitration and data codes. -/
  arb : Nat := 0
  dat : Nat := 0
  /-- ERR_STATE, TEC, REC. -/
  err : Nat := 0
  tec : Nat := 0
  rxe : Nat := 0
  tx : Vector CanTx 3 := Vector.replicate 3 {}
  /-- The module's transmit queue, 32 frames, oldest first (R428). -/
  queue : List CanFrame := []
  /-- The receive queue, oldest first, 64 entries, and the next SEQ (R429). -/
  rxq : List CanRx := []
  nextSeq : Nat := 0
  rxFrames : Nat := 0
  txFrames : Nat := 0
  rxDropped : Nat := 0
  txDropped : Nat := 0
  rxRemote : Nat := 0
  busOffs : Nat := 0
  mapShort : Nat := 0
  /-- SW_QUEUE_OVF and RXQ_DROP. -/
  ovf : Bool := false
  drop : Bool := false
  /-- Receive map entries whose condition is raised, and those that have timed out (R432). -/
  raised : List Nat := []
  timedOut : List Nat := []
  /-- COUNTER of status message 0 (R434). -/
  counter : Nat := 0
  deriving DecidableEq, Repr

/-- Firmware update and slots (R442 to R459). -/
structure Update where
  /-- SESSION: 0 none, 1 header accepted, 2 body complete, 3 applying, 4 held, 5 TRIAL ready. -/
  session : Nat := 0
  /-- The session's header (256 bytes). -/
  header : List Byte := []
  /-- UPD_RECEIVED, UPD_APPLIED, LAST_RESULT. -/
  received : Nat := 0
  applied : Nat := 0
  lastResult : Nat := 0
  /-- Body blocks applied (R452). -/
  block : Nat := 0
  /-- ABORT waits for the block in progress (R452). -/
  abortDue : Bool := false
  /-- UPDATE_ENABLE. -/
  enable : Bool := true
  /-- RUNNING_SLOT, TRIAL_RUNNING, FALLBACK. -/
  slot : Nat := 0
  trial : Bool := false
  fallback : Bool := false
  /-- The trial timer's limit in s from entry to BOOT (R453), and whether the trial began in recovery (R454). -/
  trialLimit : Nat := 600
  /-- Consecutive frames towards TRIAL_FRAMES (R454). -/
  frames : Nat := 0
  /-- A trial end code that waits for the end of the orderly stop (R455). -/
  endDue : Nat := 0
  /-- Who waits for the reply to the body in programming (R449). -/
  reply : Option HostCtx := none
  deriving DecidableEq, Repr

/-- Self-test, key store and debug (R460 to R472). -/
structure SelfTest where
  /-- SLICE_INDEX, PASS_COUNT, LAST_PASS_TIME, SLICE_FAILS, SKIPPED_SLOTS. -/
  slice : Nat := 0
  passes : Nat := 0
  lastPass : Nat := 0
  fails : Nat := 0
  skipped : Nat := 0
  /-- BIST_ENABLE; RUN_STATE: 0 not started, 1 running, 2 DRAINING, 3 DISABLED. -/
  enable : Bool := true
  run : Nat := 0
  /-- PASS_LATE, RETEST, IN_SLICE, KEYS_VALID, KEY_FAULT, DEBUG_OPEN. -/
  late : Bool := false
  retest : Bool := false
  inSlice : Bool := false
  keysValid : Bool := false
  keyFault : Bool := false
  debugOpen : Bool := false
  /-- OP_TIME in ms at the start of the pass in progress (R463). -/
  passStart : Nat := 0
  /-- A re-derivation has failed once (R467). -/
  rederiveFailed : Bool := false
  /-- Debug challenges issued, and failed attempts (R469). -/
  challenges : Nat := 0
  attempts : Nat := 0
  deriving DecidableEq, Repr

end Sys2Proof.Machine
end

