-- ==== Sys2Proof/Syntax.lean ====
section
/-! DEFINITION. The commands of the block, one constructor per row of spec/opcode_table.json. Their operand types stand in
Types.lean; the state that a join copies is made of the parts of Machine/Parts.lean. -/
namespace Sys2Proof

/-- What a join gives the standby (R308): the active unit's state of every engine: estimator, sequencer, steering, safety
pair, Traverse tables, engines with banks, applied words, histories and direct-reference state, dark-test counts, and the
frame number. The spec gives the blocks that carry it no layout, so it comes whole, with the join's completion (log 74). -/
structure JoinState where
  frame : Nat
  mode : Machine.Mode
  cells : List (Nat × Machine.Cell)
  temps : List (Nat × Machine.TempPoint)
  sdiag : List (Nat × Machine.StationDiag)
  diag : Vector Machine.LegDiag 4
  ring : Vector Machine.Ring 4
  est : List (Nat × Machine.EstCell)
  eleg : Vector Machine.EstLeg 4
  stringSoc : Nat
  mdOffset : Vector Int 20
  mdOffsetDue : List (Nat × Int × Nat)
  probe : Vector Machine.ProbePair 2
  llim : Vector Machine.LegLimits 4
  slim : Machine.StringLimits
  str : Machine.StringConv
  conv : Vector Machine.LegConv 4
  cle : Vector Machine.Cle 4
  therm : Machine.Thermal
  axis : Vector Machine.Axis 4
  sf : Machine.Safety
  deriving DecidableEq, Repr

/-- The commands and events of the module, in the order of the opcode table. -/
inductive Instr
  /-- POWER_ON_RELEASE (R57): Either supply input has stayed at or above 4.50 V for 10 ms, so the module leaves OFF and enters BOOT. -/
  | powerOnRelease (v : SupplyMv)
  /-- BROWN_OUT (R65): The higher supply input falls below 3.9 V, so the module resets, every output becomes high-impedance and the module enters OFF. -/
  | brownOut (v : SupplyMv)
  /-- SUPPLY_SWITCH_TO_VBACK (R58): VMAIN falls below 4.35 V while VBACK qualifies, so the module transfers to VBACK, counts the transfer, records it and triggers a learned-value write. -/
  | supplySwitchToVback (v : SupplyMv)
  /-- VMAIN_RETURN (R58): VMAIN has been at least 4.6 V for 50 ms while the module runs on VBACK, so the module returns to VMAIN. -/
  | vmainReturn (v : SupplyMv)
  /-- VBACK_FAIL_RETURN (R58): VBACK falls below 4.35 V while VMAIN qualifies, so the module returns to VMAIN at once. -/
  | vbackFailReturn (v : SupplyMv)
  /-- RAIL_OVERLOAD (R61): An exported rail reaches its current limit, folds back and sets its overload flag. -/
  | railOverload (rail : Rail)
  /-- LAST_GASP_START (R62): Both inputs are below 4.2 V, so the field die stops the plant outputs, the cores halt, the supply-lost record and the short set are written, and the module enters STOPPING. -/
  | lastGaspStart (v : SupplyMv)
  /-- LAST_GASP_COMPLETE (R66): The last-gasp work completes, so the module resets and starts again through BOOT. -/
  | lastGaspComplete
  /-- WATCHDOG_EXPIRY (R68): The management core has not refreshed the core-die watchdog for 50 ms, so the module resets with cause WATCHDOG. -/
  | watchdogExpiry
  /-- RESETREQ_ARM (R69): RESETREQ_N has been high for 20 ms continuously, so the monitor arms. -/
  | resetreqArm
  /-- RESETREQ_FALLING_EDGE (R69): A falling edge on RESETREQ_N starts the 20 ms low qualification of an armed monitor. -/
  | resetreqFallingEdge
  /-- RESETREQ_RESET (R69): RESETREQ_N has stayed low for 20 ms after the edge, so the monitor triggers one reset, or a wake in LAID-UP, and disarms. -/
  | resetreqReset
  /-- RESETREQ_STUCK (R70): RESETREQ_N has stayed low for 5 s, so the monitor sets RESETREQ_STUCK and writes a stuck record. -/
  | resetreqStuck
  /-- RESETREQ_STUCK_REARM (R70): After a stuck episode RESETREQ_N has been high for 100 ms, so the monitor re-arms. -/
  | resetreqStuckRearm
  /-- REFCLK_LOSS (R481): REFCLK stops or departs from 25 MHz by more than 1 % for 4 µs, so the module stops every phase, drops the safety outputs and resets through the watchdog. -/
  | refclkLoss
  /-- REFCLK_RETURN (R481): REFCLK has been present for 10 ms after a loss, so the module leaves its reset hold and enters BOOT. -/
  | refclkReturn
  /-- BOOT_SLOT_SELECT (R445): In BOOT the management core marks failed trials, verifies the candidate slots in order and runs the first verified one, or stays in BOOT. -/
  | bootSlotSelect (saProbe : PortProbe) (sbProbe : PortProbe) (readFault : Nat)
  /-- STARTUP_BIST_COMPLETE (R460): The start-up BIST of the safety pair and the field die completes, so the module loads the key store and enters PLAT, or records the failed targets and goes to FAULT-HOLD. -/
  | startupBistComplete (failed : Nat)
  /-- PLAT_INSTALL_PROGRAM (R101): At PLAT with READY set, the module checks the staged copy against the install-control entry, programs it into the target slot, reads it back and records the outcome. -/
  | platInstallProgram (readBack : List Byte)
  /-- PLAT_HEADER_READ (R94): The module reads the JEDEC ID and both plat headers and checks each header alone. -/
  | platHeaderRead (jedec : JedecTry) (readA : ReadTry) (readB : ReadTry)
  /-- PLAT_BODY_CHECK (R96): The body read of a candidate plat copy completes and is checked, so the copy is accepted or the next candidate is read. -/
  | platBodyCheck (read : ReadTry)
  /-- STATE_LIMIT_EXPIRY (R75): A start-up state exceeds its time limit, so the module enters FAULT-HOLD with the cause recorded. -/
  | stateLimitExpiry
  /-- MCK_PHASE_TRAINING (R482): After MCK has run for 10 ms in LOAD, the module trains the sampling phase of each sigma-delta input and fixes it for the start. -/
  | mckPhaseTraining (busy : Vector Nat 20)
  /-- TWIN_ROLE_DECISION (R300): On entry to LOAD a twin member decides its role from the peer's announcement and PEER_ALIVE_IN. -/
  | twinRoleDecision (peerActive : Bool) (peerAliveIn : Bool)
  /-- TWIN_START_WAIT_EXPIRY (R300): START_WAIT expires, so unit B becomes ACTIVE alone, or STANDBY with NO_LINK set. -/
  | twinStartWaitExpiry (peerAliveIn : Bool)
  /-- LOAD_COMPLETE (R71): The engines are loaded and verified and station code runs on every reachable station, so the module enters STAKING. -/
  | loadComplete
  /-- LEARNED_VALUES_READ (R222): At start the module reads the newest valid full set and any matching short set, or initialises every cell. -/
  | learnedValuesRead
  /-- OFFSET_CALIBRATION_COMPLETE (R177): A 1,000 ms offset calibration with PWMEN_Ln low completes, so the new OFFSET applies from the next frame boundary and a large change is recorded. -/
  | offsetCalibrationComplete (leg : Leg) (sum : Int) (n : Nat) (means : List (Nat × Int))
  /-- OFFSET_CALIBRATION_START (R177): PWMEN_Ln has been low for 2 s in SURVEYED, ARMED or RUNNING, so a new offset calibration begins. -/
  | offsetCalibrationStart (leg : Leg)
  /-- SURVEYED_ENTRY (R74): Every start-up condition holds, so the module enters SURVEYED, or FAULT-HOLD if no leg is available. -/
  | surveyedEntry
  /-- BASELINE_FLIT_SEND (R21): At each flit slot the sender sends a pending replay, else the pending flit of the lowest class, else an idle flit. -/
  | baselineFlitSend (dir : BaseDir)
  /-- BASELINE_FLIT_RECEIVED (R22): A Baseline flit arrives; on a CRC failure it and every later flit are discarded and a NAK is sent. -/
  | baselineFlitReceived (dir : BaseDir) (crcOk : Bool)
  /-- BASELINE_FLIT_RELEASE (R22): A correctly received flit is released to its consumer at 400 ns, at 600 ns after a replay, or late, and a class 1 flit past its latch is discarded. -/
  | baselineFlitRelease (dir : BaseDir) (timing : ReleaseAt)
  /-- BASELINE_NAK_RECEIVED (R22): A flit carrying NAK arrives, so the sender replays from the named sequence number out of its replay buffer. -/
  | baselineNakReceived (dir : BaseDir) (ack : Nat)
  /-- BASELINE_UP (R24): The Baseline first reaches UP after a reset, so loss supervision is armed and the core engines are loaded. -/
  | baselineUp
  /-- BASELINE_LOSS_FIELD (R25): The field die has released no good flit for 200 µs, so it runs the autonomous stop. -/
  | baselineLossField
  /-- AUTONOMY_PERMIT_DROP (R25): Every leg has stayed below I_zero for 20 ms, or T_max has elapsed, so the field die drops the permit and sets AUTONOMY. -/
  | autonomyPermitDrop
  /-- BASELINE_LOSS_CORE (R26): The core die has released no good flit for 200 µs, so it records the loss, raises ALERT_N and enters STOPPING or FAULT-HOLD by state. -/
  | baselineLossCore
  /-- BASELINE_LOSS_HOLD_EXPIRY (R26): T_MAX plus OPERATE_T has elapsed since the core die declared the loss, so the module enters FAULT-HOLD. -/
  | baselineLossHoldExpiry
  /-- MEMORY_ECC_CORRECTED (R19): An on-chip memory access corrects a single-bit error and counts it. -/
  | memoryEccCorrected (region : EccRegion)
  /-- MEMORY_ECC_UNCORRECTABLE (R19): An uncorrectable on-chip memory error stops the string, faults a leg or discards a train, depending on the region. -/
  | memoryEccUncorrectable (region : EccRegion)
  /-- LOCKSTEP_MISMATCH (R290): The safety cores disagree on a bus cycle, so the safety pair stops and the permit timeout follows with cause 17. -/
  | lockstepMismatch
  /-- FRAME_BOUNDARY (R35): A frame boundary advances the frame number, latches the field-die data, realigns the Meridian copy and runs the boundary checks of running stops. -/
  | frameBoundary (l : FieldLatch)
  /-- SAMPLE_BOUNDARY (R39): A sample period starts on the grid, adjusted while the grid slews, and SYNCOUT pulses. -/
  | sampleBoundary
  /-- WINDOW_W0_SEAL (R28): At the seal instant the inputs already released are frozen as the frame's inputs and forwarded to a twin standby. -/
  | windowW0Seal
  /-- WINDOW_W1_SAFETY (R41): The safety pair evaluates the safety image and sealed inputs and hands the permit frame to the Baseline. -/
  | windowW1Safety
  /-- WINDOW_W2_ESTIMATION (R200): The application cores propagate the cell model, take up any round and compute the limits and warnings. -/
  | windowW2Estimation
  /-- WINDOW_W3_DISPATCH (R241): AC2 handles dispatch, leg steering and the probe schedule. -/
  | windowW3Dispatch
  /-- WINDOW_W4_OUTPUTS (R41): AC2 writes the next frame's set-points, and AC3 sends publications, host events and CAN frames. -/
  | windowW4Outputs
  /-- WINDOW_W5_STORE (R41): The management core does the store writes, Field Book programming and learned-value work. -/
  | windowW5Store
  /-- WINDOW_OVERRUN (R44): A window ends with its work unfinished, so the overrun is counted and recorded and its consequences apply. -/
  | windowOverrun (w : Fin 6) (engineUs : Nat)
  /-- FUNCTION_DRAIN_COMPLETE (R48): The last unit of a disabled function completes, so it reports DISABLED and any held enable resumes. -/
  | functionDrainComplete (fn : DrainFn)
  /-- SYNCIN_EDGE (R37): A SYNCIN rising edge is stamped and counted towards qualification, and a qualified SYNCIN becomes the grid source. -/
  | syncinEdge (stamp : Nat)
  /-- SYNCIN_LOSS (R37): SYNCIN has no edge for 1.5 periods, or 4 periods out of range, so the grid slews to the next source. -/
  | syncinLoss
  /-- PPS_OUT_SECOND (R54): The Meridian crosses a whole second, so PPS_OUT pulses for 100 µs. -/
  | ppsOutSecond
  /-- PPS_IN_EDGE (R54): A rising edge on PPS_IN is stamped and published. -/
  | ppsInEdge (stamp : Nat)
  /-- PTP_ANNOUNCE_RECEIVED (R402): A PTP Announce is received and the master is selected by the dataset comparison. -/
  | ptpAnnounceReceived (a : Announce)
  /-- PTP_SYNC_RECEIVED (R402): A two-step PTP Sync is received and stamped. -/
  | ptpSyncReceived (lan : Fin 2) (identity : List Byte) (seqId : Nat) (t2 : Nat) (corr : Int)
  /-- PTP_FOLLOW_UP_RECEIVED (R52): A Follow_Up completes a valid Sync, so an offset is formed and the Meridian is stepped or rate-corrected. -/
  | ptpFollowUpReceived (lan : Fin 2) (identity : List Byte) (seqId : Nat) (t1 : Int) (corr : Int)
  /-- PTP_DELAY_REQ_SEND (R402): At the master's delay request interval the module sends a Delay_Req. -/
  | ptpDelayReqSend (t3 : Nat)
  /-- PTP_DELAY_RESP_RECEIVED (R402): A Delay_Resp is received and updates the mean path delay. -/
  | ptpDelayRespReceived (lan : Fin 2) (identity : List Byte) (seqId : Nat) (t4 : Int) (corr : Int)
  /-- PTP_SYNC_TIMEOUT (R53): No valid Sync has arrived for 3 s, so PTP_LOCKED clears, HOLDOVER is set and a Meridian-derived grid moves to free-run. -/
  | ptpSyncTimeout
  /-- PTP_MASTER_TIMEOUT (R402): A master has sent no Announce for 3 intervals, so it is dropped. -/
  | ptpMasterTimeout (lan : Fin 2) (identity : List Byte)
  /-- PTP_PORT_FAILOVER (R403): In automatic mode the PTP port has had no valid Sync for PTP_FAILOVER, so PTP moves to the other port. -/
  | ptpPortFailover
  /-- COMMAND_LAY_UP (R76): The host lays the module up, so it runs the laid-up sequence of threshold setting, persistence, book close and SLEEP. -/
  | commandLayUp (r : HostReq)
  /-- LAYUP_PERSIST_DONE (R76): The laid-up learned-value set has its valid mark or 10 s have passed, so the Field Book closes, SLEEP is sent and the module powers down into LAID-UP. -/
  | layupPersistDone
  /-- WAKE_IN_EDGE (R78): A rising edge on WAKE_IN that stays high for 1 ms wakes the module from LAID-UP through BOOT. -/
  | wakeInEdge
  /-- WAKE_TONE (R78): A station wake tone present for 2 ms on a leg's receive port wakes the module. -/
  | wakeTone (leg : Leg)
  /-- WAKE_TIMER_EXPIRY (R78): LAYUP_TIMER hours have elapsed in LAID-UP, so the module wakes. -/
  | wakeTimerExpiry
  /-- TRAVERSE_STAKE (R125): A STAKE frame stakes each unstaked station in chain order, with each station forwarding NEXT altered and appending its record. -/
  | traverseStake (x : RingTx) (next : Nat) (dir : Nat)
  /-- TRAVERSE_UNSTAKE_ALL (R124): UNSTAKE_ALL drops every station's stake and resets its registers 0x0010 to 0x0013. -/
  | traverseUnstakeAll (x : RingTx)
  /-- TRAVERSE_PING (R127): A PING returns station uptime and counts and, with TURN, is turned for the round-trip measurement. -/
  | traversePing (x : RingTx) (turn : Bool)
  /-- TRAVERSE_SAMPLE_AT (R122): SAMPLE_AT schedules each staked station's cell conversion at its reference instant plus WAIT. -/
  | traverseSampleAt (x : RingTx) (round : Nat) (tag : Nat) (wait : List Nat)
  /-- TRAVERSE_READ_CELLS (R122): READ_CELLS returns a held round's cell voltages and flags from each addressed station. -/
  | traverseReadCells (x : RingTx) (round : Nat)
  /-- TRAVERSE_READ_TEMPS (R149): READ_TEMPS returns each addressed station's temperature points and their age. -/
  | traverseReadTemps (x : RingTx)
  /-- TRAVERSE_READ_HOUSEKEEPING (R151): READ_HOUSEKEEPING returns the station's die temperature, stack voltage, references, supply, bleed mask and faults. -/
  | traverseReadHousekeeping (x : RingTx)
  /-- TRAVERSE_BALANCE_SET (R122): BALANCE_SET applies each station's bleed mask for DURATION, reporting the refused bits. -/
  | traverseBalanceSet (x : RingTx) (duration : Nat) (mask : List Nat)
  /-- TRAVERSE_QUIET (R122): QUIET holds every bleed switch off for a window. -/
  | traverseQuiet (x : RingTx) (start : Nat) (length : Nat)
  /-- TRAVERSE_OPEN_WIRE_TEST (R160): OPEN_WIRE_TEST starts a sense-line test and returns the record of the last ended test. -/
  | traverseOpenWireTest (x : RingTx) (wires : Nat)
  /-- TRAVERSE_BAL_SWITCH_TEST (R162): BAL_SWITCH_TEST starts a bleed-switch test and returns the record of the last ended test. -/
  | traverseBalSwitchTest (x : RingTx) (mask : Nat)
  /-- TRAVERSE_SET_SLEEP_THRESHOLDS (R165): SET_SLEEP_THRESHOLDS stores the laid-up check thresholds in each station and echoes them. -/
  | traverseSetSleepThresholds (x : RingTx) (ov : Nat) (uv : Nat) (ot : Int) (ut : Int) (period : Nat)
  /-- TRAVERSE_SLEEP (R166): SLEEP with the correct key puts each station into periodic laid-up checking. -/
  | traverseSleep (x : RingTx) (key : Nat)
  /-- TRAVERSE_CODE_LOAD (R135): CODE_LOAD delivers 48 image bytes to the addressed loaders, and with ADDR 0 returns running stations to their ROM loader. -/
  | traverseCodeLoad (x : RingTx) (addr : Nat) (data : List Byte)
  /-- TRAVERSE_CODE_RUN (R135): CODE_RUN checks each station's loaded image, starts the operating code or reports what is missing, and counts the leg's attempt. -/
  | traverseCodeRun (x : RingTx) (length : Nat) (crc : Nat) (version : Nat)
  /-- TRAVERSE_READ_REG (R124): READ_REG returns station register values. -/
  | traverseReadReg (x : RingTx) (addr : Nat) (count : Nat)
  /-- TRAVERSE_WRITE_REG (R124): WRITE_REG writes the writable station registers, or nothing if the range includes another address. -/
  | traverseWriteReg (x : RingTx) (addr : Nat) (values : List Nat)
  /-- TRAIN_RETURNED (R119): A train returns to its originating end and its command part and records are checked and entered. -/
  | trainReturned (leg : Leg) (fromB : Bool) (back : TrainBack)
  /-- TRAIN_RETURN_TIMEOUT (R117): A train has not returned within its return timeout, so it is counted as missing and a command with effect is retried. -/
  | trainReturnTimeout (leg : Leg) (fromB : Bool)
  /-- STATION_CONVERSION (R141): A station converts its 16 cells and STACK_V at its reference instant plus WAIT and stores the round. -/
  | stationConversion (leg : Leg) (pos : Nat) (cells : List Nat) (stackV : Nat) (late : Bool) (bleedNear : Bool)
  /-- STATION_TEST_END (R123): A station's open-wire or switch test completes or is aborted, and its results become the last ended test. -/
  | stationTestEnd (leg : Leg) (pos : Nat) (openWire : Bool) (aborted : Bool) (values : List Int)
  /-- STATION_BALANCE_EXPIRY (R122): A station's BALANCE_SET duration expires, so its bleeds turn off. -/
  | stationBalanceExpiry (leg : Leg) (pos : Nat)
  /-- STATION_CODE_ECC_ERROR (R124): A station detects an uncorrectable code-memory error, sets FAULTS bit 3 and returns to its ROM loader. -/
  | stationCodeEccError (leg : Leg) (pos : Nat) (passed10ms : Bool)
  /-- STATION_FRAME_TIMEOUT (R130): A station has received no valid frame for 50 ms, so it withholds the forward tone and turns its bleeds off. -/
  | stationFrameTimeout (leg : Leg) (pos : Nat)
  /-- STATION_SLEEP_CHECK (R166): A sleeping station's check period expires, so it converts and confirms violations and sends wake tone bursts. -/
  | stationSleepCheck (leg : Leg) (pos : Nat) (first : SleepReading) (second : SleepReading)
  /-- TONE_LOSS (R131): The return end has seen no qualified tone for TONE_LOSS, so CONTACT_LOST is set and a PING locates the silent element. -/
  | toneLoss (leg : Leg)
  /-- SPLIT_MODE_ENTRY (R133): After two return timeouts or an unreturned contact-loss PING, the leg enters split mode at the next frame boundary. -/
  | splitModeEntry (leg : Leg)
  /-- SPLIT_REFLECT_WAIT (R133): The 5 ms wait of split mode ends, so the module pings from both ends, sets the reach and forces reflect where needed. -/
  | splitReflectWait (leg : Leg)
  /-- LOOP_MODE_RETURN (R134): After 3 sightings the leg clears REFLECT and returns to loop mode at the next frame boundary. -/
  | loopModeReturn (leg : Leg)
  /-- VOLTAGE_ROUND (R145): A regular or extra round starts with its QUIET preamble ahead of its plumb instant. -/
  | voltageRound (kind : RoundKind) (tp : Nat) (phase : List Nat)
  /-- PLUMB_CAPTURE (R142): At T_P the field die captures each leg's voltage and current and latches the charge accumulators. -/
  | plumbCapture (tp : Nat) (caps : List PlumbCap)
  /-- CLOSURE_HOLD_EXPIRY (R158): CLOSURE_FAIL has persisted for CLOSURE_HOLD, so the leg is drained and latched with cause 8. -/
  | closureHoldExpiry (leg : Leg)
  /-- OPEN_WIRE_RETEST (R161): Every 60 s a confirmed open line is tested again. -/
  | openWireRetest (leg : Leg) (stake : Nat) (line : Nat)
  /-- BAL_SWITCH_TEST_SCHEDULE (R164): A switch-test interval, or the first 10 min after SURVEYED, falls due, so one station per leg is tested. -/
  | balSwitchTestSchedule (leg : Leg) (retest : Option Nat)
  /-- TEMP_SLOW_ROUND (R149): Every TEMP_SLOW_MS the module reads the temperatures and housekeeping of every available leg and refreshes one hop delay. -/
  | tempSlowRound
  /-- FAST_LIST_ROUND (R150): Every FAST_MS the module reads the temperatures of the stations on each leg's fast list. -/
  | fastListRound
  /-- FAST_LIST_LEAVE (R150): A station's temperatures have stayed beyond the margin for FAST_LEAVE_S, so it leaves the fast list. -/
  | fastListLeave (leg : Leg) (stake : Nat)
  /-- TEMP_STALE_TIMEOUT (R149): A temperature not refreshed for 2,500 ms becomes invalid. -/
  | tempStaleTimeout (index : Nat)
  /-- BALANCE_PHASE_BOUNDARY (R153): Every 4,000 frames the module plans each balanced leg's bleeds and sends BALANCE_SET. -/
  | balancePhaseBoundary
  /-- PROBE_DUE (R186): PROBE_PERIOD has passed for a pair, which becomes due and is checked for commitment in each W3. -/
  | probeDue (pair : Fin 2)
  /-- PROBE_LEADING_EDGE (R188): The probe offsets take effect at the leading edge E. -/
  | probeLeadingEdge (pair : Fin 2)
  /-- PROBE_TRAILING_EDGE (R189): At E + PROBE_LEN the offsets end and the steering weights are released. -/
  | probeTrailingEdge (pair : Fin 2)
  /-- REST_TIMER_EXPIRY (R183): The leg current has stayed below REST_C for REST_MIN, so true rest begins and rest anchors are due. -/
  | restTimerExpiry (leg : Leg)
  /-- LEARN_PERIOD_EXPIRY (R220): LEARN_PERIOD has passed since the last snapshot, so a periodic learned-value write is triggered. -/
  | learnPeriodExpiry
  /-- LEARNED_SNAPSHOT (R220): At the boundary after a triggering frame's W2, a full set is snapshotted and queued for writing. -/
  | learnedSnapshot
  /-- LEARNED_WRITE_COMPLETE (R220): A full-set write completes with its valid mark, or fails and sets WRITE_FAIL. -/
  | learnedWriteComplete (fault : Nat)
  /-- COMMAND_DISPATCH (R242): The host dispatches a mode, leg mask, target and rate, which is checked, refreshes the watchdog and retargets the reference. -/
  | commandDispatch (r : HostReq)
  /-- MODE_CHANGE_BANK_SWITCH (R239): Once the mode-change ramps end, PWM stops, the CLEs switch bank and the enabled legs soft-start in the new mode. -/
  | modeChangeBankSwitch
  /-- DISPATCH_WATCHDOG_EXPIRY (R244): No dispatch has been accepted for DISPATCH_TIMEOUT, so WD_HOLD is set and the target is held. -/
  | dispatchWatchdogExpiry
  /-- WD_HOLD_EXPIRY (R244): WD_HOLD has lasted WD_HOLD in bus-following mode, so the target becomes zero at the stop slope and WD_EXPIRED is set. -/
  | wdHoldExpiry
  /-- LEG_WAIT_BUS_READY (R245): The bus and headroom conditions have held for 10 ms, so a waiting leg presets its CLE and starts soft start. -/
  | legWaitBusReady (leg : Leg)
  /-- START_INTO_SHORT (R247): V_bus has stayed below SHORT_V for SHORT_T during soft start, so every starting leg stops and waits to retry, or latches with cause 6. -/
  | startIntoShort
  /-- RETRY_SPACING_EXPIRY (R247): RETRY_SPACING ends, so the leg starts soft start again. -/
  | retrySpacingExpiry (leg : Leg)
  /-- SAMPLE_LATCH (R234): At the latch each CLE reads the codes and applied words and computes its three compensators. -/
  | sampleLatch (codes : Vector Int 20)
  /-- COMPARE_WRITE (R269): At the write phase each CLE converts its duties to compare values for the next period. -/
  | compareWrite
  /-- PWM_CARRIER_START (R232): A phase's carrier restarts, applying its new compare value and ending any trip hold. -/
  | pwmCarrierStart (p : Phase)
  /-- FAST_LIMIT_TRIP (R248): A fast-path phase current exceeds FAST_LIMIT, so the phase outputs go low until the next carrier start. -/
  | fastLimitTrip (p : Phase) (current : Int)
  /-- DESAT_TRIP (R249): DESATp is high for 20 ns, so the phase outputs go low until the next carrier start. -/
  | desatTrip (p : Phase)
  /-- OVERLOAD_TRIP (R251): An overload filter has stayed above its level for OVL_TRIP_T, so the leg drains and is latched with cause 5. -/
  | overloadTrip (leg : Leg)
  /-- LOAD_STEP_TURN_OFF (R252): A bus rise on a discharging leg turns both phases off within 1 µs and enters LOAD_STEP_OFF. -/
  | loadStepTurnOff (leg : Leg)
  /-- LOAD_STEP_REENTRY (R252): After LS_HOLD both phase currents have stayed low, so the leg re-enters soft start. -/
  | loadStepReentry (leg : Leg)
  /-- LOAD_STEP_TIMEOUT (R252): Re-entry is not reached within LS_TIMEOUT, so the leg latches with cause 7. -/
  | loadStepTimeout (leg : Leg)
  /-- LEG_DRAIN_COMPLETE (R253): A draining leg's set-point is zero and its current low, or 20 ms have passed, so PWM stops and the leg becomes DISABLED or FAULT. -/
  | legDrainComplete (leg : Leg)
  /-- LEG_HEADROOM_LOSS (R256): V_leg has stayed below V_bus × (1 + HEADROOM / 2) for 10 ms while running, so the leg drains and returns to WAIT_BUS. -/
  | legHeadroomLoss (leg : Leg)
  /-- SAFETY_INPUT_DEMAND (R279): A safety input channel has read low for INPUT_FILTER, so it enters demand. -/
  | safetyInputDemand (ch : Fin 16)
  /-- SAFETY_INPUT_CLEAR (R279): A safety input channel has read high for INPUT_FILTER, so it leaves demand and a non-latching cause clears. -/
  | safetyInputClear (ch : Fin 16)
  /-- SAFETY_PAIR_DISCREPANCY (R279): A pair's two channels have differed for DISCREPANCY_T, so DISCREPANCY is set and latched. -/
  | safetyPairDiscrepancy (pair : Fin 8)
  /-- TEST_PULSE_START (R281): A test-pulse source starts its 500 µs dark pulse in its slot frame. -/
  | testPulseStart (src : Fin 4) (levelsBefore : Nat)
  /-- TEST_PULSE_CHECK (R282): 400 µs after a pulse start the inputs are checked for TEST_FAIL and CROSS_SHORT. -/
  | testPulseCheck (src : Fin 4) (levels : Nat)
  /-- TEST_PULSE_END (R281): The 500 µs dark pulse ends and the source is driven high again. -/
  | testPulseEnd (src : Fin 4)
  /-- STOP_T_MAX_EXPIRY (R292): T_MAX has elapsed since the demanding boundary, so the contactors are opened. -/
  | stopTMaxExpiry
  /-- STOPPING_EXIT (R284): Every fed-back group reads open or is WELDED at the end of a stop, so the module leaves STOPPING for SURVEYED or FAULT-HOLD. -/
  | stoppingExit
  /-- CELL_INVALID_TIMEOUT (R291): A populated cell has been INVALID for INVALID_T on a leg that is not DISABLED, so cause 7 triggers. -/
  | cellInvalidTimeout (cell : Nat)
  /-- TEMP_POINTS_INVALID_TIMEOUT (R291): Every temperature point of a station has been invalid for TEMP_INVALID_T, so cause 9 triggers. -/
  | tempPointsInvalidTimeout (leg : Leg) (stake : Nat)
  /-- CONTACTOR_SEQUENCE_STEP (R284): Feedback or a timer advances the contactor closing sequence to its next step. -/
  | contactorSequenceStep
  /-- PRECHARGE_TIMEOUT (R284): Pre-charge step 2 lasts longer than PRECHARGE_T, so the sequence fails with cause 15. -/
  | prechargeTimeout
  /-- OUTPUT_READBACK_MISMATCH (R285): A safety output's read-back has differed from its command for 200 µs, so STUCK_ON or STUCK_OFF is set. -/
  | outputReadbackMismatch (ch : Fin 8) (readOn : Bool)
  /-- DARK_TEST_START (R285): At the boundary after its slot frame the named channel is driven off for its dark test. -/
  | darkTestStart
  /-- DARK_TEST_OFF_CHECK (R285): At OUT_TEST_W the read-back must show off, and the channel returns to its command. -/
  | darkTestOffCheck (readOn : Bool)
  /-- DARK_TEST_RECOVERY_CHECK (R285): 100 µs after the off-check a commanded-on channel must read on, and the window ends. -/
  | darkTestRecoveryCheck (readOn : Bool)
  /-- DARK_TEST_INTERVAL_END (R286): A 1,000-frame interval ends without a good test, so the channel's count rises and three set DIAG_FAULT. -/
  | darkTestIntervalEnd (ch : Fin 8)
  /-- CONTACTOR_OPERATE_TIMEOUT (R287): Feedback has not followed a command within OPERATE_T, so FAILED_TO_CLOSE, WELDED or FBK_DISCREPANCY is declared. -/
  | contactorOperateTimeout (g : Fin 4) (levels : Nat)
  /-- CONTACTOR_FEEDBACK_CHANGE (R287): A confirmed-closed contactor's feedback opens without a command, so it is DROPPED and a category 0 stop is demanded. -/
  | contactorFeedbackChange (g : Fin 4) (levels : Nat)
  /-- WELD_PEER_HOLD_EXPIRY (R317): In a twin the extra OPERATE_T after PEER_HOLD ends, and a group still closed is declared WELDED. -/
  | weldPeerHoldExpiry (g : Fin 4) (levels : Nat)
  /-- INHIBIT_CURRENT_VIOLATION (R288): A leg current has exceeded I_ZERO in an inhibited direction for 1 s, so category 1 is demanded with cause 18. -/
  | inhibitCurrentViolation (leg : Leg) (charge : Bool)
  /-- PERMIT_RECEIVED (R289): The field die accepts a fresh permit and drives the safety outputs and leg PWM permission from it. -/
  | permitReceived (bytes : List Byte)
  /-- PERMIT_TIMEOUT (R290): No fresh permit has arrived for 2 ms, so the field die stops every phase and drops the safety outputs until reset. -/
  | permitTimeout
  /-- FORCEOFF_ASSERT (R314): FORCEOFF_N goes low, so the unit's plant outputs become high-impedance and its hold ends. -/
  | forceoffAssert
  /-- SAFE_TELEGRAM_RECEIVED (R406): A safe-telegram copy arrives on port 47009 and is sealed with its LAN for pairing. -/
  | safeTelegramReceived (lan : Fin 2) (bytes : List Byte) (stamp : Nat)
  /-- TELEGRAM_WATCHDOG_EXPIRY (R294): No control telegram has been accepted for TELEGRAM_WD while telegrams are required, so cause 5 triggers. -/
  | telegramWatchdogExpiry
  /-- STATUS_TELEGRAM_SEND (R294): Every TELEGRAM_TX the active unit sends a status telegram to its destinations. -/
  | statusTelegramSend
  /-- BACKSIGHT_FLIT_RECEIVED (R304): A Backsight flit arrives and is released after 1.0 µs, or is discarded or replayed on a CRC failure. -/
  | backsightFlitReceived (cls : Nat) (seq : Nat) (ack : Nat) (nak : Bool) (crcOk : Bool) (msg : Machine.TwinMsg)
  /-- BACKSIGHT_UP (R305): The Backsight first reaches UP, so the standby loads the active unit's Meridian and flags and records the load. -/
  | backsightUp (peerStamp : Nat) (delay : Nat) (tai : Bool) (stepped : Bool)
  /-- BACKSIGHT_SILENCE (R313): No good Backsight flit has been released for SILENCE_T, which is a takeover trigger for an eligible standby. -/
  | backsightSilence
  /-- PEER_ALIVE_LOST (R313): PEER_ALIVE_IN has been low for 2 µs, which is a takeover trigger. -/
  | peerAliveLost
  /-- STANDBY_CLE_START (R307): 3.0 µs after the latch the standby's CLEs compute on the forwarded codes and check them against their own. -/
  | standbyCleStart
  /-- SEAL_BUNDLE_RECEIVED (R306): The standby receives the active unit's seal bundle and uses it as its frame inputs. -/
  | sealBundleReceived (bundle : Machine.SealBundle)
  /-- SEAL_BUNDLE_LATE (R308): The seal is incomplete at the standby at 100 µs, which is a local divergence that sets the step to joining. -/
  | sealBundleLate
  /-- TWIN_SAMPLE_COMPARE (R311): 2 µs after the write the sample words are compared with the peer's, giving suspect or dispute. -/
  | twinSampleCompare
  /-- TWIN_FRAME_COMPARE (R311): A frame word arrives from the peer and a difference opens a dispute. -/
  | twinFrameCompare
  /-- TWIN_RECOMPUTE_COMPLETE (R311): A disputed sample or window recomputation completes, and the unit sends its SELF_OK or SELF_BAD verdict. -/
  | twinRecomputeComplete (selfOk : Bool)
  /-- TWIN_VERDICT_RECEIVED (R312): The peer's verdict arrives and arbitration decides a takeover or estrangement. -/
  | twinVerdictReceived (selfOk : Bool)
  /-- TWIN_VERDICT_TIMEOUT (R311): A verdict has not arrived 2 frames after the mismatch and counts as SELF_BAD. -/
  | twinVerdictTimeout
  /-- TAKEOVER_SWITCH (R314): 1.0 µs before the chosen sample boundary TAKEOVER_N falls, the old unit releases and the new active unit drives the plant. -/
  | takeoverSwitch
  /-- JOIN_REQUEST (R309): A standby requests a join and the active unit accepts it and starts streaming state blocks. -/
  | joinRequest
  /-- JOIN_BLOCK_RECEIVED (R309): The standby receives a class 5 state block and acknowledges it. -/
  | joinBlockReceived (index : Nat) (data : List Byte)
  /-- JOIN_CONVERGED (R309): The dirty set at the end of W4 is at most JOIN_FINAL, so the final phase sends the remaining blocks and the CLE histories. -/
  | joinConverged
  /-- JOIN_COMPLETE (R309): Every block is acknowledged, so the standby computes in step and TAKEOVER_N is released two boundaries later. -/
  | joinComplete (j : JoinState)
  /-- JOIN_TIMEOUT (R309): A join has not reached the in-step phase within JOIN_TIMEOUT and is abandoned and requested again. -/
  | joinTimeout
  /-- COMMAND_SWAP (R319): The host asks the active unit to swap roles, which is accepted only with SWAP_READY. -/
  | commandSwap (r : HostReq)
  /-- SWAP_BOUNDARY (R319): At the boundary of frame F + 2 the roles change over without TAKEOVER_N. -/
  | swapBoundary
  /-- TWIN_GRACE_EXPIRY (R321): With TWIN_REQUIRED, no eligible standby exists for TWIN_GRACE, so category 1 is demanded with cause 12. -/
  | twinGraceExpiry
  /-- STAGE_THERMAL_TRIP (R328): 16 consecutive NTC conversions at or below C_TRIP stop the leg in hardware and set STAGE_TRIP. -/
  | stageThermalTrip (ntc : Fin 8) (code : Nat)
  /-- STAGE_THERMAL_RELEASE (R328): Both NTCs of the leg have been at or above C_REL for 1 s, so the trip releases to WAIT_BUS or DISABLED. -/
  | stageThermalRelease (leg : Leg)
  /-- NTC_FAULT (R325): 100 consecutive short or open codes make the channel read invalid and set NTC_FAULT. -/
  | ntcFault (ch : Fin 12) (code : Nat)
  /-- NTC_FAULT_CLEAR (R325): 100 consecutive valid conversions clear the channel's fault. -/
  | ntcFaultClear (ch : Fin 12)
  /-- DIE_THERMAL_SHUTDOWN (R329): A junction reaches 130 °C on 4 conversions, so both dies go high-impedance and are held in reset. -/
  | dieThermalShutdown (die : Fin 2) (temp : Int)
  /-- DIE_SHUTDOWN_RELEASE (R329): Both junctions have stayed below 105 °C for 1 s, so the module starts through BOOT and sets DIE_RESTART. -/
  | dieShutdownRelease
  /-- VALVE_LOOP (R330): Every VALVE_PERIOD frames the PI loop computes a valve target, or holds and commands the fail-safe position. -/
  | valveLoop
  /-- FAN_FAULT (R333): A fan or pump has been below TACH_MIN_RPM at sufficient duty for TACH_FAULT_T, so FAN_FAULT is set. -/
  | fanFault (f : Fin 4)
  /-- FAN_FAULT_CLEAR (R333): The speed has been at or above TACH_MIN_RPM for 10 s, so the fan fault clears. -/
  | fanFaultClear (f : Fin 4)
  /-- AXIS_PWM_PERIOD (R340): Every 25 µs the profile generator updates each axis's speed and position and forms the winding duties. -/
  | axisPwmPeriod (vmot : Vector Nat 4)
  /-- AXIS_HOME_EDGE (R343): A change of the home input latches x and its stamp, to be qualified or discarded as chatter. -/
  | axisHomeEdge (ax : Fin 4) (level : Bool) (stamp : Nat)
  /-- AXIS_CHATTER_CLEAR (R343): 10 s without a chatter clear CHATTER_WARN. -/
  | axisChatterClear (ax : Fin 4)
  /-- AXIS_LIMIT (R344): A limit becomes active in the direction of travel, so the axis decelerates to rest and refuses moves that way. -/
  | axisLimit (ax : Fin 4) (positive : Bool) (level : Bool)
  /-- AXIS_STANDSTILL (R347): The axis has been at rest for HOLD_T, so STANDSTILL is applied. -/
  | axisStandstill (ax : Fin 4)
  /-- AXIS_VMOT_FAULT (R348): V_MOT has been below VMOT_MIN for 10 ms, so the axis faults with cause 1 and goes coils off. -/
  | axisVmotFault (ax : Fin 4)
  /-- AXIS_VMOT_RECOVER (R348): V_MOT has been at or above VMOT_MIN for 100 ms, so the cause-1 fault clears and homing may restart. -/
  | axisVmotRecover (ax : Fin 4)
  /-- AX_TARGET_WRITE (R342): The host writes an axis target, which is checked and applied at the next frame boundary. -/
  | axTargetWrite (ax : Fin 4) (v : Int)
  /-- AX_COMMAND_HOME (R345): AX_COMMAND 1 starts homing from rest. -/
  | axCommandHome (ax : Fin 4)
  /-- AX_COMMAND_STOP (R350): AX_COMMAND 2 decelerates the axis to rest and leaves it enabled. -/
  | axCommandStop (ax : Fin 4)
  /-- AX_ENABLE_WRITE (R350): AX_ENABLE enables an axis, or disables it through a deceleration drain. -/
  | axEnableWrite (ax : Fin 4) (v : Nat)
  /-- DMA_BURST (R362): At a burst boundary the path arbiter grants the next 64-byte burst, detecting any fault at the page's first touch. -/
  | dmaBurst (path : Fin 3) (cond : Nat)
  /-- FLASH_PROGRAM_COMPLETE (R363): A program completes with pass or fail status and advances PROGRESS or halts the channel. -/
  | flashProgramComplete (port : Fin 2) (pass : Bool)
  /-- FLASH_ERASE_COMPLETE (R363): An erase completes with pass or fail status. -/
  | flashEraseComplete (port : Fin 2) (pass : Bool)
  /-- DMA_RESUME (R368): The owner resumes a halted channel from PROGRESS under the rule of its fault. -/
  | dmaResume (ch : Fin 16) (unit : Nat)
  /-- DMA_ABANDON (R369): The owner abandons a halted descriptor and the channel becomes IDLE. -/
  | dmaAbandon (ch : Fin 16)
  /-- PORT_TIMEOUT (R366): A store port gives no data or stays busy beyond its timeout, so fault 6 halts its channels. -/
  | portTimeout (port : Fin 2)
  /-- PORT_RECOVERY (R370): 1 ms after the JEDEC reset the port's ID is read, and the port returns UP or becomes DOWN after three failures. -/
  | portRecovery (port : Fin 2) (ok : Bool)
  /-- WINDOW_HALT_TIMEOUT (R374): A host window has been HALTED for 60 s, so it is abandoned. -/
  | windowHaltTimeout (w : Fin 2)
  /-- FIELD_BOOK_REPLAY (R384): From the start of LOAD the book is replayed, and once it completes the book is open and REPLAYED is set. -/
  | fieldBookReplay
  /-- FB_TIME_RECORD (R382): Every TIME_PERIOD of operating time a TIME record is written. -/
  | fbTimeRecord
  /-- FB_SECOND_END (R383): At the first frame after a Meridian second ends, SUPPRESSED records are formed for the rate-limited sources. -/
  | fbSecondEnd
  /-- FB_NAND_FLUSH (R380): NAND_FLUSH has passed since the first record in the NAND page buffer, so the buffer is programmed. -/
  | fbNandFlush
  /-- PHY_POLL (R394): Every 100 ms each PHY's status is polled, and link changes are recorded and raise host events. -/
  | phyPoll (status : Vector PhyRead 2)
  /-- ETHERNET_FRAME_RECEIVED (R399): An Ethernet frame is received and filtered by VLAN, PRP duplicate discard, IP and UDP port. -/
  | ethernetFrameReceived (lan : Fin 2) (frame : EthFrame) (stamp : Nat)
  /-- ARP_REQUEST (R396): An ARP request for the module's address is answered and the cache is updated. -/
  | arpRequest (ip : Nat) (mac : Nat) (target : Nat)
  /-- ARP_CACHE_EXPIRY (R396): An ARP cache entry expires after 60 s. -/
  | arpCacheExpiry (ip : Nat)
  /-- ICMP_ECHO (R396): An ICMP echo request is answered, limited to 10 replies per second. -/
  | icmpEcho (target : Nat)
  /-- PRP_SUPERVISION_SEND (R398): Every PRP_LIFE_CHECK the module sends supervision frames on both ports. -/
  | prpSupervisionSend
  /-- PRP_NODE_FORGET (R399): A node table entry is forgotten after NODE_FORGET without a frame. -/
  | prpNodeForget (mac : Nat)
  /-- LAN_DEGRADED (R400): A LAN enters or leaves DEGRADED, which is recorded and raises a host event. -/
  | lanDegraded (lan : Fin 2) (entered : Bool)
  /-- HOST_AUTH_FAIL_RECORD (R409): Once per second a record with the count of authentication failures is written. -/
  | hostAuthFailRecord
  /-- HOST_READ (R412): READ returns the selected objects, all from one frame. -/
  | hostRead (r : HostReq)
  /-- HOST_WRITE (R413): WRITE applies its items under the access rules, all or none where requested. -/
  | hostWrite (r : HostReq)
  /-- OBJECT_WRITE (R12): A host write to an object with no behaviour of its own is checked for access, state and bounds and applied at the next frame boundary. -/
  | objectWrite (obj : Nat) (elem : Nat) (v : Int)
  /-- HOST_SUBSCRIBE (R414): SUBSCRIBE creates, renews, replaces or cancels a subscription. -/
  | hostSubscribe (r : HostReq)
  /-- SUBSCRIPTION_PUBLISH (R414): Every PERIOD frames a subscription's publication is sent in W4. -/
  | subscriptionPublish (idx : Nat)
  /-- SUBSCRIPTION_LEASE_EXPIRY (R414): A subscription or follower not renewed for SUB_LEASE ends. -/
  | subscriptionLeaseExpiry (follower : Bool) (idx : Nat)
  /-- EVENTS_READ (R415): EVENTS sub-operation 0 returns whole Field Book records from a cursor. -/
  | eventsRead (r : HostReq)
  /-- EVENTS_FOLLOW (R415): EVENTS sub-operation 1 registers the sender as a follower of host events. -/
  | eventsFollow (r : HostReq)
  /-- EVENTS_UNFOLLOW (R415): EVENTS sub-operation 2 ends the sender's follower registration. -/
  | eventsUnfollow (r : HostReq)
  /-- COMMAND_ARM (R71): ARM moves a healthy module from SURVEYED to ARMED and starts the contactor sequence. -/
  | commandArm (r : HostReq)
  /-- COMMAND_DISARM (R71): DISARM starts an orderly stop from ARMED or RUNNING. -/
  | commandDisarm (r : HostReq)
  /-- COMMAND_RELEASE (R291): RELEASE clears the module's cleared latched causes, or the latches of the legs in its mask. -/
  | commandRelease (r : HostReq)
  /-- COMMAND_RESET (R68): RESET persists the learned values and resets the module, in SURVEYED and FAULT-HOLD only. -/
  | commandReset (r : HostReq)
  /-- COMMAND_PLAT_STAGE (R100): PLAT_STAGE checks the staged plat copy and reports its result. -/
  | commandPlatStage (r : HostReq)
  /-- COMMAND_PLAT_INSTALL (R102): PLAT_INSTALL programs an install entry with READY set and resets with cause HOST. -/
  | commandPlatInstall (r : HostReq)
  /-- COMMAND_KEY_REVOKE (R408): KEY_REVOKE burns a host key slot's revoke fuse, ending its subscriptions and followers. -/
  | commandKeyRevoke (r : HostReq)
  /-- WINDOW_READ (R372): A window READ reads store bytes from a logical page and offset. -/
  | windowRead (r : HostReq)
  /-- WINDOW_WRITE (R373): A window WRITE programs store bytes and holds a partial program unit. -/
  | windowWrite (r : HostReq)
  /-- WINDOW_ERASE (R372): A window ERASE erases the erase unit that holds the page. -/
  | windowErase (r : HostReq)
  /-- WINDOW_FLUSH (R372): A window FLUSH programs the held partial unit, padded with 0xFF. -/
  | windowFlush (r : HostReq)
  /-- WINDOW_STATUS (R372): A window STATUS returns the window's state, fault and progress. -/
  | windowStatus (r : HostReq)
  /-- WINDOW_RESUME (R372): A window RESUME resumes a halted window operation. -/
  | windowResume (r : HostReq)
  /-- WINDOW_ABANDON (R372): A window ABANDON abandons the halted operation and discards any partial unit. -/
  | windowAbandon (r : HostReq)
  /-- UPDATE_HEADER (R446): An update header is checked alone and, if accepted, is staged and opens a session. -/
  | updateHeader (r : HostReq)
  /-- UPDATE_BODY (R449): Update body bytes are programmed into staging and each completed block's CRC is checked. -/
  | updateBody (r : HostReq)
  /-- UPDATE_APPLY (R452): APPLY checks the body hash, erases the inactive slot and starts rebuilding the image. -/
  | updateApply (r : HostReq)
  /-- APPLY_BLOCK_COMPLETE (R452): One body block has been applied, and the last block leads to the header copy, the result hash and the TRIAL entry. -/
  | applyBlockComplete (fault : Nat)
  /-- UPDATE_START (R449): START resets with cause UPDATE to run the TRIAL slot. -/
  | updateStart (r : HostReq)
  /-- UPDATE_REJECT (R455): REJECT ends a trial with code 2, after an orderly stop if the module is running. -/
  | updateReject (r : HostReq)
  /-- UPDATE_ABORT (R449): ABORT ends the session and stops application after the block in progress. -/
  | updateAbort (r : HostReq)
  /-- UPDATE_STATUS (R449): STATUS returns the update session state. -/
  | updateStatus (r : HostReq)
  /-- TRIAL_TIMER_EXPIRY (R455): The trial timer expires without confirmation, so the trial ends with code 1 and the module resets. -/
  | trialTimerExpiry
  /-- CAN_TX_LOAD (R435): The gateway loads a frame into a gateway-owned transmit buffer. -/
  | canTxLoad (r : HostReq)
  /-- CAN_TX_ABORT (R426): The gateway aborts a transmit buffer. -/
  | canTxAbort (r : HostReq)
  /-- CAN_TX_STATUS (R435): The gateway returns each transmit buffer's state and last success stamp. -/
  | canTxStatus (r : HostReq)
  /-- CAN_RX_READ (R435): The gateway returns the oldest unacknowledged receive entries without releasing them. -/
  | canRxRead (r : HostReq)
  /-- CAN_RX_ACK (R435): The gateway releases receive entries up to and including a SEQ. -/
  | canRxAck (r : HostReq)
  /-- CAN_CONTROLLER_STATUS (R435): The gateway returns the controller status and error counters. -/
  | canControllerStatus (r : HostReq)
  /-- CAN_FRAME_RECEIVED (R429): A CAN frame from another node is received, stamped and queued, or dropped if the queue is full. -/
  | canFrameReceived (c : Fin 4) (frame : CanFrame) (remote : Bool) (stamp : Nat)
  /-- CAN_ARBITRATION_START (R427): The controller chooses the next PENDING buffer by TX_ORDER and starts arbitration. -/
  | canArbitrationStart (c : Fin 4)
  /-- CAN_TX_COMPLETE (R426): A transmitted frame is acknowledged, so its buffer becomes DONE with its stamp. -/
  | canTxComplete (c : Fin 4) (stamp : Nat)
  /-- CAN_TX_ERROR (R424): A frame loses arbitration or meets an error, so it returns to PENDING or fails, and the error state may change. -/
  | canTxError (c : Fin 4) (lost : Bool)
  /-- CAN_BUS_OFF_RECOVERY (R424): With BUS_OFF_AUTO, 128 occurrences of 11 recessive bits end bus-off. -/
  | canBusOffRecovery (c : Fin 4)
  /-- CAN_RATE_DWELL_EXPIRY (R431): RATE_DWELL passes without acceptance, so detection moves to the next rate pair. -/
  | canRateDwellExpiry (c : Fin 4)
  /-- CAN_MAP_TIMEOUT (R432): A receive map entry's TIMEOUT expires, so its slot becomes invalid. -/
  | canMapTimeout (c : Fin 4) (entry : Nat)
  /-- CAN_TX_MAP_SEND (R433): A transmit-map frame whose PERIOD falls due is assembled and queued. -/
  | canTxMapSend (c : Fin 4) (entry : Nat)
  /-- CAN_STATUS_SET_SEND (R434): Every STATUS_PERIOD frames the enabled status messages are queued. -/
  | canStatusSetSend (c : Fin 4)
  /-- CAN_ENABLE_WRITE (R436): CAN_ENABLE enables a controller, starting rate detection, or drains and disables it. -/
  | canEnableWrite (c : Fin 4) (v : Nat)
  /-- BIST_SLICE (R464): In a slot frame a run-time BIST slice zeroises the keys, scans one engine, compares its signature and restores it. -/
  | bistSlice (busy : Bool) (sigOk : Bool)
  /-- KEY_REDERIVATION_COMPLETE (R467): Key re-derivation after a zeroise completes and sets KEYS_VALID, or sets KEY_FAULT after a second failure. -/
  | keyRederivationComplete (ok : Bool)
  /-- BIST_PASS_LATE (R463): A pass takes longer than PASS_LIMIT, so PASS_LATE is set and recorded. -/
  | bistPassLate
  /-- DEBUG_UNLOCK (R469): A signed debug challenge response is verified, zeroising the keys, entering FAULT-HOLD and opening JTAG. -/
  | debugUnlock (sig : List Byte)
  /-- SYNC_PHASE_WRITE (R38): SYNC_PHASE sets a new phase offset that the grid reaches by slewing. -/
  | syncPhaseWrite (v : Nat)
  /-- SYNCIN_ENABLE_WRITE (R36): SYNCIN_ENABLE admits or removes SYNCIN as a grid source. -/
  | syncinEnableWrite (v : Nat)
  /-- BAL_ENABLE_WRITE (R152): BAL_ENABLE enables balancing of legs, or disables it through the bleed-off drain. -/
  | balEnableWrite (v : Nat)
  /-- PROBE_ENABLE_WRITE (R190): PROBE_ENABLE enables a pair's probes, or cancels or completes them on disable. -/
  | probeEnableWrite (v : Nat)
  /-- BANK_SELECT_WRITE (R272): BANK_SELECT switches a CLE's bank of the running mode at the next frame's sample 0. -/
  | bankSelectWrite (leg : Leg) (v : Nat)
  /-- UPDATE_ENABLE_WRITE (R452): UPDATE_ENABLE holds or resumes update application. -/
  | updateEnableWrite (v : Nat)
  /-- BIST_ENABLE_WRITE (R463): BIST_ENABLE runs or stops run-time BIST, with 0 allowed only when BIST_ALLOW_OFF is 1. -/
  | bistEnableWrite (v : Nat)
  /-- CONTACT_LOST_CLEAR (R137): A write of LINK_STATUS with bit 4 set clears CONTACT_LOST and ignores the other bits. -/
  | contactLostClear (leg : Leg) (v : Nat)
  /-- TELEGRAM_DEGRADED_CLEAR (R297): A write of 1 clears TELEGRAM_DEGRADED of SAFETY_STATUS. -/
  | telegramDegradedClear (v : Nat)
  /-- BASELINE_LOST_CLEAR (R23): A write of 1 clears LOST of BASELINE_STATUS. -/
  | baselineLostClear (v : Nat)
  /-- TIME_OVERRUN_CLEAR (R56): A write of 1 clears OVERRUN or SAFETY_OVERRUN of TIME_STATUS. -/
  | timeOverrunClear (v : Nat)
  /-- SUPPLY_SWITCHED_CLEAR (R80): A write of 1 clears SWITCHED of SUPPLY_STATUS. -/
  | supplySwitchedClear (v : Nat)
  /-- RESETREQ_STUCK_CLEAR (R80): A write of 1 clears RESETREQ_STUCK of RESET_CAUSE. -/
  | resetreqStuckClear (v : Nat)
  /-- WARN_LATCHED_CLEAR (R223): A write of 1 clears bits of LATCHED in WARN_STATUS. -/
  | warnLatchedClear (v : Nat)
  /-- LEARN_WRITE_FAIL_CLEAR (R223): A write of 1 clears WRITE_FAIL of LEARN_STATUS. -/
  | learnWriteFailClear (v : Nat)
  /-- FB_QUEUE_FULL_CLEAR (R391): A write of 1 clears QUEUE_FULL of FB_STATUS. -/
  | fbQueueFullClear (v : Nat)
  /-- CAN_STATUS_CLEAR (R439): A write of 1 clears SW_QUEUE_OVF or RXQ_DROP of CAN_STATUS. -/
  | canStatusClear (c : Fin 4) (v : Nat)
  /-- BASELINE_LANE_LOCK (R23): A Baseline lane loses or regains lock, changing its LANE bit and the UP bit of BASELINE_STATUS. -/
  | baselineLaneLock (dir : BaseDir) (lane : Fin 4) (locked : Bool)
  /-- BACKSIGHT_FLIT_SEND (R303): At each Backsight flit slot a unit sends a pending replay, else the pending flit of the lowest class, else an idle flit. -/
  | backsightFlitSend
  /-- TONE_RETURN (R137): A qualified tone returns at the ring's return end, so TONE_OK is set and SILENT_STAKE returns to 31. -/
  | toneReturn (leg : Leg)
  /-- STATION_TONE_LOST (R132): A station's receive pair has carried neither a qualified tone nor a valid frame for 5 ms, so TONE_LOST is set and in REFLECT 0 the station starts turning frames and returning the tone. -/
  | stationToneLost (leg : Leg) (pos : Nat) (gap : ToneGap)
  /-- STATION_TONE_QUALIFIED (R132): A qualified tone reappears on a reflecting station's other receive pair, so the station stops turning frames and clears REFLECTING. -/
  | stationToneQualified (leg : Leg) (pos : Nat) (up : Bool)
  /-- STATION_POWER_UP (R124): A station powers up or resets internally, so it starts in its ROM loader, unstaked, with RESET set and its registers at their defaults. -/
  | stationPowerUp (leg : Leg) (pos : Nat) (uid : Nat) (hwId : Nat) (romVersion : Nat)
  /-- STATION_QUIET_WINDOW_END (R122): A station's quiet window, or its post-conversion bleed hold, ends, so its suspended bleeds resume for the rest of DURATION. -/
  | stationQuietWindowEnd (leg : Leg) (pos : Nat)
  /-- RESETREQ_RISING_EDGE (R69): RESETREQ_N rises, so a low shorter than 20 ms is ignored, and the high-time count for arming or re-arming starts. -/
  | resetreqRisingEdge
  /-- FORCEOFF_RELEASE (R316): FORCEOFF_N returns high, so an in-step unit may again hold its safety outputs and may take the ACTIVE role. -/
  | forceoffRelease
  /-- RAIL_OVERLOAD_END (R61): An exported rail leaves its current limit, so its overload flag clears. -/
  | railOverloadEnd (rail : Rail)
  /-- SUPPLY_LOW_EXIT (R58): An input qualifies again while the module draws from the higher input, so the module selects that input and clears SUPPLY_LOW. -/
  | supplyLowExit (v : SupplyMv)
  /-- CAN_RX_ERROR (R424): The controller detects an error on a frame it is receiving, which updates REC and the error state and resets the good count of rate detection. -/
  | canRxError (c : Fin 4) (heavy : Bool)
  /-- FAN_PWM_PERIOD (R332): A fan or pump PWM period starts, applying the latest duty, or completes the drain of a disabled output. -/
  | fanPwmPeriod (f : Fin 4)
  /-- TACH_EDGE (R333): A rising edge on TACHn is counted towards the fan speed. -/
  | tachEdge (f : Fin 4)
  /-- SHUTDOWN_PERSIST_TIMEOUT (R220): 10 s pass without the orderly-shutdown learned set reaching its valid mark, so the pending COMMAND RESET or PLAT_INSTALL reset proceeds. -/
  | shutdownPersistTimeout
  deriving DecidableEq, Repr

end Sys2Proof
end

