-- ==== Sys2Proof/Decode.lean ====
section
/-! DEFINITION. The decoder the host asks with. The opcode table gives no row any bits (every row's fields are
empty), so no word spells a command. -/
namespace Sys2Proof

/-- The command that a word of the opcode table's bits spells: none, since no row of the table has bits. -/
def decodeTableWord (_nbits _w : Nat) : Option Instr := none

end Sys2Proof
end

