-- ==== Sys2Proof/Machine/Crypto.lean ====
section
/-! DEFINITION. The checks the spec computes over bytes: CRC-16 (R20), CRC-32 (R86), the safety CRC (R96), SHA-256
and HMAC-SHA-256 (R85, R409, R444; PRESUMED as FIPS 180-4 and RFC 2104 define them, log 290). Ed25519 stays `Config.ed25519` (log 6). -/
namespace Sys2Proof.Machine

/-- One step of a CRC of width w, most significant bit first: k bits of the top are folded in. -/
def crcMsbBits (w poly : Nat) : Nat → Nat → Nat
  | 0, c => c
  | k + 1, c =>
    let d := (2 * c) % 2 ^ w
    crcMsbBits w poly k (if c.testBit (w - 1) then d ^^^ poly else d)
/-- A CRC of width w over bytes, most significant bit first, without reflection or final XOR. -/
def crcMsb (w poly : Nat) (c : Nat) (bs : List Byte) : Nat :=
  bs.foldl (fun c b => crcMsbBits w poly 8 (c ^^^ (b.toNat * 2 ^ (w - 8)))) c
/-- R20: CRC-16, polynomial 0x1021, initial value 0xFFFF. -/
def crc16 (bs : List Byte) : Nat := crcMsb 16 0x1021 0xFFFF bs
/-- R96: the safety CRC, polynomial 0xF4ACFB13, initial value 0xFFFFFFFF. -/
def safetyCrc (bs : List Byte) : Nat := crcMsb 32 0xF4ACFB13 0xFFFFFFFF bs
/-- k shift steps of the reflected CRC-32. -/
def crc32Bits : Nat → Nat → Nat
  | 0, c => c
  | k + 1, c => crc32Bits k (if c.testBit 0 then (c / 2) ^^^ 0xEDB88320 else c / 2)
/-- R86: the IEEE 802.3 CRC-32. -/
def crc32 (bs : List Byte) : Nat :=
  (bs.foldl (fun c b => crc32Bits 8 (c ^^^ b.toNat)) 0xFFFFFFFF) ^^^ 0xFFFFFFFF

/-- 32-bit rotation to the right. -/
def rotr32 (n x : Nat) : Nat := ((x >>> n) ||| (x <<< (32 - n))) % 2 ^ 32
/-- The whole k-th root of n, found bit by bit from bit b − 1 down; r holds the bits found so far. -/
def rootFrom (k n : Nat) : Nat → Nat → Nat
  | 0, r => r
  | b + 1, r => rootFrom k n b (if (r + 2 ^ b) ^ k ≤ n then r + 2 ^ b else r)
/-- The first 32 bits of the fraction of the k-th root of p: the whole root of p × 2^(32k), modulo 2^32. -/
def rootFraction (k p : Nat) : Nat := rootFrom k (p * 2 ^ (32 * k)) 37 0 % 2 ^ 32
/-- The primes below 312: the first 64. -/
def shaPrimes : List Nat := (List.range 312).filter (fun n => decide (2 ≤ n) && (List.range 18).all (fun d => decide (d < 2) || d == n || decide (n % d ≠ 0)))
/-- The round constants of SHA-256 (FIPS 180-4): the fractions of the cube roots of the first 64 primes. -/
def shaK : List Nat := shaPrimes.map (rootFraction 3)
/-- The first hash value of SHA-256 (FIPS 180-4): the fractions of the square roots of the first eight primes. -/
def shaStart : List Nat := (shaPrimes.take 8).map (rootFraction 2)
/-- The big-endian number of bytes. -/
def beNat (bs : List Byte) : Nat := bs.foldl (fun n b => n * 256 + b.toNat) 0
/-- n as k bytes, most significant first. -/
def beBytes (k n : Nat) : List Byte := (leBytes k n).reverse
/-- The 16 words of a 64-byte block. -/
def shaBlock (bs : List Byte) : List Nat := (List.range 16).map (fun i => beNat (slice (4 * i) 4 bs))
/-- One round's message word and the shifted window. -/
def shaNext (w : List Nat) : List Nat :=
  let w1 := nth w 1 0
  let w14 := nth w 14 0
  let s0 := rotr32 7 w1 ^^^ rotr32 18 w1 ^^^ (w1 >>> 3)
  let s1 := rotr32 17 w14 ^^^ rotr32 19 w14 ^^^ (w14 >>> 10)
  w.tail ++ [(nth w 0 0 + s0 + nth w 9 0 + s1) % 2 ^ 32]
/-- The rounds over the constants that remain. -/
def shaRounds : List Nat → List Nat → List Nat → List Nat
  | [], _, h => h
  | k :: ks, w, h =>
    match h with
    | [a, b, c, d, e, f, g, hh] =>
      let s1 := rotr32 6 e ^^^ rotr32 11 e ^^^ rotr32 25 e
      let ch := (e &&& f) ^^^ ((0xFFFFFFFF - e) &&& g)
      let t1 := hh + s1 + ch + k + nth w 0 0
      let s0 := rotr32 2 a ^^^ rotr32 13 a ^^^ rotr32 22 a
      let mj := (a &&& b) ^^^ (a &&& c) ^^^ (b &&& c)
      shaRounds ks (shaNext w) [(t1 + s0 + mj) % 2 ^ 32, a, b, c, (d + t1) % 2 ^ 32, e, f, g]
    | _ => h
/-- The hash value after the whole blocks of a padded message, n blocks. -/
def shaBlocks : Nat → List Byte → List Nat → List Nat
  | 0, _, h => h
  | n + 1, bs, h =>
    let h' := shaRounds shaK (shaBlock bs) h
    shaBlocks n (bs.drop 64) ((h.zip h').map (fun p => (p.1 + p.2) % 2 ^ 32))
/-- SHA-256 of a message (FIPS 180-4). -/
def sha256 (bs : List Byte) : List Byte :=
  let n := bs.length
  let pad := bs ++ [0x80] ++ List.replicate ((119 - n % 64) % 64) 0 ++ beBytes 8 (8 * n)
  (shaBlocks (pad.length / 64) pad shaStart).flatMap (beBytes 4)
/-- HMAC-SHA-256 (RFC 2104) with a key of at most 64 bytes. -/
def hmacSha256 (key msg : List Byte) : List Byte :=
  let k := key ++ List.replicate (64 - key.length) 0
  sha256 (k.map (· ^^^ 0x5C) ++ sha256 (k.map (· ^^^ 0x36) ++ msg))

end Sys2Proof.Machine
end

