-- ==== Sys2Proof/Machine/Memory.lean ====
section
/-! DEFINITION. Flash memory as a list of (address, byte) cells in canonical form: addresses strictly rising and no
cell equal to the erased byte 0xFF, which an unlisted address reads as (log 21). The plat flash (R83) and the store
(R357) are both held so. -/
namespace Sys2Proof.Machine

/-- What an erased or never-written byte reads as. -/
def Memory.erased : Byte := 0xFF
/-- The byte at an address. -/
def Memory.read : List Host.Cell → Nat → Byte
  | [], _ => Memory.erased
  | c :: cs, a => if c.1 = a then c.2 else Memory.read cs a
/-- The byte at an address set to b, the canonical form kept. -/
def Memory.write : List Host.Cell → Nat → Byte → List Host.Cell
  | [], a, b => if b = Memory.erased then [] else [(a, b)]
  | c :: cs, a, b =>
    if a < c.1 then (if b = Memory.erased then c :: cs else (a, b) :: c :: cs)
    else if a = c.1 then (if b = Memory.erased then cs else (a, b) :: cs)
    else c :: Memory.write cs a b
/-- Strictly rising addresses above lo, and no erased cell. -/
def Memory.wfFrom : Nat → List Host.Cell → Bool
  | _, [] => true
  | lo, c :: cs => decide (lo ≤ c.1) && decide (c.2 ≠ Memory.erased) && Memory.wfFrom (c.1 + 1) cs
/-- The canonical form. -/
def Memory.wf (m : List Host.Cell) : Bool := Memory.wfFrom 0 m
/-- n bytes from an address. -/
def Memory.readBytes (m : List Host.Cell) (a : Nat) : Nat → List Byte
  | 0 => []
  | n + 1 => Memory.read m a :: Memory.readBytes m (a + 1) n
/-- Bytes written from an address. -/
def Memory.writeBytes (m : List Host.Cell) (a : Nat) : List Byte → List Host.Cell
  | [] => m
  | b :: bs => Memory.writeBytes (Memory.write m a b) (a + 1) bs
/-- Bytes programmed from an address: a flash program only clears bits. -/
def Memory.program (m : List Host.Cell) (a : Nat) : List Byte → List Host.Cell
  | [] => m
  | b :: bs => Memory.program (Memory.write m a (Memory.read m a &&& b)) (a + 1) bs
/-- n bytes from an address erased. -/
def Memory.erase (m : List Host.Cell) (a n : Nat) : List Host.Cell := m.filter (fun c => !(decide (a ≤ c.1) && decide (c.1 < a + n)))

end Sys2Proof.Machine
end

