-- ==== Sys2Proof/Machine/State.lean ====
section
/-! DEFINITION. The state of the module, as plain data: the parts of Machine/Parts.lean, the queue of waiting commands, and
State.reset. -/
namespace Sys2Proof.Machine

/-- Why a run stops with a fault. No command of this module ends in one: every effect the spec gives is modelled. -/
inductive Fault
  /-- Raised by nothing; kept so that the type names the outcome. Safe. -/
  | none
  deriving DecidableEq, Repr

/-- Why a command is refused by the model. -/
inductive Refusal
  /-- The command has no meaning yet; its mnemonic is given. Raised by the dispatcher's refused arms only. Safe. -/
  | notModelled (mnemonic : String)
  deriving DecidableEq, Repr

/-- The state of the module. -/
structure State where
  /-- MODULE_STATE (R10, R80): OFF until power-on release (R57). -/
  mode : Mode := .off
  /-- TWIN role (R11). -/
  role : Role := .active
  supply : Supply := {}
  resetReq : ResetReq := {}
  ret : Retained := {}
  fuses : Fuses := {}
  layup : Layup := {}
  start : Start := {}
  plat : Plat := {}
  grid : Grid := {}
  time : TimeBase := {}
  win : Windows := {}
  base : Baseline := {}
  fb : FieldBook := {}
  /-- What the field die latched at the last frame boundary, and what the core die has sealed of it. -/
  fld : Latched := {}
  lat : Latched := {}
  sf : Safety := {}
  ring : Vector Ring 4 := Vector.replicate 4 {}
  diag : Vector LegDiag 4 := Vector.replicate 4 {}
  /-- Station diagnostics by leg × 24 + stake − 1. -/
  sdiag : List (Nat × StationDiag) := []
  /-- The cell table by global cell index (R7, R147). -/
  cells : List (Nat × Cell) := []
  /-- The temperature points by temperature index (R7, R147). -/
  temps : List (Nat × TempPoint) := []
  /-- BAL_ENABLE (u8, R167). -/
  balEnable : Nat := 0
  /-- Estimator state of each cell, by global cell index (R169). -/
  est : List (Nat × EstCell) := []
  eleg : Vector EstLeg 4 := Vector.replicate 4 {}
  probe : Vector ProbePair 2 := Vector.replicate 2 {}
  /-- STRING_SOC (u16, R185). -/
  stringSoc : Nat := 0xFFFF
  /-- PROBE_ENABLE and NAT_STEP_ENABLE (u8 each, R197). -/
  probeEnable : Nat := 3
  natEnable : Bool := true
  /-- Limits of each leg and of the string (R200 to R216). -/
  llim : Vector LegLimits 4 := Vector.replicate 4 {}
  slim : StringLimits := {}
  /-- Learned values (R217 to R223). -/
  learn : Learn := {}
  /-- Leg converters, phases, CLEs, the string (R226 to R276). -/
  conv : Vector LegConv 4 := Vector.replicate 4 {}
  pwm : Vector PhasePwm 8 := Vector.replicate 8 {}
  cle : Vector Cle 4 := Vector.replicate 4 {}
  str : StringConv := {}
  therm : Thermal := {}
  /-- Offsets of the current channels MD0 to MD19 in codes, in force and with those that apply from the boundary after
  the given frame (R231). -/
  mdOffset : Vector Int 20 := Vector.replicate 20 0
  mdOffsetDue : List (Nat × Int × Nat) := []
  /-- Axes AX0 to AX3 (R337 to R353). -/
  axis : Vector Axis 4 := Vector.replicate 4 {}
  /-- Twin operation (R299 to R323). -/
  twin : Twin := {}
  /-- The store's ports, channels and windows (R354 to R376). -/
  su : StoreUnit := {}
  /-- Ethernet, PRP, IP, PTP (R393 to R406). -/
  net : Net := {}
  /-- The host protocol (R407 to R421). -/
  host : HostUnit := {}
  /-- CAN0 to CAN3 (R423 to R441), the signal slots, and the receptions sealed for the frame (R430, R432). -/
  can : Vector Can 4 := Vector.replicate 4 {}
  signal : Vector Int 64 := Vector.replicate 64 (-2147483648)
  signalValid : Vector Bool 64 := Vector.replicate 64 false
  canSealed : List (Nat × CanFrame × Nat) := []
  /-- Firmware update (R442 to R459). -/
  upd : Update := {}
  /-- Self-test, key store, debug (R460 to R472). -/
  bist : SelfTest := {}
  /-- Host events waiting for W4 (R415). -/
  events : List FbRecord := []
  /-- The external store, 65,536 logical pages of 4 KB (R357), unlisted bytes erased (0xFF). -/
  store : List Host.Cell := []
  /-- The MODEL's own counter of free values taken (log 8); no part of the module. -/
  freeCounter : Nat := 0
  /-- Commands waiting, first in, first out (the block's queue). -/
  pending : List Instr := []
  deriving DecidableEq, Repr

/-- The machine before its first power-on release: OFF (R57, R71), every field at its default. -/
def State.reset : State := {}

end Sys2Proof.Machine
end

