-- ==== Sys2Proof/Machine/Ops.lean ====
section
/-! DEFINITION. The operations that commands share: plat parameters, Field Book records, host events, free values,
memory, and the stop demand of the safety functions. -/
namespace Sys2Proof.Machine

/-- MODULE_STATE (R80). -/
def Mode.code : Mode → Nat
  | .off => 0
  | .boot => 1
  | .plat => 2
  | .load => 3
  | .staking => 4
  | .surveyed => 5
  | .armed => 6
  | .running => 7
  | .stopping => 8
  | .laidUp => 9
  | .faultHold => 10
/-- The role code of R381 STATE [9:8]: 0 ACTIVE, 1 STANDBY, 2 ESTRANGED, in the order of R11 (log 30). -/
def Role.code : Role → Nat
  | .active => 0
  | .standby => 1
  | .estranged => 2

/-- R90: element e of parameter p for record instance `inst`. -/
def State.par (s : State) (p : Par) (inst : Nat := 0xFF) (e : Nat := 0) : Int := resolve s.plat.recs p inst e
/-- A parameter as a natural number. -/
def State.parN (s : State) (p : Par) (inst : Nat := 0xFF) (e : Nat := 0) : Nat := (s.par p inst e).toNat
/-- R138: leg n is populated exactly when record 0xGG01 of its group is present. -/
def State.populated (s : State) (leg : Leg) : Bool := (findRec s.plat.recs (0x1001 + 0x100 * leg.val) 0xFF).isSome

/-- A free value of the next counter reading (log 8). -/
def State.free (s : State) : Int := Config.freeValue s.freeCounter
/-- The counter of free values advanced by k. -/
def State.tookFree (k : Nat) (s : State) : State := { s with freeCounter := s.freeCounter + k }

/-- R78 of the figure: the state of a signal group. -/
def State.inStates (s : State) (ms : List Mode) : Bool := ms.contains s.mode

/-- R383: a Meridian second is 250,000,000 ticks. -/
def ticksPerSecond : Nat := 250000000

/-- R378, R381: the record of an event of the present frame. -/
def State.mkRecord (s : State) (type code source index : Nat) (a b : Int) (stamp : Nat) (ext : List Byte) (deferred : Bool) : FbRecord :=
  { type := type, code := code, source := source, index := index, a := a, b := b, ext := ext,
    flags := b2n s.time.tai + 2 * b2n (!s.fb.isOpen) + 4 * b2n deferred + 8 * b2n s.start.lastGasp,
    stamp := stamp, powerCycles := s.start.powerCycles, seq := lookupD 0 s.fb.srcSeq source, opMs := s.fb.opMs,
    role := s.role, mode := s.mode, frameLo := s.time.frame % 65536 }

/-- The Meridian second that a rate count belongs to (R383). -/
def rateOf (fb : FieldBook) (source : Nat) : Nat × Nat := lookupD (0, 0) fb.rate source

/-- R55: records of one frame in stamp order, then by source number, then in the order of formation. -/
def insertRecord (r : FbRecord) : List FbRecord → List FbRecord
  | [] => [r]
  | x :: xs =>
    if r.stamp < x.stamp ∨ (r.stamp = x.stamp ∧ r.source < x.source) then r :: x :: xs else x :: insertRecord r xs

/-- R383, R387: a record enters the records of the frame, unless the book is closed or its source has used its
share of the second. -/
def FieldBook.form (fb : FieldBook) (fbRate : Nat) (r : FbRecord) : FieldBook :=
  if fb.closed then fb
  else
    let n := rateOf fb r.source
    if r.source ≥ 32 ∧ n.1 ≥ fbRate then
      { fb with rate := insertKey r.source (n.1, n.2 + 1) fb.rate, suppressed := incSat fb.suppressed }
    else
      { fb with
        forming := insertRecord r fb.forming
        srcSeq := insertKey r.source ((r.seq + 1) % 256) fb.srcSeq
        rate := if r.source ≥ 32 then insertKey r.source (n.1 + 1, n.2) fb.rate else fb.rate }

/-- R383: the record of an event with a given stamp, extension and DEFERRED flag is formed. -/
def State.formAt (type code source index : Nat) (a b : Int) (stamp : Nat) (ext : List Byte) (deferred : Bool) (s : State) : State :=
  { s with fb := s.fb.form (s.parN P.fbRate) (s.mkRecord type code source index a b stamp ext deferred) }
/-- R383: the record of an event of this moment is formed. -/
def State.form (type code source index : Nat) (a b : Int) (s : State) : State :=
  s.formAt type code source index a b s.time.meridian [] false
/-- R55, R415: a host event of this moment is queued for W4, in the order of stamp and source number. -/
def State.event (type code source index : Nat) (a b : Int) (s : State) : State :=
  { s with events := insertRecord (s.mkRecord type code source index a b s.time.meridian [] false) s.events }
/-- R34: what the field die's copy of the Meridian reads: as realigned, and counted on since. -/
def State.fieldStamp (s : State) : Nat := s.time.fieldCopy + (s.time.meridian - s.time.copyAt)
/-- R34, R383: the record of a hardware fault of this moment, stamped by the field die. -/
def State.formField (type code source index : Nat) (a b : Int) (s : State) : State :=
  s.formAt type code source index a b s.fieldStamp [] false
/-- A record and a host event of one happening. -/
def State.formEvent (type code source index : Nat) (a b : Int) (s : State) : State :=
  (s.event type code source index a b).form type code source index a b

/-- INDEX 0xFFFF of R381: none. -/
def noIndex : Nat := 0xFFFF

/-- R383: a record enters the queue of 256; when it is full, sources 0 to 31 displace the newest queued record of a
source numbered 32 or above. -/
def FieldBook.enqueue (fb : FieldBook) (r : FbRecord) : FieldBook :=
  if fb.queue.length < 256 then { fb with queue := fb.queue ++ [r] }
  else
    let rev := fb.queue.reverse
    match (if r.source < 32 then rev.findIdx? (fun x => decide (x.source ≥ 32)) else none) with
    | some i =>
      { fb with queue := (rev.eraseIdx i).reverse ++ [r], dropped := incSat fb.dropped, queueFull := true }
    | none => { fb with dropped := incSat fb.dropped, queueFull := true }
/-- R383: the frame's records enter the queue in R55 order. -/
def FieldBook.takeFormed (fb : FieldBook) : FieldBook :=
  fb.forming.foldl FieldBook.enqueue { fb with forming := [] }

/-- R4: the 16-byte common part of a record's body (R381). -/
def FbRecord.common (r : FbRecord) : List Byte :=
  leBytes 2 r.code ++ leBytes 2 r.index ++ leInt 4 r.a ++ leInt 4 r.b ++
  leBytes 2 (r.mode.code + 256 * r.role.code) ++ leBytes 2 r.frameLo
/-- R382: OP_TIME of a record: seconds in [41:10], milliseconds in [9:0]. -/
def opTimeField (ms : Nat) : Nat := (ms / 1000) % 2 ^ 32 * 1024 + ms % 1000
/-- R378: the header and body of a record, before its CRC. -/
def FbRecord.headBody (r : FbRecord) : List Byte :=
  leBytes 2 (16 + r.ext.length) ++ leBytes 2 r.type ++ leBytes 1 r.source ++ leBytes 1 r.flags ++
  leBytes 3 r.powerCycles ++ leBytes 1 r.seq ++ leBytes 6 (opTimeField r.opMs) ++ leBytes 8 r.stamp ++
  r.common ++ r.ext
/-- R378: the record with its RCRC, without its MARK. -/
def FbRecord.bytes (r : FbRecord) : List Byte := r.headBody ++ leBytes 4 (crc32 r.headBody)
/-- R378: the MARK, 5C A5 C3 5A. -/
def markBytes : List Byte := leBytes 4 0x5AC3A55C

/-- The bit of a cause code in STOP_CAUSE (R297). -/
def causeBit (k : Nat) : Nat := 2 ^ k
/-- A mask with bit k set. -/
def withBit (m k : Nat) : Nat := setBit m k true

/-- The state with its twin part changed. -/
def State.modTwin (f : Twin → Twin) (s : State) : State := { s with twin := f s.twin }
/-- R299: a twin member carries record 0x4801. -/
def State.twinMember (s : State) : Bool := (findRec s.plat.recs 0x4801 0xFF).isSome
/-- R323: unit B. -/
def State.unitB (s : State) : Bool := s.par P.unit == 1
/-- The unit drives the plant (R301). -/
def State.isActive (s : State) : Bool := s.role == .active
/-- R303: a message waits for its slot. -/
def State.twinSend (cls : Nat) (m : TwinMsg) (s : State) : State :=
  if s.twinMember && s.twin.up then s.modTwin (fun w => { w with tx := { w.tx with pending := w.tx.pending ++ [(cls, m)] } }) else s
/-- R107: the ring end of a twin unit's own HEAD port: A of unit A, B of unit B. A single module has both ends; its frames start
from end A. -/
def State.ownEnd (s : State) : Bool := s.twinMember && s.unitB
/-- R107, R136: a ring end is served: the unit's own, in a single module both, in a twin the peer's over the Backsight. -/
def State.endServed (s : State) (fromB : Bool) : Bool := !s.twinMember || fromB == s.ownEnd || s.twin.up
/-- First byte of an image slot (R358). -/
def slotBase (k : Nat) : Nat := k * 16777216
/-- The offset, length and VERSION of a component of the running image (R444). -/
def State.component (s : State) (id : Nat) : Option (Nat × Nat × Nat) :=
  let base := slotBase s.upd.slot
  let n := fieldAt 12 4 (Memory.readBytes s.store base 16)
  ((List.range (min n 256)).map (fun i => Memory.readBytes s.store (base + 16 + 16 * i) 16)).findSome? (fun e =>
    if fieldAt 0 4 e = id then some (fieldAt 4 4 e, fieldAt 8 4 e, fieldAt 12 4 e) else none)

end Sys2Proof.Machine
end

