-- ==== Sys2Proof/Machine/Station.lean ====
section
/-! DEFINITION. The cell station (R111 to R125, R135, R141, R160 to R166): what one station does with a frame that
passes it, and its own events. -/
namespace Sys2Proof.Machine

/-- A frame as a station hears it. -/
structure Heard where
  cmd : Nat
  stake : Nat
  seq : Nat
  payload : List Byte
  fromB : Bool
  now : Nat
  deriving DecidableEq, Repr
/-- R112, R113: bytes 3 to 6 + LEN of a command frame. -/
def Heard.head (h : Heard) : List Byte := leBytes 1 h.cmd ++ leBytes 1 h.stake ++ leBytes 1 h.payload.length ++ leBytes 1 h.seq ++ h.payload
/-- R112: a command frame on the wire. -/
def Heard.bytes (h : Heard) : List Byte := [0xAA, 0xAA, 0xD5] ++ h.head ++ leBytes 2 (crc16 h.head)
/-- A frame as a receiver gets it: as sent, or damaged so that its CRC fails. -/
def Heard.arrives (h : Heard) (whole : Bool) : List Byte :=
  if whole then h.bytes else [0xAA, 0xAA, 0xD5] ++ h.head ++ leBytes 2 (65535 - crc16 h.head)
/-- R112, R113: the CRC check over the bytes after preamble and SFD, or over a record's: the low byte of the CRC comes first. -/
def wireGood (b : List Byte) : Bool := decide (2 ≤ b.length) && fieldAt (b.length - 2) 2 b == crc16 (b.take (b.length - 2))
/-- R112, R116: the frame check of a receiver. -/
def Heard.good (h : Heard) (whole : Bool) : Bool := wireGood ((h.arrives whole).drop 3)
/-- R114: bytes 0 to 2 + LEN of a record. -/
def RingRec.head (r : RingRec) : List Byte := leBytes 1 r.stake ++ leBytes 1 r.status ++ leBytes 1 r.data.length ++ r.data
/-- R114: a record on the wire. -/
def RingRec.bytes (r : RingRec) : List Byte := r.head ++ leBytes 2 (crc16 r.head)
/-- R119: the module's check of a record that arrives as sent, or damaged so that its RCRC fails. -/
def RingRec.good (r : RingRec) (whole : Bool) : Bool := wireGood (if whole then r.bytes else r.head ++ leBytes 2 (65535 - crc16 r.head))
/-- What a station does with a frame: its new state, the record it appends, NEXT as it forwards it. -/
structure Answer where
  st : Station
  rec? : Option RingRec
  next : Nat
  deriving DecidableEq, Repr

/-- R132: the station turns frames back. -/
def Station.reflecting (st : Station) : Bool :=
  if st.reflect = 0 then st.lostUp || st.lostDown else st.reflect == 1 || st.reflect == 2
/-- R114, R132: the STATUS byte; `turning`: the station turns the frame in hand. -/
def Station.status (st : Station) (turning : Bool) : Nat :=
  128 * b2n (st.faults != 0) + 64 * b2n st.reset + 32 * b2n st.cmdErr + 16 * b2n st.dup + 8 * b2n st.toneLost +
  4 * b2n (turning || st.reflecting) + st.mode
/-- R124, R132: REFLECT has the station turn frames that come from an end. -/
def Station.turnsFrom (st : Station) (fromB : Bool) : Bool :=
  if st.reflect = 0 then (if fromB then st.lostUp else st.lostDown)
  else if st.reflect = 1 then !fromB else if st.reflect = 2 then fromB else false
/-- R132: whether the station turns the frame back. -/
def Station.turns (st : Station) (h : Heard) : Bool :=
  (h.cmd == 0x03 && h.stake != 0 && h.stake == st.stake && (nth h.payload 0 0).getLsbD 0) || st.turnsFrom h.fromB
/-- R114, R121: whether the station is addressed. STATUS as a register shows the flags of the command before (log 274). -/
def Station.addressed (st : Station) (h : Heard) : Bool :=
  h.stake == 0 || (h.stake == 0xFF && st.stake == 0xFF) || (h.stake == st.stake && st.stake != 0xFF)
/-- R124: registers 0x0010 to 0x0013 at their defaults. -/
def Station.defaults (st : Station) : Station :=
  { st with cellsPopulated := 0xFFFF, balNeighbour := 0, balMaxTemp := 850, reflect := 0 }
/-- R124, R135: the return to the ROM loader; with the code that ran, its rounds and tests are gone. -/
def Station.toLoader (st : Station) : Station :=
  { st.defaults with
    mode := 0, codeVersion := 0, stake := 0xFF, image := [], bleeds := 0, refused := 0, eccPending := false
    sampling := none, rounds := [], openWire := {}, switchTest := {} }
/-- R118: the commands with effect. -/
def withEffect (cmd : Nat) : Bool := [0x20, 0x21, 0x30, 0x31, 0x40, 0x51, 0x61].contains cmd
/-- R120: commands that R120 defines a record for. -/
def hasRecord (cmd : Nat) : Bool := !([0x02, 0x10, 0x21, 0x41, 0x50] : List Nat).contains cmd
/-- R120: the STAKE fields a command is sent with. -/
def stakeFieldOk (cmd stake : Nat) : Bool :=
  let one := decide (1 ≤ stake) && decide (stake ≤ 24)
  if cmd = 0x01 then stake == 0xFF
  else if cmd = 0x02 ∨ cmd = 0x10 ∨ cmd = 0x20 ∨ cmd = 0x41 then stake == 0
  else if cmd = 0x30 ∨ cmd = 0x31 then one
  else if cmd = 0x50 ∨ cmd = 0x51 then stake == 0 || stake == 0xFF
  else stake == 0 || one
/-- R120: length of the record data of a command, in bytes. -/
def recordLen (cmd : Nat) (p : List Byte) : Nat :=
  if cmd = 0x01 then 14 else if cmd = 0x03 then 8 else if cmd = 0x11 then 34 else if cmd = 0x12 then 17 else if cmd = 0x13 then 14
  else if cmd = 0x20 then 4 else if cmd = 0x30 then 36 else if cmd = 0x31 then 66 else if cmd = 0x40 then 10 else if cmd = 0x51 then 11
  else if cmd = 0x60 then 3 + 2 * fieldAt 2 1 p else if cmd = 0x61 then 4 else 0
/-- R120: the commands there are. -/
def knownCmd (cmd : Nat) : Bool :=
  ([0x01, 0x02, 0x03, 0x10, 0x11, 0x12, 0x13, 0x20, 0x21, 0x30, 0x31, 0x40, 0x41, 0x50, 0x51, 0x60, 0x61] : List Nat).contains cmd
/-- R120: the payload of a command is valid. -/
def payloadOk (cmd stake : Nat) (p : List Byte) : Bool :=
  let n := p.length
  if cmd = 0x01 then n == 2 && decide (fieldAt 1 1 p ≤ 1)
  else if cmd = 0x02 ∨ cmd = 0x12 ∨ cmd = 0x13 then n == 0
  else if cmd = 0x03 then n == 1 && decide (fieldAt 0 1 p ≤ 1)
  else if cmd = 0x11 then n == 1
  else if cmd = 0x10 then n == 54 && fieldAt 1 1 p == 0
  else if cmd = 0x20 then n == 50
  else if cmd = 0x21 then n == 4
  else if cmd = 0x30 then n == 4 && decide (fieldAt 0 4 p < 2 ^ 17)
  else if cmd = 0x31 then n == 2
  else if cmd = 0x40 then n == 10 && decide (1 ≤ fieldAt 8 2 p) && decide (fieldAt 8 2 p ≤ 600)
  else if cmd = 0x41 then n == 2 && fieldAt 0 2 p == 0xA55A
  else if cmd = 0x50 then decide (5 ≤ n) && decide (n ≤ 52)
  else if cmd = 0x51 then n == 12
  else if cmd = 0x60 then n == 3 && decide (1 ≤ fieldAt 2 1 p) && decide (fieldAt 2 1 p ≤ (if stake = 0 then 16 else 32))
  else if cmd = 0x61 then decide (1 ≤ fieldAt 2 1 p) && decide (fieldAt 2 1 p ≤ 30) && n == 3 + 2 * fieldAt 2 1 p
  else false

/-- R122: bits of a BALANCE_SET mask that the station refuses. Bits are taken from the lowest cell upwards. -/
def refusedBits (st : Station) (dieT : Int) (mask : Nat) : Nat :=
  if dieT > (leSigned (leBytes 2 st.balMaxTemp)) then mask
  else
    (List.range 16).foldl (fun r i =>
      let on := bitAt mask i
      let below := i > 0 && bitAt mask (i - 1) && !bitAt r (i - 1)
      if on && (!bitAt st.cellsPopulated i || (below && st.balNeighbour == 0)) then withBit r i else r) 0
/-- R124: the register at an address. -/
def Station.reg (st : Station) (a : Nat) : Nat :=
  if a ≤ 3 then (st.uid >>> (16 * a)) % 65536
  else if a = 4 then st.hwId
  else if a = 5 then st.romVersion
  else if a = 6 then st.codeVersion % 65536
  else if a = 7 then st.codeVersion / 65536
  else if a = 8 then st.stake
  else if a = 9 then st.status false
  else if a = 0xA then st.rxValid
  else if a = 0xB then st.rxBad
  else if a = 0xC then st.faults
  else if a = 0x10 then st.cellsPopulated
  else if a = 0x11 then st.balNeighbour
  else if a = 0x12 then st.balMaxTemp
  else if a = 0x13 then st.reflect
  else 0
/-- R124: RX_VALID and RX_CRC_ERRORS clear when a READ_REG returns them. -/
def Station.afterRead (st : Station) (a : Nat) : Station :=
  if a = 0xA then { st with rxValid := 0 } else if a = 0xB then { st with rxBad := 0 } else st
/-- R124: WRITE_REG of one writable address. -/
def Station.setReg (st : Station) (a v : Nat) : Station :=
  if a = 0xC then { st with faults := clearBits st.faults v }
  else if a = 0x10 then { st with cellsPopulated := v }
  else if a = 0x11 then { st with balNeighbour := v }
  else if a = 0x12 then { st with balMaxTemp := v }
  else if a = 0x13 then { st with reflect := v }
  else st
/-- R124: the addresses WRITE_REG can write. -/
def writableReg (a : Nat) : Bool := a == 0xC || (decide (0x10 ≤ a) && decide (a ≤ 0x13))

/-- R135: blocks of 48 bytes that the image of a length needs and the loader lacks. -/
def missingBlocks (image : List (Nat × List Byte)) (len : Nat) : List Nat :=
  (List.range ((len + 47) / 48)).filter (fun b => decide ((lookupD [] image (48 * b)).length < min 48 (len - 48 * b)))
/-- R135: the image bytes 0 to len − 1. -/
def imageBytes (image : List (Nat × List Byte)) (len : Nat) : List Byte :=
  ((List.range ((len + 47) / 48)).flatMap (fun b => lookupD [] image (48 * b))).take len

/-- R123: the record of the last ended test. -/
def StationTest.data (t : StationTest) (n : Nat) (busy : Bool) : List Byte :=
  leBytes 1 t.endedSeq ++ leBytes 1 (if busy then 1 else t.state) ++
  (List.range n).flatMap (fun i => leInt 2 (nth t.values i 0))
/-- R123: a test of a selection starts, unless a test runs or nothing is selected. -/
def StationTest.start (t : StationTest) (busy : Bool) (sel on : Nat) : StationTest :=
  if busy ∨ sel = 0 then t else { t with running := some sel, on := on, seq := (t.seq + 1) % 256 }
/-- R123: a test of the station runs. -/
def Station.testing (st : Station) : Bool := st.openWire.running.isSome || st.switchTest.running.isSome
/-- R122, R160, R162: the bleeds that are on at a stamp: those of a switch test; else none during an open-wire test, in a quiet
window and in a sleeping station; else those of BALANCE_SET. -/
def Station.bleedsOn (st : Station) (now : Nat) : Nat :=
  if st.switchTest.running.isSome then st.switchTest.on
  else if st.openWire.running.isSome || st.sleeping || st.quiets.any (fun q => decide (q.1 ≤ now) && decide (now < q.2)) then 0
  else st.bleeds
/-- R122: a window that holds the bleeds off; windows that have ended are forgotten. -/
def Station.hold (st : Station) (now first last : Nat) : Station :=
  { st with quiets := st.quiets.filter (fun q => decide (now < q.2)) ++ (if first < last then [(first, last)] else []) }
/-- R122: the window that ends first has ended. -/
def Station.endWindow (st : Station) : Station :=
  match listMin? (st.quiets.map (fun q => (q.2 : Int))) with
  | none => st
  | some e => { st with quiets := st.quiets.filter (fun q => decide (e < (q.2 : Int))) }

/-- R122: the record of READ_CELLS for a round (0xFF: the latest). -/
def Station.cellData (st : Station) (round : Nat) : List Byte :=
  let held := if round = 0xFF then st.rounds.head? else st.rounds.find? (fun r => r.round == round)
  match held with
  | none => leBytes 1 round ++ leBytes 1 1 ++ (List.range 16).flatMap (fun _ => leBytes 2 0xFFFF)
  | some r => leBytes 1 r.round ++ leBytes 1 (2 * b2n r.late + 4 * b2n r.bleedNear) ++
      (List.range 16).flatMap (fun i => leBytes 2 (if bitAt st.cellsPopulated i then nth r.v i 0xFFFF else 0xFFFF))

/-- A record of the station for the command in hand. -/
def Station.record (st : Station) (turning : Bool) (data : List Byte) : RingRec :=
  { stake := st.stake, status := st.status turning, data := data }
/-- An answer that appends data after executing. -/
def answer (st : Station) (next : Nat) (data : List Byte) : Answer := ⟨st, some (st.record false data), next⟩
/-- An answer without a record. -/
def silent (st : Station) (next : Nat) : Answer := ⟨st, none, next⟩
/-- R114, R120, R121: a command not executed: CMD_ERR, and where a record is due one without data; a loader shows MODE 0. -/
def Station.refuse (st : Station) (h : Heard) (next : Nat) : Answer :=
  let st := { st with cmdErr := true, dup := false }
  if hasRecord h.cmd || st.mode != 2 then ⟨st, some { st.record (st.turns h) [] with status := st.status (st.turns h) - (if st.mode = 1 then 1 else 0) }, next⟩
  else silent st next

/-- R125: STAKE in operating code. -/
def Station.onStake (st : Station) (h : Heard) (next : Nat) : Answer :=
  let step (n : Nat) : Nat := if fieldAt 1 1 h.payload = 0 then (n + 1) % 256 else (n + 255) % 256
  if st.mode ≠ 2 then silent st next
  else if st.stake ≠ 0xFF then silent st (step st.stake)
  else if next = 0 ∨ next > 24 then st.refuse h next
  else
    let st := { st with stake := next, reset := false, cmdErr := false, dup := false }
    answer st (step next) (leBytes 8 st.uid ++ leBytes 2 st.hwId ++ leBytes 2 st.romVersion ++ [16, 8])
/-- R135: CODE_LOAD. -/
def Station.onCodeLoad (st : Station) (h : Heard) : Station :=
  let addr := fieldAt 0 4 h.payload
  if st.mode = 2 ∧ addr ≠ 0 then st
  else
    let st := if st.mode = 2 then st.toLoader else if addr = 0 then { st with image := [] } else st
    { st with mode := 1, image := insertKey addr (h.payload.drop 4) st.image }
/-- R135: CODE_RUN. FIRST_MISSING is a byte address, and VERSION is 0 in a record with RESULT 1 to 3 (DESIGN CHOICE, log 276). -/
def Station.onCodeRun (st : Station) (h : Heard) (next : Nat) : Answer :=
  let len := fieldAt 0 4 h.payload
  let crc := fieldAt 4 4 h.payload
  let version := fieldAt 8 4 h.payload
  let data (r m f v : Nat) : List Byte := leBytes 1 r ++ leBytes 2 m ++ leBytes 4 f ++ leBytes 4 v
  if st.mode = 2 then answer st next (data 0 0 0 st.codeVersion)
  else if len > 131072 then answer st next (data 3 0 0 0)
  else
    let missing := missingBlocks st.image len
    if !missing.isEmpty then answer st next (data 2 missing.length (48 * missing.headD 0) 0)
    else if crc32 (imageBytes st.image len) ≠ crc then answer st next (data 1 0 0 0)
    else answer { st with mode := 2, reset := true, codeVersion := version, openWire := {}, switchTest := {}, rounds := [] } next (data 0 0 0 version)

/-- R111, R122: ticks from the frame mark of SAMPLE_AT to 50 µs after the conversion: T_REP, WAIT in units of 10 ns, 50 µs. -/
def sampleHold (wait : Nat) : Nat := (625 + 10 * wait + 50000 + 3) / 4
/-- The effect of an addressed, valid frame on a station in the right mode (R120 to R123, R135, R160 to R166). -/
def Station.execute (st : Station) (h : Heard) (e : StationSense) (next : Nat) : Answer :=
  let p := h.payload
  let own : Nat := st.stake - 1
  let staked := st.stake != 0xFF
  if h.cmd = 0x02 then silent { st.defaults with stake := 0xFF } next
  else if h.cmd = 0x03 then answer st next (leBytes 4 e.uptime ++ leBytes 2 st.rxValid ++ leBytes 2 st.rxBad)
  else if h.cmd = 0x10 then
    silent (if staked then
      ({ st with sampling := some (fieldAt 0 1 p, fieldAt 2 4 p, fieldAt (6 + 2 * own) 2 p) } : Station).hold h.now h.now (h.now + sampleHold (fieldAt (6 + 2 * own) 2 p))
      else st) next
  else if h.cmd = 0x11 then answer st next (st.cellData (fieldAt 0 1 p))
  else if h.cmd = 0x12 then answer st next (leBytes 1 e.age ++ (List.range 8).flatMap (fun i => leInt 2 (nth e.temps i tInvalid)))
  else if h.cmd = 0x13 then
    answer st next (leInt 2 e.dieT ++ leBytes 2 ((st.rounds.head?.map HeldRound.stackV).getD 0xFFFF) ++ leBytes 2 e.vrefA ++
      leBytes 2 e.vrefB ++ leBytes 2 e.vdd ++ leBytes 2 e.sensed ++ leBytes 2 st.faults)
  else if h.cmd = 0x20 then
    let mask := if fieldAt 0 2 p = 0 ∨ !staked then 0 else fieldAt (2 + 2 * own) 2 p
    let refused := refusedBits st e.dieT mask
    answer { st with bleeds := mask - refused, refused := refused } next (leBytes 2 (mask - refused) ++ leBytes 2 refused)
  else if h.cmd = 0x21 then
    silent (st.hold h.now (h.now + 250 * fieldAt 0 2 p) (h.now + 250 * fieldAt 0 2 p + 2500 * fieldAt 2 2 p)) next
  else if h.cmd = 0x30 then
    answer { st with openWire := st.openWire.start st.testing (fieldAt 0 4 p) 0 } next (st.openWire.data 17 (st.testing && fieldAt 0 4 p != 0))
  else if h.cmd = 0x31 then
    let mask := fieldAt 0 2 p
    answer { st with switchTest := st.switchTest.start st.testing mask (mask - refusedBits st e.dieT mask) } next
      (st.switchTest.data 32 (st.testing && mask != 0))
  else if h.cmd = 0x40 then answer { st with sleepSet := p } next p
  else if h.cmd = 0x41 then silent { st with sleeping := true, bleeds := 0, burstAt := none } next
  else if h.cmd = 0x60 then
    let a := fieldAt 0 2 p
    let n := fieldAt 2 1 p
    answer ((List.range n).foldl (fun st i => st.afterRead (a + i)) st) next
      (p ++ (List.range n).flatMap (fun i => leBytes 2 (st.reg (a + i))))
  else
    let a := fieldAt 0 2 p
    let n := fieldAt 2 1 p
    let ok := (List.range n).all (fun i => writableReg (a + i))
    answer (if ok then (List.range n).foldl (fun st i => st.setReg (a + i) (fieldAt (3 + 2 * i) 2 p)) st else st) next
      (leBytes 2 a ++ leBytes 1 n ++ leBytes 1 (b2n (!ok)))

/-- R124: FAULTS with the bits that the station has found since, but code memory's, which has an event of its own. -/
def Station.noteFaults (st : Station) (f : Nat) : Station := { st with faults := st.faults ||| ((f - f % 16) + f % 8) % 65536 }
/-- R118: the last frame that the station executed. -/
def Answer.executed (a : Answer) (h : Heard) : Answer := { a with st := { a.st with lastCmd := some (h.cmd, h.seq, a.rec?, h.now) } }
/-- R118: the frame repeats the last command with effect that the station executed, within 100 ms. -/
def Station.repeated (st : Station) (h : Heard) : Bool :=
  match st.lastCmd with
  | some (c, q, _, t) => withEffect h.cmd && c == h.cmd && q == h.seq && decide (h.now ≤ t + 25000000)
  | none => false
/-- R115 to R125: one station and a good frame, whether addressed or not. -/
def Station.onGood (st : Station) (h : Heard) (e : StationSense) (next : Nat) : Answer :=
  let st := { st.noteFaults e.faults with rxValid := incSat16 st.rxValid, frameLost := false, sleeping := false, burstAt := none }
  let loaderCmd := ([0x02, 0x03, 0x50, 0x51, 0x60] : List Nat).contains h.cmd
  if h.cmd = 0x01 ∧ st.mode ≠ 2 then silent st next
  else if h.cmd = 0x01 ∧ h.stake = 0xFF ∧ payloadOk 0x01 0xFF h.payload then
    (let a := st.onStake h next
     if a.st.stake = st.stake then a else a.executed h)
  else if !st.addressed h then silent st next
  else if !knownCmd h.cmd || !stakeFieldOk h.cmd h.stake || (st.mode != 2 && !loaderCmd) || !payloadOk h.cmd h.stake h.payload then st.refuse h next
  else if st.repeated h then
    (let st := { st with cmdErr := false, dup := true }
     ⟨st, (st.lastCmd.bind (fun l => l.2.2.1)).map (fun r => { r with status := st.status (st.turns h) }), next⟩)
  else
    let a := if h.cmd = 0x50 then silent (st.onCodeLoad h) next
      else if h.cmd = 0x51 then st.onCodeRun h next
      else st.execute h e next
    let after := { a.st with cmdErr := false, dup := false }
    ({ a with st := after, rec? := a.rec?.map (fun r => { r with status := after.status (after.turns h) }) } : Answer).executed h

/-- R124: the end of a train in which a station with a pending code-memory error has appended its record. -/
def Station.endTrain (st : Station) : Station := if st.eccPending then st.toLoader else st

/-- R115, R116, R132: a frame along its path: the stations in path order, each with what it senses. `i` counts stations,
`reach` bounds them, from `bad` on the CRC is bad: such a frame is repeated, and turned where the station turns frames. Answers the stations, the records, NEXT and the turning point. -/
def walk (h : Heard) (reach : Nat) (bad : Option Nat) : Nat → Nat → List (Station × StationSense) →
    List Station × List RingRec × Nat × Option Nat × Nat
  | i, next, [] => ([], [], next, none, i)
  | i, next, (st, e) :: rest =>
    if i ≥ reach then (st :: rest.map Prod.fst, [], next, none, i)
    else if !h.good (match bad with
      | some b => decide (i < b)
      | none => true) then
      let st := { st with rxBad := incSat16 st.rxBad }
      if st.turnsFrom h.fromB then (st :: rest.map Prod.fst, [], next, some i, i + 1)
      else
        let r := walk h reach bad (i + 1) next rest
        (st :: r.1, r.2)
    else
      let g := st.onGood h e next
      let a : Answer := if g.rec?.isSome then { g with st := g.st.endTrain } else g
      let recs := a.rec?.toList
      if st.turns h then (a.st :: rest.map Prod.fst, recs, a.next, some i, i + 1)
      else
        let r := walk h reach bad (i + 1) a.next rest
        (a.st :: r.1, recs ++ r.2.1, r.2.2)

/-- R141: the conversion of a staked station. -/
def Station.convert (st : Station) (v : List Nat) (stackV : Nat) (late bleedNear : Bool) : Station :=
  match st.sampling with
  | none => st
  | some (round, tag, _) =>
    { st with sampling := none, rounds := ({ round := round, tag := tag, v := v, stackV := stackV, late := late, bleedNear := bleedNear } :: st.rounds).take 4 }
/-- R123, R160, R162: a test ends, with its results or aborted. Entries of lines and cells that were not selected are 0; the
switch currents of a switch test (entries 16 to 31) are those of every cell. -/
def StationTest.finish (t : StationTest) (aborted openWire : Bool) (values : List Int) : StationTest :=
  match t.running with
  | none => t
  | some sel =>
    let kept := (values.zipIdx).map (fun p => if bitAt sel p.2 || (!openWire && decide (16 ≤ p.2)) then p.1 else 0)
    { t with running := none, on := 0, endedSeq := t.seq, state := if aborted then 2 else 0, values := if aborted then [] else kept }
/-- R124: power-up or an internal reset. -/
def Station.powerUp (uid hwId romVersion : Nat) (up down : Bool) : Station :=
  { uid := uid, hwId := hwId, romVersion := romVersion, lostUp := up, lostDown := down, toneLost := up }
/-- R166: tone bursts that a sleeping station still owes at a stamp: one a second, 30 in all. -/
def Station.burstsLeft (st : Station) (now : Nat) : Nat := match st.burstAt with
  | some t => 30 - (now - t) / ticksPerSecond
  | none => 0

end Sys2Proof.Machine
end

