-- ==== Sys2Proof/Machine/RingOps.lean ====
section
/-! DEFINITION. The module's side of a leg's ring: sending a frame (R112 to R118), the hop tables (R127, R128, R143),
the cell table (R147, R148, R155, R156), and the checks of what stations report (R149 to R151, R161, R163). -/
namespace Sys2Proof.Machine

/-- The state with leg n's ring changed. -/
def State.modRing (leg : Leg) (f : Ring → Ring) (s : State) : State := { s with ring := vmod s.ring leg f }
/-- The state with leg n's diagnostics changed. -/
def State.modDiag (leg : Leg) (f : LegDiag → LegDiag) (s : State) : State := { s with diag := vmod s.diag leg f }
/-- The key of a station's diagnostics: leg × 24 + stake − 1 (R389). -/
def stationKey (leg : Leg) (stake : Nat) : Nat := leg.val * 24 + (stake - 1)
/-- A station's diagnostics. -/
def State.sdiagAt (s : State) (leg : Leg) (stake : Nat) : StationDiag := lookupD {} s.sdiag (stationKey leg stake)
/-- The state with a station's diagnostics changed. -/
def State.modStation (leg : Leg) (stake : Nat) (f : StationDiag → StationDiag) (s : State) : State :=
  { s with sdiag := modKey {} (stationKey leg stake) f s.sdiag }
/-- R7: the global cell index of C(c) of a stake. -/
def cellIndex (leg : Leg) (stake c : Nat) : Nat := leg.val * 384 + (stake - 1) * 16 + (c - 1)
/-- R7: the temperature index of point p of a stake. -/
def tempIndex (leg : Leg) (stake p : Nat) : Nat := leg.val * 192 + (stake - 1) * 8 + p
/-- A cell of the cell table. -/
def State.cell (s : State) (i : Nat) : Cell := lookupD {} s.cells i
/-- The state with one cell changed. -/
def State.modCell (i : Nat) (f : Cell → Cell) (s : State) : State := { s with cells := modKey {} i f s.cells }
/-- A temperature point. -/
def State.temp (s : State) (i : Nat) : TempPoint := lookupD {} s.temps i
/-- STATION_COUNT of a leg (R138). -/
def State.stations (s : State) (leg : Leg) : Nat := s.parN (P.stationCount leg.val)
/-- CELL_MASK of a stake (R168). -/
def State.cellMask (s : State) (leg : Leg) (stake : Nat) : Nat := s.parN P.cellMask leg.val (stake - 1)
/-- TEMP_MASK of a stake (R168). -/
def State.tempMask (s : State) (leg : Leg) (stake : Nat) : Nat := s.parN P.tempMask leg.val (stake - 1)
/-- R8, R147: C(c) of a stake is populated. -/
def State.populatedCell (s : State) (leg : Leg) (stake c : Nat) : Bool :=
  s.populated leg && decide (1 ≤ stake) && decide (stake ≤ s.stations leg) && decide (1 ≤ c) && decide (c ≤ 16) &&
  bitAt (s.cellMask leg stake) (c - 1)
/-- The populated cells of a leg as (stake, c). -/
def State.legCells (s : State) (leg : Leg) : List (Nat × Nat) :=
  (List.range (s.stations leg)).flatMap (fun k =>
    ((List.range 16).filter (fun c => s.populatedCell leg (k + 1) (c + 1))).map (fun c => (k + 1, c + 1)))
/-- R148: a cell is fresh. -/
def Cell.fresh (c : Cell) : Bool := !c.invalid && !c.stale && !c.late && (!c.bleedNear || c.corrected)
/-- The index of an end in the two-element tables: 0 A, 1 B. -/
def endIx (fromB : Bool) : Fin 2 := if fromB then 1 else 0
/-- Source number 48 + n of a ring link (R55). -/
def ringSource (leg : Leg) : Nat := 48 + leg.val
/-- Type 0x1001 + 0x100 n of a RING record (R389). -/
def ringType (leg : Leg) : Nat := 0x1001 + 0x100 * leg.val
/-- Source number 52 + n of a leg's tests (R55). -/
def testSource (leg : Leg) : Nat := 52 + leg.val

/-- R112, R117: 2 µs a byte, in ticks. -/
def byteTicks : Nat := 500
/-- R109, R110, R117, R135: when the frame mark of a frame of an end leaves: 2 µs after the end of the last train and for CODE_LOAD
400 µs after the last one, at the earliest; then preamble, SFD and frame. -/
def Ring.markOf (r : Ring) (e : Fin 2) (cmd len now : Nat) : Nat :=
  let start := max now r.freeAt[e.val]
  (if cmd = 0x50 then max start r.loadAt[e.val] else start) + byteTicks * (9 + len)
/-- R112, R117: a frame of the module travels its ring: stations act on it and the train is in flight. A frame goes
out only when its end has none in flight; a repetition reuses the SEQ of the frame it repeats (R118). -/
def State.sendFrame (x : RingTx) (cmd : Nat) (payload : List Byte) (s : State) : State :=
  let r := s.ring[x.leg.val]
  let e := endIx x.fromB
  if r.flight[e.val].isSome then s
  else
    let planned := r.due.find? (fun d => d.fromB == x.fromB && d.cmd == cmd && d.stake == x.stake && d.payload == payload)
    let again := match planned with
      | some d => if x.retry ∧ d.retry > 0 then some d else none
      | none => none
    let seq := match again with
      | some d => d.seq
      | none => r.seq[e.val]
    let retries := match again with
      | some d => d.retry
      | none => 0
    let senses := (List.range r.chain.length).map (fun i => nth x.sense i {})
    let both := r.chain.zip senses
    let path := if x.fromB then both.reverse else both
    let mark := r.markOf e cmd payload.length s.time.meridian
    let h : Heard := { cmd := cmd, stake := x.stake, seq := seq, payload := payload, fromB := x.fromB, now := mark }
    let w := walk h x.reach x.badFrom 0 (fieldAt 0 1 payload) path
    let flight : Flight :=
      { cmd := cmd, stake := x.stake, seq := seq, payload := payload, records := w.2.1,
        turnedAt := w.2.2.2.1.map (fun i => if x.fromB then r.chain.length - 1 - i else i),
        reached := w.2.2.2.2, next := w.2.2.1, retries := retries, sentAt := mark }
    s.modRing x.leg (fun r =>
      { r with
        chain := if x.fromB then w.1.reverse else w.1
        flight := vmod r.flight e (fun _ => some flight)
        seq := if again.isSome then r.seq else vmod r.seq e (fun q => (q + 1) % 256)
        loadAt := if cmd = 0x50 then vmod r.loadAt e (fun _ => mark - byteTicks * (9 + payload.length) + 100000) else r.loadAt
        due := match planned with
          | some d => r.due.erase d
          | none => r.due })
/-- A flit waits for its slot in a direction of the Baseline (R21). -/
def Baseline.push (d : BaseDir) (cls typ tag : Nat) (p : Payload) (b : Baseline) : Baseline :=
  let f : Flit := { cls := cls, typ := typ, seq := 0, ack := 0, nak := false, tag := tag, payload := p }
  match d with
  | .f2c => { b with f2c := { b.f2c with pending := b.f2c.pending ++ [f] } }
  | .c2f => { b with c2f := { b.c2f with pending := b.c2f.pending ++ [f] } }
/-- A flit of the state's Baseline. -/
def State.pushFlit (d : BaseDir) (cls typ tag : Nat) (p : Payload) (s : State) : State := { s with base := s.base.push d cls typ tag p }
/-- A frame planned for the next free ring slot (R146), in front of the others where it takes the first one. It crosses to the
field die in class 3, station code in class 4 (R21). A standby plans none: it sends what the active unit requests (R318). -/
def State.planAt (first : Bool) (leg : Leg) (fromB : Bool) (cmd stake : Nat) (payload : List Byte) (s : State) : State :=
  let d : DueFrame := { fromB := fromB, cmd := cmd, stake := stake, payload := payload, retry := 0, seq := 0, first := first }
  if s.role = .standby then s
  else (s.pushFlit .c2f (if cmd = 0x50 then 4 else 3) leg.val 0 (.ringFrame leg fromB cmd payload)).modRing leg
    (fun r => { r with due := if first then d :: r.due else r.due ++ [d] })
/-- A frame planned for a free ring slot. -/
def State.plan (leg : Leg) (fromB : Bool) (cmd stake : Nat) (payload : List Byte) (s : State) : State := s.planAt false leg fromB cmd stake payload

/-- R107, R129, R134, R140: the ends in use: in loop mode a single module's end A or a twin unit's own; in split mode both, as far
as they are served. -/
def State.endsInUse (s : State) (leg : Leg) : List Bool :=
  if s.ring[leg.val].mode = 1 then ([false, true] : List Bool).filter (fun b => s.endServed b) else [s.ownEnd]
/-- R133: a stake is reached from an end, in split mode. -/
def Ring.inReach (r : Ring) (n : Nat) (fromB : Bool) (k : Nat) : Bool :=
  if fromB then decide (n < k + r.reachB) else decide (k ≤ r.reachA)
/-- A frame with STAKE 0 planned for each end in use (R133). -/
def State.planAll (leg : Leg) (cmd : Nat) (payload : List Byte) (s : State) : State :=
  (s.endsInUse leg).foldl (fun t b => t.plan leg b cmd 0 payload) s
/-- The same in the first ring slot (R49, R154). -/
def State.planFirst (leg : Leg) (cmd : Nat) (payload : List Byte) (s : State) : State :=
  (s.endsInUse leg).foldl (fun t b => t.planAt true leg b cmd 0 payload) s
/-- R133: the end that serves a stake: the module's own, but in split mode the other where it alone reaches it. -/
def State.endOf (s : State) (leg : Leg) (stake : Nat) : Bool :=
  let r := s.ring[leg.val]
  let own := s.ownEnd
  if r.mode == 1 && r.inReach (s.stations leg) (!own) stake && !r.inReach (s.stations leg) own stake then !own else own
/-- A frame for one stake, planned for the end that serves it. -/
def State.planFor (leg : Leg) (stake cmd : Nat) (payload : List Byte) (s : State) : State :=
  s.plan leg (s.endOf leg stake) cmd stake payload
/-- R161, R164: a station's test planned: its bleeds off first, then the test. -/
def State.planTest (leg : Leg) (stake cmd : Nat) (sel : List Byte) (s : State) : State :=
  let masks := (List.range 24).flatMap (fun k => leBytes 2 (if k + 1 = stake then 0 else (s.sdiagAt leg (k + 1)).mask))
  (s.planAll leg 0x20 (leBytes 2 45 ++ masks)).planFor leg stake cmd sel
/-- R160, R161: OPEN_WIRE_TEST of some wires. -/
def State.planWires (leg : Leg) (stake wires : Nat) (s : State) : State := s.planTest leg stake 0x30 (leBytes 4 wires)
/-- R162, R164: BAL_SWITCH_TEST of some cells. -/
def State.planSwitches (leg : Leg) (stake mask : Nat) (s : State) : State := s.planTest leg stake 0x31 (leBytes 2 mask)

/-- R119: the stakes expected to answer a frame, in path order from the originating end. -/
def expectedStakes (n : Nat) (f : Flight) (fromB : Bool) : List Nat :=
  if !hasRecord f.cmd then []
  else if f.stake = 0 ∨ (f.cmd = 1) ∨ f.stake = 0xFF then
    (let all := (List.range n).map (· + 1)
     if fromB then all.reverse else all)
  else [f.stake]
/-- R133: the reach of both ends is known: the wait of split mode is over, no PING with STAKE 0 is still out, and no
search of R133 runs. -/
def Ring.reachKnown (r : Ring) : Bool :=
  r.mode == 1 && !r.splitWait && r.seek[0] == 0 && r.seek[1] == 0 && !r.due.any (fun d => d.cmd == 0x03 && d.stake == 0) &&
  !r.flight.toList.any (fun f => match f with
    | some f => f.cmd == 0x03 && f.stake == 0
    | none => false)
/-- R119, R133: the stakes expected to answer a frame. In split mode each end serves the stations it reaches; those
that neither reaches count as missing from the module's own end. -/
def State.expectedFrom (s : State) (leg : Leg) (f : Flight) (fromB : Bool) : List Nat :=
  let r := s.ring[leg.val]
  let n := s.stations leg
  let all := expectedStakes n f fromB
  if r.reachKnown ∧ f.stake = 0 ∧ f.cmd ≠ 0x03 then
    all.filter (fun k => r.inReach n fromB k || (fromB == s.ownEnd && !r.inReach n (!fromB) k))
  else all
/-- R137: MODE of LINK_STATUS: 2 where split mode reaches no station from either end. -/
def Ring.modeRead (r : Ring) : Nat := if r.reachKnown && r.reachA == 0 && r.reachB == 0 then 2 else r.mode
/-- R119, R126: records against the expected stakes: those let in, the number discarded, and the stakes whose record
shows a restarted station. A record is let in when its stake stands among those still expected. -/
def sortRecords (bad : List Nat) : Nat → List Nat → List RingRec → List Taken × Nat × List Nat
  | _, _, [] => ([], 0, [])
  | i, ex, r :: rs =>
    let restarted := r.stake == 0xFF || r.status % 4 == 0 || bitAt r.status 6
    if !r.good (!bad.contains i) then
      let t := sortRecords bad (i + 1) ex.tail rs
      (t.1, t.2.1 + 1, t.2.2)
    else if ex.contains r.stake && !restarted then
      let t := sortRecords bad (i + 1) ((ex.dropWhile (· != r.stake)).tail) rs
      ((r.stake, r) :: t.1, t.2.1, t.2.2)
    else
      let t := sortRecords bad (i + 1) ex.tail rs
      (t.1, t.2.1 + 1, if restarted then ex.head?.toList ++ t.2.2 else t.2.2)

/-- R128: D_k in 1/8 ns from four RTT values in ns. -/
def distance (rtts : List Nat) : Int := ((rtts.map (fun (x : Nat) => (x : Int))).sum) - 4 * 625
/-- The spread of a list of values (R127). -/
def spread (xs : List Nat) : Nat := xs.foldl max 0 - xs.foldl min (xs.headD 0)
/-- The distance table of an end. -/
def Ring.dist (r : Ring) (fromB : Bool) : List (Nat × Int) := if fromB then r.distB else r.distA
/-- A distance, where it is known. -/
def distAt (t : List (Nat × Int)) (k : Nat) : Option Int := (t.find? (fun p => p.1 == k)).map Prod.snd
/-- R128: h_k in 1/8 ns: the distance beyond the station before it, counted from the end. -/
def hopOf (n : Nat) (t : List (Nat × Int)) (fromB : Bool) (k : Nat) : Option Int :=
  let first := if fromB then k == n else k == 1
  let prev := if fromB then k + 1 else k - 1
  match distAt t k with
  | none => none
  | some d => if first then some d else (distAt t prev).map (fun p => d - p)
/-- R137: HOP_DELAY of a stake in ns; 0xFFFF if not measured. -/
def hopNs (n : Nat) (t : List (Nat × Int)) (fromB : Bool) (k : Nat) : Nat :=
  match hopOf n t fromB k with
  | some h => satU16 (roundDiv h 8)
  | none => 0xFFFF
/-- R128, R143: a hop delay within HOP_MIN to HOP_MAX. -/
def State.hopOk (s : State) (leg : Leg) (h : Int) : Bool :=
  decide (8 * s.par (P.hopMin leg.val) ≤ h) && decide (h ≤ 8 * s.par (P.hopMax leg.val))
/-- R128, R143: a D_k found for a stake. A first one enters the table at once; a later one that differs by more than
10 ns replaces it at the next frame boundary, and a change above 100 ns or a hop delay out of limits marks the stake LATE.
A hop delay out of limits writes a record. -/
def State.takeHop (leg : Leg) (fromB : Bool) (stake : Nat) (d : Int) (s : State) : State :=
  let t := s.ring[leg.val].dist fromB
  let h := hopOf (s.stations leg) (insertKey stake d t) fromB stake
  let out := match h with
    | some h => !s.hopOk leg h
    | none => false
  let old := distAt t stake
  let change := (d - old.getD d).natAbs
  let bad := decide (change > 800) || out
  let limit := if (h.getD 0) < 8 * s.par (P.hopMin leg.val) then s.par (P.hopMin leg.val) else s.par (P.hopMax leg.val)
  let late (ks : List Nat) : List Nat := if bad then (if ks.contains stake then ks else ks ++ [stake]) else ks.erase stake
  let s := s.modRing leg (fun r =>
    { r with
      rtt := vmod r.rtt (endIx fromB) (fun _ => none)
      unstable := r.unstable.erase stake
      distA := if old.isNone && !fromB then insertKey stake d r.distA else r.distA
      distB := if old.isNone && fromB then insertKey stake d r.distB else r.distB
      distDue := if change > 80 then r.distDue ++ [(fromB, stake, d)] else r.distDue
      hopLate := if old.isNone then r.hopLate else late r.hopLate })
  if bad then s.form (ringType leg) 4 (ringSource leg) stake (roundDiv (h.getD 0) 8) limit else s
/-- R127, R143: one measured round trip of a stake. Four values with a spread of at most 20 ns give D_k; a second four are
planned and taken once, and a spread in those too marks the stake HOP_UNSTABLE. -/
def State.measureHop (leg : Leg) (fromB : Bool) (stake rtt : Nat) (s : State) : State :=
  let r := s.ring[leg.val]
  let e := endIx fromB
  let vals := (match r.rtt[e.val] with
    | some (k, vs) => if k = stake then vs else []
    | none => []) ++ [rtt]
  let last := vals.drop (vals.length - 4)
  let keep := s.modRing leg (fun r => { r with rtt := vmod r.rtt e (fun _ => some (stake, vals)) })
  if vals.length % 4 ≠ 0 then keep
  else if spread last ≤ 20 then s.takeHop leg fromB stake (distance last)
  else if vals.length = 4 then (List.range 4).foldl (fun t _ => t.plan leg fromB 0x03 stake [1]) keep
  else s.modRing leg (fun r => { r with rtt := vmod r.rtt e (fun _ => none), unstable := if r.unstable.contains stake then r.unstable else r.unstable ++ [stake] })

/-- R155: bleed current of a cell in µA at a voltage code: the learned conductance in nS, or 1 / BLEED_R. -/
def State.bleedMicroamps (s : State) (leg : Leg) (c : Cell) (v : Nat) : Int :=
  if c.conductance > 0 then roundDiv (v * c.conductance) 10000000 else roundDiv (v * 10000) (s.par P.bleedR leg.val)
/-- R156: the correction of a reading in codes of 100 µV, from the bleed currents of the cell and its neighbours. -/
def State.neighbourCorrection (s : State) (leg : Leg) (stake c : Nat) (vs : List Nat) : Int :=
  let cur (k : Nat) : Int :=
    if k = 0 ∨ k > 16 then 0
    else
      let e := s.cell (cellIndex leg stake k)
      if e.bleeding || e.stuckOn then s.bleedMicroamps leg e (nth vs (k - 1) 0) else 0
  let r (w : Nat) : Int := s.par P.wireR leg.val ((stake - 1) * 17 + w)
  roundDiv (r c * (cur c - cur (c + 1)) + r (c - 1) * (cur c - cur (c - 1))) 100000
/-- R155: charge of one round's interval in µAs: current in µA over ticks of 4 ns. -/
def chargeOver (microamps : Int) (ticks : Nat) : Int := roundDiv (microamps * ticks) 250000000

/-- R155: the ticks that a cell's bleed has conducted are counted up to a stamp: an applied one until it is replaced or its
DURATION ends, one that is stuck on throughout. -/
def Cell.conduct (t : Nat) (c : Cell) : Cell :=
  let upto := if c.stuckOn then t else if c.bleeding then min t c.onUntil else c.onFrom
  { c with onTicks := c.onTicks + (upto - c.onFrom), onFrom := max c.onFrom t }
/-- R122, R155: a BALANCE_SET with this frame mark has set the bleed of a cell. -/
def Cell.setBleed (mark duration : Nat) (on : Bool) (c : Cell) : Cell :=
  let c := c.conduct mark
  { c with bleeding := on, onFrom := mark, onUntil := mark + duration * 25000000 }
/-- R155: the charge bled since the round before, at the cell's last valid voltage. The quiet window of a round, 410 µs (R145),
does not count for a bleed that is applied. -/
def State.bleedRound (s : State) (leg : Leg) (tp : Nat) (c : Cell) : Cell :=
  let c := c.conduct tp
  let q := chargeOver (s.bleedMicroamps leg c c.lastV) (if c.stuckOn then c.onTicks else c.onTicks - 102500)
  { c with bleedCharge := c.bleedCharge + q, bledRound := c.bledRound + q, onTicks := 0, bleeding := c.bleeding && decide (tp < c.onUntil) }
/-- R147, R148, R156: one entry of a station's record of a round. -/
def Cell.enter (raw v flags : Nat) (fix bar late : Bool) (c : Cell) : Cell :=
  let none? := bitAt flags 0 || raw == 0xFFFF
  { c with
    v := if c.openAdj || bar || none? then 0xFFFF else v
    invalid := none? || c.openAdj || bar
    lastV := if none? then c.lastV else raw
    stale := false, held := 0, late := bitAt flags 1 || late, bleedNear := bitAt flags 2, corrected := fix }
/-- R147, R148, R155, R156: a station's record of a round enters the cell table. -/
def State.enterCells (leg : Leg) (stake : Nat) (data : List Byte) (tp : Nat) (s : State) : State :=
  let flags := fieldAt 1 1 data
  let vs := (List.range 16).map (fun i => fieldAt (2 + 2 * i) 2 data)
  let hopLate := s.ring[leg.val].hopLate.contains stake
  let vref := (s.sdiagAt leg stake).vrefInvalid
  let fix := bitAt flags 2 && s.par P.balNeighbour leg.val == 1
  (List.range 16).foldl (fun t i =>
    let c := i + 1
    if !s.populatedCell leg stake c then t
    else
      let raw := nth vs i 0xFFFF
      let v := if fix then satU16 ((raw : Int) + s.neighbourCorrection leg stake c vs) else raw
      t.modCell (cellIndex leg stake c) (fun e => s.bleedRound leg tp (e.enter raw v flags (fix && raw != 0xFFFF) vref hopLate))) s
/-- R148: a cell without a record of a round keeps its value as STALE, for so many rounds. -/
def Cell.miss (limit : Nat) (c : Cell) : Cell :=
  if c.invalid then c
  else if c.held + 1 ≤ limit then { c with stale := true, held := c.held + 1 }
  else { c with v := 0xFFFF, invalid := true, stale := false, held := c.held + 1 }
/-- R148, R155: a station whose record of a round is missing: its cells are held; their bleeds go on. -/
def State.missCells (leg : Leg) (stake tp : Nat) (s : State) : State :=
  let limit := s.parN P.staleRounds leg.val
  let s := s.modDiag leg (fun d => { d with missed := incSat d.missed })
  (List.range 16).foldl (fun t i =>
    if !s.populatedCell leg stake (i + 1) then t
    else t.modCell (cellIndex leg stake (i + 1)) (fun e => s.bleedRound leg tp (e.miss limit))) s
/-- R8, R147: temperature point p of a stake is populated. -/
def State.populatedTemp (s : State) (leg : Leg) (stake p : Nat) : Bool :=
  s.populated leg && decide (1 ≤ stake) && decide (stake ≤ s.stations leg) && bitAt (s.tempMask leg stake) p

/-- R133: a station that neither end reaches reports invalid codes. -/
def State.loseStation (leg : Leg) (stake : Nat) (s : State) : State :=
  let s := (List.range 16).foldl (fun t i =>
    if t.populatedCell leg stake (i + 1) then
      t.modCell (cellIndex leg stake (i + 1)) (fun e => { e with v := 0xFFFF, invalid := true, stale := false })
    else t) s
  (List.range 8).foldl (fun t p =>
    if t.populatedTemp leg stake p then
      { t with temps := modKey {} (tempIndex leg stake p) (fun x => { x with t := tInvalid }) t.temps }
    else t) s

/-- R150: a temperature within FAST_MARGIN of a warning threshold. -/
def State.nearThreshold (s : State) (leg : Leg) (t : Int) : Bool :=
  let m := s.par P.fastMargin leg.val
  t != tInvalid && (decide (t ≥ s.par P.cellWarn - m) || decide (t ≤ s.par P.cellLowWarn + m) || decide (t ≤ s.par P.cellChgBlock + m))
/-- R147, R149, R150: a READ_TEMPS record enters the cell table, and the fast list is joined. -/
def State.enterTemps (leg : Leg) (stake : Nat) (data : List Byte) (s : State) : State :=
  let old := decide (fieldAt 0 1 data > 25)
  let ts := (List.range 8).map (fun p => if old then tInvalid else leSigned (slice (1 + 2 * p) 2 data))
  let near := (List.range 8).any (fun p => s.populatedTemp leg stake p && s.nearThreshold leg (nth ts p tInvalid))
  let now := s.time.meridian
  let s := (List.range 8).foldl (fun t p =>
    if s.populatedTemp leg stake p then
      { t with temps := modKey {} (tempIndex leg stake p) (fun _ => { t := nth ts p tInvalid, stamp := now }) t.temps }
    else t) s
  if near then s.modStation leg stake (fun d => { d with fast := true }) else s

/-- R151: Σ of a station's populated cells of the round just entered, in 100 µV, where its record has come and every one of them
is valid. -/
def State.stationSum (s : State) (leg : Leg) (stake : Nat) : Option Int :=
  (List.range 16).foldl (fun a i =>
    if s.populatedCell leg stake (i + 1) then
      let e := s.cell (cellIndex leg stake (i + 1))
      match a with
      | some x => if e.invalid || e.held > 0 then none else some (x + e.v)
      | none => none
    else a) (some 0)

/-- The five checks of a housekeeping record, and their values for R389. -/
structure HkChecks where
  vref : Bool
  /-- Skipped: none. -/
  stack : Option Bool
  vdd : Bool
  bal : Bool
  faults : Bool
  deriving DecidableEq, Repr
/-- R151: the sums of the latest round whose T_P precedes a frame mark by at least 200 µs; of a round that is still unread there
are none (log 270). -/
def State.sumAt (s : State) (leg : Leg) (stake mark : Nat) : Option Int :=
  let before (tp : Nat) : Bool := decide (tp + 50000 ≤ mark)
  let unread := (s.ring[leg.val].unread.filter (fun u => before u.tp)).map (fun u => u.tp)
  match s.diag[leg.val].sums.find? (fun r => before r.1) with
  | none => none
  | some r => if unread.any (fun tp => decide (r.1 < tp)) then none else (r.2.find? (fun p => p.1 == stake)).map Prod.snd
/-- R151: one housekeeping record is checked against Σ, where there is one, and its failures recorded; the answer says whether
every check passed or was skipped. -/
def State.checkHousekeeping (leg : Leg) (stake : Nat) (sum : Option Int) (data : List Byte) (s : State) : State × Bool :=
  let stackV : Int := fieldAt 2 2 data
  let va : Int := fieldAt 4 2 data
  let vb : Int := fieldAt 6 2 data
  let vdd : Int := fieldAt 8 2 data
  let mask := fieldAt 10 2 data
  let faults := fieldAt 12 2 data
  let d := s.sdiagAt leg stake
  let want := d.mask - (d.mask &&& d.refused)
  let k : HkChecks :=
    { vref := decide (24950 ≤ va) && decide (va ≤ 25050) && decide (24950 ≤ vb) && decide (vb ≤ 25050) && decide ((va - vb).natAbs ≤ 30)
      stack := sum.map (fun x => decide (2 * (100 * stackV - x).natAbs ≤ stackV.toNat + 2000))
      vdd := decide (3135 ≤ vdd) && decide (vdd ≤ 3465)
      bal := mask == want
      faults := faults == 0 }
  let key := stationKey leg stake
  let rec? (bad : Bool) (code : Nat) (a b : Int) (t : State) : State :=
    if bad then t.form 0x1401 code (testSource leg) key a b else t
  let resid : Int := match sum with
    | some x => roundDiv (100 * stackV - x) 10
    | none => 0
  let fresh := faults - (faults &&& d.faults)
  let s := rec? (!k.vref) 3 va vb s
  let s := rec? (k.stack == some false) 8 resid (roundDiv stackV 20 + 100) s
  let s := rec? (!k.vdd) 9 vdd (if vdd < 3135 then 3135 else 3465) s
  let s := rec? (!k.bal) 10 mask want s
  let s := rec? (fresh != 0) 11 fresh faults s
  let vrefBad := if k.vref then 0 else d.vrefBad + 1
  let vrefGood := if k.vref then d.vrefGood + 1 else 0
  let vinv := if vrefBad ≥ 3 then true else if vrefGood ≥ 3 then false else d.vrefInvalid
  let balBad := if k.bal then 0 else d.balBad + 1
  let s := s.modStation leg stake (fun d =>
    { d with
      vrefBad := vrefBad, vrefGood := vrefGood, vrefInvalid := vinv
      balBad := balBad, mismatch := d.mismatch || decide (balBad ≥ 2)
      faults := faults
      stackOk := sum.isSome
      stack := match sum with
        | some x => ((100 * stackV - x) :: d.stack).take 65
        | none => d.stack })
  let s := if vinv && !d.vrefInvalid then
      (List.range 16).foldl (fun t i => if s.populatedCell leg stake (i + 1) then
        t.modCell (cellIndex leg stake (i + 1)) (fun e => { e with v := 0xFFFF, invalid := true }) else t) s
    else s
  (s, k.vref && k.stack != some false && k.vdd && k.bal && k.faults)

/-- R161: the cells on both sides of line w of a station. -/
def lineCells (w : Nat) : List Nat := (if w ≥ 1 then [w] else []) ++ (if w ≤ 15 then [w + 1] else [])
/-- R161: a line is confirmed open, or an intact result clears it; OPEN_ADJ of a cell follows its two lines. -/
def State.setLine (leg : Leg) (stake w : Nat) (opened : Bool) (s : State) : State :=
  let s := s.modStation leg stake (fun d => { d with openWires := setBit d.openWires w opened })
  let d := s.sdiagAt leg stake
  (lineCells w).foldl (fun t c =>
    if s.populatedCell leg stake c then
      let adj := bitAt d.openWires (c - 1) || bitAt d.openWires c
      t.modCell (cellIndex leg stake c) (fun e => { e with openAdj := adj, invalid := e.invalid || adj, v := if adj then 0xFFFF else e.v })
    else t) s
/-- R161: one tested line is classified by DV in 100 µV; lines to test again are collected in owWires. -/
def State.classifyLine (leg : Leg) (stake w : Nat) (dv : Int) (s : State) : State :=
  let d := s.sdiagAt leg stake
  let key := stationKey leg stake
  let mag := dv.natAbs
  let clear (t : State) : State := t.modStation leg stake (fun d => { d with retest := d.retest.filter (fun p => p.1 != w) })
  if mag > 2000 then
    let first := !bitAt d.openWires w
    let s := clear (s.setLine leg stake w true)
    let s := s.modStation leg stake (fun d => { d with suspect := setBit d.suspect w false })
    if first then s.formEvent 0x1401 4 (testSource leg) key dv 2000 else s
  else if mag ≤ 500 then
    let s := clear (if bitAt d.openWires w then s.setLine leg stake w false else s)
    let was := bitAt d.suspect w
    s.modStation leg stake (fun d =>
      { d with
        suspect := setBit d.suspect w false
        suspended := if was then insertKey w (s.time.meridian + 600 * ticksPerSecond) d.suspended else d.suspended })
  else
    let n := lookupD 0 d.retest w
    if n < 2 then
      s.modStation leg stake (fun d => { d with retest := insertKey w (n + 1) d.retest, owWires := withBit d.owWires w })
    else
      let s := clear s
      let s := s.modStation leg stake (fun d => { d with suspect := withBit d.suspect w })
      s.form 0x1401 5 (testSource leg) key dv 500

/-- R163: the verdict on one cell of a switch test: codes 0 pass, 1 switch open, 2 current sense fault, 3 current out
of range, 4 line resistance out of range, 5 stuck on, 6 nothing to say (an unselected cell without current). -/
def State.switchVerdict (s : State) (leg : Leg) (selected : Bool) (v : Nat) (drop isw : Int) : Nat :=
  -- I_exp = V / BLEED_R, mA × 1000
  let iexp := roundDiv ((v : Int) * 10000) (s.par P.bleedR leg.val)
  let inRange := decide (7 * iexp ≤ 10000 * isw) && decide (10000 * isw ≤ 13 * iexp)
  -- DROP / ISW in mΩ: 100 µV per mA is 100 mΩ
  let rOk := decide (s.par P.swRMin leg.val * isw ≤ 100 * drop) && decide (100 * drop ≤ s.par P.swRMax leg.val * isw)
  if !selected then (if isw ≥ 10 then 5 else 6)
  else if isw < 10 then (if drop < 10 then 1 else 2)
  else if drop < 10 then 2
  else if !inRange then 3
  else if !rOk then 4
  else 0
/-- R163: a returned switch test is evaluated cell by cell. -/
def State.evaluateSwitches (leg : Leg) (stake mask : Nat) (data : List Byte) (s : State) : State :=
  (List.range 16).foldl (fun t i =>
    let c := i + 1
    if !s.populatedCell leg stake c then t
    else
      let idx := cellIndex leg stake c
      let drop := leSigned (slice (2 + 2 * i) 2 data)
      let isw : Int := fieldAt (34 + 2 * i) 2 data
      let v := (s.cell idx).v
      let r := s.switchVerdict leg (bitAt mask i) v drop isw
      if r = 6 then t
      else if r = 0 then
        t.modCell idx (fun e => { e with switchFail := false, stuckOn := false, conductance := (roundDiv (isw * 10000000000) v).toNat })
      else
        let t := t.modCell idx (fun e => { e with switchFail := true, stuckOn := e.stuckOn || r == 5 })
        let t := t.form 0x1401 7 (testSource leg) idx isw drop
        if r = 5 then t.event 0x1401 7 (testSource leg) idx isw drop else t) s

/-- R165: the payload of SET_SLEEP_THRESHOLDS. -/
def State.sleepPayload (s : State) (leg : Leg) : List Byte :=
  leBytes 2 (s.parN P.sleepOv leg.val) ++ leBytes 2 (s.parN P.sleepUv leg.val) ++ leInt 2 (s.par P.sleepOt leg.val) ++
  leInt 2 (s.par P.sleepUt leg.val) ++ leBytes 2 (s.parN P.sleepPeriod leg.val)
/-- R79, R165, R387: the laid-up sequence is abandoned: SURVEYED stays, the book reopens and a record says so: CODE 2
after a wake event, 3 after a station that did not confirm, with its stake (R389). -/
def State.abandonLayup (code index : Nat) (s : State) : State :=
  if s.layup.step = 0 then s
  else
    let s := { s with
      layup := { s.layup with step := 0, awaiting := [] }, learn := { s.learn with shutdown := 0 }, fb := { s.fb with closed := false, isOpen := s.fb.isOpen || s.fb.closed } }
    s.form 0x0404 code 112 index s.start.wakeCause 0
/-- R165: a station does not confirm its thresholds: the sequence is abandoned, with a record and a host event. -/
def State.sleepNotConfirmed (leg : Leg) (stake : Nat) (s : State) : State :=
  if s.layup.step = 0 then s else (s.abandonLayup 3 stake).formEvent (ringType leg) 5 (ringSource leg) stake 0 0

end Sys2Proof.Machine
end

