-- ==== Sys2Proof/Machine/Staking.lean ====
section
/-! DEFINITION. The code load of a leg (R135), and its staking passes: unstaking, staking from both ends, the stakes learned on
the near side, and the hop delays measured (R126 to R128, R136, R147, R156). They plan their frames; the Traverse commands send
them. The near end is the module's own (R107): end A but in unit B of a twin. -/
namespace Sys2Proof.Machine

/-- A frame planned for every end in use. -/
def State.planEach (leg : Leg) (cmd stake : Nat) (payload : List Byte) (s : State) : State :=
  (s.endsInUse leg).foldl (fun t b => t.plan leg b cmd stake payload) s
/-- R135, R444: the station code of the running image: its first byte in the store, its length and its version. -/
def State.stationImage (s : State) : Option (Nat × Nat × Nat) := (s.component 6).map (fun c => (slotBase s.upd.slot + c.1, c.2.1, c.2.2))
/-- R135: the blocks of 48 bytes of an image of a length. -/
def blocksOf (len : Nat) : List Nat := List.range ((len + 47) / 48)
/-- R135 steps 1 to 3: the next CODE_LOAD of a leg's code load, or CODE_RUN after its last block. -/
def State.planLoad (leg : Leg) (s : State) : State :=
  match s.ring[leg.val].load, s.stationImage with
  | some c, some (base, len, version) =>
    match c.left with
    | b :: rest =>
      (s.modRing leg (fun r => { r with load := some { c with left := rest } })).planEach leg 0x50 c.stake
        (leBytes 4 (48 * b) ++ Memory.readBytes s.store (base + 48 * b) (min 48 (len - 48 * b)))
    | [] =>
      (s.modRing leg (fun r => { r with load := none })).planEach leg 0x51 c.stake
        (leBytes 4 len ++ leBytes 4 (crc32 (Memory.readBytes s.store base len)) ++ leBytes 4 version)
  | _, _ => s.modRing leg (fun r => { r with load := none })
/-- R135: a code load of a leg begins, with a STAKE field and from a block on. -/
def State.beginLoad (leg : Leg) (stake first : Nat) (s : State) : State :=
  let len := match s.stationImage with
    | some i => i.2.1
    | none => 0
  (s.modRing leg (fun r => { r with load := some { stake := stake, left := (blocksOf len).filter (fun b => decide (first ≤ b)) } })).planLoad leg
/-- R135: the code load of a start, on every populated leg, in the unit that is ACTIVE (R136). -/
def State.loadStations (s : State) : State :=
  if s.mode ≠ .load ∨ !s.base.enginesLoaded ∨ s.role ≠ .active ∨ (s.twinMember && !s.twin.aliveOut) then s
  else ([0, 1, 2, 3] : List Leg).foldl (fun t l => if t.populated l then (t.modRing l (fun r => { r with codeRuns := 0, codes := [] })).beginLoad l 0 0 else t) s
/-- R135: CODE_LOAD frames of a leg are still planned or in flight. -/
def Ring.loading (r : Ring) : Bool :=
  r.due.any (fun d => d.cmd == 0x50) || r.flight.toList.any (fun f => match f with
    | some f => f.cmd == 0x50
    | none => false)
/-- R135: a CODE_LOAD train has come back or timed out: the load goes on once every end's has. -/
def State.loadOn (leg : Leg) (s : State) : State :=
  if s.ring[leg.val].load.isNone || s.ring[leg.val].loading then s else s.planLoad leg
/-- R135 step 5: an attempt has failed: from the lowest FIRST_MISSING on every block is sent again, after a CRC mismatch all of
them, then CODE_RUN, with STAKE 0xFF (log 275). -/
def State.resendLoad (leg : Leg) (recs : List RingRec) (s : State) : State :=
  let mismatch := recs.any (fun r => fieldAt 0 1 r.data == 1)
  let firsts := (recs.filter (fun r => fieldAt 0 1 r.data == 2)).map (fun r => ((fieldAt 3 4 r.data / 48 : Nat) : Int))
  s.beginLoad leg 0xFF (if mismatch then 0 else match listMin? firsts with
    | some f => f.toNat
    | none => 131072)

/-- R126 step 4: every stake is held, no stake by two stations, with UIDs that differ as far as they are known. -/
def State.stakedWhole (s : State) (leg : Leg) : Bool :=
  let r := s.ring[leg.val]
  let n := s.stations leg
  let ids := (r.uids.filter (fun p => decide (1 ≤ p.1) && decide (p.1 ≤ n))).map Prod.snd
  (List.range n).all (fun k => r.uids.any (fun p => p.1 == k + 1) || r.heard.contains (k + 1)) && ids.eraseDups.length == ids.length &&
  !r.heard.any (fun k => r.stakedFar.contains k)
/-- R137: STAKED: the stakes held, but those of stations that have restarted. -/
def Ring.countStaked (n : Nat) (r : Ring) : Nat :=
  ((List.range n).filter (fun k => (r.uids.any (fun p => p.1 == k + 1) || r.heard.contains (k + 1)) && !r.restarted.contains (k + 1))).length
/-- The state with STAKED brought up to date. -/
def State.recount (leg : Leg) (s : State) : State := s.modRing leg (fun r => { r with staked := r.countStaked (s.stations leg) })
/-- R126, R128: the hop delays of a stake are measured and lie within limits. In a leg staked by a loop pass both tables hold
every stake, as far as their ends are served; else the table of the end that reaches it. -/
def State.hopGood (s : State) (leg : Leg) (k : Nat) : Bool :=
  let r := s.ring[leg.val]
  let n := s.stations leg
  let good (h : Option Int) : Bool := match h with
    | some h => s.hopOk leg h
    | none => true
  let a := hopOf n r.distA false k
  let b := hopOf n r.distB true k
  good a && good b &&
  (if r.heard.isEmpty then (a.isSome || !s.endServed false) && (b.isSome || !s.endServed true)
   else (distAt r.distA k).isSome || (distAt r.distB k).isSome)
/-- R126, R128: the hop delays of a leg are complete, and no station is HOP_UNSTABLE. -/
def State.hopsWhole (s : State) (leg : Leg) : Bool :=
  s.ring[leg.val].unstable.isEmpty && (List.range (s.stations leg)).all (fun k => s.hopGood leg (k + 1))

/-- R126: the payload of STAKE from an end: NEXT 1 upwards from end A, STATION_COUNT downwards from end B. -/
def State.stakePayload (s : State) (leg : Leg) (fromB : Bool) : List Byte := if fromB then leBytes 1 (s.stations leg) ++ [1] else [1, 0]
/-- R126 steps 1 and 2: a pass begins. -/
def State.startPass (leg : Leg) (s : State) : State :=
  let s := s.modRing leg (fun r =>
    { r with passes := r.passes + 1, stakeStep := 1, uids := [], heard := [], stakedFar := [], staked := 0, stakeComplete := false
             unstable := [], distA := [], distB := [], distDue := [], rtt := Vector.replicate 2 none })
  (s.plan leg s.ownEnd 0x02 0 []).plan leg s.ownEnd 0x01 0xFF (s.stakePayload leg s.ownEnd)
/-- R126: an incomplete pass is repeated up to STAKE_ATTEMPTS passes; then the leg is unavailable (R74). -/
def State.failPass (leg : Leg) (s : State) : State :=
  if s.ring[leg.val].passes < s.parN (P.stakeAttempts leg.val) then s.startPass leg
  else s.modRing leg (fun r => { r with stakeStep := 0, stakeComplete := false, available := false })
/-- R126 step 3: STAKE from the far end, where it is served. -/
def State.stakeFromFar (leg : Leg) (s : State) : State :=
  if s.endServed (!s.ownEnd) then
    (s.modRing leg (fun r => { r with stakeStep := 2 })).plan leg (!s.ownEnd) 0x01 0xFF (s.stakePayload leg (!s.ownEnd))
  else s.failPass leg
/-- R126 step 3: the stakes on the near side are asked one after another. -/
def State.learnStakes (leg : Leg) (s : State) : State :=
  (s.modRing leg (fun r => { r with stakeStep := 3 })).plan leg s.ownEnd 0x03 (if s.ownEnd then s.stations leg else 1) [1]
/-- R127: four PING with TURN of a stake. -/
def State.planHop (leg : Leg) (fromB : Bool) (k : Nat) (s : State) : State :=
  (List.range 4).foldl (fun t _ => t.plan leg fromB 0x03 k [1]) s
/-- R126 steps 5 and 6: the hop delays from both ends for every reachable station, and after a loop pass LOOP_TIME. -/
def State.planMeasure (leg : Leg) (s : State) : State :=
  let heard := s.ring[leg.val].heard
  let all := (List.range (s.stations leg)).map (· + 1)
  let s := s.modRing leg (fun r => { r with stakeStep := 4, rtt := Vector.replicate 2 none })
  let s := (if heard.isEmpty then all else heard).foldl (fun t k => t.planHop leg s.ownEnd k) s
  let s := if s.endServed (!s.ownEnd) then
      ((if heard.isEmpty then all else all.filter (fun k => !heard.contains k)).reverse).foldl (fun t k => t.planHop leg (!s.ownEnd) k) s
    else s
  if heard.isEmpty then s.plan leg s.ownEnd 0x03 0 [0] else s
/-- R147, R156: after staking CELL_MASK is written to CELLS_POPULATED of a station, and in neighbour mode 1 to
BAL_NEIGHBOUR; from the far end where the pass found that the near one does not reach it. -/
def State.planRegisters (leg : Leg) (stake : Nat) (s : State) : State :=
  let r := s.ring[leg.val]
  let b := if r.stakeStep == 3 && !r.heard.contains stake then !s.ownEnd else s.endOf leg stake
  let s := s.plan leg b 0x61 stake (leBytes 2 0x10 ++ [1] ++ leBytes 2 (s.cellMask leg stake))
  if s.par P.balNeighbour leg.val = 1 then s.plan leg b 0x61 stake (leBytes 2 0x11 ++ [1] ++ leBytes 2 1) else s
/-- The registers of several stations. -/
def State.planAllRegisters (leg : Leg) (ks : List Nat) (s : State) : State := ks.foldl (fun t k => t.planRegisters leg k) s
/-- R126 step 4: the stakes are found whole, and the measurement begins; or the pass has failed. -/
def State.concludeStakes (leg : Leg) (s : State) : State :=
  if s.stakedWhole leg then
    ((s.modRing leg (fun r => { r with stakeComplete := true })).planAllRegisters leg ((List.range (s.stations leg)).map (· + 1))).planMeasure leg
  else s.failPass leg
/-- R119: the records of a STAKE train that stand in chain order of the stakes expected, and how many do not. -/
def stakeRecords (bad : List Nat) : Nat → List Nat → List RingRec → List Taken × Nat
  | _, _, [] => ([], 0)
  | i, ex, r :: rs =>
    if r.good (!bad.contains i) && ex.contains r.stake then
      let t := stakeRecords bad (i + 1) ((ex.dropWhile (· != r.stake)).tail) rs
      ((r.stake, r) :: t.1, t.2)
    else
      let t := stakeRecords bad (i + 1) ex.tail rs
      (t.1, t.2 + 1)
/-- R126: the stakes that a frame to the unstaked stations finds, in path order: of a whole leg, or those that have restarted. -/
def State.unstaked (s : State) (leg : Leg) (fromB : Bool) : List Nat :=
  let r := s.ring[leg.val]
  let all := (List.range (s.stations leg)).map (· + 1)
  let ks := if r.stakeStep == 0 && !r.restarted.isEmpty then all.filter (fun k => r.restarted.contains k) else all
  if fromB then ks.reverse else ks
/-- R125, R126: the records of a STAKE train: outside a pass, those of restarted stations. The ring of a unit B that is ACTIVE
alone runs in split mode from end B (R300). -/
def State.onStakeTrain (leg : Leg) (fromB : Bool) (f : Flight) (recs : List Taken) (s : State) : State :=
  let r := s.ring[leg.val]
  let alone := fromB && s.ownEnd && f.turnedAt.isSome
  let n := s.stations leg
  let s := recs.foldl (fun t p => t.modRing leg (fun g =>
    { g with
      uids := insertKey p.1 (fieldAt 0 8 p.2.data) g.uids
      statuses := insertKey p.1 p.2.status g.statuses
      restarted := g.restarted.erase p.1
      stakedFar := if fromB = s.ownEnd then g.stakedFar else g.stakedFar ++ [p.1] })) s
  let whole := s.stakedWhole leg && (f.turnedAt.isSome || f.next == (if fromB then 0 else n + 1))
  let s := (s.modRing leg (fun g =>
    { g with mode := if g.mode = 3 then (if alone then 1 else 0) else g.mode
             reachB := if g.mode = 3 ∧ alone then recs.length else g.reachB
             stakeComplete := if g.stakeStep = 0 then whole else g.stakeComplete
             heard := if r.stakeStep = 1 ∧ f.turnedAt.isSome ∧ whole then (List.range n).map (· + 1) else g.heard })).recount leg
  if r.stakeStep = 1 ∧ fromB = s.ownEnd then
    (if whole then s.concludeStakes leg else if f.turnedAt.isSome then s.stakeFromFar leg else s.failPass leg)
  else if r.stakeStep = 2 ∧ fromB ≠ s.ownEnd then s.learnStakes leg
  else if r.stakeStep = 0 then
    (if whole then s.planAllRegisters leg (recs.map Prod.fst)
     else if !r.restarted.isEmpty ∧ r.mode = 0 then s.modRing leg (fun g => { g with available := false })
     else s)
  else s
/-- R126 step 3: a STAKE train did not return. -/
def State.missStake (leg : Leg) (fromB : Bool) (s : State) : State :=
  let r := s.ring[leg.val]
  if r.stakeStep = 1 ∧ fromB = s.ownEnd then s.stakeFromFar leg else if r.stakeStep = 2 ∧ fromB ≠ s.ownEnd then s.learnStakes leg else s
/-- R119, R126: a STAKE or PING train of a pass has come back with a bad command part: the pass has failed. -/
def State.spoilPass (leg : Leg) (s : State) : State :=
  let k := s.ring[leg.val].stakeStep
  if k = 1 ∨ k = 2 ∨ k = 3 then s.failPass leg else s
/-- R126: frames of a kind are still planned or in flight. -/
def Ring.pinging (r : Ring) : Bool :=
  r.due.any (fun d => d.cmd == 0x03) || r.flight.toList.any (fun f => match f with
    | some f => f.cmd == 0x03
    | none => false)
/-- R126 steps 3 to 6: a PING of a pass has been answered, or has not. -/
def State.pingOfPass (leg : Leg) (fromB : Bool) (stake : Nat) (answered : Bool) (s : State) : State :=
  let r := s.ring[leg.val]
  let own := s.ownEnd
  if r.stakeStep = 3 then
    (if fromB ≠ own ∨ stake = 0 then s
     else if answered then
       let s := (s.modRing leg (fun g => { g with heard := if g.heard.contains stake then g.heard else g.heard ++ [stake] })).recount leg
       if own then (if 1 < stake then s.plan leg own 0x03 (stake - 1) [1] else s.concludeStakes leg)
       else if stake < s.stations leg then s.plan leg own 0x03 (stake + 1) [1] else s.concludeStakes leg
     else s.concludeStakes leg)
  else if r.stakeStep = 4 then
    (if r.pinging then s
     else if s.stakedWhole leg && s.hopsWhole leg then s.modRing leg (fun g => { g with stakeStep := 0 })
     else s.failPass leg)
  else s
/-- R126: a reloaded station is staked again by a pass of step 2 alone, from each end in use. -/
def State.planRestake (leg : Leg) (s : State) : State :=
  (s.endsInUse leg).foldl (fun t b => t.plan leg b 0x01 0xFF (s.stakePayload leg b)) s
/-- R126, R135, R161: stations seen restarted lose their stake until they are reloaded and staked again; their tests are gone. -/
def State.markRestarted (leg : Leg) (ks : List Nat) (s : State) : State :=
  let new := ks.filter (fun k => !s.ring[leg.val].restarted.contains k)
  if new.isEmpty then s
  else
    let s := s.modRing leg (fun r => { r with restarted := r.restarted ++ new, codeRuns := 0, codes := new.foldl (fun cs k => insertKey k 0 cs) r.codes })
    let s := new.foldl (fun t k => t.modStation leg k (fun d => { d with owWires := 0, swMask := 0, swThen := 0, owAgain := false, swAgain := false })) s
    (s.recount leg).beginLoad leg 0xFF 0
/-- R126, R136: STAKING begins: each populated and available leg begins its first pass, in the unit that is ACTIVE. -/
def State.beginStaking (s : State) : State :=
  if s.role = .standby then s
  else ([0, 1, 2, 3] : List Leg).foldl (fun t l =>
    if t.populated l && t.ring[l.val].available then (t.modRing l (fun r => { r with passes := 0 })).startPass l else t) s

end Sys2Proof.Machine
end

