-- ==== Sys2Proof/Machine/ActOps.lean ====
section
/-! DEFINITION. Actions that many commands share: stops (R291, R292), the stop of a leg with diode braking (R235), the
learned-value trigger (R220), the end of balancing (R49, R152), and the yield of a probe (R190). -/
namespace Sys2Proof.Machine

/-- The state with a leg's converter changed. -/
def State.modConv (leg : Leg) (f : LegConv → LegConv) (s : State) : State := { s with conv := vmod s.conv leg f }
/-- The state with a CLE changed. -/
def State.modCle (leg : Leg) (f : Cle → Cle) (s : State) : State := { s with cle := vmod s.cle leg f }
/-- The state with a phase changed. -/
def State.modPwm (p : Phase) (f : PhasePwm → PhasePwm) (s : State) : State := { s with pwm := vmod s.pwm p f }
/-- The state with a leg's estimation changed. -/
def State.modEleg (leg : Leg) (f : EstLeg → EstLeg) (s : State) : State := { s with eleg := vmod s.eleg leg f }
/-- The state with a probe pair changed. -/
def State.modProbe (pair : Fin 2) (f : ProbePair → ProbePair) (s : State) : State := { s with probe := vmod s.probe pair f }
/-- The estimator's cell. -/
def State.estCell (s : State) (i : Nat) : EstCell := lookupD {} s.est i
/-- The state with one estimator cell changed. -/
def State.modEst (i : Nat) (f : EstCell → EstCell) (s : State) : State := { s with est := modKey {} i f s.est }
/-- The four legs in order. -/
def allLegs : List Leg := [0, 1, 2, 3]
/-- The eight phases in order. -/
def allPhases : List Phase := [0, 1, 2, 3, 4, 5, 6, 7]
/-- R226: the phases of a leg. -/
def phaseA (leg : Leg) : Phase := ⟨2 * leg.val, by omega⟩
/-- The second phase of a leg. -/
def phaseB (leg : Leg) : Phase := ⟨2 * leg.val + 1, by omega⟩
/-- R226: the leg of a phase. -/
def legOf (p : Phase) : Leg := ⟨p.val / 2, by omega⟩
/-- Probe pair of a leg (R186). -/
def pairOf (leg : Leg) : Fin 2 := ⟨leg.val / 2, by omega⟩
/-- Legs a and b of a pair (R187). -/
def pairA (p : Fin 2) : Leg := ⟨2 * p.val, by omega⟩
/-- The second leg of a pair. -/
def pairB (p : Fin 2) : Leg := ⟨2 * p.val + 1, by omega⟩

/-- R220: a trigger for a full set; the lower code of two is kept (R221). Before the learned values have been read no
set is written. -/
def State.learnTrigger (code : Nat) (s : State) : State :=
  if !s.start.learnedRead then s
  else { s with learn := { s.learn with due := some (match s.learn.due with
    | some c => min c code
    | none => code) } }

/-- What makes a probe yield (R190). -/
inductive YieldBy
  | stop | protection | request | enableCleared
  deriving DecidableEq, Repr
/-- R190, R197: LAST_RESULT and PROBE_DISCARDED of both legs of a pair. -/
def State.probeResult (p : Fin 2) (code : Nat) (s : State) : State :=
  let f (e : EstLeg) : EstLeg := { e with lastResult := code, natural := false, discarded := incSat e.discarded }
  (s.modEleg (pairA p) f).modEleg (pairB p) f
/-- A word without its probe offset (R190, R237). -/
def stripWord (w : SetPoint) : SetPoint := { w with iSet := w.iSet - w.iOff, iOff := 0 }
/-- A flit under way whose words to a leg lose their probe offset. -/
def stripFlit (leg : Leg) (f : Flit) : Flit :=
  match f.payload with
  | .setPoint l frame sample sp => if l = leg then { f with payload := .setPoint l frame sample (stripWord sp) } else f
  | _ => f
/-- R190: a leg's probe offset leaves its set-points from the next sample. -/
def State.stripOffset (leg : Leg) (s : State) : State :=
  let s := (s.modConv leg (fun c => { c with probeOffset := false })).modCle leg (fun c =>
    { c with words := c.words.map (fun w => (w.1, w.2.1, stripWord w.2.2)) })
  { s with base := { s.base with
      ahead := s.base.ahead.map (stripFlit leg)
      c2f := { s.base.c2f with
        pending := s.base.c2f.pending.map (stripFlit leg), received := s.base.c2f.received.map (stripFlit leg) } } }
/-- Offsets taken off the set-points of a pair (R190). -/
def State.removeOffsets (p : Fin 2) (s : State) : State :=
  ((s.stripOffset (pairA p)).stripOffset (pairB p)).modProbe p (fun q => { q with applied := false })
/-- R186, R190: a probe has ended or been cancelled: the pair's PROBE_PERIOD restarts. -/
def ProbePair.ended (now : Nat) (q : ProbePair) : ProbePair :=
  { q with phase := .idle, due := false, spoilt := none, draining := false, endedAt := now }
/-- R190: the probe of a pair yields. -/
def State.yieldPair (p : Fin 2) (by' : YieldBy) (s : State) : State :=
  let q := s.probe[p.val]
  match q.phase with
  | .idle => s
  | .observed =>
    if by' = .stop ∨ by' = .request ∨ by' = .enableCleared then s
    else (s.removeOffsets p).modProbe p (fun q => { q with endedAt := s.time.meridian })
  | .committed =>
    ((s.probeResult p 2).removeOffsets p).modProbe p (fun q => q.ended s.time.meridian)
  | .running =>
    match by' with
    | .stop => if q.spoilt.isSome then s else (s.probeResult p 3).modProbe p (fun q => { q with spoilt := some 3 })
    | .protection =>
      ((if q.spoilt.isSome then s else s.probeResult p 3).removeOffsets p).modProbe p (fun q => q.ended s.time.meridian)
    | .request =>
      ((if q.spoilt.isSome then s else s.probeResult p 4).removeOffsets p).modProbe p (fun q => q.ended s.time.meridian)
    | .enableCleared => s.modProbe p (fun q => { q with draining := true })
/-- R190, R191, R194: the probe of a leg's pair yields, and a natural-step observation on the leg that T_P,3 has not ended is spoilt. -/
def State.yieldLeg (leg : Leg) (by' : YieldBy) (s : State) : State :=
  (s.modEleg leg (fun e => match e.natStep with
    | some z => if s.time.meridian < z.1 + 5000000 ∧ by' ≠ .enableCleared then { e with natSpoilt := true } else e
    | none => e)).yieldPair (pairOf leg) by'
/-- R190: a stop reaches every leg. -/
def State.yieldAll (by' : YieldBy) (s : State) : State := allLegs.foldl (fun t l => t.yieldLeg l by') s

/-- R49, R152: balancing of a leg ends: the next ring frame carries BALANCE_SET with every bleed off. -/
def State.stopBalancing (leg : Leg) (s : State) : State :=
  if s.diag[leg.val].balancing then
    (s.modDiag leg (fun d => { d with balancing := false, draining := true, oddNext := true, phaseAt := none })).planFirst leg 0x20 (leBytes 2 0 ++ List.replicate 48 0)
  else s
/-- Balancing of every leg ends. -/
def State.stopAllBalancing (s : State) : State := allLegs.foldl (fun t l => t.stopBalancing l) s

/-- R235: a leg stops with diode braking: both phases low, PWMEN low, its CLE no longer computes. -/
def State.brakeLeg (leg : Leg) (st : LegSt) (cause : Nat) (s : State) : State :=
  let off (q : PhasePwm) : PhasePwm := { q with on := false, run := 0 }
  let s := (s.modPwm (phaseA leg) off).modPwm (phaseB leg) off
  let s := s.modCle leg (fun c => { c with running := false, direct := false })
  s.modConv leg (fun c =>
    { c with st := st, cause := cause, pwmen := false, ramp := none, soft := 0, lowRun := 0, zeroCycles := 0,
             setpoint := 0, pulsed := false, reenterRun := 0 })
/-- A leg that switches or is about to (R235): its PWM may run. -/
def LegSt.live (l : LegSt) : Bool := l == .softStart || l == .running || l == .loadStepOff || l == .draining
/-- R71: every leg is disabled and drained (a latched leg counts as such, log 40): RUNNING becomes ARMED. -/
def State.settleRunning (s : State) : State :=
  if s.mode = .running ∧ allLegs.all (fun l => s.conv[l.val].st == .disabled || (s.conv[l.val].st == .fault && !s.conv[l.val].enabled)) then
    { s with mode := .armed }
  else s

/-- R288, R291: a group reads WELDED (R287). -/
def State.welded (s : State) : Bool := allLegs.any (fun g => s.sf.group[g.val].st == .welded)
/-- R297: SAFETY_HEALTHY: start-up BIST passed; no fault, latched cause or active trigger. -/
def State.healthy (s : State) : Bool :=
  s.start.bistPassed && s.sf.latched == 0 && s.sf.activeCauses == 0 && !s.sf.lockstep && !s.sf.permitTimeout && !s.welded &&
  (List.range 8).all (fun i => match s.sf.pair[i]? with
    | some p => !p.discrepancy && !p.crossShort && !p.testFail
    | none => true) &&
  (List.range 8).all (fun i => match s.sf.output[i]? with
    | some o => !o.stuckOn && !o.stuckOff && !o.diagFault
    | none => true)

/-- R292: the extension of a SAFE_STOP record: I0_n. -/
def State.i0Bytes (s : State) : List Byte := (allLegs.map (fun l => leInt 4 (s.sf.i0[l.val]))).flatten
/-- R389: the category of a SAFE_STOP record: 0, 1, or 3 for orderly. -/
def categoryOf (cat : Nat) : Nat := if cat = 3 then 3 else cat - 1
/-- R291, R292: a trigger. Its cause is accumulated; in ARMED and RUNNING a stop begins, and during a stop the category
never becomes slower. Category 1, 2, 3: category 0, category 1, orderly. -/
def State.trigger (cause cat : Nat) (latching : Bool) (s : State) : State :=
  let fresh := s.sf.stopCat == 0 && (s.mode == .armed || s.mode == .running || s.sf.stopCause == 0)
  let s := { s with sf := { s.sf with
    stopCause := withBit s.sf.stopCause cause
    latched := if latching then withBit s.sf.latched cause else s.sf.latched
    firstCause := if fresh then cause else s.sf.firstCause
    stopStamp := if fresh then s.time.meridian else s.sf.stopStamp } }
  if s.mode = .armed ∨ s.mode = .running then
    let s := { s with
      mode := .stopping
      sf := { s.sf with stopCat := cat, stopLatching := latching, stopFrames := 0, zeroRun := 0, opened := false,
                        i0 := s.lat.legMa, outOfEnvelope := Vector.replicate 4 false } }
    let s := s.formAt 0x4001 s.sf.firstCause 21 (categoryOf cat) s.sf.stopCause 0 s.time.meridian s.i0Bytes false
    (((s.learnTrigger 4).yieldAll .stop).stopAllBalancing).event 0x4001 s.sf.firstCause 21 (categoryOf cat) s.sf.stopCause 0
  else if s.mode = .stopping then
    { s with sf := { s.sf with
        stopCat := if s.sf.stopCat = 0 then cat else if cat = 1 then 1 else if s.sf.stopCat = 3 ∧ cat = 2 then 2 else s.sf.stopCat
        stopLatching := s.sf.stopLatching || latching } }
  else s

/-- R71, R10: FAULT-HOLD is entered: converter and safety outputs are held off (R73). -/
def State.enterFaultHold (s : State) : State :=
  let s := s.stopAllBalancing
  let s := allLegs.foldl (fun t l => t.brakeLeg l (if t.conv[l.val].st = .fault then .fault else .disabled) t.conv[l.val].cause) s
  { s with mode := .faultHold, sf := { s.sf with stopCat := 0, seqStep := 0 } }

/-- A leg is latched with a FAULT_CAUSE (R250, R251, R252, R19): record of source 36 + n. -/
def State.latchLeg (leg : Leg) (cause : Nat) (current limit : Int) (s : State) : State :=
  let s := (s.brakeLeg leg .fault cause).yieldLeg leg .protection
  let s := s.modConv leg (fun c => { c with enabled := false, heldEnable := false })
  (s.form 0x3001 cause (36 + leg.val) leg.val current limit).settleRunning

end Sys2Proof.Machine
end

