-- ==== Sys2Proof/Machine/Pins.lean ====
section
/-! DEFINITION. What drives the pins in each module state (R72, R73, R97, R301): plant outputs and interface outputs. -/
namespace Sys2Proof.Machine

/-- How a pin stands (R73): high-impedance, low, high, as its function drives it, or at the Traverse idle level. -/
inductive Drive
  | z | low | high | active | idle
  deriving DecidableEq, Repr
/-- The signal groups of R73, one for each row. -/
inductive Signal
  | pwm | pwmen | sfo | axis | fan | syncout | tps | mck | ring | can | eth | twin | pps | alert | wakeOut | plat | store
  deriving DecidableEq, Repr
/-- The columns of R73 in the order OFF, BOOT, PLAT, LOAD, STAKING, SURVEYED, ARMED, RUNNING, STOPPING, FAULT-HOLD, LAID-UP. -/
def Mode.pick (m : Mode) (off boot plat load staking surveyed armed running stopping faultHold laidUp : Drive) : Drive :=
  match m with
  | .off => off
  | .boot => boot
  | .plat => plat
  | .load => load
  | .staking => staking
  | .surveyed => surveyed
  | .armed => armed
  | .running => running
  | .stopping => stopping
  | .faultHold => faultHold
  | .laidUp => laidUp
/-- R73: the table of pin states. -/
def pinTable (g : Signal) (m : Mode) : Drive :=
  match g with
  | .pwm | .pwmen => m.pick .z .z .z .z .z .z .low .active .active .low .z
  | .sfo => m.pick .z .z .z .z .z .z .active .active .active .low .z
  | .axis | .fan | .syncout => m.pick .z .z .z .z .z .z .active .active .active .active .z
  | .tps => m.pick .z .z .z .z .z .active .active .active .active .active .z
  | .mck | .can | .eth | .twin | .pps => m.pick .z .z .z .active .active .active .active .active .active .active .z
  | .ring => m.pick .z .z .z .active .active .active .active .active .active .active .idle
  | .alert => m.pick .z .z .active .active .active .active .active .active .active .low .z
  | .wakeOut => m.pick .z .high .high .high .high .high .high .high .high .high .low
  | .plat => m.pick .z .z .active .z .z .z .z .z .z .z .z
  | .store => m.pick .z .active .active .active .active .active .active .active .active .active .z
/-- R72: plant outputs. -/
def Signal.plant (g : Signal) : Bool := g == .pwm || g == .pwmen || g == .sfo || g == .axis || g == .fan || g == .syncout
/-- R97: what recovery changes of the FAULT-HOLD column; a failed start-up BIST holds coils and fans alike (R73). -/
def recoveryPin (recovery : Bool) (g : Signal) (d : Drive) : Drive :=
  match g with
  | .mck | .ring | .tps | .syncout | .twin => if recovery then .z else d
  | .axis => .low
  | .fan | .can => .high
  | _ => d
/-- The pair computes in step (R312). -/
def State.inPair (s : State) : Bool := s.twin.step == .inStep || s.twin.step == .suspect || s.twin.step == .dispute
/-- R301: an output that a standby holds high-impedance; its safety outputs only while it is not in step. -/
def State.standbyZ (s : State) (g : Signal) : Bool :=
  s.role == .standby && ((g.plant && g != .sfo) || g == .mck || g == .tps || (g == .sfo && !s.inPair))
/-- R62, R71: in last-gasp plant outputs are off, or high-impedance as they were when it began. -/
def lastGaspPin (was : Mode) (g : Signal) (d : Drive) : Drive :=
  if !g.plant then d else if pinTable g was = .z then .z else .low
/-- R72, R73: how the pins of a group stand. -/
def State.drive (s : State) (g : Signal) : Drive :=
  let d := pinTable g s.mode
  if s.mode = .boot ∧ s.start.noImage ∧ g = .alert then .low
  else if s.standbyZ g || (s.sf.forceoff && g.plant) then .z
  else if s.start.lastGasp then lastGaspPin s.start.lastGaspFrom g d
  else if s.mode = .faultHold ∧ s.start.reduced then recoveryPin s.plat.recovery g d
  else d
/-- The function drives a group of pins. -/
def State.drives (s : State) (g : Signal) : Bool := s.drive g == .active

end Sys2Proof.Machine
end

