-- ==== Sys2Proof/Machine/Axes.lean ====
section
/-! DEFINITION. Valve and damper axes (R337 to R352): profiles, homing, limits, the drive law, standstill, faults. Position,
speed and acceleration are held exactly, in units in which one 25 µs period is an addition (log 60). -/
namespace Sys2Proof.Machine

/-- PWM periods per second (R338). -/
def axHz : Int := 40000
/-- One microstep in the unit of x. -/
def axU : Int := axHz * axHz * axHz
/-- The four axes. -/
def allAxes : List (Fin 4) := [0, 1, 2, 3]
/-- The state with an axis changed. -/
def State.modAxis (i : Fin 4) (f : Axis → Axis) (s : State) : State := { s with axis := vmod s.axis i f }
/-- AX_POSITION in microsteps. -/
def Axis.position (a : Axis) : Int := roundDiv a.x axU
/-- AX_SPEED in microsteps/s. -/
def Axis.speed (a : Axis) : Int := roundDiv a.v (axHz * axHz)
/-- An axis parameter. -/
def State.axPar (s : State) (i : Fin 4) (p : Par) : Int := s.par p i.val
/-- A speed reduced towards rest by a deceleration in microsteps/s². -/
def Axis.rest (a : Axis) (dec : Int) : Axis :=
  let v := towardsZero' a.v (dec * axHz)
  { a with v := v, x := a.x + v, a := 0 }
where
  towardsZero' (x step : Int) : Int := if x > 0 then max 0 (x - step) else min 0 (x + step)
/-- A speed moved towards a target speed (homing), accelerating at ACC and slowing at DEC. -/
def Axis.cruise (a : Axis) (acc dec speed : Int) : Axis :=
  let t := speed * axHz * axHz
  let slowing := decide (a.v * t < 0) || decide (t.natAbs < a.v.natAbs)
  let step := (if slowing then dec else acc) * axHz
  let v := if slowing ∧ a.v * t < 0 ∧ (a.v.natAbs : Int) ≤ step then 0 else a.v + max (-step) (min step (t - a.v))
  { a with v := v, x := a.x + v, a := 0 }
/-- The trapezoidal profile's next speed towards a distance d ahead (R340): never past the speed from which DEC stops in
time. -/
def trapezoid (vmax acc dec v d : Int) : Int :=
  let acc' := acc * axHz
  let dec' := dec * axHz
  let q := min acc' dec'
  let fits (u : Int) : Bool := decide (u * u / (2 * dec') + u ≤ d)
  let c := min (v + acc') (vmax * axHz * axHz)
  if fits c then c else if v ≥ q ∧ fits v then v else if v < q ∧ fits q then q else max 0 (v - dec')
/-- R340: the jerk-limited stopping distance from a speed and acceleration, in microsteps. -/
def stopJerk (dec j s a : F64) : F64 :=
  let two := F64.ofNat 2
  let three := F64.ofNat 3
  let curve (u : F64) : F64 :=
    if ((dec.mul dec).div j).le u then (u.mul ((u.div dec).add (dec.div j))).div two else u.mul (u.div j).sqrt
  if a.lt F64.zero then
    let b := a.negate
    let t := b.div j
    let s0 := s.add ((b.mul t).div two)
    (curve s0).sub ((s0.mul t).sub ((b.mul (t.mul t)).div (F64.ofNat 6)))
  else
    let t := a.div j
    let s1 := s.add ((a.mul t).div two)
    (curve s1).add ((s.mul t).add ((a.mul (t.mul t)).div three))
/-- The jerk-limited profile's next acceleration (R340), in its unit, along the direction of travel. -/
def jerkStep (vmax acc dec jerk v a d : Int) (ahead : Bool) : Int :=
  let f (n : Int) : F64 := F64.ofInt n
  let s := F64.ofRatio v (axHz * axHz).toNat
  let far := F64.ofRatio d axU.toNat
  let go := ahead && (stopJerk (f dec) (f jerk) s (F64.ofRatio a axHz.toNat)).lt far
  let two := F64.ofNat 2
  let want : F64 :=
    if go then F64.min (f acc) ((two.mul (f jerk)).mul (F64.max F64.zero ((f vmax).sub s))).sqrt
    else (F64.min (f dec) ((two.mul (f jerk)).mul s).sqrt).negate
  let t := (want.mul (f axHz)).round
  a + max (-jerk) (min jerk (t - a))
/-- R340, R341: one period towards a target in microsteps. -/
def Axis.advance (a : Axis) (vmax acc dec : Int) (jerk : Option Int) (target : Int) : Axis :=
  let d := target * axU - a.x
  let dir : Int := if a.v ≠ 0 then a.v.sign else d.sign
  let ahead := decide (0 < dir * d)
  let va : Int := a.v.natAbs
  let q := min acc dec * axHz
  let r : Int × Int := match jerk with
    | none => (if ahead then trapezoid vmax acc dec va d.natAbs else max 0 (va - dec * axHz), 0)
    | some j =>
      let aa := jerkStep vmax acc dec j va (dir * a.a) d.natAbs ahead
      let v := max 0 (min (va + aa) (vmax * axHz * axHz))
      (v, if v = 0 then 0 else aa)
  let x := a.x + dir * r.1
  if r.1 ≤ q ∧ ((target * axU - x).natAbs : Int) ≤ 2 * q then { a with x := target * axU, v := 0, a := 0 }
  else { a with x := x, v := dir * r.1, a := dir * r.2 }

/-- R344: a move towards the present target may start: no active limit lies in its direction. -/
def Axis.mayMove (a : Axis) : Bool :=
  let d := a.target * axU - a.x
  !(decide (d > 0) && a.limit[0]) && !(decide (d < 0) && a.limit[1])
/-- R341, R344, R347: the axis takes up its target. -/
def Axis.takeUp (a : Axis) : Axis :=
  if a.target * axU = a.x ∧ a.v = 0 then { a with st := if a.st = .standstill then .standstill else .holding }
  else if a.mayMove then { a with st := .moving, lead := if a.st = .standstill ∨ a.st = .disabled then 400 else 0, limitDec := false }
  else { a with st := if a.v = 0 then .holding else .stopping }
/-- R348: a fault of an axis, with its record and host event. -/
def State.axisFault (i : Fin 4) (cause : Nat) (s : State) : State :=
  let pos := s.axis[i.val].position
  let s := s.modAxis i (fun a => { a with st := .fault, cause := cause, homed := false, held := false, edge := none,
                                          v := if cause = 1 then 0 else a.v, off := a.off || cause == 1 })
  s.formEvent 0x5801 cause 123 i.val pos 0
/-- R345: homing begins. -/
def Axis.startHoming (a : Axis) : Axis :=
  { a with st := .homing, step := .settle, cause := 0, limitSeen := false, sawActive := false, limitDec := false,
           lead := if a.st = .standstill ∨ a.st = .disabled then 400 else 0 }
/-- R345: at an entry to ARMED, enabled axes hold, and those not homed home themselves. -/
def State.autoHome (s : State) : State :=
  allAxes.foldl (fun t i =>
    if t.axPar i P.axFitted = 0 ∨ !t.axis[i.val].enable ∨ t.axis[i.val].st = .fault then t
    else
      let t := t.modAxis i (fun a => if a.st = .disabled then { a with st := .holding } else a)
      if !t.axis[i.val].homed ∧ t.axPar i P.autoHome = 1 then t.modAxis i Axis.startHoming else t) s
/-- R62, R73, R97: the axes run: a standby's follow the active unit's with their outputs high-impedance (R301). -/
def State.axesRun (s : State) : Bool :=
  s.inStates [.armed, .running, .stopping, .faultHold] && !s.start.reduced && !s.start.lastGasp
/-- R73, R97, R301: the axis outputs are driven by their function. -/
def State.axesDriven (s : State) : Bool := s.axesRun && s.drives .axis

/-- R345, R346: what a homing step does in a period, the motion already made. -/
def State.homingStep (i : Fin 4) (s : State) : State :=
  let a := s.axis[i.val]
  let stopped := a.v == 0
  let travel : Int := (a.x - a.from').natAbs
  let limited := decide (s.axPar i P.homeMaxTravel * axU ≤ travel)
  let go (st : HomeStep) : State := s.modAxis i (fun a => { a with step := st, from' := a.x, sawActive := false })
  match a.step with
  | .settle => if stopped then go (if a.homeLevel then .leave else .search) else s
  | .leave =>
    if !a.homeLevel && !a.homeQual && a.edge.isNone then go .backOff else if limited then s.axisFault i 3 else s
  | .backOff => if s.axPar i P.homeBackoff * axU ≤ travel then go .search else s
  | .search => if limited then s.axisFault i 3 else s
  | .found =>
    if !stopped then s
    else
      let s := s.modAxis i (fun a =>
        let x := (a.position - a.latch + s.axPar i P.homeOffset) * axU
        let a := { a with x := x, homed := true, st := .holding }
        if a.held then { a with held := false }.takeUp else { a with target := a.position })
      s.form 0x5801 16 123 i.val s.axis[i.val].position 0
  | .limitStop => if stopped then go .wayBack else s
  | .wayBack => if limited then s.axisFault i 3 else s
  | .wayBackStop => if stopped then go .search else s
/-- R343, R345, R346: an edge that has qualified. -/
def Axis.qualify (a : Axis) : Axis :=
  match a.edge with
  | none => a
  | some e =>
    if ((a.x - e.1).natAbs : Int) < 16 * axU then a
    else
      let a := { a with edge := none, homeQual := e.2.2 }
      if a.st ≠ .homing then a
      else if a.step = .search ∧ e.2.2 then { a with step := .found, latch := roundDiv e.1 axU, latchStamp := e.2.1 }
      else if a.step = .wayBack ∧ e.2.2 then { a with sawActive := true }
      else if a.step = .wayBack ∧ !e.2.2 ∧ a.sawActive then { a with step := .wayBackStop }
      else a
/-- R340, R345, R347: the motion of an axis in one period. -/
def State.axisMotion (s : State) (i : Fin 4) (a : Axis) : Axis :=
  let acc := s.axPar i P.acc
  let dec := s.axPar i P.dec
  let speed := s.axPar i P.homeSpeed
  let dir : Int := if s.axPar i P.homeDir = 1 then 1 else -1
  if a.lead > 0 then { a with lead := a.lead - 1 }
  else
    match a.st with
    | .moving =>
      let a := a.advance (s.axPar i P.vmax) acc dec (if s.axPar i P.profile = 1 then some (s.axPar i P.jerk) else none) a.target
      if a.v = 0 ∧ a.x = a.target * axU then { a with st := .holding } else a
    | .stopping =>
      let a := a.rest (if a.limitDec then s.axPar i P.limitDec else dec)
      if a.v ≠ 0 then a
      else if !a.enable then { a with st := .disabled, limitDec := false, target := a.position }
      else if a.limitDec then { a with limitDec := false, st := .holding }.takeUp
      else { a with st := .holding, target := a.position }
    | .homing =>
      match a.step with
      | .settle | .found | .wayBackStop => a.rest dec
      | .limitStop => a.rest (s.axPar i P.limitDec)
      | .leave | .backOff | .wayBack => a.cruise acc dec (-(dir * speed))
      | .search => a.cruise acc dec (dir * speed)
    | .fault => a.rest (s.axPar i P.limitDec)
    | .disabled | .holding | .standstill => a

/-- π in binary64. -/
def piF : F64 := ⟨0x400921FB54442D18⟩
/-- R338, R339: a winding duty as cycles of 5,000, and whether it was clamped. -/
def dutyOf (v vmot : F64) : Int × Bool :=
  let d := v.div vmot
  let c := F64.clamp F64.one.negate F64.one d
  if d.isNaN then (0, false) else ((c.mul (F64.ofNat 5000)).round, F64.one.lt d.abs)
/-- R339: the winding duties of an axis, with a current in mA. -/
def State.windings (s : State) (i : Fin 4) (a : Axis) : (Int × Bool) × (Int × Bool) :=
  let f (p : Par) (k : Nat) : F64 := dec' (s.axPar i p) k
  let iCur := if a.v = 0 then f P.iHold 3 else f P.iRun 3
  let theta := ((F64.ofRatio a.x axU.toNat).mul (piF.div (F64.ofNat 2))).div (f P.microsteps 0)
  let omega := (((F64.ofRatio a.v (axHz * axHz).toNat).mul (F64.ofNat 2)).mul piF).div ((f P.stepsPerRev 0).mul (f P.microsteps 0))
  let p := (f P.stepsPerRev 0).div (F64.ofNat 4)
  let sn := Config.sin theta
  let cs := Config.cos theta
  let r := f P.windR 3
  let l := f P.windL 6
  let ke := f P.ke 6
  let ind (x : F64) : F64 := (((l.mul iCur).mul x).mul p).mul omega
  let emf (x : F64) : F64 := (ke.mul omega).mul x
  let va := ((r.mul (iCur.mul cs)).sub (ind sn)).sub (emf sn)
  let vb := ((r.mul (iCur.mul sn)).add (ind cs)).add (emf cs)
  let vm := dec' a.vmot 3
  (dutyOf va vm, dutyOf vb vm)
where
  dec' (n : Int) (k : Nat) : F64 := F64.ofRatio n (10 ^ k)
/-- R73, R337 to R347: the outputs of an axis for the next period. -/
def State.driveAxis (s : State) (i : Fin 4) (a : Axis) : Axis :=
  let idle := a.st == .standstill || a.st == .disabled
  if s.axPar i P.axFitted = 0 ∨ (a.st = .fault ∧ a.cause = 1) ∨ (idle ∧ s.axPar i P.standstill = 0) then
    { a with off := true, dutyA := 0, dutyB := 0 }
  else if idle then { a with off := false, dutyA := 0, dutyB := 0 }
  else
    let w := s.windings i a
    { a with off := false, dutyA := w.1.1, dutyB := w.2.1
             clamps := if w.1.2 ∧ w.2.2 then incSat (incSat a.clamps) else if w.1.2 ∨ w.2.2 then incSat a.clamps else a.clamps }
/-- R339, R340: one axis in one PWM period. -/
def State.axisPeriod (i : Fin 4) (code : Nat) (s : State) : State :=
  let mv := (roundDiv ((code : Int) * 3300 * s.axPar i P.vmotDiv) 409500).toNat
  let s := s.modAxis i (fun a => { a with vmot := mv })
  let off (a : Axis) : Axis := { a with off := true, dutyA := 0, dutyB := 0 }
  if !s.axesRun then s.modAxis i off
  else
    let s := s.modAxis i (fun a => (s.axisMotion i a).qualify)
    let s := if s.axis[i.val].st = .homing then s.homingStep i else s
    let driven := s.drives .axis
    s.modAxis i (fun a => { (if driven then s.driveAxis i a else off a) with edgeNow := false, limitNow := false })
/-- R338 to R340: a PWM period of the four axes, with their V_MOT codes. -/
def execAxisPwmPeriod (vmot : Vector Nat 4) (s : State) : Host.Outcome State Fault Refusal :=
  .next (allAxes.foldl (fun t i => t.axisPeriod i vmot[i.val]) s)

/-- R343: a change of the AXn_HOME level: the latch, or a chatter. -/
def execAxisHomeEdge (ax : Fin 4) (level : Bool) (at' : Nat) (s : State) : Host.Outcome State Fault Refusal :=
  let active := level == (s.axPar ax P.homePol == 1)
  let a := s.axis[ax.val]
  if active = a.homeLevel then .next s
  else
    let s := s.modAxis ax (fun a => { a with homeLevel := active, edgeNow := true })
    match a.edge with
    | none =>
      if a.limitNow ∧ a.st = .homing ∨ active = a.homeQual then .next s
      else .next (s.modAxis ax (fun a => { a with edge := some (a.x, at', active) }))
    | some _ =>
      let recent := (at' :: a.chatterAt).filter (fun t => decide (at' < t + ticksPerSecond))
      let s := s.modAxis ax (fun a => { a with edge := none, chatter := incSat a.chatter, chatterAt := recent.take 4 })
      if recent.length > 3 ∧ !a.chatterWarn then
        .next ((s.modAxis ax (fun a => { a with chatterWarn := true })).formEvent 0x5801 18 123 ax.val a.position 0)
      else .next s
/-- R343: 10 s without a chatter. -/
def execAxisChatterClear (ax : Fin 4) (s : State) : Host.Outcome State Fault Refusal :=
  .next (s.modAxis ax (fun a => { a with chatterWarn := false, chatterAt := [] }))
/-- R344, R346: a change of a limit input. -/
def execAxisLimit (ax : Fin 4) (positive level : Bool) (s : State) : Host.Outcome State Fault Refusal :=
  let k : Fin 2 := if positive then 0 else 1
  let active := level == (s.axPar ax P.limPol == 1)
  if !bitAt (s.axPar ax P.limitsFitted).toNat k.val then .next s
  else
    let a := s.axis[ax.val]
    let s := s.modAxis ax (fun a => { a with limit := vmod a.limit k (fun _ => active), hit := vmod a.hit k (fun _ => active), limitNow := active })
    let towards := if positive then decide (a.v > 0) else decide (a.v < 0)
    if !active ∨ !towards then .next s
    else if a.st = .homing then
      match a.step with
      | .settle | .found | .limitStop | .wayBackStop => .next s
      | _ =>
        let s := s.modAxis ax (fun a => { a with edge := if a.edgeNow then none else a.edge })
        if a.limitSeen then .next (s.axisFault ax 2)
        else .next (s.modAxis ax (fun a => { a with limitSeen := true, step := .limitStop }))
    else if a.st = .moving ∨ a.st = .stopping then
      .next ((s.modAxis ax (fun a => { a with st := .stopping, limitDec := true })).form
        0x5801 17 123 ax.val a.position 0)
    else .next s
/-- R347: HOLD_T has passed at rest. -/
def execAxisStandstill (ax : Fin 4) (s : State) : Host.Outcome State Fault Refusal :=
  .next (s.modAxis ax (fun a => if a.st = .holding then { a with st := .standstill } else a))
/-- R348: V_MOT has been below VMOT_MIN for 10 ms. -/
def execAxisVmotFault (ax : Fin 4) (s : State) : Host.Outcome State Fault Refusal :=
  let a := s.axis[ax.val]
  if (a.vmot : Int) < s.axPar ax P.vmotMin ∧ s.axPar ax P.axFitted = 1 ∧ !(a.st = .fault ∧ a.cause = 1) then .next (s.axisFault ax 1)
  else .next s
/-- R348: V_MOT has been at or above VMOT_MIN for 100 ms. -/
def execAxisVmotRecover (ax : Fin 4) (s : State) : Host.Outcome State Fault Refusal :=
  let a := s.axis[ax.val]
  if a.st = .fault ∧ a.cause = 1 ∧ s.axPar ax P.vmotMin ≤ a.vmot then
    let s := s.modAxis ax (fun a => { a with st := if a.enable then .holding else .disabled, cause := 0, target := a.position })
    .next (if s.axPar ax P.autoHome = 1 ∧ a.enable then s.modAxis ax Axis.startHoming else s)
  else .next s

/-- R341, R342: a new target takes effect; it waits while the axis is not homed or is homing. -/
def State.axisTarget (i : Fin 4) (t : Int) (s : State) : State :=
  s.modAxis i (fun a =>
    if !a.homed || a.st == .homing then { a with target := t, held := true }
    else
      let a := { a with target := t }
      match a.st with
      | .holding | .standstill | .moving => a.takeUp
      | _ => a)
/-- R341: a target of the valve loop takes effect at a frame boundary. -/
def State.takeTarget (i : Fin 4) (s : State) : State :=
  match s.axis[i.val].nextTarget with
  | none => s
  | some t => (s.modAxis i (fun a => { a with nextTarget := none })).axisTarget i t
/-- R330: the target that an axis has been given last. -/
def Axis.given (a : Axis) : Int := a.nextTarget.getD a.target
/-- R345, R348, R351: AX_COMMAND 1. -/
def State.axisHome (i : Fin 4) (s : State) : State :=
  s.modAxis i (fun a => if !a.enable || (a.st == .fault && a.cause == 1) then a else a.startHoming)
/-- R350: AX_COMMAND 2: the axis stops and stays enabled. -/
def State.axisStop (i : Fin 4) (s : State) : State :=
  s.modAxis i (fun a => if a.st = .moving ∨ a.st = .homing then { a with st := .stopping } else a)
/-- R350: an axis is enabled. -/
def Axis.resume (a : Axis) : Axis :=
  let a := { a with enable := true, heldEnable := false }
  if a.st = .disabled then (if a.homed then a.takeUp else { a with st := .holding }) else a
/-- R50: an axis whose drain has ended takes up an enable that was held during it. -/
def Axis.boundary (a : Axis) : Axis := if a.heldEnable && a.st != .stopping then a.resume else a
/-- R50, R350: AX_ENABLE; an enable while the axis drains is held. -/
def State.axisEnable (i : Fin 4) (on : Bool) (s : State) : State :=
  s.modAxis i (fun a =>
    if on then (if a.st = .stopping ∧ !a.enable then { a with heldEnable := true } else a.resume)
    else
      let a := { a with enable := false, heldEnable := false }
      match a.st with
      | .moving | .homing => { a with st := .stopping }
      | .stopping | .fault => a
      | _ => { a with st := .disabled })

end Sys2Proof.Machine
end

