-- ==== Sys2Proof/Machine/CellModel.lean ====
section
/-! DEFINITION. The cell model (R169 to R173), the weighting of observations (R178, R179) and the quantities of a cell
that estimation and limits share. Voltages in V, currents in A, resistances in Ω, capacitances in F, times in s,
charges in µAs, SOC as a fraction, temperatures in °C, all in binary64 (R196, log 41). -/
namespace Sys2Proof.Machine

/-- n × 10^−k in binary64. -/
def dec (n : Int) (k : Nat) : F64 := F64.ofRatio n (10 ^ k)
/-- A parameter in units of 10^−k. -/
def State.parF (s : State) (p : Par) (inst : Nat) (e k : Nat) : F64 := dec (s.par p inst e) k

/-- The greatest index k < n for which a test holds, counted from the last. -/
def lastIdx (n : Nat) (f : Nat → Bool) : Option Nat := (List.range n).reverse.find? f

/-- R170: a 101-point table interpolated linearly in SOC, clamped to 0 % to 100 %. -/
def interp101 (tab : Nat → F64) (soc : F64) : F64 :=
  let x := (F64.clamp F64.zero F64.one soc).mul (F64.ofNat 100)
  let i := min x.floor.toNat 99
  let f := x.sub (F64.ofNat i)
  (tab i).add (f.mul ((tab (i + 1)).sub (tab i)))

/-- OCV_DIS, OCV_CHG in V and OCV_TC in V/K at a table point (R170, R198). -/
def State.ocvDis (s : State) (leg : Leg) (k : Nat) : F64 := s.parF P.ocvDis leg.val k 4
/-- OCV_CHG at a table point. -/
def State.ocvChg (s : State) (leg : Leg) (k : Nat) : F64 := s.parF P.ocvChg leg.val k 4
/-- OCV_TC at a table point. -/
def State.ocvTc (s : State) (leg : Leg) (k : Nat) : F64 := s.parF P.ocvTc leg.val k 6
/-- R170: OCV from the three table values. -/
def ocvOf (dis chg tc h t : F64) : F64 :=
  let two := F64.ofNat 2
  (((chg.add dis).div two).add ((h.mul (chg.sub dis)).div two)).add (tc.mul (t.sub (F64.ofNat 25)))
/-- R170: OCV(SOC, h, T). -/
def State.ocv (s : State) (leg : Leg) (soc h t : F64) : F64 :=
  ocvOf (interp101 (s.ocvDis leg) soc) (interp101 (s.ocvChg leg) soc) (interp101 (s.ocvTc leg) soc) h t
/-- R170: the curve at a table point. -/
def State.ocvPoint (s : State) (leg : Leg) (h t : F64) (k : Nat) : F64 := ocvOf (s.ocvDis leg k) (s.ocvChg leg k) (s.ocvTc leg k) h t
/-- R170: the inverse: between the lowest SOC whose OCV reaches V and the highest whose OCV does not pass it, the
middle; 0 below the curve and 1 above it (log 42). -/
def State.socOf (s : State) (leg : Leg) (v h t : F64) : F64 :=
  let p := s.ocvPoint leg h t
  let frac (i : Nat) : F64 := (((F64.ofNat i).add ((v.sub (p i)).div ((p (i + 1)).sub (p i)))).div (F64.ofNat 100))
  let lo := match (List.range 101).find? (fun k => v.le (p k)) with
    | none => F64.one
    | some 0 => F64.zero
    | some (k + 1) => if (p (k + 1)).eq v then (F64.ofNat (k + 1)).div (F64.ofNat 100) else frac k
  let hi := match lastIdx 101 (fun k => (p k).le v) with
    | none => F64.zero
    | some k => if k = 100 then F64.one else if (p k).eq v then (F64.ofNat k).div (F64.ofNat 100) else frac k
  if lo.eq hi then lo else (lo.add hi).div (F64.ofNat 2)
/-- R170: dOCV/dSOC over the 1 % segment that contains the SOC, V per unit SOC. -/
def State.slope (s : State) (leg : Leg) (soc h t : F64) : F64 :=
  let i := min ((F64.clamp F64.zero F64.one soc).mul (F64.ofNat 100)).floor.toNat 99
  ((s.ocvPoint leg h t (i + 1)).sub (s.ocvPoint leg h t i)).div (dec 1 2)
/-- R182: G = OCV_CHG − OCV_DIS at a SOC. -/
def State.gapAt (s : State) (leg : Leg) (soc : F64) : F64 := (interp101 (s.ocvChg leg) soc).sub (interp101 (s.ocvDis leg) soc)

/-- CAP_NOM in mAh (R198). -/
def State.capNom (s : State) (leg : Leg) : F64 := s.parF P.capNom leg.val 0 0
/-- 1 C in A (R171). -/
def State.oneC (s : State) (leg : Leg) : F64 := s.parF P.capNom leg.val 0 3
/-- R171: temperature bin of T in 0.1 °C. -/
def State.tBin (s : State) (leg : Leg) (t : Int) : Nat := ((List.range 4).filter (fun k => decide (s.par P.tbinEdge leg.val k ≤ t))).length
/-- R171: current bin of |I| in A: light below 0.2 C, mid to 0.5 C, full above. -/
def State.iBin (s : State) (leg : Leg) (i : F64) : Nat :=
  let c := s.oneC leg
  if i.abs.lt ((dec 2 1).mul c) then 0 else if i.abs.le ((dec 5 1).mul c) then 1 else 2
/-- R171: centre of temperature bin t, °C. -/
def State.tCentre (s : State) (leg : Leg) (t : Nat) : F64 :=
  let e (k : Nat) : F64 := s.parF P.tbinEdge leg.val k 1
  if t = 0 then (e 0).sub (F64.ofNat 5)
  else if t ≥ 4 then (e 3).add (F64.ofNat 5)
  else ((e (t - 1)).add (e t)).div (F64.ofNat 2)
/-- R171: the two temperature bins whose centres bracket T, and the weight of the upper one. -/
def State.bracket (s : State) (leg : Leg) (t : F64) : Nat × Nat × F64 :=
  let c := s.tCentre leg
  if t.le (c 0) then (0, 0, F64.zero)
  else if (c 4).le t then (4, 4, F64.zero)
  else
    let a := (lastIdx 4 (fun k => (c k).le t)).getD 0
    (a, a + 1, (t.sub (c a)).div ((c (a + 1)).sub (c a)))

/-- A bin that holds nothing. -/
def Bin.blank : Bin := { rs := F64.zero, rp := F64.zero, cp := F64.zero, sRs := F64.zero, sRp := F64.zero, sCp := F64.zero, count := 0 }
/-- A value interpolated between two bins of a current bin (R171). -/
def binAt (bins : List Bin) (br : Nat × Nat × F64) (i : Nat) (f : Bin → F64) : F64 :=
  let a := f (nth bins (br.1 * 3 + i) Bin.blank)
  let b := f (nth bins (br.2.1 * 3 + i) Bin.blank)
  a.add (br.2.2.mul (b.sub a))
/-- Rs, Rp, Cp of a cell for a current bin at a temperature in °C. -/
structure Imp where
  rs : F64
  rp : F64
  cp : F64
  sRs : F64
  deriving DecidableEq, Repr
/-- R171: the parameters for prediction. -/
def State.impOf (s : State) (leg : Leg) (e : EstCell) (t : F64) (i : Nat) : Imp :=
  let br := s.bracket leg t
  { rs := binAt e.bins br i (fun b => b.rs), rp := binAt e.bins br i (fun b => b.rp), cp := binAt e.bins br i (fun b => b.cp),
    sRs := binAt e.bins br i (fun b => b.sRs) }
/-- τ = Rp × Cp, s (R169). -/
def Imp.tau (m : Imp) : F64 := m.rp.mul m.cp
/-- e^(−Δt/τ). -/
def expDecay (dt tau : F64) : F64 := Config.exp (dt.div tau).negate
/-- R169: Vp advanced over Δt with a constant current. -/
def advanceVp (vp i rp dt tau : F64) : F64 :=
  let k := expDecay dt tau
  (vp.mul k).add ((i.mul rp).mul (F64.one.sub k))

/-- INIT of a bin (R173, R198): Rs, Rp in Ω, Cp in F. -/
def State.initOf (s : State) (leg : Leg) (which b : Nat) : F64 :=
  if which = 0 then s.parF P.initRs leg.val b 6 else if which = 1 then s.parF P.initRp leg.val b 6 else s.parF P.initCp leg.val b 2
/-- IDEP of a current bin: 1.000 for the light bin (R173). -/
def State.idepOf (s : State) (leg : Leg) (which i : Nat) : F64 :=
  if i = 0 then F64.one
  else if which = 0 then s.parF P.idepRs leg.val (i - 1) 3
  else if which = 1 then s.parF P.idepRp leg.val (i - 1) 3
  else s.parF P.idepCp leg.val (i - 1) 3
/-- R173: the observed bin that bin b is derived from, and whether temperature, or current, is scaled. -/
def sourceBin (bins : List Bin) (b : Nat) : Option Nat :=
  let obs (k : Nat) : Bool := decide ((nth bins k Bin.blank).count > 0)
  let t := b / 3
  let i := b % 3
  let dist (k : Nat) : Nat := if k / 3 ≤ t then t - k / 3 else k / 3 - t
  let near (ks : List Nat) : Option Nat := (sortBy dist ks).head?
  match (List.range 3).find? (fun j => obs (t * 3 + j)) with
  | some j => some (t * 3 + j)
  | none =>
    match near ((List.range 5).filterMap (fun u => if obs (u * 3 + i) then some (u * 3 + i) else none)) with
    | some k => some k
    | none => near ((List.range 15).filter obs)
/-- R173: a derived value and its σ from a source value and σ. -/
def State.deriveOne (s : State) (leg : Leg) (which b : Nat) (src : Option Nat) (v sg : F64) : F64 × F64 :=
  let fifth := dec 2 1
  match src with
  | none =>
    let x := s.initOf leg which b
    (x, (x.mul (dec 5 1)).add (x.mul fifth))
  | some k =>
    let cur := if b % 3 = k % 3 then v else v.mul ((s.idepOf leg which (b % 3)).div (s.idepOf leg which (k % 3)))
    let x := if b / 3 = k / 3 then cur
      else cur.mul ((s.initOf leg which b).div (s.initOf leg which k))
    (x, sg.add (x.mul fifth))
/-- R173: the unobserved bins of a cell derived anew. -/
def State.deriveBins (s : State) (leg : Leg) (bins : List Bin) : List Bin :=
  (List.range 15).map (fun b =>
    let old := nth bins b Bin.blank
    if old.count > 0 then old
    else
      let src := sourceBin bins b
      let from' := match src with
        | some k => nth bins k Bin.blank
        | none => Bin.blank
      let r := s.deriveOne leg 0 b src from'.rs from'.sRs
      let p := s.deriveOne leg 1 b src from'.rp from'.sRp
      let c := s.deriveOne leg 2 b src from'.cp from'.sCp
      { rs := r.1, rp := p.1, cp := c.1, sRs := r.2, sRp := p.2, sCp := c.2, count := 0 })
/-- R179: the σ of each bin grows over Δt. -/
def growSigma (drift dt v sg : F64) : F64 :=
  let d := drift.mul v
  ((sg.mul sg).add (((d.mul d).mul dt).div (F64.ofNat 2592000))).sqrt
/-- R179: the σ of all bins grow over Δt. -/
def State.growBins (s : State) (dt : F64) (bins : List Bin) : List Bin :=
  let drift := s.parF P.impDrift 0xFF 0 4
  bins.map (fun b => { b with sRs := growSigma drift dt b.rs b.sRs, sRp := growSigma drift dt b.rp b.sRp, sCp := growSigma drift dt b.cp b.sCp })

/-- R179: an estimate combined with an observation: the value and its σ. -/
def combine (x sx y sy : F64) : F64 × F64 :=
  let vx := sx.mul sx
  let k := vx.div (vx.add (sy.mul sy))
  (x.add (k.mul (y.sub x)), sx.mul (F64.one.sub k).sqrt)
/-- R178: a confidence in percent. -/
def confidence (sigma full : F64) : Nat :=
  (((F64.ofNat 100).mul (F64.one.sub (F64.min (sigma.div full) F64.one))).round).toNat
/-- R178: σ_full of SOC. -/
def socFull : F64 := dec 1 1
/-- R178: SOC confidence of a cell; 0 while its SOC is not set (R222). -/
def EstCell.socConf (e : EstCell) : Nat := if e.socSet then confidence e.sSoc socFull else 0
/-- R178: capacity confidence. -/
def State.capConf (s : State) (leg : Leg) (e : EstCell) : Nat := confidence e.sCap ((s.capNom leg).mul (dec 1 1))
/-- R178: the confidence of a bin's Rs. -/
def rsConf (b : Bin) : Nat := confidence b.sRs (b.rs.mul (dec 5 1))

/-- Q_full in µAs (R180). -/
def EstCell.qFull (e : EstCell) : F64 := e.cap.mul (F64.ofNat 3600000)
/-- R212: the reported SOC as a fraction. -/
def EstCell.reported (e : EstCell) : F64 :=
  let lo := if e.empty then F64.zero else dec 1 2
  let hi := if e.full then F64.one else dec 99 2
  F64.clamp lo hi e.soc
/-- R172: the temperature the model uses, °C: 25.0 until there is one. -/
def EstCell.tC (e : EstCell) : F64 := dec (e.temp.getD 250) 1

/-- The present bin of a cell (R181, R197, R205, R240): the bin that contains the cell's temperature and |I|, without the
interpolation that R171 gives prediction (DEDUCED, log 46). -/
def State.presentBin (s : State) (leg : Leg) (e : EstCell) (i : F64) : Bin :=
  nth e.bins (s.tBin leg (e.temp.getD 250) * 3 + s.iBin leg i) Bin.blank

/-- R172: valid temperatures among points of a station. -/
def State.validTemps (s : State) (leg : Leg) (stake : Nat) : List Int :=
  (List.range 8).filterMap (fun p =>
    let t := (s.temp (tempIndex leg stake p)).t
    if bitAt (s.tempMask leg stake) p && t != tInvalid then some t else none)
/-- The mean of a list in 0.1 °C, rounded as in R5. -/
def meanInt (xs : List Int) : Int := roundDiv xs.sum xs.length
/-- R172: a cell's temperature where one is had now, and whether it is substituted. -/
def State.cellTemp (s : State) (leg : Leg) (stake c : Nat) : Option Int × Bool :=
  let p := s.parN P.cellTempMap leg.val (c - 1)
  let t := (s.temp (tempIndex leg stake p)).t
  if bitAt (s.tempMask leg stake) p && t != tInvalid then (some t, false)
  else
    match s.validTemps leg stake with
    | x :: xs => (some (meanInt (x :: xs)), true)
    | [] =>
      match (List.range (s.stations leg)).flatMap (fun k => s.validTemps leg (k + 1)) with
      | x :: xs => (some (meanInt (x :: xs)), true)
      | [] => (none, true)
/-- R172: a cell takes its temperature, or keeps its last. -/
def State.takeTemp (s : State) (leg : Leg) (stake c : Nat) (e : EstCell) : EstCell :=
  let t := s.cellTemp leg stake c
  { e with temp := match t.1 with
             | some x => some x
             | none => e.temp
           tempSubst := t.2 }

/-- R222: a cell without learned values. -/
def State.freshCell (s : State) (leg : Leg) : EstCell :=
  let cap := s.capNom leg
  { cap := cap, sCap := cap.mul (dec 5 2), bins := s.deriveBins leg [], sSoc := dec 8 2 }

end Sys2Proof.Machine
end

