-- ==== Sys2Proof/Machine/Estimate.lean ====
section
/-! DEFINITION. Estimation of a leg in W2 (R169 to R185, R209 to R213): counting, propagation, predictions at T_P,
the take-up of a sealed round with its anchors, end decisions and capacity observations, and the reported SOC. -/
namespace Sys2Proof.Machine

/-- A difference of two counts modulo 2^64, as a signed number (R175). -/
def wrap64 (x : Int) : Int :=
  let m := x % (2 ^ 64 : Int)
  if m < 2 ^ 63 then m else m - 2 ^ 64
/-- OSR_Q and f_MCK in Hz (R174). -/
def State.countRate (s : State) : Nat × Nat :=
  let m := s.parN P.mckFreq
  if m = 0 then (128, 10000000) else if m = 1 then (205, 16000000) else (256, 20000000)
/-- K of R176: the channel scale in µA per code (R231). -/
def State.countScale (s : State) (leg : Leg) : F64 := (s.parF P.legIFs leg.val 0 0).mul ((F64.ofNat 1000).div (F64.ofNat 131071))
/-- ΔACC − OFFSET × ΔN. -/
def countNet (offset : F64) (dAcc dN : Int) : F64 := (F64.ofInt dAcc).sub (offset.mul (F64.ofInt dN))
/-- R176: the charge between two latches, µAs. -/
def State.chargeOf (s : State) (leg : Leg) (dAcc dN : Int) : F64 :=
  let r := s.countRate
  (((countNet (s.eleg[leg.val].offset) dAcc dN).mul (s.countScale leg)).mul (F64.ofNat r.1)).div (F64.ofNat r.2)
/-- A number of Meridian ticks in s. -/
def ticksF (n : Nat) : F64 := (F64.ofNat n).div (F64.ofNat ticksPerSecond)
/-- A current in mA as A. -/
def amps (mA : Int) : F64 := dec mA 3

/-- R211: END_Q and the flags of the range ends after a frame's charge. -/
def EstCell.endsAfter (e : EstCell) (dq : F64) : EstCell :=
  let q := dq.abs.div (F64.ofNat 3600000)
  let beyond := (e.disEmpty && dq.lt F64.zero) || (e.disFull && F64.zero.lt dq)
  let e := if beyond then { e with endQ := e.endQ.add q } else e
  { e with
    disEmpty := e.disEmpty && e.soc.le F64.zero
    disFull := e.disFull && F64.one.le e.soc
    empty := e.empty && e.soc.lt (dec 1 2)
    full := e.full && (dec 99 2).lt e.soc }
/-- R169, R170, R180: one cell over one frame: charge dq in µAs, mean current in A, length dt in s. -/
def State.propagateCell (s : State) (leg : Leg) (dq i dt : F64) (e : EstCell) : EstCell :=
  let qf := e.qFull
  let gain := s.parF P.countGainErr 0xFF 0 6
  let offs := s.parF P.offsetErr 0xFF 0 0
  let soc := e.soc.add (dq.div qf)
  let sg := (e.sSoc.add (((gain.add (e.sCap.div e.cap)).mul dq.abs).div qf)).add ((offs.mul dt).div qf)
  let dir := if F64.zero.lt dq then F64.one else F64.one.negate
  let h := if dq.eq F64.zero then e.h
    else e.h.add ((dir.sub e.h).mul (F64.one.sub (Config.exp (dq.abs.div ((s.parF P.hystQ leg.val 0 4).mul qf)).negate)))
  let m := s.impOf leg e e.tC (s.iBin leg i)
  let vp := advanceVp e.vp i m.rp dt m.tau
  let e := { e with soc := if e.socSet then soc else e.soc, sSoc := if e.socSet then sg else e.sSoc, h := h, vp := vp, charge := e.charge.add dq, bins := s.growBins dt e.bins }
  e.endsAfter dq

/-- R169: predictions of a cell for a captured round, from its state at the frame boundary before T_P. -/
def State.predictCell (s : State) (leg : Leg) (u : RoundInfo) (e : EstCell) : EstCell :=
  let i := amps u.i
  let dt := ticksF (u.tp - u.mark)
  let dq := s.chargeOf leg (wrap64 (u.acc - u.accMark)) (wrap64 ((u.n : Int) - u.nMark))
  let m := s.impOf leg e e.tC (s.iBin leg i)
  let vp := advanceVp e.vp i m.rp dt m.tau
  let soc := e.soc.add (dq.div e.qFull)
  let v := ((s.ocv leg soc e.h e.tC).add (i.mul m.rs)).add vp
  { e with atTp := (e.atTp.filter (fun a => a.round != u.round)).drop (e.atTp.length - 7) ++
      [{ round := u.round, vp := vp, vHat := v, soc := soc, charge := e.charge.add dq, temp := e.temp }] }
/-- A cell of the leg and its key. -/
def State.legKeys (s : State) (leg : Leg) : List (Nat × Nat × Nat) :=
  (s.legCells leg).map (fun p => (p.1, p.2, cellIndex leg p.1 p.2))
/-- Every populated cell of a leg changed, with its stake and number. -/
def State.mapLeg (leg : Leg) (f : Nat → Nat → EstCell → EstCell) (s : State) : State :=
  (s.legKeys leg).foldl (fun t k => t.modEst k.2.2 (f k.1 k.2.1)) s
/-- R169: rounds captured in an earlier frame are predicted, once each, whether their trains have come or not. -/
def State.predictRounds (leg : Leg) (s : State) : State :=
  let rounds := s.diag[leg.val].w2Due.map (fun r => r.info) ++ s.ring[leg.val].unread
  let ready := rounds.filter (fun u => u.captured && !u.predicted && decide (u.mark < s.time.frameStamp))
  let s := ready.foldl (fun t u => t.mapLeg leg (fun _ _ e => t.predictCell leg u e)) s
  s.modRing leg (fun r => { r with unread := r.unread.map (fun u =>
    if u.captured ∧ u.mark < s.time.frameStamp then { u with predicted := true } else u) })
/-- R155, R176: the bleed charge of a cell in the sealed rounds that wait for this W2, µAs. -/
def State.bledDue (s : State) (leg : Leg) (key : Nat) : Int :=
  ((s.diag[leg.val].w2Due).flatMap (fun r => (r.cells.filter (fun c => c.1 == key)).map (fun c => c.2.bledRound))).sum
/-- R176: one cell over one frame with its own charge ΔQ_c = ΔQ less its bleed charge. -/
def State.countCell (s : State) (leg : Leg) (dq mean dt : F64) (stake c : Nat) (e : EstCell) : EstCell :=
  let bled := s.bledDue leg (cellIndex leg stake c)
  s.propagateCell leg (dq.sub (F64.ofInt bled)) mean dt { s.takeTemp leg stake c e with bledEver := e.bledEver + bled }
/-- R176 to R180: the leg's count of the last frame, and its cells propagated. A new OFFSET applies only to charge
counted from the boundary after the frame of its calibration (R177). -/
def State.countLeg (leg : Leg) (s : State) : State :=
  let g := s.eleg[leg.val]
  let dAcc := wrap64 (g.acc - g.accPrev)
  let dN := wrap64 ((g.n : Int) - g.nPrev)
  let dq := s.chargeOf leg dAcc dN
  let mean := if dN = 0 then F64.zero
    else (((countNet g.offset dAcc dN).div (F64.ofInt dN)).mul (s.countScale leg)).div (F64.ofNat 1000000)
  let dt := ticksF (s.time.frameStamp - g.stampPrev)
  let s := s.mapLeg leg (s.countCell leg dq mean dt)
  let below := mean.abs.lt ((s.parF P.restC 0xFF 0 3).mul (s.oneC leg))
  s.modEleg leg (fun g =>
    { g with
      accPrev := g.acc, nPrev := g.n, stampPrev := s.time.frameStamp
      charge := g.charge.add dq, mean := mean
      rest := g.rest && below, restDue := g.restDue && below
      offset := match g.offsetDue with
        | some d => if d.2 < s.time.frame then d.1 else g.offset
        | none => g.offset
      offsetDue := match g.offsetDue with
        | some d => if d.2 < s.time.frame then none else some d
        | none => none })

/-- R182: SOC counted since T_P. -/
def EstCell.since (e : EstCell) (a : AtTp) : F64 := e.soc.sub a.soc
/-- R179, R211: an anchor combined into the counted SOC; END_Q clears. -/
def State.combineSoc (s : State) (y sg : F64) (e : EstCell) : EstCell :=
  if socFull.lt sg then e
  else
    let r := combine e.soc e.sSoc y sg
    { e with soc := r.1, sSoc := F64.max r.2 (s.parF P.socSigmaFloor 0xFF 0 4), endQ := F64.zero, capUnder := false }
/-- R179, R184: a capacity observation is combined, unless its σ discards it. -/
def State.combineCap (s : State) (leg : Leg) (obs sg : F64) (e : EstCell) : EstCell :=
  if ((s.capNom leg).mul (dec 1 1)).lt sg || obs.le F64.zero then e
  else
    let r := combine e.cap e.sCap obs sg
    { e with cap := r.1, sCap := r.2, capLearned := true, endQ := F64.zero, capUnder := false }
/-- R184: a qualifying anchor against the kept one; `learn` is false while CLOSURE_FAIL bars the observation (R213). -/
def State.capAnchor (s : State) (leg : Leg) (learn : Bool) (a : KeptAnchor) (e : EstCell) : EstCell :=
  match e.kept with
  | none => { e with kept := some a }
  | some k =>
    let ds := a.soc.sub k.soc
    if ds.abs.lt (s.parF P.capMinDsoc 0xFF 0 4) then
      if a.sigma.lt k.sigma then { e with kept := some a } else e
    else
      let obs := ((a.charge.sub k.charge).div (F64.ofNat 3600000)).div ds
      let sg := ((obs.abs.mul ((k.sigma.mul k.sigma).add (a.sigma.mul a.sigma)).sqrt).div ds.abs).add
        ((s.parF P.countGainErr 0xFF 0 6).mul obs.abs)
      let e := if learn then s.combineCap leg obs sg e else e
      { e with kept := some a }

/-- What a round's take-up needs of a cell: R182's quantities. -/
structure RoundCell where
  i : F64
  v : F64
  m : Imp
  a : AtTp
  vOcv : F64
  deriving DecidableEq, Repr
/-- R182, R209: the corrected voltage of a cell at T_P. -/
def State.roundCell (s : State) (leg : Leg) (u : RoundInfo) (v : Nat) (e : EstCell) : RoundCell :=
  let i := amps u.i
  let m := s.impOf leg e e.tC (s.iBin leg i)
  let a := match e.atTp.find? (fun a => a.round == u.round) with
    | some a => a
    | none => { round := u.round, vp := e.vp, vHat := ((s.ocv leg e.soc e.h e.tC).add (i.mul m.rs)).add e.vp, soc := e.soc, charge := e.charge, temp := e.temp }
  let volts := dec v 4
  { i := i, v := volts, m := m, a := a, vOcv := (volts.sub (i.mul m.rs)).sub a.vp }

/-- R181: the conditions of a load anchor on a cell, beyond freshness and a temperature of its own. -/
def State.loadAnchorOk (s : State) (leg : Leg) (r : RoundCell) (e : EstCell) : Bool :=
  (match e.anchorAt with
   | some t => decide (s.parN P.anchorInterval * ticksPerSecond ≤ s.time.meridian - t)
   | none => true) &&
  decide (50 ≤ rsConf (s.presentBin leg e r.i)) &&
  ((s.parF P.anchorMinSlope 0xFF 0 2).le (s.slope leg e.soc e.h e.tC))
/-- R182, R183: an anchor of a fresh cell: SOC_A and σ_A. -/
def State.anchorOf (s : State) (leg : Leg) (rest : Bool) (r : RoundCell) (e : EstCell) : F64 × F64 :=
  let soc := s.socOf leg r.vOcv e.h e.tC
  let sl := s.slope leg soc e.h e.tC
  let noise := s.parF P.readNoise 0xFF 0 6
  let gap := ((F64.one.sub e.h.abs).mul (s.gapAt leg soc)).div (F64.ofNat 2)
  let num := if rest then noise.add gap
    else ((noise.add (r.i.abs.mul r.m.sRs)).add ((dec 2 1).mul r.a.vp.abs)).add gap
  (soc, num.div sl)
/-- R181 to R184: anchors of one cell in a round. -/
def State.anchorCell (s : State) (leg : Leg) (u : RoundInfo) (rest : Bool) (r : RoundCell) (e : EstCell) : EstCell :=
  let common := !e.tempSubst && !s.diag[leg.val].closureFail && u.regular &&
    r.i.abs.le ((s.parF P.anchorMaxC 0xFF 0 3).mul (s.oneC leg))
  if common && (rest || s.loadAnchorOk leg r e) then
    let a := s.anchorOf leg rest r e
    let e := s.combineSoc (a.1.add (e.since r.a)) a.2 e
    let e := { e with anchorAt := some s.time.meridian, restAnchor := rest }
    if rest || a.2.le (dec 2 2) then s.capAnchor leg true { soc := a.1, sigma := a.2, charge := r.a.charge } e else e
  else e

/-- R210: the observation of an end entry without a kept anchor, from the counted SOC before it. -/
def State.endObs (s : State) (full : Bool) (soc : F64) (e : EstCell) : Option F64 :=
  if full then
    (if soc.lt (F64.one.sub (s.parF P.fullGap 0xFF 0 4)) then some (e.cap.mul soc)
     else if F64.one.le soc then some (e.cap.add e.endQ) else none)
  else
    (if (s.parF P.emptyGap 0xFF 0 4).lt soc then some (e.cap.mul (F64.one.sub soc))
     else if soc.le F64.zero then some (e.cap.add e.endQ) else none)
/-- R209, R210: a cell enters EMPTY or FULL. -/
def State.enterEnd (s : State) (leg : Leg) (full : Bool) (r : RoundCell) (e : EstCell) : EstCell :=
  let before := e.soc
  let target := if full then F64.one else F64.zero
  let since := e.since r.a
  let sg := s.parF P.endSigma 0xFF 0 4
  let learn := !s.diag[leg.val].closureFail
  let e := { e with soc := target, socSet := true, disEmpty := false, disFull := false,
                    empty := !full || e.empty, full := full || e.full }
  let anchor : KeptAnchor := { soc := target, sigma := sg, charge := r.a.charge }
  let e := match e.kept with
    | some _ => s.capAnchor leg learn anchor e
    | none =>
      let e := match s.endObs full before e with
        | some obs => if learn then s.combineCap leg obs ((sg.mul e.cap).add e.sCap) e else e
        | none => e
      { e with kept := some anchor }
  let e := s.combineSoc (target.add since) sg e
  { e with anchorAt := some s.time.meridian, restAnchor := false, emptyRun := 0, fullRun := 0 }
/-- What W2 has to report of a cell's round: entries to EMPTY, FULL, DISAGREE_EMPTY, DISAGREE_FULL (R209, R211). -/
structure EndNews where
  empty : Bool := false
  full : Bool := false
  disEmpty : Bool := false
  disFull : Bool := false
  deriving DecidableEq, Repr
/-- R209, R211: end decision and disagreement of a fresh cell in a round. -/
def State.endCell (s : State) (leg : Leg) (r : RoundCell) (e : EstCell) : EstCell × EndNews :=
  let vE := s.parF P.vEmpty 0xFF 0 4
  let vF := s.parF P.vFull 0xFF 0 4
  let rounds := s.parN P.endRounds
  let low := r.vOcv.le vE
  let high := vF.le r.vOcv
  let er := if low then e.emptyRun + 1 else 0
  let fr := if high then e.fullRun + 1 else 0
  let e := { e with emptyRun := er, fullRun := fr }
  if low && decide (er ≥ rounds) && !e.empty then (s.enterEnd leg false r e, { empty := true })
  else if high && decide (fr ≥ rounds) && !e.full then (s.enterEnd leg true r e, { full := true })
  else
    let atTp := e.soc.sub (e.since r.a)
    let dE := e.socSet && atTp.le F64.zero && !low && !e.empty && !e.disEmpty
    let dF := e.socSet && F64.one.le atTp && !high && !e.full && !e.disFull
    ({ e with disEmpty := e.disEmpty || dE, disFull := e.disFull || dF, capUnder := e.capUnder || dE || dF },
     { disEmpty := dE, disFull := dF })
/-- R176, R180 to R184, R209 to R213, R222: a sealed round taken up by one cell. The bleed charge up to its T_P belongs before the
charge of every round not yet taken up. -/
def State.takeRoundCell (s : State) (leg : Leg) (u : RoundInfo) (rest : Bool) (cell : Cell) (e : EstCell) : EstCell × EndNews :=
  let bled := F64.ofInt cell.bledRound
  let e := { e with atTp := e.atTp.map (fun a => { a with charge := a.charge.sub bled, soc := a.soc.sub (bled.div e.qFull) }) }
  let r := s.roundCell leg u cell.v e
  let done (p : EstCell × EndNews) : EstCell × EndNews := ({ p.1 with atTp := p.1.atTp.filter (fun a => a.round != u.round) }, p.2)
  if !cell.fresh then done ({ e with countOnly := true }, {})
  else
    let e := { e with countOnly := false }
    if !e.socSet then
      let e := { e with soc := s.socOf leg r.vOcv e.h e.tC, sSoc := dec 8 2, socSet := true }
      done (s.endCell leg { r with a := { r.a with soc := e.soc } } e)
    else
      done (s.endCell leg r (s.anchorCell leg u rest r e))
/-- R209, R211, R213: what an entry brings about: the record, the learned-value trigger, the end of a probe. -/
def State.endNews (leg : Leg) (key : Nat) (v : F64) (n : EndNews) (s : State) : State :=
  let code := (v.mul (F64.ofNat 10000)).round
  let rec' (c : Nat) (thr : Int) (t : State) : State := t.form 0x2001 c (64 + leg.val) key code thr
  if n.empty then ((rec' 2 (s.par P.vEmpty) s).learnTrigger 2).yieldLeg leg .protection
  else if n.full then (rec' 3 (s.par P.vFull) s).learnTrigger 3
  else
    let s := if n.disEmpty then rec' 4 (s.par P.vEmpty) s else s
    if n.disFull then rec' 5 (s.par P.vFull) s else s
/-- The sealed round of a leg is taken up (R181 to R184, R209 to R213). -/
def State.takeRound (leg : Leg) (u : RoundInfo) (s : State) : State :=
  let keys := s.legKeys leg
  let allFresh := keys.all (fun k => (s.cell k.2.2).fresh)
  let rest := s.eleg[leg.val].rest && s.eleg[leg.val].restDue && allFresh && u.regular
  let s := keys.foldl (fun t k =>
    let cell := t.cell k.2.2
    let e := t.estCell k.2.2
    let r := t.roundCell leg u cell.v e
    let p := t.takeRoundCell leg u rest cell e
    (t.modEst k.2.2 (fun _ => p.1)).endNews leg k.2.2 r.vOcv p.2) s
  s.modEleg leg (fun g => { g with restDue := g.restDue && !rest })

/-- R185: the valid cells of a leg. -/
def State.socCells (s : State) (leg : Leg) : List EstCell :=
  (s.legKeys leg).filterMap (fun k =>
    let e := s.estCell k.2.2
    if !(s.cell k.2.2).invalid && e.socSet then some e else none)
/-- R185: Qd of a cell in mAh. -/
def EstCell.qd (e : EstCell) : F64 := e.reported.mul e.cap
/-- R185: Qc of a cell in mAh. -/
def EstCell.qc (e : EstCell) : F64 := (F64.one.sub e.reported).mul e.cap
/-- The first element with the smallest value. -/
def argMin (f : EstCell → F64) : List EstCell → Option EstCell
  | [] => none
  | e :: es => match argMin f es with
    | none => some e
    | some m => if (f m).lt (f e) then some m else some e
/-- R185: Qd and Qc of a leg, and its SOC confidence. -/
def State.legCharge (s : State) (leg : Leg) : Option (F64 × F64 × Nat) :=
  let cs := s.socCells leg
  match argMin EstCell.qd cs, argMin EstCell.qc cs with
  | some d, some c => some (d.qd, c.qc, min d.socConf c.socConf)
  | _, _ => none
/-- A fraction as a SOC code (R2). -/
def socCode (x : F64) : Nat := satU16 (F64.clamp F64.zero (F64.ofNat 10000) (x.mul (F64.ofNat 10000))).round
/-- R185: leg and string SOC. -/
def State.socSums (s : State) : State :=
  let s := allLegs.foldl (fun t l =>
    match t.legCharge l with
    | some q => t.modEleg l (fun g => { g with soc := socCode (q.1.div (q.1.add q.2.1)), conf := q.2.2 })
    | none => t.modEleg l (fun g => { g with soc := 0xFFFF, conf := 0 })) s
  let qs := allLegs.filterMap (fun l => if s.ring[l.val].available then s.legCharge l else none)
  let d := F64.sum (qs.map (fun q => q.1))
  let t := F64.sum (qs.map (fun q => q.1.add q.2.1))
  { s with stringSoc := if qs.isEmpty then 0xFFFF else socCode (d.div t) }

end Sys2Proof.Machine
end

