-- ==== Sys2Proof/Machine/Diagnose.lean ====
section
/-! DEFINITION. The closure check (R157, R158), open sense wires and cell deviations (R159, R161), and balancing
plans (R152, R153). -/
namespace Sys2Proof.Machine

/-- R157: every populated cell of a leg is fresh. -/
def State.legFresh (s : State) (leg : Leg) : Bool := (s.legKeys leg).all (fun k => (s.cell k.2.2).fresh)
/-- R157: E in nV of the leg voltage's mV (10^−6 mV). -/
def State.closureE (s : State) (leg : Leg) (u : RoundInfo) : Int :=
  let sum : Int := ((s.legKeys leg).map (fun k => ((s.cell k.2.2).v : Int))).sum
  u.v * 1000000 - (sum * 100000 + u.i * s.par P.rLink leg.val)
/-- R157: the check passes. -/
def State.closureOk (s : State) (leg : Leg) (u : RoundInfo) (e : Int) : Bool :=
  decide (10000 * (e.natAbs : Int) ≤ (s.par P.closureRel leg.val * u.v + 10000 * s.par P.closureAbs leg.val) * 1000000)
/-- R159: the movement of a residual from the mean of the values before it, as a numerator over their number. -/
def movement (xs : List Int) : Option (Int × Nat) :=
  match xs with
  | [] => none
  | x :: rest => if rest.isEmpty then none else some (x * rest.length - rest.sum, rest.length)
/-- R159: a residual has moved: at least OW_DEV / 2. -/
def moved (owDev : Int) (m : Int × Nat) : Bool := decide (owDev * m.2 ≤ 2 * (m.1.natAbs : Int))
/-- R159: moved by −δ: |m + δ| ≤ OW_DEV / 4. -/
def movedBy (owDev : Int) (m : Int × Nat) (delta : Int) : Bool := decide (4 * ((m.1 + delta * m.2).natAbs : Int) ≤ owDev * m.2)
/-- R158: the first station whose stack residual has moved. -/
def State.movedStation (s : State) (leg : Leg) : Nat :=
  let w := s.par P.owDev leg.val
  match (List.range (s.stations leg)).find? (fun k => match movement (s.sdiagAt leg (k + 1)).stack with
      | some m => moved w m
      | none => false) with
  | some k => stationKey leg (k + 1)
  | none => noIndex
/-- R157, R158: the closure check of the sealed round. -/
def State.closureCheck (leg : Leg) (u : RoundInfo) (s : State) : State :=
  if !s.legFresh leg then s.modDiag leg (fun d => { d with skipped := true })
  else
    let e := s.closureE leg u
    let ok := s.closureOk leg u e
    let d := s.diag[leg.val]
    let mv := roundDiv e 1000000
    let s := s.modDiag leg (fun d =>
      { d with skipped := false, residual := satI32 mv, residuals := (roundDiv e 100000 :: d.residuals).take 65,
               failRun := if ok then 0 else d.failRun + 1, passRun := if ok then d.passRun + 1 else 0 })
    let s := if s.mode = .staking then
        (if ok then { s with start := { s.start with firstClosure := vmod s.start.firstClosure leg (fun _ => true) } }
         else if s.start.firstClosure[leg.val] then s
         else
           let n := d.startFails + 1
           let s := s.modDiag leg (fun d => { d with startFails := n })
           if n ≥ 3 then s.modRing leg (fun r => { r with available := false }) else s)
      else s
    let limit := roundDiv (s.par P.closureRel leg.val * u.v) 10000 + s.par P.closureAbs leg.val
    if !d.closureFail && !ok && decide (d.failRun + 1 ≥ 3) then
      let idx := s.movedStation leg
      let s := s.modDiag leg (fun d => { d with closureFail := true })
      (s.stopBalancing leg).formEvent 0x1401 1 (testSource leg) idx mv limit
    else if d.closureFail && ok && decide (d.passRun + 1 ≥ 10) then
      (s.modDiag leg (fun d => { d with closureFail := false, holdExpired := false })).form 0x1401 2 (testSource leg) noIndex mv limit
    else s

/-- Deviations of a station's fresh cells by cell number, 100 µV (R159). -/
def State.deltas (s : State) (leg : Leg) (stake : Nat) : List (Nat × Int) :=
  (List.range 16).filterMap (fun i =>
    let e := s.cell (cellIndex leg stake (i + 1))
    if s.populatedCell leg stake (i + 1) && e.fresh then some (i + 1, e.delta) else none)
/-- The deviation of a cell, where it is fresh. -/
def deltaOf (ds : List (Nat × Int)) (c : Nat) : Option Int := (ds.find? (fun p => p.1 == c)).map Prod.snd
/-- R159: every populated cell that shares a line with c lies below OW_DEV / 4. -/
def State.neighboursQuiet (s : State) (leg : Leg) (stake : Nat) (ds : List (Nat × Int)) (w : Int) (c : Nat) : Bool :=
  [c - 1, c + 1].all (fun k => !s.populatedCell leg stake k || (match deltaOf ds k with
    | some d => decide (4 * (d.natAbs : Int) < w)
    | none => false))
/-- R159: the rows of the table that hold for a station: row 1 with its line, rows 2 and 3 with their cell, row 4. `res` holds the
movements of S and E; without them the rows whose cell deviations hold, which their residuals decide. -/
def State.patternsOf (s : State) (leg : Leg) (stake : Nat) (res : Option ((Int × Nat) × (Int × Nat))) : List (Nat × Nat) :=
  let w := s.par P.owDev leg.val
  let ds := s.deltas leg stake
  let big (d : Int) : Bool := decide (w ≤ (d.natAbs : Int))
  if !ds.any (fun p => big p.2) then []
  else
    let still : Bool := match res with
      | some (sm, em) => !moved w sm && !moved w em
      | none => true
    let shifted (d : Int) : Bool := match res with
      | some (sm, em) => movedBy w sm d && movedBy w em d && moved w sm && moved w em
      | none => true
    let inner := (List.range 15).filterMap (fun i =>
      let line := i + 1
      match deltaOf ds line, deltaOf ds (line + 1) with
      | some a, some b =>
        if big a && big b && decide (a * b < 0) && decide (4 * ((a + b).natAbs : Int) ≤ w) && still then some (1, line) else none
      | _, _ => none)
    let ends := ds.filterMap (fun p =>
      let c := p.1
      let hasEnd := !s.populatedCell leg stake (c - 1) || !s.populatedCell leg stake (c + 1)
      if hasEnd && big p.2 && s.neighboursQuiet leg stake ds w c && shifted p.2 then some (2, c) else none)
    let real := ds.filterMap (fun p =>
      if big p.2 && s.neighboursQuiet leg stake ds w p.1 && still then some (3, p.1) else none)
    let all := inner ++ ends ++ real
    if all.isEmpty then [(4, 0)] else all
/-- R161: a test of lines is planned: the station's bleeds off first, then the test, then a read of its result. A line
whose detection is suspended is left out. -/
def State.planWireTest (leg : Leg) (stake : Nat) (lines : List Nat) (suspect : Nat) (s : State) : State :=
  let d := s.sdiagAt leg stake
  let blocked := (lookupD 0 d.suspended suspect) > s.time.meridian
  if blocked then s
  else
    let wires := lines.foldl (fun m w => withBit m w) 0
    (s.modStation leg stake (fun d => { d with suspect := withBit d.suspect suspect })).planWires leg stake wires
/-- R159: the action of a pattern that has held. -/
def State.actPattern (leg : Leg) (stake row k : Nat) (s : State) : State :=
  if row = 1 then
    let lines := k :: ([k - 1, k + 1].filter (fun w => decide (w ≤ 16) && (s.populatedCell leg stake w || s.populatedCell leg stake (w + 1))))
    s.planWireTest leg stake lines k
  else if row = 2 then
    s.planWireTest leg stake [k - 1, k] (if s.populatedCell leg stake (k - 1) then k else k - 1)
  else if row = 3 then
    let i := cellIndex leg stake k
    (s.modCell i (fun e => { e with deviation := true, devClear := 0 })).form 0x1401 6 (testSource leg) i (s.cell i).delta (s.par P.owDev leg.val)
  else s.modDiag leg (fun d => { d with unexplained := incSat d.unexplained })
/-- R159: how often a pattern has held in a row, this round included. -/
def runOf (old : List (Nat × Nat × Nat)) (p : Nat × Nat) : Nat × Nat × Nat :=
  (p.1, p.2, match old.find? (fun q => q.1 == p.1 && q.2.1 == p.2) with
    | some q => q.2.2 + 1
    | none => 1)
/-- R159: the runs of a station after a round. Where a residual is not available rows 1 to 3 neither count nor break their runs; row 4
counts where no row's cell deviations hold. -/
def State.runsOf (s : State) (leg : Leg) (stake : Nat) : List (Nat × Nat × Nat) :=
  let d := s.sdiagAt leg stake
  let diag := s.diag[leg.val]
  match (if d.stackOk then movement d.stack else none), (if diag.skipped then none else movement diag.residuals) with
  | some sm, some em => (s.patternsOf leg stake (some (sm, em))).map (runOf d.patterns)
  | _, _ =>
    let rest := d.patterns.filter (fun q => q.1 != 4)
    match s.patternsOf leg stake none with
    | [] => rest
    | [(4, k)] => rest ++ [runOf d.patterns (4, k)]
    | _ => d.patterns
/-- R159: one station in a regular round: a pattern that has held OW_ROUNDS rounds is acted on, once a run. -/
def State.examineStation (leg : Leg) (stake : Nat) (s : State) : State :=
  let old := (s.sdiagAt leg stake).patterns
  let held := s.runsOf leg stake
  let s := s.modStation leg stake (fun d => { d with patterns := held })
  (held.filter (fun q => !old.contains q)).foldl (fun t q => if q.2.2 = t.parN P.owRounds leg.val then t.actPattern leg stake q.1 q.2.1 else t) s
/-- R159: δ of each cell of the round, and how long a set DEVIATION has been below OW_DEV. -/
def State.formDeltas (leg : Leg) (u : RoundInfo) (s : State) : State :=
  let w := s.par P.owDev leg.val
  (s.legKeys leg).foldl (fun t k =>
    match (t.estCell k.2.2).atTp.find? (fun a => a.round == u.round) with
    | some a =>
      t.modCell k.2.2 (fun c =>
        if !c.fresh then c
        else
          let d : Int := c.v - (a.vHat.mul (F64.ofNat 10000)).round
          let n := if c.deviation ∧ (d.natAbs : Int) < w then c.devClear + 1 else 0
          { c with delta := d, devClear := n, deviation := c.deviation && decide (n < t.parN P.owRounds leg.val) })
    | none => t) s
/-- R159: open sense wires and cell deviations of a leg in a regular round. -/
def State.openWires (leg : Leg) (u : RoundInfo) (s : State) : State :=
  let s := s.formDeltas leg u
  (List.range (s.stations leg)).foldl (fun t k => t.examineStation leg (k + 1)) s

/-- R152: the module balances a leg. -/
def State.mayBalance (s : State) (leg : Leg) : Bool :=
  (s.mode == .surveyed || s.mode == .armed || s.mode == .running) && s.layup.step == 0 && bitAt s.balEnable leg.val && s.populated leg &&
  s.par P.balMode leg.val != 0 && !s.diag[leg.val].closureFail
/-- R152: a cell is eligible for balancing. -/
def State.eligible (s : State) (leg : Leg) (stake c : Nat) : Bool :=
  let i := cellIndex leg stake c
  let e := s.estCell i
  let x := s.cell i
  let conf := s.parN P.balMinConf leg.val
  decide (conf ≤ e.socConf) && decide (conf ≤ s.capConf leg e) && x.fresh && decide (s.parN P.balMinV leg.val ≤ x.v) &&
  !x.openAdj && !x.switchFail && !(s.sdiagAt leg stake).mismatch &&
  (List.range 8).all (fun p =>
    !bitAt (s.tempMask leg stake) p ||
    (let t := (s.temp (tempIndex leg stake p)).t
     t != tInvalid && decide (t < s.par P.cellWarn)))
/-- R153: Q[c] in mAh. -/
def State.balanceQ (s : State) (leg : Leg) (e : EstCell) : F64 := if s.par P.balMode leg.val = 1 then e.qc else e.qd
/-- The extreme of a list by a relation. -/
def bestF (better : F64 → F64 → Bool) : List F64 → F64
  | [] => F64.zero
  | [x] => x
  | x :: xs => let m := bestF better xs
    if better m x then m else x
/-- R153: excess of an eligible cell. -/
def State.excessOf (s : State) (leg : Leg) (qs : List F64) (q : F64) : F64 :=
  if s.par P.balMode leg.val = 1 then (bestF (fun a b => b.lt a) qs).sub q else q.sub (bestF F64.lt qs)
/-- R153: "active" of every cell, and its excess, by stake and cell. -/
def State.planActive (s : State) (leg : Leg) : List (Nat × Nat × Bool × F64) :=
  let keys := s.legKeys leg
  let el := keys.filter (fun k => s.eligible leg k.1 k.2.1)
  let qs := el.map (fun k => s.balanceQ leg (s.estCell k.2.2))
  let cap := s.capNom leg
  let startAt := (s.parF P.balStart leg.val 0 4).mul cap
  let stopAt := (s.parF P.balStop leg.val 0 4).mul cap
  keys.map (fun k =>
    if !s.eligible leg k.1 k.2.1 then (k.1, k.2.1, false, F64.zero)
    else
      let x := s.excessOf leg qs (s.balanceQ leg (s.estCell k.2.2))
      (k.1, k.2.1, (if startAt.le x then true else if x.lt stopAt then false else (s.cell k.2.2).active), x))
/-- Insertion by falling excess. -/
def insertExcess (x : Nat × F64) : List (Nat × F64) → List (Nat × F64)
  | [] => [x]
  | y :: ys => if y.2.lt x.2 then x :: y :: ys else y :: insertExcess x ys
/-- R153: the mask of one station: active cells of the parity, the BAL_MAX_CELLS with the largest excess. -/
def State.stationMask (s : State) (leg : Leg) (odd : Bool) (plan : List (Nat × Nat × Bool × F64)) (stake : Nat) : Nat :=
  let both := s.par P.balNeighbour leg.val == 1
  let cs := plan.filterMap (fun p =>
    if p.1 = stake ∧ p.2.2.1 ∧ (both ∨ (p.2.1 % 2 == 1) = odd) then some (p.2.1, p.2.2.2) else none)
  let kept := (cs.foldl (fun acc x => insertExcess x acc) []).take (s.parN P.balMaxCells leg.val)
  kept.foldl (fun m p => withBit m (p.1 - 1)) 0

end Sys2Proof.Machine
end

