-- ==== Sys2Proof/Machine/PlatCheck.lean ====
section
/-! DEFINITION. Checking a plat copy: the header (R85, R94), the body (R87 to R93, R96), the cross-record checks of
the owning chapters, and the layout of resolved parameters behind SAFETY_CRC, MODEL_KEY and TWIN_KEY (R96). -/
namespace Sys2Proof.Machine

/-- Bytes of a plat header (R85). -/
def headerLen : Nat := 96
/-- Bytes of a plat slot (R83). -/
def platSlot : Nat := 2097152
/-- R85: the fields of a header. -/
def parseHeader (h : List Byte) : PlatHeader :=
  { serial := fieldAt 12 4 h, bodyLen := fieldAt 16 4 h, recordCount := fieldAt 20 4 h,
    noFallback := bitAt (fieldAt 24 4 h) 1, quad := bitAt (fieldAt 24 4 h) 0, imageMin := fieldAt 28 4 h,
    flosor := fieldAt 32 4 h, created := fieldAt 36 8 h, tag := slice 44 16 h, safetyCrc := fieldAt 60 4 h,
    bodyHash := slice 64 28 h }
/-- R94, R96: the result of a header alone; 0 where it passes (codes 3 to 6). -/
def headerResult (image : Nat) (h : List Byte) : Nat :=
  let p := parseHeader h
  if fieldAt 0 4 h = 0xFFFFFFFF then 3
  else if fieldAt 0 4 h ≠ 0x54414C50 ∨ fieldAt 4 2 h ≠ 1 ∨ fieldAt 6 2 h ≠ 96 ∨ fieldAt 92 4 h ≠ crc32 (h.take 92) ∨
    p.serial = 0 ∨ p.serial = 0xFFFFFFFF ∨ p.bodyLen < 16 ∨ p.bodyLen > 2097056 ∨
    p.recordCount < 1 ∨ p.recordCount > 4096 ∨ fieldAt 24 4 h / 4 ≠ 0 then 4
  else if fieldAt 8 2 h ≠ 0x9640 ∨ bitAt (fieldAt 10 2 h) 0 = false then 5
  else if p.imageMin > image then 6
  else 0

/-- One record as it lies in a body (R87). -/
structure RawRec where
  type : Nat
  inst : Nat
  rflags : Nat
  data : List Byte
  rcrcOk : Bool
  padOk : Bool
  deriving DecidableEq, Repr

/-- R87: the whole records of a body, and the TYPE of the record that runs past its end, where one does. -/
def parseBody : Nat → List Byte → List RawRec × Option Nat
  | 0, bs => ([], if bs.isEmpty then none else some (fieldAt 0 2 bs))
  | n + 1, bs =>
    if bs.isEmpty then ([], none)
    else
      let len := fieldAt 4 4 bs
      let total := 8 + len + 4
      let padded := (total + 3) / 4 * 4
      if bs.length < 8 ∨ len > 262144 ∨ bs.length < padded then ([], some (fieldAt 0 2 bs))
      else
        let r : RawRec :=
          { type := fieldAt 0 2 bs, inst := fieldAt 2 1 bs, rflags := fieldAt 3 1 bs, data := slice 8 len bs,
            rcrcOk := fieldAt (8 + len) 4 bs == crc32 (bs.take (8 + len)),
            padOk := (slice total (padded - total) bs).all (· == 0) }
        let rest := parseBody n (bs.drop padded)
        (r :: rest.1, rest.2)

/-- R91, R92: the object groups of record types. -/
def platGroups : List Nat := [0x01, 0x02, 0x03, 0x04, 0x10, 0x11, 0x12, 0x13, 0x14, 0x20, 0x30, 0x38, 0x40, 0x48,
  0x50, 0x58, 0x60, 0x68, 0x70, 0x78, 0x80, 0x88]
/-- A type whose field table the spec gives (R441 has no expert record). -/
def tabled (t : Nat) : Bool := (schema (basicOf t)).isSome && t != 0x7882
/-- R93: a type known to the running image: a tabled one, or 0x0201 and 0x0281, which have no table (log 10). -/
def knownType (t : Nat) : Bool := tabled t || t == 0x0201 || t == 0x0281
/-- R91: a type that may stand before the terminator. -/
def allowedType (t : Nat) : Bool := platGroups.contains (t / 256) && t % 256 != 0 && t % 256 != 0x80
/-- R89: a known type has the DATA length of its table. -/
def lenOk (r : RawRec) : Bool :=
  if tabled r.type then
    match schema (basicOf r.type) with
    | some fs => r.data.length == dataLen fs (isExpert r.type)
    | none => true
  else true

/-- The first record of a list that fails a check, as the TYPE that R506 names. -/
def firstType (bad : RawRec → Bool) (rs : List RawRec) : Option Nat := (rs.find? bad).map RawRec.type

/-- R96 code 7: the structure of a body; the type named by R506. `past` is the TYPE of a record that runs past BODY_LEN.
A body whose number of records differs from RECORD_COUNT, with a terminator that agrees with it, is named by no code:
DESIGN CHOICE (log 267): code 7. -/
def check7 (count : Nat) (rs : List RawRec) (past : Option Nat) : Option Nat :=
  let body := if past.isSome then rs else rs.dropLast
  match firstType (fun r => !r.padOk || r.rflags / 2 != 0 || !lenOk r) body, past, rs.getLast? with
  | some x, _, _ => some x
  | none, some x, _ => some x
  | none, none, none => some 0
  | none, none, some t =>
      if t.type ≠ 0 then some 0
      else if t.inst ≠ 0 ∨ t.rflags ≠ 0 ∨ t.data.length ≠ 4 ∨ !t.padOk then some 0
      else if leNat t.data ≠ count ∨ body.length ≠ count then some 0
      else none
/-- R88: a record that does not follow its predecessor in TYPE and INSTANCE. -/
def orderBad (before : Option RawRec) (r : RawRec) : Bool :=
  match before with
  | none => false
  | some a => decide (r.type < a.type) || (r.type == a.type && decide (r.inst ≤ a.inst))
/-- R88, R91, R93, R96 code 10, in the order of the records (R506). -/
def check10From (before : Option RawRec) : List RawRec → Option Nat
  | [] => none
  | r :: rs =>
    if !allowedType r.type || (!knownType r.type && r.rflags % 2 == 0) || orderBad before r then some r.type else check10From (some r) rs
/-- R96 code 10: the type of the first record that fails. -/
def check10 (body : List RawRec) : Option Nat := check10From none body

/-- Further limits of single fields beside their range column: R168 ROUND_MS and PLUMB_SAMPLE, R353 STEPS_PER_REV,
R440 RATE_LIST and STATUS_BASE_ID. N is the number of samples per frame. -/
def specialOk (recs : List PlatRec) (n : Nat) (p : Par) (inst : Nat) (v : Int) : Bool :=
  if p = P.roundMs then [4, 8, 16, 32, 64].contains v
  else if p = P.plumbSample then v == 255 || decide (v < n)
  else if p = P.stepsPerRev then v % 4 == 0
  else if p = P.canRateList then decide (v.toNat / 16 ≤ 3) && decide (v.toNat % 16 ≤ 4)
  else if p = P.canStatusBaseId then
    resolve recs P.canStatusExt inst 0 == 1 || decide (v ≤ 0x7FB)
  else true
/-- R90: the type of the record that a parameter's value comes from. -/
def sourceType (recs : List PlatRec) (p : Par) (inst : Nat) : Option Nat :=
  let ex (n : Nat) : Bool := match findRec recs (p.basic + 0x80) n with
    | some r => presence r.data p.idx
    | none => false
  if ex inst || ex 0xFF then some (p.basic + 0x80)
  else if (findRec recs p.basic inst).isSome || (findRec recs p.basic 0xFF).isSome then some p.basic
  else none
/-- The basic types that a plat carries any record of, ascending (R96). -/
def functionsOf (recs : List PlatRec) : List Nat :=
  (sortBy id ((recs.map (fun r => basicOf r.type)).eraseDups)).filter (fun t => (schema t).isSome)
/-- The instances of a function (R96): 0 to 3, then 0xFF. -/
def instancesOf (recs : List PlatRec) (basic : Nat) : List Nat :=
  [0, 1, 2, 3, 0xFF].filter (fun i => (findRec recs basic i).isSome || (findRec recs (basic + 0x80) i).isSome)
/-- R96 code 11: parameters out of their absolute range, as (type of their record). -/
def rangeBad (recs : List PlatRec) (n : Nat) : List Nat :=
  (functionsOf recs).flatMap (fun t =>
    match schema t with
    | none => []
    | some fs =>
      (instancesOf recs t).flatMap (fun inst =>
        (List.range fs.length).filterMap (fun i =>
          match fs[i]? with
          | none => none
          | some f =>
            let p : Par := ⟨t, i⟩
            if (List.range f.n).all (fun e =>
              let v := resolve recs p inst e
              decide (f.lo ≤ v) && decide (v ≤ f.hi) && specialOk recs n p inst v) then none
            else sourceType recs p inst)))
/-- R89: an expert field with presence bit 0 that is not 0. -/
def absentNonZero (recs : List PlatRec) : List Nat :=
  (recs.filter (fun r => isExpert r.type && (match schema (basicOf r.type) with
    | none => false
    | some fs => (List.range fs.length).any (fun i =>
        !presence r.data i && (List.range ((fs[i]?.map PField.n).getD 0)).any (fun e =>
          readElem fs (mapBytes fs) i e r.data != some 0))))).map PlatRec.type
/-- R505: the fields whose Default column reads "Chemistry". -/
def chemistryFields (t : Nat) : List Nat :=
  if t = 0x2001 then [3, 4, 5, 8, 9, 10]
  else if t = 0x2003 then [0, 1, 2, 3, 11, 12]
  else if t = 0x4001 then [9, 10]
  else if t = 0x5001 then [0, 1, 2, 3, 4]
  else []
/-- R505: whether a chemistry field of some instance would resolve through step 5 of R90; the instances of 0x2001 are
the four legs, those of the others 0xFF (log 31). -/
def chemistryMissing (recs : List PlatRec) (t : Nat) : Bool :=
  let insts := if t = 0x2001 then [0, 1, 2, 3] else [0xFF]
  insts.any (fun i => (chemistryFields t).any (fun k => (carried recs ⟨t, k⟩ i 0).isNone))
/-- R92, R96 code 12: the basic type first found missing. -/
def check12 (recs : List PlatRec) : Option Nat :=
  let has (t : Nat) : Bool := recs.any (fun r => r.type == t)
  ([0x0201, 0x1001, 0x2001, 0x2003, 0x3001, 0x3801, 0x4001, 0x5001, 0x7001] : List Nat).find? (fun t =>
    (if t = 0x1001 then !(has 0x1001 || has 0x1101 || has 0x1201 || has 0x1301)
     else if t = 0x2003 ∨ t = 0x5001 then false else !has t) || chemistryMissing recs t)
/-- R90: a basic record whose basic fields differ from their copies in its derived block. -/
def derivedBad (recs : List PlatRec) : List Nat :=
  (recs.filter (fun r => !isExpert r.type && (match schema r.type with
    | none => false
    | some fs =>
      let basics := (List.range fs.length).filter (fun i => !((fs[i]?.map PField.expert).getD true))
      let copies := basics.flatMap (fun i => slice (sizeBasic fs + offsetOf fs i) ((fs[i]?.map PField.bytes).getD 0) r.data)
      r.data.take (sizeBasic fs) != copies))).map PlatRec.type

/-- Legs, for checks of per-leg records. -/
def legInsts : List Nat := [0, 1, 2, 3]
/-- A list of numbers that never decreases. -/
def nonDecreasing : List Int → Bool
  | a :: b :: xs => decide (a ≤ b) && nonDecreasing (b :: xs)
  | _ => true
/-- A list of numbers that always increases. -/
def increasing : List Int → Bool
  | a :: b :: xs => decide (a < b) && increasing (b :: xs)
  | _ => true
/-- R33: field cycles per sample of a frequency code. -/
def cyclesOf (freq : Nat) : Nat := nth [12500, 10000, 8000, 6250, 5000] freq 10000
/-- R33: samples per frame of a frequency code. -/
def samplesOf (freq : Nat) : Nat := nth [16, 20, 25, 32, 40] freq 20
/-- R230: the control-path group delay in field cycles, by MCK_FREQ. -/
def groupDelay (mck : Nat) : Nat := nth [3840, 2400, 1920] mck 1920
/-- Contiguous netmask (R422). -/
def contiguousMask (m : Nat) : Bool := (List.range 33).any (fun k => m == 2 ^ 32 - 2 ^ k)
/-- The switching frequency code that record 0x0201 sets (log 10). -/
def platFreq (recs : List PlatRec) : Nat :=
  Config.syncField (((findRec recs 0x0201 0xFF).map PlatRec.data).getD []) (((findRec recs 0x0281 0xFF).map PlatRec.data).getD []) 0 % 5

/-- Bytes of receive map entry k of a controller (R441). -/
def rxEntry (recs : List PlatRec) (c k : Nat) : List Byte :=
  (List.range 32).map (fun i => BitVec.ofInt 8 (resolve recs P.canMapRxMap c (32 * k + i)))
/-- Bytes of transmit map entry k of a controller (R441). -/
def txEntry (recs : List PlatRec) (c k : Nat) : List Byte :=
  (List.range 32).map (fun i => BitVec.ofInt 8 (resolve recs P.canMapTxMap c (32 * k + i)))
/-- R433: overlapping fields of transmit entries that form one frame. -/
def txOverlap (recs : List PlatRec) (c : Nat) : Bool :=
  let n := (resolve recs P.canMapTxCount c 0).toNat
  let es := (List.range n).map (txEntry recs c)
  (List.range n).any (fun i => (List.range i).any (fun j =>
    let a := nth es i []
    let b := nth es j []
    fieldAt 0 4 a == fieldAt 0 4 b &&
    decide (fieldAt 14 2 a < fieldAt 14 2 b + fieldAt 16 1 b) && decide (fieldAt 14 2 b < fieldAt 14 2 a + fieldAt 16 1 a)))
/-- R441: two receive entries of one controller that write one slot from different identifiers. -/
def rxSlotClash (recs : List PlatRec) (c : Nat) : Bool :=
  let n := (resolve recs P.canMapRxCount c 0).toNat
  let es := (List.range n).map (rxEntry recs c)
  (List.range n).any (fun i => (List.range i).any (fun j =>
    let a := nth es i []
    let b := nth es j []
    fieldAt 14 1 a == fieldAt 14 1 b && fieldAt 0 4 a != fieldAt 0 4 b))

/-- R139, R168: the sample that PLUMB_SAMPLE resolves to. -/
def plumbOf (freq : Nat) (p : Int) : Int := if p = 255 then ((samplesOf freq / 2 : Nat) : Int) else p
/-- The cross-record checks of the owning chapters, each with the basic type that R506 names: R168, R170, R198, R199,
R224, R225, R258, R259, R261, R273, R277, R298, R336, R353, R358, R405, R422, R423, R428, R433, R441. `known` says
which object IDs exist (R433). -/
def crossChecks (known : Nat → Bool) (recs : List PlatRec) : List (Nat × Bool) :=
  let g (p : Par) (i : Nat) : Int := resolve recs p i 0
  let ge (p : Par) (i e : Nat) : Int := resolve recs p i e
  let pop : List Nat := legInsts.filter (fun l => (findRec recs (0x1001 + 0x100 * l) 0xFF).isSome)
  let freq := platFreq recs
  let off (p : Par) : Int := roundDiv (g p 0 * cyclesOf freq) 10000
  let mck := (g P.mckFreq 0xFF).toNat
  let four : List Nat := [0, 1, 2, 3]
  [ (0x1401, legInsts.any (fun l => decide (g P.balStop l ≥ g P.balStart l))),
    (0x1401, legInsts.any (fun l => g P.balNeighbour l == 1 && (List.range 408).all (fun e => ge P.wireR l e == 0))),
    (0x1401, legInsts.any (fun l => plumbOf freq (g P.plumbSample l) != plumbOf freq (g P.plumbSample 0))),
    (0x2001, legInsts.any (fun l => !nonDecreasing ((List.range 101).map (ge P.ocvDis l)) ||
      !nonDecreasing ((List.range 101).map (ge P.ocvChg l)) ||
      (List.range 101).any (fun e => decide (ge P.ocvChg l e < ge P.ocvDis l e)))),
    (0x2001, legInsts.any (fun l => !increasing (four.map (ge P.tbinEdge l)))),
    (0x2002, decide (g P.tauMin 0xFF ≥ g P.tauMax 0xFF)),
    (0x2003, decide (g P.vMinOp 0xFF ≥ g P.vMaxOp 0xFF) || decide (g P.vEmpty 0xFF ≥ g P.vFull 0xFF) ||
      decide (g P.vMaxOp 0xFF ≥ g P.vHardMax 0xFF) || decide (g P.vMinOp 0xFF ≤ g P.vHardMin 0xFF)),
    (0x2004, !increasing [g P.socLow2 0xFF, g P.socLow1 0xFF, g P.socHigh1 0xFF, g P.socHigh2 0xFF]),
    (0x3001, legInsts.any (fun l => decide (g P.fastLim l ≥ g P.phaseIFs l) || decide (g P.ovlLvl1s l > g P.ovlLvl10ms l))) ] ++
  [ (0x3002, decide (g P.vSetMin 0xFF ≥ g P.vSetMax 0xFF)),
    (0x3002, four.any (fun e => ge P.fixedWeights 0xFF e != 0) && (pop.map (ge P.fixedWeights 0xFF)).sum != 10000),
    (0x3801, decide (off P.phiW - off P.phiS < (groupDelay mck : Int) + 200) || decide (off P.phiW > (cyclesOf freq : Int) - 20)),
    (0x3002, pop.any (fun l => ge P.bankMode l 0 != g P.mode 0xFF && ge P.bankMode l 1 != g P.mode 0xFF)),
    (0x3801, legInsts.any (fun l => g P.phiS l != g P.phiS 0 || g P.phiW l != g P.phiW 0)),
    (0x4001, (List.range 8).any (fun k => ge P.pairFunc 0xFF k != 0 &&
      ge P.tpsAssign 0xFF (2 * k) == ge P.tpsAssign 0xFF (2 * k + 1) && decide (ge P.tpsAssign 0xFF (2 * k) ≤ 3))),
    (0x4001, decide (g P.vHardMin 0xFF ≥ g P.vHardMax 0xFF)),
    (0x4001, [P.telegramSource, P.tripDest].any (fun p => g p 0xFF != 0 && four.all (fun e => ge P.tgPeerId 0xFF e != g p 0xFF))),
    (0x5001, !increasing [g P.cellWarn 0xFF, g P.cellThrottle 0xFF, g P.cellShutdown 0xFF] ||
      !increasing [g P.stageWarn 0xFF, g P.stageThrottle 0xFF, g P.stageShutdown 0xFF] ||
      decide (g P.stageRestart 0xFF ≥ g P.stageWarn 0xFF) || decide (g P.dieThrottle 0xFF ≥ 1300) ||
      decide (g P.dieWarn 0xFF ≥ g P.dieThrottle 0xFF) ||
      decide (g P.cellChgBlock 0xFF ≥ g P.cellLowWarn 0xFF) ||
      four.any (fun e => decide (ge P.fanTLo 0xFF e ≥ ge P.fanTHi 0xFF e)) ||
      four.any (fun e => ge P.valveMode 0xFF e == 1 && ge P.valveTravel 0xFF e == 0)) ] ++
  [ (0x5801, four.any (fun a => !((List.range 9).any (fun k => g P.microsteps a == 2 ^ k)) ||
      decide (g P.iHold a > g P.iRun a) || decide (g P.posMin a ≥ g P.posMax a))),
    (0x5001, four.any (fun a => ge P.valveMode 0xFF a == 1 && (g P.axFitted a == 0 ||
      decide (g P.posMin a > 0) || decide (g P.posMax a < ge P.valveTravel 0xFF a)))),
    (0x6001, decide (g P.fbMb 0xFF + g P.trendMb 0xFF > 200)),
    (0x7001, !contiguousMask (g P.netmask 0xFF).toNat || g P.vlanId 0xFF == 4095 ||
      four.any (fun e => ge P.tgPeerId 0xFF e != 0 && four.any (fun f => f != e && ge P.tgPeerId 0xFF e == ge P.tgPeerId 0xFF f))),
    (0x7801, four.any (fun c => g P.canDataRate c != 0 && g P.canArbRate c == 0)),
    (0x7801, four.any (fun c => g P.canGatewayTx c == 7 && (g P.canStatusEnable c != 0 || g P.canMapTxCount c != 0))),
    (0x7802, four.any (fun c => decide (g P.canMapRxCount c > 32) || decide (g P.canMapTxCount c > 16) || rxSlotClash recs c)),
    (0x7802, four.any (fun c => txOverlap recs c || (List.range (g P.canMapTxCount c).toNat).any (fun k =>
      !known (fieldAt 8 4 (txEntry recs c k))))) ]
/-- R96 code 13. -/
def check13 (known : Nat → Bool) (recs : List PlatRec) : Option Nat :=
  let bad := derivedBad recs ++ ((crossChecks known recs).filter (fun p => p.2)).map Prod.fst
  (sortBy id bad).head?

/-- R96: the resolved parameters of the functions whose basic type passes a filter, fields of `skip` left out. -/
def resolvedLayout (recs : List PlatRec) (keep : Nat → Bool) (skip : List Par) : List Byte :=
  ((functionsOf recs).filter keep).flatMap (fun t =>
    match schema t with
    | none => []
    | some fs => (instancesOf recs t).flatMap (fun inst => (List.range fs.length).flatMap (fun i =>
        if skip.contains ⟨t, i⟩ then []
        else match fs[i]? with
          | none => []
          | some f => (List.range f.n).flatMap (fun e => leInt f.ty.size (resolve recs ⟨t, i⟩ inst e)))))
/-- R96: SAFETY_CRC, over groups 0x40 and 0x48. -/
def platSafetyCrc (recs : List PlatRec) : Nat :=
  safetyCrc (resolvedLayout recs (fun t => t / 256 == 0x40 || t / 256 == 0x48) [])
/-- R218: MODEL_KEY. -/
def modelKey (recs : List PlatRec) : Nat := crc32 (resolvedLayout recs (fun t => t == 0x2001) [])
/-- R299: TWIN_KEY, without UNIT and PEER_SERIAL. -/
def twinKey (recs : List PlatRec) : Nat := crc32 (resolvedLayout recs (fun _ => true) [P.unit, P.peerSerial])

/-- R96: the result of a body, the type R506 names, and the records kept (R93) with the number skipped. -/
structure BodyResult where
  code : Nat
  failType : Nat
  recs : List PlatRec
  skipped : Nat
  deriving DecidableEq, Repr
/-- R96: checks 7 to 14 in order; the first failure gives the code. -/
def bodyResult (known : Nat → Bool) (h : PlatHeader) (body : List Byte) : BodyResult :=
  let p := parseBody (body.length / 12 + 1) body
  let rs := p.1
  let recs : List PlatRec := (rs.dropLast.filter (fun r => knownType r.type)).map
    (fun r => { type := r.type, inst := r.inst, opt := r.rflags % 2 == 1, data := r.data })
  let skipped := (rs.dropLast.filter (fun r => !knownType r.type)).length
  let fail (c t : Nat) : BodyResult := { code := c, failType := t, recs := [], skipped := 0 }
  match check7 h.recordCount rs p.2 with
  | some t => fail 7 t
  | none =>
    match firstType (fun r => !r.rcrcOk) rs with
    | some t => fail 8 t
    | none =>
      if (sha256 body).take 28 ≠ h.bodyHash then fail 9 0
      else match check10 rs.dropLast with
        | some t => fail 10 t
        | none =>
          match (sortBy id (absentNonZero recs ++ rangeBad recs (samplesOf (platFreq recs)))).head? with
          | some t => fail 11 t
          | none =>
            match check12 recs with
            | some t => fail 12 t
            | none =>
              match check13 known recs with
              | some t => fail 13 t
              | none => if platSafetyCrc recs ≠ h.safetyCrc then fail 14 0
                else { code := 0, failType := 0, recs := recs, skipped := skipped }

end Sys2Proof.Machine
end

