-- ==== Sys2Proof/Machine/ConvOps.lean ====
section
/-! DEFINITION. Shared operations of the leg converters: physical values (R231), the entry into soft start (R245,
R271), drains and ramps to zero (R253, R254), and the units of set-points (R237). -/
namespace Sys2Proof.Machine

/-- Field cycles of a sample period (R33). -/
def State.period (s : State) : Nat := cyclesOf s.grid.freq
/-- Samples of a frame (R33). -/
def State.nSamples (s : State) : Nat := samplesOf s.grid.freq
/-- R231: a code as a physical value on a full scale, rounded as in R5. -/
def physical (code fs : Int) : Int := roundDiv (code * fs) 131071
/-- V_leg at the last latch, mV. -/
def State.vLegLatch (s : State) (leg : Leg) : Int :=
  physical ((s.cle[leg.val].codes.toList.getD (4 * leg.val + 3) 0)) (s.par P.legVFs leg.val)
/-- V_bus at the last latch of a leg's CLE, mV. -/
def State.vBusLatch (s : State) (leg : Leg) : Int := physical (s.cle[leg.val].codes.toList.getD 16 0) (s.par P.busVFs)
/-- A phase current at the last latch, mA. -/
def State.iPhaseLatch (s : State) (p : Phase) : Int :=
  physical (s.cle[(legOf p).val].codes.toList.getD (4 * (legOf p).val + p.val % 2) 0) (s.par P.phaseIFs (legOf p).val)
/-- I_bus,n at the last latch, mA (R227). -/
def State.iBusLatch (s : State) (leg : Leg) : Int := s.iPhaseLatch (phaseA leg) + s.iPhaseLatch (phaseB leg)
/-- Frame means of V_leg, V_bus (mV), I_leg, I_bus,n (mA) as latched (R257). -/
def State.vLegMean (s : State) (leg : Leg) : Int := s.lat.md.toList.getD (4 * leg.val + 3) 0
/-- Frame mean of V_bus. -/
def State.vBusMean (s : State) : Int := s.lat.md.toList.getD 16 0
/-- Frame mean of I_leg. -/
def State.iLegMean (s : State) (leg : Leg) : Int := s.lat.md.toList.getD (4 * leg.val + 2) 0
/-- Frame mean of I_bus,n. -/
def State.iBusMean (s : State) (leg : Leg) : Int := s.lat.md.toList.getD (4 * leg.val) 0 + s.lat.md.toList.getD (4 * leg.val + 1) 0

/-- The stop slope in A/s (R298), which is also µA per µs. -/
def State.stopSlope (s : State) : Int := s.par P.stopSlope
/-- R253: the change of a bus-side reference in one sample, µA: stop slope × P_s × V_leg / V_bus; half of it for a
phase current. -/
def State.rampStep (s : State) (leg : Leg) (direct : Bool) : Int :=
  let vb := s.vBusLatch leg
  let num := s.stopSlope * (s.period * 5 : Nat) * s.vLegLatch leg
  let den := 1000 * vb * (if direct then 2 else 1)
  if vb ≤ 0 then roundDiv (s.stopSlope * (s.period * 5 : Nat)) (if direct then 2000 else 1000) else roundDiv num den
/-- A reference moved towards zero by at most a step. -/
def towardsZero (x step : Int) : Int := if x > 0 then max 0 (x - step) else min 0 (x + step)
/-- R243: a reference moved towards its target by at most a step. -/
def moveTo (x target step : Int) : Int := x + max (-step) (min step (target - x))

/-- R254: the present reference of a leg as the start of a ramp: its set-point, or in bus-forming mode and in the
field die's own ramps the last outer output as a phase current (R270). -/
def State.presentRamp (s : State) (leg : Leg) (stop : Bool) : Ramp :=
  let c := s.conv[leg.val]
  match c.ramp with
  | some r => if stop && !r.direct then { ref := r.ref / 2, direct := true, stop := true } else { r with stop := r.stop || stop }
  | none =>
    if s.str.running = 1 ∨ stop then
      { ref := roundDiv (s.cle[leg.val].out[0] * s.par P.phaseIFs leg.val * 1000) (2 ^ 30), direct := true, stop := stop }
    else { ref := c.setpoint * 1000, direct := false, stop := false }
/-- R253: what follows the end of a leg's drain. -/
def State.finishDrain (leg : Leg) (s : State) : State :=
  match s.conv[leg.val].drainEnd with
  | .disabled => (s.brakeLeg leg .disabled 0).settleRunning
  | .waitBus => s.brakeLeg leg .waitBus 0
  | .fault cause => s.latchLeg leg cause (s.iLegMean leg) (if cause = 5 then roundDiv (s.par P.ovlLvl1s leg.val * s.par P.iRated leg.val) 1000 else 0)
/-- R253: a leg drains towards an end. A leg without current to ramp is at its end at once. -/
def State.startDrain (leg : Leg) (target : DrainEnd) (s : State) : State :=
  let c := s.conv[leg.val]
  let s := s.yieldLeg leg .protection
  match c.st with
  | .softStart | .running =>
    let r := s.presentRamp leg false
    (s.modCle leg (fun e => { e with direct := r.direct })).modConv leg (fun c =>
      { c with st := .draining, drainEnd := target, ramp := some r, lowRun := 0, zeroCycles := 0 })
  | .draining => s.modConv leg (fun c => { c with drainEnd := target })
  | .loadStepOff | .waitBus | .retryWait => (s.modConv leg (fun c => { c with drainEnd := target })).finishDrain leg
  | .disabled | .fault =>
    match target with
    | .fault cause => s.latchLeg leg cause 0 0
    | _ => s

/-- R271: d0 of a phase loop, Q1.30. -/
def State.presetDuty (s : State) (leg : Leg) (dMin dMax : Int) : Int :=
  let xb := s.cle[leg.val].codes.toList.getD 16 0
  let xl := s.cle[leg.val].codes.toList.getD (4 * leg.val + 3) 0
  clampInt dMin dMax (roundDiv (2 ^ 30 * xb * s.par P.busVFs) (xl * s.par P.legVFs leg.val))

end Sys2Proof.Machine
end

