-- ==== Sys2Proof/Machine/Reset.lean ====
section
/-! DEFINITION. The reset of the module (R51, R67, R68): what a reset keeps, and its causes. -/
namespace Sys2Proof.Machine

/-- Bits of RESET_CAUSE (R80). -/
def cPor : Nat := 1
/-- BROWNOUT. -/
def cBrownOut : Nat := 2
/-- LAST_GASP. -/
def cLastGasp : Nat := 4
/-- LAST_GASP_CUT. -/
def cLastGaspCut : Nat := 8
/-- RESETREQ. -/
def cResetReq : Nat := 16
/-- WATCHDOG. -/
def cWatchdog : Nat := 64
/-- HOST. -/
def cHost : Nat := 128
/-- UPDATE. -/
def cUpdate : Nat := 256
/-- WAKE. -/
def cWake : Nat := 512

/-- What survives every reset: supplies and monitors of the always-on domain, fuses, flash, the remap tables of the
store, the stations outside the module, the count of power cycles, the cause of the last exit from LAID-UP (R80), the level of FORCEOFF_N unless the unit's own
estrangement held it (R312), and the model's own fields (R67, R69, R77, R356, log 44). -/
def State.survivors (s : State) : State :=
  { supply := s.supply, resetReq := s.resetReq, ret := s.ret, fuses := s.fuses, store := s.store
    plat := { flash := s.plat.flash }
    start := { powerCycles := s.start.powerCycles, wakeCause := s.start.wakeCause }
    su := { port := s.su.port.map (fun p => { retired := p.retired, remap := p.remap, hasMap := p.hasMap }) }
    sf := { forceoff := s.sf.forceoff && s.role != .estranged }
    ring := s.ring.map (fun r => { chain := r.chain })
    freeCounter := s.freeCounter, pending := s.pending }
/-- R51, R67: a reset: the module enters BOOT with a new start. Transfers made in LAID-UP are taken over from retained
memory (R77). -/
def State.moduleReset (cause : Nat) (s : State) : State :=
  let t := s.survivors
  let cut := (if s.ret.lastGaspCut then cLastGaspCut else 0) + (if s.ret.brownOut then cBrownOut else 0)
  { t with
    mode := .boot
    supply := { t.supply with rail33 := true, rail18 := true, refclkLost := false, switched := !s.ret.transfers.isEmpty
                              switchCount := addSat t.supply.switchCount s.ret.transfers.length }
    ret := { t.ret with lastGaspCut := false, brownOut := false, wake := 0, transfers := [] }
    start := { cause := cause + cut, wakeCause := if s.ret.wake = 0 then s.start.wakeCause else s.ret.wake, transfers := s.ret.transfers, powerCycles := (s.start.powerCycles + 1) % 2 ^ 24, wakeOut := true } }
/-- R57, R65, R329, R481: the always-on domain runs: in every state but OFF, and in the resets held for REFCLK or for a hot die. -/
def State.alwaysOn (s : State) : Bool := s.mode != .off || s.supply.refclkLost || s.ret.dieHold
/-- OFF: everything but what survives is gone (R65). -/
def State.powerOff (s : State) : State :=
  let t := s.survivors
  { t with
    mode := .off
    supply := { t.supply with rail33 := false, rail18 := false, ovl33 := false, ovl18 := false } }

end Sys2Proof.Machine
end

