-- ==== Sys2Proof/Machine/Engine.lean ====
section
/-! DEFINITION. The control-law engines: scaling (R263, R264), errors (R265), compensators (R266 to R268), compare
values (R269), presets (R271), banks and their derived coefficients (R272, R274). All integers, exact. -/
namespace Sys2Proof.Machine

/-- sat() of R264: the Q1.30 range. -/
def satQ (x : Int) : Int := clampInt (-0x80000000) 0x7FFFFFFF x
/-- R263: m(x). -/
def engineValue (x : Int) : Int := (x * 536875008 + 32768) / 65536
/-- R264: K_FS. -/
def kFs (fs : Int) : Int := roundDiv (2 ^ 46) fs
/-- R264: ref(w, FS). -/
def engineRef (w fs : Int) : Int := satQ ((w * kFs fs + 32768) / 65536)
/-- R264: w_n of a weight W_n. -/
def engineWeight (w : Nat) : Int := roundDiv ((w : Int) * 2 ^ 28) 10000
/-- R267: r28. -/
def r28 (x : Int) : Int := (x + 2 ^ 27) / 2 ^ 28

/-- π to 35 places, as a numerator over 10^35 (R274). -/
def piNum : Int := 314159265358979323846264338327950288
/-- Denominator of `piNum`. -/
def piDen : Int := 10 ^ 35
/-- R274: a PI of Kp = π × a / b with Ki × T / 2 = Kp × π × c / d: b0, b1, a1 in Q3.28. -/
def piGains (a b c d : Int) : List Int :=
  let kn := piNum * a
  let kd := piDen * b
  let xn := piNum * c
  let xd := piDen * d
  [roundDiv (2 ^ 28 * kn * (xd + xn)) (kd * xd), roundDiv (2 ^ 28 * kn * (xn - xd)) (kd * xd), 0, 0, 2 ^ 28, 0, 0]
/-- R274: the derived coefficients of a compensator (0 outer, 1 and 2 phases) for a bank's mode. -/
def State.derivedCoef (s : State) (leg : Leg) (forming : Bool) (comp : Nat) : List Int :=
  let n := leg.val
  let p : Int := s.period
  let fs := s.par P.phaseIFs n
  if comp ≠ 0 then
    let fc := s.par P.fcPhase n
    piGains (2 * fc * s.par P.lPhase n * fs) (s.par P.vLegDesign n * 1000000) (fc * p) 2000000000
  else if forming then
    let fc := s.par P.fcVolt n
    piGains (fc * s.par P.cOut n * s.par P.busVFs) (fs * 1000000) (fc * p) 800000000
  else
    let b := roundDiv (2 ^ 28 * piNum * s.par P.fcOuter n * p) (piDen * 200000000)
    [b, b, 0, 0, 2 ^ 28, 0, 0]
/-- BANK_MODE of a bank: 1 bus-forming (R272). -/
def State.bankForming (s : State) (leg : Leg) (bank : Nat) : Bool := s.par P.bankMode leg.val bank == 1
/-- R5, R274, R277: a coefficient of a bank: the record's, else the derived one, quantised to the 32 bits of Q3.28; k in the
order b0 to b3, a1 to a3. -/
def State.coef (s : State) (leg : Leg) (bank comp k : Nat) : Int :=
  match carried s.plat.recs P.coef leg.val (bank * 21 + comp * 7 + k) with
  | some v => v
  | none => satQ (nth (s.derivedCoef leg (s.bankForming leg bank) comp) k 0)
/-- R232: C_MIN in field cycles. -/
def State.cMin (s : State) (leg : Leg) : Int := s.par P.deadTime leg.val + s.par P.minOn leg.val
/-- R232: C_MAX in field cycles. -/
def State.cMax (s : State) (leg : Leg) : Int := s.period - s.par P.deadTime leg.val - s.par P.minOn leg.val
/-- R274, R277: D_MIN of a bank. -/
def State.dMin (s : State) (leg : Leg) (bank : Nat) : Int :=
  (carried s.plat.recs P.dMin leg.val bank).getD (roundDiv (2 ^ 30 * s.cMin leg) s.period)
/-- R274, R277: D_MAX of a bank. -/
def State.dMax (s : State) (leg : Leg) (bank : Nat) : Int :=
  (carried s.plat.recs P.dMax leg.val bank).getD (roundDiv (2 ^ 30 * s.cMax leg) s.period)

/-- R266 to R268: one compensator for one sample: error, bounds; the new histories, the output, and whether it clamped. -/
def compensate (co : List Int) (e uMin uMax : Int) (c : Comp) : Comp × Int :=
  let uMin := if uMin > uMax then uMax else uMin
  let b (k : Nat) : Int := nth co k 0
  let acc := b 0 * e + b 1 * c.e1 + b 2 * c.e2 + b 3 * c.e3 + b 4 * c.u1 + b 5 * c.u2 + b 6 * c.u3
  let u := r28 acc
  let out := if u > uMax then uMax else if u < uMin then uMin else u
  let beyond : Int := if u > uMax then 1 else if u < uMin then -1 else 0
  let sb := b 0 + b 1 + b 2 + b 3
  let push := e.sign * (if sb = 0 then (b 0).sign else sb.sign)
  let eh := if beyond ≠ 0 ∧ push = beyond then 0 else e
  ({ e1 := eh, e2 := c.e1, e3 := c.e2, u1 := out, u2 := c.u1, u3 := c.u2, sat := decide (beyond ≠ 0)
     satCount := if beyond ≠ 0 then incSat c.satCount else c.satCount }, out)

/-- The code of an input at the last latch of a CLE. -/
def Cle.code (c : Cle) (i : Nat) : Int := c.codes.toList.getD i 0
/-- R265: the outer error. -/
def State.outerError (s : State) (leg : Leg) (c : Cle) : Int :=
  let fs := s.par P.phaseIFs leg.val
  let bus := s.par P.busVFs
  let ia := engineValue (c.code (4 * leg.val))
  let ib := engineValue (c.code (4 * leg.val + 1))
  if s.bankForming leg c.bank then
    let gain (r : Int) : Int := roundDiv (r * fs * 2 ^ 28) (bus * 1000000)
    let istr := ((allPhases.map (fun p => engineValue (c.code (4 * (legOf p).val + p.val % 2)))).sum)
    let itgt := r28 (engineWeight c.word.w * istr) + engineRef c.word.iOff fs
    satQ (engineValue (c.code 16) - engineRef c.word.vRef bus - r28 (gain (s.par P.droopR) * istr) -
      r28 (gain (s.par P.shareR) * (ia + ib - itgt)))
  else satQ (engineRef c.word.iSet (2 * fs) - (ia + ib) / 2)
/-- R262, R265 to R268: one sample of a CLE. In direct-reference mode `direct` gives I_ref in mA (R270). -/
def State.computeCle (s : State) (leg : Leg) (direct : Option Int) (c : Cle) : Cle :=
  let fs := s.par P.phaseIFs leg.val
  let hi := engineRef c.word.limPos fs
  let lo := -(engineRef c.word.limNeg fs)
  let cos (comp : Nat) : List Int := (List.range 7).map (fun k => s.coef leg c.bank comp k)
  let outer : Comp × Int := match direct with
    | some w =>
      let lo := if lo > hi then hi else lo
      ({ c.comp[0] with sat := false }, clampInt lo hi (engineRef w fs))
    | none => compensate (cos 0) (s.outerError leg c) lo hi c.comp[0]
  let phase (j : Nat) (x : Comp) : Comp × Int :=
    compensate (cos (j + 1)) (satQ (engineValue (c.code (4 * leg.val + j)) - outer.2)) (s.dMin leg c.bank) (s.dMax leg c.bank) x
  let a := phase 0 c.comp[1]
  let b := phase 1 c.comp[2]
  { c with comp := #v[outer.1, a.1, b.1], out := #v[outer.2, a.2, b.2], running := true, direct := direct.isSome }
/-- R269: a compare value from a duty. -/
def State.compareOf (s : State) (leg : Leg) (u : Int) : Nat :=
  (clampInt (s.cMin leg) (s.cMax leg) ((u * s.period + 2 ^ 29) / 2 ^ 30)).toNat

/-- R271: the histories preset at an entry to soft start. -/
def State.presetCle (leg : Leg) (s : State) : State :=
  let c := s.cle[leg.val]
  let d := s.presetDuty leg (s.dMin leg c.bank) (s.dMax leg c.bank)
  s.modCle leg (fun c =>
    let ph (x : Comp) : Comp := { x with e1 := 0, e2 := 0, e3 := 0, u1 := d, u2 := d, u3 := d }
    { c with direct := false, comp := #v[{ c.comp[0] with e1 := 0, e2 := 0, e3 := 0, u1 := 0, u2 := 0, u3 := 0 }, ph c.comp[1], ph c.comp[2]] })
/-- R272: the bank selected for a mode: BANK_SELECT where both banks carry it, else the lowest-numbered of its mode. -/
def State.selectBank (s : State) (leg : Leg) (mode : Nat) (choose : Bool) (c : Cle) : Nat :=
  let m (b : Nat) : Bool := s.par P.bankMode leg.val b == (mode : Int)
  if m 0 && m 1 then (if choose then c.bankSelect else 0) else if m 0 then 0 else if m 1 then 1 else c.bank
/-- R272: the banks of all engines for the string mode, the lowest-numbered that matches. -/
def State.selectBanks (mode : Nat) (s : State) : State :=
  allLegs.foldl (fun t l => t.modCle l (fun c =>
    let b := t.selectBank l mode false c
    { c with bank := b, bankSelect := b, bankDue := none })) s

/-- R245, R246, R271: a leg enters soft start. -/
def State.enterSoftStart (leg : Leg) (s : State) : State :=
  let s := s.presetCle leg
  let p := s.period * 5
  let lead := (s.parN P.enLead leg.val * 1000 + p - 1) / p
  let s := s.modEleg leg (fun g => { g with calNeeded := true, calRunning := false })
  s.modConv leg (fun c =>
    { c with st := .softStart, pwmen := true, soft := 0, lead := lead, pulsed := false, f10 := F64.zero, f1s := F64.zero, overload := false
             ramp := none, lowRun := 0, zeroCycles := 0, reenterRun := 0, plannedFor := none })

end Sys2Proof.Machine
end

