-- ==== Sys2Proof/Machine/GridOps.lean ====
section
/-! DEFINITION. The sample grid and the Meridian, shared part: how the Meridian runs (R51, R54), the period of a sample and its
adjustment (R33, R39), the phase offset (R38), the sync sources (R36). -/
namespace Sys2Proof.Machine

/-- The state with its grid changed. -/
def State.modGrid (f : Grid → Grid) (s : State) : State := { s with grid := f s.grid }
/-- The state with its time base changed. -/
def State.modTime (f : TimeBase → TimeBase) (s : State) : State := { s with time := f s.time }
/-- R73: the states in which PPS_OUT is driven. -/
def State.ppsDriven (s : State) : Bool := !s.inStates [.off, .boot, .plat, .laidUp]
/-- R51, R54: the Meridian runs on to a stamp and never counts backwards; PPS_OUT, where it is driven, pulses once for every
whole second crossed. -/
def TimeBase.reach (driven : Bool) (stamp : Nat) (t : TimeBase) : TimeBase :=
  let m := max t.meridian stamp
  { t with meridian := m, ppsOut := if driven then t.ppsOut + (m / ticksPerSecond - t.meridian / ticksPerSecond) else t.ppsOut }
/-- An event at a stamp: the Meridian has reached it. -/
def State.at' (stamp : Nat) (s : State) : State := s.modTime (TimeBase.reach s.ppsDriven stamp)
/-- R32, R51: where the Meridian stands n field cycles after the present sample's beginning: five ticks for four cycles, each
advanced by 1 plus the rate correction; whole ticks, and the fraction in units of 2^−32. -/
def State.stampAfter (n : Nat) (s : State) : Nat × Nat :=
  let total : Int := (s.time.frac : Int) + (n : Int) * 5 * 2 ^ 30 + (n : Int) * 5 * s.time.rate / 4
  ((s.grid.stamp + (total / 2 ^ 32).toNat) % 2 ^ 64, (total % 2 ^ 32).toNat)

/-- R33: the largest period adjustment, in field cycles. -/
def State.maxAdjust (s : State) : Int := s.period / 200
/-- R39: a shift in field cycles taken in the shorter direction; when both are equal the periods lengthen. -/
def State.shorter (s : State) (e : Int) : Int :=
  let p : Int := s.period
  let r := e % p
  if 2 * r ≤ p then r else r - p
/-- R38: the phase offset of an angle, in field cycles. -/
def State.offsetCycles (s : State) (angle : Nat) : Nat := (roundDiv ((angle : Int) * s.period) 3600).toNat
/-- R36, R39: the shift that puts the grid on the Meridian's marks and the phase offset. -/
def State.meridianError (s : State) : Int :=
  s.shorter (roundDiv (4 * ((s.grid.phaseCycles : Int) * 5 / 4 - s.grid.stamp)) 5)
/-- R36: SYNCIN may be a source. -/
def State.syncinUsable (s : State) : Bool := s.grid.syncinValid && s.grid.syncinPlat && s.grid.syncinEnable
/-- R36: the Meridian is locked to PTP. -/
def State.meridianUsable (s : State) : Bool := s.time.locked && s.time.tai
/-- R36, R53: the source of highest priority is selected; a change to free-run does not move the grid. -/
def State.selectSource (s : State) : State :=
  if s.role = .standby then s
  else if s.syncinUsable then s.modGrid (fun g => { g with source := 0 })
  else if s.meridianUsable then
    (if s.grid.source = 1 then s else s.modGrid (fun g => { g with source := 1, slew := s.meridianError }))
  else if s.grid.source = 2 then s
  else s.modGrid (fun g => { g with source := 2, slew := 0 })
/-- R38: a new phase offset is reached by slewing. -/
def State.setPhase (angle : Nat) (s : State) : State :=
  let c := s.offsetCycles angle
  let e := s.shorter (s.grid.slew + c - s.grid.phaseCycles)
  s.modGrid (fun g => { g with phase := angle, phaseCycles := c, slew := e })
/-- R40, R73: SYNCOUT is driven. -/
def State.syncoutDriven (s : State) : Bool := s.drives .syncout
/-- R17: frame and sample that follow the sample in progress. -/
def State.sampleAhead (s : State) (frame sample : Nat) : Nat × Nat :=
  if s.nSamples ≤ sample + 1 then ((frame + 1) % 1024, 0) else (frame % 1024, sample + 1)
/-- R17: the words of the sample after the one in progress are handed to class 1. -/
def State.handOver (frame sample : Nat) (s : State) : State :=
  let next := s.sampleAhead frame sample
  let mine (f : Flit) : Bool := f.tag == next.1 * 64 + next.2
  { s with base := { s.base with
      ahead := s.base.ahead.filter (fun f => !mine f)
      c2f := { s.base.c2f with pending := s.base.c2f.pending ++ s.base.ahead.filter mine } } }
/-- R37: the adjustment of a sample period: towards the slew target, and in SYNCIN mode by the last good SYNCIN period,
which the grid goes on with where no edge comes. -/
def Grid.adjust (lim : Int) (g : Grid) : Int := clampInt (-lim) lim (g.slew + (if g.source = 0 then g.syncinDev else 0))
/-- R36: in Meridian-derived mode every sample is held to its mark. -/
def State.holdMark (s : State) : State := if s.grid.source = 1 then s.modGrid (fun g => { g with slew := s.meridianError }) else s

end Sys2Proof.Machine
end

