-- ==== Sys2Proof/Machine/Limits.lean ====
section
/-! DEFINITION. State of power, budgets, energy, time and warnings (R200 to R208, R214 to R216, R507). -/
namespace Sys2Proof.Machine

/-- The four horizons in s (R200). -/
def State.horizon (s : State) (k : Nat) : F64 :=
  if k = 0 then F64.ofNat 2 else if k = 1 then F64.ofNat 10 else if k = 2 then F64.ofNat 30 else s.parF P.contT 0xFF 0 0
/-- R200: what a cell contributes at a horizon with a current bin: OCV + Vp × e^(−t/τ), and R_t. -/
structure Reach where
  v : F64
  r : F64
  deriving DecidableEq, Repr
/-- R200: OCV_c + Vp_c × e^(−t/τ) and R_t. -/
def State.reachOf (s : State) (leg : Leg) (e : EstCell) (i : Nat) (t : F64) : Reach :=
  let m := s.impOf leg e e.tC i
  let k := expDecay t m.tau
  let qAs := e.cap.mul (dec 36 1)
  { v := (s.ocv leg e.soc e.h e.tC).add (e.vp.mul k)
    r := (m.rs.add (m.rp.mul (F64.one.sub k))).add (((s.slope leg e.soc e.h e.tC).mul t).div qAs) }
/-- R200: the current limit of a cell with a given bin; never negative. -/
def State.binLimit (s : State) (leg : Leg) (e : EstCell) (chg : Bool) (t : F64) (i : Nat) : F64 :=
  let q := s.reachOf leg e i t
  let x := if chg then ((s.parF P.vMaxOp 0xFF 0 4).sub q.v).div q.r else (q.v.sub (s.parF P.vMinOp 0xFF 0 4)).div q.r
  F64.max x F64.zero
/-- R201: a temperature-bracketing full-current bin is EXTRAPOLATED. -/
def State.fullExtrapolated (s : State) (leg : Leg) (e : EstCell) : Bool :=
  let b := s.bracket leg e.tC
  (nth e.bins (b.1 * 3 + 2) Bin.blank).count == 0 || (nth e.bins (b.2.1 * 3 + 2) Bin.blank).count == 0
/-- R201: the limit with the bin chosen for it, and whether EXTRAP_MARGIN applies. -/
def State.voltageLimit (s : State) (leg : Leg) (e : EstCell) (chg : Bool) (t : F64) : F64 × Bool :=
  let c := s.oneC leg
  let full := s.binLimit leg e chg t 2
  if full.lt ((dec 5 1).mul c) then
    let mid := s.binLimit leg e chg t 1
    if mid.lt ((dec 2 1).mul c) then (s.binLimit leg e chg t 0, false) else (mid, false)
  else if s.fullExtrapolated leg e then (full.mul (F64.one.sub (s.parF P.extrapMargin 0xFF 0 3)), true)
  else (full, false)
/-- A factor that goes linearly from 1 at `a` to 0 at `b` (0.1 °C), either way round. -/
def linearFactor (a b t : Int) : F64 :=
  if (a ≤ b ∧ t ≤ a) ∨ (b < a ∧ a ≤ t) then F64.one
  else if (a ≤ b ∧ b ≤ t) ∨ (b < a ∧ t ≤ b) then F64.zero
  else (F64.ofInt (b - t)).div (F64.ofInt (b - a))
/-- R202: k_T at a cell temperature. -/
def State.kT (s : State) (t : Int) : F64 := linearFactor (s.par P.cellThrottle) (s.par P.cellShutdown) t
/-- R202: k_cold at a cell temperature. -/
def State.kCold (s : State) (t : Int) : F64 := linearFactor (s.par P.chgColdFull) (s.par P.cellChgBlock) t

/-- One cell's limit in one direction: A, the cause of R507, EXTRAP_MARGIN, and the cell's key. -/
structure CellLimit where
  i : F64
  cause : Nat
  margin : Bool
  key : Nat
  deriving DecidableEq, Repr
/-- R200 to R203, R507: the limit of a cell at a horizon. -/
def State.cellLimit (s : State) (leg : Leg) (key : Nat) (chg : Bool) (k : Nat) : CellLimit :=
  let e := s.estCell key
  let bad := (s.cell key).invalid
  match e.temp with
  | none => { i := F64.zero, cause := 7, margin := false, key := key }
  | some t =>
    if !e.socSet then { i := F64.zero, cause := 7, margin := false, key := key }
    else
      let v := s.voltageLimit leg e chg (s.horizon k)
      let kt := s.kT t
      let kc := if chg then s.kCold t else F64.one
      let scaled := (v.1.mul kt).mul kc
      let cap := ((s.parF (if chg then P.iChgMaxC else P.iDisMaxC) 0xFF 0 3).mul (s.oneC leg))
      let capped := F64.min scaled cap
      let dis := (s.parF P.disagreeC 0xFF 0 3).mul (s.oneC leg)
      let ended := if chg then e.full else e.empty
      let doubt := bad || (if chg then e.disFull else e.disEmpty)
      let binds := doubt && dis.lt capped
      let x := if ended then F64.zero else if binds then dis else capped
      let cause :=
        if bad then 7 else if ended then 5 else if binds then 6
        else if cap.lt scaled then 2
        else if kt.lt F64.one || kc.lt F64.one then (if kc.lt kt then 4 else 3)
        else 1
      { i := x, cause := cause, margin := v.2, key := key }
/-- The lowest of a list of cell limits, the first on a tie. -/
def lowestLimit : List CellLimit → Option CellLimit
  | [] => none
  | c :: cs => match lowestLimit cs with
    | none => some c
    | some m => if m.i.lt c.i then some m else some c

/-- R204: k_stage of a leg: 0 with an invalid power-stage NTC (R325). -/
def State.kStage (s : State) (leg : Leg) : F64 :=
  let a := s.therm.ntc.toList.getD (2 * leg.val) tInvalid
  let b := s.therm.ntc.toList.getD (2 * leg.val + 1) tInvalid
  if a = tInvalid ∨ b = tInvalid then F64.zero else linearFactor (s.par P.stageThrottle) (s.par P.stageShutdown) (max a b)
/-- R204: k_die, on the hotter junction; shutdown is at 130.0 °C (R326). -/
def State.kDie (s : State) : F64 := linearFactor (s.par P.dieThrottle) 1300 (max s.lat.die[0] s.lat.die[1])
/-- R251: k_ovl of a leg. -/
def State.kOvl (s : State) (leg : Leg) : F64 := dec s.conv[leg.val].kOvl 6
/-- R204: I_RATED × k_stage × k_die × k_ovl, A. -/
def State.legTerm (s : State) (leg : Leg) : F64 :=
  (((s.parF P.iRated leg.val 0 3).mul (s.kStage leg)).mul s.kDie).mul (s.kOvl leg)
/-- R507: the cause of the leg term. -/
def State.legTermCause (s : State) (leg : Leg) : Nat :=
  let a := s.kStage leg
  let b := s.kDie
  let c := s.kOvl leg
  if !(a.lt F64.one) && !(b.lt F64.one) && !(c.lt F64.one) then 8
  else if a.le b && a.le c then 9 else if b.le c then 10 else 11
/-- R204: a leg that has limits: available, enabled, not draining or latched. -/
def State.legLimited (s : State) (leg : Leg) : Bool :=
  let c := s.conv[leg.val]
  s.ring[leg.val].available && c.enabled && !(c.st == .disabled) && !(c.st == .draining) && !(c.st == .fault)
/-- R288: CHARGE_INHIBIT: an input pair of function 3 in demand, or the telegram's bit. -/
def State.pairDemand (s : State) (k : Nat) : Bool :=
  let f := s.parN P.pairFunc 0xFF k
  let low (i : Nat) : Bool := match s.sf.input[i]? with
    | some c => !c.filtered
    | none => false
  f != 0 && (low (2 * k) || low (2 * k + 1))
/-- R288: CHARGE_INHIBIT. -/
def State.chargeInhibit (s : State) : Bool :=
  s.sf.tgChargeInhibit || (List.range 8).any (fun k => s.parN P.pairFunc 0xFF k == 3 &&
    (s.pairDemand k || (match s.sf.pair[k]? with
      | some p => p.latched || p.testFail || p.crossShort || p.discrepancy
      | none => false)))
/-- R288: the inhibit of a direction. -/
def State.inhibited (s : State) (chg : Bool) : Bool := if chg then s.chargeInhibit else s.sf.tgDischargeInhibit

/-- A new leg limit in one direction: mA, the cell that sets the cell-derived limit, the cause, EXTRAP_MARGIN. -/
structure NewLimit where
  i : Int
  cell : Option Nat
  cause : Nat
  margin : Bool
  deriving DecidableEq, Repr
/-- A in mA, rounded as in R5. -/
def toMa (x : F64) : Int := satI32 (x.mul (F64.ofNat 1000)).round
/-- R204, R507: the limit of a leg at a horizon before R207. -/
def State.newLimit (s : State) (leg : Leg) (chg : Bool) (k : Nat) : NewLimit :=
  let cells := (s.legKeys leg).map (fun c => s.cellLimit leg c.2.2 chg k)
  let low := lowestLimit cells
  let term := s.legTerm leg
  let key := low.map (fun c => c.key)
  if s.inhibited chg then { i := 0, cell := key, cause := 14, margin := false }
  else if !s.legLimited leg then { i := 0, cell := key, cause := 13, margin := false }
  else
    match low with
    | none => { i := toMa term, cell := none, cause := s.legTermCause leg, margin := false }
    | some c =>
      if term.lt c.i then { i := toMa term, cell := key, cause := s.legTermCause leg, margin := false }
      else { i := toMa c.i, cell := key, cause := c.cause, margin := c.margin }
/-- R207: a limit takes a lower value at once and rises by at most a step. -/
def riseBy (step old new : Int) : Int := if new ≤ old then new else min new (old + step)
/-- R207: the step of a current limit in one frame, mA: stop slope in A/s over the frame. -/
def State.riseMa (s : State) (ticks : Nat) : Int := roundDiv (s.stopSlope * ticks) 250000
/-- R207: the step of a leg power limit in one frame, W: stop slope × V_leg of the latest round. -/
def State.riseW (s : State) (leg : Leg) (ticks : Nat) : Int := roundDiv (s.stopSlope * s.ring[leg.val].last.v * ticks) 250000000000

/-- R205: V_L of a leg at a limit I, V. -/
def State.limitVoltage (s : State) (leg : Leg) (chg : Bool) (k : Nat) (i : F64) : F64 :=
  let t := s.horizon k
  let sgn (x : F64) : F64 := if chg then x else x.negate
  let b := s.iBin leg i
  let cells := (s.legKeys leg).map (fun c =>
    let q := s.reachOf leg (s.estCell c.2.2) b t
    q.v.add (sgn (i.mul q.r)))
  (F64.sum cells).add (sgn (i.mul (s.parF P.rLink leg.val 0 6)))
/-- R205: the bus-side power of a leg limit, W. -/
def State.limitPower (s : State) (leg : Leg) (chg : Bool) (k : Nat) (mA : Int) : Int :=
  let i := amps mA
  let v := s.limitVoltage leg chg k i
  let eta := s.parF P.eta 0xFF 0 3
  satI32 (if chg then (i.mul v).div eta else (i.mul v).mul eta).round
/-- R205: the confidence a cell brings to SOP_CONF. -/
def State.cellConf (s : State) (leg : Leg) (key : Nat) : Nat :=
  let e := s.estCell key
  min e.socConf (rsConf (s.presentBin leg e s.eleg[leg.val].mean))
/-- A vector of four by index. -/
def four (f : Nat → Int) : Vector Int 4 := #v[f 0, f 1, f 2, f 3]

/-- R200 to R207, R507: the limits of one leg. -/
def State.legLimits (ticks : Nat) (leg : Leg) (s : State) : State :=
  let old := s.llim[leg.val]
  let nd (k : Nat) : NewLimit := s.newLimit leg false k
  let nc (k : Nat) : NewLimit := s.newLimit leg true k
  let step := s.riseMa ticks
  let stepW := s.riseW leg ticks
  let di := four (fun k => riseBy step (old.disI.toList.getD k 0) (nd k).i)
  let ci := four (fun k => riseBy step (old.chgI.toList.getD k 0) (nc k).i)
  let dp := four (fun k => riseBy stepW (old.disP.toList.getD k 0) (s.limitPower leg false k (di.toList.getD k 0)))
  let cp := four (fun k => riseBy stepW (old.chgP.toList.getD k 0) (s.limitPower leg true k (ci.toList.getD k 0)))
  let keys := (List.range 4).filterMap (fun k => (nd k).cell) ++ (List.range 4).filterMap (fun k => (nc k).cell)
  let conf := (keys.map (fun k => s.cellConf leg k)).foldl min 100
  let rising := (List.range 4).any (fun k => decide (di.toList.getD k 0 < (nd k).i) || decide (ci.toList.getD k 0 < (nc k).i))
  { s with llim := vmod s.llim leg (fun l =>
      { l with disI := di, chgI := ci, disP := dp, chgP := cp, conf := if keys.isEmpty then 0 else conf,
               disBy := (nd 3).cause, chgBy := (nc 3).cause, margin := (nd 3).margin || (nc 3).margin, rising := rising }) }
/-- R206: the string limits, and the records of a continuous limit that reaches or leaves 0. -/
def State.stringLimits (ticks : Nat) (s : State) : State :=
  let old := s.slim
  let step : Int := (allLegs.map (fun l => s.riseW l ticks)).sum
  let total (f : LegLimits → Vector Int 4) (k : Nat) (cap : Int) : Int :=
    min cap ((allLegs.map (fun l => (f s.llim[l.val]).toList.getD k 0)).sum)
  let capD := s.par P.stringPDisMax
  let capC := s.par P.stringPChgMax
  let dp := four (fun k => riseBy step (old.disP.toList.getD k 0) (total (fun l => l.disP) k capD))
  let cp := four (fun k => riseBy step (old.chgP.toList.getD k 0) (total (fun l => l.chgP) k capC))
  let confs := (allLegs.filter (fun l => s.ring[l.val].available)).map (fun l => s.llim[l.val].conf)
  let note (i : Nat) (was now : Int) (t : State) : State :=
    if was > 0 ∧ now = 0 then t.form 0x2002 1 68 i now 0 else if was = 0 ∧ now > 0 then t.form 0x2002 2 68 i now 0 else t
  let s := { s with slim := { s.slim with disP := dp, chgP := cp, conf := if confs.isEmpty then 0 else confs.foldl min 100 } }
  note 1 old.chgP[3] cp[3] (note 0 old.disP[3] dp[3] s)

/-- R208: one budget after a frame in RUNNING, µs. -/
def budgetStep (above : Bool) (recovery cap b : Nat) : Nat := if above then b - 1000 else min cap (b + recovery)
/-- R208: the budgets of one direction. -/
def budgets (i recovery : Int) (lim : Vector Int 4) (b : Vector Nat 3) : Vector Nat 3 :=
  #v[budgetStep (decide (lim[1] < i)) recovery.toNat 2000000 b[0],
     budgetStep (decide (lim[2] < i)) recovery.toNat 10000000 b[1],
     budgetStep (decide (lim[3] < i)) recovery.toNat 30000000 b[2]]
/-- R208: the enforced limit of one direction. -/
def enforced (lim : Vector Int 4) (b : Vector Nat 3) : Int :=
  if b[0] > 0 then lim[0] else if b[1] > 0 then lim[1] else if b[2] > 0 then lim[2] else lim[3]
/-- R208: budgets and enforced limits of a leg. -/
def State.enforce (leg : Leg) (s : State) : State :=
  let i := toMa s.eleg[leg.val].mean
  let rec' := s.par P.budgetRecovery
  { s with llim := vmod s.llim leg (fun l =>
      let bd := if s.mode = .running then budgets (-i) rec' l.disI l.budDis else l.budDis
      let bc := if s.mode = .running then budgets i rec' l.chgI l.budChg else l.budChg
      { l with budDis := bd, budChg := bc, enfDis := enforced l.disI bd, enfChg := enforced l.chgI bc }) }
/-- R208: the budgets start full at an entry to RUNNING. -/
def State.fillBudgets (s : State) : State :=
  { s with llim := s.llim.map (fun l => { l with budDis := #v[2000000, 10000000, 30000000], budChg := #v[2000000, 10000000, 30000000] }) }

/-- R214: the available energies of a leg, Wh. -/
def State.legEnergy (s : State) (leg : Leg) : Nat × Nat :=
  match s.legCharge leg with
  | none => (0, 0)
  | some q =>
    let qd := q.1.mul (dec 36 1)
    let qc := q.2.1.mul (dec 36 1)
    let eta := s.parF P.eta 0xFF 0 3
    let two := F64.ofNat 2
    let sum (sgn : F64 → F64) (x : F64) : F64 := F64.sum ((s.legKeys leg).filterMap (fun c =>
      let e := s.estCell c.2.2
      if !(s.cell c.2.2).invalid && e.socSet then
        some (s.ocv leg (e.reported.add (sgn (x.div (two.mul (e.cap.mul (dec 36 1)))))) e.h e.tC)
      else none))
    let d := ((qd.mul (sum F64.negate qd)).mul eta).div (F64.ofNat 3600)
    let c := (qc.mul (sum (fun x => x) qc)).div (eta.mul (F64.ofNat 3600))
    (satU32 d.round, satU32 c.round)
/-- R214: the signed sum of one frame, mW. -/
def State.stringPowerMw (s : State) : Int :=
  let eta := s.par P.eta
  (allLegs.filter (fun l => s.ring[l.val].available)).foldl (fun a l =>
    let p := s.vLegMean l * s.iLegMean l
    a + (if s.iLegMean l < 0 then roundDiv (p * eta) 1000000 else roundDiv p eta)) 0
/-- R214: energy and time. -/
def State.energyTime (s : State) : State :=
  let s := allLegs.foldl (fun t l =>
    let e := t.legEnergy l
    { t with llim := vmod t.llim l (fun x => { x with eDis := e.1, eChg := e.2 }) }) s
  let av := allLegs.filter (fun l => s.ring[l.val].available)
  let eD := (av.map (fun l => s.llim[l.val].eDis)).sum
  let eC := (av.map (fun l => s.llim[l.val].eChg)).sum
  let hist := (s.stringPowerMw :: s.slim.power).take 1000
  let total := hist.sum
  let n : Int := hist.length
  let minP := s.par P.timeMinP * 1000
  let seconds (e : Nat) : Nat := satU32 (roundDiv (e * 3600000 * n) total.natAbs)
  { s with slim := { s.slim with
      eDis := eD, eChg := eC, power := hist
      tte := if total < 0 ∧ minP * n ≤ -total then seconds eD else 0xFFFFFFFF
      ttf := if total > 0 ∧ minP * n ≤ total then seconds eC else 0xFFFFFFFF } }

/-- R216: a warning is raised or cleared. -/
def State.setWarning (k : Nat) (on : Bool) (value : Nat) (s : State) : State :=
  if bitAt s.slim.warn k = on then s
  else
    let s := { s with slim := { s.slim with
      warn := setBit s.slim.warn k on, canDue := true,
      latched := if on then withBit s.slim.latched k else s.slim.latched } }
    s.formEvent 0x2003 (k + (if on then 0 else 256)) 70 noIndex s.stringSoc value
/-- R215: a SOC warning by its raise and clear conditions; unchanged while STRING_SOC is 0xFFFF. -/
def State.socWarning (k : Nat) (raise clear : Bool) (s : State) : State :=
  if s.stringSoc = 0xFFFF then s
  else if raise then s.setWarning k true 0 else if clear then s.setWarning k false 0 else s
/-- R215: a time warning. -/
def State.timeWarning (k t thr run : Nat) (s : State) : State :=
  if thr + s.parN P.timeHyst ≤ t then s.setWarning k false t
  else if t < thr ∧ s.parN P.timeQualify ≤ run then s.setWarning k true t else s
/-- R215, R216: the warnings of a frame, lowest bit first. -/
def State.warnings (s : State) : State :=
  let soc := s.stringSoc
  let p (q : Par) : Nat := s.parN q
  let h := p P.socHyst
  let tr := if s.slim.tte < p P.tteWarn then s.slim.tteRun + 1 else 0
  let fr := if s.slim.ttf < p P.ttfWarn then s.slim.ttfRun + 1 else 0
  let s := { s with slim := { s.slim with tteRun := tr, ttfRun := fr } }
  let s := s.socWarning 0 (decide (soc ≤ p P.socLow1)) (decide (p P.socLow1 + h ≤ soc))
  let s := s.socWarning 1 (decide (soc ≤ p P.socLow2)) (decide (p P.socLow2 + h ≤ soc))
  let s := s.timeWarning 2 s.slim.tte (p P.tteWarn) tr
  let s := s.socWarning 3 (decide (p P.socHigh1 ≤ soc)) (decide (soc + h ≤ p P.socHigh1))
  let s := s.socWarning 4 (decide (p P.socHigh2 ≤ soc)) (decide (soc + h ≤ p P.socHigh2))
  s.timeWarning 5 s.slim.ttf (p P.ttfWarn) fr

end Sys2Proof.Machine
end

