-- ==== Sys2Proof/Machine/Slots.lean ====
section
/-! DEFINITION. The slots of a leg's ring: when the rounds need it (R139, R140, R145, R146, R188, R189), how long a train takes (R117,
R120), and what the module sends when (R117, R120, R133, R138, R146, R161). -/
namespace Sys2Proof.Machine

/-- R74, R137, R145: a leg whose ring is measured: populated, in loop or split mode, and past its staking pass. -/
def State.measurable (s : State) (leg : Leg) : Bool :=
  let r := s.ring[leg.val]
  s.populated leg && decide (r.mode ≤ 1) && r.stakeStep == 0 && s.inStates [.staking, .surveyed, .armed, .running, .stopping, .faultHold]
/-- R188: where the edge of a pair's probe is placed: the start of sample floor(N / 2) of frame F + 2. Rounds of the probe are told
by this stamp. -/
def State.plannedEdge (s : State) (p : Fin 2) : Nat := s.probe[p.val].committedAt + 500000 + s.nSamples / 2 * s.period * 5 / 4
/-- R189: E of a probe pair: its stamp, or before it comes the place R188 gives it. -/
def State.edgeOf (s : State) (p : Fin 2) : Option Nat :=
  let q := s.probe[p.val]
  match q.phase with
  | .idle => none
  | .committed => some (s.plannedEdge p)
  | .running | .observed => some q.edge
/-- R189: the probes whose extra rounds are still to run: the stamp that tells them, and E. -/
def State.probeEdges (s : State) : List (Nat × Nat) :=
  ([0, 1] : List (Fin 2)).filterMap (fun p =>
    if s.probe[p.val].phase = .observed then none else (s.edgeOf p).map (fun e => (s.plannedEdge p, e)))
/-- R191: the natural steps whose rounds are still to run, in the same way. -/
def State.naturalEdges (s : State) : List (Nat × Nat) := allLegs.filterMap (fun l => (s.eleg[l.val].natStep).map (fun z => (z.1, z.1)))
/-- R189, R191: the edges that take extra round i: a natural step's round 0 is a regular one. -/
def State.edgePairs (s : State) (i : Fin 4) : List (Nat × Nat) := s.probeEdges ++ (if i = 0 then [] else s.naturalEdges)
/-- R234: the latch of a sample within its period, in quarter ticks. -/
def State.latchOffset4 (s : State) : Int := 5 * roundDiv ((s.period * s.parN P.phiS 0 : Nat) : Int) 10000
/-- R189: the first sample latch at or after a stamp. -/
def State.latchFrom (s : State) (t : Int) : Int :=
  let first : Int := 4 * (s.grid.stamp : Int) + s.latchOffset4
  let step : Int := 5 * s.period
  let k := (4 * t - first + step - 1) / step
  (first + k * step) / 4
/-- R189: offsets of the extra rounds from E, in ticks. -/
def roundOffset (i : Fin 4) : Int := if i = 0 then -250000 else if i = 1 then 62500 else if i = 2 then 500000 else 5000000
/-- R189: T_P,i. -/
def State.extraAt (s : State) (e : Nat) (i : Fin 4) : Int := s.latchFrom (e + roundOffset i)
/-- R139: PLUMB_SAMPLE of a leg; 0xFF is floor(N / 2). -/
def State.plumbSample (s : State) (leg : Leg) : Nat :=
  let p := s.parN P.plumbSample leg.val
  if p = 255 then s.nSamples / 2 else p
/-- R139: T_P of the frame j frames after the present one. -/
def State.plumbAt (s : State) (leg : Leg) (j : Nat) : Int :=
  s.time.frameStamp + 250000 * j + ((s.plumbSample leg * s.period * 5 : Nat) + s.latchOffset4) / 4
/-- R139: the frame j frames after the present one carries a regular round of a leg. -/
def State.regularFrame (s : State) (leg : Leg) (j : Nat) : Bool := (s.time.frame + j) % 2 ^ 32 % max 1 (s.parN P.roundMs leg.val) == 0
/-- R145: from the QUIET preamble to T_P: 376 µs. -/
def quietLead : Int := 94000

/-- R117: path time of a leg's frames from an end, in ticks: LOOP_TIME in loop mode; in split mode the round trip to the reflecting
station; 100 µs until it has been measured. -/
def State.pathTicks (s : State) (leg : Leg) (fromB : Bool) : Nat :=
  let r := s.ring[leg.val]
  let far := if fromB then s.stations leg + 1 - r.reachB else r.reachA
  if r.mode = 0 then (if r.loopTime = 0 then 25000 else (r.loopTime + 3) / 4)
  else match distAt (r.dist fromB) far with
    | some d => if r.mode = 1 then ((2 * d + 5000).toNat + 31) / 32 else 25000
    | none => 25000
/-- R114, R120: bytes of the records expected of a frame. -/
def State.expectedBytes (s : State) (leg : Leg) (fromB : Bool) (cmd stake : Nat) (payload : List Byte) : Nat :=
  let f : Flight := { cmd := cmd, stake := stake, seq := 0, payload := payload, records := [], turnedAt := none, reached := 0, next := 0, retries := 0 }
  (s.expectedFrom leg f fromB).length * (5 + recordLen cmd payload)
/-- R117: the return timeout of a frame, in ticks from its frame mark. -/
def State.returnTicks (s : State) (leg : Leg) (fromB : Bool) (cmd stake : Nat) (payload : List Byte) : Nat :=
  s.pathTicks leg fromB + byteTicks * s.expectedBytes leg fromB cmd stake payload + 250 * s.parN (P.returnMargin leg.val)
/-- R146: ticks from T_P to the return of a round's READ_CELLS train, for the slowest leg and end. -/
def State.readTicks (s : State) : Nat :=
  ((allLegs.filter (fun l => s.measurable l)).flatMap (fun l => (s.endsInUse l).map (fun b =>
    62500 + byteTicks * 10 + s.returnTicks l b 0x11 0 [0]))).foldl max 0
/-- R146: the sequence of a regular round at T_P overlaps one of an extra round: from the QUIET preamble to the return of the
reads, which rounds 0 to 2 share after round 2 (R189). Those of the edge `but` are left out. -/
def State.overlapsExtra (s : State) (tp : Int) (but : Option Nat := none) : Bool :=
  let read : Int := s.readTicks
  ([0, 1, 2, 3] : List (Fin 4)).any (fun i => (s.edgePairs i).any (fun e =>
    let x := s.extraAt e.2 i
    let len := if i.val < 2 then 0 else if i = 2 then 3 * read else read
    !(i == 0 && tp == x) && some e.2 != but && decide (tp - quietLead < x + len) && decide (x - quietLead < tp + read)))
/-- R146: the next QUIET preamble on a leg, of a regular or an extra round. -/
def State.nextQuiet (s : State) (leg : Leg) (now : Int) : Option Int :=
  let ahead (tp : Int) : Option Int := if now ≤ tp - quietLead then some (tp - quietLead) else none
  let regular := ((List.range 66).filter (fun j => s.regularFrame leg j)).filterMap (fun j =>
    if s.overlapsExtra (s.plumbAt leg j) then none else ahead (s.plumbAt leg j))
  let extra := ([0, 1, 2, 3] : List (Fin 4)).flatMap (fun i => (s.edgePairs i).filterMap (fun e => ahead (s.extraAt e.2 i)))
  if s.measurable leg then listMin? (regular ++ extra) else none
/-- R191: the ring of a leg can start a QUIET at a stamp: what is under way on it, and the reads of rounds already begun, are over
by then. -/
def State.ringReady (s : State) (leg : Leg) (quiet : Int) : Bool :=
  let r := s.ring[leg.val]
  r.unread.all (fun u => u.out.isEmpty || decide ((u.tp : Int) + s.readTicks + 500 ≤ quiet)) &&
  (s.endsInUse leg).all (fun b => match r.flight[(endIx b).val] with
    | some f => decide ((f.sentAt : Int) + s.returnTicks leg b f.cmd f.stake f.payload + 500 ≤ quiet)
    | none => true)
/-- R145: the commands of a round's sequence. -/
def roundCmd (cmd : Nat) : Bool := cmd == 0x21 || cmd == 0x10 || cmd == 0x11
/-- R160, R162: how long the test that a frame starts runs, in ticks. -/
def testTicks (cmd : Nat) (p : List Byte) : Nat :=
  if cmd = 0x30 then (if fieldAt 0 4 p = 0 then 0 else 375000 * ((List.range 17).filter (fun w => bitAt (fieldAt 0 4 p) w)).length + 125000)
  else if cmd = 0x31 then (if fieldAt 0 2 p = 0 then 0 else 1250000) else 0
/-- R146, R161: a frame with its mark at a stamp leaves the next round its ring: its expected return falls at least 2 µs before the
next QUIET preamble, and a test it starts ends at least 400 µs before the quiet window, whose beginning follows that preamble by
25.375 µs. -/
def State.leavesRound (s : State) (leg : Leg) (fromB : Bool) (cmd stake : Nat) (payload : List Byte) (mark : Nat) : Bool :=
  match s.nextQuiet leg mark with
  | none => true
  | some q =>
    decide ((mark : Int) + s.returnTicks leg fromB cmd stake payload + 500 ≤ q) &&
    (testTicks cmd payload == 0 || decide ((mark : Int) + testTicks cmd payload + 100000 ≤ q + 6343))
/-- R136: the module may send from an end: an end that is served; a standby only from its own, at the active unit's request. -/
def State.mayServe (s : State) (x : RingTx) (cmd : Nat) (payload : List Byte) : Bool :=
  if s.role = .active then s.endServed x.fromB
  else s.role == .standby && x.fromB == s.ownEnd &&
    s.ring[x.leg.val].due.any (fun d => d.fromB == x.fromB && d.cmd == cmd && d.stake == x.stake && d.payload == payload)
/-- R62, R73, R133, R138: the ring of a leg is worked: populated, driven, with a Baseline, and past the wait of split mode. -/
def State.ringWorks (s : State) (leg : Leg) : Bool :=
  s.populated leg && s.drives .ring && !s.start.lastGasp && !s.base.coreLost && !s.base.fieldLost && !s.ring[leg.val].splitWait
/-- R49, R146, R154: no other frame of the end comes first: those of a round, and one that takes the first ring slot. -/
def State.slotFree (s : State) (x : RingTx) (cmd : Nat) : Bool :=
  roundCmd cmd || !s.ring[x.leg.val].due.any (fun d => d.fromB == x.fromB && d.cmd != cmd && (roundCmd d.cmd || d.first))
/-- R112, R117, R120, R146: the module sends a frame: its fields are valid (TURN only to one station), its end is free, its train
fits 1,200 bytes and leaves the next round its ring. -/
def State.mayLaunch (x : RingTx) (cmd : Nat) (payload : List Byte) (s : State) : Bool :=
  let mark := s.ring[x.leg.val].markOf (endIx x.fromB) cmd payload.length s.time.meridian
  s.ringWorks x.leg && s.mayServe x cmd payload && s.ring[x.leg.val].flight[(endIx x.fromB).val].isNone &&
  stakeFieldOk cmd x.stake && payloadOk cmd x.stake payload && !(cmd == 0x03 && x.stake == 0 && payload == [1]) &&
  decide (9 + payload.length + s.expectedBytes x.leg x.fromB cmd x.stake payload ≤ 1200) && s.slotFree x cmd &&
  (roundCmd cmd || s.leavesRound x.leg x.fromB cmd x.stake payload mark)
/-- R117, R136: a frame goes out where the module may send it; in a twin, from the other unit's end, at the active unit's request. -/
def State.launch (x : RingTx) (cmd : Nat) (payload : List Byte) (s : State) : State :=
  if !s.mayLaunch x cmd payload then s
  else if s.twinMember && x.fromB != s.ownEnd then (s.sendFrame x cmd payload).twinSend 4 (.launch x.leg cmd x.stake payload)
  else s.sendFrame x cmd payload

end Sys2Proof.Machine
end

