-- ==== Sys2Proof/Machine/Measure.lean ====
section
/-! DEFINITION. Commands of cell measurement and balancing (R139 to R146, R149 to R154, R158, R161, R164) and of charge
counting (R175, R177, R183). -/
namespace Sys2Proof.Machine

/-- R133, R140: a stake is reached from an end. -/
def State.reaches (s : State) (leg : Leg) (fromB : Bool) (k : Nat) : Bool :=
  let r := s.ring[leg.val]
  let n := s.stations leg
  decide (1 ≤ k) && decide (k ≤ n) &&
  (r.mode == 0 || (if fromB then decide (n < k + r.reachB) else decide (k ≤ r.reachA)))
/-- R140: D_far in 1/8 ns, over every reachable station, leg and end in use. -/
def State.dFar (s : State) : Int :=
  ((allLegs.filter (fun l => s.measurable l)).flatMap (fun l =>
    (s.endsInUse l).flatMap (fun b =>
      (List.range 24).filterMap (fun k => if s.reaches l b (k + 1) then distAt (s.ring[l.val].dist b) (k + 1) else none)))).foldl max 0
/-- R140: the plumb lead L in ns: the smallest multiple of 5 µs at or above D_far + 2 µs. -/
def State.plumbLead (s : State) : Nat := (s.dFar.toNat + 16000 + 39999) / 40000 * 5000
/-- R140: WAIT of a stake, in units of 10 ns, for T_P − T_M in ns. -/
def State.waitOf (s : State) (leg : Leg) (fromB : Bool) (ahead k : Nat) : Nat :=
  if s.reaches leg fromB k then
    match distAt (s.ring[leg.val].dist fromB) k with
    | some d => (roundDiv (8 * ahead - d) 80).toNat
    | none => 0
  else 0

/-- R145: the frames of one round from one end. -/
def State.planRound (leg : Leg) (fromB : Bool) (round tp ahead : Nat) (s : State) : State :=
  let waits := (List.range 24).flatMap (fun k => leBytes 2 (s.waitOf leg fromB ahead (k + 1)))
  let s := s.plan leg fromB 0x21 0 (leBytes 2 0 ++ leBytes 2 41)
  s.plan leg fromB 0x10 0 (leBytes 1 round ++ [0] ++ leBytes 4 tp ++ waits)
/-- R145, R189: the reads that follow a round: at once, or for rounds 0 to 2 of a probe after round 2. -/
def State.planReads (leg : Leg) (fromB : Bool) (kind : RoundKind) (edge : Option Nat) (round : Nat) (s : State) : State :=
  match kind.probe with
  | some 0 | some 1 => s
  | some 2 =>
    let waiting := (s.ring[leg.val].unread.filter (fun u => u.probe.isSome && u.edge == edge && u.out.contains fromB)).map (fun u => u.round)
    (waiting ++ [round]).foldl (fun t r => t.plan leg fromB 0x11 0 (leBytes 1 r)) s
  | _ => s.plan leg fromB 0x11 0 (leBytes 1 round)
/-- R146: rounds of a leg sent and unread. -/
def Ring.unreadCount (r : Ring) : Nat := (r.unread.filter (fun u => !u.out.isEmpty)).length
/-- R139 to R146: a voltage round of a leg. `phase` is the distance of the half-bit clock edge below T_P − L, in ns. -/
def State.startRound (kind : RoundKind) (edge : Option Nat) (tp lead : Nat) (phase : Bool → Nat) (leg : Leg) (s : State) : State :=
  let r := s.ring[leg.val]
  if r.unreadCount ≥ 4 then s
  else
    let round := (r.round + 1) % 256
    let ends := s.endsInUse leg
    let s := ends.foldl (fun t b =>
      (t.planRound leg b round tp (lead + min (phase b) 124)).planReads leg b kind edge round) s
    let info : RoundInfo :=
      { round := round, regular := kind.regular, tp := tp, v := 0, i := 0, acc := 0, n := 0, probe := kind.probe.map Fin.val, edge := edge
        out := ends, left := ends }
    s.modRing leg (fun r => { r with round := round, unread := r.unread ++ [info] })
/-- R189: the probe or natural step whose round i has a T_P: the first sample latch at or after E + offset_i. -/
def State.edgeFor (s : State) (i : Fin 4) (tp : Nat) : Option Nat :=
  let t4 : Int := 5 * s.period
  ((s.edgePairs i).find? (fun e =>
    decide ((e.2 : Int) + roundOffset i ≤ tp) && decide (800 * ((tp : Int) - e.2 - roundOffset i) < 201 * t4))).map Prod.fst
/-- R139, R168: a T_P is the latch of PLUMB_SAMPLE in a frame, this or the next, whose number is a multiple of the leg's ROUND_MS; the
grid may have moved by as much as its periods are adjusted in a frame. -/
def State.regularAt (s : State) (leg : Leg) (tp : Nat) : Bool :=
  ([0, 1] : List Nat).any (fun j => s.regularFrame leg j && decide (((tp : Int) - s.plumbAt leg j).natAbs ≤ 1250 * (j + 1)))
/-- R139, R145, R146, R189: a round, extra on every leg, regular on those whose turn it is. A regular round is omitted where it would
overlap an extra one, but serves as round 0 of a probe whose T_P,0 it shares; none makes a fifth unread one. -/
def execVoltageRound (kind : RoundKind) (tp : Nat) (phase : List Nat) (s : State) : Host.Outcome State Fault Refusal :=
  let edge := kind.probe.bind (fun i => s.edgeFor i tp)
  let legs := allLegs.filter (fun l => s.measurable l && (!kind.regular || s.regularAt l tp))
  let due := if kind.probe.isSome then edge.isSome else kind.regular && !s.overlapsExtra tp
  .next (if due then legs.foldl (fun t l => t.startRound kind edge tp s.plumbLead (fun b => nth phase (2 * l.val + b2n b) 0) l) s else s)

/-- R142: a value interpolated linearly between two outputs, rounded as in R5. -/
def interpolate (a b : Int) (num den : Nat) : Int := a + roundDiv ((b - a) * num) den
/-- R142, R175: the field die's capture at T_P of one leg, kept with its rounds. -/
def State.capture (tp : Nat) (c : PlumbCap) (leg : Leg) (s : State) : State :=
  let g := s.eleg[leg.val]
  let v := interpolate c.v0 c.v1 c.num c.den
  let i := interpolate c.i0 c.i1 c.num c.den
  let acc := (g.acc + c.dAcc) % (2 ^ 64 : Int)
  let n := (g.n + c.dN) % 2 ^ 64
  let third := s.ring[leg.val].unread.any (fun u => u.tp == tp && u.probe == some 3 && u.edge == some (s.plannedEdge (pairOf leg)))
  let s := match s.ring[leg.val].unread.find? (fun u => u.tp == tp && u.regular) with
    | some u => s.modEleg leg (fun g => if g.natStep.isNone then { g with natRound0 := some (u.round, tp, s.conv[leg.val].share) } else g)
    | none => s
  let s := s.modRing leg (fun r => { r with unread := r.unread.map (fun u =>
    if u.tp = tp ∧ !u.captured then
      { u with v := v, i := i, acc := acc, n := n, captured := true, mark := s.time.frameStamp, accMark := g.acc, nMark := g.n }
    else u) })
  if third then s.modProbe (pairOf leg) (fun q => if q.phase = .running then { q with third := true, phase := .observed } else q) else s
/-- R142, R175: the captures of T_P. -/
def execPlumbCapture (tp : Nat) (caps : List PlumbCap) (s : State) : Host.Outcome State Fault Refusal :=
  .next (allLegs.foldl (fun t l => match caps[l.val]? with
    | some c => t.capture tp c l
    | none => t) s)

/-- R158: CLOSURE_FAIL has persisted for CLOSURE_HOLD: the leg drains and is latched with cause 8. -/
def execClosureHoldExpiry (leg : Leg) (s : State) : Host.Outcome State Fault Refusal :=
  if !s.diag[leg.val].closureFail || s.diag[leg.val].holdExpired then .next s
  else .next ((s.modDiag leg (fun d => { d with holdExpired := true })).startDrain leg (.fault 8))
/-- R161: a confirmed line is tested again every 60 s. -/
def execOpenWireRetest (leg : Leg) (stake line : Nat) (s : State) : Host.Outcome State Fault Refusal :=
  if !bitAt (s.sdiagAt leg stake).openWires line then .next s else .next (s.planWires leg stake (2 ^ line))
/-- R163, R164: the next switch test of a leg: the odd, then the even cells of one station after another; or, as the
hourly retest of R163, the failed cells of a station, the odd before the even ones. -/
def execBalSwitchTestSchedule (leg : Leg) (retest : Option Nat) (s : State) : Host.Outcome State Fault Refusal :=
  if !s.measurable leg || !(s.mode == .surveyed || s.mode == .armed || s.mode == .running) then .next s
  else
    match retest with
    | some k =>
      let failed := (List.range 16).foldl (fun m i =>
        if s.populatedCell leg k (i + 1) && (s.cell (cellIndex leg k (i + 1))).switchFail then withBit m i else m) 0
      let odd := failed &&& 0x5555
      let even := failed &&& 0xAAAA
      .next (if failed = 0 then s
        else if odd = 0 then s.planSwitches leg k even
        else (s.modStation leg k (fun d => { d with swThen := even })).planSwitches leg k odd)
    | none =>
      let d := s.diag[leg.val]
      let k := d.swNext
      let mask := s.cellMask leg k &&& (if d.swEven then 0xAAAA else 0x5555)
      let s := s.planSwitches leg k mask
      .next (s.modDiag leg (fun d =>
        { d with swEven := !d.swEven, swNext := if d.swEven then (if k ≥ s.stations leg then 1 else k + 1) else k }))

/-- R143, R149: the slow round of a leg: temperatures, housekeeping, and the delay of one stake for each end in use. -/
def State.slowRound (leg : Leg) (s : State) : State :=
  let k := s.ring[leg.val].hopNext
  let s := (s.endsInUse leg).foldl (fun t b =>
    let t := (t.plan leg b 0x12 0 []).plan leg b 0x13 0 []
    if t.reaches leg b k then (List.range 4).foldl (fun u _ => u.plan leg b 0x03 k [1]) t else t) s
  let ends := s.endsInUse leg
  (s.modRing leg (fun r => { r with hopNext := if k ≥ s.stations leg then 1 else k + 1 })).modDiag leg (fun d =>
    { d with tempsLeft := ends, hkLeft := ends, hkPassed := true, hkWhole := true })
/-- R149: the slow round of every leg. -/
def execTempSlowRound (s : State) : Host.Outcome State Fault Refusal :=
  .next ((allLegs.filter (fun l => s.measurable l)).foldl (fun t l => t.slowRound l) s)
/-- R150: stakes on the fast list of a leg. -/
def State.fastList (s : State) (leg : Leg) : List Nat :=
  ((List.range (s.stations leg)).map (· + 1)).filter (fun k => (s.sdiagAt leg k).fast)
/-- R150: the fast lists are read: one by one, or with STAKE 0 where more than 4 stations are listed. -/
def execFastListRound (s : State) : Host.Outcome State Fault Refusal :=
  .next ((allLegs.filter (fun l => s.measurable l)).foldl (fun t l =>
    let ks := t.fastList l
    (t.endsInUse l).foldl (fun u b =>
      if ks.isEmpty then u
      else if ks.length ≤ 4 then (ks.filter (fun k => u.reaches l b k)).foldl (fun w k => w.plan l b 0x12 k []) u
      else u.plan l b 0x12 0 []) t) s)
/-- R150: a station leaves the fast list, every temperature beyond the margin. -/
def execFastListLeave (leg : Leg) (stake : Nat) (s : State) : Host.Outcome State Fault Refusal :=
  if (s.validTemps leg stake).any (fun t => s.nearThreshold leg t) then .next s
  else .next (s.modStation leg stake (fun d => { d with fast := false }))
/-- R149: a temperature has not been refreshed for 2,500 ms. -/
def execTempStaleTimeout (index : Nat) (s : State) : Host.Outcome State Fault Refusal :=
  .next { s with temps := modKey {} index (fun p => { p with t := tInvalid }) s.temps }

/-- R154: the phase of a leg has lasted 4,000 frames, or balancing starts. -/
def State.phaseOver (s : State) (leg : Leg) : Bool := match s.diag[leg.val].phaseAt with
  | none => true
  | some f => decide (4000 ≤ (s.time.frame + 2 ^ 32 - f) % 2 ^ 32)
/-- R153, R154: the balancing phase of one leg. Its BALANCE_SET takes the first ring slot. -/
def State.balancePhase (leg : Leg) (s : State) : State :=
  let d := s.diag[leg.val]
  if !s.mayBalance leg then s.stopBalancing leg
  else if d.draining || !s.phaseOver leg then s
  else
    let odd := if d.balancing then d.oddNext else true
    let plan := s.planActive leg
    let masks := (List.range 24).flatMap (fun k => leBytes 2 (s.stationMask leg odd plan (k + 1)))
    let s := plan.foldl (fun t p => t.modCell (cellIndex leg p.1 p.2.1) (fun c => { c with active := p.2.2.1 })) s
    (s.modDiag leg (fun d => { d with balancing := true, oddNext := !odd, phaseAt := some s.time.frame })).planFirst leg 0x20 (leBytes 2 45 ++ masks)
/-- R152 to R154: a balancing phase begins. -/
def execBalancePhaseBoundary (s : State) : Host.Outcome State Fault Refusal :=
  .next (allLegs.foldl (fun t l => t.balancePhase l) s)

/-- R177: PWMEN_Ln has stayed low long enough, in a state that calibrates. -/
def State.mayCalibrate (s : State) (leg : Leg) : Bool :=
  !s.conv[leg.val].pwmen &&
  ((s.mode == .staking && !s.start.offsetsDone[leg.val]) ||
   ((s.mode == .surveyed || s.mode == .armed || s.mode == .running) && s.eleg[leg.val].calNeeded))
/-- R177: the calibration of a leg's offset begins. -/
def execOffsetCalibrationStart (leg : Leg) (s : State) : Host.Outcome State Fault Refusal :=
  if s.mayCalibrate leg then .next (s.modEleg leg (fun g => { g with calRunning := true })) else .next s
/-- R177, R178: a changed OFFSET widens the SOC of every cell by the change × the time since the last calibration. -/
def State.widenSoc (leg : Leg) (change : F64) (ticks : Nat) (s : State) : State :=
  s.mapLeg leg (fun _ _ e => { e with sSoc := e.sSoc.add ((change.mul (ticksF ticks)).div e.qFull) })
/-- R177, R231: a calibration ends with the sum and number of its count-filter outputs and the mean codes of the phase
channels and of MD17. -/
def execOffsetCalibrationComplete (leg : Leg) (sum : Int) (n : Nat) (means : List (Nat × Int)) (s : State) : Host.Outcome State Fault Refusal :=
  let g := s.eleg[leg.val]
  if !g.calRunning || n = 0 then .next s
  else
    let off := (F64.ofInt sum).div (F64.ofNat n)
    let change := (off.sub g.offset).abs.mul (s.countScale leg)
    let limit := s.par P.offsetLimit
    let big := g.offsetKnown && (F64.ofInt limit).lt change
    let s := if big then
        (s.widenSoc leg change (s.time.meridian - g.calAt)).form 0x2001 1 (64 + leg.val) noIndex ((off.sub g.offset).mul (s.countScale leg)).round limit
      else s
    let s := s.modEleg leg (fun g =>
      { g with offsetDue := some (off, s.time.frame), calAt := s.time.meridian, offsetKnown := true, calNeeded := false, calRunning := false })
    let mine := means.filter (fun m => m.1 == 4 * leg.val || m.1 == 4 * leg.val + 1 || m.1 == 17)
    .next { s with
      start := { s.start with offsetsDone := vmod s.start.offsetsDone leg (fun _ => true) }
      mdOffsetDue := s.mdOffsetDue ++ mine.map (fun m => (m.1, m.2, s.time.frame)) }
/-- R183: |I| has stayed below REST_C for REST_MIN: true rest begins, and its rest anchors are due. -/
def execRestTimerExpiry (leg : Leg) (s : State) : Host.Outcome State Fault Refusal :=
  if (s.eleg[leg.val].mean.abs).lt ((s.parF P.restC 0xFF 0 3).mul (s.oneC leg)) && !s.eleg[leg.val].rest then
    .next (s.modEleg leg (fun g => { g with rest := true, restDue := true }))
  else .next s

end Sys2Proof.Machine
end

