-- ==== Sys2Proof/Machine/Probe.lean ====
section
/-! DEFINITION. Probe steps and natural steps: commitment (R186 to R188), edges (R189), and the extraction of
impedance (R192 to R195). -/
namespace Sys2Proof.Machine

/-- Both legs of a pair, in order. -/
def pairLegs (p : Fin 2) : List Leg := [pairA p, pairB p]
/-- The other pair. -/
def otherPair (p : Fin 2) : Fin 2 := if p = 0 then 1 else 0

/-- R187: the magnitude of ΔI_a, mA. -/
def State.probeStep (s : State) (p : Fin 2) : Int :=
  max (roundDiv (s.par P.probeDi * s.par P.iRated (pairA p).val) 10000) (s.par P.probeDiMin)
/-- R187: the steps of both legs for a sign of leg a. -/
def State.probeSteps (s : State) (p : Fin 2) (plus : Bool) : Vector Int 2 :=
  let a := if plus then s.probeStep p else -(s.probeStep p)
  #v[a, -(roundDiv (a * s.ring[(pairA p).val].last.v) s.ring[(pairB p).val].last.v)]
/-- R186: |I + ΔI| lies within I_RATED and the continuous limits. -/
def State.stepFits (s : State) (leg : Leg) (d : Int) : Bool :=
  let x := s.iLegMean leg + d
  let l := s.llim[leg.val]
  decide ((x.natAbs : Int) ≤ s.par P.iRated leg.val) && (if x < 0 then decide (-x ≤ l.disI[3]) else decide (x ≤ l.chgI[3]))
/-- R186: the conditions on one leg but the step's. -/
def State.probeLegOk (s : State) (leg : Leg) : Bool :=
  let c := s.conv[leg.val]
  s.ring[leg.val].available && c.enabled && c.st == .running && !c.ovlDerate
/-- R186, R187: the steps a due pair is committed with, where every condition holds. -/
def State.probeCommitment (s : State) (p : Fin 2) : Option (Vector Int 2) :=
  let ok := s.mode == .running && bitAt s.probeEnable p.val && (pairLegs p).all (fun l => s.probeLegOk l) && !s.str.wdHold &&
    s.sf.stopCat == 0 && allLegs.all (fun l => s.eleg[l.val].natStep.isNone)
  let fits (d : Vector Int 2) : Bool := s.stepFits (pairA p) d[0] && s.stepFits (pairB p) d[1]
  let plus := s.probe[p.val].executed % 2 == 0
  if !ok then none
  else if fits (s.probeSteps p plus) then some (s.probeSteps p plus)
  else if fits (s.probeSteps p (!plus)) then some (s.probeSteps p (!plus))
  else none
/-- R186: the stamp at which a pair became due, or becomes due PROBE_PERIOD after its last probe ended. -/
def State.dueStamp (s : State) (p : Fin 2) : Nat :=
  let q := s.probe[p.val]
  if q.due then q.dueAt else q.endedAt + s.parN P.probePeriod * ticksPerSecond
/-- R186: a pair that has become due, or will become due, within PROBE_JOIN after the commitment of the other joins its edge, while
the words that carry the edge are still to be written (log 279). -/
def State.joins (s : State) (p : Fin 2) : Bool :=
  let o := s.probe[(otherPair p).val]
  o.phase == .committed && decide ((s.time.frame + 2 ^ 32 - o.frame) % 2 ^ 32 ≤ 1) &&
  decide (s.dueStamp p ≤ o.committedAt + s.parN P.probeJoin * 250000)
/-- R186, R188: a due pair is committed, and one that joins the other's edge. The rounds of a new observation are awaited. -/
def State.commitPair (p : Fin 2) (s : State) : State :=
  let q := s.probe[p.val]
  if q.phase != .idle || !(q.due || s.joins p) then s
  else
    match s.probeCommitment p with
    | none => s
    | some d =>
      let o := s.probe[(otherPair p).val]
      let joins := s.joins p
      let s := (pairLegs p).foldl (fun t l => (t.modEleg l (fun e => { e with probeI := [] })).mapLeg l (fun _ _ e => { e with probes := [] })) s
      s.modProbe p (fun q =>
        { q with
          eligible := true, phase := .committed, dI := d, applied := true, spoilt := none, third := false
          frame := if joins then o.frame else s.time.frame
          committedAt := if joins then o.committedAt else s.time.frameStamp
          request := #v[s.conv[(pairA p).val].share, s.conv[(pairB p).val].share] })
/-- R186, R197: the pairs are checked in W3; either may join the edge of the other. -/
def State.commitProbes (s : State) : State :=
  let blank (q : ProbePair) : ProbePair := { q with eligible := false }
  ((((s.modProbe 0 blank).modProbe 1 blank).commitPair 0).commitPair 1).commitPair 0

/-- R186: PROBE_PERIOD has passed since the pair's last probe ended or was cancelled. -/
def execProbeDue (pair : Fin 2) (s : State) : Host.Outcome State Fault Refusal :=
  if s.probe[pair.val].phase = .idle ∧ !s.probe[pair.val].due then
    .next (s.modProbe pair (fun q => { q with due := true, dueAt := s.time.meridian }))
  else .next s
/-- R188, R189: the leading edge E of a committed pair. -/
def execProbeLeadingEdge (pair : Fin 2) (s : State) : Host.Outcome State Fault Refusal :=
  if s.probe[pair.val].phase ≠ .committed then .next s
  else
    let s := s.modProbe pair (fun q => { q with phase := .running, edge := s.time.meridian, executed := incSat q.executed })
    .next ((pairLegs pair).foldl (fun t l => t.modConv l (fun c => { c with probeOffset := true })) s)
/-- R189: the trailing edge: the offsets end, the weights are released and the pair's period restarts. An observation
whose T_P,3 was never captured misses a round. -/
def execProbeTrailingEdge (pair : Fin 2) (s : State) : Host.Outcome State Fault Refusal :=
  let q := s.probe[pair.val]
  if q.phase = .running ∨ q.phase = .observed then
    let s := if q.phase = .running ∧ q.spoilt.isNone then s.probeResult pair 5 else s
    let s := (pairLegs pair).foldl (fun t l => t.modConv l (fun c => { c with probeOffset := false })) s
    .next (s.modProbe pair (fun q =>
      { q with phase := .idle, due := false, applied := false, draining := false, endedAt := if q.applied then s.time.meridian else q.endedAt }))
  else .next s

/-- What the extraction needs of a leg: E, the commanded step in mA, and per round i: t_i in s and I_i in A. -/
structure Observation where
  edge : Nat
  t : List F64
  i : List F64
  deriving DecidableEq, Repr
/-- t_i of R192 in s. -/
def sinceEdge (tp edge : Nat) : F64 := (F64.ofInt ((tp : Int) - edge)).div (F64.ofNat ticksPerSecond)
/-- R194: the leg checks over the four rounds (T_P, current in mA, read whole): 0, or LAST_RESULT. -/
def legChecks (rounds : List (Nat × Int × Bool)) (step : Int) : Nat :=
  match rounds with
  | [a, b, c, d] =>
    let i (r : Nat × Int × Bool) : Int := r.2.1 - a.2.1
    if !(a.2.2 && b.2.2 && c.2.2 && d.2.2) then 5
    else if 10 * (i b).natAbs < 8 * step.natAbs ∨ 20 * (i c - i b).natAbs > (i b).natAbs ∨ 20 * (i d - i b).natAbs > (i b).natAbs then 6
    else 0
  | _ => 5
/-- e^(−t/τ). -/
def decayAt (t tau : F64) : F64 := expDecay t tau
/-- R193: f(τ). -/
def ratioOf (t1 t2 t3 tau : F64) : F64 :=
  ((decayAt t1 tau).sub (decayAt t2 tau)).div ((decayAt t1 tau).sub (decayAt t3 tau))
/-- R193: n bisection steps on ln τ. -/
def bisectTau (f : F64 → F64) (rho : F64) : Nat → F64 → F64 → F64
  | 0, lo, hi => Config.exp ((lo.add hi).div (F64.ofNat 2))
  | n + 1, lo, hi =>
    let m := (lo.add hi).div (F64.ofNat 2)
    if rho.lt (f (Config.exp m)) then bisectTau f rho n m hi else bisectTau f rho n lo m
/-- R192: z_i of a cell for round i. -/
def State.stepImpedance (s : State) (leg : Leg) (e : EstCell) (o : Observation) (v : List F64) (vp0 : F64) (k : Nat) : F64 :=
  let at' (xs : List F64) (j : Nat) : F64 := nth xs j F64.zero
  let i0 := at' o.i 0
  let dt := (at' o.t k).sub (at' o.t 0)
  let m := s.impOf leg e e.tC (s.iBin leg i0)
  let count := (((s.slope leg e.soc e.h e.tC).mul i0).mul dt).div (e.cap.mul (dec 36 1))
  let base := count.add ((advanceVp vp0 i0 m.rp dt m.tau).sub vp0)
  (((at' v k).sub (at' v 0)).sub base).div ((at' o.i k).sub i0)
/-- R178, R179: an observation of an impedance is combined, unless its σ lies above 50 % of the present value, which
discards it; whether it was. -/
def combineImp (x sx y sy : F64) : F64 × F64 × Bool :=
  if (x.mul (dec 5 1)).lt sy then (x, sx, false)
  else
    let r := combine x sx y sy
    (r.1, r.2, true)
/-- R172, R193 to R195: the extraction of one cell that had a temperature T_c at T_P,0: its bins after it, where every cell check
passes. -/
def State.extractCell (s : State) (leg : Leg) (o : Observation) (reads : List ProbeRead) (e : EstCell) : EstCell :=
  match reads with
  | [r0, r1, r2, r3] =>
    match r0.temp with
    | none => e
    | some tc =>
    if !(r0.fresh && r1.fresh && r2.fresh && r3.fresh) then e
    else
      let at' (xs : List F64) (j : Nat) : F64 := nth xs j F64.zero
      let v := [r0.v, r1.v, r2.v, r3.v]
      let z (k : Nat) : F64 := s.stepImpedance leg e o v r0.vp k
      let z1 := z 1
      let a := (z 2).sub z1
      let b := (z 3).sub z1
      let rho := a.div b
      let f := ratioOf (at' o.t 1) (at' o.t 2) (at' o.t 3)
      let lo := s.parF P.tauMin 0xFF 0 6
      let hi := s.parF P.tauMax 0xFF 0 6
      if !((f hi).lt rho && rho.lt (f lo)) then e
      else
        let tau := bisectTau f rho 32 (Config.ln lo) (Config.ln hi)
        let d1 := decayAt (at' o.t 1) tau
        let rp := b.div (d1.sub (decayAt (at' o.t 3) tau))
        let rs := z1.sub (rp.mul (F64.one.sub d1))
        if !(F64.zero.lt rs && F64.zero.lt rp) then e
        else
          let cp := tau.div rp
          let i0 := at' o.i 0
          let sz := ((s.parF P.readNoise 0xFF 0 6).mul (F64.ofNat 2).sqrt).div ((at' o.i 1).sub i0).abs
          let sp := (F64.ofNat 2).mul sz
          let k := s.tBin leg tc * 3 + s.iBin leg ((i0.abs.add (at' o.i 3).abs).div (F64.ofNat 2))
          let bins := updAt e.bins k (fun x =>
            let nrs := combineImp x.rs x.sRs rs sz
            let nrp := combineImp x.rp x.sRp rp sp
            let ncp := combineImp x.cp x.sCp cp ((cp.mul sp).div rp)
            { rs := nrs.1, rp := nrp.1, cp := ncp.1, sRs := nrs.2.1, sRp := nrp.2.1, sCp := ncp.2.1,
              count := if nrs.2.2 || nrp.2.2 || ncp.2.2 then min (x.count + 1) 32767 else x.count })
          { e with bins := s.deriveBins leg bins }
  | _ => e
/-- The readings of a cell for rounds 0 to 3. -/
def readsOf (ps : List ProbeRead) : List ProbeRead := (List.range 4).filterMap (fun i => ps.find? (fun r => r.index == i))
/-- R192 to R195: the extraction of one leg from its four rounds. -/
def State.extractLeg (leg : Leg) (natural : Bool) (edge : Nat) (step : Int) (rounds : List (Nat × Int × Bool))
    (reads : Nat → EstCell → List ProbeRead) (s : State) : State :=
  match legChecks rounds step with
  | 0 =>
    let o : Observation := { edge := edge, t := rounds.map (fun r => sinceEdge r.1 edge), i := rounds.map (fun r => amps r.2.1) }
    let s := (s.legKeys leg).foldl (fun t k => t.modEst k.2.2 (fun e => t.extractCell leg o (reads k.2.2 e) e)) s
    s.modEleg leg (fun g => { g with lastResult := 1, natural := natural, probeStamp := edge, accepted := incSat g.accepted })
  | code + 1 => s.modEleg leg (fun g => { g with lastResult := code + 1, natural := natural, discarded := incSat g.discarded })
/-- The rounds of a probe as read: T_P, current in mA, every station read. -/
def probeRounds (g : EstLeg) : List (Nat × Int × Bool) :=
  (List.range 4).filterMap (fun i => (g.probeI.find? (fun r => r.1 == i)).map Prod.snd)
/-- No round of an observation of a leg is still unread. -/
def State.probeRead (s : State) (leg : Leg) (edge : Nat) : Bool := s.ring[leg.val].unread.all (fun u => u.edge != some edge)
/-- R169, R192: what a sealed round says of one cell of a leg, as a reading of an observation. -/
def State.readOf (s : State) (leg : Leg) (index round : Nat) (p : Nat × Nat) : Nat × ProbeRead :=
  let k := cellIndex leg p.1 p.2
  let c := s.cell k
  let e := s.estCell k
  let a := e.atTp.find? (fun a => a.round == round)
  (k, { index := index, v := F64.ofRatio c.v 10000, fresh := c.fresh
        vp := match a with
          | some a => a.vp
          | none => e.vp
        temp := match a with
          | some a => a.temp
          | none => e.temp })
/-- R191: a regular round is, or may become, the round 0 of a natural step. -/
def EstLeg.mayServe (g : EstLeg) (round : Nat) : Bool :=
  g.natStep.isNone || (match g.natRound0 with
    | some z => z.1 == round
    | none => false)
/-- R189, R191: a round belongs to the observation of a leg: to its pair's probe, or to its own natural step. -/
def State.observes (s : State) (leg : Leg) (u : RoundInfo) : Bool :=
  u.edge.isSome && (u.edge == some (s.plannedEdge (pairOf leg)) || u.edge == (s.eleg[leg.val].natStep).map Prod.fst)
/-- R191, R192: the readings of a sealed round that belongs to an observation of the leg, or may be the round 0 of one. -/
def State.keepReads (leg : Leg) (u : RoundInfo) (s : State) : State :=
  let s := match u.probe with
    | some i =>
      if !s.observes leg u then s
      else
        let s := (s.legCells leg).foldl (fun t p =>
          let r := t.readOf leg i u.round p
          t.modEst r.1 (fun e => { e with probes := e.probes.filter (fun q => q.index != i) ++ [r.2] })) s
        s.modEleg leg (fun g => { g with probeI := g.probeI.filter (fun q => q.1 != i) ++ [(i, u.tp, u.i, u.whole)] })
    | none => s
  if u.regular && s.eleg[leg.val].mayServe u.round then
    let reads := (s.legCells leg).map (fun p => s.readOf leg 0 u.round p)
    s.modEleg leg (fun g => { g with natReads := reads, natI := u.i, natWhole := u.whole })
  else s
/-- R189: the extraction of a pair in the first W2 after round 3 is sealed. -/
def State.extractPair (p : Fin 2) (s : State) : State :=
  let q := s.probe[p.val]
  if !q.third || !(pairLegs p).all (fun l => s.probeRead l (s.plannedEdge p)) then s
  else
    let s := s.modProbe p (fun q => { q with third := false, spoilt := none })
    if q.spoilt.isSome then s
    else
      let one (leg : Leg) (d : Int) (t : State) : State :=
        t.extractLeg leg false q.edge d (probeRounds t.eleg[leg.val]) (fun _ e => readsOf e.probes)
      one (pairB p) q.dI[1] (one (pairA p) q.dI[0] s)
/-- R191: the extraction of a natural step, with the regular round that serves as round 0. -/
def State.extractNatural (leg : Leg) (s : State) : State :=
  let g := s.eleg[leg.val]
  match g.natStep with
  | none => s
  | some (edge, step) =>
    if s.time.frameStamp < edge + 5000000 ∨ !s.probeRead leg edge then s
    else
      let s := s.modEleg leg (fun g => { g with natStep := none, natSpoilt := false })
      if g.natSpoilt then s.modEleg leg (fun g => { g with lastResult := 3, natural := true, discarded := incSat g.discarded })
      else
        let zero := match g.natRound0 with
          | some z => [(z.2.1, g.natI, g.natWhole)]
          | none => []
        let rounds := zero ++ (probeRounds g).drop (if (g.probeI.any (fun r => r.1 == 0)) then 1 else 0)
        let reads (k : Nat) (e : EstCell) : List ProbeRead :=
          (g.natReads.filter (fun r => r.1 == k)).map Prod.snd ++ (readsOf e.probes).filter (fun r => r.index != 0)
        s.extractLeg leg true edge step rounds reads
/-- R189, R191: the extractions of a W2. -/
def State.extractAll (s : State) : State :=
  allLegs.foldl (fun t l => t.extractNatural l) ((s.extractPair 0).extractPair 1)

end Sys2Proof.Machine
end

