-- ==== Sys2Proof/Machine/Steer.lean ====
section
/-! DEFINITION. The string level: dispatch and its watchdog (R242 to R244), leg steering (R240), the division of the
request (R241), the words of the next frame (R17, R237, R238, R243), and natural steps (R191). -/
namespace Sys2Proof.Machine

/-- R240: a leg that can take a request. -/
def State.canTake (s : State) (leg : Leg) : Bool :=
  let c := s.conv[leg.val]
  s.ring[leg.val].available && c.enabled && (c.st == .softStart || c.st == .running)
/-- The legs that can take a request. -/
def State.takers (s : State) : List Leg := allLegs.filter (fun l => s.canTake l)
/-- The mean of a list, 0 of an empty one. -/
def meanF (xs : List F64) : F64 := if xs.isEmpty then F64.zero else (F64.sum xs).div (F64.ofNat xs.length)
/-- R240: the hottest valid cell temperature of a leg, 0.1 °C. -/
def State.hottest (s : State) (leg : Leg) : Option Int :=
  listMax? ((s.legKeys leg).filterMap (fun k => (s.estCell k.2.2).temp))
/-- R240: R_n, the sum of the present-bin Rs of a leg's cells. -/
def State.legRs (s : State) (leg : Leg) : F64 :=
  F64.sum ((s.legKeys leg).map (fun k =>
    let e := s.estCell k.2.2
    (s.presentBin leg e s.eleg[leg.val].mean).rs))
/-- R240: f_SOC; 1 for a request of 0 or an unknown SOC. -/
def State.fSoc (s : State) (leg : Leg) : F64 :=
  let known := s.takers.filter (fun l => s.eleg[l.val].soc != 0xFFFF)
  let soc (l : Leg) : F64 := dec s.eleg[l.val].soc 4
  if s.str.request = 0 ∨ s.eleg[leg.val].soc = 0xFFFF then F64.one
  else
    let x := (s.parF P.kSoc 0xFF 0 3).mul ((soc leg).sub (meanF (known.map soc)))
    F64.max F64.zero (if s.str.request < 0 then F64.one.add x else F64.one.sub x)
/-- R240: f_T; 1 where a temperature is missing. -/
def State.fTemp (s : State) (leg : Leg) : F64 :=
  match s.hottest leg, listMin? (s.takers.filterMap (fun l => s.hottest l)) with
  | some t, some m => F64.max F64.zero (F64.one.sub ((s.parF P.kTemp 0xFF 0 3).mul (dec (t - m) 1)))
  | _, _ => F64.one
/-- R240: f_R. -/
def State.fImp (s : State) (leg : Leg) : F64 :=
  let m := meanF (s.takers.map (fun l => s.legRs l))
  if m.le F64.zero then F64.one
  else F64.max F64.zero (F64.one.sub ((s.parF P.kImp 0xFF 0 3).mul (((s.legRs leg).div m).sub F64.one)))
/-- R240: the raw weight. -/
def State.rawWeight (s : State) (leg : Leg) : F64 :=
  if !s.canTake leg then F64.zero else ((s.fSoc leg).mul (s.fTemp leg)).mul (s.fImp leg)
/-- R240: the target weight. -/
def State.targetWeight (s : State) (leg : Leg) : F64 :=
  let fixed (l : Leg) : Int := s.par P.fixedWeights 0xFF l.val
  let useFixed := allLegs.any (fun l => fixed l != 0)
  let raw (l : Leg) : F64 := if useFixed then (if s.canTake l then F64.ofInt (fixed l) else F64.zero) else s.rawWeight l
  let sum := F64.sum (allLegs.map raw)
  if !s.canTake leg then F64.zero
  else if sum.le F64.zero then F64.one.div (F64.ofNat s.takers.length)
  else (raw leg).div sum
/-- R188: the weights of a leg are frozen from commitment to the trailing edge. -/
def State.frozenWeight (s : State) (leg : Leg) : Bool := s.probe[(pairOf leg).val].phase != .idle
/-- R240: the applied weights move towards their targets and are renormalised to sum to 1; frozen ones stay. -/
def State.steer (s : State) : State :=
  let slew := s.parF P.steerSlew 0xFF 0 4
  let moved (l : Leg) : F64 :=
    let w := s.conv[l.val].weight
    if s.frozenWeight l then w else w.add (F64.clamp slew.negate slew ((s.targetWeight l).sub w))
  let frozen := F64.sum ((allLegs.filter (fun l => s.frozenWeight l)).map moved)
  let free := F64.sum ((allLegs.filter (fun l => !s.frozenWeight l)).map moved)
  allLegs.foldl (fun t l => t.modConv l (fun c =>
    { c with weight := if s.frozenWeight l ∨ free.le F64.zero then moved l else (moved l).mul ((F64.one.sub frozen).div free) })) s

/-- R241: the bus-side limit of a leg in the direction of a request, mA, from the frame means. -/
def State.busLimit (s : State) (leg : Leg) (chg : Bool) : Int :=
  let vl := s.vLegMean leg
  let vb := s.vBusMean
  let eta := s.par P.eta
  if vb ≤ 0 then 0
  else if chg then roundDiv (s.llim[leg.val].enfChg * vl * 1000) (vb * eta)
  else roundDiv (s.llim[leg.val].enfDis * vl * eta) (vb * 1000)
/-- Shares by leg. -/
abbrev Shares := List (Leg × Int)
/-- R241: one pass: the shares of the free legs. -/
def splitOnce (w : Leg → F64) (remaining : Int) (free : List Leg) : Shares :=
  let sum := F64.sum (free.map w)
  free.map (fun l => (l, if sum.le F64.zero then roundDiv remaining free.length
    else (((F64.ofInt remaining).mul (w l)).div sum).round))
/-- R241: the loop, at most n passes: the shares, and the legs still free. -/
def splitLoop (w : Leg → F64) (lim : Leg → Int) (sgn : Int) : Nat → Int → List Leg → Shares → Shares × List Leg
  | 0, _, free, done => (done, free)
  | n + 1, remaining, free, done =>
    if free.isEmpty then (done, [])
    else
      let a := splitOnce w remaining free
      let beyond := a.filter (fun p => decide ((p.2.natAbs : Int) > lim p.1))
      if beyond.isEmpty then (done ++ a, free)
      else
        let clamped := beyond.map (fun p => (p.1, sgn * lim p.1))
        splitLoop w lim sgn n (remaining - (clamped.map Prod.snd).sum) (free.filter (fun l => !beyond.any (fun p => p.1 == l)))
          (done ++ clamped)
/-- The leg with the largest weight, the lowest index on a tie. -/
def heaviest (w : Leg → F64) : List Leg → Option Leg
  | [] => none
  | l :: ls => match heaviest w ls with
    | none => some l
    | some m => if (w l).lt (w m) then some m else some l
/-- R241: the division of a request among the legs that can take it: shares by leg, and LIMITED. -/
def divide (w : Leg → F64) (lim : Leg → Int) (takers : List Leg) (request : Int) : Shares × Bool :=
  let r := splitLoop w lim request.sign 5 request takers []
  let rest := request - (r.1.map Prod.snd).sum
  match (if rest = 0 then none else heaviest w r.2) with
  | none => (r.1, decide (rest ≠ 0))
  | some l =>
    let a := r.1.map (fun p => if p.1 = l then (l, clampInt (-(lim l)) (lim l) (p.2 + rest)) else p)
    (a, decide ((a.map Prod.snd).sum ≠ request))
/-- The share of a leg, 0 where it has none. -/
def shareOf (a : Shares) (leg : Leg) : Int := match a.find? (fun p => p.1 == leg) with
  | some p => p.2
  | none => 0

/-- R238: the string current of the present reference, mA: the power at the frame mean of V_bus, and the follow term. -/
def State.requestOf (s : State) (x : Int) : Int :=
  let vb := s.vBusMean
  let g := s.par P.followG
  let base := if s.str.kind = 0 then roundDiv x 1000
    else if s.str.kind = 1 then (if vb ≤ 0 then 0 else roundDiv (x * 1000) vb) else 0
  base + (if g = 0 ∨ s.str.kind > 1 then 0 else roundDiv (g * (vb - s.par P.followVref)) 1000)
/-- R241: the shares of a reference. -/
def State.sharesOf (s : State) (x : Int) : Shares × Bool :=
  let i := s.requestOf x
  divide (fun l => s.conv[l.val].weight) (fun l => s.busLimit l (decide (0 ≤ i))) s.takers i
/-- R241: W3 takes the request of the present reference and its division. -/
def State.takeRequest (s : State) : State := { s with str := { s.str with request := s.requestOf s.str.x } }

/-- R237, R188: the bus-side probe offset of a leg in a sample that begins at a stamp (in quarter ticks), mA. -/
def State.offsetAt (s : State) (leg : Leg) (at4 : Int) : Int :=
  let q := s.probe[(pairOf leg).val]
  let t4 : Int := s.period * 5
  match s.edgeOf (pairOf leg), q.applied with
  | some e, true =>
    let d := if leg.val % 2 = 0 then q.dI[0] else q.dI[1]
    let e4 : Int := 4 * e
    let len4 := s.par P.probeLen * 1000000
    if e4 - t4 - t4 / 2 < at4 ∧ at4 < e4 + len4 - 2 * t4 + t4 / 2 then roundDiv (d * s.ring[leg.val].last.v) s.vBusMean else 0
  | _, _ => 0
/-- R243: the step of X in one sample, in its holding unit. -/
def State.xStep (s : State) : Int := roundDiv (s.str.rate * (s.period * 5 : Nat)) (10 ^ 9)
/-- R243: the references of n samples from the present one. -/
def ramp (step target : Int) : Nat → Int → List Int
  | 0, _ => []
  | n + 1, x =>
    let y := moveTo x target step
    y :: ramp step target n y
/-- R237: the word of one leg for one sample. -/
def State.wordFor (s : State) (leg : Leg) (x share offset : Int) : SetPoint :=
  { iSet := share + offset, iOff := offset
    vRef := if s.str.running = 1 then roundDiv x 1000 else 0
    w := (s.conv[leg.val].weight.mul (F64.ofNat 10000)).round.toNat
    limPos := roundDiv (s.busLimit leg true) 2, limNeg := roundDiv (s.busLimit leg false) 2 }
/-- The class 1 flit of a word (R20, R21). -/
def wordFlit (leg : Leg) (frame sample : Nat) (sp : SetPoint) : Flit :=
  { cls := 1, typ := leg.val, seq := 0, ack := 0, nak := false, tag := frame % 1024 * 64 + sample, payload := .setPoint leg frame sample sp }

/-- R191: a natural step among the requests of a leg for the samples of the next frame: the sample after the last one
of a change complete within m samples, and the change in mA. -/
def naturalStep (m : Nat) (before : Int) (xs : List Int) : Option (Nat × Int) :=
  let all := before :: xs
  let changes := (List.range xs.length).filter (fun k => nth all (k + 1) 0 != nth all k 0)
  match changes.head?, changes.getLast? with
  | some a, some b => if b < a + m then some (b + 1, nth all (b + 1) 0 - nth all a 0) else none
  | _, _ => none
/-- A bus-side current of a leg on its leg side, at the frame mean of V_bus (R237). -/
def State.legSide (s : State) (leg : Leg) (i : Int) : Int := roundDiv (i * s.vBusMean) s.ring[leg.val].last.v
/-- R191: natural steps in the words just written; `start` is the stamp of sample 0 of their frame. Round 1's QUIET must find every
ring free. -/
def State.detectNatural (leg : Leg) (start : Nat) (before : Int) (xs : List Int) (s : State) : State :=
  let m := max 1 (200000 / (s.period * 5))
  match naturalStep m before xs with
  | none => s
  | some (k, d) =>
    let e := start + k * s.period * 5 / 4
    let di := s.legSide leg d
    let yield' (r : Int) : Bool := decide (s.par P.probeYield * di.natAbs < 100 * (s.legSide leg r).natAbs)
    let first := s.extraAt e 1
    let free := !s.overlapsExtra first (some e) && (allLegs.filter (fun l => s.measurable l)).all (fun l => s.ringReady l (first - quietLead))
    let ok := s.natEnable && s.str.running == 0 && s.probe[(pairOf leg).val].phase == .idle && s.eleg[leg.val].natStep.isNone && free &&
      decide (s.par P.natStepMin * s.par P.iRated leg.val ≤ 10000 * di.natAbs) &&
      (match s.eleg[leg.val].natRound0 with
       | some z => decide (e ≤ z.2.1 + 2000000) && !yield' (before - z.2.2)
       | none => false)
    if ok then
      (s.modEleg leg (fun g => { g with natStep := some (e, di), natRequest := nth xs (k - 1) 0, natSpoilt := false, probeI := [] })).mapLeg leg
        (fun _ _ c => { c with probes := [] })
    else s
/-- R190, R191: a change of a leg's request ends a probe or a natural-step observation on it: of the latter, one before T_P,3 from the
request its step led to. `start` is the stamp of sample 0 of the words' frame. -/
def State.requestChange (leg : Leg) (start : Nat) (xs : List Int) (s : State) : State :=
  let far (r d : Int) : Bool := decide (s.par P.probeYield * d.natAbs < 100 * (s.legSide leg r).natAbs)
  let q := s.probe[(pairOf leg).val]
  let i := leg.val % 2
  let d := if i = 0 then q.dI[0] else q.dI[1]
  let r0 := if i = 0 then q.request[0] else q.request[1]
  let s := if (q.phase = .committed ∨ q.phase = .running) ∧ xs.any (fun x => far (x - r0) d) then s.yieldPair (pairOf leg) .request else s
  match s.eleg[leg.val].natStep with
  | some (e, step) =>
    if xs.zipIdx.any (fun x => far (x.1 - s.eleg[leg.val].natRequest) step &&
        decide (((start + x.2 * s.period * 5 / 4 : Nat) : Int) < s.extraAt e 3)) then
      s.modEleg leg (fun g => { g with natStep := none, natSpoilt := false, lastResult := 4, natural := true, discarded := incSat g.discarded })
    else s
  | none => s
/-- R17, R237 to R243: the set-points and limit sets of the next frame. Each is handed to class 1 one sample ahead; the first,
where its turn has come. -/
def State.writeWords (s : State) : State :=
  if !(s.mode == .armed || s.mode == .running) || s.str.kind > 2 then s
  else
    let n := s.nSamples
    let start := s.time.frameStamp + 250000
    let xs := ramp s.xStep s.str.xt n s.str.x
    let plans := xs.map (fun x => (x, s.sharesOf x))
    let takers := s.takers
    let reqs (l : Leg) : List Int := plans.map (fun p => shareOf p.2.1 l)
    let s := takers.foldl (fun t l => t.requestChange l start (reqs l)) s
    let s := takers.foldl (fun t l => t.detectNatural l start t.conv[l.val].share (reqs l)) s
    let words := (plans.zipIdx).flatMap (fun p => allLegs.map (fun l =>
      let off := if s.canTake l then s.offsetAt l (4 * start + p.2 * (s.period * 5)) else 0
      wordFlit l (s.time.frame + 1) p.2 (s.wordFor l p.1.1 (shareOf p.1.2.1 l) off)))
    let last := plans.getLast?
    let s := allLegs.foldl (fun t l => t.modConv l (fun c =>
      { c with share := (reqs l).getLastD 0, plannedFor := if takers.contains l then some (s.time.frame + 1) else c.plannedFor })) s
    let s := { s with
      str := { s.str with x := xs.getLastD s.str.x, limited := plans.any (fun p => p.2.2)
                          request := match last with
                            | some p => s.requestOf p.1
                            | none => s.str.request }
      base := { s.base with ahead := s.base.ahead.filter (fun (f : Flit) => decide (f.tag / 64 = s.time.frame % 1024)) ++ words } }
    s.handOver s.time.frame s.grid.sample

/-- R245, R50, R328: a leg is enabled by a dispatch. One that a stage trip holds without a latch waits for the release. -/
def State.enableLeg (leg : Leg) (s : State) : State :=
  let c := s.conv[leg.val]
  if s.ring[leg.val].available ∧ c.st = .fault ∧ s.therm.restart[leg.val] then s.modConv leg (fun c => { c with enabled := true, enableRefused := false })
  else if !s.ring[leg.val].available || c.st == .fault then s.modConv leg (fun c => { c with enableRefused := true })
  else if c.st = .draining then s.modConv leg (fun c => { c with heldEnable := true, enableRefused := false })
  else s.modConv leg (fun c => { c with enabled := true, enableRefused := false, st := if c.st = .disabled then .waitBus else c.st })
/-- R253: a leg is disabled by a dispatch. -/
def State.disableLeg (leg : Leg) (s : State) : State :=
  let s := s.modConv leg (fun c => { c with enabled := false, heldEnable := false, enableRefused := false })
  if s.conv[leg.val].st = .disabled ∨ s.conv[leg.val].st = .fault then s else s.startDrain leg .disabled
/-- R71: ARMED becomes RUNNING when a dispatch enables a leg; the budgets start full (R208). -/
def State.enterRunning (s : State) : State :=
  if s.mode = .armed ∧ allLegs.any (fun l => s.conv[l.val].enabled) then { s.fillBudgets with mode := .running } else s
/-- The legs of a mask enabled, the others disabled. -/
def State.applyMask (mask : Nat) (s : State) : State :=
  let s := allLegs.foldl (fun t l => if !t.populated l then t else if bitAt mask l.val then t.enableLeg l else t.disableLeg l) s
  s.enterRunning
/-- R243: X in the unit of a new target kind, the current unchanged. -/
def State.convertX (s : State) (kind : Nat) : Int :=
  let vb := s.vBusMean
  if s.str.kind = kind then s.str.x
  else if s.str.kind = 0 ∧ kind = 1 then roundDiv (s.str.x * vb) 1000000
  else if s.str.kind = 1 ∧ kind = 0 then (if vb ≤ 0 then 0 else roundDiv (s.str.x * 1000000) vb)
  else 0
/-- R243: a target in the holding unit. -/
def holding (target : Int) : Int := target * 1000
/-- R242: the rate of a dispatch per second in the holding unit; 0 selects the plat's. -/
def State.rateFor (s : State) (kind rate : Nat) : Nat :=
  if kind = 0 then (if rate = 0 then s.parN P.rateI else rate) * 1000000
  else if kind = 1 then (if rate = 0 then s.parN P.rateP else rate) * 1000
  else (if rate = 0 then s.parN P.rateV else rate) * 1000000
/-- R243, R244: a target takes the reference over, and the watchdog is refreshed. -/
def State.retarget (kind : Nat) (target : Int) (rate : Nat) (s : State) : State :=
  let cleared := s.str.wdHold
  let s := { s with str := { s.str with
    x := s.convertX kind, kind := kind, xt := holding target, rate := s.rateFor kind rate, wdHold := false, wdExpired := false } }
  if cleared then s.form 0x3002 3 42 noIndex target 0 else s
/-- R242: the status of a dispatch: 0, or why it is rejected. -/
def State.dispatchStatus (s : State) (mode kind : Nat) (target : Int) : Nat :=
  let change := mode != s.str.running
  if !(s.mode == .armed || s.mode == .running || (s.mode == .surveyed && change)) then 0x04
  else if mode > 1 ∨ kind > 2 ∨ (mode = 0 ∧ kind = 2) ∨ (mode = 1 ∧ kind ≠ 2) then 0x08
  else if kind = 2 ∧ (target < s.par P.vSetMin ∨ s.par P.vSetMax < target) then 0x03
  else if kind = 0 ∧ s.par P.strIFs < target.natAbs then 0x03
  else if kind = 1 ∧ (target < -(s.par P.stringPDisMax) ∨ s.par P.stringPChgMax < target) then 0x03
  else 0
/-- R239, step 2: the engines take the new mode's bank, and its legs start again. -/
def State.finishModeChange (m : ModeChange) (s : State) : State :=
  let s := { s with str := { s.str with modeChange := none, mode := m.mode, running := m.mode, kind := 3, x := 0 } }
  let s := (s.selectBanks m.mode).retarget m.kind m.target m.rate
  if s.mode = .armed ∨ s.mode = .running then s.applyMask m.mask else s
/-- R242 to R245, R239: an accepted dispatch. -/
def State.dispatch (mode mask kind : Nat) (target : Int) (rate : Nat) (s : State) : State :=
  let s := { s with str := { s.str with mask := mask } }
  if mode ≠ s.str.running ∨ s.str.modeChange.isSome then
    let first := s.str.modeChange.isNone
    let s := { s with str := { s.str with modeChange := some { mode := mode, mask := mask, kind := kind, target := target, rate := rate }
                                          mode := mode, wdHold := false, wdExpired := false } }
    if first then allLegs.foldl (fun t l => if t.conv[l.val].enabled then t.disableLeg l else t) s else s
  else
    let s := { s with str := { s.str with mode := mode } }
    (s.retarget kind target rate).applyMask mask

/-- R239: the legs have stopped: the bank switch at a sample boundary, and the start in the new mode. -/
def execModeChangeBankSwitch (s : State) : Host.Outcome State Fault Refusal :=
  match s.str.modeChange with
  | none => .next s
  | some m => if allLegs.any (fun l => s.conv[l.val].st.live) then .next s else .next (s.finishModeChange m)
/-- R244: no dispatch has been accepted for DISPATCH_TIMEOUT. -/
def execDispatchWatchdogExpiry (s : State) : Host.Outcome State Fault Refusal :=
  if s.str.kind = 3 ∨ s.str.wdHold ∨ !(s.mode == .armed || s.mode == .running) then .next s
  else .next ({ s with str := { s.str with wdHold := true } }.form 0x3002 1 42 noIndex (roundDiv s.str.xt 1000) 0)
/-- R244: WD_HOLD has lasted WD_HOLD: in bus-following mode the target becomes zero at the bus-side stop slope. -/
def execWdHoldExpiry (s : State) : Host.Outcome State Fault Refusal :=
  if !s.str.wdHold || s.str.wdExpired || s.str.running ≠ 0 then .next s
  else
    let vb := s.vBusMean
    let slope : Int := (s.takers.map (fun l => if vb ≤ 0 then s.stopSlope * 1000000 else roundDiv (s.stopSlope * 1000000 * s.vLegMean l) vb)).sum
    let rate := if s.str.kind = 1 then roundDiv (slope * vb) 1000000 else slope
    .next ({ s with str := { s.str with wdExpired := true, xt := 0, rate := rate.toNat } }.form 0x3002 2 42 noIndex (roundDiv s.str.xt 1000) 0)

end Sys2Proof.Machine
end

