-- ==== Sys2Proof/Machine/Heat.lean ====
section
/-! DEFINITION. Thermal management (R324 to R334): NTC conversion, thresholds, hardware shutdowns, valve loops, fans. -/
namespace Sys2Proof.Machine

/-- R325: a code of an NTC that is neither short nor open. -/
def ntcValid (code : Nat) : Bool := decide (40 < code) && decide (code < 4055)
/-- R325: the temperature of a code, 0.1 °C. -/
def State.ntcTemp (s : State) (code : Nat) : Int :=
  let pull := F64.ofInt (s.par P.ntcPullup)
  let r := (pull.mul (F64.ofNat code)).div (F64.ofInt (4095 - code))
  let inv := (F64.one.div (F64.ofRatio 29815 100)).add ((Config.ln (r.div (F64.ofInt (s.par P.ntcR25)))).div (F64.ofInt (s.par P.ntcBeta)))
  satI16 (((F64.one.div inv).sub (F64.ofRatio 27315 100)).mul (F64.ofNat 10)).round
/-- R325, R328: the code, unrounded, at a temperature in 0.1 °C. -/
def State.ntcCode (s : State) (t : Int) : F64 :=
  let tk := (F64.ofRatio t 10).add (F64.ofRatio 27315 100)
  let x := ((F64.one.div tk).sub (F64.one.div (F64.ofRatio 29815 100))).mul (F64.ofInt (s.par P.ntcBeta))
  let r := (F64.ofInt (s.par P.ntcR25)).mul (Config.exp x)
  ((F64.ofNat 4095).mul r).div (r.add (F64.ofInt (s.par P.ntcPullup)))
/-- The smallest integer not below x. -/
def ceilF (x : F64) : Int := -(x.negate.floor)
/-- R328: the comparator codes, written at LOAD and locked. -/
def State.lockComparators (s : State) : State :=
  let c := (s.ntcCode (s.par P.stageShutdown)).round.toNat
  let r := (ceilF (s.ntcCode (s.par P.stageRestart))).toNat
  { s with therm := { s.therm with tripCode := Vector.replicate 8 c, relCode := Vector.replicate 8 r } }
/-- R325: the temperatures of a frame's NTC means; a channel in fault reads 0x8000, as does a mean for which R or its logarithm does
not exist (log 281). -/
def State.takeNtc (s : State) : State :=
  { s with therm := { s.therm with ntc := Vector.ofFn (fun (i : Fin 12) =>
      if s.therm.ntcFault[i.val] ∨ s.lat.ntc[i.val] = 0 ∨ 4095 ≤ s.lat.ntc[i.val] then tInvalid else s.ntcTemp s.lat.ntc[i.val]) } }
/-- R325: a short or open code over 100 conversions. -/
def execNtcFault (ch : Fin 12) (code : Nat) (s : State) : Host.Outcome State Fault Refusal :=
  if ntcValid code || s.therm.ntcFault[ch.val] then .next s
  else
    .next ({ s with therm := { s.therm with ntcFault := vmod s.therm.ntcFault ch (fun _ => true), ntc := vmod s.therm.ntc ch (fun _ => tInvalid) } }.form
      0x5001 6 122 ch.val tInvalid 0)
/-- R325: 100 consecutive valid conversions. -/
def execNtcFaultClear (ch : Fin 12) (s : State) : Host.Outcome State Fault Refusal :=
  .next { s with therm := { s.therm with ntcFault := vmod s.therm.ntcFault ch (fun _ => false) } }

/-- R172, R326: the valid cell temperatures of a leg, 0.1 °C. -/
def State.cellTemps (s : State) (leg : Leg) : List Int := (s.legCells leg).filterMap (fun p => (s.cellTemp leg p.1 p.2).1)
/-- The valid cell temperatures over the legs of a mask. -/
def State.cellTempsOf (s : State) (mask : Nat) : List Int :=
  (allLegs.filter (fun l => bitAt mask l.val && s.populated l)).flatMap (fun l => s.cellTemps l)
/-- Valid NTC temperatures of some channels. -/
def State.ntcsOf (s : State) (chs : List Nat) : List Int :=
  chs.filterMap (fun c => let t := s.therm.ntc.toList.getD c tInvalid
    if t = tInvalid then none else some t)
/-- R326: a warning with a hysteresis; none keeps it. `high` warnings rise. -/
def warnNext (was : Bool) (high : Bool) (thr hyst : Int) (v : Option Int) : Bool :=
  match v with
  | none => was
  | some t =>
    if high then (if thr ≤ t then true else if t ≤ thr - hyst then false else was)
    else (if t ≤ thr then true else if thr + hyst ≤ t then false else was)
/-- R327: a raise or a clear: record, host event and the thermal message of the status set. -/
def State.warnNote (was now : Bool) (idx : Nat) (v : Option Int) (thr : Int) (s : State) : State :=
  if was = now then s
  else { s with therm := { s.therm with canDue := true } }.formEvent 0x5001 (if now then 1 else 2) 122 idx (v.getD tInvalid) thr
/-- The leg whose cells hold an extreme. -/
def State.legWith (s : State) (t : Option Int) : Nat :=
  match t with
  | none => noIndex
  | some x => match allLegs.find? (fun l => (s.cellTemps l).contains x) with
    | some l => l.val
    | none => noIndex
/-- The ambient channel that holds the hottest value. -/
def State.ambientAt (s : State) (t : Option Int) : Nat :=
  match t with
  | none => noIndex
  | some x => (([8, 9, 10, 11] : List Nat).find? (fun c => s.therm.ntc.toList.getD c tInvalid == x)).getD noIndex
/-- R326, R327: the thermal thresholds of a frame. -/
def State.thermalThresholds (s : State) : State :=
  if s.inStates [.off, .boot, .plat, .load, .staking, .laidUp] then s
  else
    let th := s.therm
    let all := s.cellTempsOf 15
    let hi := listMax? all
    let lo := listMin? all
    let ch := s.par P.cellHyst
    let sh := s.par P.stageHyst
    let die : Int := max s.lat.die[0] s.lat.die[1]
    let amb := listMax? (s.ntcsOf [8, 9, 10, 11])
    let stage (l : Leg) : Option Int := listMax? (s.ntcsOf [2 * l.val, 2 * l.val + 1])
    let wh := warnNext th.warnHigh true (s.par P.cellWarn) ch hi
    let wl := warnNext th.warnLow false (s.par P.cellLowWarn) ch lo
    let wa := warnNext th.ambWarn true (s.par P.ambWarn) sh amb
    let wd := warnNext th.dieWarn true (s.par P.dieWarn) sh (some die)
    let ws (l : Leg) : Bool := warnNext th.stageWarn[l.val] true (s.par P.stageWarn) sh (stage l)
    let s1 := { s with therm := { th with
      warnHigh := wh, warnLow := wl, ambWarn := wa, dieWarn := wd
      stageWarn := Vector.ofFn (fun (i : Fin 4) => ws i)
      cellThrottle := all.any (fun t => decide (s.par P.cellThrottle < t))
      chargeBlock := all.any (fun t => decide (t ≤ s.par P.cellChgBlock))
      dieThrottle := decide (s.par P.dieThrottle < die) } }
    let s1 := s1.warnNote th.warnHigh wh (s.legWith hi) hi (s.par P.cellWarn)
    let s1 := s1.warnNote th.warnLow wl (s.legWith lo) lo (s.par P.cellLowWarn)
    let s1 := s1.warnNote th.ambWarn wa (s.ambientAt amb) amb (s.par P.ambWarn)
    let s1 := s1.warnNote th.dieWarn wd (if s.lat.die[1] ≤ s.lat.die[0] then 0 else 1) (some die) (s.par P.dieWarn)
    allLegs.foldl (fun t l => t.warnNote th.stageWarn[l.val] (ws l) l.val (stage l) (s.par P.stageWarn)) s1

/-- R328, R334: 16 consecutive conversions of an NTC at or below C_TRIP: its leg stops with diode braking. -/
def execStageThermalTrip (ntc : Fin 8) (code : Nat) (s : State) : Host.Outcome State Fault Refusal :=
  let leg := legOf ntc
  if s.therm.tripCode[ntc.val] < code ∨ s.therm.stageTrip[leg.val] then .next s
  else
    let c := s.conv[leg.val]
    let latched := c.st == .fault
    let s := s.yieldLeg leg .protection
    let s := if latched then s else s.brakeLeg leg .fault 0
    let s := { s with therm := { s.therm with
      stageTrip := vmod s.therm.stageTrip leg (fun _ => true)
      stageTrips := vmod s.therm.stageTrips leg incSat
      restart := vmod s.therm.restart leg (fun _ => !latched) } }
    .next ((s.formField 0x5001 3 2 ntc.val (s.ntcTemp code) (s.par P.stageShutdown)).settleRunning)
/-- R328, R334: both NTCs of a leg have been at or above C_REL for 1 s. -/
def execStageThermalRelease (leg : Leg) (s : State) : Host.Outcome State Fault Refusal :=
  if !s.therm.stageTrip[leg.val] then .next s
  else
    let c := s.conv[leg.val]
    let again := c.enabled && (s.mode == .armed || s.mode == .running)
    let s := if c.st = .fault ∧ s.therm.restart[leg.val] then
        s.modConv leg (fun c => { c with st := if again then .waitBus else .disabled, enabled := again, cause := 0 })
      else s
    let s := { s with therm := { s.therm with
      stageTrip := vmod s.therm.stageTrip leg (fun _ => false), restart := vmod s.therm.restart leg (fun _ => false) } }
    .next ((s.formField 0x5001 4 2 leg.val (max s.therm.ntc[(phaseA leg).val] s.therm.ntc[(phaseB leg).val]) (s.par P.stageRestart)).settleRunning)
/-- R329: a junction at 130.0 °C on 4 consecutive conversions: both dies are held in reset. -/
def execDieThermalShutdown (die : Fin 2) (temp : Int) (s : State) : Host.Outcome State Fault Refusal :=
  if temp < 1300 ∨ s.mode = .off then .next s
  else
    let t := s.powerOff
    .next { t with ret := { t.ret with dieShutdown := some (die.val, temp, s.fieldStamp), dieHold := true, dieRestart := true
                                       lastGaspCut := t.ret.lastGaspCut || s.start.lastGasp } }
/-- R329: both junctions have stayed below 105.0 °C for 1 s: the module starts through BOOT. -/
def execDieShutdownRelease (s : State) : Host.Outcome State Fault Refusal :=
  if s.mode = .off ∧ s.ret.dieHold then .next ({ s with ret := { s.ret with dieHold := false } }.moduleReset 0) else .next s

/-- R330: the legs' highest valid cell temperature for a valve. -/
def State.valveTemp (s : State) (v : Fin 4) : Option Int := listMax? (s.cellTempsOf (s.parN P.valveSrc 0xFF v.val))
/-- R330: a target in microsteps for an output as a fraction. -/
def State.valveSteps (s : State) (v : Fin 4) (u : F64) : Int := (u.mul (F64.ofInt (s.par P.valveTravel 0xFF v.val))).round
/-- VALVE_FAILSAFE as a fraction. -/
def State.failsafe (s : State) (v : Fin 4) : F64 := s.parF P.valveFailsafe 0xFF v.val 3
/-- R331: a valve's hold begins: its record. -/
def State.holdValve (v : Fin 4) (t : Option Int) (s : State) : State :=
  if s.therm.valveHold[v.val] then s
  else { s with therm := { s.therm with valveHold := vmod s.therm.valveHold v (fun _ => true) } }.form 0x5001 8 122 v.val (t.getD tInvalid) (s.therm.valveSp[v.val])
/-- R330, R341: the target of a loop is given to its axis, which takes it up at the next frame boundary. -/
def State.valveCommand (v : Fin 4) (target : Int) (s : State) : State :=
  { s with therm := { s.therm with valveTarget := vmod s.therm.valveTarget v (fun _ => target.toNat) } }.modAxis v (fun a => { a with nextTarget := some target })
/-- R330: the PI step: the new I, and u. -/
def valvePi (kp dt ti e i : F64) : F64 × F64 :=
  let inew := i.add (((kp.mul e).mul dt).div ti)
  let u := (kp.mul e).add inew
  if F64.one.lt u then (if e.lt F64.zero then inew else i, F64.one)
  else if u.lt F64.zero then (if F64.zero.lt e then inew else i, F64.zero)
  else (inew, u)
/-- R330, R331: one valve loop. -/
def State.valveLoop (v : Fin 4) (s : State) : State :=
  if s.par P.valveMode 0xFF v.val ≠ 1 then s
  else
    let a := s.axis[v.val]
    match s.valveTemp v with
    | none =>
      let s := s.holdValve v none
      ({ s with therm := { s.therm with valveI := vmod s.therm.valveI v (fun _ => s.failsafe v) } }).valveCommand v (s.valveSteps v (s.failsafe v))
    | some t =>
      if !a.homed || a.st == .fault || !a.enable then s.holdValve v (some t)
      else
        let e := F64.ofRatio (t - s.therm.valveSp[v.val]) 10
        let r := valvePi (s.parF P.valveKp 0xFF v.val 3) (s.parF P.valvePeriod 0xFF 0 3) (s.parF P.valveTi 0xFF v.val 0) e s.therm.valveI[v.val]
        ({ s with therm := { s.therm with
            valveHold := vmod s.therm.valveHold v (fun _ => false), valveI := vmod s.therm.valveI v (fun _ => r.1) } }).valveCommand v (s.valveSteps v r.2)
/-- R330: the valve loops of a frame whose number is a multiple of VALVE_PERIOD. After a Baseline loss they stop updating (R14). -/
def execValveLoop (s : State) : Host.Outcome State Fault Refusal :=
  if s.time.frame % (max 1 (s.parN P.valvePeriod)) ≠ 0 ∨ !s.axesRun ∨ s.base.coreLost ∨ s.base.fieldLost then .next s
  else .next (allAxes.foldl (fun t v => t.valveLoop v) s)
/-- R330: I starts at VALVE_FAILSAFE at each entry to ARMED. -/
def State.startValves (s : State) : State := { s with therm := { s.therm with valveI := Vector.ofFn (fun (v : Fin 4) => s.failsafe v) } }

/-- R332: T_f of a fan. -/
def State.fanTemp (s : State) (f : Fin 4) : Option Int :=
  let legs := s.parN P.fanLegs 0xFF f.val
  let src := s.par P.fanSrc 0xFF f.val
  if src = 0 then listMax? (s.ntcsOf ((List.range 8).filter (fun c => bitAt legs (c / 2))))
  else if src = 1 then listMax? (s.cellTempsOf legs)
  else listMax? (s.ntcsOf [8, 9, 10, 11])
/-- R332: the automatic duty, LSB 0.01 %. -/
def State.fanAuto (s : State) (f : Fin 4) : Nat :=
  let lo := s.par P.fanTLo 0xFF f.val
  let hi := s.par P.fanTHi 0xFF f.val
  let m := s.par P.fanMin 0xFF f.val
  match s.fanTemp f with
  | none => 10000
  | some t => (clampInt m 10000 (m + roundDiv ((10000 - m) * (t - lo)) (hi - lo))).toNat
/-- R21, R332: the duties set in W4 for the next PWM periods, handed to the field die in the output bundle of class 2 with
the axis targets. -/
def State.setFans (s : State) : State :=
  let duty := Vector.ofFn (fun (f : Fin 4) => max (s.fanAuto f) s.therm.fanOverride[f.val])
  { s with therm := { s.therm with fanNext := duty } }.pushFlit .c2f 2 0 (s.time.frame % 65536) (.outputs (s.axis.toList.map Axis.given) duty)
/-- R73, R332: a PWM period of a fan begins, where the pin is driven: at the duty the field die was given last (R14), at full
speed in a FAULT-HOLD entered without the engines (R97). -/
def execFanPwmPeriod (f : Fin 4) (s : State) : Host.Outcome State Fault Refusal :=
  .next (match s.drive .fan with
    | .active => { s with therm := { s.therm with fanDuty := vmod s.therm.fanDuty f (fun _ => s.therm.fanOut[f.val]) } }
    | .high => { s with therm := { s.therm with fanDuty := vmod s.therm.fanDuty f (fun _ => 10000) } }
    | .low => { s with therm := { s.therm with fanDuty := vmod s.therm.fanDuty f (fun _ => 0) } }
    | .z | .idle => s)
/-- R333: a rising edge on TACHn. -/
def execTachEdge (f : Fin 4) (s : State) : Host.Outcome State Fault Refusal :=
  .next { s with therm := { s.therm with tachNow := vmod s.therm.tachNow f (· + 1) } }
/-- R333: the speeds from the tach counts of the frames sealed. -/
def State.countTach (tach : Vector Nat 4) (s : State) : State :=
  let h (f : Fin 4) : List Nat := (tach[f.val] :: s.therm.tachHist[f.val]).take 1000
  { s with
    therm := { s.therm with
      tachHist := Vector.ofFn h
      fanRpm := Vector.ofFn (fun (f : Fin 4) => ((h f).sum * 60) / (max 1 (s.parN P.tachPpr 0xFF f.val))) } }
/-- R333: the duty has been at least TACH_MIN_DUTY and the speed too low for TACH_FAULT_T. -/
def execFanFault (f : Fin 4) (s : State) : Host.Outcome State Fault Refusal :=
  let rpm := s.therm.fanRpm[f.val]
  let thr := s.parN P.tachMinRpm 0xFF f.val
  if thr ≠ 0 ∧ rpm < thr ∧ s.parN P.tachMinDuty ≤ s.therm.fanDuty[f.val] ∧ !s.therm.fanFault[f.val] then
    .next ({ s with therm := { s.therm with fanFault := vmod s.therm.fanFault f (fun _ => true) } }.formEvent 0x5001 7 124 f.val rpm thr)
  else .next s
/-- R333: the speed has been at or above TACH_MIN_RPM for 10 s. -/
def execFanFaultClear (f : Fin 4) (s : State) : Host.Outcome State Fault Refusal :=
  if s.parN P.tachMinRpm 0xFF f.val ≤ s.therm.fanRpm[f.val] then
    .next { s with therm := { s.therm with fanFault := vmod s.therm.fanFault f (fun _ => false) } }
  else .next s

end Sys2Proof.Machine
end

