-- ==== Sys2Proof/Machine/Store.lean ====
section
/-! DEFINITION. The store and its DMA channels (R354 to R371): the page map, rights, bursts, programs and erases, faults,
resumes. What a channel's owner does at the end of a descriptor or at a halt is defined with the owner. -/
namespace Sys2Proof.Machine

/-- The state with its store unit changed. -/
def State.modSu (f : StoreUnit → StoreUnit) (s : State) : State := { s with su := f s.su }
/-- The state with a port changed. -/
def State.modPort (p : Fin 2) (f : Port → Port) (s : State) : State := { s with su := { s.su with port := vmod s.su.port p f } }
/-- The state with a channel changed. -/
def State.modCh (c : Fin 16) (f : Channel → Channel) (s : State) : State := { s with su := { s.su with ch := vmod s.su.ch c f } }
/-- R356: blocks of 256 KB that a NAND port keeps in reserve. -/
def State.reserveBlocks (s : State) (p : Port) : Nat := if p.kind = 2 then p.mb * 4 * s.parN P.nandReserve / 100 else 0
/-- R357: SA_PAGES and SB_PAGES. -/
def State.portPages (s : State) (p : Fin 2) : Nat :=
  let q := s.su.port[p.val]
  if q.kind = 0 then 0 else q.mb * 256 - s.reserveBlocks q * 64
/-- R357: the port of a logical page; none where it is unmapped. -/
def State.portOf (s : State) (page : Nat) : Option (Fin 2) :=
  let a := s.portPages 0
  if page < a then some 0 else if page < a + s.portPages 1 then some 1 else none
/-- R357: the erase unit of a port, in pages. -/
def Port.erasePages (p : Port) : Nat := if p.kind = 2 then 64 else 1
/-- R363: the program buffer of a port, in bytes. -/
def Port.unit (p : Port) : Nat := if p.kind = 2 then 4096 else 256
/-- First page of the Field Book (R358). -/
def fbStart : Nat := 14336
/-- Pages of the Field Book (R358). -/
def State.fbPages (s : State) : Nat := s.parN P.fbMb * 256
/-- R358: the start page of a region, and 65,536 after the last. -/
def State.regionStart (s : State) (r : Nat) : Nat :=
  match r with
  | 0 => 0
  | 1 => 4096
  | 2 => 8192
  | 3 => 12288
  | 4 => 13312
  | 5 => fbStart
  | 6 => fbStart + s.fbPages
  | 7 => fbStart + s.fbPages + s.parN P.trendMb * 256
  | _ => 65536
/-- R358: the region of a page. -/
def State.regionOf (s : State) (page : Nat) : Nat :=
  ((List.range 8).filter (fun r => decide (s.regionStart r ≤ page))).length - 1
/-- R360: a channel may write or erase a page. -/
def State.mayWrite (s : State) (c : Fin 16) (page : Nat) : Bool :=
  match s.regionOf page with
  | 0 => s.upd.slot != 0 && c == 9
  | 1 => s.upd.slot != 1 && c == 9
  | 2 => c == 8
  | 3 => c == 4
  | 4 => if page < 13824 then c == 14 || c == 15 else c == 11
  | 5 => c == 2 || c == 12
  | 6 => c == 6 || c == 12
  | _ => c == 14 || c == 15
/-- R361: the priority of a channel. -/
def chPriority (c : Nat) : Nat := nth [0, 0, 1, 2, 2, 2, 2, 2, 3, 3, 3, 3, 3, 3, 3, 3] c 3
/-- The logical page of a channel's next byte. -/
def Channel.page (c : Channel) : Nat := (c.addr + c.progress + c.buffer.length) / 4096
/-- R361, R362: the path of a channel's next burst: a port, or the on-chip fabric; an unmapped page is judged on SA. -/
def State.pathOf (s : State) (c : Fin 16) : Nat :=
  if c.val ≤ 1 ∨ c.val = 7 then 2
  else match s.portOf s.su.ch[c.val].page with
    | some p => p.val
    | none => 0
/-- A channel waits for a burst. -/
def Channel.wants (c : Channel) : Bool := (c.st == .active || c.st == .waiting) && !c.issued
/-- The sixteen channels. -/
def allChannels : List (Fin 16) := List.finRange 16
/-- R362: the distance of a channel from the one last granted, 1 to 16. -/
def turn (last c : Nat) : Nat := (c + 15 - last) % 16
/-- R362: the channel that a path's arbiter grants, among those that may have a burst. -/
def State.grant (s : State) (path last : Nat) (may : Fin 16 → Bool) : Option (Fin 16) :=
  (sortBy (fun (c : Fin 16) => chPriority c.val * 16 + turn last c.val)
    (allChannels.filter (fun c => s.su.ch[c.val].wants && s.pathOf c == path && may c))).head?

/-- R364: a descriptor begins on a channel; the FAULT of the one before is gone (R369). -/
def State.startDesc (c : Fin 16) (op : DmaOp) (addr len : Nat) (data : List Byte) (s : State) : State :=
  s.modCh c (fun x => { st := .waiting, op := op, addr := addr, len := len, data := data, faults := x.faults })
/-- R367: a channel halts with a fault; the records of source 116 and, for faults 3 to 6, of the port. -/
def State.haltCh (c : Fin 16) (fault : Nat) (s : State) : State :=
  let x := s.su.ch[c.val]
  let page := if x.issued then (x.addr + x.progress) / 4096 else x.page
  let port := s.portOf page
  let s := s.modCh c (fun x => { x with st := .halted, fault := fault, faultPage := page, buffer := [], issued := false, faults := incSat x.faults })
  let s := s.form 0x6001 fault 116 c.val page x.progress
  if 3 ≤ fault ∧ fault ≤ 6 then s.form 0x6001 fault (114 + (match port with
    | some p => p.val
    | none => 0)) c.val page x.progress
  else s
/-- R366: the fault of a channel at a page's first touch. -/
def State.touchFault (s : State) (c : Fin 16) (cond : Nat) : Nat :=
  let x := s.su.ch[c.val]
  match s.portOf x.page with
  | none => 1
  | some p =>
    if x.op ≠ .read ∧ !s.mayWrite c x.page then 2
    else if s.su.port[p.val].down then 6
    else if cond = 7 then 7
    else if cond = 3 ∧ x.op = .read ∧ s.su.port[p.val].kind = 2 then 3
    else 0
/-- R362: a burst is at most 64 bytes and ends at the end of a page. -/
def burstLen (addr left : Nat) : Nat := min left (min 64 (4096 - addr % 4096))
/-- What the end of an action means for the channel's owner. -/
inductive ChEvent
  | quiet | done (c : Fin 16) | halted (c : Fin 16)
  deriving DecidableEq, Repr
/-- R362, R363: one granted burst of a channel on a port. -/
def State.burst (c : Fin 16) (cond : Nat) (s : State) : State × ChEvent :=
  let fault := s.touchFault c cond
  if fault ≠ 0 then (s.haltCh c fault, .halted c)
  else
    let x := s.su.ch[c.val]
    let port := (s.portOf x.page).getD 0
    match x.op with
    | .read =>
      let a := x.addr + x.progress
      let n := burstLen a (x.len - x.progress)
      let whole := decide (x.len ≤ x.progress + n)
      let s := s.modCh c (fun x =>
        { x with st := if whole then .idle else .active, progress := x.progress + n, data := x.data ++ Memory.readBytes s.store a n })
      (s, if whole then .done c else .quiet)
    | .write =>
      let at' := x.progress + x.buffer.length
      let a := x.addr + at'
      let unit := s.su.port[port.val].unit
      let n := min (burstLen a (x.len - at')) (unit - a % unit)
      let buffer := x.buffer ++ slice at' n x.data
      let full := decide ((a + n) % unit = 0) || decide (x.len ≤ at' + n)
      let s := s.modCh c (fun x => { x with st := .active, buffer := buffer, issued := full })
      (if full then s.modPort port (fun p => { p with busy := some c.val }) else s, .quiet)
    | .erase =>
      ((s.modCh c (fun x => { x with st := .active, issued := true })).modPort port (fun p => { p with busy := some c.val, suspends := 0 }), .quiet)
/-- The other channels that want the path WAIT (R362). -/
def State.markWaiting (path : Nat) (granted : Fin 16) (s : State) : State :=
  allChannels.foldl (fun t c =>
    if c != granted && t.su.ch[c.val].wants && t.pathOf c == path then t.modCh c (fun x => { x with st := .waiting }) else t) s
/-- R363: the erase in progress on a port may be suspended for a read of a channel. -/
def State.maySuspend (s : State) (p : Fin 2) (c : Fin 16) : Bool :=
  match s.su.port[p.val].busy with
  | none => true
  | some b =>
    let owner := s.su.ch.toList.getD b {}
    owner.op == .erase && s.su.ch[c.val].op == .read && (chPriority c.val == 1 || chPriority c.val == 2) &&
    decide (chPriority c.val < chPriority b) && decide (s.su.port[p.val].suspends < s.parN P.eraseSuspends)
/-- R362: a burst boundary of a path. -/
def State.burstOn (path : Fin 3) (cond : Nat) (s : State) : State × ChEvent :=
  if path.val = 2 then
    match s.grant 2 s.su.fabricLast (fun _ => true) with
    | none => (s, .quiet)
    | some c =>
      let s := (s.markWaiting 2 c).modSu (fun u => { u with fabricLast := c.val })
      let x := s.su.ch[c.val]
      let n := min 64 (x.len - x.progress)
      if cond = 7 then (s.haltCh c 7, .halted c)
      else
        let whole := decide (x.len ≤ x.progress + n)
        (s.modCh c (fun x => { x with st := if whole then .idle else .active, progress := x.progress + n }), if whole then .done c else .quiet)
  else
    let p : Fin 2 := if path.val = 0 then 0 else 1
    let q := s.su.port[p.val]
    if q.recovering then (s, .quiet)
    else
      match s.grant p.val q.last (fun c => s.maySuspend p c) with
      | none => (s, .quiet)
      | some c =>
        let s := s.markWaiting p.val c
        let s := s.modPort p (fun q => { q with last := c.val, suspends := if q.busy.isSome then q.suspends + 1 else q.suspends })
        let s := if q.busy.isSome then s.modSu (fun u => { u with suspends := incSat u.suspends }) else s
        s.burst c cond
/-- R363, R364: a program ends. -/
def State.programDone (p : Fin 2) (pass : Bool) (s : State) : State × ChEvent :=
  match s.su.port[p.val].busy with
  | none => (s, .quiet)
  | some b =>
    let c : Fin 16 := ⟨b % 16, by omega⟩
    let x := s.su.ch[c.val]
    if x.op ≠ .write then (s, .quiet)
    else
      let s := s.modPort p (fun q => { q with busy := none })
      if !pass then (s.haltCh c 4, .halted c)
      else
        let n := x.progress + x.buffer.length
        let whole := decide (x.len ≤ n)
        let s := { s with store := Memory.program s.store (x.addr + x.progress) x.buffer }
        let s := s.modCh c (fun x =>
          { x with progress := n, buffer := [], issued := false, retried := false
                   st := if whole then .idle else if x.st = .draining then .disabled else .waiting })
        (s, if whole then .done c else .quiet)
/-- R357: the first byte of the erase unit that holds an address, and its length in bytes. -/
def State.eraseUnit (s : State) (a : Nat) : Nat × Nat :=
  let pages := match s.portOf (a / 4096) with
    | some p => s.su.port[p.val].erasePages
    | none => 1
  let first := a / 4096 / pages * pages
  (first * 4096, pages * 4096)
/-- R363, R364: an erase ends. -/
def State.eraseDone (p : Fin 2) (pass : Bool) (s : State) : State × ChEvent :=
  match s.su.port[p.val].busy with
  | none => (s, .quiet)
  | some b =>
    let c : Fin 16 := ⟨b % 16, by omega⟩
    let x := s.su.ch[c.val]
    if x.op ≠ .erase then (s, .quiet)
    else
      let s := s.modPort p (fun q => { q with busy := none })
      if !pass then (s.haltCh c 5, .halted c)
      else
        let u := s.eraseUnit x.addr
        ({ s with store := Memory.erase s.store u.1 u.2 }.modCh c (fun x => { x with st := .idle, progress := u.2, issued := false, retried := false }), .done c)
/-- R356: the block of the fault is replaced by the next of the reserve; false where none is left. -/
def State.retireBlock (p : Fin 2) (page : Nat) (s : State) : State × Bool :=
  let q := s.su.port[p.val]
  if q.retired + 2 < s.reserveBlocks q then
    let block := (page - (if p = 1 then s.portPages 0 else 0)) / 64
    (s.modPort p (fun q =>
      { q with retired := q.retired + 1, hasMap := true
               remap := insertKey block (q.mb * 4 - s.reserveBlocks q + 2 + q.retired) q.remap }), true)
  else (s.modSu (fun u => { u with reserveEmpty := true }), false)
/-- R368: the owner resumes a halted channel. `unit` is what the unit at PROGRESS reads back as after a port timeout:
0 erased, 1 the intended data, 2 anything else. -/
def State.resumeCh (c : Fin 16) (unit : Nat) (s : State) : State × ChEvent :=
  let x := s.su.ch[c.val]
  if x.st ≠ .halted then (s, .quiet)
  else
    let port := s.portOf x.faultPage
    let q := s.su.port[(port.getD 0).val]
    let again (y : Channel) : Channel := { y with st := .waiting, fault := 0, retried := true }
    match x.fault with
    | 3 => (s.modCh c again, .quiet)
    | 4 | 5 =>
      if q.kind = 2 then
        let r := s.retireBlock (port.getD 0) x.faultPage
        if r.2 then (r.1.modCh c again, .quiet) else (r.1, .quiet)
      else (s.modCh c again, .quiet)
    | 6 =>
      if !q.up then (s, .quiet)
      else if x.op ≠ .write then (s.modCh c again, .quiet)
      else
        let a := x.addr + x.progress
        let n := min (x.len - x.progress) (q.unit - a % q.unit)
        if unit = 1 then
          let whole := decide (x.len ≤ x.progress + n)
          let s := { s with store := Memory.program s.store a (slice x.progress n x.data) }
          (s.modCh c (fun y => { again y with progress := y.progress + n, st := if whole then .idle else .waiting }), if whole then .done c else .quiet)
        else if unit = 0 then (s.modCh c again, .quiet)
        else (s.haltCh c 4, .halted c)
    | _ => (s, .quiet)
/-- R369: a halted descriptor is abandoned; FAULT stays readable. -/
def State.abandonCh (c : Fin 16) (s : State) : State :=
  if s.su.ch[c.val].st = .halted then s.modCh c (fun x => { x with st := .idle, buffer := [], issued := false, len := 0, data := [] }) else s
/-- R365, R62: a channel stops at its burst boundary: what it has issued completes, its buffer is discarded, its
descriptor and PROGRESS stay. -/
def State.drainCh (s : State) (c : Fin 16) : State :=
  s.modCh c (fun x =>
    if x.st = .active ∨ x.st = .waiting then (if x.issued then { x with st := .draining } else { x with st := .disabled, buffer := [] }) else x)
/-- R370: the channels with a burst, a program or an erase pending on a port. -/
def State.onPort (s : State) (p : Fin 2) : List (Fin 16) :=
  allChannels.filter (fun c => (s.su.ch[c.val].wants || s.su.ch[c.val].issued) && s.pathOf c == p.val && s.portOf s.su.ch[c.val].page == some p)
/-- R366, R370: a port gives no data or stays busy: fault 6, and the JEDEC reset of its recovery. -/
def State.timeoutPort (p : Fin 2) (s : State) : State × List ChEvent :=
  let cs := s.onPort p
  let s := cs.foldl (fun t c => t.haltCh c 6) s
  (s.modPort p (fun q => { q with up := false, busy := none, recovering := !q.down, resets := if q.down then q.resets else incSat q.resets }),
    cs.map ChEvent.halted)
/-- R370: 1 ms after the reset sequence the JEDEC ID is read. -/
def State.recoverPort (p : Fin 2) (ok : Bool) (s : State) : State :=
  let q := s.su.port[p.val]
  if !q.recovering then s
  else if ok then s.modPort p (fun q => { q with up := true, recovering := false })
  else
    let fails := (s.time.meridian :: q.failAt).filter (fun t => decide (s.time.meridian < t + 10 * ticksPerSecond))
    if 3 ≤ fails.length then s.modPort p (fun q => { q with down := true, recovering := false, failAt := fails })
    else s.modPort p (fun q => { q with failAt := fails, resets := incSat q.resets })

end Sys2Proof.Machine
end

