-- ==== Sys2Proof/Machine/Book.lean ====
section
/-! DEFINITION. The Field Book (R377 to R388): pages, the write of records, replay, erase ahead, close, rate. -/
namespace Sys2Proof.Machine

/-- The state with its Field Book changed. -/
def State.modFb (f : FieldBook → FieldBook) (s : State) : State := { s with fb := f s.fb }
/-- PAGE_MAGIC (R377). -/
def pageMagic : Nat := 0x4B4F4246
/-- R377: a page header. -/
def pageHeader (seq mb : Nat) : List Byte :=
  let b := leBytes 4 pageMagic ++ leBytes 4 seq ++ leBytes 2 1 ++ leBytes 2 mb
  b ++ leBytes 4 (crc32 b)
/-- R377: PAGE_SEQ and RING_MB of a page header with a correct PCRC. -/
def headerOf (b : List Byte) : Option (Nat × Nat) :=
  if fieldAt 0 4 b = pageMagic ∧ fieldAt 8 2 b = 1 ∧ fieldAt 12 4 b = crc32 (b.take 12) then some (fieldAt 4 4 b, fieldAt 10 2 b) else none
/-- A record found on a page: offset, length, MARK correct, RCRC correct (R379). -/
structure Found where
  off : Nat
  len : Nat
  mark : Bool
  crc : Bool
  deriving DecidableEq, Repr
/-- R379: a valid record. -/
def Found.valid (f : Found) : Bool := f.mark && f.crc
/-- R384: the records of a page from an offset, up to a start that reads 0xFFFF or a BODY_LEN out of range. -/
def scanPage (b : List Byte) : Nat → Nat → List Found
  | 0, _ => []
  | n + 1, o =>
    let len := fieldAt o 2 b
    if len < 16 ∨ 1024 < len ∨ len % 4 ≠ 0 ∨ b.length < o + len + 32 then []
    else
      { off := o, len := len + 32, mark := fieldAt (o + 28 + len) 4 b == 0x5AC3A55C
        crc := fieldAt (o + 24 + len) 4 b == crc32 (slice o (24 + len) b) } :: scanPage b n (o + len + 32)
/-- The 4 KB of a logical page. -/
def State.pageBytes (s : State) (page : Nat) : List Byte := Memory.readBytes s.store (page * 4096) 4096
/-- The records of a ring page. -/
def State.pageRecords (s : State) (page : Nat) : List Found := scanPage (s.pageBytes page) 85 16
/-- Valid records of a page. -/
def State.validOn (s : State) (page : Nat) : Nat := ((s.pageRecords page).filter Found.valid).length
/-- Pages that hold a programmed byte, in order. -/
def listedPages : List Host.Cell → List Nat
  | [] => []
  | c :: cs => match listedPages cs with
    | p :: ps => if c.1 / 4096 = p then p :: ps else c.1 / 4096 :: p :: ps
    | [] => [c.1 / 4096]
/-- Ring pages. -/
def State.ringPages (s : State) : Nat := s.fb.mb * 256
/-- The written pages of the ring with a correct header: page, PAGE_SEQ, RING_MB. -/
def State.bookHeaders (s : State) (maxPages : Nat) : List (Nat × Nat × Nat) :=
  ((listedPages s.store).filter (fun p => decide (fbStart ≤ p) && decide (p < fbStart + maxPages))).filterMap (fun p =>
    (headerOf (Memory.readBytes s.store (p * 4096) 16)).map (fun h => (p, h.1, h.2)))
/-- The ring page after a page. -/
def State.ringNext (s : State) (page : Nat) : Nat := fbStart + (page + 1 - fbStart) % (max 1 s.ringPages)
/-- The NAND page buffer is in use (R380). -/
def State.bookNand (s : State) : Bool :=
  match s.portOf s.fb.page with
  | some p => s.su.port[p.val].kind == 2
  | none => false
/-- R377: the page at the write point is closed: the next page of the ring that is not skipped. -/
def State.closePage : Nat → State → State
  | 0, s => s
  | n + 1, s =>
    let next := s.ringNext s.fb.page
    let t := s.modFb (fun f =>
      { f with page := next, offset := 0, pageSeq := if f.offset = 0 then f.pageSeq else (f.pageSeq + 1) % 2 ^ 32, erasedAhead := f.erasedAhead - 1 })
    if t.fb.skip.contains next then State.closePage n (t.modFb (fun f => { f with offset := 0 })) else t
/-- FB_HEAD: the cursor of the next record (R391). -/
def State.bookHead (s : State) : Nat := s.fb.page * 4096 + (if s.fb.offset = 0 then 16 else s.fb.offset)
/-- R377: what is programmed for a record at the write point: with the header of a new page before it. -/
def State.recordData (s : State) (bytes : List Byte) : Nat × List Byte :=
  if s.fb.offset = 0 then (s.fb.page * 4096, pageHeader s.fb.pageSeq s.fb.mb ++ bytes) else (s.fb.page * 4096 + s.fb.offset, bytes)
/-- R377: a record with its mark fits the page at the write point. -/
def State.recordFits (s : State) (bytes : List Byte) : Bool :=
  decide ((if s.fb.offset = 0 then 16 else s.fb.offset) + bytes.length + 4 ≤ 4096)
/-- R379: channel 2 programs header, body and RCRC of a record, on a new page where it does not fit. -/
def State.bookProgram (bytes : List Byte) (s : State) : State :=
  let s := if s.recordFits bytes then s else s.closePage s.ringPages
  if s.fb.offset = 0 ∧ s.fb.erasedAhead = 0 then s.modFb (fun f => { f with inProgram := some bytes, marking := false })
  else
    let d := s.recordData bytes
    (s.modFb (fun f => { f with inProgram := some bytes, marking := false })).startDesc 2 .write d.1 d.2.length d.2
/-- R380: the NAND page buffer is programmed as one page. -/
def State.bookPage (s : State) : State :=
  if s.fb.nandBuffer.isEmpty ∨ s.fb.erasedAhead = 0 then s
  else
    let b := pageHeader s.fb.pageSeq s.fb.mb ++ s.fb.nandBuffer
    (s.modFb (fun f => { f with inProgram := some b, marking := false })).startDesc 2 .write (s.fb.page * 4096) 4096 (b ++ List.replicate (4096 - b.length) 0xFF)
/-- R380: queued records gather in the page buffer until the next does not fit. -/
def State.gather : Nat → State → State
  | 0, s => s
  | n + 1, s =>
    match s.fb.queue with
    | [] => s
    | r :: rest =>
      let b := r.bytes ++ markBytes
      if 4096 < 16 + s.fb.nandBuffer.length + b.length then s.bookPage
      else State.gather n (s.modFb (fun f => { f with queue := rest, nandBuffer := f.nandBuffer ++ b }))
/-- R386: while the port is DOWN the queued records are dropped and counted. -/
def State.dropQueue (s : State) : State :=
  s.modFb (fun f => { f with queue := [], dropped := addSat f.dropped f.queue.length })
/-- The book can be written. -/
def State.bookReady (s : State) : Bool := s.fb.isOpen && !s.fb.closed && s.su.ch[2].st == .idle
/-- R383: channel 2 takes up the next record of the queue. -/
def State.bookNext (s : State) : State :=
  if s.fb.writeHalted then s.dropQueue
  else if !s.bookReady then s
  else
    match s.fb.inProgram with
    | some b => if s.bookNand then s.bookPage else s.bookProgram b
    | none =>
      if s.bookNand then s.gather s.fb.queue.length
      else
        match s.fb.queue with
        | [] => s
        | r :: rest => (s.modFb (fun f => { f with queue := rest })).bookProgram r.bytes
/-- R379, R380: channel 2 has ended a descriptor: the MARK follows the record's body, the next record its MARK. -/
def State.bookDone (s : State) : State :=
  match s.fb.inProgram with
  | none => s.bookNext
  | some b =>
    if s.bookNand then
      let n := s.validOn s.fb.page
      let s := s.modFb (fun f => { f with nandBuffer := [], inProgram := none, retried := false, records := addSat f.records n, offset := 4096 })
      (s.closePage s.ringPages).bookNext
    else if s.fb.marking then
      (s.modFb (fun f =>
        { f with inProgram := none, marking := false, retried := false, offset := f.offset + b.length + 4, records := addSat f.records 1 })).bookNext
    else
      let o := if s.fb.offset = 0 then 16 else s.fb.offset
      (s.modFb (fun f => { f with marking := true, offset := o })).startDesc 2 .write (s.fb.page * 4096 + o + b.length) 4 markBytes
/-- A BOOK record (R389). -/
def State.bookRecord (code : Nat) (value : Int) (s : State) : State := s.form 0x6801 code 117 noIndex value 0
/-- R386: a store fault on channel 2: on NOR the record is written once more on the next page. -/
def State.bookHalted (s : State) : State :=
  let x := s.su.ch[2]
  if (x.fault = 4 ∨ x.fault = 5) ∧ !s.bookNand then
    let s := ((s.abandonCh 2).bookRecord 4 s.fb.page).modFb (fun f => { f with offset := max 16 f.offset })
    let s := s.closePage s.ringPages
    if s.fb.retried then
      (s.modFb (fun f => { f with inProgram := none, marking := false, retried := false, dropped := incSat f.dropped })).bookNext
    else
      let s := s.modFb (fun f => { f with retried := true })
      match s.fb.inProgram with
      | some b => s.bookProgram b
      | none => s
  else if x.fault = 4 ∨ x.fault = 5 then (s.resumeCh 2 0).1
  else s
/-- R385: channel 12 keeps ERASE_AHEAD pages erased, in whole erase units, the oldest first. -/
def State.eraseAhead (s : State) : State :=
  let unit := match s.portOf s.fb.erasePage with
    | some p => s.su.port[p.val].erasePages
    | none => 1
  let want := (s.parN P.eraseAhead + unit - 1) / unit * unit
  if !s.fb.isOpen || s.fb.closed || s.fb.writeHalted || s.su.ch[12].st != .idle || decide (want ≤ s.fb.erasedAhead) then s
  else s.startDesc 12 .erase (s.fb.erasePage * 4096) (unit * 4096) []
/-- R391: FB_OLDEST and FB_RECORDS from what the ring holds. -/
def State.bookCount (s : State) : State :=
  let hs := (s.bookHeaders s.ringPages).filter (fun h => h.2.2 == s.fb.mb)
  let oldest := hs.foldl (fun b h => match b with
    | none => some h
    | some c => if h.2.1 < c.2.1 then some h else b) (none : Option (Nat × Nat × Nat))
  s.modFb (fun f =>
    { f with
      records := (hs.map (fun h => s.validOn h.1)).sum
      oldest := match oldest with
        | some h => h.1 * 4096 + 16
        | none => s.bookHead })
/-- R385: channel 12 has erased a unit. -/
def State.eraseAheadDone (s : State) : State :=
  let u := s.eraseUnit s.su.ch[12].addr
  let n := u.2 / 4096
  ((s.modFb (fun f => { f with erasedAhead := f.erasedAhead + n, erasePage := fbStart + (u.1 / 4096 + n - fbStart) % (max 1 s.ringPages) })).bookCount).eraseAhead
/-- R386: an erase of channel 12 fails: repeated once, then the page is skipped and counted. -/
def State.eraseAheadHalted (s : State) : State :=
  let x := s.su.ch[12]
  if x.fault = 5 ∧ (s.bookNand ∨ !x.retried) then (s.resumeCh 12 0).1
  else if x.fault = 5 then
    let page := x.addr / 4096
    let s := ((s.abandonCh 12).bookRecord 4 page).modFb (fun f => { f with skip := f.skip ++ [page], corrupt := incSat f.corrupt })
    s.eraseAheadDone
  else s
/-- R386: the port of the write point is DOWN: writing is halted. -/
def State.bookPort (s : State) : State :=
  match s.portOf s.fb.page with
  | some p => if s.su.port[p.val].down then (s.modFb (fun f => { f with writeHalted := true })).dropQueue else s
  | none => s

/-- R63, R387: a record put into the book at once, outside the channels. -/
def State.bookPut (bytes : List Byte) (s : State) : State :=
  if s.bookNand then
    let b := bytes ++ markBytes
    if 16 + s.fb.nandBuffer.length + b.length ≤ 4096 then s.modFb (fun f => { f with nandBuffer := f.nandBuffer ++ b })
    else
      let page := pageHeader s.fb.pageSeq s.fb.mb ++ s.fb.nandBuffer
      let s := { s with store := Memory.program s.store (s.fb.page * 4096) page }.modFb (fun f => { f with offset := 4096, nandBuffer := b })
      s.closePage s.ringPages
  else
    let s := if s.recordFits bytes then s else s.closePage s.ringPages
    if s.fb.offset = 0 ∧ s.fb.erasedAhead = 0 then s.modFb (fun f => { f with dropped := incSat f.dropped })
    else
      let d := s.recordData bytes
      let o := if s.fb.offset = 0 then 16 else s.fb.offset
      { s with store := Memory.program s.store d.1 (d.2 ++ markBytes) }.modFb (fun f =>
        { f with offset := o + bytes.length + 4, records := addSat f.records 1 })
/-- R63: the record in programming completes. -/
def State.bookFinish (s : State) : State :=
  match s.fb.inProgram with
  | none => s
  | some b => if s.bookNand then s.modFb (fun f => { f with inProgram := none }) else (s.bookPut b).modFb (fun f => { f with inProgram := none, marking := false })
/-- R380: the page buffer is programmed at once. -/
def State.bookFlush (s : State) : State :=
  if s.fb.nandBuffer.isEmpty then s
  else
    let page := pageHeader s.fb.pageSeq s.fb.mb ++ s.fb.nandBuffer
    { s with store := Memory.program s.store (s.fb.page * 4096) page }.modFb (fun f => { f with offset := 4096, nandBuffer := [] })
/-- R387: the close: the queue is programmed and the book is closed. -/
def State.bookClose (s : State) : State :=
  let s := s.modFb FieldBook.takeFormed
  if !s.fb.isOpen then s.modFb (fun f => { f with closed := true })
  else
    let s := s.bookFinish
    let s := s.fb.queue.foldl (fun t r => t.bookPut r.bytes) (s.modFb (fun f => { f with queue := [] }))
    s.bookFlush.modFb (fun f => { f with closed := true, isOpen := false })

/-- R384: the RING_MB found most often; 16 where there is none. -/
def commonMb (hs : List (Nat × Nat × Nat)) : Nat :=
  (hs.foldl (fun (b : Nat × Nat) h =>
    let n := (hs.filter (fun k => k.2.2 == h.2.2)).length
    if b.2 < n then (h.2.2, n) else b) (16, 0)).1
/-- R382: the OP_TIME of a record in ms. -/
def opMsAt (b : List Byte) (o : Nat) : Nat :=
  let t := fieldAt (o + 10) 6 b
  t / 1024 % 2 ^ 32 * 1000 + t % 1024
/-- R384: erased pages from the write point on. -/
def State.erasedFrom (s : State) : Nat → Nat → Nat
  | 0, _ => 0
  | n + 1, page => if (listedPages s.store).contains page then 0 else s.erasedFrom n (s.ringNext page) + 1
/-- R384, R388: where writing resumes, from the valid headers. -/
def State.bookResume (s : State) : State :=
  let recovery := s.plat.recovery || s.plat.header.isNone
  let hs := s.bookHeaders (if recovery then 32768 else s.fbPages)
  let mb := if recovery then commonMb hs else s.parN P.fbMb
  let s := s.modFb (fun f => { f with mb := mb })
  let ring := hs.filter (fun h => h.2.2 == mb)
  if ring.isEmpty then
    let s := if hs.isEmpty then s
      else { s with store := Memory.erase s.store (fbStart * 4096) (s.ringPages * 4096) }.modFb (fun f => { f with reformatted := true })
    s.modFb (fun f => { f with page := fbStart, offset := 0, pageSeq := 1 })
  else
    let first := ring.headD (fbStart, 0, 0)
    let newest := ring.foldl (fun (b : Nat × Nat) h => if b.2 < h.2.1 then (h.1, h.2.1) else b) (first.1, first.2.1)
    let found := ring.map (fun h => (h.1, s.pageRecords h.1))
    let bad := (found.map (fun p => (p.2.filter (fun f => f.mark && !f.crc)).length)).sum
    let op := (found.flatMap (fun p => (p.2.filter Found.valid).map (fun f => opMsAt (s.pageBytes p.1) f.off))).foldl max 0
    s.modFb (fun f =>
      { f with page := s.ringNext newest.1, offset := 0, pageSeq := (newest.2 + 1) % 2 ^ 32, corrupt := addSat f.corrupt bad
               opMs := if op = 0 then f.opMs else op })
/-- R80: RESET_CAUSE of the present start. -/
def State.resetCause (s : State) : Nat := s.start.cause + 32 * b2n s.resetReq.stuck
/-- PLAT_SERIAL (R105). -/
def State.platSerial (s : State) : Nat := match s.plat.header with
  | some h => h.serial
  | none => 0
/-- R67, R70, R384: the records that waited for the book to open: the start, a stuck episode, a die shutdown, records
lost in last-gasp, the transfers made in LAID-UP (R60, R77), the replay itself. -/
def State.openRecords (s : State) : State :=
  let s := s.formAt 0x0101 (s.resetCause % 65536) 120 noIndex s.start.imageVersion s.platSerial s.time.meridian
    (leBytes 4 s.resetCause ++ leBytes 4 s.start.wakeCause) false
  let s := if s.resetReq.recordDue then
      { s.form 0x0102 1 120 noIndex 5000 0 with resetReq := { s.resetReq with recordDue := false } }
    else s
  let s : State := s.start.transfers.foldl (fun t x => t.formAt 0x0401 x.1 0 noIndex x.2.1 x.2.2 t.time.meridian [] true) s
  let s : State := { s with start := { s.start with transfers := [] } }
  let s : State := match s.ret.dieShutdown with
    | some d =>
      { s.formAt 0x5001 5 3 d.1 (d.2.2 % 2 ^ 32 : Nat) (d.2.2 / 2 ^ 32 : Nat) s.time.meridian [] true with ret := { s.ret with dieShutdown := none } }
    | none => s
  let s : State := if s.fb.reformatted then s.bookRecord 2 0 else s
  let s : State := if s.ret.lostRecords = 0 then s
    else
      let n := s.ret.lostRecords
      ({ s with ret := { s.ret with lostRecords := 0 } }.modFb (fun f => { f with dropped := addSat f.dropped n })).bookRecord 3 n
  s.bookRecord 1 s.fb.records
/-- R384: replay ends and the book is open. -/
def execFieldBookReplay (s : State) : Host.Outcome State Fault Refusal :=
  if s.fb.isOpen ∨ s.fb.closed ∨ s.inStates [.off, .boot, .plat, .laidUp] ∨ s.su.short then .next s
  else
    let s := s.bookResume
    let n := s.erasedFrom s.ringPages s.fb.page
    let s := s.modFb (fun f =>
      { f with isOpen := true, replayed := true, erasedAhead := n, erasePage := fbStart + (f.page + n - fbStart) % (max 1 s.ringPages) })
    .next (s.bookCount.openRecords.bookPort.eraseAhead)
/-- R382: TIME_PERIOD of operating time has passed. -/
def execFbTimeRecord (s : State) : Host.Outcome State Fault Refusal :=
  .next (if s.inStates [.off, .laidUp] then s else s.form 0x0201 0 112 noIndex s.time.offset 0)
/-- R383: the SUPPRESSED records of a second, which do not count against FB_RATE. -/
def State.suppressedRecords (s : State) : State :=
  let stamp := (s.fb.second + 1) * ticksPerSecond
  (s.fb.rate.filter (fun e => decide (0 < e.2.2))).foldl (fun t e =>
    let r := t.mkRecord 0x6802 e.1 117 noIndex e.2.2 0 stamp [] false
    if t.fb.closed then t
    else t.modFb (fun f => { f with forming := insertRecord r f.forming, srcSeq := insertKey 117 ((r.seq + 1) % 256) f.srcSeq })) s
/-- R383: the first frame after the end of a Meridian second. -/
def execFbSecondEnd (s : State) : Host.Outcome State Fault Refusal :=
  let now := s.time.meridian / ticksPerSecond
  if now ≤ s.fb.second then .next s
  else .next (s.suppressedRecords.modFb (fun f => { f with rate := [], second := now }))
/-- R380: NAND_FLUSH has passed since the first record in the page buffer. -/
def execFbNandFlush (s : State) : Host.Outcome State Fault Refusal :=
  .next (if s.bookReady ∧ s.bookNand ∧ s.fb.inProgram = none then s.bookPage else s)

end Sys2Proof.Machine
end

