-- ==== Sys2Proof/Machine/Image.lean ====
section
/-! DEFINITION. Image slots (R442 to R445), update headers (R446), body blocks (R447, R448), staging (R451), trials
(R453 to R455), the probe of the store ports (R355, R356), and the choice of a slot in BOOT. -/
namespace Sys2Proof.Machine

/-- The state with its update part changed. -/
def State.modUpd (f : Update → Update) (s : State) : State := { s with upd := f s.upd }
/-- R442: the header copy of a slot. -/
def State.headerCopy (s : State) (k : Nat) : List Byte := Memory.readBytes s.store (slotBase k + 4088 * 4096) 256
/-- A state entry of a slot (R442). -/
structure SlotEntry where
  state : Nat
  attempt : Nat
  reason : Nat
  gen : Nat
  deriving DecidableEq, Repr
/-- R442: a state entry with correct MAGIC and ECRC. -/
def entryOf (b : List Byte) : Option SlotEntry :=
  if fieldAt 0 4 b = 0x544F4C53 ∧ fieldAt 28 4 b = crc32 (b.take 28) then
    some { state := fieldAt 4 1 b, attempt := fieldAt 5 1 b, reason := fieldAt 6 2 b, gen := fieldAt 8 4 b }
  else none
/-- R442: the entry pages of a slot up to the first erased one. -/
def State.entryPages (s : State) (k : Nat) : List (List Byte) :=
  ((List.range 7).map (fun i => Memory.readBytes s.store (slotBase k + (4089 + i) * 4096) 32)).takeWhile
    (fun b => b.any (fun x => x != Memory.erased))
/-- R442: the last valid entry of a slot. -/
def State.lastEntry (s : State) (k : Nat) : Option SlotEntry := ((s.entryPages k).filterMap entryOf).getLast?
/-- SLOT_STATE (R458): 0 EMPTY. -/
def State.slotState (s : State) (k : Nat) : Nat := match s.lastEntry k with
  | some e => e.state
  | none => 0
/-- R442: a state entry is programmed into the next erased entry page. -/
def State.programEntry (k state attempt reason gen : Nat) (s : State) : State :=
  let n := (s.entryPages k).length
  if 7 ≤ n then s
  else
    let b := leBytes 4 0x544F4C53 ++ leBytes 1 state ++ leBytes 1 attempt ++ leBytes 2 reason ++ leBytes 4 gen ++ leBytes 4 s.start.powerCycles ++
      leBytes 8 s.time.meridian ++ leBytes 4 (fieldAt 12 4 (s.headerCopy k))
    { s with store := Memory.program s.store (slotBase k + (4089 + n) * 4096) (b ++ leBytes 4 (crc32 b)) }
/-- An UPDATE record of a slot (R458). -/
def State.updRecord (code k : Nat) (value : Int) (s : State) : State := s.form 0x8001 code 118 k value 0

/-- R446: KEY_ID names a programmed key that is not revoked. -/
def State.updateKey (s : State) (id : Nat) : Option (List Byte) :=
  if s.fuses.updateRevoked.toList.getD id true then none else (s.fuses.updateKeys.toList.getD id none)
/-- R446: result 1: a field of a header is wrong. -/
def headerFieldsBad (h : List Byte) : Bool :=
  let bodyLen := fieldAt 20 4 h
  let resultLen := fieldAt 24 4 h
  let flags := fieldAt 33 1 h
  decide (h.length ≠ 256) || fieldAt 0 4 h != 0x544C4455 || fieldAt 4 2 h != 1 || fieldAt 6 2 h != 256 || bodyLen % 4096 != 0 ||
  decide (bodyLen < 4096) || decide (16773120 < bodyLen) || decide (resultLen < 4096) || decide (16744448 < resultLen) ||
  decide (fieldAt 28 2 h < fieldAt 30 2 h) || decide (fieldAt 32 1 h < 1) || decide (3 < fieldAt 32 1 h) || decide (1 < flags) ||
  (flags == 1 && (slice 40 32 h).any (fun x => x != 0)) || (slice 34 6 h ++ slice 136 56 h).any (fun x => x != 0)
/-- R446: results 1, 2, 4 and 5, the checks that a slot's header copy must pass (R443); 0 where it does. -/
def State.headerCheck (s : State) (h : List Byte) : Nat :=
  if headerFieldsBad h then 1
  else if fieldAt 8 2 h ≠ 0x9640 ∨ fieldAt 10 2 h ≠ 1 then 2
  else match s.updateKey (fieldAt 28 2 h) with
    | none => 4
    | some key => if Config.ed25519 key (h.take 192) (slice 192 64 h) then 0 else 5
/-- R444: the manifest of an image is consistent with RESULT_LEN and TWIN_CLASS. -/
def State.manifestOk (s : State) (k : Nat) (h : List Byte) : Bool :=
  let m := Memory.readBytes s.store (slotBase k) 16
  let n := fieldAt 12 4 m
  fieldAt 0 4 m == 0x46494E4D && fieldAt 8 4 m == fieldAt 16 4 h && decide (16 + 16 * n ≤ fieldAt 24 4 h) &&
  (List.range n).all (fun i =>
    let e := Memory.readBytes s.store (slotBase k + 16 + 16 * i) 16
    decide (fieldAt 4 4 e + fieldAt 8 4 e ≤ fieldAt 24 4 h))
/-- The bytes of an image (R442). -/
def State.imageBytes (s : State) (k len : Nat) : List Byte := Memory.readBytes s.store (slotBase k) len
/-- R443: a slot is verified; its pages must be mapped. -/
def State.slotVerified (s : State) (k : Nat) : Bool :=
  let h := s.headerCopy k
  (s.portOf (4096 * k)).isSome && (s.portOf (4096 * k + 4095)).isSome && s.headerCheck h == 0 &&
  sha256 (s.imageBytes k (fieldAt 24 4 h)) == slice 72 32 h && s.manifestOk k h
/-- R446: the result of an update header, checked alone. -/
def State.updHeaderResult (s : State) (h : List Byte) : Nat :=
  let full := fieldAt 33 1 h == 1
  let base := slice 40 32 h
  let ver := fieldAt 12 4 h
  let imageMin := match s.plat.header with
    | some p => p.imageMin
    | none => 0
  let c := s.headerCheck h
  if c = 1 ∨ c = 2 then c
  else if !full ∧ (base ≠ slice 72 32 (s.headerCopy s.upd.slot) ∨ base.all (fun x => x == 0)) then 3
  else if c ≠ 0 then c
  else if ver < imageMin then 6
  else if s.par P.updAllowDowngrade = 0 ∧ ver < s.start.imageVersion then 7
  else if s.upd.trial then 15
  else 0

/-- First byte of the update staging region (R358). -/
def stagingBase : Nat := 8192 * 4096
/-- Block i of the staged body (R447). -/
def State.stagedBlock (s : State) (i : Nat) : List Byte := Memory.readBytes s.store (stagingBase + 4096 + i * 4096) 4096
/-- R447: a block with a correct CRC. -/
def blockOk (b : List Byte) : Bool := fieldAt 4092 4 b == crc32 (b.take 4092)
/-- R451: staged bytes that form whole good blocks without a gap, from block i on. -/
def State.stagedPrefix (s : State) : Nat → Nat → Nat
  | 0, _ => 0
  | n + 1, i => if blockOk (s.stagedBlock i) then 4096 + s.stagedPrefix n (i + 1) else 0
/-- R448: the operations of a block from a position in it; `out` is the output position. None: malformed. -/
def State.runOps (s : State) (full : Bool) (baseLen resultLen : Nat) (b : List Byte) : Nat → Nat → Nat → Option (List Byte)
  | 0, _, _ => some []
  | n + 1, p, out =>
    if 4092 ≤ p then some []
    else
      let code := fieldAt p 1 b
      if code = 0 then (if (slice p (4092 - p) b).all (fun x => x == 0) then some [] else none)
      else
        let src := fieldAt (p + 1) 4 b
        let len := if code = 1 then fieldAt (p + 5) 4 b else if code = 2 then fieldAt (p + 5) 2 b else fieldAt (p + 1) 2 b
        let head := if code = 1 then 9 else if code = 2 then 7 else 3
        let next := p + head + (if code = 1 then 0 else len)
        if 3 < code ∨ len = 0 ∨ 4092 < next ∨ resultLen < out + len ∨ (code ≠ 3 ∧ (full ∨ baseLen < src + len)) then none
        else
          let data := slice (p + head) len b
          let piece : List Byte :=
            if code = 1 then Memory.readBytes s.store (slotBase s.upd.slot + src) len
            else if code = 2 then List.zipWith (fun x y => x + y) (Memory.readBytes s.store (slotBase s.upd.slot + src) len) data
            else data
          (State.runOps s full baseLen resultLen b n next (out + len)).map (fun rest => piece ++ rest)

/-- R354: a device kind and capacity that the module supports. -/
def probeOk (p : PortProbe) : Bool := (p.kind == 1 || p.kind == 2) && [16, 32, 64, 128].contains p.mb
/-- R355, R356: a port takes up what its probe finds; factory bad blocks are remapped once. -/
def State.openPort (i : Fin 2) (p : PortProbe) (s : State) : State :=
  if !probeOk p then s.modPort i (fun q => { q with kind := 0, mb := 0, up := false })
  else
    let s := s.modPort i (fun q => { q with kind := p.kind, mb := p.mb, up := true })
    if p.kind = 2 ∧ !s.su.port[i.val].hasMap then
      p.bad.foldl (fun t b => (t.retireBlock i (b * 64 + (if i = 1 then t.portPages 0 else 0))).1) (s.modPort i (fun q => { q with hasMap := true }))
    else s
/-- R445, R455: why a slot in TRYING has failed; 0 where it has not. -/
def State.tryingEnd (s : State) (k : Nat) : Nat :=
  match s.lastEntry k with
  | none => 0
  | some e =>
    if s.ret.trialEnd ≠ 0 then s.ret.trialEnd
    else if s.start.cause &&& 7 = 0 then 3
    else if fieldAt 32 1 (s.headerCopy k) ≤ e.attempt then 4
    else 0
/-- R445: a slot is programmed FAILED. -/
def State.failSlot (k reason : Nat) (s : State) : State := (s.programEntry k 4 0 reason 0).updRecord 6 k reason
/-- R445: the slots in TRYING that a trial has ended for. -/
def State.endTrials (s : State) : State × Bool :=
  [0, 1].foldl (fun r k =>
    if r.1.slotState k = 2 ∧ r.1.tryingEnd k ≠ 0 then (r.1.failSlot k (r.1.tryingEnd k), true) else r) (s, false)
/-- R445: the candidates in order: a slot in TRIAL or TRYING, then the CONFIRMED by GENERATION. -/
def State.slotCandidates (s : State) : List Nat :=
  let gen (k : Nat) : Nat := match s.lastEntry k with
    | some e => e.gen
    | none => 0
  let confirmed := [0, 1].filter (fun k => s.slotState k == 3)
  let ordered := if confirmed = [0, 1] ∧ gen 0 < gen 1 then [1, 0] else confirmed
  ([0, 1].filter (fun k => s.slotState k == 1 || s.slotState k == 2)).take 1 ++ ordered
/-- R444, R445: a slot runs. -/
def State.runSlot (k : Nat) (fellBack : Bool) (s : State) : State :=
  let m := Memory.readBytes s.store (slotBase k) 16
  let trial := s.slotState k == 1 || s.slotState k == 2
  let attempt := match s.lastEntry k with
    | some e => (if e.state = 2 then e.attempt else 0) + 1
    | none => 1
  let s := if trial then (s.programEntry k 2 attempt 0 0).updRecord 4 k attempt else if fellBack then s.updRecord 8 k 0 else s
  let cause := if trial || fellBack then s.start.cause ||| cUpdate else s.start.cause
  { s with
    upd := { s.upd with slot := k, trial := trial, fallback := !trial && fellBack }
    start := { s.start with imageOk := true, imageVersion := fieldAt 4 4 m, twinClass := fieldAt 8 4 m, cause := cause }
    ret := { s.ret with trialEnd := 0 } }
/-- R445: the candidates are tried in order. -/
def State.tryCandidates : List Nat → Nat → Bool → State → State
  | [], _, _, s => { s with start := { s.start with noImage := true }, ret := { s.ret with trialEnd := 0 } }
  | k :: ks, readFault, fellBack, s =>
    if s.slotVerified k && !bitAt readFault k then s.runSlot k fellBack
    else
      let s := if s.slotState k = 1 ∨ s.slotState k = 2 then s.failSlot k 6 else s
      State.tryCandidates ks readFault true s
/-- R355, R445: in BOOT the store ports come up and a slot is chosen; bit k of `readFault` says that reading slot k met a
store fault (R443). -/
def execBootSlotSelect (saProbe sbProbe : PortProbe) (readFault : Nat) (s : State) : Host.Outcome State Fault Refusal :=
  if s.mode ≠ .boot ∨ s.start.imageOk ∨ s.start.noImage then .next s
  else
    let s := (s.openPort 0 saProbe).openPort 1 sbProbe
    let r := s.endTrials
    .next (State.tryCandidates r.1.slotCandidates readFault r.2 r.1)

end Sys2Proof.Machine
end

