-- ==== Sys2Proof/Machine/Learn.lean ====
section
/-! DEFINITION. Learned values: their sets as bytes (R217 to R219), snapshots and writes (R220, R221), and their reading
at start (R222). -/
namespace Sys2Proof.Machine

/-- First byte of the learned-values region (R358). -/
def learnBase : Nat := 12288 * 4096
/-- First byte of a full-set buffer (R217). -/
def fullBase (b : Nat) : Nat := learnBase + b * 448 * 4096
/-- First byte of a short slot (R217). -/
def shortBase (k : Nat) : Nat := learnBase + (896 + 2 * k) * 4096
/-- The valid mark (R218). -/
def learnMark : List Byte := leBytes 4 0xC35A5AC3
/-- Length of a full set and of a short set (R219). -/
def fullLen : Nat := 1253704
/-- Length of a short set. -/
def shortLen : Nat := 6216

/-- A binary64 as 8 bytes. -/
def f64Bytes (x : F64) : List Byte := leBytes 8 x.bits.toNat
/-- The binary64 at an offset. -/
def f64At (o : Nat) (bs : List Byte) : F64 := ⟨BitVec.ofNat 64 (fieldAt o 8 bs)⟩
/-- R218: the header of a set. -/
def LearnSet.header (l : LearnSet) (kind base : Nat) : List Byte :=
  leBytes 4 0x4E52454C ++ leBytes 2 1 ++ leBytes 1 kind ++ leBytes 1 l.trigger ++ leBytes 4 l.generation ++ leBytes 4 base ++
  leBytes 8 l.meridian ++ leBytes 4 l.frame ++ leBytes 4 l.powerCycles ++ leBytes 4 l.modelKey ++ leBytes 2 1536 ++
  leBytes 1 (b2n l.tai) ++ List.replicate 25 0
/-- R219: one bin. -/
def Bin.bytes (b : Bin) : List Byte :=
  f64Bytes b.rs ++ f64Bytes b.rp ++ f64Bytes b.cp ++ f64Bytes b.sRs ++ f64Bytes b.sRp ++ f64Bytes b.sCp ++
  leBytes 2 (b.count % 32768 + (if b.count = 0 then 32768 else 0))
/-- R219, R223: the end flags of a cell. -/
def EstCell.endFlags (e : EstCell) : Nat := b2n e.empty + 2 * b2n e.full + 4 * b2n e.disEmpty + 8 * b2n e.disFull + 16 * b2n e.capUnder
/-- R219: one cell block of 816 bytes. -/
def EstCell.block (e : EstCell) : List Byte :=
  f64Bytes e.soc ++ f64Bytes e.sSoc ++ f64Bytes e.h ++ f64Bytes e.cap ++ f64Bytes e.sCap ++ f64Bytes e.endQ ++ leInt 8 e.bledEver ++
  leBytes 2 e.endFlags ++ List.replicate 6 0 ++
  (List.range 15).flatMap (fun b => (nth e.bins b Bin.blank).bytes) ++ List.replicate 2 0
/-- R219: a full set, with its trailer. -/
def LearnSet.fullBytes (l : LearnSet) : List Byte :=
  let body := l.header 0 0 ++
    l.offsets.flatMap (fun o => f64Bytes o.1 ++ leBytes 8 o.2 ++ List.replicate 48 0) ++
    (List.range 1536).flatMap (fun i => (lookupD {} l.cells i).block)
  body ++ leBytes 4 (crc32 body) ++ learnMark
/-- A fraction as i16 with an LSB of 0.0001, saturating (R219). -/
def frac16 (x : F64) : Int := clampInt (-32768) 32767 (x.mul (F64.ofNat 10000)).round
/-- R219: a short set, with its trailer. -/
def LearnSet.shortBytes (l : LearnSet) (base : Nat) : List Byte :=
  let body := l.header 1 base ++ (List.range 1536).flatMap (fun i =>
    let e := lookupD {} l.cells i
    leInt 2 (frac16 e.soc) ++ leInt 2 (frac16 e.h))
  body ++ leBytes 4 (crc32 body) ++ learnMark

/-- R220: a set of the present state; its GENERATION is given when it is written. -/
def State.learnSet (s : State) (trigger generation : Nat) : LearnSet :=
  { trigger := trigger, generation := generation, meridian := s.time.frameStamp, frame := s.time.frame
    powerCycles := s.start.powerCycles, modelKey := modelKey s.plat.recs, tai := s.time.tai
    offsets := allLegs.map (fun l => (s.eleg[l.val].offset, s.eleg[l.val].calAt)), cells := s.est }
/-- R220, R221: the snapshot due at this frame boundary: written at once, or waiting behind the write in progress. -/
def execLearnedSnapshot (s : State) : Host.Outcome State Fault Refusal :=
  match s.learn.due with
  | none => .next s
  | some code =>
    match s.learn.writing with
    | none =>
      .next { s with learn := { s.learn with due := none, writing := some (s.learnSet code ((s.learn.generation + 1) % 2 ^ 32)) } }
    | some _ =>
      let code := match s.learn.waiting with
        | some w => min w.trigger code
        | none => code
      .next { s with learn := { s.learn with due := none, waiting := some (s.learnSet code 0) } }
/-- R220: LEARN_PERIOD has passed since the last snapshot. -/
def execLearnPeriodExpiry (s : State) : Host.Outcome State Fault Refusal := .next (s.learnTrigger 1)
/-- R220: the reset that an orderly shutdown was waiting for. -/
def State.finishShutdown (s : State) : State :=
  if s.learn.shutdown = 2 ∨ s.learn.shutdown = 3 then s.moduleReset cHost else s
/-- R220, R221: the full set being written has its mark, or met a store fault. -/
def execLearnedWriteComplete (fault : Nat) (s : State) : Host.Outcome State Fault Refusal :=
  match s.learn.writing with
  | none => .next s
  | some w =>
    let buffer := match s.learn.fullGen with
      | some _ => 1 - s.learn.fullBuffer
      | none => 0
    let next (gen : Nat) : Option LearnSet := s.learn.waiting.map (fun x => { x with generation := (gen + 1) % 2 ^ 32 })
    let erased := Memory.erase s.store (fullBase buffer) (448 * 4096)
    if fault ≠ 0 then
      let s := { s with store := erased, learn := { s.learn with writeFail := true, writing := next s.learn.generation, waiting := none } }
      .next (s.form 0x2004 1 71 noIndex w.generation fault)
    else
      let s := { s with
        store := Memory.writeBytes erased (fullBase buffer) w.fullBytes
        learn := { s.learn with
          lastTrigger := w.trigger, generation := w.generation, fullGen := some w.generation, fullBuffer := buffer
          writing := next w.generation, waiting := none } }
      .next (if w.trigger = 6 then s.finishShutdown else s)
/-- R220: 10 s have passed: the orderly shutdown goes on without its set. -/
def execShutdownPersistTimeout (s : State) : Host.Outcome State Fault Refusal := .next s.finishShutdown

/-- R222: a set at an address is valid: MAGIC, FORMAT, KIND, CRC and mark. -/
def validSet (mem : List Host.Cell) (base kind len : Nat) : Option (List Byte) :=
  let bs := Memory.readBytes mem base len
  let body := bs.take (len - 8)
  if fieldAt 0 4 bs = 0x4E52454C ∧ fieldAt 4 2 bs = 1 ∧ fieldAt 6 1 bs = kind ∧ fieldAt (len - 8) 4 bs = crc32 body ∧
     slice (len - 4) 4 bs = learnMark then some bs else none
/-- The full set in a buffer that qualifies under R222. -/
def State.fullSet (s : State) (b : Nat) : Option (List Byte) :=
  match validSet s.store (fullBase b) 0 fullLen with
  | some bs => if fieldAt 32 4 bs = modelKey s.plat.recs then some bs else none
  | none => none
/-- GENERATION of a set. -/
def genOf (bs : List Byte) : Nat := fieldAt 8 4 bs
/-- R219: a bin read back. -/
def binFrom (bs : List Byte) : Bin :=
  let info := fieldAt 48 2 bs
  { rs := f64At 0 bs, rp := f64At 8 bs, cp := f64At 16 bs, sRs := f64At 24 bs, sRp := f64At 32 bs, sCp := f64At 40 bs, count := info % 32768 }
/-- R219: a cell read back. -/
def cellFrom (bs : List Byte) : EstCell :=
  let fl := fieldAt 56 2 bs
  { soc := f64At 0 bs, sSoc := f64At 8 bs, socSet := true, h := f64At 16 bs, cap := f64At 24 bs, sCap := f64At 32 bs
    endQ := f64At 40 bs, bledEver := leSigned (slice 48 8 bs)
    empty := bitAt fl 0, full := bitAt fl 1, disEmpty := bitAt fl 2, disFull := bitAt fl 3, capUnder := bitAt fl 4
    bins := (List.range 15).map (fun b => binFrom (slice (64 + 50 * b) 50 bs)) }
/-- R222: the short set that overlays a full set: the higher GENERATION of the slots. -/
def State.shortSet (s : State) (gen : Nat) : Option (List Byte) :=
  let ok (k : Nat) : Option (List Byte) := match validSet s.store (shortBase k) 1 shortLen with
    | some bs => if fieldAt 12 4 bs = gen ∧ gen < genOf bs then some bs else none
    | none => none
  match ok 0, ok 1 with
  | some a, some b => if genOf a < genOf b then some b else some a
  | some a, none => some a
  | none, b => b
/-- R222: a short set applied to a cell. -/
def overlay (bs : List Byte) (i : Nat) (e : EstCell) : EstCell :=
  { e with soc := dec (leSigned (slice (64 + 4 * i) 2 bs)) 4, h := dec (leSigned (slice (66 + 4 * i) 2 bs)) 4, sSoc := e.sSoc.add (dec 5 3) }
/-- A short slot is erased. -/
def State.slotErased (s : State) (k : Nat) : Bool := s.store.all (fun c => !(decide (shortBase k ≤ c.1) && decide (c.1 < shortBase k + 8192)))
/-- R222: a cell as initialised; the counted SOC is that of the first fresh round, if one came before. -/
def State.initialCell (s : State) (leg : Leg) (k : Nat) : EstCell :=
  let e := s.freshCell leg
  let was := s.estCell k
  if was.socSet then { e with soc := was.soc, sSoc := was.sSoc, socSet := true } else e
/-- R222: the learned values are read, or every cell is initialised; the short slots are erased. -/
def execLearnedValuesRead (s : State) : Host.Outcome State Fault Refusal :=
  if s.mode ≠ .staking || s.start.learnedRead then .next s
  else
    let keys := allLegs.flatMap (fun l => (s.legKeys l).map (fun k => (l, k.2.2)))
    let pick : Option (Nat × List Byte) := match s.fullSet 0, s.fullSet 1 with
      | some a, some b => if genOf a < genOf b then some (1, b) else some (0, a)
      | some a, none => some (0, a)
      | none, some b => some (1, b)
      | none, none => none
    let s := { s with start := { s.start with learnedRead := true } }
    match pick with
    | none =>
      let s := { s with est := keys.foldl (fun (m : List (Nat × EstCell)) (k : Leg × Nat) => insertKey k.2 (s.initialCell k.1 k.2) m) []
                        store := Memory.erase s.store (shortBase 0) 16384
                        learn := { s.learn with initialised := true } }
      .next (s.form 0x2004 2 71 noIndex s.learn.generation 0)
    | some p =>
      let gen := genOf p.2
      let short := s.shortSet gen
      let cells := keys.foldl (fun (m : List (Nat × EstCell)) (k : Leg × Nat) =>
        let e := cellFrom (slice (64 + 256 + 816 * k.2) 816 p.2)
        insertKey k.2 (match short with
          | some bs => overlay bs k.2 e
          | none => e) m) []
      .next { s with
        est := cells
        store := Memory.erase s.store (shortBase 0) 16384
        eleg := Vector.ofFn (fun (i : Fin 4) => { s.eleg[i.val] with
          offset := f64At (64 + 64 * i.val) p.2, calAt := fieldAt (72 + 64 * i.val) 8 p.2, offsetKnown := true })
        learn := { s.learn with fullGen := some gen, fullBuffer := p.1, shortApplied := short.isSome, initialised := false
                                generation := match short with
                                  | some bs => genOf bs
                                  | none => gen } }
/-- R66, R221: the short set of last-gasp, into the first erased short slot. -/
def State.writeShort (s : State) : State :=
  let all := allLegs.flatMap (fun l => s.legKeys l)
  match s.learn.fullGen with
  | none => s
  | some base =>
    let set := all.all (fun k => (s.estCell k.2.2).socSet)
    let slot := if s.slotErased 0 then some 0 else if s.slotErased 1 then some 1 else none
    match slot with
    | none => s
    | some k =>
      if !s.start.learnedRead || (s.start.lastGaspFrom = .staking && !set) then s
      else
        let w := s.learnSet 7 ((s.learn.generation + 1) % 2 ^ 32)
        { s with store := Memory.writeBytes s.store (shortBase k) (w.shortBytes base)
                 learn := { s.learn with lastTrigger := 7, generation := w.generation, writing := none } }

end Sys2Proof.Machine
end

