-- ==== Sys2Proof/Machine/Flits.lean ====
section
/-! DEFINITION. The layout of a Baseline flit (R20): header, sequence, acknowledgement, control, tag, payload, CRC-16; and of a
Backsight flit (R302, R303). -/
namespace Sys2Proof.Machine

/-- The kind of a payload and its content as numbers. -/
def Payload.content : Payload → Nat × List Int
  | .bytes bs => (0, bs.map (fun b => (b.toNat : Int)))
  | .image sfi fbk readback => (1, [(sfi : Int), (fbk : Int), (readback : Int)])
  | .setPoint leg frame sample sp =>
    (2, [(leg.val : Int), (frame : Int), (sample : Int), sp.iSet, sp.vRef, (sp.w : Int), sp.iOff, sp.limPos, sp.limNeg])
  | .sampleCopy leg codes a b => (3, (leg.val : Int) :: (a : Int) :: (b : Int) :: codes.toList)
  | .bundle x =>
    (4, x.legMa.toList ++ x.md.toList ++ x.acc.toList ++ (x.ntc.toList ++ x.vmot.toList ++ x.tach.toList ++ x.n.toList).map Int.ofNat ++ x.die.toList)
  | .outputs axes fans => (5, axes ++ fans.toList.map Int.ofNat)
  | .train leg serial => (6, [(leg.val : Int), (serial : Int)])
  | .ringFrame leg fromB cmd payload => (7, (leg.val : Int) :: (b2n fromB : Int) :: (cmd : Int) :: payload.map (fun b => (b.toNat : Int)))
  | .microcode leg => (8, [(leg.val : Int)])
/-- Bytes cut or filled with zeros to k. -/
def fitBytes (k : Nat) (bs : List Byte) : List Byte := (bs ++ List.replicate k 0).take k
/-- R20: the 56 payload bytes. The permit's are R289's; those of the others are free (log 261). -/
def Payload.body (p : Payload) : List Byte :=
  match p with
  | .bytes bs => fitBytes 56 bs
  | p => fitBytes 56 (Config.payloadBytes p.content.1 p.content.2)
/-- R20: bytes 0 to 61 of a flit. -/
def Flit.head (f : Flit) : List Byte :=
  leBytes 1 (f.cls * 32 + f.typ) ++ leBytes 1 f.seq ++ leBytes 1 f.ack ++ leBytes 1 (b2n f.nak) ++ leBytes 2 f.tag ++ f.payload.body
/-- R20: the 64 bytes of a flit: its CRC-16 over bytes 0 to 61 stands in bytes 62 and 63, low byte first. -/
def Flit.bytes (f : Flit) : List Byte := f.head ++ leBytes 2 (crc16 f.head)
/-- R20: the receiver's check of 64 bytes. -/
def flitGood (b : List Byte) : Bool := b.length == 64 && fieldAt 62 2 b == crc16 (b.take 62)
/-- The 64 bytes as the lanes bring them: as sent, or damaged so that the CRC fails. -/
def Flit.arrives (f : Flit) (whole : Bool) : List Byte :=
  if whole then f.bytes else f.head ++ leBytes 2 (65535 - crc16 f.head)

/-- R303: the class 1 payload: the code of MDi in bits 18i + 17 to 18i of bytes 0 to 40, one little-endian bit string. -/
def codesPayload (codes : Vector Int 18) : List Byte :=
  leBytes 41 ((codes.toList.zipIdx).map (fun c => (c.1 % 2 ^ 18).toNat * 2 ^ (18 * c.2))).sum
/-- R303: the class 2 payload: C_0 to C_7, PWMEN levels, HELD and NOT_COMPUTED. -/
def wordsPayload (w : SampleWords) : List Byte :=
  ((List.range 8).map (fun p => leBytes 2 (nth w.c p 0))).flatten ++ leBytes 1 w.pwmen ++ leBytes 1 (w.held + 16 * w.notComputed)
/-- R306: the layout of a further entry of a seal bundle. -/
def entryBytes (e : SealEntry) : List Byte := leBytes 1 e.typ ++ leBytes 1 e.source ++ leBytes 2 e.data.length ++ leBytes 8 e.stamp ++ e.data
/-- The kind of a Backsight message without a layout and its content as numbers (log 261). -/
def TwinMsg.content : TwinMsg → Nat × List Int
  | .time stamp => (32, [(stamp : Int)])
  | .status t => (33, [(t.role : Int), (t.unit : Int), (t.serial : Int), (t.key : Int), (t.compat : Int), (t.readback : Int), (b2n t.fault : Int)])
  | .permitWords bs => (34, bs.map (fun b => (b.toNat : Int)))
  | .frameWords w => (35, w.axes ++ (w.fans ++ w.legs).map Int.ofNat ++ [(w.mode : Int)])
  | .w2 done => (36, [(b2n done : Int)])
  | .verdict ok => (37, [(b2n ok : Int)])
  | .joinRequest => (38, [])
  | .joinAccept => (39, [])
  | .joinAck n => (40, [(n : Int)])
  | .launch leg cmd stake payload => (41, (leg.val : Int) :: (cmd : Int) :: (stake : Int) :: payload.map (fun b => (b.toNat : Int)))
  | .train leg fromB back => (42, (leg.val : Int) :: (b2n fromB : Int) :: (b2n back.badCommand : Int) :: (back.rtt : Int) :: back.badRecords.map Int.ofNat)
  | .block index data => (43, (index : Int) :: data.map (fun b => (b.toNat : Int)))
  | .bundle x => (44, (x.frame : Int) :: (x.stamp : Int) :: (x.sfi : Int) :: (x.entries.length : Int) :: x.latch.md.toList)
  | .entry e => (45, (entryBytes e).map (fun b => (b.toNat : Int)))
  | .codes _ _ _ | .words _ _ _ | .idle => (46, [])
/-- R303: the 56 payload bytes of a Backsight flit. Those without a layout are free (log 261); an idle flit's are 0 (log 264). -/
def TwinMsg.body (m : TwinMsg) : List Byte :=
  match m with
  | .codes _ _ c => fitBytes 56 (codesPayload c)
  | .words _ _ w => fitBytes 56 (wordsPayload w)
  | .idle => fitBytes 56 []
  | m => fitBytes 56 (Config.payloadBytes m.content.1 m.content.2)
/-- R302: TAG: frame and sample for classes 1 and 2, else the frame. -/
def TwinMsg.tag (m : TwinMsg) (frame : Nat) : Nat :=
  match m with
  | .codes f k _ | .words f k _ => f % 1024 * 64 + k
  | _ => frame % 65536
/-- R302: bytes 0 to 61 of a Backsight flit. -/
def backHead (cls seq ack : Nat) (nak : Bool) (frame : Nat) (m : TwinMsg) : List Byte :=
  leBytes 1 (cls * 32) ++ leBytes 1 seq ++ leBytes 1 ack ++ leBytes 1 (b2n nak) ++ leBytes 2 (m.tag frame) ++ m.body
/-- R302: the 64 bytes of a Backsight flit, its CRC-16 over bytes 0 to 61. -/
def backFlit (cls seq ack : Nat) (nak : Bool) (frame : Nat) (m : TwinMsg) : List Byte :=
  backHead cls seq ack nak frame m ++ leBytes 2 (crc16 (backHead cls seq ack nak frame m))

end Sys2Proof.Machine
end

