-- ==== Sys2Proof/Machine/TwinOps.lean ====
section
/-! DEFINITION. Twin operation, the shared part: membership (R299), messages (R303), divergences (R308), own faults
(R313), the takeover decision (R314), arbitration (R312), joins (R309). -/
namespace Sys2Proof.Machine

/-- LEG_STATE (R257). -/
def LegSt.code : LegSt → Nat
  | .disabled => 0
  | .softStart => 1
  | .running => 2
  | .loadStepOff => 3
  | .draining => 4
  | .retryWait => 5
  | .fault => 6
  | .waitBus => 7
/-- R299: what the peer announces allows it to join. -/
def State.compatible (s : State) (t : TwinStatus) : Bool :=
  (t.unit : Int) != s.par P.unit && (s.par P.peerSerial == 0 || s.par P.peerSerial == t.serial) &&
  t.compat == s.start.twinClass && t.key == twinKey s.plat.recs
/-- The pair computes in step (R308, R312). -/
def TwinStep.paired (t : TwinStep) : Bool := t == .inStep || t == .suspect || t == .dispute
/-- R309, R313: an eligible standby exists, seen from either unit. -/
def State.pairReady (s : State) : Bool :=
  s.twin.step.paired && (match s.twin.eligibleFrom with
    | some f => decide (f ≤ s.time.frame)
    | none => false)
/-- R313: this unit is an eligible standby. -/
def State.canTakeOver (s : State) : Bool := s.role == .standby && s.pairReady && !s.twin.ownFault && s.twin.decided.isNone
/-- A TWIN record (R389). -/
def State.twinRecord (source code index : Nat) (s : State) : State := s.form 0x4801 code source index s.time.frame 0
/-- R289, R316: FORCEOFF_N ends the unit's hold and its switching. -/
def State.outputsOff (s : State) : State :=
  let s := allPhases.foldl (fun t p => t.modPwm p (fun q => { q with on := false })) s
  { s with sf := { s.sf with output := s.sf.output.map (fun o => { o with driven := false }) } }
/-- R397: the new active unit sends a gratuitous ARP for SERVICE_ADDR on both LANs. -/
def State.announceService (s : State) : State :=
  if s.par P.serviceAddr = 0 then s
  else { s with net := { s.net with gratuitous := s.net.gratuitous + 1, txSeq := (s.net.txSeq + 1) % 65536 } }
/-- R419: the subscriptions and followers of the old active unit end. -/
def State.endListeners (s : State) : State := { s with host := { s.host with subs := [], followers := [] } }
/-- R312, R314: the unit becomes ESTRANGED until its reset, its FORCEOFF_N held low (log 72: in FAULT-HOLD). -/
def State.estrange (s : State) : State :=
  let s := s.endListeners
  let s := { s.outputsOff with role := .estranged, sf := { s.sf with forceoff := true, output := s.outputsOff.sf.output } }
  let s := s.modTwin (fun w => { w with step := .none, eligibleFrom := none, decided := none, swapAt := none, activeN := false
                                        takeoverOut := false, waiting := false })
  if s.inStates [.off, .boot, .plat] then s else s.enterFaultHold
/-- R321: the last eligible standby is lost. -/
def State.loseStandby (s : State) : State :=
  if s.role = .active then s.modTwin (fun w => { w with step := .none, eligibleFrom := none, degraded := true, swapAt := none, releaseAt := none })
  else s
/-- R308: a local divergence: step joining, counted and recorded; more than three within 10 min estrange a standby. -/
def State.diverge (s : State) : State :=
  let s := s.twinRecord 129 16 noIndex
  let s := s.modTwin (fun w =>
    { w with step := .joining, eligibleFrom := none, blocks := 0, final := false, divergences := incSat w.divergences, swapAt := none
             own := none, peer := none
             divergeAt := s.time.meridian :: w.divergeAt.filter (fun t => decide (s.time.meridian < t + 600 * ticksPerSecond))
             takeoverOut := w.takeoverOut || s.isActive, degraded := w.degraded || s.isActive, releaseAt := none })
  if s.role = .standby then
    (if s.twin.divergeAt.length > 3 then s.estrange else s.twinSend 3 .joinRequest)
  else s
/-- R313, R314: an eligible standby decides to take over at this moment D. -/
def State.decideTakeover (outcome : Nat) (s : State) : State :=
  if !s.canTakeOver then s
  else
    (s.modTwin (fun w => { w with decided := some s.time.meridian, outcome := outcome, takeovers := incSat w.takeovers
                                  lastTakeover := s.time.meridian, swapAt := none })).twinRecord 130 outcome noIndex
/-- R300, R310, R316: what the unit announces. -/
def State.announce (s : State) : TwinStatus :=
  { role := s.role.code, unit := (s.par P.unit).toNat, serial := s.fuses.serial, key := twinKey s.plat.recs, compat := s.start.twinClass
    readback := s.sf.imgReadback, fault := s.twin.ownFault }
/-- R313: the unit declares its own fault; where it is no twin member, or active without an eligible standby, it acts
as a single module would. -/
def State.declareFault (single : State → State) (s : State) : State :=
  if !s.twinMember then single s
  else
    match s.role with
    | .estranged => single s
    | .standby => (s.modTwin (fun w => { w with ownFault := true, aliveOut := false, outcome := 7 })).estrange
    | .active =>
      if s.pairReady then
        let s := s.modTwin (fun w => { w with ownFault := true, aliveOut := false, outcome := 7, swapAt := none })
        (s.twinSend 3 (.status s.announce)).twinRecord 129 7 noIndex
      else single s
/-- R310: the sample words of the unit at a write. -/
def State.sampleWords (s : State) : SampleWords :=
  { c := allPhases.map (fun p => s.pwm[p.val].written)
    pwmen := (allLegs.map (fun l => if s.conv[l.val].pwmen then 2 ^ l.val else 0)).sum
    held := (allLegs.map (fun l => if s.cle[l.val].heldNow then 2 ^ l.val else 0)).sum
    notComputed := if s.twin.missing then 15 else 0 }
/-- R310: the frame words of the unit at 850 µs. -/
def State.frameWords (s : State) : FrameWords :=
  { axes := s.axis.toList.map Axis.given, fans := s.therm.fanNext.toList
    legs := s.conv.toList.map (fun c => c.st.code), mode := s.mode.code }
/-- The position of the first difference of two lists. -/
def firstDiff : List Int → List Int → Option Nat
  | [], [] => none
  | x :: xs, y :: ys => if x = y then (firstDiff xs ys).map (· + 1) else some 0
  | _, _ => some 0
/-- R310: the sample words as numbers: C_0 to C_7, then PWMEN. -/
def sampleFlat (w : SampleWords) : List Int := w.c.map Int.ofNat ++ [(w.pwmen : Int)]
/-- R310: the compared bytes of a permit: 0 to 2 and 4 to 7. -/
def permitWords (p : List Byte) : List Int := ((p.take 3) ++ (slice 4 4 p)).map (fun b => (b.toNat : Int))
/-- R310: the frame words at 850 µs as numbers. -/
def frameFlat (w : FrameWords) : List Int :=
  w.axes ++ w.fans.map Int.ofNat ++ w.legs.map Int.ofNat ++ [(w.mode : Int)]
/-- R311, R312: a mismatch opens a dispute on the word of a given index of R310. -/
def State.openDispute (word : Nat) (s : State) : State :=
  let s := s.modTwin (fun w => { w with step := .dispute, mismatches := incSat w.mismatches, disputeWord := word
                                        disputeFrame := s.time.frame % 65536, own := none, peer := none, swapAt := none })
  s.form 0x4801 s.twin.outcome 129 word s.time.frame 0
/-- R311: the recomputation of a kept sample agrees with the compare values that were written. -/
def State.recomputed (s : State) (leg : Leg) (h : CleSample) : Bool :=
  let c := s.computeCle leg h.direct { s.cle[leg.val] with word := h.word, bank := h.bank, comp := h.comp, codes := h.codes }
  match h.written with
  | none => true
  | some w => s.compareOf leg c.out[1] == w.1 && s.compareOf leg c.out[2] == w.2
/-- R311: the unit's verdict on the disputed sample. -/
def State.sampleVerdict (s : State) : Bool :=
  allLegs.all (fun l => (s.cle[l.val].hist.filter (fun h => h.frame == s.twin.suspectAt.1 && h.sample == s.twin.suspectAt.2)).all
    (fun h => s.recomputed l h))
/-- R312: the arbitration, once both verdicts are in. -/
def State.arbitrate (s : State) : State :=
  if s.twin.step ≠ .dispute then s
  else
    match s.twin.own, s.twin.peer with
    | some own, some peer =>
      let a := if s.isActive then own else peer
      let b := if s.isActive then peer else own
      let outcome := if !a && b then 1 else if a && !b then 2 else if a then 3 else 4
      let word := s.twin.disputeWord
      let s := (s.modTwin (fun w => { w with outcome := outcome, disputeOutcome := outcome })).twinRecord 129 outcome word
      if outcome = 1 then (if s.role = .standby then s.decideTakeover 1 else s)
      else
        let s := if outcome > 2 then s.event 0x4801 outcome 129 word s.time.frame 0 else s
        if s.isActive then s.loseStandby.modTwin (fun w => { w with takeoverOut := true }) else s.estrange
    | _, _ => s
/-- R319: the condition SWAP_READY. -/
def State.swapReady (s : State) : Bool :=
  s.twin.step == .inStep && s.pairReady && s.twin.swapAt.isNone && s.str.modeChange.isNone && s.mode != .stopping && s.sf.stopCat == 0 &&
  decide (s.twin.inStepAt + s.parN P.swapMinInstep * ticksPerSecond ≤ s.time.meridian)
/-- R308: the active unit accepts a join. -/
def State.acceptsJoin (s : State) : Bool :=
  s.inStates [.surveyed, .armed, .running] && s.sf.stopCat == 0 && s.str.modeChange.isNone && s.twin.swapAt.isNone
/-- R309: a stop, a mode change or a swap abandons a join in progress. -/
def State.abandonJoin (s : State) : State :=
  if s.twin.step = .joining then s.modTwin (fun w => { w with step := if s.role = .standby then .joining else .none, blocks := 0, final := false }) else s
/-- R307, R310: class 1 and class 2 traffic exists only in a pair whose link is up. -/
def State.sendCodes (codes : Vector Int 20) (s : State) : State :=
  if s.isActive && s.twin.step.paired then
    s.twinSend 1 (.codes s.time.frame s.grid.sample (Vector.ofFn (fun (i : Fin 18) => codes[i.val])))
  else s
/-- R310: a unit sends its sample words at the write and keeps them for the comparison. -/
def State.sendWords (s : State) : State :=
  if s.twin.step.paired then
    let w := s.sampleWords
    (s.twinSend 2 (.words s.time.frame s.grid.sample w)).modTwin (fun t => { t with ownWords := some w })
  else s

end Sys2Proof.Machine
end

