-- ==== Sys2Proof/Machine/Latch.lean ====
section
/-! DEFINITION. What a frame takes over from the field die's latch at its boundary (R21 classes 0 and 2, R42): the
safety image, the filtered values, the coulomb accumulators, temperatures and motor voltages. -/
namespace Sys2Proof.Machine

/-- The filtered safety inputs as one word: bit n, SFIn (R297). -/
def State.sfiWord (s : State) : Nat := ((List.range 16).map (fun i => match s.sf.input[i]? with
  | some c => if c.filtered then 2 ^ i else 0
  | none => 0)).sum
/-- R175: the accumulators of a leg advance by what the latch brings, modulo 2^64. -/
def State.countLatch (leg : Leg) (sum : Int) (n : Nat) (s : State) : State :=
  s.modEleg leg (fun g => { g with acc := (g.acc + sum) % (2 ^ 64 : Int), n := (g.n + n) % 2 ^ 64 })
/-- R482: an input whose phase training failed reads 0. -/
def State.trained (s : State) (xs : Vector Int 20) : Vector Int 20 :=
  Vector.ofFn (fun (i : Fin 20) => if s.start.mckPhase[i.val] = 17 then 0 else xs[i.val])
/-- R42: what the field die latches at a frame boundary: values, its tach counts, and the accumulators as they have grown. -/
def Latched.latch (l : FieldLatch) (md : Vector Int 20) (tach : Vector Nat 4) (x : Latched) : Latched :=
  { legMa := Vector.ofFn (fun (i : Fin 4) => md.toList.getD (4 * i.val + 2) 0)
    md := md, ntc := l.ntc, die := l.die, vmot := l.vmot, tach := tach
    acc := Vector.ofFn (fun (i : Fin 4) => (x.acc[i.val] + l.accSum[i.val]) % (2 ^ 64 : Int))
    n := Vector.ofFn (fun (i : Fin 4) => (x.n[i.val] + l.accN[i.val]) % 2 ^ 64) }
/-- R42: the field die's own latch. -/
def State.latchField (l : FieldLatch) (s : State) : State :=
  { s with fld := s.fld.latch l (s.trained l.md) s.therm.tachNow, therm := { s.therm with tachNow := Vector.replicate 4 0 }
           sf := { s.sf with fbk := l.fbk } }
/-- R21: the flits of a frame boundary: the safety image in class 0 and the measurement bundle in class 2. -/
def State.boundaryFlits (readback : Nat) (s : State) : State :=
  let tag := s.time.frame % 65536
  (s.pushFlit .f2c 0 0 tag (.image s.sfiWord s.sf.fbk readback)).pushFlit .f2c 2 0 tag (.bundle s.fld)
/-- R175, R176: what a measurement bundle adds to the core die's view of the accumulators. -/
def State.sealCounts (x : Latched) (s : State) : State :=
  allLegs.foldl (fun t g => t.countLatch g (x.acc[g.val] - s.lat.acc[g.val]) ((x.n[g.val] + 2 ^ 64 - s.lat.n[g.val]) % 2 ^ 64)) s
/-- R21, R28: a measurement bundle becomes the frame's. -/
def State.sealBundle (x : Latched) (s : State) : State := { s.sealCounts x with lat := x }
/-- R21: the safety image of a latch. -/
def State.takeImage (sfi fbk readback : Nat) (s : State) : State :=
  { s with sf := { s.sf with imgSfi := sfi, imgFbk := fbk, imgReadback := readback } }
/-- R306: the measurement bundle of an active unit becomes a standby's, whose own accumulators count on unseen. -/
def State.takeBundle (l : FieldLatch) (s : State) : State :=
  let s := allLegs.foldl (fun t g => t.countLatch g l.accSum[g.val] l.accN[g.val]) s
  { s with lat := { s.lat with
      md := l.md, legMa := Vector.ofFn (fun (i : Fin 4) => l.md.toList.getD (4 * i.val + 2) 0), ntc := l.ntc, die := l.die, vmot := l.vmot
      acc := s.fld.acc, n := s.fld.n } }

end Sys2Proof.Machine
end

