-- ==== Sys2Proof/Machine/Convert.lean ====
section
/-! DEFINITION. Commands of the leg converters and the control-law engines: starting (R245 to R247), samples (R234, R269,
R270), PWM (R232, R248 to R250), overload and load steps (R251, R252), drains (R253), headroom (R256). -/
namespace Sys2Proof.Machine

/-- R245: the two conditions for soft start, on the frame means. -/
def State.busReady (s : State) (leg : Leg) : Bool :=
  (s.str.running != 0 || decide (s.par P.busLive * s.par P.vBusNom ≤ 1000 * s.vBusMean)) &&
  decide (s.vBusMean * (1000 + s.par P.headroom) ≤ 1000 * s.vLegMean leg)
/-- R246: in bus-forming mode V_REF begins at the frame mean of V_bus where no leg runs yet. -/
def State.startReference (s : State) : State :=
  if s.str.running ≠ 1 ∨ s.str.kind ≠ 2 ∨ allLegs.any (fun l => s.conv[l.val].st.live) then s
  else { s with str := { s.str with
    x := s.vBusMean * 1000, rate := (s.str.xt.natAbs * 1000) / (max 1 (s.parN P.tSs)) } }
/-- R245, R284: the conditions have held for 10 ms and the contactors are closed: the leg starts. -/
def execLegWaitBusReady (leg : Leg) (s : State) : Host.Outcome State Fault Refusal :=
  let c := s.conv[leg.val]
  if c.st = .waitBus ∧ c.enabled ∧ s.mode = .running ∧ s.busReady leg ∧ s.sf.seqStep = 5 ∧ !s.therm.stageTrip[leg.val] then
    .next (s.startReference.enterSoftStart leg)
  else .next s
/-- R247: V_bus has stayed below SHORT_V × V_BUS_NOM for SHORT_T from the first pulse. -/
def execStartIntoShort (s : State) : Host.Outcome State Fault Refusal :=
  let legs := allLegs.filter (fun l => s.conv[l.val].st == .softStart)
  if !legs.any (fun l => s.conv[l.val].pulsed) then .next s
  else
    let limit := roundDiv (s.par P.shortV * s.par P.vBusNom) 1000
    if s.str.retries ≥ s.parN P.startRetries then
      .next (legs.foldl (fun t l => t.latchLeg l 6 (t.iBusLatch l) limit) s)
    else
      let s := { s with str := { s.str with retries := s.str.retries + 1 } }
      .next (legs.foldl (fun t l =>
        ((t.brakeLeg l .retryWait 0).yieldLeg l .protection).form 0x3001 17 (36 + l.val) l.val (t.iBusLatch l) limit) s)
/-- R247: RETRY_SPACING has passed: the leg starts again under R245. -/
def execRetrySpacingExpiry (leg : Leg) (s : State) : Host.Outcome State Fault Refusal :=
  if s.conv[leg.val].st = .retryWait then .next (s.modConv leg (fun c => { c with st := .waitBus })) else .next s

/-- R231: the codes of a latch with the offsets of the current channels taken off. -/
def State.corrected (s : State) (codes : Vector Int 20) : Vector Int 20 :=
  Vector.ofFn (fun (i : Fin 20) => clampInt (-131071) 131071 ((s.trained codes)[i.val] - s.mdOffset[i.val]))
/-- R270, R272: the word, the limit set and the bank that apply at this latch. -/
def State.applyWord (s : State) (leg : Leg) (c : Cle) : Cle :=
  let f := s.time.frame % 1024
  let k := s.grid.sample
  let mine := c.words.find? (fun w => w.1 == f && w.2.1 == k)
  let keep := c.words.filter (fun w => (w.1 == f && decide (k < w.2.1)) || w.1 == (f + 1) % 1024)
  let computes := s.conv[leg.val].st == .softStart || s.conv[leg.val].st == .running || s.conv[leg.val].st == .draining
  let c := match mine with
    | some w => { c with word := w.2.2, words := keep, heldNow := false }
    | none => { c with words := keep, heldNow := computes, held := if computes then incSat c.held else c.held }
  if k = 0 then
    let c := { c with bankSelect := c.bankDue.getD c.bankSelect, bankDue := none, outPrev := c.out }
    if s.mode = .armed ∨ s.mode = .running then { c with bank := s.selectBank leg s.str.running true c } else c
  else c
/-- R246: the bound S on a set-point. -/
def boundBy (soft share : Int) : Int := if share < 0 then max share (-(soft / 1000)) else min share (soft / 1000)
/-- R237, R246, R253: the word an engine computes with: ramped, bounded by S in a soft start, or as written. -/
def State.wordInForce (s : State) (leg : Leg) (w : SetPoint) : SetPoint :=
  let c := s.conv[leg.val]
  match c.ramp with
  | some r => if r.direct then w else { w with iSet := roundDiv r.ref 1000 }
  | none =>
    if c.st = .softStart then
      if s.str.running = 1 then { w with limPos := min w.limPos (c.soft / 2000), limNeg := min w.limNeg (c.soft / 2000) }
      else { w with iSet := boundBy c.soft w.iSet }
    else w
/-- R251: one overload filter over one sample: τ in ns. -/
def State.filterStep (s : State) (y : F64) (mA : Int) (tauNs : Nat) : F64 :=
  y.add (((F64.ofInt mA).sub y).mul (F64.ofRatio (s.period * 5 : Nat) tauNs))
/-- R251: the overload level of a filter, mA. -/
def State.ovlLevel (s : State) (leg : Leg) (p : Par) : F64 := F64.ofRatio (s.par p leg.val * s.par P.iRated leg.val) 1000
/-- R246 to R253: what a leg keeps at a latch: S, ramps, filters and counters. -/
def State.latchConv (s : State) (leg : Leg) (c : LegConv) : LegConv :=
  let t := s.period * 5
  let ib := s.iBusLatch leg
  let il : Int := (physical (s.cle[leg.val].code (4 * leg.val + 2)) (s.par P.legIFs leg.val)).natAbs
  let f10 := s.filterStep c.f10 il 10000000
  let f1 := s.filterStep c.f1s il 1000000000
  let ramp := c.ramp.map (fun r => { r with ref := towardsZero r.ref (s.rampStep leg r.direct) })
  let atZero := match ramp with
    | some r => r.ref == 0
    | none => false
  let half := roundDiv (s.par P.reenterI * s.par P.iRated leg.val) 2000
  let quiet := decide ((s.iPhaseLatch (phaseA leg)).natAbs < half) && decide ((s.iPhaseLatch (phaseB leg)).natAbs < half)
  { c with
    f10 := f10, f1s := f1
    overload := (s.ovlLevel leg P.ovlLvl10ms).lt f10 || (s.ovlLevel leg P.ovlLvl1s).lt f1
    ramp := ramp
    zeroCycles := if atZero then c.zeroCycles + s.period else 0
    lowRun := if decide ((ib.natAbs : Int) < s.par P.iZeroLeg leg.val) then c.lowRun + 1 else 0
    reenterRun := if c.st = .loadStepOff ∧ quiet then c.reenterRun + 1 else 0
    lead := c.lead - 1
    soft := if c.st = .softStart then c.soft + roundDiv (s.par P.ssRate * t) 1000 else c.soft }
/-- R246: the soft start of a leg is complete at this latch. -/
def State.softDone (s : State) (leg : Leg) (w : SetPoint) : Bool :=
  let c := s.conv[leg.val]
  c.st == .softStart && c.plannedFor == some s.time.frame &&
  (if s.str.running = 1 then w.vRef == roundDiv s.str.xt 1000 else decide ((w.iSet.natAbs : Int) * 1000 ≤ c.soft))
/-- R311: the inputs of a sample enter the 16 that a twin keeps. -/
def keepSample (frame sample : Nat) (w : SetPoint) (direct : Option Int) (c : Cle) : Cle :=
  let h : CleSample :=
    { frame := frame, sample := sample, codes := c.codes, word := w, bank := c.bank, direct := direct, comp := c.comp, written := none }
  { c with hist := (h :: c.hist).take 16 }
/-- R234, R270, R271: one leg at a latch, its codes already stored. -/
def State.latchLegSample (leg : Leg) (s : State) : State :=
  let s := s.modCle leg (s.applyWord leg)
  let s := s.modConv leg (s.latchConv leg)
  let c := s.conv[leg.val]
  let e := s.cle[leg.val]
  let written := e.word
  let w := s.wordInForce leg written
  let computes := c.st == .softStart || c.st == .running || c.st == .draining
  let direct := match c.ramp with
    | some r => if r.direct then some (roundDiv r.ref 1000) else none
    | none => none
  let s := if computes ∧ s.twinMember then s.modCle leg (keepSample s.time.frame s.grid.sample w direct) else s
  let s := s.modCle leg (fun x =>
    if computes then { s.computeCle leg direct { x with word := w } with word := written }
    else { x with running := false })
  let tgt := if s.str.running = 1 then
      roundDiv ((w.w : Int) * (allPhases.map (fun p => s.iPhaseLatch p)).sum) 10000 + w.iOff
    else w.iSet
  let done := s.softDone leg written
  let s := s.modConv leg (fun c =>
    { c with
      setpoint := if computes then tgt else c.setpoint
      limited := computes && (w.iSet != written.iSet || (s.str.running == 0 && c.ramp.isNone && decide (written.iSet ≠ 0) &&
        (written.iSet == 2 * written.limPos || written.iSet == -(2 * written.limNeg))))
      st := if done then .running else c.st })
  if done then { s with str := { s.str with retries := 0 } } else s
/-- R234: every engine takes the codes and the words addressed to it, and computes. -/
def State.latchSample (codes : Vector Int 20) (s : State) : State :=
  let x := s.corrected codes
  let s := allLegs.foldl (fun t l => t.modCle l (fun c => { c with codes := x })) s
  allLegs.foldl (fun t l => t.latchLegSample l) s
/-- R34, R35, R234: the latch instant of the sample in progress, φs of its period after its beginning, and its stamp by the
field die's copy. -/
def State.stampLatch (s : State) : State :=
  let s := s.at' (s.stampAfter (roundDiv (s.period * s.parN P.phiS 0 : Nat) 10000).toNat).1
  s.modGrid (fun g => { g with latched := some (s.time.frame, g.sample), latchStamp := s.fieldStamp })
/-- R21: the copies of what an engine has taken in and put out, handed to class 1 towards the core die. -/
def State.sampleFlits (s : State) : State :=
  allLegs.foldl (fun t l =>
    if t.cle[l.val].running then
      t.pushFlit .f2c 1 l.val (t.time.frame % 1024 * 64 + t.grid.sample)
        (.sampleCopy l t.cle[l.val].codes t.pwm[(phaseA l).val].written t.pwm[(phaseB l).val].written)
    else t) s
/-- R234, R307: the latch of a sample. An active unit computes and forwards its codes; a standby keeps its own for
comparison and computes 3 µs later, on the forwarded ones, unless it has decided to take over (R314). -/
def execSampleLatch (codes : Vector Int 20) (s : State) : Host.Outcome State Fault Refusal :=
  let s := s.stampLatch
  if s.role = .standby ∧ s.twin.decided = none then .next (s.modTwin (fun w => { w with ownCodes := codes, missing := false }))
  else .next ((s.latchSample codes).sendCodes codes)
/-- R269, R310: the write instant: the compare values of the next sample period, and the words of a twin. -/
def execCompareWrite (s : State) : Host.Outcome State Fault Refusal :=
  .next (allLegs.foldl (fun t l =>
    if t.cle[l.val].running then
      let a := t.compareOf l t.cle[l.val].out[1]
      let b := t.compareOf l t.cle[l.val].out[2]
      let t := (t.modPwm (phaseA l) (fun q => { q with written := a })).modPwm (phaseB l) (fun q => { q with written := b })
      t.modCle l (fun c => { c with hist := updAt c.hist 0 (fun h => { h with written := some (a, b) }) })
    else t) s).sampleFlits.sendWords

/-- R250: FAULT_CAUSE of a phase that latches. -/
def phaseCause (p : Phase) (desat : Bool) : Nat := (if desat then 3 else 1) + p.val % 2
/-- R250: a phase latches, and with it its leg. -/
def State.latchPhase (p : Phase) (s : State) : State :=
  let q := s.pwm[p.val]
  let cause := phaseCause p q.runDesat
  let limit := s.par P.fastLim (legOf p).val
  (s.formField 0x3001 cause (4 + p.val) p.val q.tripMa limit).latchLeg (legOf p) cause q.tripMa limit
/-- R232, R234, R248 to R250: a carrier start of a phase: its compare value, the end of a trip hold, the trip counts. -/
def execPwmCarrierStart (p : Phase) (s : State) : Host.Outcome State Fault Refusal :=
  let leg := legOf p
  let c := s.conv[leg.val]
  let q := s.pwm[p.val]
  let trip := q.fast || q.desat
  let run := if trip then q.run + 1 else 0
  let on := c.st.live && c.st != .loadStepOff && c.pwmen && c.lead == 0 && s.sf.legPwm[leg.val] && !s.sf.forceoff
  let s := s.modPwm p (fun q =>
    { q with
      compare := q.written, held := false, fast := false, desat := false, run := run
      runDesat := if trip ∧ q.run = 0 then q.desat else q.runDesat
      fastTrips := if q.fast then incSat q.fastTrips else q.fastTrips
      desatTrips := if q.desat then incSat q.desatTrips else q.desatTrips
      on := on })
  let s := s.modConv leg (fun c => { c with pulsed := c.pulsed || (on && c.st == .softStart) })
  .next (if run ≥ s.parN P.fastLatch leg.val ∧ c.st.live then s.latchPhase p else s)
/-- R248: a fast output beyond ±FAST_LIM. -/
def execFastLimitTrip (p : Phase) (current : Int) (s : State) : Host.Outcome State Fault Refusal :=
  if s.pwm[p.val].on ∧ s.par P.fastLim (legOf p).val < current.natAbs then
    .next (s.modPwm p (fun q => { q with held := true, fast := q.fast || !q.desat, tripMa := current }))
  else .next s
/-- R249: DESATp has been high for 20 ns. -/
def execDesatTrip (p : Phase) (s : State) : Host.Outcome State Fault Refusal :=
  if s.pwm[p.val].on then
    .next (s.modPwm p (fun q => { q with held := true, desat := q.desat || !q.fast, tripMa := s.iPhaseLatch p }))
  else .next s
/-- R248, R249, R232: PWMpH of a phase c field cycles after its carrier start. -/
def State.pwmHigh (s : State) (p : Phase) (c : Nat) : Bool :=
  let q := s.pwm[p.val]
  s.drives .pwm && q.on && !q.held && decide (s.parN P.deadTime (legOf p).val ≤ c) && decide (c < q.compare)
/-- R232: PWMpL of a phase c field cycles after its carrier start. -/
def State.pwmLow (s : State) (p : Phase) (c : Nat) : Bool :=
  let q := s.pwm[p.val]
  s.drives .pwm && q.on && !q.held && decide (q.compare + s.parN P.deadTime (legOf p).val ≤ c)
/-- R233: the carrier offset of a phase in field cycles. -/
def State.carrierOffset (s : State) (p : Phase) : Nat :=
  (roundDiv (((45 * (p.val / 2) + 180 * (p.val % 2) : Nat) : Int) * s.period) 360).toNat

/-- R251: a filter has stayed above its level for OVL_TRIP_T: the leg drains and is latched with cause 5. -/
def execOverloadTrip (leg : Leg) (s : State) : Host.Outcome State Fault Refusal :=
  let c := s.conv[leg.val]
  if c.overload ∧ (c.st = .softStart ∨ c.st = .running) then .next (s.startDrain leg (.fault 5)) else .next s
/-- R252: the leg is discharging. -/
def State.discharging (s : State) (leg : Leg) : Bool :=
  decide (1000 * s.conv[leg.val].setpoint < -(s.par P.reenterI * s.par P.iRated leg.val))
/-- R252, R256: a loss of bus load. -/
def execLoadStepTurnOff (leg : Leg) (s : State) : Host.Outcome State Fault Refusal :=
  let c := s.conv[leg.val]
  if !s.discharging leg then .next s
  else
    let limit := roundDiv (-(s.par P.reenterI * s.par P.iRated leg.val)) 1000
    match c.st with
    | .draining => .next ((s.form 0x3001 16 (36 + leg.val) leg.val (s.iBusLatch leg) limit).finishDrain leg)
    | .softStart | .running =>
      let s := (s.form 0x3001 16 (36 + leg.val) leg.val (s.iBusLatch leg) limit).yieldLeg leg .protection
      let off (q : PhasePwm) : PhasePwm := { q with on := false }
      let s := ((s.modPwm (phaseA leg) off).modPwm (phaseB leg) off).modCle leg (fun e => { e with running := false, direct := false })
      .next (s.modConv leg (fun c => { c with st := .loadStepOff, reenterRun := 0, pulsed := false, soft := 0, ramp := none }))
    | _ => .next s
/-- R252: the leg re-enters soft start with S from 0. -/
def execLoadStepReentry (leg : Leg) (s : State) : Host.Outcome State Fault Refusal :=
  if s.conv[leg.val].st = .loadStepOff ∧ 2 ≤ s.conv[leg.val].reenterRun ∧ s.mode = .running then .next (s.enterSoftStart leg) else .next s
/-- R252: LS_TIMEOUT has passed in LOAD_STEP_OFF: the leg is latched with cause 7. -/
def execLoadStepTimeout (leg : Leg) (s : State) : Host.Outcome State Fault Refusal :=
  if s.conv[leg.val].st = .loadStepOff then .next (s.latchLeg leg 7 (s.iBusLatch leg) 0) else .next s
/-- R253: the drain of a leg ends once its set-point has reached zero with two latches below I_ZERO_LEG, or 20 ms after it. -/
def State.endDrain (leg : Leg) (s : State) : State :=
  let c := s.conv[leg.val]
  let zero : Bool := match c.ramp with
    | some r => r.ref == 0 && !r.stop
    | none => true
  if c.st == .draining && zero && (decide (2 ≤ c.lowRun) || decide (4000000 ≤ c.zeroCycles)) then s.finishDrain leg else s
/-- R253: the end of the sample period in which a drain is done. -/
def execLegDrainComplete (leg : Leg) (s : State) : Host.Outcome State Fault Refusal := .next (s.endDrain leg)
/-- R256: V_leg has been below V_bus × (1 + HEADROOM / 2) for 10 ms while running. -/
def execLegHeadroomLoss (leg : Leg) (s : State) : Host.Outcome State Fault Refusal :=
  if s.conv[leg.val].st = .running ∧ 2000 * s.vLegMean leg < s.vBusMean * (2000 + s.par P.headroom) then
    .next (s.startDrain leg .waitBus)
  else .next s

end Sys2Proof.Machine
end

