-- ==== Sys2Proof/Machine/Contact.lean ====
section
/-! DEFINITION. The safety functions, shared part: groups and their feedback (R283, R287), the permit (R289), the stop
mechanics (R292), dark-test schedule (R285, R286), input pairs (R278 to R282), telegrams (R294, R406). -/
namespace Sys2Proof.Machine

/-- The state with its safety part changed. -/
def State.modSf (f : Safety → Safety) (s : State) : State := { s with sf := f s.sf }
/-- The state with a contactor group changed. -/
def State.modGroup (g : Fin 4) (f : Group → Group) (s : State) : State := { s with sf := { s.sf with group := vmod s.sf.group g f } }
/-- The state with an output channel changed. -/
def State.modOut (c : Fin 8) (f : SafetyOutput → SafetyOutput) (s : State) : State := { s with sf := { s.sf with output := vmod s.sf.output c f } }
/-- The state with an input pair changed. -/
def State.modPair (k : Fin 8) (f : SafetyPair → SafetyPair) (s : State) : State := { s with sf := { s.sf with pair := vmod s.sf.pair k f } }
/-- The eight output channels. -/
def allOutputs : List (Fin 8) := [0, 1, 2, 3, 4, 5, 6, 7]
/-- The group of an output channel (R283). -/
def groupOf (c : Fin 8) : Fin 4 := ⟨c.val / 2, by omega⟩
/-- FBK_USE of a group. -/
def State.fbkUse (s : State) (g : Fin 4) : Nat := s.parN P.fbkUse 0xFF g.val
/-- R283: the auxiliary group held off, with AUX_MODE 1. -/
def State.groupUnused (s : State) (g : Fin 4) : Bool := g == 3 && s.par P.auxMode == 1
/-- R283: the feedback in use reads open: high. -/
def State.readsOpen (s : State) (g : Fin 4) : Bool :=
  let a := bitAt s.sf.fbk (2 * g.val)
  let b := bitAt s.sf.fbk (2 * g.val + 1)
  if s.fbkUse g = 0 then true else if s.fbkUse g = 1 then a else a && b
/-- R283: the feedback in use reads closed: low. -/
def State.readsClosed (s : State) (g : Fin 4) : Bool :=
  let a := bitAt s.sf.fbk (2 * g.val)
  let b := bitAt s.sf.fbk (2 * g.val + 1)
  if s.fbkUse g = 0 then true else if s.fbkUse g = 1 then !a else !a && !b
/-- The levels of the two feedback inputs of a group, for its records. -/
def State.fbkPair (s : State) (g : Fin 4) : Int := bitsAt s.sf.fbk (2 * g.val + 1) (2 * g.val)
/-- A group with new feedback levels. -/
def State.setFbk (g : Fin 4) (levels : Nat) (s : State) : State :=
  s.modSf (fun f => { f with fbk := setBit (setBit f.fbk (2 * g.val) (bitAt levels 0)) (2 * g.val + 1) (bitAt levels 1) })
/-- R284: a group is commanded; its operate time starts. -/
def State.command (g : Fin 4) (on : Bool) (s : State) : State :=
  if s.sf.group[g.val].on = on then s
  else s.modGroup g (fun x =>
    { x with
      on := on, operating := true, peerHold := false, age := 0
      st := if x.st = .welded then .welded else if on then .closing else .opening })
/-- R284: the safety pair turns every group off. -/
def State.openAll (s : State) : State :=
  let s := allLegs.foldl (fun t g => t.command g false) s
  s.modSf (fun f => { f with seqStep := 6, opened := true })
/-- R283: a group stands open for the module: off, and its feedback, where it has one, reads open. -/
def State.standsOpen (s : State) (g : Fin 4) : Bool :=
  !s.sf.group[g.val].on && (if s.fbkUse g = 0 then !s.sf.group[g.val].operating else s.readsOpen g)
/-- R284: the condition to leave STOPPING: every group is off, and reads open where it has feedback, or is WELDED. -/
def State.allOpen (s : State) : Bool := allLegs.all (fun g => (!s.sf.group[g.val].on && s.readsOpen g) || s.sf.group[g.val].st == .welded)
/-- A SAFETY_IO record (R389). -/
def State.ioRecord (source code index : Nat) (levels : Int) (s : State) : State := s.form 0x4002 code source index levels 0
/-- R287: a group is WELDED. -/
def State.declareWelded (g : Fin 4) (s : State) : State :=
  let s := s.modGroup g (fun x => { x with st := .welded, operating := false, peerHold := false })
  ((s.modSf (fun f => { f with tripReq := true })).ioRecord 20 10 g.val (s.fbkPair g)).trigger 16 2 true
/-- R285: STUCK_ON: an own fault in a twin, else a category 1 demand. -/
def State.stuckOn (c : Fin 8) (s : State) : State :=
  if s.sf.output[c.val].stuckOn then s
  else ((s.modOut c (fun o => { o with stuckOn := true })).ioRecord 19 6 c.val 1).declareFault (fun t => t.trigger 13 2 true)
/-- R285: STUCK_OFF: an own fault in a twin, else a category 0 demand. -/
def State.stuckOff (c : Fin 8) (s : State) : State :=
  if s.sf.output[c.val].stuckOff then s
  else ((s.modOut c (fun o => { o with stuckOff := true })).ioRecord 19 7 c.val 0).declareFault (fun t => t.trigger 14 1 true)
/-- R297: a group that reads WELDED, an output with a fault, a pair with a fault. -/
def State.outputDiag (s : State) : Bool := s.sf.output.toList.any (fun o => o.stuckOn || o.stuckOff || o.diagFault)
/-- R297: INPUT_DIAG. -/
def SafetyPair.fault (p : SafetyPair) : Bool := p.discrepancy || p.crossShort || p.testFail

/-- R278, R289: the image's demand of a pair. -/
def State.imageDemand (s : State) (k : Nat) : Bool :=
  s.par P.pairFunc 0xFF k != 0 && (!bitAt s.sf.imgSfi (2 * k) || !bitAt s.sf.imgSfi (2 * k + 1))
/-- R297: DEMAND of a pair from the filtered levels. -/
def State.pairLow (s : State) (k : Fin 8) : Bool :=
  !(s.sf.input.toList.getD (2 * k.val) {}).filtered || !(s.sf.input.toList.getD (2 * k.val + 1) {}).filtered
/-- R282, R291: an input fault: cause 3, with the category of the pair's function; a charge-inhibit or monitor pair has
none, and its cause is latched without a stop (log 80). -/
def State.pairFault (k : Fin 8) (code : Nat) (f : SafetyPair → SafetyPair) (s : State) : State :=
  let s := (s.modPair k (fun p => { f p with latched := true, cycleBad := true, goodCycles := 0 })).ioRecord 18 code k.val (bitsAt s.sfiWord (2 * k.val + 1) (2 * k.val))
  let fn := s.par P.pairFunc 0xFF k.val
  if fn = 1 then s.trigger 3 1 true
  else if fn = 2 then s.trigger 3 2 true
  else s.modSf (fun x => { x with stopCause := withBit x.stopCause 3, latched := withBit x.latched 3 })

/-- R16: the bytes of a mailbox entry, and the entry with its CRC-32. -/
def MailEntry.bytes (e : MailEntry) : List Byte := leBytes 1 e.kind ++ leBytes 2 e.index ++ leInt 4 e.value ++ leBytes 8 e.extra
/-- R16: an entry written by another engine. -/
def mailEntry (kind index : Nat) (value : Int) (extra : Nat) : MailEntry :=
  let e : MailEntry := { kind := kind, index := index, value := value, extra := extra, crc := 0 }
  { e with crc := crc32 e.bytes }
/-- R16: the safety pair's check of an entry. -/
def MailEntry.good (e : MailEntry) : Bool := e.crc == crc32 e.bytes
/-- R16: the entry of one cell. -/
def cellEntry (kind : Nat) (c : Nat × Cell) : MailEntry := mailEntry kind c.1 c.2.v (b2n c.2.invalid)
/-- R16, R293: the sequencer core puts the cell table into the mailbox: every populated cell's value and whether it is invalid, every
temperature point with its stamp, and the cells of each round of the seal, by its place there. -/
def State.postMail (s : State) : State :=
  let cells := (allLegs.flatMap (fun l => s.legKeys l)).map (fun k => cellEntry 0 (k.2.2, s.cell k.2.2))
  let rounds := allLegs.flatMap (fun l => (s.diag[l.val].sealed.zipIdx).flatMap (fun r => r.1.cells.map (cellEntry (2 + r.2))))
  s.modSf (fun f => { f with mail := cells ++ s.temps.map (fun p => mailEntry 1 p.1 p.2.t p.2.stamp) ++ rounds })
/-- R16: an entry of the mailbox whose CRC-32 holds. -/
def State.mailAt (s : State) (kind index : Nat) : Option MailEntry := s.sf.mail.find? (fun e => e.kind == kind && e.index == index && e.good)
/-- R16, R293: a cell's value as the safety pair has been given it. -/
def State.mailCell (s : State) (kind i : Nat) : Nat := match s.mailAt kind i with
  | some e => e.value.toNat
  | none => vInvalid
/-- R16, R291: a cell is invalid, as the safety pair has been told; without a good entry the last word stands. -/
def State.mailInvalid (s : State) (i : Nat) : Bool := match s.mailAt 0 i with
  | some e => e.extra == 1
  | none => true
/-- R16, R293: the good entries of the temperature points: index, value, stamp. -/
def State.mailTemps (s : State) : List (Nat × Int × Nat) :=
  (s.sf.mail.filter (fun e => e.kind == 1 && e.good)).map (fun e => (e.index, e.value, e.extra))
/-- R16, R291: a temperature point has no valid reading, as the safety pair has been told. -/
def State.mailNoTemp (s : State) (i : Nat) : Bool := match s.mailAt 1 i with
  | some e => e.value == tInvalid
  | none => true

/-- R293: a cell value at a hard limit. -/
def State.atHardLimit (s : State) (v : Nat) : Bool :=
  v != vInvalid && (decide (s.par P.vHardMax ≤ v) || decide ((v : Int) ≤ s.par P.vHardMin))
/-- R293: the counts of the cells of one sealed round. -/
def State.countHard (leg : Leg) (kind : Nat) (s : State) : State :=
  let keys := (s.legKeys leg).map (fun k => k.2.2)
  let next := keys.filterMap (fun i => if s.atHardLimit (s.mailCell kind i) then some (i, lookupD 0 s.sf.hardRun i + 1) else none)
  s.modSf (fun f => { f with hardRun := f.hardRun.filter (fun e => !keys.contains e.1) ++ next })
/-- R293: the cells that have reached HARD_ROUNDS. -/
def State.hardHits (s : State) : List Nat := (s.sf.hardRun.filter (fun e => decide (s.parN P.hardRounds ≤ e.2))).map Prod.fst
/-- R293: one sealed round is counted; the cells it brings to the limit are noted with their value in it. -/
def State.hardRound (leg : Leg) (kind : Nat) (b : State × List (Nat × Nat)) : State × List (Nat × Nat) :=
  let t := b.1.countHard leg kind
  let new := t.hardHits.filter (fun i => !b.2.any (fun h => h.1 == i) && (t.legKeys leg).any (fun k => k.2.2 == i))
  (t, b.2 ++ new.map (fun i => (i, t.mailCell kind i)))
/-- R293: the hard voltage limit over the rounds of the seal, in order: causes with the cells that reach HARD_ROUNDS. -/
def State.hardTrigger (s : State) : State :=
  let b := allLegs.foldl (fun b l => (List.range (b.1.diag[l.val].sealed.length)).foldl (fun c j => State.hardRound l (2 + j) c) b) (s, [])
  let t := if s.sf.hardNow then b.1 else b.2.foldl (fun t e =>
    t.form 0x4003 6 23 e.1 e.2 (if t.par P.vHardMax ≤ e.2 then t.par P.vHardMax else t.par P.vHardMin)) b.1
  t.modSf (fun f => { f with hardNow := !(b.2.isEmpty && b.1.hardHits.isEmpty) })
/-- R293: the counts of new readings of the cell temperature points. -/
def State.countHot (s : State) : State :=
  let lim := s.par P.cellShutdown
  let next := s.mailTemps.filterMap (fun p =>
    let was := lookupD (0, 0) s.sf.hotRun p.1
    if p.2.1 = tInvalid ∨ p.2.1 < lim then none
    else if was.2 = p.2.2 ∧ was.1 > 0 then some (p.1, was)
    else some (p.1, (was.1 + 1, p.2.2)))
  s.modSf (fun f => { f with hotRun := next })
/-- R293, R327: the thermal shutdown of a cell; its cause clears once every point lies below CELL_SHUTDOWN − CELL_HYST. -/
def State.hotTrigger (s : State) : State :=
  let hit := s.sf.hotRun.filter (fun e => decide (2 ≤ e.2.1))
  let warm := s.mailTemps.any (fun p => p.2.1 != tInvalid && decide (s.par P.cellShutdown - s.par P.cellHyst ≤ p.2.1))
  let s := if s.sf.hotNow then s else hit.foldl (fun t e =>
    t.form 0x4003 8 24 e.1 (match t.mailAt 1 e.1 with
      | some m => m.value
      | none => tInvalid) (t.par P.cellShutdown)) s
  s.modSf (fun f => { f with hotNow := !hit.isEmpty || (f.hotNow && warm) })

/-- R404: the fields of a telegram. -/
def tgType (b : List Byte) : Nat := fieldAt 1 1 b
/-- SOURCE_ID. -/
def tgSource (b : List Byte) : Nat := fieldAt 2 2 b
/-- SEQ. -/
def tgSeqOf (b : List Byte) : Nat := fieldAt 6 4 b
/-- R294: a telegram that the safety pair accepts. -/
def State.tgValid (s : State) (b : List Byte) : Bool :=
  b.length == 46 && fieldAt 0 1 b == 1 && (tgType b == 1 || tgType b == 2) && fieldAt 42 4 b == safetyCrc (b.take 42) &&
  s.par P.safeId == (fieldAt 4 2 b : Int) && s.par P.telegramSource == (tgSource b : Int) && tgSource b != 0 &&
  (match s.sf.tgSeq with
   | none => true
   | some q => let d := (tgSeqOf b + 2 ^ 32 - q) % 2 ^ 32
     decide (1 ≤ d) && decide (d < 2 ^ 31)) &&
  (tgType b == 2 || (decide (fieldAt 18 1 b < 16) && (slice 19 23 b).all (fun x => x == 0)))
/-- R294: an accepted telegram acts; a rising stop bit is cause 4. -/
def State.tgAccept (b : List Byte) (s : State) : State :=
  let p := fieldAt 18 1 b
  let rise (k : Nat) : Bool := tgType b == 1 && bitAt p k && !bitAt s.sf.tgStop k
  let stop0 := rise 0
  let stop1 := rise 1
  let s := s.modSf (fun f =>
    { f with
      tgSeq := some (tgSeqOf b), tgRx := incSat f.tgRx
      tgStop := if tgType b = 1 then p % 4 else f.tgStop
      tgChargeInhibit := if tgType b = 1 then bitAt p 2 else f.tgChargeInhibit
      tgDischargeInhibit := if tgType b = 1 then bitAt p 3 else f.tgDischargeInhibit
      tgWd := if tgType b = 1 then false else f.tgWd })
  let s := if stop0 then s.trigger 4 1 true else s
  if stop1 then s.trigger 4 2 true else s
/-- The state with a telegram counter advanced (R406). -/
def State.tgCount (k : Fin 5) (s : State) : State := { s with net := { s.net with tg := vmod s.net.tg k incSat } }
/-- R406: the evaluation of one telegram: its copies, oldest first. -/
def State.tgEvaluate (copies : List TelegramCopy) (s : State) : State :=
  match copies with
  | [] => s
  | [a] =>
    if s.tgValid a.body then
      ((s.tgAccept a.body).tgCount 1).modSf (fun f => { f with tgDegraded := true })
    else if s.sf.tgSeq = some (tgSeqOf a.body) then s.tgCount 4
    else s
  | a :: b :: _ =>
    if a.body ≠ b.body then (s.tgCount 2).form 0x7001 8 86 noIndex (tgSource a.body) (tgSeqOf a.body)
    else if s.tgValid a.body then (s.tgAccept a.body).tgCount 0
    else s
/-- R42, R406: the seal instant of the present frame, 20 µs after its boundary. -/
def State.sealStamp (s : State) : Nat := s.time.frameStamp + 5000
/-- R42, R306: the telegram copies completely received by the seal instant belong to its frame, but for those beyond SEAL_ADMIT. -/
def State.sealTelegrams (cut : Option Nat) (s : State) : State :=
  s.modSf (fun f => { f with tgCopies := f.tgCopies.map (fun c =>
    { c with sealed := c.sealed || (match cut with
      | none => true
      | some k => decide (c.stamp * 256 + 86 < k)) }) })
/-- R406: the telegrams that the present frame evaluates: both copies sealed, or the window closed. -/
def State.tgReady (s : State) (c : TelegramCopy) : Bool :=
  let same (x : TelegramCopy) : Bool := tgSource x.body == tgSource c.body && tgSeqOf x.body == tgSeqOf c.body
  let mine := s.sf.tgCopies.filter (fun x => same x && x.sealed)
  let first := mine.foldl (fun m x => min m x.stamp) c.stamp
  c.sealed && (decide (2 ≤ mine.length) || decide (first + 500000 ≤ s.sealStamp))
/-- R406: the telegram evaluation of W1. -/
def State.tgWork : Nat → State → State
  | 0, s => s
  | n + 1, s =>
    match s.sf.tgCopies.find? (fun c => s.tgReady c) with
    | none => s
    | some c =>
      let same (x : TelegramCopy) : Bool := tgSource x.body == tgSource c.body && tgSeqOf x.body == tgSeqOf c.body && x.sealed
      let mine := s.sf.tgCopies.filter same
      State.tgWork n ((s.modSf (fun f => { f with tgCopies := f.tgCopies.filter (fun x => !same x) })).tgEvaluate mine)

/-- R291: the causes that are active at this W1, as a word of cause bits. -/
def State.causesNow (s : State) : Nat :=
  let pairs (fn : Int) : Bool := (List.range 8).any (fun k => s.par P.pairFunc 0xFF k == fn && s.imageDemand k)
  let bit (k : Nat) (b : Bool) : Nat := if b then 2 ^ k else 0
  bit 1 (pairs 1) + bit 2 (pairs 2) + bit 3 (s.sf.pair.toList.any (fun p => p.fault)) + bit 4 (s.sf.tgStop != 0) +
  bit 5 (s.sf.tgWd && s.par P.telegramRequired == 1) + bit 6 s.sf.hardNow + bit 7 (!s.sf.cellInvalid.isEmpty) + bit 8 s.sf.hotNow +
  bit 9 (!s.sf.stationInvalid.isEmpty) + bit 10 (decide (2 ≤ s.win.safetyRun)) + bit 11 s.base.coreLost +
  bit 13 (s.sf.output.toList.any (fun o => o.stuckOn || o.diagFault)) +
  bit 14 (s.sf.output.toList.any (fun o => o.stuckOff) || s.sf.group.toList.any (fun g => g.st == .dropped)) +
  bit 15 (s.sf.group.toList.any (fun g => g.st == .failedToClose || g.st == .fbkDiscrepancy)) + bit 16 s.welded + bit 17 s.sf.lockstep
/-- R291: a cause of the level kind that has come up since the last W1, or that has begun to latch. -/
def State.riseCause (now : Nat) (cause cat : Nat) (latching : Bool) (s : State) : State :=
  if bitAt now cause && (!bitAt s.sf.activeCauses cause || (latching && !bitAt s.sf.latched cause)) then s.trigger cause cat latching else s
/-- R280: the pairs of a function latch with PAIR_LATCH. -/
def State.latchPairs (fn : Int) (s : State) : State :=
  allOutputs.foldl (fun t k =>
    if t.par P.pairFunc 0xFF k.val = fn ∧ t.imageDemand k.val ∧ t.par P.pairLatch 0xFF k.val = 1 then t.modPair k (fun p => { p with latched := true }) else t) s
/-- R280: some pair of a function in demand latches. -/
def State.anyLatch (s : State) (fn : Int) : Bool :=
  (List.range 8).any (fun k => s.par P.pairFunc 0xFF k == fn && s.imageDemand k && s.par P.pairLatch 0xFF k == 1)
/-- R291: the pruned lists of invalid cells and stations. -/
def State.pruneInvalid (s : State) : State :=
  s.modSf (fun f => { f with
    cellInvalid := f.cellInvalid.filter (fun i => s.mailInvalid i)
    stationInvalid := f.stationInvalid.filter (fun i => (List.range 8).all (fun k => s.mailNoTemp (8 * i + k))) })
/-- R291 to R294: the causes that a W1 judges, from the sealed inputs, the mailbox and the safety image. After a second
overrun in a row only the stop evaluation goes on (R45): the input pairs are judged, telegrams and the cell triggers of
R293 are not (DESIGN CHOICE, log 113: the spec does not say which triggers belong to the stop evaluation). -/
def State.judge (s : State) : State :=
  let s := if s.win.stopOnly then s else (s.tgWork s.sf.tgCopies.length)
  let s := if s.win.stopOnly then s else ((s.hardTrigger).countHot).hotTrigger
  let s := s.pruneInvalid
  let now := s.causesNow
  let l1 := s.anyLatch 1
  let l2 := s.anyLatch 2
  let s := (s.latchPairs 1).latchPairs 2
  let s := (s.riseCause now 1 1 l1).riseCause now 2 2 l2
  let s := ((s.riseCause now 6 2 true).riseCause now 8 2 true).riseCause now 5 2 false
  s.modSf (fun f => { f with activeCauses := now })

/-- R286: a dark test of a channel is barred in this frame. -/
def State.darkBarred (s : State) (c : Fin 8) : Bool :=
  let g := s.sf.group[(groupOf c).val]
  g.operating || decide (g.age < 2) || s.mode != s.sf.modeNow || s.sf.modeNow != s.sf.modePrev
/-- R285, R316: the slot frame of a channel modulo 1,000. -/
def State.darkSlot (s : State) (c : Fin 8) : Nat := 125 * c.val + (if s.role = .standby then 62 else 0)
/-- R285: a channel has a test in this unit and state. -/
def State.darkTested (s : State) (c : Fin 8) : Bool :=
  s.inStates [.armed, .running, .stopping] && !s.groupUnused (groupOf c) && (s.role == .active || (s.role == .standby && s.twin.step.paired))
/-- R285, R286: the channel that this frame's permit names for a test. -/
def State.scheduleDark (s : State) : State :=
  let k := s.time.frame % 1000
  let late (c : Fin 8) : Bool := decide ((k + 1000 - s.darkSlot c) % 1000 ≤ 100)
  let s := allOutputs.foldl (fun t c =>
    if t.darkTested c && k == t.darkSlot c && t.darkBarred c then t.modOut c (fun o => { o with skipped := true }) else t) s
  let s := allOutputs.foldl (fun t c => if t.sf.output[c.val].skipped && !late c then t.modOut c (fun o => { o with skipped := false }) else t) s
  let pick := allOutputs.find? (fun c => s.darkTested c && !s.darkBarred c && (k == s.darkSlot c || s.sf.output[c.val].skipped))
  match pick with
  | none => s.modSf (fun f => { f with darkNext := none })
  | some c => (s.modOut c (fun o => { o with skipped := false })).modSf (fun f => { f with darkNext := some c.val })

/-- R289: SFO_CMD. -/
def State.sfoCmd (s : State) : Nat := (allLegs.map (fun g => if s.sf.group[g.val].on then 3 * 4 ^ g.val else 0)).sum
/-- R289, R292: LEG_PWM. -/
def State.legPwmCmd (s : State) : Nat :=
  let ok := (s.mode == .armed || s.mode == .running || (s.mode == .stopping && s.sf.stopCat != 1 && !s.sf.opened)) && s.sf.seqStep == 5
  (allLegs.map (fun l => if ok && s.ring[l.val].available && !s.sf.outOfEnvelope[l.val] then 2 ^ l.val else 0)).sum
/-- R289: STOP. -/
def State.stopCmd (s : State) : Nat := if s.mode = .stopping then (if s.sf.stopCat = 1 then 1 else if s.sf.stopCat = 0 then 0 else 2) else 0
/-- R289: the permit frame of this frame, 56 bytes. -/
def State.buildPermit (s : State) : List Byte :=
  let test := match s.sf.darkNext with
    | some c => 128 + c
    | none => 0
  let b := leBytes 1 s.sfoCmd ++ leBytes 1 s.legPwmCmd ++ leBytes 1 s.stopCmd ++ leBytes 1 test ++ leBytes 4 s.time.frame ++ List.replicate 44 0
  b ++ leBytes 4 (safetyCrc b)
/-- R21, R289: the permit is handed to the Baseline, and its compared words to the twin (R310). -/
def State.sendPermit (s : State) : State :=
  let p := s.buildPermit
  let s := { s.pushFlit .c2f 0 0 (s.time.frame % 65536) (.bytes p) with sf := { s.sf with permit := p } }
  if s.twin.step.paired then s.twinSend 3 (.permitWords p) else s
/-- R284, R292: what a stop opens in this permit: category 0 and a stop during the closing sequence open at once. -/
def State.stopOpens (s : State) : State :=
  if s.mode = .stopping ∧ !s.sf.opened ∧ (s.sf.stopCat = 1 ∨ s.sf.seqStep < 5) then s.openAll else s

/-- R25, R292: the envelope of a leg at t ms after the demand. -/
def State.outside (s : State) (leg : Leg) (i0 i : Int) (t : Nat) : Bool :=
  let a : Int := i0.natAbs
  let ramp := max 0 (a - s.stopSlope * t)
  decide ((i.natAbs : Int) > ramp + max (s.par P.envMarginAbs) (roundDiv (s.par P.envMarginRel * a) 1000)) && s.populated leg
/-- R25, R292: every leg reads below I_ZERO. -/
def State.allBelowZero (s : State) (ma : Vector Int 4) : Bool :=
  allLegs.all (fun l => !s.populated l || decide ((ma[l.val].natAbs : Int) < s.par P.iZero))
/-- R292: the check of a ramp stop at a frame boundary, and the opening of the contactors. -/
def State.stopBoundary (s : State) : State :=
  if s.mode ≠ .stopping ∨ s.sf.stopCat < 2 ∨ s.sf.opened then s
  else
    let t := s.sf.stopFrames + 1
    let s := s.modSf (fun f => { f with
      stopFrames := t
      zeroRun := if s.allBelowZero s.lat.legMa then f.zeroRun + 1 else 0
      outOfEnvelope := Vector.ofFn (fun (i : Fin 4) => f.outOfEnvelope[i.val] || s.outside i f.i0[i.val] s.lat.legMa[i.val] t) })
    if s.sf.zeroRun ≥ 20 ∨ s.parN P.tMax ≤ t then s.openAll else s
/-- R284, R286: what the safety pair counts at a frame boundary. -/
def State.safetyBoundary (s : State) : State :=
  let s := s.modSf (fun f => { f with
    stepFrames := if 1 ≤ f.seqStep ∧ f.seqStep ≤ 4 then f.stepFrames + 1 else 0
    busHistory := (s.vBusMean :: f.busHistory).take 21
    group := f.group.map (fun g => { g with age := min 2 (g.age + 1) })
    modePrev := f.modeNow, modeNow := s.mode })
  s.stopBoundary

/-- R292, R254: a leg takes up the stop ramp: current is ramped to zero from its present reference. -/
def State.stopRamp (leg : Leg) (s : State) : State :=
  let c := s.conv[leg.val]
  match c.st with
  | .softStart | .running | .draining =>
    if (match c.ramp with
        | some r => r.stop
        | none => false) then s
    else
      let r := s.presentRamp leg true
      (s.modCle leg (fun e => { e with direct := r.direct })).modConv leg (fun c =>
        { c with st := .draining, drainEnd := .disabled, ramp := some r, enabled := false, lowRun := 0, zeroCycles := 0 })
  | .loadStepOff | .waitBus | .retryWait => (s.brakeLeg leg .disabled 0).modConv leg (fun c => { c with enabled := false, heldEnable := false })
  | .disabled | .fault => s
/-- R292: a leg stops with diode braking and stays off. -/
def State.stopLeg (leg : Leg) (s : State) : State :=
  let c := s.conv[leg.val]
  if c.st = .fault ∨ c.st = .disabled then s.modConv leg (fun c => { c with heldEnable := false })
  else (s.brakeLeg leg .disabled 0).modConv leg (fun c => { c with enabled := false, heldEnable := false })
/-- R285, R286, R289: the drive of the outputs by the command of the last fresh permit, forced off by FORCEOFF_N. The
channel in its test window is off until the off-check, and an on-command that comes within the window waits for its
end. A standby holds only in step (R301). -/
def State.driveOutputs (s : State) : State :=
  let may := !s.sf.forceoff && !s.sf.permitTimeout && !s.start.lastGasp && !s.base.fieldLost &&
    (s.role == .active || (s.role == .standby && s.twin.step.paired)) && s.inStates [.armed, .running, .stopping]
  s.modSf (fun f => { f with output := Vector.ofFn (fun (i : Fin 8) =>
    let free : Bool := match f.dark with
      | some (c, none) => c != i.val
      | some (c, some _) => c != i.val || f.darkOn
      | none => true
    { f.output[i.val] with driven := bitAt f.fieldCmd i.val && may && free }) })

end Sys2Proof.Machine
end

