-- ==== Sys2Proof/Machine/Guard.lean ====
section
/-! DEFINITION. Commands of the safety functions (R278 to R297): inputs and test pulses, contactors, read-back and dark
tests, the permit, telegrams, lockstep. -/
namespace Sys2Proof.Machine

/-- The pair of an input channel (R278). -/
def pairOfInput (ch : Fin 16) : Fin 8 := ⟨ch.val / 2, by omega⟩
/-- The state with an input changed. -/
def State.modInput (ch : Fin 16) (f : SafetyInput → SafetyInput) (s : State) : State :=
  s.modSf (fun x => { x with input := vmod x.input ch f })
/-- PAIR_FUNC of a pair. -/
def State.pairFunc (s : State) (k : Fin 8) : Int := s.par P.pairFunc 0xFF k.val
/-- The two filtered levels of a pair, for its records. -/
def State.pairLevels (s : State) (k : Fin 8) : Int := bitsAt s.sfiWord (2 * k.val + 1) (2 * k.val)
/-- R280: a change of demand of an evaluated pair is recorded; a monitor pair also raises a host event (R278). -/
def State.demandRecord (k : Fin 8) (code : Nat) (s : State) : State :=
  let s := s.ioRecord 17 code k.val (s.pairLevels k)
  if s.pairFunc k = 4 then s.event 0x4002 code 17 k.val (s.pairLevels k) 0 else s
/-- R279, R280: a channel enters demand. -/
def execSafetyInputDemand (ch : Fin 16) (s : State) : Host.Outcome State Fault Refusal :=
  let k := pairOfInput ch
  let was := s.pairLow k
  if !s.sf.input[ch.val].filtered then .next s
  else
    let s := (s.modInput ch (fun x => { x with level := false, filtered := false })).modPair k (fun p => { p with cycleBad := true })
    .next (if s.pairFunc k = 0 ∨ was then s else s.demandRecord k 1)
/-- R279, R280: a channel leaves demand. A cause that does not latch clears at the next W1. -/
def execSafetyInputClear (ch : Fin 16) (s : State) : Host.Outcome State Fault Refusal :=
  let k := pairOfInput ch
  if s.sf.input[ch.val].filtered then .next s
  else
    let s := s.modInput ch (fun x => { x with level := true, filtered := true })
    .next (if s.pairFunc k = 0 ∨ s.pairLow k then s else s.demandRecord k 2)
/-- R279: the channels of a pair have differed for DISCREPANCY_T. -/
def execSafetyPairDiscrepancy (pair : Fin 8) (s : State) : Host.Outcome State Fault Refusal :=
  if s.pairFunc pair = 0 ∨ s.sf.pair[pair.val].discrepancy ∨
     s.sf.input[2 * pair.val].filtered = s.sf.input[2 * pair.val + 1].filtered then .next s
  else .next (s.pairFault pair 5 (fun p => { p with discrepancy := true }))

/-- R282: one 250 ms cycle ends for a pair: after three good ones in a row its faults clear. -/
def SafetyPair.endCycle (high : Bool) (p : SafetyPair) : SafetyPair :=
  let n := if p.cycleBad || !high then 0 else p.goodCycles + 1
  if p.fault && decide (3 ≤ n) then
    { p with discrepancy := false, crossShort := false, testFail := false, goodCycles := n, cycleBad := false }
  else { p with goodCycles := n, cycleBad := false }
/-- R281: the offsets of the sources, in frames. -/
def pulseOffset (src : Fin 4) : Nat := nth [0, 62, 125, 187] src.val 0
/-- R281: the frames whose boundary a pulse of a source follows. -/
def State.pulseFrame (s : State) (src : Fin 4) : Bool := s.time.frame % 250 == pulseOffset src
/-- R281: a source starts its dark pulse, in a frame of its own; a cycle of R282 runs from pulse to pulse of source 0. -/
def execTestPulseStart (src : Fin 4) (levelsBefore : Nat) (s : State) : Host.Outcome State Fault Refusal :=
  if !s.pulseFrame src then .next s
  else
  let s := if src.val = 0 then allOutputs.foldl (fun t k => t.modPair k (fun p => p.endCycle (!t.pairLow k))) s else s
  .next (s.modSf (fun f =>
    { f with
      tps := f.tps.set src.val false
      input := Vector.ofFn (fun (i : Fin 16) => { f.input[i.val] with before := bitAt levelsBefore i.val }) }))
/-- R282: a failed check of an input: the fault is set on its pair. -/
def State.checkInput (src : Fin 4) (levels : Nat) (s : State) (ch : Fin 16) : State :=
  let k := pairOfInput ch
  let high := bitAt levels ch.val
  let p := s.sf.pair[k.val]
  if s.pairFunc k = 0 then s
  else if s.par P.tpsAssign 0xFF ch.val = src.val then
    (if !high then s
     else if p.testFail then s.modPair k (fun p => { p with cycleBad := true, goodCycles := 0 })
     else s.pairFault k 3 (fun p => { p with testFail := true }))
  else if s.sf.input[ch.val].before && !high then
    (if p.crossShort then s.modPair k (fun p => { p with cycleBad := true, goodCycles := 0 })
     else s.pairFault k 4 (fun p => { p with crossShort := true }))
  else s
/-- R282: the checks 400 µs after the start of a pulse. -/
def execTestPulseCheck (src : Fin 4) (levels : Nat) (s : State) : Host.Outcome State Fault Refusal :=
  .next ((List.finRange 16).foldl (fun t ch => (t.modInput ch (fun x => { x with level := bitAt levels ch.val })).checkInput src levels ch) s)
/-- R281: the dark pulse of a source ends. -/
def execTestPulseEnd (src : Fin 4) (s : State) : Host.Outcome State Fault Refusal :=
  .next (s.modSf (fun f => { f with tps := f.tps.set src.val true }))

/-- R292: T_MAX has elapsed since the demanding boundary: the contactors open. -/
def execStopTMaxExpiry (s : State) : Host.Outcome State Fault Refusal :=
  .next (if s.mode = .stopping ∧ 2 ≤ s.sf.stopCat ∧ !s.sf.opened then s.openAll else s)
/-- R71, R284: a stop is over: FAULT-HOLD after a latching cause or a weld, else SURVEYED, or the reset that ends a trial
(R455). -/
def execStoppingExit (s : State) : Host.Outcome State Fault Refusal :=
  if s.mode ≠ .stopping ∨ !s.sf.opened ∨ !s.allOpen ∨ s.start.lastGasp ∨ s.base.coreLost then .next s
  else if s.upd.endDue ≠ 0 then .next (({ s with ret := { s.ret with trialEnd := s.upd.endDue } }).moduleReset cUpdate)
  else if s.welded || s.sf.stopLatching then .next s.enterFaultHold
  else
    let s := allLegs.foldl (fun t l => t.stopLeg l) s
    .next { s with mode := .surveyed, sf := { s.sf with stopCat := 0, seqStep := 0 } }

/-- The leg of a global cell index (R7). -/
def legOfCell (i : Nat) : Leg := ⟨i / 384 % 4, by omega⟩
/-- A CELL_TRIGGER record (R389). -/
def State.cellTrigger (cause source index : Nat) (reading threshold : Int) (s : State) : State :=
  (s.form 0x4003 cause source index reading threshold).trigger cause 2 true
/-- R291: a populated cell has been INVALID for INVALID_T on a leg that is not DISABLED. -/
def execCellInvalidTimeout (i : Nat) (s : State) : Host.Outcome State Fault Refusal :=
  let leg := legOfCell i
  if !(s.legKeys leg).any (fun k => k.2.2 == i) || !(s.cell i).invalid || s.conv[leg.val].st == .disabled || s.sf.cellInvalid.contains i then .next s
  else .next ((s.modSf (fun f => { f with cellInvalid := f.cellInvalid ++ [i] })).cellTrigger 7 23 i (s.cell i).v (s.par P.invalidT))
/-- R291: every temperature point of a station has been invalid for TEMP_INVALID_T. -/
def execTempPointsInvalidTimeout (leg : Leg) (stake : Nat) (s : State) : Host.Outcome State Fault Refusal :=
  let i := stationKey leg stake
  if stake = 0 ∨ s.stations leg < stake ∨ s.sf.stationInvalid.contains i ∨
     !(List.range 8).all (fun k => (s.temp (8 * i + k)).t == tInvalid) then .next s
  else .next ((s.modSf (fun f => { f with stationInvalid := f.stationInvalid ++ [i] })).cellTrigger 9 24 (8 * i) tInvalid (s.par P.tempInvalidT))

/-- R284: the sequence advances to a step. -/
def State.seqTo (n : Nat) (s : State) : State := s.modSf (fun f => { f with seqStep := n, stepFrames := 0 })
/-- R284: a group is closed: its feedback has confirmed it, or without feedback its operate time is over. -/
def State.closed (s : State) (g : Fin 4) : Bool := s.sf.group[g.val].st == .closed
/-- R284: V_bus has changed by less than PRECHARGE_DV over the last 20 ms. -/
def State.busSettled (s : State) : Bool :=
  match s.sf.busHistory[0]?, s.sf.busHistory[20]? with
  | some a, some b => decide (((a - b).natAbs : Int) < s.par P.prechargeDv)
  | _, _ => false
/-- R284: a step of the closing sequence. -/
def execContactorSequenceStep (s : State) : Host.Outcome State Fault Refusal :=
  if s.mode ≠ .armed ∧ s.mode ≠ .running then .next s
  else
    match s.sf.seqStep with
    | 1 => .next (if s.closed 1 then (s.command 2 true).seqTo 2 else s)
    | 2 =>
      .next (if s.sf.stepFrames ≥ 100 && s.busSettled then
          (let s := s.command 0 true
           if s.groupUnused 3 then s else s.command 3 true).seqTo 3
        else s)
    | 3 => .next (if s.closed 0 && (s.groupUnused 3 || s.closed 3) then s.seqTo 4 else s)
    | 4 =>
      .next (if s.sf.group[2].on then (if s.parN P.prechargeOverlap ≤ s.sf.stepFrames then s.command 2 false else s)
        else if s.standsOpen 2 then s.seqTo 5 else s)
    | _ => .next s
/-- R284: step 2 has lasted longer than PRECHARGE_T. -/
def execPrechargeTimeout (s : State) : Host.Outcome State Fault Refusal :=
  .next (if s.sf.seqStep = 2 then s.trigger 15 2 true else s)

/-- R285: the read-back of an output has differed from its command for 200 µs outside a test window. -/
def execOutputReadbackMismatch (ch : Fin 8) (readOn : Bool) (s : State) : Host.Outcome State Fault Refusal :=
  let inTest : Bool := match s.sf.dark with
    | some (c, _) => c == ch.val
    | none => false
  let s := s.modOut ch (fun o => { o with readback := readOn })
  .next (if inTest || s.sf.output[ch.val].driven == readOn then s else if readOn then s.stuckOn ch else s.stuckOff ch)
/-- A channel from its number. -/
def channel (c : Nat) : Fin 8 := ⟨c % 8, by omega⟩
/-- R285: the dark test that the last permit named starts. -/
def execDarkTestStart (s : State) : Host.Outcome State Fault Refusal :=
  match s.sf.darkNext, s.sf.dark with
  | some c, none =>
    .next (s.modSf (fun f => { f with darkNext := none, dark := some (c, none), darkOn := bitAt f.fieldCmd c })).driveOutputs
  | _, _ => .next s
/-- R285: the off-check; the channel returns to its command. -/
def execDarkTestOffCheck (readOn : Bool) (s : State) : Host.Outcome State Fault Refusal :=
  match s.sf.dark with
  | some (c, none) =>
    let s := if readOn then s.stuckOn (channel c) else s
    .next (s.modSf (fun f => { f with dark := some (c, some (!readOn)) })).driveOutputs
  | _ => .next s
/-- R285, R286: the recovery check, where the channel is commanded on; the window ends and the test is judged. -/
def execDarkTestRecoveryCheck (readOn : Bool) (s : State) : Host.Outcome State Fault Refusal :=
  match s.sf.dark with
  | some (c, some offOk) =>
    let ch := channel c
    let applies := s.sf.darkOn && s.sf.output[ch.val].driven
    let good := offOk && (!applies || readOn)
    let s := if applies && !readOn then s.stuckOff ch else s
    let s := s.modOut ch (fun o =>
      { o with
        lastGood := good
        goodNow := o.goodNow || good
        missed := if good then 0 else o.missed
        good := if good then incSat o.good else o.good })
    .next (s.modSf (fun f => { f with dark := none, darkOn := false })).driveOutputs
  | _ => .next s
/-- R286: a 1,000-frame interval of a channel ends. -/
def execDarkTestIntervalEnd (ch : Fin 8) (s : State) : Host.Outcome State Fault Refusal :=
  let o := s.sf.output[ch.val]
  if o.goodNow then .next (s.modOut ch (fun o => { o with goodNow := false }))
  else if !s.darkTested ch then .next s
  else
    let n := min 15 (o.missed + 1)
    let s := s.modOut ch (fun o => { o with missed := n })
    .next (if n < 3 ∨ o.diagFault then s
      else ((s.modOut ch (fun o => { o with diagFault := true })).ioRecord 19 8 ch.val n).declareFault (fun t => t.trigger 13 2 true))

/-- R317: the peer's latest read-back shows a channel of the group on. -/
def State.peerHolds (s : State) (g : Fin 4) : Bool :=
  s.twinMember && s.twin.up && s.twin.peerAlive && !s.twin.takeoverOut && bitsAt s.twin.peerReadback (2 * g.val + 1) (2 * g.val) != 0
/-- R283: FBK_USE 2 and the two inputs disagree. -/
def State.fbkDisagree (s : State) (g : Fin 4) : Bool := s.fbkUse g == 2 && !s.readsOpen g && !s.readsClosed g
/-- A contactor fault other than WELDED (R287). -/
def State.groupFault (g : Fin 4) (st : GroupSt) (code cause cat : Nat) (s : State) : State :=
  ((s.modGroup g (fun x => { x with st := st })).ioRecord 20 code g.val (s.fbkPair g)).trigger cause cat true
/-- R287, R317: the operate time of a group is over. -/
def execContactorOperateTimeout (g : Fin 4) (levels : Nat) (s : State) : Host.Outcome State Fault Refusal :=
  if s.groupUnused g || s.sf.group[g.val].st == .welded then .next s
  else
    let on := s.sf.group[g.val].on
    let s := (s.setFbk g levels).modGroup g (fun x => { x with operating := false })
    .next (if s.fbkDisagree g then s.groupFault g .fbkDiscrepancy 12 15 2
      else if on then
        (if s.fbkUse g = 0 ∨ s.readsClosed g then s.modGroup g (fun x => { x with st := .closed }) else s.groupFault g .failedToClose 9 15 2)
      else if s.fbkUse g = 0 ∨ s.readsOpen g then s.modGroup g (fun x => { x with st := .opened })
      else if s.peerHolds g then
        (s.modGroup g (fun x => { x with peerHold := true })).modTwin (fun w => { w with takeoverOut := true })
      else s.declareWelded g)
/-- R287: the feedback of a group changes: it confirms a command, or a closed contactor has DROPPED. A core die that has
declared the Baseline lost sees nothing of it (R26). -/
def execContactorFeedbackChange (g : Fin 4) (levels : Nat) (s : State) : Host.Outcome State Fault Refusal :=
  let x := s.sf.group[g.val]
  let s := s.setFbk g levels
  .next (if s.fbkUse g = 0 || s.groupUnused g || s.base.coreLost then s
    else if x.on then
      (if x.st == .closed && s.readsOpen g then s.groupFault g .dropped 11 14 1
       else if x.st == .closing && s.readsClosed g then s.modGroup g (fun x => { x with st := .closed })
       else s)
    else if x.st == .opening && s.readsOpen g then s.modGroup g (fun x => { x with st := .opened })
    else s)
/-- R317: the further operate time after PEER_HOLD is over. -/
def execWeldPeerHoldExpiry (g : Fin 4) (levels : Nat) (s : State) : Host.Outcome State Fault Refusal :=
  if !s.sf.group[g.val].peerHold then .next s
  else
    let s := s.setFbk g levels
    .next (if s.readsClosed g then s.declareWelded g else s.modGroup g (fun x => { x with peerHold := false, st := .opened }))
/-- R288: a leg current has exceeded I_ZERO in an inhibited direction for 1 s. -/
def execInhibitCurrentViolation (_leg : Leg) (charge : Bool) (s : State) : Host.Outcome State Fault Refusal :=
  .next (if s.inhibited charge then s.trigger 18 2 true else s)

/-- R289: the field die accepts a permit: a correct PCRC and the frame in progress; none counts during a reset,
last-gasp or an autonomous stop, nor after a permit timeout (R290). -/
def State.permitFresh (s : State) (b : List Byte) : Bool :=
  b.length == 56 && fieldAt 52 4 b == safetyCrc (b.take 52) && fieldAt 4 4 b == s.time.frame &&
  !s.sf.permitTimeout && !s.base.fieldLost && !s.start.lastGasp && !s.inStates [.off, .boot, .laidUp]
/-- R235, R289: a leg without permission stops with diode braking. -/
def State.permitLeg (mask : Nat) (s : State) (leg : Leg) : State :=
  let ok := bitAt mask leg.val
  let s := s.modSf (fun f => { f with legPwm := f.legPwm.set leg.val ok })
  if !ok && s.conv[leg.val].st.live then s.stopLeg leg else s
/-- R289, R292: a fresh permit drives the outputs, the permission of each leg and the ramp of a category 1 stop. -/
def execPermitReceived (bytes : List Byte) (s : State) : Host.Outcome State Fault Refusal :=
  if !s.permitFresh bytes then .next s
  else
    let stop := fieldAt 2 1 bytes % 4
    let s := s.modSf (fun f => { f with fresh := true, fieldCmd := fieldAt 0 1 bytes })
    let s := s.driveOutputs
    let s := if stop = 1 then allLegs.foldl (fun t l => t.stopLeg l) s
      else if stop = 2 then allLegs.foldl (fun t l => if bitAt (fieldAt 1 1 bytes) l.val then t.stopRamp l else t) s
      else s
    .next (allLegs.foldl (fun t l => t.permitLeg (fieldAt 1 1 bytes) l) s).settleRunning
/-- R290: no fresh permit for 2 ms. After a lockstep mismatch cause 17 is recorded and the module enters FAULT-HOLD. -/
def execPermitTimeout (s : State) : Host.Outcome State Fault Refusal :=
  if s.sf.permitTimeout ∨ s.base.fieldLost ∨ !s.inStates [.surveyed, .armed, .running, .stopping, .faultHold] ∨ s.start.reduced then .next s
  else
    let s := allLegs.foldl (fun t l => t.stopLeg l) s
    let s := s.modSf (fun f =>
      { f with
        permitTimeout := true, fresh := false, fieldCmd := 0, legPwm := Vector.replicate 4 false
        output := f.output.map (fun o => { o with driven := false }) })
    let s := s.formField 0x4002 14 12 noIndex 0 0
    .next (if s.sf.lockstep then (s.trigger 17 1 true).enterFaultHold else s.settleRunning)
/-- R290, R313: the safety cores disagree: the safety pair stops. -/
def execLockstepMismatch (s : State) : Host.Outcome State Fault Refusal :=
  if s.sf.lockstep ∨ s.inStates [.off, .laidUp] then .next s
  else .next (((s.modSf (fun f => { f with lockstep := true })).ioRecord 16 13 noIndex 0).declareFault (fun t => t))

/-- R406: a copy of a telegram arrives; a second copy from the same port is discarded. -/
def execSafeTelegramReceived (lan : Fin 2) (bytes : List Byte) (stamp : Nat) (s : State) : Host.Outcome State Fault Refusal :=
  let s := s.at' stamp
  if s.inStates [.off, .boot, .plat, .laidUp] ∨ bytes.length ≠ 46 then .next s
  else if s.sf.tgCopies.any (fun c => c.lan == lan.val && tgSource c.body == tgSource bytes && tgSeqOf c.body == tgSeqOf bytes) then
    .next (s.tgCount 3)
  else .next (s.modSf (fun f => { f with tgCopies := f.tgCopies ++ [{ lan := lan.val, stamp := stamp, body := bytes }] }))
/-- R294: no control telegram for TELEGRAM_WD; cause 5 acts at the next W1. -/
def execTelegramWatchdogExpiry (s : State) : Host.Outcome State Fault Refusal :=
  .next (if s.par P.telegramRequired = 1 then s.modSf (fun f => { f with tgWd := true }) else s)
/-- R297: the state code of a group. -/
def State.groupCode (s : State) (g : Fin 4) : Nat :=
  if s.groupUnused g then 8
  else match s.sf.group[g.val].st with
    | .opened => 0
    | .closing => 1
    | .closed => 2
    | .opening => 3
    | .welded => 4
    | .failedToClose => 5
    | .dropped => 6
    | .fbkDiscrepancy => 7
    | .unused => 8
/-- CONTACTOR_STATUS (R297). -/
def State.contactorStatus (s : State) : Nat := (allLegs.map (fun g => s.groupCode g * 16 ^ g.val)).sum + s.sf.seqStep * 65536
/-- R294, R404: a status telegram to a destination. -/
def State.statusTelegram (s : State) (dest : Nat) : List Byte :=
  let flags := b2n s.sf.tripReq + 2 * b2n (allLegs.all (fun g => s.groupUnused g || s.standsOpen g)) + 4 * b2n (s.sf.stopCat != 0) + 8 * b2n s.healthy
  let b := leBytes 1 1 ++ leBytes 1 2 ++ leBytes 2 (s.parN P.safeId) ++ leBytes 2 dest ++ leBytes 4 s.sf.tgTxSeq ++ leBytes 8 s.time.meridian ++
    leBytes 1 flags ++ leBytes 1 s.sf.firstCause ++ leBytes 2 (s.contactorStatus % 65536) ++ List.replicate 20 0
  b ++ leBytes 4 (safetyCrc b)
/-- R294, R405: one status telegram as a PRP frame pair. -/
def State.sendStatus (dest : Nat) (s : State) : State :=
  if dest = 0 then s
  else
    let t := s.statusTelegram dest
    { s with
      sf := { s.sf with tgSent := s.sf.tgSent ++ [(dest, t)], tgTxSeq := (s.sf.tgTxSeq + 1) % 2 ^ 32 }
      net := { s.net with txSeq := (s.net.txSeq + 1) % 65536 } }
/-- R294, R318: every TELEGRAM_TX the active unit sends its status telegrams. -/
def execStatusTelegramSend (s : State) : Host.Outcome State Fault Refusal :=
  if !s.isActive || s.inStates [.off, .boot, .plat, .load, .staking, .laidUp] || s.sf.lockstep then .next s
  else .next ((s.sendStatus (s.parN P.telegramSource)).sendStatus (s.parN P.tripDest))

end Sys2Proof.Machine
end

