-- ==== Sys2Proof/Machine/Traverse.lean ====
section
/-! DEFINITION. The Traverse commands and events: frames sent, trains returned, station events, and the modes of the
ring (R112 to R138, R160 to R166). -/
namespace Sys2Proof.Machine

/-- R125: STAKE with NEXT and DIR. -/
def execTraverseStake (x : RingTx) (next dir : Nat) (s : State) : Host.Outcome State Fault Refusal :=
  .next (s.launch x 0x01 (leBytes 1 next ++ leBytes 1 dir))
/-- R124: UNSTAKE_ALL. -/
def execTraverseUnstakeAll (x : RingTx) (s : State) : Host.Outcome State Fault Refusal := .next (s.launch x 0x02 [])
/-- R127, R131, R133: PING; TURN is FLAGS bit 0. -/
def execTraversePing (x : RingTx) (turn : Bool) (s : State) : Host.Outcome State Fault Refusal :=
  .next (s.launch x 0x03 (leBytes 1 (b2n turn)))
/-- R122: SAMPLE_AT with SFLAGS 0. -/
def execTraverseSampleAt (x : RingTx) (round tag : Nat) (wait : List Nat) (s : State) : Host.Outcome State Fault Refusal :=
  .next (s.launch x 0x10 (leBytes 1 round ++ [0] ++ leBytes 4 tag ++ (List.range 24).flatMap (fun k => leBytes 2 (nth wait k 0))))
/-- R122: READ_CELLS of a round. -/
def execTraverseReadCells (x : RingTx) (round : Nat) (s : State) : Host.Outcome State Fault Refusal :=
  .next (s.launch x 0x11 (leBytes 1 round))
/-- R149: READ_TEMPS. -/
def execTraverseReadTemps (x : RingTx) (s : State) : Host.Outcome State Fault Refusal := .next (s.launch x 0x12 [])
/-- R151: READ_HOUSEKEEPING. -/
def execTraverseReadHousekeeping (x : RingTx) (s : State) : Host.Outcome State Fault Refusal := .next (s.launch x 0x13 [])
/-- R49, R151: what the module notes of a BALANCE_SET it sends: the masks it commanded, and the end of a drain. -/
def State.noteMasks (leg : Leg) (duration : Nat) (mask : List Nat) (s : State) : State :=
  let s := if duration = 0 ∨ mask.all (· == 0) then s.modDiag leg (fun d => { d with draining := false }) else s
  (List.range (s.stations leg)).foldl (fun t k =>
    t.modStation leg (k + 1) (fun d => { d with mask := if duration = 0 then 0 else nth mask k 0 })) s
/-- R122: BALANCE_SET. -/
def execTraverseBalanceSet (x : RingTx) (duration : Nat) (mask : List Nat) (s : State) : Host.Outcome State Fault Refusal :=
  let payload := leBytes 2 duration ++ (List.range 24).flatMap (fun k => leBytes 2 (nth mask k 0))
  .next (if s.mayLaunch x 0x20 payload then (s.launch x 0x20 payload).noteMasks x.leg duration mask else s)
/-- R122: QUIET. -/
def execTraverseQuiet (x : RingTx) (start length : Nat) (s : State) : Host.Outcome State Fault Refusal :=
  .next (s.launch x 0x21 (leBytes 2 start ++ leBytes 2 length))
/-- R123, R160: OPEN_WIRE_TEST. -/
def execTraverseOpenWireTest (x : RingTx) (wires : Nat) (s : State) : Host.Outcome State Fault Refusal :=
  .next (s.launch x 0x30 (leBytes 4 wires))
/-- R123, R162: BAL_SWITCH_TEST. -/
def execTraverseBalSwitchTest (x : RingTx) (mask : Nat) (s : State) : Host.Outcome State Fault Refusal :=
  .next (s.launch x 0x31 (leBytes 2 mask))
/-- R165: SET_SLEEP_THRESHOLDS. -/
def execTraverseSetSleepThresholds (x : RingTx) (ov uv : Nat) (ot ut : Int) (period : Nat) (s : State) : Host.Outcome State Fault Refusal :=
  .next (s.launch x 0x40 (leBytes 2 ov ++ leBytes 2 uv ++ leInt 2 ot ++ leInt 2 ut ++ leBytes 2 period))
/-- R166: SLEEP. -/
def execTraverseSleep (x : RingTx) (key : Nat) (s : State) : Host.Outcome State Fault Refusal := .next (s.launch x 0x41 (leBytes 2 key))
/-- R135: CODE_LOAD of at most 48 bytes. -/
def execTraverseCodeLoad (x : RingTx) (addr : Nat) (data : List Byte) (s : State) : Host.Outcome State Fault Refusal :=
  .next (s.launch x 0x50 (leBytes 4 addr ++ data.take 48))
/-- R135: CODE_RUN. A new frame of the first end in use counts as an attempt of its leg; a repetition does not. -/
def execTraverseCodeRun (x : RingTx) (length crc version : Nat) (s : State) : Host.Outcome State Fault Refusal :=
  let payload := leBytes 4 length ++ leBytes 4 crc ++ leBytes 4 version
  let count : Bool := !x.retry && (s.endsInUse x.leg).head? == some x.fromB
  .next (if s.mayLaunch x 0x51 payload then
      (s.launch x 0x51 payload).modRing x.leg (fun r => { r with codeRuns := if count then r.codeRuns + 1 else r.codeRuns })
    else s)
/-- R124: READ_REG. -/
def execTraverseReadReg (x : RingTx) (addr count : Nat) (s : State) : Host.Outcome State Fault Refusal :=
  .next (s.launch x 0x60 (leBytes 2 addr ++ leBytes 1 count))
/-- R124: WRITE_REG. -/
def execTraverseWriteReg (x : RingTx) (addr : Nat) (values : List Nat) (s : State) : Host.Outcome State Fault Refusal :=
  .next (s.launch x 0x61 (leBytes 2 addr ++ leBytes 1 values.length ++ values.flatMap (leBytes 2)))

/-- R131: the answers to the PING of a contact loss name the silent element. -/
def silentOf (n : Nat) (recs : List Taken) : Nat :=
  match listMin? ((recs.filter (fun t => bitAt t.2.status 3)).map (fun t => (t.1 : Int))) with
  | some m => (m - 1).toNat
  | none => n
/-- R133: the search from an end for the last station that answers a PING with TURN: it goes on while they answer, and
REFLECT 1 (end A) or 2 (end B) is written to the last one, which bounds the reach of that end. -/
def State.seekReflect (leg : Leg) (fromB : Bool) (stake : Nat) (answered : Bool) (s : State) : State :=
  let r := s.ring[leg.val]
  let e := endIx fromB
  let n := s.stations leg
  if r.mode ≠ 1 ∨ r.seek[e.val] = 0 ∨ r.seek[e.val] ≠ stake then s
  else
    let onward := if fromB then stake - 1 else if stake < n then stake + 1 else 0
    let back := if fromB then (if stake < n then stake + 1 else 0) else stake - 1
    let write (k : Nat) (t : State) : State :=
      if k = 0 then t
      else (t.modRing leg (fun g => if fromB then { g with reachB := n + 1 - k } else { g with reachA := k })).plan leg fromB 0x61 k
        (leBytes 2 0x13 ++ [1] ++ leBytes 2 (if fromB then 2 else 1))
    if answered ∧ onward ≠ 0 then (s.modRing leg (fun g => { g with seek := vmod g.seek e (fun _ => onward) })).plan leg fromB 0x03 onward [1]
    else
      let s := s.modRing leg (fun g => { g with seek := vmod g.seek e (fun _ => 0) })
      if answered then write stake s else write back s
/-- R131: the PING of a contact loss has come back complete: the ring is intact, and the answers name the silent element. One that is
bad, or lacks a record, is neither outcome: it is sent again (log 277). -/
def State.answerContact (leg : Leg) (a : Arrival) (s : State) : State :=
  if !s.ring[leg.val].contactPing then s
  else if a.fate = .good ∧ a.taken.length = a.expected.length then
    s.modRing leg (fun g => { g with contactPing := false, silent := silentOf (s.stations leg) a.taken })
  else s.plan leg s.ownEnd 0x03 0 [0]
/-- R127, R131, R133: the records of a PING train. -/
def State.onPingTrain (leg : Leg) (a : Arrival) (s : State) : State :=
  let f := a.flight
  let answered := !a.taken.isEmpty
  if f.stake ≠ 0 then
    (if bitAt (fieldAt 0 1 f.payload) 0 then
      ((if answered then s.measureHop leg a.fromB f.stake a.rtt else s).seekReflect leg a.fromB f.stake answered).pingOfPass leg a.fromB f.stake answered
     else s)
  else
    let s := (s.answerContact leg a).modRing leg (fun g =>
      if g.mode = 1 then (if a.fromB then { g with reachB := a.taken.length } else { g with reachA := a.taken.length })
      else if a.atOther then { g with loopTime := a.rtt } else g)
    s.pingOfPass leg a.fromB 0 true
/-- R147, R148: the expected records of a READ_CELLS train, present or missing. -/
def State.enterRound (leg : Leg) (expected : List Nat) (recs : List Taken) (tp : Nat) (s : State) : State :=
  expected.foldl (fun t k => match recs.find? (fun p => p.1 == k) with
    | some p => t.enterCells leg k p.2.data tp
    | none => t.missCells leg k tp) s
/-- R133: the stations that neither end reaches, once both reaches are known. -/
def State.loseUnreached (leg : Leg) (s : State) : State :=
  let r := s.ring[leg.val]
  let n := s.stations leg
  if r.reachKnown then
    (List.range n).foldl (fun t i => if r.inReach n false (i + 1) || r.inReach n true (i + 1) then t else t.loseStation leg (i + 1)) s
  else s
/-- R161: after a round a station's running test is asked for its result, and one that was aborted is repeated. -/
def State.pollTests (leg : Leg) (s : State) : State :=
  (List.range (s.stations leg)).foldl (fun t i =>
    let k := i + 1
    let d := t.sdiagAt leg k
    let t := if d.owAgain then (t.modStation leg k (fun d => { d with owAgain := false, owSeq := 256 })).planWires leg k d.owWires
      else if d.owWires ≠ 0 ∧ d.owSeq < 256 then t.planFor leg k 0x30 (leBytes 4 0) else t
    if d.swAgain then (t.modStation leg k (fun d => { d with swAgain := false, swSeq := 256 })).planSwitches leg k d.swMask
    else if d.swMask ≠ 0 ∧ d.swSeq < 256 then t.planFor leg k 0x31 (leBytes 2 0) else t) s
/-- R42, R145: the trains of a round have all been sealed: it is kept with its cells for W1 and W2. -/
def State.sealRound (leg : Leg) (u : RoundInfo) (s : State) : State :=
  let keys := (s.legCells leg).map (fun p => cellIndex leg p.1 p.2)
  let cells := keys.map (fun k => (k, s.cell k))
  let valid := cells.all (fun p => p.2.fresh)
  let sums := (List.range (s.stations leg)).filterMap (fun i => (s.stationSum leg (i + 1)).map (fun x => (i + 1, x)))
  let s := s.modRing leg (fun g => { g with unread := g.unread.filter (fun (v : RoundInfo) => v.round != u.round), last := u })
  let s := s.modDiag leg (fun d =>
    { d with
      plumbStamp := u.tp, roundValid := valid, sums := ((u.tp, sums) :: d.sums).take 8
      sealed := d.sealed ++ [{ info := u, cells := cells }], w2Due := d.w2Due ++ [{ info := u, cells := cells }] })
  (keys.foldl (fun t k => t.modCell k (fun c => { c with bledRound := 0 })) s).pollTests leg
/-- R145 to R148: the records of a READ_CELLS train, good, bad or missing, enter the cell table. -/
def State.onCellsTrain (leg : Leg) (a : Arrival) (s : State) : State :=
  let r := s.ring[leg.val]
  let round := fieldAt 0 1 a.flight.payload
  match r.unread.find? (fun u => u.round == round) with
  | none => (s.enterRound leg a.expected a.taken r.last.tp).loseUnreached leg
  | some u =>
    let s := (s.enterRound leg a.expected a.taken u.tp).loseUnreached leg
    let u := { u with left := u.left.erase a.fromB, whole := u.whole && decide (a.taken.length = a.expected.length) }
    if u.left = [] then s.sealRound leg u
    else s.modRing leg (fun g => { g with unread := g.unread.map (fun (v : RoundInfo) => if v.round = round then u else v) })
/-- R74: the first temperature and the first housekeeping round of a leg have completed. -/
def State.noteFirst (leg : Leg) (s : State) : State :=
  let d := s.diag[leg.val]
  if d.firstTemps ∧ d.firstHk then { s with start := { s.start with firstTemps := vmod s.start.firstTemps leg (fun _ => true) } } else s
/-- R147, R149: the records of a READ_TEMPS train. -/
def State.onTempsTrain (leg : Leg) (a : Arrival) (s : State) : State :=
  let s := a.taken.foldl (fun t p => t.enterTemps leg p.1 p.2.data) s
  if a.flight.stake ≠ 0 then s
  else
    (s.modDiag leg (fun d =>
      let left := d.tempsLeft.erase a.fromB
      { d with tempsLeft := left
               firstTemps := d.firstTemps || (left.isEmpty && d.tempsLeft.contains a.fromB && decide (a.taken.length = a.expected.length)) })).noteFirst leg
/-- R151: a slow round of housekeeping has come from every end. -/
def LegDiag.endHk (d : LegDiag) : LegDiag :=
  let clean := if d.hkPassed && d.hkWhole then d.hkClean + 1 else 0
  { d with hkClean := clean, hkFail := d.hkFail && decide (clean < 3), firstHk := d.firstHk || d.hkWhole }
/-- R151: the records of a READ_HOUSEKEEPING train; those of a slow round count for HK_FAIL once they have come from every end. -/
def State.onHousekeepingTrain (leg : Leg) (a : Arrival) (s : State) : State :=
  let r := a.taken.foldl (fun (b : State × Bool) p =>
    let c := b.1.checkHousekeeping leg p.1 (b.1.sumAt leg p.1 a.flight.sentAt) p.2.data
    (c.1, b.2 && c.2)) (s, true)
  let s := r.1.modDiag leg (fun d => { d with hkFail := d.hkFail || !r.2, hkPassed := d.hkPassed && r.2
                                              hkWhole := d.hkWhole && decide (a.taken.length = a.expected.length) })
  if a.flight.stake ≠ 0 ∨ !s.diag[leg.val].hkLeft.contains a.fromB then s
  else
    (s.modDiag leg (fun d =>
      let d := { d with hkLeft := d.hkLeft.erase a.fromB }
      if d.hkLeft.isEmpty then d.endHk else d)).noteFirst leg
/-- R122, R151, R155: the records of a BALANCE_SET train. -/
def State.onBalanceTrain (leg : Leg) (a : Arrival) (s : State) : State :=
  let duration := fieldAt 0 2 a.flight.payload
  a.taken.foldl (fun t p =>
    let applied := fieldAt 0 2 p.2.data
    let t := t.modStation leg p.1 (fun d => { d with refused := fieldAt 2 2 p.2.data })
    (List.range 16).foldl (fun u i =>
      if u.populatedCell leg p.1 (i + 1) then
        u.modCell (cellIndex leg p.1 (i + 1)) (Cell.setBleed a.flight.sentAt duration (bitAt applied i))
      else u) t) s
/-- R123, R161: the record of an OPEN_WIRE_TEST: the test it asked for has begun, with the TEST_SEQ that follows; or one was
running, and it is repeated after the next round; or, of a poll (WIRES 0), the result of the test in hand, once the record
carries its TEST_SEQ. Lines to test again are planned. -/
def State.onOpenWireTrain (leg : Leg) (a : Arrival) (s : State) : State :=
  let asked := fieldAt 0 4 a.flight.payload
  a.taken.foldl (fun t p =>
    let d := t.sdiagAt leg p.1
    let seq := fieldAt 0 1 p.2.data
    let state := fieldAt 1 1 p.2.data
    if asked ≠ 0 then t.modStation leg p.1 (fun d => { d with owWires := asked, owAgain := state == 1, owSeq := (seq + 1) % 256 })
    else if d.owWires = 0 ∨ seq ≠ d.owSeq then t
    else if state = 2 then t.modStation leg p.1 (fun d => { d with owAgain := true })
    else
      let wires := d.owWires
      let t := t.modStation leg p.1 (fun d => { d with owWires := 0, owSeq := 256 })
      let t := (List.range 17).foldl (fun u w => if bitAt wires w then u.classifyLine leg p.1 w (leSigned (slice (2 + 2 * w) 2 p.2.data)) else u) t
      let more := (t.sdiagAt leg p.1).owWires
      if more = 0 then t else t.planWires leg p.1 more) s
/-- R123, R163: the record of a BAL_SWITCH_TEST, in the same way. -/
def State.onSwitchTrain (leg : Leg) (a : Arrival) (s : State) : State :=
  let asked := fieldAt 0 2 a.flight.payload
  a.taken.foldl (fun t p =>
    let d := t.sdiagAt leg p.1
    let seq := fieldAt 0 1 p.2.data
    let state := fieldAt 1 1 p.2.data
    if asked ≠ 0 then t.modStation leg p.1 (fun d => { d with swMask := asked, swAgain := state == 1, swSeq := (seq + 1) % 256 })
    else if d.swMask = 0 ∨ seq ≠ d.swSeq then t
    else if state = 2 then t.modStation leg p.1 (fun d => { d with swAgain := true })
    else
      let t := (t.evaluateSwitches leg p.1 d.swMask p.2.data).modStation leg p.1 (fun d => { d with swMask := 0, swSeq := 256, swThen := 0 })
      if d.swThen = 0 then t else t.planSwitches leg p.1 d.swThen) s
/-- R118: a frame planned once more, with the SEQ it had. -/
def again (f : Flight) (fromB : Bool) (stake : Nat) : DueFrame :=
  { fromB := fromB, cmd := f.cmd, stake := stake, payload := f.payload, retry := f.retries + 1, seq := f.seq }
/-- R76, R220: every station has confirmed its thresholds: the learned values are persisted (step 2). -/
def State.layupPersist (s : State) : State :=
  if s.layup.step = 1 ∧ s.layup.awaiting = [] then
    { s.learnTrigger 6 with layup := { s.layup with step := 2 }, learn := { (s.learnTrigger 6).learn with shutdown := 1 } }
  else s
/-- R165: the records of a SET_SLEEP_THRESHOLDS train; a station that did not echo the values gets the command again, up to RETRIES
times. -/
def State.onSleepTrain (leg : Leg) (a : Arrival) (s : State) : State :=
  let f := a.flight
  State.layupPersist <| a.expected.foldl (fun t k =>
    let ok := a.taken.any (fun p => p.1 == k && p.2.data == f.payload)
    if ok then { t with layup := { t.layup with awaiting := t.layup.awaiting.erase (stationKey leg k) } }
    else if f.retries ≥ t.parN (P.retries leg.val) then t.sleepNotConfirmed leg k
    else t.modRing leg (fun r => { r with due := r.due ++ [again f (t.endOf leg k) k] })) s
/-- R137: every station of a leg runs the image's version. -/
def State.codesWhole (s : State) (leg : Leg) (version : Nat) : Bool :=
  (List.range (s.stations leg)).all (fun k => s.ring[leg.val].codes.any (fun c => c.1 == k + 1 && c.2 == version))
/-- R135, R74: the records of a CODE_RUN train. The attempt succeeds when every expected station reports RESULT 0 and the version;
three failed attempts leave the leg unavailable; before that the missing blocks are sent again. A reload that succeeds leads
to the restaking of R126; one that fails leaves the stations that run as they are. -/
def State.onCodeRunTrain (leg : Leg) (a : Arrival) (s : State) : State :=
  let version := fieldAt 8 4 a.flight.payload
  let good := a.taken.filter (fun p => fieldAt 0 1 p.2.data == 0 && fieldAt 7 4 p.2.data == version)
  let need := a.expected.length
  let ok := decide (good.length = need) && decide (a.flight.records.length = need)
  let reload := !s.ring[leg.val].restarted.isEmpty
  let s := s.modRing leg (fun g => { g with codes := good.foldl (fun cs p => insertKey p.1 version cs) g.codes })
  let s := if reload then s else s.modRing leg (fun g => { g with loaded := s.codesWhole leg version })
  if !ok ∧ s.ring[leg.val].codeRuns ≥ 3 then
    (s.modRing leg (fun g => { g with available := false })).form (ringType leg) 6 (ringSource leg) noIndex good.length need
  else if !ok then s.resendLoad leg (a.taken.map Prod.snd)
  else if reload then s.planRestake leg
  else s
/-- R137: the STATUS of every record let in is kept. -/
def State.keepStatuses (leg : Leg) (recs : List Taken) (s : State) : State :=
  recs.foldl (fun u p => u.modRing leg (fun g => { g with statuses := insertKey p.1 p.2.status g.statuses })) s
/-- R42, R119: a sealed train takes effect by its command, good or not. -/
def State.takeArrival (leg : Leg) (a : Arrival) (s : State) : State :=
  let s := s.keepStatuses leg a.taken
  let cmd := a.flight.cmd
  if cmd = 0x01 then
    match a.fate with
    | .good => s.onStakeTrain leg a.fromB a.flight a.taken
    | .bad => s.spoilPass leg
    | .missing => s.missStake leg a.fromB
  else if cmd = 0x03 then
    match a.fate with
    | .good => s.onPingTrain leg a
    | .bad => ((if a.flight.stake = 0 then s.answerContact leg a else s).spoilPass leg).pingOfPass leg a.fromB a.flight.stake false
    | .missing => (s.seekReflect leg a.fromB a.flight.stake false).pingOfPass leg a.fromB a.flight.stake false
  else if cmd = 0x11 then s.onCellsTrain leg a
  else if cmd = 0x12 then s.onTempsTrain leg a
  else if cmd = 0x13 then s.onHousekeepingTrain leg a
  else if cmd = 0x20 then s.onBalanceTrain leg a
  else if cmd = 0x30 then s.onOpenWireTrain leg a
  else if cmd = 0x31 then s.onSwitchTrain leg a
  else if cmd = 0x40 then s.onSleepTrain leg a
  else if cmd = 0x51 then s.onCodeRunTrain leg a
  else s
/-- R21, R42: at a frame boundary the field die hands the trains that have come back to class 3. -/
def State.latchTrains (s : State) : State :=
  allLegs.foldl (fun t l =>
    let new := t.ring[l.val].arrived.filter (fun a => !a.latched)
    (new.foldl (fun u a => u.pushFlit .f2c 3 l.val (u.time.frame % 65536) (.train l a.serial)) t).modRing l
      (fun r => { r with arrived := r.arrived.map (fun a => { a with latched := true }) })) s
/-- A train that waits for its seal. -/
def State.arrivalOf (s : State) (leg : Leg) (serial : Nat) : Option Arrival := s.ring[leg.val].arrived.find? (fun a => a.serial == serial)
/-- R42: a train whose flit the core die has had becomes part of the frame. -/
def State.takeTrain (leg : Leg) (serial : Nat) (s : State) : State :=
  match s.arrivalOf leg serial with
  | none => s
  | some a => (s.modRing leg (fun r => { r with arrived := r.arrived.filter (fun b => b.serial != serial) })).takeArrival leg a
/-- R306: the trains of a seal, with the captures of their rounds, as an active unit forwards them. -/
def State.sealTrains (s : State) (inbox : List Payload) : List SealedTrain :=
  inbox.filterMap (fun p => match p with
    | .train leg serial => (s.arrivalOf leg serial).map (fun a =>
        { leg := leg, train := a, info := s.ring[leg.val].unread.find? (fun u => a.flight.cmd == 0x11 && u.round == fieldAt 0 1 a.flight.payload) })
    | _ => none)
/-- R306: a standby takes a train of the active unit's seal, with the captures of its round. -/
def State.takeSealedTrain (x : SealedTrain) (s : State) : State :=
  let s := match x.info with
    | some u => s.modRing x.leg (fun r => { r with unread := r.unread.filter (fun (v : RoundInfo) => v.round != u.round) ++ [u] })
    | none => s
  s.takeArrival x.leg x.train

/-- R118: a command with effect that failed is planned again, up to RETRIES times. -/
def State.retryFrame (leg : Leg) (fromB : Bool) (f : Flight) (s : State) : State :=
  if withEffect f.cmd ∧ f.retries < s.parN (P.retries leg.val) then
    s.modRing leg (fun r => { r with due := again f fromB f.stake :: r.due })
  else s
/-- R118: a CODE_RUN that failed is repeated before its attempt is judged. -/
def State.repeats (s : State) (leg : Leg) (f : Flight) : Bool := f.cmd == 0x51 && decide (f.retries < s.parN (P.retries leg.val))
/-- R117, R146: an end is free again, 2 µs after a train or its timeout. -/
def State.freeEnd (leg : Leg) (fromB : Bool) (s : State) : State :=
  let e := endIx fromB
  let now := s.time.meridian
  s.modRing leg (fun r =>
    { r with
      flight := vmod r.flight e (fun _ => none), freeAt := vmod r.freeAt e (fun _ => now + 500)
      unread := r.unread.map (fun (u : RoundInfo) => match r.flight[e.val] with
        | some f => if f.cmd = 0x11 ∧ u.round = fieldAt 0 1 f.payload then { u with out := u.out.erase fromB } else u
        | none => u) })
/-- R42: a train waits for the seal of its frame. -/
def State.arrive (leg : Leg) (fromB : Bool) (f : Flight) (fate : Fate) (expected : List Nat) (taken : List Taken) (atOther : Bool) (rtt : Nat)
    (s : State) : State :=
  s.modRing leg (fun r =>
    { r with
      serial := r.serial + 1
      arrived := r.arrived ++ [{ serial := r.serial, fromB := fromB, flight := f, fate := fate, expected := expected, taken := taken,
                                 atOther := atOther, rtt := rtt }] })
/-- R119, R126: the stakes whose records a train brings, in path order. Unstaked stations answer STAKE and CODE_RUN. -/
def State.expectedOf (s : State) (leg : Leg) (f : Flight) (fromB : Bool) : List Nat :=
  if f.cmd = 0x01 then s.unstaked leg fromB
  else if f.cmd = 0x51 then
    (let r := s.ring[leg.val]
     (s.unstaked leg fromB).filter (fun k => !r.reachKnown || r.inReach (s.stations leg) fromB k))
  else s.expectedFrom leg f fromB
/-- R119: the records of a train let in, the number discarded, and the stakes that show a restart. A record of CODE_RUN belongs to
the unstaked station that stands in its place. -/
def sortTrain (f : Flight) (bad expected : List Nat) : List Taken × Nat × List Nat :=
  if f.cmd = 0x01 then
    (let t := stakeRecords bad 0 expected f.records
     (t.1, t.2, []))
  else if f.cmd = 0x51 then
    (let ok := (f.records.zipIdx).filter (fun p => p.1.good (!bad.contains p.2) && p.1.stake == 0xFF && decide (p.2 < expected.length))
     (ok.map (fun p => (nth expected p.2 0, p.1)), f.records.length - ok.length, []))
  else sortRecords bad 0 expected f.records
/-- R118, R119: a train with a good command part: its records are checked one by one, a command with effect is repeated where one of
them is missing, and the train waits for the seal. -/
def State.goodTrain (leg : Leg) (fromB : Bool) (f : Flight) (back : TrainBack) (s : State) : State :=
  let expected := s.expectedOf leg f fromB
  let t := sortTrain f back.badRecords expected
  let s := (s.modRing leg (fun r => { r with recordErrors := addSat r.recordErrors t.2.1 })).markRestarted leg t.2.2
  let short := decide (t.1.length < expected.length)
  let s := if short && f.cmd != 0x40 then s.retryFrame leg fromB f else s
  if short ∧ s.repeats leg f then s else (s.arrive leg fromB f .good expected t.1 back.atOther back.rtt).loadOn leg
/-- R117, R118, R119: a train with a bad command part, or none: a command with effect is repeated; the loss waits for the seal. -/
def State.lostTrain (leg : Leg) (fromB : Bool) (f : Flight) (fate : Fate) (s : State) : State :=
  let expected := s.expectedOf leg f fromB
  let s := if f.cmd = 0x40 then s else s.retryFrame leg fromB f
  if s.repeats leg f then s else (s.arrive leg fromB f fate expected [] false 0).loadOn leg
/-- R119, R134: a train is back at the unit: its end is free and its closed-ring sightings are counted. Of a ring whose core die has
declared the loss of the Baseline no more is used (R26). -/
def State.trainBack (leg : Leg) (fromB : Bool) (back : TrainBack) (s : State) : State :=
  let e := endIx fromB
  match s.ring[leg.val].flight[e.val] with
  | none => s
  | some f =>
    let s := s.freeEnd leg fromB
    if s.base.coreLost then s
    else
      let s := s.modRing leg (fun r =>
        { r with missRun := vmod r.missRun e (fun _ => 0), sightings := if r.mode = 1 ∧ back.atOther then r.sightings + 1 else 0 })
      if back.badCommand then s.lostTrain leg fromB f .bad else s.goodTrain leg fromB f back
/-- R107, R136: a train comes back at a port of this unit: in a twin at its own HEAD port alone. -/
def State.hears (s : State) (fromB : Bool) (back : TrainBack) : Bool := !s.twinMember || back.atOther == (fromB != s.ownEnd)
/-- R119, R136: a train is back at the module. A standby forwards it to the active unit. -/
def execTrainReturned (leg : Leg) (fromB : Bool) (back : TrainBack) (s : State) : Host.Outcome State Fault Refusal :=
  .next (if !s.hears fromB back then s
    else if s.role = .standby then (if fromB = s.ownEnd then s.freeEnd leg fromB else s).twinSend 4 (.train leg fromB back)
    else s.trainBack leg fromB back)

/-- R117, R118, R131, R133, R148: a train did not return in time. -/
def execTrainReturnTimeout (leg : Leg) (fromB : Bool) (s : State) : Host.Outcome State Fault Refusal :=
  let e := endIx fromB
  match s.ring[leg.val].flight[e.val] with
  | none => .next s
  | some f =>
    let s := s.freeEnd leg fromB
    if s.base.coreLost || s.role == .standby then .next s
    else
      let lost := f.cmd == 0x03 && f.stake == 0
      .next ((s.modRing leg (fun r =>
        { r with
          trainMisses := incSat r.trainMisses
          missRun := vmod r.missRun e (· + 1)
          contactPing := r.contactPing && !lost
          splitDue := r.splitDue || (r.mode != 1 && (decide (r.missRun[e.val] + 1 ≥ 2) || (r.contactPing && lost))) })).lostTrain leg fromB f .missing)

/-- The state with one station of a chain changed. -/
def State.modChain (leg : Leg) (pos : Nat) (f : Station → Station) (s : State) : State :=
  s.modRing leg (fun r => { r with chain := updAt r.chain pos f })

/-- R141: a station converts at its reference instant plus WAIT. -/
def execStationConversion (leg : Leg) (pos : Nat) (cells : List Nat) (stackV : Nat) (late bleedNear : Bool) (s : State) :
    Host.Outcome State Fault Refusal :=
  .next (s.modChain leg pos (fun st => st.convert cells stackV late bleedNear))
/-- R123: a station's test ends. -/
def execStationTestEnd (leg : Leg) (pos : Nat) (openWire aborted : Bool) (values : List Int) (s : State) : Host.Outcome State Fault Refusal :=
  .next (s.modChain leg pos (fun st =>
    if openWire then { st with openWire := st.openWire.finish aborted true values } else { st with switchTest := st.switchTest.finish aborted false values }))
/-- R122: DURATION of a BALANCE_SET ends. -/
def execStationBalanceExpiry (leg : Leg) (pos : Nat) (s : State) : Host.Outcome State Fault Refusal :=
  .next (s.modChain leg pos (fun st => { st with bleeds := 0 }))
/-- R124: a code-memory error is detected, or 10 ms later takes the station to its loader. -/
def execStationCodeEccError (leg : Leg) (pos : Nat) (passed10ms : Bool) (s : State) : Host.Outcome State Fault Refusal :=
  .next (s.modChain leg pos (fun st =>
    if passed10ms then (if st.eccPending then st.toLoader else st)
    else { st with faults := withBit st.faults 3, eccPending := st.mode != 0 }))
/-- R130: no valid frame for 50 ms. -/
def execStationFrameTimeout (leg : Leg) (pos : Nat) (s : State) : Host.Outcome State Fault Refusal :=
  .next (s.modChain leg pos (fun st => { st with frameLost := true, bleeds := 0 }))
/-- R166: whether a conversion of a sleeping station violates its thresholds. -/
def Station.violated (st : Station) (r : SleepReading) : Bool :=
  let ov := fieldAt 0 2 st.sleepSet
  let uv := fieldAt 2 2 st.sleepSet
  let ot := leSigned (slice 4 2 st.sleepSet)
  let ut := leSigned (slice 6 2 st.sleepSet)
  (List.range 16).any (fun i => bitAt st.cellsPopulated i && (match r.cells[i]? with
    | some v => decide (v ≥ ov) || decide (v ≤ uv)
    | none => false)) ||
  r.temps.any (fun t => t != tInvalid && (decide (t ≥ ot) || decide (t ≤ ut)))
/-- R166: a sleeping station checks its cells, confirms a violation and begins 30 tone bursts; while they run it checks nothing. -/
def execStationSleepCheck (leg : Leg) (pos : Nat) (first second : SleepReading) (s : State) : Host.Outcome State Fault Refusal :=
  .next (s.modChain leg pos (fun st =>
    if st.sleeping && st.burstsLeft s.time.meridian == 0 then
      { st with burstAt := if st.violated first && st.violated second then some s.time.meridian else none }
    else st))
/-- R114, R132: a receive pair has had no qualified tone for 5 ms: on UP that is TONE_LOST. Where it has carried no frame either, the
station turns what arrives on its other port. -/
def execStationToneLost (leg : Leg) (pos : Nat) (gap : ToneGap) (s : State) : Host.Outcome State Fault Refusal :=
  .next (s.modChain leg pos (fun st =>
    if gap.up then { st with toneLost := true, lostUp := st.lostUp || !gap.frames } else { st with lostDown := st.lostDown || !gap.frames }))
/-- R132: a qualified tone is back on a receive pair. -/
def execStationToneQualified (leg : Leg) (pos : Nat) (up : Bool) (s : State) : Host.Outcome State Fault Refusal :=
  .next (s.modChain leg pos (fun st => if up then { st with toneLost := false, lostUp := false } else { st with lostDown := false }))
/-- R124: a station powers up; a position just beyond the chain joins it. -/
def execStationPowerUp (leg : Leg) (pos uid hwId romVersion : Nat) (s : State) : Host.Outcome State Fault Refusal :=
  let st := Station.powerUp uid hwId romVersion false false
  .next (s.modRing leg (fun r =>
    if pos < r.chain.length then { r with chain := updAt r.chain pos (fun old => { st with lostUp := old.lostUp, lostDown := old.lostDown, toneLost := old.toneLost }) }
    else if pos = r.chain.length ∧ pos < 24 then { r with chain := r.chain ++ [st] } else r))
/-- R122: a quiet window or post-conversion hold ends. -/
def execStationQuietWindowEnd (leg : Leg) (pos : Nat) (s : State) : Host.Outcome State Fault Refusal :=
  .next (s.modChain leg pos Station.endWindow)

/-- R131: the return end has seen no qualified tone for TONE_LOSS. -/
def execToneLoss (leg : Leg) (s : State) : Host.Outcome State Fault Refusal :=
  let r := s.ring[leg.val]
  if r.mode ≠ 0 ∨ r.toneGone then .next s
  else
    let s := s.modRing leg (fun r => { r with toneOk := false, toneGone := true, contactLost := true, contactPing := true })
    .next ((s.formEvent (ringType leg) 1 (ringSource leg) noIndex 0 (s.par (P.toneLoss leg.val))).plan leg s.ownEnd 0x03 0 [0])
/-- R137: a qualified tone is back at the return end. -/
def execToneReturn (leg : Leg) (s : State) : Host.Outcome State Fault Refusal :=
  .next (s.modRing leg (fun r => { r with toneOk := true, toneGone := false, silent := 31 }))
/-- R133: at the frame boundary the leg enters split mode and waits 5 ms. -/
def execSplitModeEntry (leg : Leg) (s : State) : Host.Outcome State Fault Refusal :=
  if !s.ring[leg.val].splitDue then .next s
  else
    let s := s.modRing leg (fun r =>
      { r with mode := 1, splitDue := false, splitWait := true, splitEntries := incSat r.splitEntries, sightings := 0, reachA := 0, reachB := 0,
               seek := Vector.replicate 2 0 })
    .next (s.form (ringType leg) 2 (ringSource leg) noIndex s.ring[leg.val].splitEntries 0)
/-- R133: the wait ends; PING with STAKE 0 from each end finds the reach. Where no station turns the frames of an end,
PING with TURN looks for the last station that answers there. -/
def execSplitReflectWait (leg : Leg) (s : State) : Host.Outcome State Fault Refusal :=
  let r := s.ring[leg.val]
  if r.mode ≠ 1 ∨ !r.splitWait then .next s
  else
    let n := s.stations leg
    let lostA := !r.chain.any (fun st => st.turnsFrom false)
    let lostB := !r.chain.any (fun st => st.turnsFrom true)
    let s := s.modRing leg (fun r => { r with splitWait := false, seek := #v[if lostA && s.endServed false then 1 else 0, if lostB && s.endServed true then n else 0] })
    let s := s.planAll leg 0x03 [0]
    let s := if lostA && s.endServed false then s.plan leg false 0x03 1 [1] else s
    .next (if lostB && s.endServed true then s.plan leg true 0x03 n [1] else s)
/-- R134: after three closed-ring sightings REFLECT is cleared and the leg returns to loop mode. -/
def execLoopModeReturn (leg : Leg) (s : State) : Host.Outcome State Fault Refusal :=
  let r := s.ring[leg.val]
  if r.mode ≠ 1 ∨ r.sightings < 3 then .next s
  else
    let s := s.modRing leg (fun r => { r with mode := 0, sightings := 0, reachA := 0, reachB := 0, splitWait := false, splitExits := incSat r.splitExits })
    let s := s.plan leg s.ownEnd 0x61 0 (leBytes 2 0x13 ++ [1] ++ leBytes 2 0)
    .next (s.form (ringType leg) 3 (ringSource leg) noIndex s.ring[leg.val].splitEntries 0)

end Sys2Proof.Machine
end

