-- ==== Sys2Proof/Machine/Link.lean ====
section
/-! DEFINITION. Commands of the Baseline link (R20 to R27) and of on-chip memory errors (R19). -/
namespace Sys2Proof.Machine

/-- The state of one direction of the Baseline. -/
def State.dirOf (s : State) (d : BaseDir) : LinkDir :=
  match d with
  | .f2c => s.base.f2c
  | .c2f => s.base.c2f
/-- The state with one direction of the Baseline changed. -/
def State.modDir (d : BaseDir) (f : LinkDir → LinkDir) (s : State) : State :=
  match d with
  | .f2c => { s with base := { s.base with f2c := f s.base.f2c } }
  | .c2f => { s with base := { s.base with c2f := f s.base.c2f } }
/-- The other direction. -/
def otherDir (d : BaseDir) : BaseDir :=
  match d with
  | .f2c => .c2f
  | .c2f => .f2c
/-- R21: the pending flit of the lowest class, the oldest of it. -/
def lowestFlit (xs : List Flit) : Option Flit := (sortBy (fun f => f.cls) xs).head?
/-- R20, R21: a sequenced class advances SEQ and enters the replay buffer of 16. -/
def sequenced (f : Flit) : Bool := decide (f.cls ≤ 4)
/-- R20 to R22: what a sender puts on the lanes at a flit slot. An idle flit of class 7 does not advance SEQ; it carries the
sequence number that the next new flit will have, and 56 zero bytes (DESIGN CHOICE, log 264). -/
def LinkDir.send (ack : Nat) (nak : Bool) (d : LinkDir) : LinkDir :=
  match d.replaying with
  | f :: rest => { d with replaying := rest, onWire := some { f with ack := ack, nak := nak }, sent := (d.sent + 1) % 2 ^ 32 }
  | [] =>
    match lowestFlit d.pending with
    | none =>
      { d with
        onWire := some { cls := 7, typ := 0, seq := d.nextSeq, ack := ack, nak := nak, tag := 0, payload := .bytes (List.replicate 56 0) }
        sent := (d.sent + 1) % 2 ^ 32 }
    | some f =>
      let g : Flit := { f with seq := d.nextSeq, ack := ack, nak := nak }
      if sequenced f then
        let keep := d.replay ++ [g]
        { d with
          pending := d.pending.erase f, replay := keep.drop (keep.length - 16), nextSeq := (d.nextSeq + 1) % 256, onWire := some g
          sent := (d.sent + 1) % 2 ^ 32 }
      else { d with pending := d.pending.erase f, onWire := some g, sent := (d.sent + 1) % 2 ^ 32 }
/-- The Baseline runs: from LOAD on and up to FAULT-HOLD (R24). -/
def State.linkRuns (s : State) : Bool := !s.inStates [.off, .boot, .laidUp]
/-- R21: a flit slot of a direction. -/
def execBaselineFlitSend (dir : BaseDir) (s : State) : Host.Outcome State Fault Refusal :=
  if !s.linkRuns then .next s
  else
    let back := s.dirOf (otherDir dir)
    .next ((s.modDir dir (fun d => d.send back.lastRx back.nakDue)).modDir (otherDir dir) (fun d => { d with nakDue := false }))
/-- R23: all four lanes of a direction are in lock; a lane out of lock corrupts every flit of its direction. -/
def State.lanesLocked (s : State) (dir : BaseDir) : Bool :=
  match dir with
  | .f2c => s.base.laneF2c == 15
  | .c2f => s.base.laneC2f == 15
/-- R20, R22, R23: a flit arrives: as sent (`crcOk`, and its lanes in lock) or damaged, which its CRC-16 shows. -/
def execBaselineFlitReceived (dir : BaseDir) (crcOk : Bool) (s : State) : Host.Outcome State Fault Refusal :=
  let d := s.dirOf dir
  match d.onWire with
  | none => .next s
  | some f =>
    if !flitGood (f.arrives (crcOk && s.lanesLocked dir)) then
      .next ({ s with base := { s.base with crcErrors := incSat s.base.crcErrors } }.modDir dir (fun d =>
        { d with onWire := none, discarding := true, nakDue := true }))
    else if !sequenced f then .next (s.modDir dir (fun d => { d with onWire := none }))
    else if f.seq ≠ (d.lastRx + 1) % 256 then .next (s.modDir dir (fun d => { d with onWire := none }))
    else .next (s.modDir dir (fun d => { d with onWire := none, discarding := false, lastRx := f.seq, received := d.received ++ [f] }))
/-- R14, R22, R25, R26, R28: a released flit reaches its consumer. Set-points and outputs go to the field die, which ignores
them once it has declared the loss; image, bundle and trains go to the core die, which uses no field data once it has. The
bytes of a permit, and a ring frame, take effect through commands of their own. -/
def State.deliver (f : Flit) (s : State) : State :=
  match f.payload with
  | .setPoint leg frame sample sp =>
    if s.base.fieldLost then s else s.modCle leg (fun c => { c with words := c.words ++ [(frame % 1024, sample, sp)] })
  | .outputs _ fans => if s.base.fieldLost then s else { s with therm := { s.therm with fanOut := fans } }
  | .microcode leg =>
    let mask := setBit s.base.engineMask leg.val true
    let first := mask == 15 && !s.base.enginesLoaded
    let s := { s with base := { s.base with engineMask := mask, enginesLoaded := mask == 15 } }
    if first then s.loadStations else s
  | .image _ _ _ | .bundle _ | .train _ _ =>
    if s.base.coreLost then s else { s with base := { s.base with inbox := s.base.inbox ++ [f.payload] } }
  | .bytes _ | .sampleCopy _ _ _ _ | .ringFrame _ _ _ _ => s
/-- R22: the latch of a sample has passed: frames are compared modulo 1,024, as a class 1 TAG names them. -/
def State.latchPassed (s : State) (tag : Nat) : Bool :=
  match s.grid.latched with
  | none => false
  | some (f, k) =>
    let d := (tag / 64 + 1024 - f % 1024) % 1024
    (d == 0 && decide (tag % 64 ≤ k)) || decide (512 ≤ d)
/-- R22: a set-point released after the latch of the sample that its TAG names. -/
def State.tooLate (s : State) (dir : BaseDir) (f : Flit) : Bool := dir == .c2f && f.cls == 1 && s.latchPassed f.tag
/-- R22, R23: the oldest received flit is released; a set-point past its latch is discarded, and counted with the late ones. -/
def execBaselineFlitRelease (dir : BaseDir) (timing : ReleaseAt) (s : State) : Host.Outcome State Fault Refusal :=
  match (s.dirOf dir).received with
  | [] => .next s
  | f :: rest =>
    let s := s.modDir dir (fun d => { d with received := rest })
    let late := timing == .later
    let drop := s.tooLate dir f
    let s := { s with base := { s.base with lateNow := late, late := if late || drop then incSat s.base.late else s.base.late } }
    .next (if drop then s else s.deliver f)
/-- R22: the sender of a direction replays what follows the named flit. -/
def execBaselineNakReceived (dir : BaseDir) (ack : Nat) (s : State) : Host.Outcome State Fault Refusal :=
  .next ({ s with base := { s.base with replays := incSat s.base.replays } }.modDir dir (fun d =>
    { d with replaying := d.replay.filter (fun f => decide (1 ≤ (f.seq + 256 - ack) % 256) && decide ((f.seq + 256 - ack) % 256 ≤ 16)) }))
/-- R23: a lane gains or loses lock. -/
def execBaselineLaneLock (dir : BaseDir) (lane : Fin 4) (locked : Bool) (s : State) : Host.Outcome State Fault Refusal :=
  .next (match dir with
    | .f2c => { s with base := { s.base with laneF2c := setBit s.base.laneF2c lane.val locked } }
    | .c2f => { s with base := { s.base with laneC2f := setBit s.base.laneC2f lane.val locked } })
/-- UP of BASELINE_STATUS (R23). -/
def State.linkUp (s : State) : Bool := s.base.laneF2c == 15 && s.base.laneC2f == 15 && !s.base.lateNow
/-- R24, R273: the link first reaches UP: supervision is armed, and the engines' microcode and banks are handed to class 4. -/
def execBaselineUp (s : State) : Host.Outcome State Fault Refusal :=
  if !s.linkRuns ∨ !s.linkUp ∨ s.base.supervised then .next s
  else .next (allLegs.foldl (fun t l => t.pushFlit .c2f 4 l.val 0 (.microcode l)) { s with base := { s.base with supervised := true } })

/-- R25: the permit is dropped by the field die until reset. -/
def State.dropPermit (s : State) : State :=
  let s := allLegs.foldl (fun t l => t.stopLeg l) s
  s.modSf (fun f => { f with fresh := false, fieldCmd := 0, legPwm := Vector.replicate 4 false
                             output := f.output.map (fun o => { o with driven := false }) })
/-- R25: the end of the autonomous stop. -/
def State.endAutonomy (s : State) : State :=
  let i := s.base.i0
  ({ s with base := { s.base with ramping := false, autonomy := true } }.dropPermit).formField 0x0103 2 14 noIndex i[0] i[1]
/-- R25, R27: the field die declares the loss. In RUNNING, and during a category 1 ramp, it ramps every leg on its own;
a ramp in progress keeps its currents and its time. In every other state the permit drops at once. -/
def execBaselineLossField (s : State) : Host.Outcome State Fault Refusal :=
  if !s.base.supervised ∨ s.base.fieldLost ∨ !s.linkRuns then .next s
  else
    let s := { s with base := { s.base with fieldLost := true } }
    if s.mode = .running then
      let s := { s with base := { s.base with ramping := true, i0 := s.fld.legMa, frames := 0, zeroRun := 0 } }
      .next (allLegs.foldl (fun t l => t.stopRamp l) s)
    else if s.mode = .stopping ∧ 2 ≤ s.sf.stopCat ∧ !s.sf.opened then
      let s := { s with base := { s.base with ramping := true, i0 := s.sf.i0, frames := s.sf.stopFrames, zeroRun := s.sf.zeroRun } }
      .next (allLegs.foldl (fun t l => t.stopRamp l) s)
    else .next s.dropPermit
/-- R25: every leg has stayed below I_ZERO for 20 ms, or T_MAX has elapsed. -/
def execAutonomyPermitDrop (s : State) : Host.Outcome State Fault Refusal :=
  .next (if s.base.ramping then s.endAutonomy else s)
/-- R25: what the field die checks at a frame boundary of its autonomous stop. -/
def State.autonomyBoundary (s : State) : State :=
  if !s.base.ramping then s
  else
    let t := s.base.frames + 1
    let s := { s with base := { s.base with frames := t, zeroRun := if s.allBelowZero s.fld.legMa then s.base.zeroRun + 1 else 0 } }
    let s : State := allLegs.foldl (fun u l => if u.outside l u.base.i0[l.val] u.fld.legMa[l.val] t then u.stopLeg l else u) s
    if 20 ≤ s.base.zeroRun ∨ s.parN P.tMax ≤ t then s.endAutonomy else s
/-- R26, R27, R313: the core die declares the loss. -/
def execBaselineLossCore (s : State) : Host.Outcome State Fault Refusal :=
  if !s.base.supervised ∨ s.base.coreLost ∨ !s.linkRuns then .next s
  else
    let s := { s with base := { s.base with coreLost := true, lost := true } }
    let s := s.formEvent 0x0103 1 121 noIndex s.lat.legMa[0] s.lat.legMa[1]
    let s := s.trigger 11 2 true
    let s := if s.inStates [.load, .staking, .surveyed] then s.enterFaultHold else s
    .next (s.declareFault (fun t => t))
/-- R26: T_MAX and OPERATE_T have elapsed since the core die's declaration. -/
def execBaselineLossHoldExpiry (s : State) : Host.Outcome State Fault Refusal :=
  .next (if s.base.coreLost ∧ s.mode = .stopping then s.enterFaultHold else s)

/-- R19: a corrected single-bit error is counted. -/
def execMemoryEccCorrected (_region : EccRegion) (s : State) : Host.Outcome State Fault Refusal :=
  .next { s with base := { s.base with eccCorrected := incSat s.base.eccCorrected } }
/-- R19: an uncorrectable error of core memory: category 1 without a cause code of R291 (bit 0, log 81), and FAULT-HOLD: where
a stop begins or runs, at its end (R291), else at once. -/
def State.coreMemoryError (s : State) : State :=
  let s := s.trigger 0 2 true
  if s.inStates [.off, .stopping, .laidUp] then s else s.enterFaultHold
/-- R19, R148: the trains of a leg are discarded: those in flight and those in the buffer count as missing ones. -/
def State.discardTrains (leg : Leg) (s : State) : State :=
  let drop (fromB : Bool) (t : State) : State :=
    match t.ring[leg.val].flight[(endIx fromB).val] with
    | none => t
    | some f => ((t.freeEnd leg fromB).modRing leg (fun r => { r with trainMisses := incSat r.trainMisses })).lostTrain leg fromB f .missing
  let s := s.modRing leg (fun r =>
    { r with arrived := r.arrived.map (fun a => if a.latched then a else { a with fate := .missing, taken := [] }) })
  drop true (drop false s)
/-- R19: an uncorrectable error acts by its region. -/
def execMemoryEccUncorrectable (region : EccRegion) (s : State) : Host.Outcome State Fault Refusal :=
  match region with
  | .coreSram | .safetyTcm => .next (s.declareFault State.coreMemoryError)
  | .cle leg => .next (s.latchLeg leg 9 (s.iLegMean leg) 0)
  | .ring leg => .next (s.discardTrains leg)

end Sys2Proof.Machine
end

