-- ==== Sys2Proof/Machine/Power.lean ====
section
/-! DEFINITION. Supplies, last-gasp, brown-out, the reset input, REFCLK and the laid-up state (R57 to R79, R481). -/
namespace Sys2Proof.Machine

/-- The state with its supply part changed. -/
def State.modSupply (f : Supply → Supply) (s : State) : State := { s with supply := f s.supply }
/-- The state with the reset monitor changed. -/
def State.modReq (f : ResetReq → ResetReq) (s : State) : State := { s with resetReq := f s.resetReq }
/-- The input voltages at an event. -/
def State.setSupply (v : SupplyMv) (s : State) : State := s.modSupply (fun p => { p with vmain := v.vmain, vback := v.vback })
/-- R57: the higher input. -/
def higher (v : SupplyMv) : Nat := max v.vmain v.vback
/-- R58, R80: the selection at a start: VMAIN, VBACK, or the higher input. The rules of R58 say when a selection changes and
give no first one: DESIGN CHOICE (log 266): VMAIN at 4.35 V or more, else VBACK at 4.5 V or more, else the higher, whatever
BACKUP_FITTED says, since no plat has been read. -/
def firstSel (v : SupplyMv) : Nat := if 4350 ≤ v.vmain then 0 else if 4500 ≤ v.vback then 1 else 2
/-- R77, R78, R79: a wake event: LAID-UP ends in BOOT; before step 4 of R76 the sequence is abandoned. `bits` are its bits of
WAKE_CAUSE, `cause` further bits of RESET_CAUSE. -/
def State.wakeBy (bits cause : Nat) (s : State) : State :=
  if s.mode = .laidUp then { s with ret := { s.ret with wake := bits } }.moduleReset (cWake + cause)
  else if 1 ≤ s.layup.step ∧ s.layup.step ≤ 3 then s.abandonLayup 2 noIndex
  else s
/-- R58, R81: the input that carries the module: true for VBACK. -/
def State.onVback (s : State) : Bool :=
  s.supply.sel == 1 || (s.supply.sel == 2 && s.par P.backupFitted == 1 && decide (s.supply.vmain < s.supply.vback))
/-- R60, R77: a transfer between the inputs is counted and recorded; one to VBACK persists the learned values and raises a
host event. In LAID-UP, and in a reset that is held, it is kept in retained memory; in LAID-UP it wakes the module where
WAKE_ON_SUPPLY is set. -/
def State.noteTransfer (s : State) : State :=
  let a : Int := s.supply.vmain
  let b : Int := s.supply.vback
  if s.mode = .laidUp ∨ s.mode = .off then
    let s := { s with ret := { s.ret with transfers := s.ret.transfers ++ [(s.supply.sel, s.supply.vmain, s.supply.vback)] } }
    if s.mode = .laidUp ∧ s.ret.wakeOnSupply then s.wakeBy 64 0 else s
  else
    let s := s.modSupply (fun p => { p with switched := true, switchCount := incSat p.switchCount })
    let s := s.form 0x0401 s.supply.sel 0 noIndex a b
    let s := if !s.onVback then s
      else
        let s := s.event 0x0401 s.supply.sel 0 noIndex a b
        if s.inStates [.surveyed, .armed, .running, .stopping, .faultHold] then s.learnTrigger 5 else s
    if s.par P.wakeOnSupply = 1 then s.wakeBy 64 0 else s
/-- R58: an input is selected: 0 VMAIN, 1 VBACK, 2 the higher of the two, with SUPPLY_LOW. -/
def State.select (sel : Nat) (s : State) (v : SupplyMv) : State :=
  let t := (s.setSupply v).modSupply (fun p => { p with sel := sel, low := decide (sel = 2) })
  if s.onVback = t.onVback then t else t.noteTransfer

/-- R57: power-on release. -/
def execPowerOnRelease (v : SupplyMv) (s : State) : Host.Outcome State Fault Refusal :=
  if s.mode ≠ .off ∨ s.ret.dieHold ∨ s.supply.refclkLost ∨ higher v < 4500 then .next s
  else
    let s := (s.setSupply v).modSupply (fun p => { p with sel := firstSel v, low := decide (firstSel v = 2) })
    .next ((s.modReq (fun q => { high := q.high })).moduleReset cPor)
/-- R65: the higher input falls below 3.9 V. -/
def execBrownOut (v : SupplyMv) (s : State) : Host.Outcome State Fault Refusal :=
  if 3900 ≤ higher v ∨ !s.alwaysOn then .next s
  else
    let cut := s.start.lastGasp
    let t := (s.setSupply v).powerOff
    .next { t with
      supply := { t.supply with refclkLost := false }
      resetReq := { high := t.resetReq.high }
      start := { t.start with wakeCause := 0 }
      ret := { t.ret with dieHold := false, brownOut := true, lastGaspCut := t.ret.lastGaspCut || cut } }
/-- R58, R81: VMAIN is no longer acceptable while VBACK qualifies; without a backup, or with VBACK too low, the module
draws from the higher input. -/
def execSupplySwitchToVback (v : SupplyMv) (s : State) : Host.Outcome State Fault Refusal :=
  if !s.alwaysOn ∨ s.supply.sel ≠ 0 ∨ 4350 ≤ v.vmain then .next s
  else .next (s.select (if 4500 ≤ v.vback ∧ s.par P.backupFitted = 1 then 1 else 2) v)
/-- R58: VMAIN has stayed at or above 4.6 V for 50 ms. -/
def execVmainReturn (v : SupplyMv) (s : State) : Host.Outcome State Fault Refusal :=
  .next (if !s.alwaysOn ∨ s.supply.sel ≠ 1 ∨ v.vmain < 4600 then s else s.select 0 v)
/-- R58: VBACK fails: back to VMAIN at once where it qualifies, else the higher input. -/
def execVbackFailReturn (v : SupplyMv) (s : State) : Host.Outcome State Fault Refusal :=
  .next (if !s.alwaysOn ∨ s.supply.sel ≠ 1 ∨ 4350 ≤ v.vback then s else s.select (if 4500 ≤ v.vmain then 0 else 2) v)
/-- R58: on the higher input an input qualifies again, or the other becomes the higher one. -/
def execSupplyLowExit (v : SupplyMv) (s : State) : Host.Outcome State Fault Refusal :=
  .next (if !s.alwaysOn ∨ s.supply.sel ≠ 2 then s
    else if 4350 ≤ v.vmain then s.select 0 v
    else if 4500 ≤ v.vback ∧ s.par P.backupFitted = 1 then s.select 1 v else s.select 2 v)
/-- R61: an exported rail reaches its current limit. -/
def execRailOverload (rail : Rail) (s : State) : Host.Outcome State Fault Refusal :=
  .next (s.modSupply (fun p =>
    match rail with
    | .vio33 => { p with ovl33 := p.ovl33 || p.rail33 }
    | .vio18 => { p with ovl18 := p.ovl18 || p.rail18 }))
/-- R61: an exported rail leaves its current limit. -/
def execRailOverloadEnd (rail : Rail) (s : State) : Host.Outcome State Fault Refusal :=
  .next (s.modSupply (fun p =>
    match rail with
    | .vio33 => { p with ovl33 := false }
    | .vio18 => { p with ovl18 := false }))

/-- R62: what the field die drops in last-gasp: PWM, the permit, axis coils, fans. -/
def State.dropPlant (s : State) : State :=
  let s := ((s.yieldAll .stop).dropPermit)
  { s with
    axis := s.axis.map (fun a => { a with off := true, dutyA := 0, dutyB := 0 })
    therm := { s.therm with fanDuty := Vector.replicate 4 0, fanNext := Vector.replicate 4 0 } }
/-- R62, R63, R387: the supply-lost record, after the record in programming and before the page buffer; the rest of the
queue is lost. -/
def State.supplyLost (s : State) : State :=
  let lost := s.fb.queue.length + s.fb.forming.length
  let s := if s.fb.isOpen ∧ !s.fb.closed ∧ !s.fb.writeHalted then
      let s := s.bookFinish
      (s.bookPut (s.mkRecord 0x0402 0 1 noIndex s.supply.vmain s.supply.vback s.time.meridian [] false).bytes).bookFlush
    else s
  { s with fb := { s.fb with queue := [], forming := [] }, ret := { s.ret with lostRecords := s.ret.lostRecords + lost } }
/-- R62, R66: both inputs are below 4.2 V: the module draws from the higher one (R64), in any state but OFF and LAID-UP. -/
def execLastGaspStart (v : SupplyMv) (s : State) : Host.Outcome State Fault Refusal :=
  if s.inStates [.off, .laidUp] ∨ s.start.lastGasp ∨ 4200 ≤ v.vmain ∨ 4200 ≤ v.vback then .next s
  else
    let was := s.mode
    let s := (s.select 2 v).dropPlant
    let s := allChannels.foldl State.drainCh s
    let s := { s with
      mode := .stopping
      start := { s.start with lastGasp := true, lastGaspFrom := was }
      layup := { s.layup with due := false, step := 0, awaiting := [] }
      bist := { s.bist with inSlice := false } }
    .next s.supplyLost
/-- R62, R66: the last-gasp work is complete: the learned values are in the store, and the module resets. A brown-out before
leaves the store its previous copy. -/
def execLastGaspComplete (s : State) : Host.Outcome State Fault Refusal :=
  .next (if s.start.lastGasp then s.writeShort.moduleReset cLastGasp else s)

/-- R66, R68: the watchdog has not been refreshed for 50 ms. Last-gasp runs to completion or to brown-out. -/
def execWatchdogExpiry (s : State) : Host.Outcome State Fault Refusal :=
  .next (if s.inStates [.off, .laidUp] ∨ s.start.lastGasp then s else s.moduleReset cWatchdog)
/-- R69: RESETREQ_N has been high for 20 ms. -/
def execResetreqArm (s : State) : Host.Outcome State Fault Refusal :=
  .next (if !s.alwaysOn ∨ !s.resetReq.high ∨ s.resetReq.episode then s else s.modReq (fun q => { q with armed := true }))
/-- R69: a falling edge. -/
def execResetreqFallingEdge (s : State) : Host.Outcome State Fault Refusal :=
  .next (s.modReq (fun q => { q with high := false, qualifying := q.armed }))
/-- R69: a rising edge: a low shorter than 20 ms is ignored. -/
def execResetreqRisingEdge (s : State) : Host.Outcome State Fault Refusal :=
  .next (s.modReq (fun q => { q with high := true, qualifying := false }))
/-- R66, R69, R78: the low has lasted 20 ms: one reset, or a wake; in last-gasp it is ignored. -/
def execResetreqReset (s : State) : Host.Outcome State Fault Refusal :=
  if !s.resetReq.qualifying ∨ s.resetReq.high ∨ !s.resetReq.armed then .next s
  else
    let s := s.modReq (fun q => { q with armed := false, qualifying := false })
    .next (if s.mode = .off ∨ s.start.lastGasp then s
      else if s.mode = .laidUp ∨ (1 ≤ s.layup.step ∧ s.layup.step ≤ 3) then s.wakeBy 128 cResetReq
      else s.moduleReset cResetReq)
/-- R70: the pin has stayed low for 5 s: one stuck record for each episode. -/
def execResetreqStuck (s : State) : Host.Outcome State Fault Refusal :=
  if !s.alwaysOn ∨ s.resetReq.high ∨ s.resetReq.episode then .next s
  else
    let s := s.modReq (fun q => { q with stuck := true, episode := true, armed := false, qualifying := false })
    .next (if s.fb.isOpen then s.form 0x0102 1 120 noIndex 5000 0 else s.modReq (fun q => { q with recordDue := true }))
/-- R70: the pin has been high for 100 ms after a stuck episode. -/
def execResetreqStuckRearm (s : State) : Host.Outcome State Fault Refusal :=
  if !s.alwaysOn ∨ !s.resetReq.high ∨ !s.resetReq.episode then .next s
  else
    let s := s.modReq (fun q => { q with episode := false, armed := true })
    .next (if s.mode = .laidUp ∨ s.mode = .off then s else s.form 0x0102 2 120 noIndex 0 0)

/-- R481: REFCLK stops: every phase stops, the outputs drop, and the watchdog's reset is held until it returns. -/
def execRefclkLoss (s : State) : Host.Outcome State Fault Refusal :=
  if s.inStates [.off, .laidUp] then .next s
  else
    let t := s.survivors
    .next { t with mode := .off, supply := { t.supply with refclkLost := true }
                   ret := { t.ret with lastGaspCut := t.ret.lastGaspCut || s.start.lastGasp } }
/-- R481: REFCLK has been present for 10 ms. -/
def execRefclkReturn (s : State) : Host.Outcome State Fault Refusal :=
  .next (if s.supply.refclkLost then s.moduleReset cWatchdog else s)

/-- R76: SLEEP on a leg, from every end in use. -/
def State.sendSleep (leg : Leg) (s : State) : State :=
  let s := s.modRing leg (fun r => { r with flight := Vector.replicate 2 none })
  (s.endsInUse leg).foldl (fun t b =>
    t.sendFrame { leg := leg, fromB := b, stake := 0, reach := t.ring[leg.val].chain.length, badFrom := none, retry := false, sense := [] }
      0x41 (leBytes 2 0xA55A)) s
/-- R76, R77: steps 3 to 5: the entry record, the close of the book, SLEEP on every leg, LAID-UP. -/
def State.enterLaidUp (s : State) : State :=
  let s := (s.form 0x0404 1 112 noIndex s.start.wakeCause 0).bookClose
  let s := allLegs.foldl (fun t l => if t.measurable l then t.sendSleep l else t) s
  let t := s.survivors
  { t with
    mode := .laidUp
    plat := { t.plat with recs := s.plat.recs }
    supply := { t.supply with rail18 := false, ovl18 := false }
    ret := { t.ret with timer := s.layup.timer, wakeOnSupply := s.par P.wakeOnSupply == 1, transfers := [], wake := 0 } }
/-- R76: the learned-value set has its mark, or 10 s have passed. -/
def execLayupPersistDone (s : State) : Host.Outcome State Fault Refusal :=
  .next (if s.mode = .surveyed ∧ s.layup.step = 2 then s.enterLaidUp else s)
/-- R78: WAKE_IN has been high for its qualification time. -/
def execWakeInEdge (s : State) : Host.Outcome State Fault Refusal := .next (s.wakeBy 16 0)
/-- R78: a wake tone on a leg has lasted its qualification time. -/
def execWakeTone (leg : Leg) (s : State) : Host.Outcome State Fault Refusal := .next (s.wakeBy (2 ^ leg.val) 0)
/-- R78: LAYUP_TIMER hours have passed in LAID-UP; 0 disables the timer. -/
def execWakeTimerExpiry (s : State) : Host.Outcome State Fault Refusal :=
  .next (if s.mode = .laidUp ∧ s.ret.timer = 0 then s else s.wakeBy 32 0)

end Sys2Proof.Machine
end

