-- ==== Sys2Proof/Machine/Twin.lean ====
section
/-! DEFINITION. Commands of twin operation (R299 to R323): roles, the Backsight, the seal, joining, comparison and
arbitration, takeover, swap. -/
namespace Sys2Proof.Machine

/-- R135, R136, R300: the unit takes the role ACTIVE, and runs the code load. -/
def State.becomeActive (s : State) : State :=
  (({ s with role := .active }).modTwin (fun w => { w with waiting := false, activeN := true, degraded := true })).loadStations
/-- R300: the unit takes the role STANDBY. -/
def State.becomeStandby (noLink waiting : Bool) (s : State) : State :=
  ({ s with role := .standby }).modTwin (fun w => { w with waiting := waiting, noLink := noLink, activeN := false })
/-- R300, R313: the role decision on entry to LOAD; PEER_ALIVE_OUT goes high. A unit whose FORCEOFF_N is low does not
become ACTIVE yet. -/
def execTwinRoleDecision (peerActive peerAliveIn : Bool) (s : State) : Host.Outcome State Fault Refusal :=
  if !s.twinMember || s.mode != .load || s.twin.aliveOut then .next s
  else
    let s := s.modTwin (fun w => { w with aliveOut := true, peerAlive := peerAliveIn })
    .next (if peerActive then s.becomeStandby false false
      else if s.unitB || s.sf.forceoff then s.becomeStandby false true
      else s.becomeActive)
/-- R300: START_WAIT has passed for a unit B that waits. -/
def execTwinStartWaitExpiry (peerAliveIn : Bool) (s : State) : Host.Outcome State Fault Refusal :=
  if !s.twin.waiting || !s.unitB then .next s
  else
    let s := s.modTwin (fun w => { w with peerAlive := peerAliveIn })
    .next (if !peerAliveIn && !s.sf.forceoff && !s.twin.incompatible then s.becomeActive
      else if peerAliveIn && !s.twin.up then s.becomeStandby true false
      else s)

/-- The rate correction that a discipline chooses: the spec gives its range only, so it is a free value (log 8). -/
def State.freeRate (s : State) : State :=
  ({ s with time := { s.time with rate := clampInt (-858993) 858993 s.free } }).tookFree 1
/-- R54, R305: the rate correction that brings a standby's Meridian, `err` ticks behind, to within 8 ns of the active unit's in
the next frame: a free value within two ticks a frame of the one that closes the whole error, and within ±200 ppm (log 8). -/
def State.alignRate (err : Int) (s : State) : State :=
  let aim := roundDiv (err * 2 ^ 32) 250000
  ({ s with time := { s.time with rate := clampInt (max (-858993) (aim - 34359)) (min 858993 (aim + 34359)) s.free } }).tookFree 1
/-- R305: alignment of a standby to the active unit's class 0 flit of a frame boundary, by the stamps that the two units give
the same boundary: its Meridian by rate correction, its grid by a slew in the shorter direction (log 265). -/
def State.alignTo (stamp : Nat) (s : State) : State :=
  let err : Int := (stamp : Int) - s.time.frameStamp
  (s.modGrid (fun g => { g with source := 3, slew := s.shorter (roundDiv (4 * err) 5) })).alignRate err
/-- R299, R300, R312, R313, R316: what the peer announces of itself. -/
def State.peerStatus (t : TwinStatus) (s : State) : State :=
  let ok := s.compatible t
  let s := s.modTwin (fun w => { w with peerSerial := t.serial, peerRole := t.role, peerReadback := t.readback, incompatible := !ok })
  let s := if s.twin.waiting ∧ t.role = 0 then s.becomeStandby false false else s
  if s.role = .active ∧ t.role = 0 ∧ s.twin.decided = none ∧ !t.fault then
    (if s.unitB then s.estrange else s.modTwin (fun w => { w with takeoverOut := true }))
  else if s.role = .active ∧ t.role = 2 then s.loseStandby
  else if t.fault then (if s.canTakeOver then s.decideTakeover 7 else s.loseStandby)
  else s
/-- R455: a trial ends, with code 5, when the peer's announcement shows its image INCOMPATIBLE: of another twin
compatibility class (R299). -/
def State.endTwinTrial (t : TwinStatus) (s : State) : State :=
  if s.upd.trial && t.compat != s.start.twinClass then ({ s with ret := { s.ret with trialEnd := 5 } }).moduleReset cUpdate else s
/-- R318: the active unit requests a frame of the standby's ring end; what was in flight there has been answered to the active unit. -/
def State.requestFrame (leg : Leg) (cmd stake : Nat) (payload : List Byte) (s : State) : State :=
  s.modRing leg (fun r =>
    { r with
      flight := vmod r.flight (endIx s.ownEnd) (fun _ => none)
      due := r.due ++ [{ fromB := s.ownEnd, cmd := cmd, stake := stake, payload := payload, retry := 0, seq := 0 }] })
/-- R303 to R312: a released message. Verdicts, seal bundles, join requests, join blocks and the comparison of words have commands
of their own. -/
def State.twinMessage (m : TwinMsg) (s : State) : State :=
  match m with
  | .time stamp => if s.role = .standby ∧ s.twin.everUp then s.alignTo stamp else s
  | .codes _ _ c => if s.role = .standby then s.modTwin (fun w => { w with codes := some c }) else s
  | .words _ _ x => s.modTwin (fun w => { w with peerWords := some x })
  | .status t => (s.peerStatus t).endTwinTrial t
  | .permitWords b => s.modTwin (fun w => { w with peerPermit := some b })
  | .frameWords x => s.modTwin (fun w => { w with peerFrame := some x })
  | .w2 done =>
    let s := s.modTwin (fun w => { w with peerW2 := some done })
    if s.twin.step.paired ∧ ((done ∧ s.win.now[2]) ∨ (!done ∧ s.win.w2Done)) then s.diverge else s
  | .joinAck n => if s.role = .active then s.modTwin (fun w => { w with blocks := n }) else s
  | .launch leg cmd stake payload => if s.role = .standby then s.requestFrame leg cmd stake payload else s
  | .train leg fromB back => if s.role = .active then s.trainBack leg fromB back else s
  | .verdict _ | .joinRequest | .joinAccept | .block _ _ | .bundle _ | .entry _ | .idle => s
/-- R303: classes that a replay repeats. -/
def replayed (cls : Nat) : Bool := cls == 0 || cls == 3 || cls == 4 || cls == 5
/-- R304: a NAK starts the replay of what follows the acknowledged flit. -/
def BackDir.startReplay (ack : Nat) (d : BackDir) : BackDir :=
  { d with replaying := d.replay.filter (fun e => decide ((e.1 + 256 - ack) % 256 ≤ 128) && e.1 != ack) }
/-- R304: a Backsight flit arrives. -/
def execBacksightFlitReceived (cls seq ack : Nat) (nak crcOk : Bool) (msg : TwinMsg) (s : State) : Host.Outcome State Fault Refusal :=
  if !s.twinMember || !s.twin.up then .next s
  else if !crcOk then
    let s := s.modTwin (fun w => { w with errors := incSat w.errors })
    if cls = 1 ∨ cls = 2 then
      let s := s.modTwin (fun w => if w.rx.discarding then w else { w with rx := { w.rx with lastRx := seq } })
      .next (if s.twin.step.paired then s.diverge else s)
    else if replayed cls then
      .next (s.modTwin (fun w => { w with rx := { w.rx with discarding := true, nakDue := true, owed := w.rx.owed + 1 } }))
    else .next s
  else
    let s := if nak then s.modTwin (fun w => { w with tx := w.tx.startReplay ack }) else s
    if replayed cls then
      if s.twin.rx.discarding ∧ seq ≠ (s.twin.rx.lastRx + 1) % 256 then
        .next (s.modTwin (fun w => { w with rx := { w.rx with owed := w.rx.owed + 1 } }))
      else
        let s := s.modTwin (fun w => { w with late := if w.rx.owed > 0 then incSat w.late else w.late
                                              rx := { w.rx with discarding := false, owed := w.rx.owed - 1, lastRx := seq } })
        .next (s.twinMessage msg)
    else
      let s := if (cls = 1 ∨ cls = 2) ∧ !s.twin.rx.discarding then s.modTwin (fun w => { w with rx := { w.rx with lastRx := seq } }) else s
      .next (s.twinMessage msg)
/-- The pending message of the lowest class, the oldest of it. -/
def lowestClass (xs : List (Nat × TwinMsg)) : Option (Nat × TwinMsg) :=
  (sortBy (fun e => e.1) xs).head?
/-- R303: a flit slot: a pending replay, else the lowest class, else an idle flit. -/
def execBacksightFlitSend (s : State) : Host.Outcome State Fault Refusal :=
  if !s.twinMember || !s.twin.up then .next s
  else
    let t := s.twin.tx
    let flit (cls seq : Nat) (m : TwinMsg) : List Byte := backFlit cls seq s.twin.rx.lastRx s.twin.rx.nakDue s.time.frame m
    let s := s.modTwin (fun w => { w with rx := { w.rx with nakDue := false } })
    match t.replaying with
    | e :: rest => .next (s.modTwin (fun w => { w with tx := { t with replaying := rest, onWire := some e.2, wire := flit e.2.1 e.1 e.2.2 } }))
    | [] =>
      match lowestClass t.pending with
      | none => .next (s.modTwin (fun w => { w with tx := { t with onWire := some (7, .idle), wire := flit 7 t.nextSeq .idle } }))
      | some e =>
        let keep := if replayed e.1 then t.replay ++ [(t.nextSeq, e)] else t.replay
        .next (s.modTwin (fun w => { w with tx := { t with
          pending := t.pending.erase e, replay := keep.drop (keep.length - 16), nextSeq := (t.nextSeq + 1) % 256, onWire := some e
          wire := flit e.1 t.nextSeq e.2 } }))
/-- R302, R305: the Backsight reaches UP. The first time, a standby loads the active unit's time. -/
def execBacksightUp (peerStamp delay : Nat) (tai stepped : Bool) (s : State) : Host.Outcome State Fault Refusal :=
  if !s.twinMember || s.inStates [.off, .boot, .plat, .laidUp] then .next s
  else
    let first := !s.twin.everUp
    let s := s.modTwin (fun w => { w with up := true, everUp := true, noLink := false, rx := {}, tx := {} })
    let s := if first && s.role == .standby then
        let before := s.time.meridian
        let after := peerStamp + delay
        ({ s with time := { s.time with meridian := after, frac := 0, tai := tai, stepped := stepped } }).formAt 0x0201 4 133 noIndex s.time.offset 0
          after (leBytes 8 before ++ leBytes 8 after) false
      else s
    .next (s.twinSend 3 (.status s.announce))
/-- R304, R313: nothing has been released for SILENCE_T. -/
def execBacksightSilence (s : State) : Host.Outcome State Fault Refusal :=
  if !s.twin.up then .next s
  else
    let s := (s.modTwin (fun w => { w with up := false, codes := none })).twinRecord 128 5 noIndex
    .next (if s.canTakeOver then s.decideTakeover 5 else s.loseStandby.abandonJoin)
/-- R313: PEER_ALIVE_IN has been low for 2 µs. -/
def execPeerAliveLost (s : State) : Host.Outcome State Fault Refusal :=
  if !s.twin.peerAlive then .next s
  else
    let s := (s.modTwin (fun w => { w with peerAlive := false })).twinRecord 132 6 noIndex
    .next (if s.canTakeOver then s.decideTakeover 6 else s.loseStandby)

/-- R307: 3 µs after the latch an in-step standby computes on the forwarded codes, and checks them against its own. -/
def execStandbyCleStart (s : State) : Host.Outcome State Fault Refusal :=
  if s.role ≠ .standby ∨ !s.twin.step.paired ∨ s.twin.decided ≠ none then .next s
  else
    match s.twin.codes with
    | none => .next (s.modTwin (fun w => { w with missing := true }))
    | some c =>
      let own := s.twin.ownCodes
      let run := Vector.ofFn (fun (i : Fin 18) => if c.toList.getD i.val 0 = own.toList.getD i.val 0 then 0 else s.twin.diffRun[i.val] + 1)
      let s := s.latchSample (Vector.ofFn (fun (i : Fin 20) => c.toList.getD i.val own[i.val]))
      let s := s.modTwin (fun w => { w with codes := none, missing := false, diffRun := run })
      .next (if run.toList.any (fun n => decide (s.parN P.plausSamples ≤ n)) then s.estrange else s)
/-- R308: the seal is incomplete at 100 µs. -/
def execSealBundleLate (s : State) : Host.Outcome State Fault Refusal :=
  .next (if s.role = .standby ∧ s.twin.step.paired ∧ s.twin.sealed ≠ s.time.frame then s.diverge else s)

/-- R311, R312: 2 µs after the write the sample words of both units are compared. -/
def execTwinSampleCompare (s : State) : Host.Outcome State Fault Refusal :=
  if !s.twin.step.paired then .next s
  else
    match s.twin.ownWords, s.twin.peerWords with
    | some a, some b =>
      let s := s.modTwin (fun w => { w with ownWords := none, peerWords := none })
      if a.held ≠ 0 ∨ b.held ≠ 0 ∨ a.notComputed ≠ 0 ∨ b.notComputed ≠ 0 then .next s.diverge
      else
        match firstDiff (sampleFlat a) (sampleFlat b), s.twin.step with
        | none, .suspect => .next (s.modTwin (fun w => { w with step := .inStep }))
        | none, _ => .next s
        | some _, .inStep =>
          .next (s.modTwin (fun w => { w with step := .suspect, singleDiffs := incSat w.singleDiffs, suspectAt := (s.time.frame, s.grid.sample) }))
        | some k, .suspect => .next (s.openDispute k)
        | some _, _ => .next s
    | _, _ => .next s.diverge
/-- R310 to R312: frame words of the peer have come and are compared with the unit's own. -/
def execTwinFrameCompare (s : State) : Host.Outcome State Fault Refusal :=
  if s.twin.step ≠ .inStep ∧ s.twin.step ≠ .suspect then .next s
  else
    let d1 := match s.twin.peerPermit with
      | some p => (firstDiff (permitWords s.sf.permit) (permitWords p)).map (· + 9)
      | none => none
    let d2 := match s.twin.peerFrame, s.twin.ownFrame with
      | some p, some o => (firstDiff (frameFlat o) (frameFlat p)).map (· + 16)
      | _, _ => none
    let s := s.modTwin (fun w => { w with peerPermit := none, peerFrame := none })
    .next (match d1, d2 with
      | some k, _ => s.openDispute k
      | none, some k => s.openDispute k
      | none, none => s)
/-- R311: the recomputation ends; `selfOk` says whether the engine reproduced its own output. -/
def execTwinRecomputeComplete (selfOk : Bool) (s : State) : Host.Outcome State Fault Refusal :=
  if s.twin.step ≠ .dispute ∨ s.twin.own ≠ none then .next s
  else
    let v := selfOk && (decide (9 ≤ s.twin.disputeWord) || s.sampleVerdict)
    .next (((s.modTwin (fun w => { w with own := some v })).twinSend 3 (.verdict v)).arbitrate)
/-- R312: the verdict of the peer. -/
def execTwinVerdictReceived (selfOk : Bool) (s : State) : Host.Outcome State Fault Refusal :=
  if s.twin.step ≠ .dispute ∨ s.twin.peer ≠ none then .next s
  else .next (s.modTwin (fun w => { w with peer := some selfOk })).arbitrate
/-- R311: two frames after the mismatch a verdict that has not come counts as SELF_BAD. -/
def execTwinVerdictTimeout (s : State) : Host.Outcome State Fault Refusal :=
  if s.twin.step ≠ .dispute then .next s
  else .next (s.modTwin (fun w => { w with own := some (w.own.getD false), peer := some (w.peer.getD false) })).arbitrate

/-- R314, R190, R318: the standby that has decided takes the plant over. -/
def execTakeoverSwitch (s : State) : Host.Outcome State Fault Refusal :=
  if s.twin.decided = none ∨ s.role ≠ .standby then .next s
  else
    let s := ({ s with role := .active }).modTwin (fun w =>
      { w with decided := none, activeN := true, takeoverOut := true, degraded := true, step := .none, eligibleFrom := none, missing := false })
    .next (s.selectSource.announceService.yieldAll .protection)
/-- R289, R314, R316, R321: FORCEOFF_N goes low. Where both units assert TAKEOVER_N, unit B releases its own and unit A
stays. An active unit that is forced off has been taken over. -/
def execForceoffAssert (s : State) : Host.Outcome State Fault Refusal :=
  if s.sf.forceoff then .next s
  else
    let both := s.twin.takeoverOut && s.isActive
    let s := { s.outputsOff with sf := { s.outputsOff.sf with forceoff := true } }
    if !s.twinMember then .next s
    else if both && !s.unitB then .next s
    else if s.role = .active ∧ !s.inStates [.off, .boot, .plat, .laidUp] then
      let code := if s.twin.outcome = 0 then 1 else s.twin.outcome
      .next ((s.estrange.modTwin (fun w => { w with takeoverOut := false, outcome := code })).twinRecord 130 code noIndex)
    else .next s
/-- R300, R316: FORCEOFF_N returns high; an estranged unit's stays low until its reset. -/
def execForceoffRelease (s : State) : Host.Outcome State Fault Refusal :=
  if s.role = .estranged then .next s
  else
    let s := { s with sf := { s.sf with forceoff := false } }
    .next (if s.twin.waiting && !s.unitB && s.twin.peerRole != 0 && !s.twin.incompatible then s.becomeActive else s)

/-- R308, R309: a standby requests a join, or the active unit accepts one. -/
def execJoinRequest (s : State) : Host.Outcome State Fault Refusal :=
  if !s.twinMember || !s.twin.up || s.twin.incompatible || s.twin.step.paired then .next s
  else
    let start (t : State) : State := t.modTwin (fun w => { w with step := .joining, blocks := 0, final := false, eligibleFrom := none })
    match s.role with
    | .estranged => .next s
    | .standby => .next ((start s).twinSend 3 .joinRequest)
    | .active =>
      if s.acceptsJoin then .next (((start s).modTwin (fun w => { w with takeoverOut := true })).twinSend 3 .joinAccept) else .next s
/-- R308: a class 5 block reaches the standby, which acknowledges it. The layout of the state in the blocks is not
given: the state they bring comes whole with JOIN_COMPLETE (log 74). -/
def execJoinBlockReceived (_index : Nat) (_data : List Byte) (s : State) : Host.Outcome State Fault Refusal :=
  if s.role ≠ .standby ∨ s.twin.step ≠ .joining then .next s
  else
    let s := s.modTwin (fun w => { w with blocks := w.blocks + 1 })
    .next (s.twinSend 5 (.joinAck s.twin.blocks))
/-- R308: the dirty set is small enough: the final phase. -/
def execJoinConverged (s : State) : Host.Outcome State Fault Refusal :=
  if s.twin.step ≠ .joining then .next s
  else if s.isActive && !s.acceptsJoin then .next s.abandonJoin
  else .next (s.modTwin (fun w => { w with final := true }))
/-- R308: an engine as the active unit has it; its last codes and the samples kept for a dispute stay the unit's own. -/
def Cle.joined (own other : Cle) : Cle := { other with codes := own.codes, hist := own.hist }
/-- R308: the tables of a ring; what is on the unit's own end of it stays. -/
def Ring.joined (own other : Ring) : Ring :=
  { other with
    chain := own.chain, flight := own.flight, seq := own.seq, due := own.due, missRun := own.missRun, toneOk := own.toneOk
    toneGone := own.toneGone, freeAt := own.freeAt, loadAt := own.loadAt, arrived := own.arrived, serial := own.serial }
/-- R308: the safety pair's state and dark-test counts; inputs, feedback, drives, permit and pins stay the unit's own. -/
def Safety.joined (own other : Safety) : Safety :=
  { other with
    input := own.input, fbk := own.fbk, imgSfi := own.imgSfi, imgFbk := own.imgFbk, imgReadback := own.imgReadback, tps := own.tps
    dark := own.dark, darkOn := own.darkOn, fieldCmd := own.fieldCmd, permit := own.permit, fresh := own.fresh, permitTimeout := own.permitTimeout
    lockstep := own.lockstep, forceoff := own.forceoff, legPwm := own.legPwm, tgCopies := own.tgCopies, tgSent := own.tgSent
    output := Vector.ofFn (fun (i : Fin 8) => { other.output[i.val] with
      driven := own.output[i.val].driven, readback := own.output[i.val].readback
      stuckOn := own.output[i.val].stuckOn, stuckOff := own.output[i.val].stuckOff, diagFault := own.output[i.val].diagFault }) }
/-- R308: thermal management; measured temperatures and speeds, comparator codes and duties on the pins stay the unit's own. -/
def Thermal.joined (own other : Thermal) : Thermal :=
  { other with
    ntcFault := own.ntcFault, ntc := own.ntc, dieRestart := own.dieRestart, fanDuty := own.fanDuty, fanRpm := own.fanRpm, fanFault := own.fanFault
    tachNow := own.tachNow, tachHist := own.tachHist, tripCode := own.tripCode, relCode := own.relCode }
/-- R308: an axis; its inputs, its motor voltage and its drive stay the unit's own. -/
def Axis.joined (own other : Axis) : Axis :=
  { other with
    homeLevel := own.homeLevel, homeQual := own.homeQual, edge := own.edge, edgeNow := own.edgeNow, limitNow := own.limitNow, limit := own.limit
    vmot := own.vmot, dutyA := own.dutyA, dutyB := own.dutyB, off := own.off }
/-- R308: the active unit's state replaces the standby's live state. -/
def State.takeJoin (j : JoinState) (s : State) : State :=
  { s with
    mode := j.mode, time := { s.time with frame := j.frame }
    cells := j.cells, temps := j.temps, sdiag := j.sdiag, diag := j.diag
    ring := Vector.ofFn (fun (i : Fin 4) => s.ring[i.val].joined j.ring[i.val])
    est := j.est, eleg := j.eleg, stringSoc := j.stringSoc, mdOffset := j.mdOffset, mdOffsetDue := j.mdOffsetDue, probe := j.probe
    llim := j.llim, slim := j.slim, str := j.str, conv := j.conv
    cle := Vector.ofFn (fun (i : Fin 4) => s.cle[i.val].joined j.cle[i.val])
    therm := s.therm.joined j.therm
    axis := Vector.ofFn (fun (i : Fin 4) => s.axis[i.val].joined j.axis[i.val])
    sf := s.sf.joined j.sf }
/-- R308, R309: every block is acknowledged in frame F_j: in step from F_j + 1, TAKEOVER_N released at the boundary of
F_j + 2, from which the standby is eligible. -/
def execJoinComplete (j : JoinState) (s : State) : Host.Outcome State Fault Refusal :=
  if s.twin.step ≠ .joining ∨ !s.twin.final then .next s
  else if s.isActive && !s.acceptsJoin then .next s.abandonJoin
  else
    let s := if s.role = .standby then s.takeJoin j else s
    let f := s.time.frame + 2
    let s := s.modTwin (fun w => { w with step := .inStep, eligibleFrom := some f, inStepAt := s.time.meridian, final := false, diffRun := Vector.replicate 18 0
                                          releaseAt := if s.isActive then some f else none })
    .next (s.twinRecord 129 17 noIndex)
/-- R309: JOIN_TIMEOUT: the join is abandoned and requested again. -/
def execJoinTimeout (s : State) : Host.Outcome State Fault Refusal :=
  if s.twin.step ≠ .joining then .next s
  else
    let s := s.modTwin (fun w => { w with blocks := 0, final := false })
    .next (if s.role = .standby then s.twinSend 3 .joinRequest else s)
/-- R319: the swap of the frame whose seal holds the command acts two frames later. -/
def State.beginSwap (s : State) : State := s.modTwin (fun w => { w with swapAt := some (s.time.frame + 2) })
/-- R319: the roles change over at the boundary of the swap. -/
def execSwapBoundary (s : State) : Host.Outcome State Fault Refusal :=
  if s.twin.swapAt ≠ some s.time.frame then .next s
  else
    let s := s.modTwin (fun w => { w with swapAt := none })
    if s.twin.step ≠ .inStep ∨ s.twin.ownFault then .next s
    else
      let next : Role := if s.isActive then .standby else .active
      let s := ({ s with role := next }).modTwin (fun w => { w with activeN := next == Role.active, outcome := 8 })
      let s := if next = .active then s.selectSource.announceService
        else allLegs.foldl (fun t l => t.modRing l (fun r => { r with due := [] })) (s.endListeners.modGrid (fun g => { g with source := 3 }))
      .next (s.twinRecord 131 8 noIndex)
/-- R321: no eligible standby for TWIN_GRACE while TWIN_REQUIRED is 1. -/
def execTwinGraceExpiry (s : State) : Host.Outcome State Fault Refusal :=
  if s.twinMember && s.isActive && s.twin.degraded && s.par P.twinRequired == 1 then .next (s.trigger 12 2 true) else .next s

end Sys2Proof.Machine
end

