-- ==== Sys2Proof/Machine/Sync.lean ====
section
/-! DEFINITION. The sample grid and its sources (R32 to R40), the Meridian (R51, R54), and PTP (R52, R53, R401 to R403). -/
namespace Sys2Proof.Machine

/-- The state with its PTP part changed. -/
def State.modPtp (f : Ptp → Ptp) (s : State) : State := { s with net := { s.net with ptp := f s.net.ptp } }
/-- R39, R40: the next sample period begins, its predecessor adjusted while the grid slews; SYNCOUT pulses. Its stamp
follows from the sample before it, whatever has been stamped between. -/
def State.nextSample (s : State) : State :=
  let adj := s.grid.adjust s.maxAdjust
  let len := ((s.period : Int) + adj).toNat
  let at2 := s.stampAfter len
  let s := s.modTime (fun t => { t.reach s.ppsDriven at2.1 with frac := at2.2 })
  let pulse := s.grid.syncoutMode == 0 && s.syncoutDriven
  let k := (s.grid.sample + 1) % s.nSamples
  let s := s.modGrid (fun g =>
    { g with
      slew := g.slew - (adj - (if g.source = 0 then g.syncinDev else 0)), cycles := g.cycles + len, sample := k, stamp := at2.1
      syncoutPulses := if pulse then (g.syncoutPulses + 1) % 2 ^ 32 else g.syncoutPulses })
  s.holdMark.handOver (if k = 0 then s.time.frame + 1 else s.time.frame) k
/-- R35, R39: a sample period within the frame starts; sample 0 starts with its frame boundary. -/
def execSampleBoundary (s : State) : Host.Outcome State Fault Refusal :=
  .next (if s.inStates [.off, .laidUp] ∨ s.nSamples ≤ s.grid.sample + 1 then s else s.nextSample)
/-- R33: the periods that remain of the frame pass, and sample 0 of the next begins. -/
def State.finishFrame : Nat → State → State
  | 0, s => s
  | n + 1, s => State.finishFrame n s.nextSample

/-- R37: SYNCIN is lost: the grid has gone on at its last period until now, and takes the next source. -/
def State.loseSyncin (s : State) : State :=
  (s.modGrid (fun g => { g with syncinValid := false, syncinGood := 0, syncinBad := 0, syncinDev := 0 })).selectSource
/-- R37: a SYNCIN period of d ticks is within 1 % of the nominal one, five ticks to four field cycles. -/
def State.syncinInRange (s : State) (d : Int) : Bool := decide (100 * ((4 * d - 5 * s.period).natAbs : Int) ≤ 5 * s.period)
/-- R37: what an edge at a stamp counts as, after the last edge. -/
def State.countSyncin (stamp : Nat) (s : State) : State :=
  match s.grid.syncinLast with
  | none => s.modGrid (fun g => { g with syncinLast := some stamp })
  | some last =>
    let d : Int := (stamp : Int) - last
    let good := s.syncinInRange d
    s.modGrid (fun g =>
      { g with
        syncinLast := some stamp
        syncinGood := if good then min 64 (g.syncinGood + 1) else 0
        syncinBad := if good then 0 else g.syncinBad + 1
        syncinDev := if good then roundDiv (4 * d) 5 - s.period else g.syncinDev
        syncinValid := g.syncinValid || (good && decide (64 ≤ g.syncinGood + 1)) })
/-- R37, R39: a SYNCIN rising edge, with the field die's stamp (R34), is counted; a qualified one is the grid's reference. -/
def execSyncinEdge (stamp : Nat) (s : State) : Host.Outcome State Fault Refusal :=
  if s.inStates [.off, .boot, .laidUp] then .next s
  else
    let s := (s.at' stamp).countSyncin stamp
    let s := if s.grid.syncinValid ∧ 4 ≤ s.grid.syncinBad then s.loseSyncin else s.selectSource
    .next (if s.grid.source = 0 then
        s.modGrid (fun g => { g with slew := s.shorter (g.phaseCycles + roundDiv (4 * ((stamp : Int) - g.stamp)) 5) })
      else s)
/-- R37: no SYNCIN edge for 1.5 periods, or four periods out of range. -/
def execSyncinLoss (s : State) : Host.Outcome State Fault Refusal :=
  .next (if s.grid.syncinValid then s.loseSyncin.modGrid (fun g => { g with syncinLast := none })
    else s.modGrid (fun g => { g with syncinLast := none, syncinGood := 0 }))

/-- The whole second that follows the Meridian's reading. -/
def State.nextSecond (s : State) : Nat := (s.time.meridian / ticksPerSecond + 1) * ticksPerSecond
/-- R54: the next whole second falls within the sample period in progress. -/
def State.secondNear (s : State) : Bool := decide (s.nextSecond ≤ (s.stampAfter ((s.period : Int) + s.grid.adjust s.maxAdjust).toNat).1)
/-- R54: the Meridian crosses a whole second within the sample period in progress: PPS_OUT pulses. -/
def execPpsOutSecond (s : State) : Host.Outcome State Fault Refusal :=
  if !s.ppsDriven ∨ !s.secondNear then .next s
  else .next (s.at' s.nextSecond)
/-- R54: a rising edge on PPS_IN. -/
def execPpsInEdge (at' : Nat) (s : State) : Host.Outcome State Fault Refusal :=
  .next ((s.at' at').modTime (fun t => { t with ppsIn := at' }))

/-- Lexicographic order of byte strings and numbers. -/
def lexLess : List Nat → List Nat → Bool
  | [], [] => false
  | x :: xs, y :: ys => if x = y then lexLess xs ys else decide (x < y)
  | [], _ :: _ => true
  | _ :: _, [] => false
/-- The bytes of an identity as numbers. -/
def idNums (b : List Byte) : List Nat := b.map (fun x => x.toNat)
/-- R402: the dataset comparison of IEEE 1588-2019: the grandmasters' data, or of one grandmaster the path. -/
def announceBetter (a b : Announce) : Bool :=
  if a.grandmaster = b.grandmaster then lexLess (a.steps :: idNums a.identity) (b.steps :: idNums b.identity)
  else lexLess ([a.prio1, a.clockClass, a.accuracy, a.variance, a.prio2] ++ idNums a.grandmaster)
    ([b.prio1, b.clockClass, b.accuracy, b.variance, b.prio2] ++ idNums b.grandmaster)
/-- R402: the best master heard on a port. -/
def bestMaster (lan : Nat) (xs : List Announce) : Option Announce :=
  (xs.filter (fun a => a.lan == lan)).foldl (fun b a => match b with
    | none => some a
    | some c => if announceBetter a c then some a else b) none
/-- R402: the master is selected anew; a change is recorded and forgets what belonged to the old one. -/
def State.selectMaster (s : State) : State :=
  let best := (bestMaster s.net.ptp.lan s.net.ptp.masters).map (fun a => a.identity)
  if best = s.net.ptp.selected then s
  else (s.modPtp (fun p => { p with selected := best, sync := none, delayReq := none, down := none, upPath := none })).form 0x7001 6 83 noIndex 0 0
/-- R54, R403: PTP runs in this unit. -/
def State.ptpRuns (s : State) : Bool := s.role != .standby && !s.inStates [.off, .boot, .plat, .laidUp]
/-- R402: an Announce. -/
def execPtpAnnounceReceived (a : Announce) (s : State) : Host.Outcome State Fault Refusal :=
  if !s.ptpRuns || (a.domain : Int) != s.par P.ptpDomain || decide (255 ≤ a.steps) then .next s
  else
    .next (s.modPtp (fun p => { p with masters := p.masters.filter (fun b => !(b.lan == a.lan && b.identity == a.identity)) ++ [a] })).selectMaster
/-- R402: a two-step Sync is stamped: t2 in Meridian ticks, its correction in ns. -/
def execPtpSyncReceived (lan : Fin 2) (identity : List Byte) (seqId t2 : Nat) (corr : Int) (s : State) : Host.Outcome State Fault Refusal :=
  let s := s.at' t2
  if !s.ptpRuns ∨ s.net.ptp.lan ≠ lan.val ∨ s.net.ptp.selected ≠ some identity then .next s
  else .next (s.modPtp (fun p => { p with sync := some (seqId, (t2 : Int) * 4 - s.par P.phyDelayRx 0xFF lan.val, corr) }))
/-- A TIME record (R389). -/
def State.timeRecord (code : Nat) (ext : List Byte) (s : State) : State :=
  s.formAt 0x0201 code 83 noIndex s.time.offset 0 s.time.meridian ext false
/-- R52: the first offset of a start: the Meridian steps forward once to TAI. The frame and the sample in progress are
re-based by the step, so that the grid does not move at it; the field die's copy follows at the next boundary (DESIGN
CHOICE, log 262: the spec says nothing of the stamps of a frame in progress). -/
def State.stepToTai (offset : Int) (s : State) : State :=
  let before := s.time.meridian
  let after := max before ((before : Int) - roundDiv offset 4).toNat
  let d := after - before
  let s := s.modTime (fun t => { t with meridian := after, tai := true, stepped := true, frameStamp := t.frameStamp + d, copyAt := t.copyAt + d })
  (s.modGrid (fun g => { g with stamp := g.stamp + d })).timeRecord 1 (leBytes 8 before ++ leBytes 8 after)
/-- R52: PTP_LOCKED by the size of the offset. -/
def State.judgeLock (offset : Int) (s : State) : State :=
  let n := if offset.natAbs ≤ 1000 then min 16 (s.time.inLock + 1) else 0
  let was := s.time.locked
  let now := (was || decide (16 ≤ n)) && decide (offset.natAbs ≤ 10000)
  let s := s.modTime (fun t => { t with inLock := n, locked := now, holdover := false })
  let s := if now && !was then s.timeRecord 2 [] else s
  if now = was then s else s.selectSource
/-- R52: the discipline of the Meridian by a valid offset: one step in a start, then the rate correction alone. -/
def State.discipline (offset : Int) (s : State) : State :=
  let s := s.modTime (fun t => { t with offset := satI32 offset })
  if s.time.stepped then s.freeRate.judgeLock offset else (s.stepToTai offset).modTime (fun t => { t with holdover := false })
/-- R402: a Follow_Up gives the Sync's t1 (ns) and its correction; with a path of the last 16 intervals the Sync is valid. -/
def execPtpFollowUpReceived (lan : Fin 2) (identity : List Byte) (seqId : Nat) (t1 corr : Int) (s : State) :
    Host.Outcome State Fault Refusal :=
  if !s.ptpRuns ∨ s.net.ptp.lan ≠ lan.val ∨ s.net.ptp.selected ≠ some identity then .next s
  else
    match s.net.ptp.sync with
    | none => .next s
    | some (q, t2, c2) =>
      if q ≠ seqId then .next s
      else
        let down := t2 - t1 - corr - c2
        let s := s.modPtp (fun p => { p with sync := none, down := some down, upAge := p.upAge + 1 })
        match s.net.ptp.upPath with
        | none => .next s
        | some up =>
          if s.net.ptp.upAge > 16 then .next s
          else .next ((s.modPtp (fun p => { p with path := satI32 (roundDiv (down + up) 2) })).discipline (roundDiv (down - up) 2))
/-- R402: a Delay_Req is sent to the selected master. -/
def execPtpDelayReqSend (t3 : Nat) (s : State) : Host.Outcome State Fault Refusal :=
  let s := s.at' t3
  if !s.ptpRuns ∨ s.net.ptp.selected.isNone then .next s
  else .next (s.modPtp (fun p =>
    { p with delayReq := some (p.reqSeq, (t3 : Int) * 4 + s.par P.phyDelayTx 0xFF p.lan), reqSeq := (p.reqSeq + 1) % 65536 }))
/-- R402: the master's answer: t4 in ns and its correction. -/
def execPtpDelayRespReceived (lan : Fin 2) (identity : List Byte) (seqId : Nat) (t4 corr : Int) (s : State) :
    Host.Outcome State Fault Refusal :=
  if !s.ptpRuns ∨ s.net.ptp.lan ≠ lan.val ∨ s.net.ptp.selected ≠ some identity then .next s
  else
    match s.net.ptp.delayReq with
    | none => .next s
    | some (q, t3) =>
      if q ≠ seqId then .next s
      else
        let up := t4 - t3 - corr
        .next (s.modPtp (fun p =>
          { p with delayReq := none, upPath := some up, upAge := 0
                   path := match p.down with
                     | some d => satI32 (roundDiv (d + up) 2)
                     | none => p.path }))
/-- R53: no valid Sync for 3 s: holdover; a Meridian-derived grid goes to free-run without moving. -/
def execPtpSyncTimeout (s : State) : Host.Outcome State Fault Refusal :=
  if !s.ptpRuns then .next s
  else
    let was := s.time.holdover
    let s := s.modTime (fun t => { t with locked := false, holdover := true, inLock := 0 })
    let s := if was then s else s.timeRecord 3 []
    .next s.selectSource
/-- R402: a master has been silent for three announce intervals. -/
def execPtpMasterTimeout (lan : Fin 2) (identity : List Byte) (s : State) : Host.Outcome State Fault Refusal :=
  .next (s.modPtp (fun p => { p with masters := p.masters.filter (fun b => !(b.lan == lan.val && b.identity == identity)) })).selectMaster
/-- R403: in automatic mode PTP moves to the other port, which has a selected master. -/
def execPtpPortFailover (s : State) : Host.Outcome State Fault Refusal :=
  let other := 1 - s.net.ptp.lan
  if !s.ptpRuns ∨ s.par P.ptpLan ≠ 2 ∨ (bestMaster other s.net.ptp.masters).isNone then .next s
  else .next ((s.modPtp (fun p => { p with lan := other })).form 0x7001 5 83 other 0 0).selectMaster

end Sys2Proof.Machine
end

