-- ==== Sys2Proof/Machine/Objects.lean ====
section
/-! DEFINITION. The object map: what a read of each object returns (R23, R56, R80, R105, R137, R167, R197, R223, R257,
R276, R297, R322, R335, R352, R375, R391, R411, R421, R439, R458, R471). -/
namespace Sys2Proof.Machine

/-- A readable object: bytes of an element, sign, number of elements, and the elements. -/
structure Obj where
  width : Nat
  signed : Bool
  count : Nat
  val : Nat → Int
/-- An unsigned scalar. -/
def scalar (width : Nat) (x : Nat) : Obj := { width := width, signed := false, count := 1, val := fun _ => x }
/-- A signed scalar. -/
def signedScalar (width : Nat) (x : Int) : Obj := { width := width, signed := true, count := 1, val := fun _ => x }
/-- An unsigned array. -/
def array (width count : Nat) (f : Nat → Nat) : Obj := { width := width, signed := false, count := count, val := fun i => f i }
/-- A signed array. -/
def signedArray (width count : Nat) (f : Nat → Int) : Obj := { width := width, signed := true, count := count, val := f }
/-- The u8 array that a byte list spells. -/
def byteArray (count : Nat) (bs : List Byte) : Obj := array 1 count (fun i => (nth bs i 0).toNat)
/-- A word from fields: value and lowest bit. -/
def fieldsWord (xs : List (Nat × Nat)) : Nat := (xs.map (fun p => p.1 * 2 ^ p.2)).sum
/-- A word from flags: a Bool and its bit. -/
def flagsWord (xs : List (Bool × Nat)) : Nat := (xs.map (fun p => b2n p.1 * 2 ^ p.2)).sum
/-- A mask of the legs that satisfy a condition. -/
def legMask (f : Leg → Bool) : Nat := (allLegs.map (fun l => b2n (f l) * 2 ^ l.val)).sum
/-- An index of four. -/
def ix4 (i : Nat) : Fin 4 := ⟨i % 4, by omega⟩
/-- Bytes of a list of values in R4 order. -/
def Obj.bytes (o : Obj) (first n : Nat) : List Byte := (List.range n).flatMap (fun i => leInt o.width (o.val (first + i)))

/-- SUPPLY_STATUS (R80). -/
def State.supplyStatus (s : State) : Nat :=
  s.supply.sel + flagsWord [(decide (4350 ≤ s.supply.vmain), 4), (decide (4500 ≤ s.supply.vback), 5), (s.supply.low, 6),
    (s.supply.switched, 7), (s.supply.ovl33, 8), (s.supply.ovl18, 9)]
/-- BASELINE_STATUS (R23). -/
def State.baselineStatus (s : State) : Nat :=
  fieldsWord [(s.base.laneF2c, 4), (s.base.laneC2f, 8)] + flagsWord [(s.linkUp, 0), (s.base.lost, 1), (s.base.autonomy, 2)]
/-- TIME_STATUS (R56). -/
def State.timeStatus (s : State) : Nat :=
  s.grid.source * 16 + flagsWord [(s.win.any, 0), (s.win.safety, 1), (s.win.frozen, 2), (s.grid.syncinValid, 3),
    (s.grid.slew != 0, 6), (s.time.tai, 7), (s.time.locked, 8), (s.time.holdover, 9), (s.net.ptp.lan != 0, 10), (s.time.stepped, 11)]
/-- PLAT_STATUS (R105). -/
def State.platStatus (s : State) : Nat :=
  let p := s.plat
  fieldsWord [(p.copy, 0), (p.result[0], 8), (p.result[1], 12)] +
  flagsWord [(p.recovery, 2), (p.fallback, 3), (p.clash, 4), (p.installFail, 5), (p.installed, 6)]
/-- First page of the install control (R102). -/
def installBase : Nat := 13304
/-- An install-control entry (R102). -/
structure InstallEntry where
  page : Nat
  seq : Nat
  ready : Bool
  target : Nat
  fails : Nat
  serial : Nat
  hash : List Byte
  deriving DecidableEq, Repr
/-- R102: the entry of a page, where its MAGIC and CRC are correct. -/
def installEntry (page : Nat) (b : List Byte) : Option InstallEntry :=
  if fieldAt 0 4 b = 0x4C4E5449 ∧ fieldAt 28 4 b = crc32 (b.take 28) then
    some { page := page, seq := fieldAt 4 4 b, ready := fieldAt 8 1 b == 1, target := fieldAt 9 1 b, fails := fieldAt 10 1 b,
           serial := fieldAt 12 4 b, hash := slice 16 12 b }
  else none
/-- R102: the governing entry: the valid one with the highest SEQ. -/
def State.governing (s : State) : Option InstallEntry :=
  let es := (List.range 8).filterMap (fun i => installEntry (installBase + i) (Memory.readBytes s.store ((installBase + i) * 4096) 32))
  (sortBy (fun e => 0xFFFFFFFF - e.seq) es).head?
/-- READY of the governing entry (R102, R105). -/
def State.installReady (s : State) : Bool := match s.governing with
  | some e => e.ready
  | none => false
/-- R102: an entry is programmed into the next page of the install control, which is erased when it is full. SEQ advances by
one; the spec gives none for the first entry: DESIGN CHOICE (log 268): 1. -/
def State.programInstall (ready : Bool) (target fails serial : Nat) (hash : List Byte) (s : State) : State :=
  let used := (List.range 8).filter (fun i => (Memory.readBytes s.store ((installBase + i) * 4096) 32).any (fun x => x != Memory.erased))
  let seq := match s.governing with
    | some e => e.seq + 1
    | none => 1
  let next := match used.getLast? with
    | some i => i + 1
    | none => 0
  let mem := if next = 8 then Memory.erase s.store (installBase * 4096) 32768 else s.store
  let b := leBytes 4 0x4C4E5449 ++ leBytes 4 seq ++ leBytes 1 (b2n ready) ++ leBytes 1 target ++ leBytes 1 fails ++ leBytes 1 0 ++
    leBytes 4 serial ++ hash.take 12
  { s with store := Memory.program mem ((installBase + next % 8) * 4096) (b ++ leBytes 4 (crc32 b)) }
/-- The groups 0x01 to 0x04: state, Baseline, time, supplies, plat. -/
def State.objectsCore (s : State) (id : Nat) : Option Obj :=
  let h (f : PlatHeader → Nat) : Nat := match s.plat.header with
    | some p => f p
    | none => 0
  let hb (f : PlatHeader → List Byte) : List Byte := match s.plat.header with
    | some p => f p
    | none => []
  match id with
  | 0x01000010 => some (scalar 1 s.mode.code)
  | 0x01000011 => some (scalar 1 (legMask (fun l => s.ring[l.val].available)))
  | 0x01000020 => some (scalar 4 s.baselineStatus)
  | 0x01000021 => some (scalar 4 s.base.crcErrors)
  | 0x01000022 => some (scalar 4 s.base.replays)
  | 0x01000023 => some (scalar 4 s.base.late)
  | 0x02000001 => some (scalar 8 s.time.frameStamp)
  | 0x02000002 => some (scalar 4 s.time.frame)
  | 0x02000003 => some (scalar 4 s.timeStatus)
  | 0x02000004 => some (scalar 2 s.grid.phase)
  | 0x02000005 => some (scalar 1 (b2n s.grid.syncinEnable))
  | 0x02000006 => some (signedScalar 4 s.time.offset)
  | 0x02000007 => some (scalar 8 s.time.ppsIn)
  | 0x02000010 => some (scalar 4 s.win.count[0])
  | 0x02000011 => some (scalar 4 s.win.count[1])
  | 0x02000012 => some (scalar 4 s.win.count[2])
  | 0x02000013 => some (scalar 4 s.win.count[3])
  | 0x02000014 => some (scalar 4 s.win.count[4])
  | 0x02000015 => some (scalar 4 s.win.count[5])
  | 0x03000001 => some (scalar 4 s.platStatus)
  | 0x03000002 => some (scalar 4 s.platSerial)
  | 0x03000003 => some (byteArray 28 (hb (fun p => p.bodyHash)))
  | 0x03000004 => some (scalar 4 (h (fun p => p.safetyCrc)))
  | 0x03000005 => some (byteArray 16 (hb (fun p => p.tag)))
  | 0x03000006 => some (scalar 4 (h (fun p => p.flosor)))
  | 0x03000007 => some (scalar 2 s.plat.failType)
  | 0x03000008 => some (scalar 2 s.plat.skipped)
  | 0x03000010 => some (scalar 4 (s.plat.stage + 256 * b2n s.installReady))
  | 0x04000001 => some (scalar 4 s.supplyStatus)
  | 0x04000002 => some (scalar 2 s.supply.vmain)
  | 0x04000003 => some (scalar 2 s.supply.vback)
  | 0x04000004 => some (scalar 4 s.supply.switchCount)
  | 0x04000010 => some (scalar 4 s.resetCause)
  | 0x04000011 => some (scalar 4 s.start.powerCycles)
  | 0x04000012 => some (scalar 4 s.start.wakeCause)
  | 0x04000013 => some (scalar 2 s.layup.timer)
  | _ => none

/-- LINK_STATUS (R137). -/
def Ring.linkStatus (r : Ring) : Nat :=
  fieldsWord [(r.modeRead, 1), (r.staked, 7), (r.silent, 12), (r.reachA, 17), (r.reachB, 22)] +
  flagsWord [(r.available, 0), (r.toneOk, 3), (r.contactLost, 4), (r.stakeComplete, 5), (r.loaded, 6)]
/-- The groups 0x10 to 0x13 (R137): instance 0 the leg, 1 to 24 its stations. -/
def State.objectsRing (s : State) (leg : Leg) (stake m : Nat) : Option Obj :=
  let r := s.ring[leg.val]
  let n := s.stations leg
  if stake = 0 then
    match m with
    | 1 => some (scalar 4 r.linkStatus)
    | 2 => some (scalar 4 r.loopTime)
    | 3 => some (array 2 24 (fun i => hopNs n r.distA false (i + 1)))
    | 4 => some (array 2 24 (fun i => hopNs n r.distB true (i + 1)))
    | 5 => some (scalar 4 r.trainMisses)
    | 6 => some (scalar 4 r.recordErrors)
    | 7 => some (scalar 4 r.splitEntries)
    | _ => none
  else if 24 < stake then none
  else
    match m with
    | 1 => some (byteArray 8 (leBytes 8 (lookupD 0 r.uids stake)))
    | 2 => some (scalar 1 (lookupD 0 r.statuses stake))
    | 3 => some (scalar 4 (lookupD 0 r.codes stake))
    | _ => none

/-- CELL_FLAGS (R167). -/
def Cell.flags (c : Cell) : Nat :=
  flagsWord [(c.invalid, 0), (c.late, 1), (c.bleedNear, 2), (c.stale, 3), (c.bleeding, 4), (c.deviation, 5), (c.openAdj, 6), (c.switchFail, 7)]
/-- The stakes of a leg's stations. -/
def State.stakes (s : State) (leg : Leg) : List Nat := (List.range (s.stations leg)).map (· + 1)
/-- LEG_DIAG (R167). -/
def State.legDiagWord (s : State) (leg : Leg) : Nat :=
  let d := s.diag[leg.val]
  let any (f : StationDiag → Bool) : Bool := (s.stakes leg).any (fun k => f (s.sdiagAt leg k))
  flagsWord [(d.roundValid, 0), (d.balancing, 1), (any (fun x => x.fast), 2), (d.skipped, 3), (d.closureFail, 4),
    (any (fun x => x.suspect != 0), 5), (any (fun x => x.openWires != 0), 6),
    ((s.legKeys leg).any (fun k => (s.cell k.2.2).switchFail), 7), (d.hkFail, 8), (any (fun x => x.mismatch), 9)]
/-- The group 0x14 (R167). -/
def State.objectsCells (s : State) (leg : Leg) (m : Nat) : Option Obj :=
  let c (i : Nat) : Cell := s.cell (leg.val * 384 + i)
  let d := s.diag[leg.val]
  match m with
  | 1 => some (array 2 384 (fun i => (c i).v))
  | 2 => some (array 1 384 (fun i => (c i).flags))
  | 3 => some (signedArray 2 192 (fun i => (s.temp (leg.val * 192 + i)).t))
  | 4 => some (scalar 8 d.plumbStamp)
  | 5 => some (scalar 4 (s.legDiagWord leg))
  | 6 => some (signedScalar 4 d.residual)
  | 7 => some (array 4 24 (fun i => (s.sdiagAt leg (i + 1)).openWires))
  | 8 => some (scalar 4 ((s.stakes leg).map (fun k => b2n (s.sdiagAt leg k).fast * 2 ^ (k - 1))).sum)
  | 9 => some (signedArray 8 384 (fun i => if s.populatedCell leg (i / 16 + 1) (i % 16 + 1) then satI64 (c i).bleedCharge else chargeInvalid))
  | 10 => some (scalar 4 d.missed)
  | 11 => some (scalar 4 d.unexplained)
  | _ => none

/-- A value in a u32 format of R2, or its invalid code. -/
def code32 (x : F64) (scale : Nat) : Nat := satU32 (x.mul (F64.ofNat scale)).round
/-- EST_FLAGS (R197). -/
def State.estFlags (s : State) (e : EstCell) (b : Bin) : Nat :=
  let recent : Bool := match e.anchorAt with
    | some t => decide (s.time.meridian < t + 86400 * ticksPerSecond)
    | none => false
  flagsWord [(e.countOnly, 0), (e.tempSubst, 1), (!recent, 2), (b.count == 0, 3), (e.capLearned, 4), (e.restAnchor, 5)]
/-- PROBE_STATUS (R197). -/
def State.probeStatus (s : State) (leg : Leg) : Nat :=
  let p := s.probe[(pairOf leg).val]
  let g := s.eleg[leg.val]
  g.lastResult * 256 + flagsWord [(p.eligible, 0), (p.phase == .committed, 1), (p.phase == .running || p.phase == .observed, 2), (g.natural, 3)]
/-- SOP_FLAGS (R223). -/
def LegLimits.flags (l : LegLimits) : Nat :=
  let out (k : Fin 3) : Bool := l.budDis[k.val] == 0 || l.budChg[k.val] == 0
  fieldsWord [(l.disBy, 8), (l.chgBy, 12)] + flagsWord [(out 0, 3), (out 1, 4), (out 2, 5), (l.rising, 6), (l.margin, 7)]
/-- The members of a leg in group 0x20 (R197, R223); an unpopulated position reports its invalid code (R8). -/
def State.objectsEst (s : State) (leg : Leg) (m : Nat) : Option Obj :=
  let pop (i : Nat) : Bool := s.populatedCell leg (i / 16 + 1) (i % 16 + 1)
  let e (i : Nat) : EstCell := s.estCell (leg.val * 384 + i)
  let g := s.eleg[leg.val]
  let l := s.llim[leg.val]
  let bin (i : Nat) : Bin := s.presentBin leg (e i) g.mean
  let cell (width bad : Nat) (f : Nat → Nat) : Option Obj := some (array width 384 (fun i => if pop i then f i else bad))
  let table (width bad : Nat) (f : Bin → Nat) : Option Obj :=
    some (array width 5760 (fun i => if pop (i / 15) then f (nth (e (i / 15)).bins (i % 15) Bin.blank) else bad))
  match m with
  | 0x01 => cell 2 0xFFFF (fun i => if (e i).socSet then socCode (e i).reported else 0xFFFF)
  | 0x02 => cell 1 0 (fun i => (e i).socConf)
  | 0x03 => cell 4 0xFFFFFFFF (fun i => code32 (e i).cap 1)
  | 0x04 => cell 1 0 (fun i => s.capConf leg (e i))
  | 0x05 => cell 4 0xFFFFFFFF (fun i => code32 (bin i).rs 1000000)
  | 0x06 => cell 4 0xFFFFFFFF (fun i => code32 (bin i).rp 1000000)
  | 0x07 => cell 4 0xFFFFFFFF (fun i => code32 (bin i).cp 100)
  | 0x08 => cell 1 0 (fun i => rsConf (bin i))
  | 0x09 => table 4 0xFFFFFFFF (fun b => code32 b.rs 1000000)
  | 0x0A => table 4 0xFFFFFFFF (fun b => code32 b.rp 1000000)
  | 0x0B => table 4 0xFFFFFFFF (fun b => code32 b.cp 100)
  | 0x0C => table 2 0x8000 (fun b => if b.count = 0 then 0x8000 else min b.count 0x7FFF)
  | 0x0D => cell 1 0x0D (fun i => s.estFlags (e i) (bin i))
  | 0x0E => some (signedArray 2 384 (fun i => if pop i then satI16 ((e i).h.mul (F64.ofNat 10000)).round else tInvalid))
  | 0x10 => some (scalar 2 g.soc)
  | 0x11 => some (scalar 1 g.conf)
  | 0x12 => some (signedScalar 8 (satI64 g.charge.round))
  | 0x13 => some (signedScalar 4 (satI32 (g.offset.mul (s.countScale leg)).round))
  | 0x14 => some (scalar 4 (s.probeStatus leg))
  | 0x15 => some (scalar 8 g.probeStamp)
  | 0x16 => some (scalar 4 g.accepted)
  | 0x17 => some (scalar 4 g.discarded)
  | 0x20 => some (signedArray 4 4 (fun i => l.disI[(ix4 i).val]))
  | 0x21 => some (signedArray 4 4 (fun i => l.chgI[(ix4 i).val]))
  | 0x22 => some (signedArray 4 4 (fun i => l.disP[(ix4 i).val]))
  | 0x23 => some (signedArray 4 4 (fun i => l.chgP[(ix4 i).val]))
  | 0x24 => some (scalar 1 l.conf)
  | 0x25 => some (scalar 4 l.flags)
  | 0x26 => some (scalar 4 l.eDis)
  | 0x27 => some (scalar 4 l.eChg)
  | 0x28 => some (signedArray 4 2 (fun i => if i = 0 then l.enfDis else l.enfChg))
  | 0x29 => cell 1 0 (fun i => (e i).endFlags)
  | _ => none
/-- The string members of group 0x20 (R197, R223). -/
def State.objectsString (s : State) (m : Nat) : Option Obj :=
  let l := s.slim
  match m with
  | 0x01 => some (scalar 2 s.stringSoc)
  | 0x02 => some (scalar 1 s.probeEnable)
  | 0x03 => some (scalar 1 (b2n s.natEnable))
  | 0x10 => some (signedArray 4 4 (fun i => l.disP[(ix4 i).val]))
  | 0x11 => some (signedArray 4 4 (fun i => l.chgP[(ix4 i).val]))
  | 0x12 => some (scalar 1 l.conf)
  | 0x13 => some (scalar 4 l.eDis)
  | 0x14 => some (scalar 4 l.eChg)
  | 0x15 => some (scalar 4 l.tte)
  | 0x16 => some (scalar 4 l.ttf)
  | 0x17 => some (scalar 4 (l.warn + 256 * l.latched))
  | 0x18 => some (scalar 4 (s.learn.lastTrigger * 4096 + flagsWord [(s.learn.writing.isSome, 0), (s.learn.waiting.isSome, 1),
      (s.learn.writeFail, 8), (s.learn.initialised, 9), (s.learn.shortApplied, 10)]))
  | 0x19 => some (scalar 4 s.learn.generation)
  | _ => none

/-- LEG_STATUS (R257). -/
def LegConv.status (c : LegConv) : Nat :=
  fieldsWord [(c.st.code, 0), (c.cause, 20)] +
  flagsWord [(c.pwmen, 7), (c.ovlDerate, 8), (c.limited, 9), (c.probeOffset, 10), (c.enableRefused, 11)]
/-- STRING_STATUS (R257). -/
def StringConv.status (c : StringConv) : Nat :=
  fieldsWord [(c.mode, 0), (c.kind, 2), (c.retries, 10)] +
  flagsWord [(c.limited, 4), (c.x != c.xt, 5), (c.wdHold, 6), (c.wdExpired, 7), (c.modeChange.isSome, 9)]
/-- A frame mean of MDk in its channel's unit. -/
def State.md (s : State) (k : Nat) : Int := s.lat.md.toList.getD k 0
/-- I_str: the sum of I_bus,n over the populated legs, mA (R228). -/
def State.stringI (s : State) : Int := ((allLegs.filter (fun l => s.populated l)).map (fun l => s.iBusMean l)).sum
/-- The group 0x30 (R257). -/
def State.objectsConv (s : State) (leg : Leg) (m : Nat) : Option Obj :=
  let c := s.conv[leg.val]
  let p (i : Nat) : PhasePwm := if i = 0 then s.pwm[(phaseA leg).val] else s.pwm[(phaseB leg).val]
  match m with
  | 1 => some (scalar 4 c.status)
  | 2 => some (scalar 4 (s.vLegMean leg).toNat)
  | 3 => some (signedScalar 4 (satI32 (s.iLegMean leg)))
  | 4 => some (signedScalar 4 (satI32 (s.iBusMean leg)))
  | 5 => some (signedArray 4 2 (fun i => satI32 (s.md (4 * leg.val + i))))
  | 6 => some (array 2 2 (fun i => (p i).compare))
  | 7 => some (scalar 2 (satU16 (c.weight.mul (F64.ofNat 10000)).round))
  | 8 => some (signedScalar 4 (satI32 c.setpoint))
  | 9 => some (signedArray 4 2 (fun i => satI32 (if i = 0 then c.f10 else c.f1s).round))
  | 10 => some (scalar 2 (roundDiv c.kOvl 100).toNat)
  | 11 => some (array 4 2 (fun i => (p i).fastTrips))
  | 12 => some (array 4 2 (fun i => (p i).desatTrips))
  | _ => none
/-- The string members of group 0x30 (R257). -/
def State.objectsBus (s : State) (m : Nat) : Option Obj :=
  match m with
  | 1 => some (scalar 4 s.str.status)
  | 2 => some (scalar 4 s.vBusMean.toNat)
  | 3 => some (signedScalar 4 (satI32 s.stringI))
  | 4 => some (signedScalar 4 (satI32 (s.md 17)))
  | 5 => some (signedScalar 4 (satI32 (roundDiv (s.vBusMean * s.stringI) 1000000)))
  | 6 => some (signedScalar 4 (satI32 (roundDiv s.str.x 1000)))
  | 7 => some (signedScalar 4 (satI32 (roundDiv s.str.xt 1000)))
  | 8 => some (scalar 2 s.str.timeout)
  | 9 => some (signedArray 4 2 (fun i => satI32 (s.md (18 + i))))
  | _ => none
/-- The group 0x38 (R276). -/
def State.objectsCle (s : State) (leg : Leg) (m : Nat) : Option Obj :=
  let c := s.cle[leg.val]
  let three (f : Comp → Nat) (i : Nat) : Nat := match c.comp[i]? with
    | some x => f x
    | none => 0
  let sat (i : Nat) : Bool := three (fun x => b2n x.sat) i == 1
  match m with
  | 1 => some (scalar 4 (c.bank + flagsWord [(s.bankForming leg c.bank, 1), (sat 0, 5), (sat 1, 6), (sat 2, 7), (c.direct, 8), (c.running, 9)]))
  | 2 => some (array 4 3 (fun i => three (fun x => x.satCount) i))
  | 3 => some (scalar 4 c.held)
  | 4 => some (signedArray 4 3 (fun i => c.outPrev.toList.getD i 0))
  | 5 => some (signedArray 4 42 (fun i => s.coef leg (i / 21) (i % 21 / 7) (i % 7)))
  | 6 => some (scalar 1 c.bankSelect)
  | 7 => some (signedArray 4 4 (fun i => if i % 2 = 0 then s.dMin leg (i / 2) else s.dMax leg (i / 2)))
  | _ => none

/-- PAIR_STATUS of a pair (R297). -/
def State.pairStatus (s : State) (k : Nat) : Nat := match s.sf.pair[k]? with
  | some p => flagsWord [(s.pairDemand k, 0), (p.testFail, 1), (p.crossShort, 2), (p.discrepancy, 3), (p.latched, 4)]
  | none => 0
/-- OUT_TEST of a channel (R297). -/
def SafetyOutput.test (o : SafetyOutput) : Nat :=
  o.missed * 16 + flagsWord [(o.lastGood, 0), (o.diagFault, 1), (o.stuckOn, 2), (o.stuckOff, 3)]
/-- SAFETY_STATUS (R297). -/
def State.safetyStatus (s : State) : Nat :=
  s.sf.stopCat * 4 + flagsWord [(fieldAt 0 1 s.sf.permit != 0, 0), (s.healthy, 1), (s.sf.stopCat != 0, 4), (s.sf.latched != 0, 5),
    (s.sf.pair.toList.any (fun p => p.testFail || p.crossShort || p.discrepancy), 6),
    (s.sf.output.toList.any (fun o => o.stuckOn || o.stuckOff || o.diagFault), 7), (s.welded, 8), (s.sf.tripReq, 9),
    (s.sf.tgDischargeInhibit, 10), (s.chargeInhibit, 11), (s.sf.tgDegraded, 12), (s.sf.tgWd, 13), (s.sf.permitTimeout, 14), (s.sf.lockstep, 15)]
/-- An entry of an eight-channel table. -/
def outAt (s : State) (i : Nat) : SafetyOutput := s.sf.output.toList.getD i {}
/-- The group 0x40 (R297). -/
def State.objectsSafety (s : State) (m : Nat) : Option Obj :=
  match m with
  | 1 => some (scalar 4 s.safetyStatus)
  | 2 => some (scalar 2 s.sfiWord)
  | 3 => some (array 1 8 (fun i => s.pairStatus i))
  | 4 => some (scalar 2 (s.sf.imgReadback * 256 + s.sfoCmd))
  | 5 => some (scalar 1 s.sf.fbk)
  | 6 => some (array 1 8 (fun i => (outAt s i).test))
  | 7 => some (scalar 4 s.contactorStatus)
  | 8 => some (scalar 4 s.sf.stopCause)
  | 9 => some (scalar 1 s.sf.firstCause)
  | 10 => some (scalar 8 s.sf.stopStamp)
  | 11 => some (array 4 8 (fun i => (outAt s i).good))
  | 12 => some (scalar 4 s.sf.tgRx)
  | _ => none

/-- STEP of TWIN_STATUS (R322). -/
def TwinStep.code : TwinStep → Nat
  | .none => 0
  | .joining => 1
  | .inStep => 2
  | .suspect => 3
  | .dispute => 3
/-- TWIN_STATUS (R322). -/
def State.twinStatus (s : State) : Nat :=
  let w := s.twin
  fieldsWord [(s.role.code, 0), (w.step.code, 2), (w.outcome, 12), ((s.par P.unit).toNat, 16)] +
  flagsWord [(w.up, 4), (w.peerAlive, 5), (s.sf.forceoff, 6), (w.takeoverOut, 7), (s.swapReady, 8), (w.noLink, 9), (w.incompatible, 10), (w.degraded, 11)]
/-- IN_STEP_TIME (R322), s. -/
def State.inStepTime (s : State) : Nat := if s.twin.step.paired then (s.time.meridian - s.twin.inStepAt) / ticksPerSecond else 0
/-- The group 0x48 (R322). -/
def State.objectsTwin (s : State) (m : Nat) : Option Obj :=
  let w := s.twin
  match m with
  | 1 => some (scalar 4 s.twinStatus)
  | 2 => some (scalar 4 w.peerSerial)
  | 3 => some (scalar 4 (twinKey s.plat.recs))
  | 4 => some (scalar 4 s.inStepTime)
  | 5 => some (scalar 4 w.singleDiffs)
  | 6 => some (scalar 4 w.mismatches)
  | 7 => some (scalar 4 w.divergences)
  | 8 => some (scalar 4 w.takeovers)
  | 9 => some (scalar 8 w.lastTakeover)
  | 10 => some (scalar 4 (w.disputeOutcome * 2 ^ 28 + w.disputeWord % 4096 * 65536 + w.disputeFrame % 65536))
  | 11 => some (scalar 4 w.errors)
  | _ => none
/-- A mask of a vector of four flags. -/
def mask4 (v : Vector Bool 4) : Nat := (allLegs.map (fun i => b2n v[i.val] * 2 ^ i.val)).sum
/-- THERMAL_STATUS (R335). -/
def State.thermalStatus (s : State) : Nat :=
  let t := s.therm
  fieldsWord [(mask4 t.stageWarn, 16), (mask4 t.stageTrip, 20), (mask4 t.valveHold, 24), (mask4 t.fanFault, 28)] +
  flagsWord [(t.chargeBlock, 6), (t.warnLow, 7), (t.warnHigh, 8), (t.cellThrottle, 9), (s.sf.hotNow, 10), (t.ntcFault.toList.any (fun b => b), 11),
    (t.ambWarn, 12), (t.dieWarn, 13), (t.dieThrottle, 14), (t.dieRestart, 15)]
/-- A temperature or its invalid code. -/
def tempOr (t : Option Int) : Int := t.getD tInvalid
/-- The group 0x50 (R335). -/
def State.objectsThermal (s : State) (m : Nat) : Option Obj :=
  let t := s.therm
  match m with
  | 1 => some (scalar 4 s.thermalStatus)
  | 2 => some (signedArray 2 8 (fun i => t.ntc.toList.getD i tInvalid))
  | 3 => some (signedArray 2 4 (fun i => t.ntc.toList.getD (8 + i) tInvalid))
  | 4 => some (signedArray 2 2 (fun i => s.lat.die.toList.getD i 0))
  | 5 => some (signedArray 2 4 (fun i => tempOr (listMax? (s.cellTemps (ix4 i)))))
  | 6 => some (signedArray 2 4 (fun i => tempOr (listMin? (s.cellTemps (ix4 i)))))
  | 7 => some (array 4 4 (fun i => t.stageTrips[(ix4 i).val]))
  | 8 => some (array 4 4 (fun i => t.valveTarget[(ix4 i).val]))
  | 9 => some (signedArray 2 4 (fun i => t.valveSp[(ix4 i).val]))
  | 10 => some (array 2 4 (fun i => t.fanDuty[(ix4 i).val]))
  | 11 => some (array 2 4 (fun i => t.fanRpm[(ix4 i).val]))
  | 12 => some (array 2 4 (fun i => t.fanOverride[(ix4 i).val]))
  | _ => none
/-- AXIS_STATE codes (R352). -/
def AxState.code : AxState → Nat
  | .disabled => 0
  | .holding => 1
  | .moving => 2
  | .homing => 3
  | .stopping => 4
  | .fault => 5
  | .standstill => 6
/-- The group 0x58 (R352). -/
def State.objectsAxis (s : State) (i : Fin 4) (m : Nat) : Option Obj :=
  let a := s.axis[i.val]
  match m with
  | 1 => some (scalar 4 (fieldsWord [(a.st.code, 0), (a.cause, 8)] + flagsWord [(a.homed, 3), (a.homeLevel, 4), (a.chatterWarn, 5),
      (a.limit[0] || a.hit[0], 6), (a.limit[1] || a.hit[1], 7)]))
  | 2 => some (signedScalar 4 a.position)
  | 3 => some (signedScalar 4 a.speed)
  | 4 => some (signedScalar 4 a.target)
  | 5 => some (scalar 1 0)
  | 6 => some (scalar 1 (b2n (a.enable || a.heldEnable)))
  | 7 => some (signedScalar 4 a.latch)
  | 8 => some (scalar 8 a.latchStamp)
  | 9 => some (scalar 2 a.vmot)
  | 10 => some (scalar 4 a.chatter)
  | 11 => some (scalar 4 a.clamps)
  | _ => none

/-- R375: the mapped pages of a region. -/
def State.regionPages (s : State) (r : Nat) : Nat :=
  let total := s.portPages 0 + s.portPages 1
  min (s.regionStart (r + 1)) total - min (s.regionStart r) total
/-- STORE_STATUS (R375). -/
def State.storeStatus (s : State) : Nat :=
  let a := s.su.port[0]
  let b := s.su.port[1]
  fieldsWord [(a.kind, 0), (b.kind, 2)] + flagsWord [(a.up, 5), (b.up, 6), (a.down, 7), (b.down, 8), (s.su.short, 9), (s.su.truncated, 10), (s.su.reserveEmpty, 11)]
/-- CH_STATE codes (R375). -/
def ChSt.code : ChSt → Nat
  | .idle => 0
  | .active => 1
  | .waiting => 2
  | .halted => 3
  | .draining => 4
  | .disabled => 5
/-- The store members of group 0x60 (R375). -/
def State.objectsStore (s : State) (m : Nat) : Option Obj :=
  let p (i : Nat) : Port := s.su.port.toList.getD i {}
  match m with
  | 1 => some (scalar 4 s.storeStatus)
  | 2 => some (array 4 2 (fun i => if i = 0 then s.portPages 0 else s.portPages 1))
  | 3 => some (array 4 16 (fun i => if i % 2 = 0 then s.regionStart (i / 2) else s.regionPages (i / 2)))
  | 4 => some (array 2 2 (fun i => (p i).retired))
  | 5 => some (array 4 2 (fun i => (p i).resets))
  | 6 => some (scalar 4 s.su.suspends)
  | _ => none
/-- The channel members of group 0x60 (R375). -/
def State.objectsDma (s : State) (c : Fin 16) (m : Nat) : Option Obj :=
  let x := s.su.ch[c.val]
  let path := if x.st = .idle ∨ x.st = .disabled then 3 else s.pathOf c
  match m with
  | 1 => some (scalar 4 (fieldsWord [(x.st.code, 0), (path, 8), (chPriority c.val, 10), (x.fault, 16)]))
  | 2 => some (scalar 4 x.progress)
  | 3 => some (scalar 4 x.faultPage)
  | 4 => some (scalar 4 x.faults)
  | _ => none
/-- The group 0x68 (R391). -/
def State.objectsBook (s : State) (m : Nat) : Option Obj :=
  let f := s.fb
  match m with
  | 1 => some (scalar 4 (flagsWord [(f.isOpen, 0), (f.replayed, 1), (f.reformatted, 2), (f.queueFull, 3), (f.writeHalted, 4), (f.closed, 5)]))
  | 2 => some (scalar 4 s.bookHead)
  | 3 => some (scalar 4 f.oldest)
  | 4 => some (scalar 4 f.records)
  | 5 => some (scalar 4 f.dropped)
  | 6 => some (scalar 4 f.suppressed)
  | 7 => some (scalar 4 f.corrupt)
  | 8 => some (scalar 4 (f.opMs / 1000))
  | _ => none

/-- R320, R397: the unit answers on SERVICE_ADDR. -/
def State.onService (s : State) : Bool := s.isActive && s.par P.serviceAddr != 0
/-- LAN_STATUS (R421). -/
def State.lanStatus (s : State) (i : Fin 2) : Nat :=
  let l := s.net.lan[i.val]
  l.speed * 16 + flagsWord [(l.link, 0), (l.present, 1), (l.aneg, 2), (s.onService, 3), (s.net.ptp.lan == i.val, 6), (l.degraded, 7)]
/-- The port members of group 0x70 (R421). -/
def State.objectsLan (s : State) (i : Fin 2) (m : Nat) : Option Obj :=
  let l := s.net.lan[i.val]
  match m with
  | 1 => some (scalar 4 (s.lanStatus i))
  | 2 => some (scalar 4 l.rxFrames)
  | 3 => some (scalar 4 l.rxErrors)
  | 4 => some (scalar 4 l.wrongLan)
  | _ => none
/-- R409: the EPOCH of the present start. -/
def State.epoch (s : State) : Nat := (Config.epoch s.start.powerCycles).toNat
/-- R98: the link-local address, 169.254.x.y. -/
def linkLocal (serial : Nat) : Nat := 0xA9FE0000 + (1 + serial % 254) * 256 + (1 + serial / 254 % 254)
/-- R395: the module's address: IP_ADDR, one more in unit B, or link-local in recovery and where IP_ADDR is 0. -/
def State.address (s : State) : Nat :=
  if s.plat.recovery ∨ s.parN P.ipAddr = 0 then linkLocal s.fuses.serial
  else (s.parN P.ipAddr + b2n (s.twinMember && s.unitB)) % 2 ^ 32
/-- The module members of group 0x70 (R421). -/
def State.objectsNet (s : State) (m : Nat) : Option Obj :=
  match m with
  | 1 => some (array 4 3 (fun i => if i = 0 then s.address else if i = 1 then s.parN P.netmask else s.parN P.gateway))
  | 2 => some (byteArray 6 (beBytes 6 s.fuses.mac))
  | 3 => some (scalar 4 s.epoch)
  | 4 => some (scalar 4 s.net.duplicates)
  | 5 => some (byteArray 10 (s.net.ptp.selected.getD []))
  | 6 => some (signedScalar 4 (satI32 s.net.ptp.path))
  | 7 => some (scalar 4 s.host.authFail)
  | 8 => some (scalar 4 s.host.replay)
  | 9 => some (scalar 4 s.host.busy)
  | 10 => some (array 4 5 (fun i => s.net.tg.toList.getD i 0))
  | 11 => some (scalar 4 s.host.overflow)
  | 12 => some (array 1 2 (fun i => if i = 0 then s.host.subs.length else s.host.followers.length))
  | _ => none
/-- CAN_STATUS (R439). -/
def State.canStatus (s : State) (c : Fin 4) : Nat :=
  let x := s.can[c.val]
  fieldsWord [(x.st, 0), ((s.par P.canTxOrder c.val).toNat, 3), (x.err, 4)] +
  flagsWord [(x.listen, 6), (x.detecting, 7), (x.drop, 8), (x.ovf, 9)]
/-- The controller members of group 0x78 (R439). -/
def State.objectsCan (s : State) (c : Fin 4) (m : Nat) : Option Obj :=
  let x := s.can[c.val]
  match m with
  | 1 => some (scalar 4 (s.canStatus c))
  | 2 => some (scalar 1 (b2n x.enable))
  | 3 => some (array 1 3 (fun i => (x.tx.toList.getD i {}).st))
  | 4 => some (scalar 1 x.rxq.length)
  | 5 => some (array 1 2 (fun i => min 255 (if i = 0 then x.tec else x.rxe)))
  | 6 => some (array 1 2 (fun i => if i = 0 then x.arb else x.dat))
  | 7 => some (scalar 4 x.rxFrames)
  | 8 => some (scalar 4 x.txFrames)
  | 9 => some (scalar 4 x.rxDropped)
  | 10 => some (scalar 4 x.txDropped)
  | 11 => some (scalar 4 x.rxRemote)
  | 12 => some (scalar 4 x.busOffs)
  | 13 => some (scalar 4 x.mapShort)
  | _ => none
/-- R453: seconds left on the trial timer; 0 when none runs. -/
def State.trialRemain (s : State) : Nat :=
  if s.upd.trial then s.upd.trialLimit - (s.fb.opMs - s.start.opAtBoot) / 1000 else 0
/-- UPDATE_STATUS (R458). -/
def State.updateStatus (s : State) : Nat :=
  fieldsWord [(s.upd.slot, 0), (s.upd.session, 5), (s.upd.lastResult, 8)] + flagsWord [(s.upd.fallback, 1), (s.upd.trial, 2)]
/-- The group 0x80 (R458). -/
def State.objectsUpdate (s : State) (m : Nat) : Option Obj :=
  let version (k : Nat) : Nat := if s.slotState k = 0 then 0 else fieldAt 12 4 (s.headerCopy k)
  let generation (k : Nat) : Nat := match s.lastEntry k with
    | some e => if e.state = 3 then e.gen else 0
    | none => 0
  match m with
  | 1 => some (scalar 4 s.updateStatus)
  | 2 => some (scalar 4 s.start.imageVersion)
  | 3 => some (byteArray 32 (if s.start.imageOk then slice 72 32 (s.headerCopy s.upd.slot) else List.replicate 32 0))
  | 4 => some (scalar 4 s.start.twinClass)
  | 5 => some (array 1 2 (fun i => s.slotState i))
  | 6 => some (array 4 2 version)
  | 7 => some (array 4 2 generation)
  | 8 => some (scalar 4 s.upd.received)
  | 9 => some (scalar 4 s.upd.applied)
  | 10 => some (scalar 2 s.trialRemain)
  | 11 => some (scalar 1 (b2n s.upd.enable))
  | 12 => some (scalar 1 ((allLegs.map (fun k => b2n s.fuses.updateKeys[k.val].isSome * 2 ^ k.val + b2n s.fuses.updateRevoked[k.val] * 2 ^ (4 + k.val))).sum))
  | _ => none
/-- The group 0x88 (R471). -/
def State.objectsBist (s : State) (m : Nat) : Option Obj :=
  let b := s.bist
  match m with
  | 1 => some (scalar 4 (b.run * 2 + flagsWord [(s.start.bistPassed, 0), (b.inSlice, 3), (b.retest, 4), (b.late, 5), (b.keysValid, 6), (b.keyFault, 7), (b.debugOpen, 8)]))
  | 2 => some (scalar 4 s.start.bistFailed)
  | 3 => some (scalar 2 b.slice)
  | 4 => some (scalar 4 b.passes)
  | 5 => some (scalar 4 b.lastPass)
  | 6 => some (scalar 4 b.fails)
  | 7 => some (scalar 4 b.skipped)
  | 8 => some (scalar 1 s.fuses.lifecycle)
  | 9 => some (scalar 1 (b2n b.enable))
  | _ => none

/-- R411: the object of an ID; none where the ID is unknown. -/
def State.object (s : State) (id : Nat) : Option Obj :=
  let g := id / 2 ^ 24
  let n := id / 65536 % 256
  let m := id % 65536
  if g ≤ 4 then s.objectsCore id
  else if 0x10 ≤ g ∧ g ≤ 0x13 then s.objectsRing (ix4 g) n m
  else if g = 0x14 then
    (if n < 4 then s.objectsCells (ix4 n) m else if n = 16 ∧ m = 1 then some (scalar 1 s.balEnable) else none)
  else if g = 0x20 then (if n < 4 then s.objectsEst (ix4 n) m else if n = 16 then s.objectsString m else none)
  else if g = 0x30 then (if n < 4 then s.objectsConv (ix4 n) m else if n = 16 then s.objectsBus m else none)
  else if g = 0x38 then
    (if n < 4 then s.objectsCle (ix4 n) m
     else if n = 16 ∧ m = 1 then some (scalar 4 (match s.component 5 with
       | some c => c.2.2
       | none => 0))
     else none)
  else if g = 0x40 then (if n = 0 then s.objectsSafety m else none)
  else if g = 0x48 then (if n = 0 then s.objectsTwin m else none)
  else if g = 0x50 then (if n = 0 then s.objectsThermal m else none)
  else if g = 0x58 then (if n < 4 then s.objectsAxis (ix4 n) m else none)
  else if g = 0x60 then
    (if n = 0 then s.objectsStore m else if 16 ≤ n ∧ n < 32 then s.objectsDma ⟨n % 16, by omega⟩ m else none)
  else if g = 0x68 then (if n = 0 then s.objectsBook m else none)
  else if g = 0x70 then
    (if n < 2 then s.objectsLan ⟨n % 2, by omega⟩ m else if n = 16 then s.objectsNet m else none)
  else if g = 0x78 then
    (if n < 4 then s.objectsCan (ix4 n) m
     else if n = 16 ∧ m = 1 then some (signedArray 4 64 (fun i => s.signal.toList.getD i 0))
     else if n = 16 ∧ m = 2 then some (array 1 64 (fun i => b2n (s.signalValid.toList.getD i false)))
     else none)
  else if g = 0x80 then (if n = 0 then s.objectsUpdate m else none)
  else if g = 0x88 then (if n = 0 then s.objectsBist m else none)
  else none

end Sys2Proof.Machine
end

