-- ==== Sys2Proof/Machine/Can.lean ====
section
/-! DEFINITION. The CAN FD controllers (R423 to R441): buffers, queue, error states, rate detection, message maps, status
set, gateway. -/
namespace Sys2Proof.Machine

/-- The state with a controller changed. -/
def State.modCan (c : Fin 4) (f : Can → Can) (s : State) : State := { s with can := vmod s.can c f }
/-- The four controllers. -/
def allCans : List (Fin 4) := [0, 1, 2, 3]
/-- A CAN record (R439): CODE, controller, values; source 96 + n, or 100 of the message maps. -/
def State.canRecord (source code : Nat) (c : Fin 4) (a b : Int) (s : State) : State := s.form 0x7801 code source c.val a b
/-- R423: arbitration and data rates in kbit/s by code. -/
def arbRate (k : Nat) : Nat := nth [125, 250, 500, 1000] k 0
/-- R423: the data rate of a code, 0 for classical frames only. -/
def dataRate (k : Nat) : Nat := nth [0, 1000, 2000, 4000, 5000] k 0
/-- R424: payload lengths of classical and FD frames. -/
def canLenOk (fd : Bool) (n : Nat) : Bool := decide (n ≤ 8) || (fd && [12, 16, 20, 24, 32, 48, 64].contains n)
/-- R426: the buffer belongs to the host gateway. -/
def State.gatewayOwns (s : State) (c : Fin 4) (b : Nat) : Bool := bitAt (s.parN P.canGatewayTx c.val) b
/-- R427: the arbitration order of a frame: base part, then base before extended, then the extension. -/
def arbKey (f : CanFrame) : Nat := if f.ide then f.id / 2 ^ 18 * 2 ^ 19 + 2 ^ 18 + f.id % 2 ^ 18 else f.id * 2 ^ 19
/-- R426: a buffer that can be loaded. -/
def CanTx.loadable (t : CanTx) : Bool := t.st != 1 && t.st != 2
/-- A buffer is loaded. -/
def CanTx.load (frame : CanFrame) (oneShot : Bool) (t : CanTx) : CanTx := { t with st := 1, frame := frame, oneShot := oneShot, abort := false }
/-- The frame the module loads next from its queue (R428). -/
def Can.nextFrame (x : Can) (byBuffer : Bool) : Option CanFrame :=
  if byBuffer then x.queue.head? else (sortBy arbKey x.queue).head?
/-- R428: the module's own buffers are loaded from its queue, in TX_ORDER; not while the controller only listens. -/
def State.canRefill (c : Fin 4) (s : State) : State :=
  let own (b : Fin 3) : Bool := !s.gatewayOwns c b.val
  let byBuffer := s.par P.canTxOrder c.val == 1
  s.modCan c (fun x => if x.listen || !(x.st == 1 || x.st == 2) then x else
    ([0, 1, 2] : List (Fin 3)).foldl (fun y b =>
      match y.nextFrame byBuffer with
      | some f => if own b && (y.tx[b.val]).loadable then
          { y with tx := vmod y.tx b (CanTx.load f false), queue := y.queue.erase f }
        else y
      | none => y) x)
/-- R428: a frame of the module enters its transmit queue, or is dropped. -/
def State.canQueue (c : Fin 4) (f : CanFrame) (s : State) : State :=
  let x := s.can[c.val]
  if !(x.st == 1 || x.st == 2) || !s.isActive then s
  else if x.queue.length < 32 then (s.modCan c (fun x => { x with queue := x.queue ++ [f] })).canRefill c
  else s.modCan c (fun x => { x with txDropped := incSat x.txDropped, ovf := true })

/-- R424: the error state by the counters: error active, error passive, bus-off. -/
def errOf (tec rxe : Nat) : Nat := if 256 ≤ tec then 2 else if 128 ≤ tec || 128 ≤ rxe then 1 else 0
/-- R436: a draining controller with no frame on the wire is disabled; a held enable waits for the boundary (R50). -/
def State.canDrained (c : Fin 4) (s : State) : State :=
  s.modCan c (fun x => if x.st = 3 ∧ x.tx.toList.all (fun t => t.st != 2) then { x with st := 4 } else x)
/-- R424, R438: the error state follows the counters; each change is recorded. R439 states no CODE for the return to
error active: a free value (log 216). -/
def State.canErr (c : Fin 4) (s : State) : State :=
  let x := s.can[c.val]
  let e := errOf x.tec x.rxe
  if x.err = e ∨ x.err = 2 then s
  else
    let s := s.modCan c (fun x => { x with
      err := e
      busOffs := if e = 2 then incSat x.busOffs else x.busOffs
      tx := if e = 2 then x.tx.map (fun t => if t.st = 1 ∧ t.oneShot then { t with st := 5 } else t) else x.tx })
    if e = 0 then (s.canRecord (96 + c.val) (s.free % 65536).toNat c 0 0).tookFree 1 else s.canRecord (96 + c.val) e c 0 0
/-- R431: rate detection sets entry i and starts the dwell timer. -/
def Can.tryRate (i : Nat) (x : Can) : Can := { x with rate := i, good := 0, errors := 0 }
/-- R431: an entry of RATE_LIST: arbitration and data codes. -/
def State.ratePair (s : State) (c : Fin 4) (i : Nat) : Nat × Nat :=
  let b := s.parN P.canRateList c.val i
  (b / 16, b % 16)
/-- R431: detection goes on to the next pair. -/
def State.nextRate (c : Fin 4) (s : State) : State :=
  s.modCan c (fun x => x.tryRate ((x.rate + 1) % max 1 (s.parN P.canRateCount c.val)))
/-- R431, R437, R440: the controller must only listen. -/
def State.mustListen (s : State) (c : Fin 4) : Bool :=
  s.can[c.val].detecting || s.par P.canListenOnly c.val == 1 || !s.isActive
/-- R424, R439: a controller leaves bus-off or error passive as it starts again: each change of error state is recorded
(log 216 of the return from error passive). -/
def State.canErrEnds (c : Fin 4) (s : State) : State :=
  if s.can[c.val].err = 0 then s
  else if s.can[c.val].err = 2 then s.canRecord (96 + c.val) 3 c 0 0
  else (s.canRecord (96 + c.val) (s.free % 65536).toNat c 0 0).tookFree 1
/-- R431, R436: a controller starts: its buffers are EMPTY, and it detects its rates or takes those of the plat. -/
def State.canStart (c : Fin 4) (s : State) : State :=
  let auto := s.par P.canAutoRate c.val == 1
  let s := s.canErrEnds c
  let s := s.modCan c (fun x => { x with
    st := 1, heldEnable := false, detecting := auto, rate := 0, good := 0, errors := 0
    arb := if auto then x.arb else s.parN P.canArbRate c.val, dat := if auto then x.dat else s.parN P.canDataRate c.val
    err := 0, tec := 0, rxe := 0, tx := Vector.replicate 3 {}, queue := [] })
  s.modCan c (fun x => { x with listen := s.mustListen c })
/-- R48, R50, R436: CAN_ENABLE as it takes effect. -/
def State.canEnable (c : Fin 4) (on : Bool) (s : State) : State :=
  let x := s.can[c.val]
  let s := s.modCan c (fun x => { x with enable := on })
  if on then
    if x.st = 3 then s.modCan c (fun x => { x with heldEnable := true }) else if x.st = 1 ∨ x.st = 2 then s else s.canStart c
  else if x.st = 1 ∨ x.st = 2 ∨ x.st = 3 then
    (s.modCan c (fun x => { x with
      st := 3, heldEnable := false, detecting := false, queue := []
      tx := x.tx.map (fun t => if t.st = 1 then { t with st := 4 } else t) })).canDrained c
  else s
/-- R318, R431, R437: what the controllers take up at a frame boundary: listen-only begins or ends, a held enable resumes. -/
def State.canBoundary (c : Fin 4) (s : State) : State :=
  let x := s.can[c.val]
  if x.st = 4 ∧ x.heldEnable then s.canStart c
  else if !(x.st == 1 || x.st == 2) || x.listen == s.mustListen c then s
  else if x.listen then ((s.modCan c (fun x => { x with listen := false })).canRecord (96 + c.val) 5 c 0 0).canRefill c
  else s.modCan c (fun x => { x with listen := true })

/-- R431: the fourth good frame accepts the pair. -/
def State.acceptRate (c : Fin 4) (s : State) : State :=
  let p := s.ratePair c s.can[c.val].rate
  (s.modCan c (fun x => { x with detecting := false, arb := p.1, dat := p.2 })).canRecord (96 + c.val) 4 c (arbRate p.1) (dataRate p.2)
/-- R424: REC after a good reception; above 127 ISO 11898-1 returns it to between 119 and 127, which is free. -/
def recAfter (rxe : Nat) (free : Int) : Nat := if 127 < rxe then 119 + (free % 9).toNat else rxe - 1
/-- R429: an entry enters the receive queue, or is dropped when 64 are unacknowledged. -/
def Can.receive (frame : CanFrame) (stamp : Nat) (x : Can) : Can :=
  if x.rxq.length < 64 then
    { x with rxq := x.rxq ++ [{ seq := x.nextSeq, frame := frame, stamp := stamp, sealed := false }]
             nextSeq := (x.nextSeq + 1) % 65536, rxFrames := incSat x.rxFrames }
  else { x with rxDropped := incSat x.rxDropped, drop := true }
/-- R423, R425, R429, R431: a frame of another node is received; stamp of its start of frame. -/
def execCanFrameReceived (c : Fin 4) (frame : CanFrame) (remote : Bool) (stamp : Nat) (s : State) : Host.Outcome State Fault Refusal :=
  let x := s.can[c.val]
  if !(x.st == 1 || x.st == 2 || x.st == 3) || x.err == 2 then .next s
  else
    let far := decide (127 < x.rxe)
    let s := s.modCan c (fun x => { x with st := if x.st = 1 then 2 else x.st, rxe := recAfter x.rxe s.free })
    let s := (if far then s.tookFree 1 else s).canErr c
    let s := if remote then s.modCan c (fun x => { x with rxRemote := incSat x.rxRemote }) else s.modCan c (Can.receive frame stamp)
    if !x.detecting then .next s
    else if x.good + 1 = 4 then .next (s.acceptRate c)
    else .next (s.modCan c (fun x => { x with good := x.good + 1 }))
/-- R424, R431: an error on a frame being received; `heavy`: a dominant bit follows the controller's own error flag. -/
def execCanRxError (c : Fin 4) (heavy : Bool) (s : State) : Host.Outcome State Fault Refusal :=
  let x := s.can[c.val]
  if !(x.st == 1 || x.st == 2 || x.st == 3) || x.err == 2 then .next s
  else
    let s := (s.modCan c (fun x => { x with rxe := x.rxe + (if heavy then 8 else 1) })).canErr c
    if !x.detecting then .next s
    else if x.errors + 1 = 3 then .next (s.nextRate c)
    else .next (s.modCan c (fun x => { x with good := 0, errors := x.errors + 1 }))
/-- R431: RATE_DWELL has passed without acceptance. -/
def execCanRateDwellExpiry (c : Fin 4) (s : State) : Host.Outcome State Fault Refusal :=
  .next (if s.can[c.val].detecting then s.nextRate c else s)

/-- R427: the buffer that the controller chooses. -/
def Can.choice (x : Can) (byBuffer : Bool) : Option (Fin 3) :=
  let ps := ([0, 1, 2] : List (Fin 3)).filter (fun b => x.tx[b.val].st == 1)
  if byBuffer then ps.head? else (sortBy (fun (b : Fin 3) => arbKey x.tx[b.val].frame) ps).head?
/-- R427: the controller is ready to start arbitration. -/
def execCanArbitrationStart (c : Fin 4) (s : State) : Host.Outcome State Fault Refusal :=
  let x := s.can[c.val]
  if !(x.st == 1 || x.st == 2) || x.err == 2 || x.listen || x.tx.toList.any (fun t => t.st == 2) then .next s
  else match x.choice (s.par P.canTxOrder c.val == 1) with
    | some b => .next (s.modCan c (fun x => { x with st := 2, tx := vmod x.tx b (fun t => { t with st := 2 }) }))
    | none => .next s
/-- The buffer on the wire. -/
def Can.onWire (x : Can) : Option (Fin 3) := ([0, 1, 2] : List (Fin 3)).find? (fun b => x.tx[b.val].st == 2)
/-- R425, R426, R428, R436: the frame on the wire is acknowledged; stamp of its start of frame. -/
def execCanTxComplete (c : Fin 4) (stamp : Nat) (s : State) : Host.Outcome State Fault Refusal :=
  match s.can[c.val].onWire with
  | none => .next s
  | some b => .next ((((s.modCan c (fun x => { x with
      tx := vmod x.tx b (fun t => { t with st := 3, stamp := stamp, abort := false })
      tec := x.tec - 1, txFrames := incSat x.txFrames })).canErr c).canDrained c).canRefill c)
/-- R424, R426, R427, R436: the frame on the wire loses arbitration, or meets an error. -/
def execCanTxError (c : Fin 4) (lost : Bool) (s : State) : Host.Outcome State Fault Refusal :=
  let x := s.can[c.val]
  match x.onWire with
  | none => .next s
  | some b => .next ((((s.modCan c (fun x => { x with
      tx := vmod x.tx b (fun t => { t with st := if t.abort || x.st == 3 then 4 else if t.oneShot then 5 else 1, abort := false })
      tec := if lost then x.tec else x.tec + 8 })).canErr c).canDrained c).canRefill c)
/-- R424: with BUS_OFF_AUTO, a bus-off controller rejoins. -/
def execCanBusOffRecovery (c : Fin 4) (s : State) : Host.Outcome State Fault Refusal :=
  if s.can[c.val].err ≠ 2 ∨ s.par P.canBusOffAuto c.val = 0 ∨ !(s.can[c.val].st == 1 || s.can[c.val].st == 2) then .next s
  else .next ((s.modCan c (fun x => { x with err := 0, tec := 0, rxe := 0 })).canRecord (96 + c.val) 3 c 0 0)

/-- R42: the receptions not yet sealed. -/
def State.canNew (s : State) : List (Nat × CanFrame × Nat) :=
  allCans.flatMap (fun c => ((s.can[c.val].rxq.filter (fun e => !e.sealed)).map (fun e => (c.val, e.frame, e.stamp))))
/-- R55, R306: a reception lies before the place from which on entries wait for the next seal. -/
def beforeCut (cut : Option Nat) (key : Nat) : Bool := match cut with
  | none => true
  | some k => decide (key < k)
/-- R42, R430: at the seal instant the receptions not yet sealed are copied into the seal, in the order of R55; AC3
acknowledges them where it is the reader. A standby takes the active unit's receptions instead (R437). -/
def State.canSeal (cut : Option Nat) (s : State) : State :=
  let new := s.canNew.filter (fun p => beforeCut cut (p.2.2 * 256 + 96 + p.1))
  let s := if s.role = .standby then s else { s with canSealed := sortBy (fun p => p.2.2 * 256 + p.1) new }
  allCans.foldl (fun t c => t.modCan c (fun x =>
    let sealed' := x.rxq.map (fun e => { e with sealed := e.sealed || beforeCut cut (e.stamp * 256 + 96 + c.val) })
    { x with rxq := if t.par P.canGatewayRx c.val = 0 then sealed'.filter (fun e => !e.sealed) else sealed' })) s

/-- A receive map entry (R432). -/
structure RxMap where
  id : Nat
  mask : Nat
  timeout : Nat
  start : Nat
  len : Nat
  signed : Bool
  onTimeout : Bool
  slot : Nat
  action : Nat
  scale : Int
  offset : Int
  threshold : Int
  cond : Nat
  deriving DecidableEq, Repr
/-- R432: the fields of an entry. -/
def rxMapOf (b : List Byte) : RxMap :=
  { id := fieldAt 0 4 b, mask := fieldAt 4 4 b, timeout := fieldAt 8 2 b, start := fieldAt 10 2 b, len := fieldAt 12 1 b
    signed := bitAt (fieldAt 13 1 b) 0, onTimeout := bitAt (fieldAt 13 1 b) 1, slot := fieldAt 14 1 b, action := fieldAt 15 1 b
    scale := leSigned (slice 16 4 b), offset := leSigned (slice 20 4 b), threshold := leSigned (slice 24 4 b), cond := fieldAt 28 1 b }
/-- R432: the receive map of a controller. -/
def State.rxMaps (s : State) (c : Fin 4) : List RxMap :=
  (List.range (s.parN P.canMapRxCount c.val)).map (fun k => rxMapOf (rxEntry s.plat.recs c.val k))
/-- R432: an entry matches a frame. -/
def RxMap.hits (m : RxMap) (f : CanFrame) : Bool :=
  f.ide == bitAt m.id 31 && (((m.id ^^^ f.id) &&& m.mask) % 2 ^ 29 == 0)
/-- R432: the raw signal of a payload; bit 8b + k is bit k of byte b. -/
def RxMap.raw (m : RxMap) (data : List Byte) : Int :=
  let n := leNat data / 2 ^ m.start % 2 ^ m.len
  if m.signed && 2 ^ (m.len - 1) ≤ n then (n : Int) - 2 ^ m.len else n
/-- R432: the value a slot takes. -/
def RxMap.value (m : RxMap) (data : List Byte) : Int :=
  clampInt (-0x80000000) 0x7FFFFFFF (roundDiv (m.raw data * m.scale) 1000 + m.offset)
/-- R432: the condition on a value. -/
def RxMap.holds (m : RxMap) (v : Int) : Bool :=
  (m.cond == 1 && decide (m.threshold ≤ v)) || (m.cond == 2 && decide (v ≤ m.threshold)) || (m.cond == 3 && v != m.threshold)
/-- A signal slot. -/
def slotIx (k : Nat) : Fin 64 := ⟨k % 64, by omega⟩
/-- R432: a frame acts on one matching entry: the slot is set, or the frame is too short. -/
def State.applyEntry (c : Fin 4) (f : CanFrame) (k : Nat) (m : RxMap) (s : State) : State :=
  if !m.hits f then s
  else
    let s := s.modCan c (fun x => { x with timedOut := x.timedOut.erase k })
    if 8 * f.data.length < m.start + m.len then s.modCan c (fun x => { x with mapShort := incSat x.mapShort })
    else { s with signal := s.signal.set (slotIx m.slot).val (m.value f.data) (slotIx m.slot).isLt
                  signalValid := s.signalValid.set (slotIx m.slot).val true (slotIx m.slot).isLt }
/-- R432: every matching entry of a controller acts on a sealed frame, in entry order. -/
def State.applyFrame (c : Fin 4) (f : CanFrame) (s : State) : State :=
  (s.rxMaps c).zipIdx.foldl (fun t p => t.applyEntry c f p.2 p.1) s
/-- R71: COMMAND DISARM, from the host or a map (R432): an orderly stop from ARMED or RUNNING. -/
def State.disarm (s : State) : State := if s.mode = .armed ∨ s.mode = .running then s.trigger 19 3 false else s
/-- R432: the condition of an entry now: on a valid slot, or an expired timeout that counts as met. -/
def State.entryHolds (s : State) (c : Fin 4) (k : Nat) (m : RxMap) : Bool :=
  (m.onTimeout && s.can[c.val].timedOut.contains k) ||
  (s.signalValid.toList.getD m.slot false && m.holds (s.signal.toList.getD m.slot 0))
/-- R432: a raise and a clear are recorded and raise a host event; ACTION 3 disarms. -/
def State.judgeEntry (c : Fin 4) (k : Nat) (m : RxMap) (s : State) : State :=
  let was := s.can[c.val].raised.contains k
  let now := s.entryHolds c k m
  if m.action = 0 ∨ was = now then s
  else
    let v := s.signal.toList.getD m.slot 0
    let note (code : Nat) (a b : Int) (t : State) : State := (t.event 0x7801 code 100 c.val a b).canRecord 100 code c a b
    if now then
      let s := note 6 k v (s.modCan c (fun x => { x with raised := x.raised ++ [k] }))
      if m.action = 3 then s.disarm else s
    else note 7 k v (s.modCan c (fun x => { x with raised := x.raised.erase k }))
/-- R432: in W3 the sealed frames act, then the conditions are evaluated. -/
def State.canMapApply (s : State) : State :=
  let s := s.canSealed.foldl (fun t p => t.applyFrame (ix4 p.1) p.2.1) s
  let s := { s with canSealed := [] }
  allCans.foldl (fun t c => (t.rxMaps c).zipIdx.foldl (fun u p => u.judgeEntry c p.2 p.1) t) s
/-- R432, R438: an entry's TIMEOUT expires; a matching frame of the same frame wins. -/
def execCanMapTimeout (c : Fin 4) (k : Nat) (s : State) : Host.Outcome State Fault Refusal :=
  match (s.rxMaps c)[k]? with
  | none => .next s
  | some m =>
    let waiting := (s.canSealed.filter (fun p => p.1 == c.val)).map (fun p => p.2.1) ++
      (s.can[c.val].rxq.filter (fun e => !e.sealed)).map (fun e => e.frame)
    if m.timeout = 0 ∨ s.can[c.val].timedOut.contains k ∨ waiting.any (fun f => m.hits f) then .next s
    else
      let s := s.modCan c (fun x => { x with timedOut := x.timedOut ++ [k] })
      let s := { s with signal := s.signal.set (slotIx m.slot).val (-0x80000000) (slotIx m.slot).isLt
                        signalValid := s.signalValid.set (slotIx m.slot).val false (slotIx m.slot).isLt }
      .next (s.canRecord 100 8 c k 0)
/-- R432: ALERT_N is held low by a map condition. -/
def State.canAlert (s : State) : Bool :=
  allCans.any (fun c => (s.rxMaps c).zipIdx.any (fun p => decide (2 ≤ p.1.action) && s.can[c.val].raised.contains p.2))

/-- R433: a value in LENGTH bits: rounded, and saturated to the range of the object's signedness. -/
def txField (signed : Bool) (len : Nat) (value offset scale : Int) : Nat :=
  let x := roundDiv ((value - offset) * 1000) scale
  let y := if signed then clampInt (-(2 ^ (len - 1))) (2 ^ (len - 1) - 1) x else clampInt 0 (2 ^ len - 1) x
  (y % 2 ^ len).toNat
/-- R433: the number that one entry places into its frame's payload. -/
def State.txValue (s : State) (b : List Byte) : Nat :=
  match s.object (fieldAt 8 4 b) with
  | none => 0
  | some o => txField o.signed (fieldAt 16 1 b) (o.val (fieldAt 12 2 b)) (leSigned (slice 24 4 b)) (leSigned (slice 20 4 b)) *
      2 ^ fieldAt 14 2 b
/-- R433: the transmit map of a controller. -/
def State.txMaps (s : State) (c : Fin 4) : List (List Byte) :=
  (List.range (s.parN P.canMapTxCount c.val)).map (fun k => txEntry s.plat.recs c.val k)
/-- R433: a transmit-map frame whose PERIOD falls due; `k` is the lowest-numbered of its entries. -/
def execCanTxMapSend (c : Fin 4) (k : Nat) (s : State) : Host.Outcome State Fault Refusal :=
  let es := s.txMaps c
  match es[k]? with
  | none => .next s
  | some b =>
    let id := fieldAt 0 4 b
    let group := es.filter (fun e => fieldAt 0 4 e == id)
    if (es.take k).any (fun e => fieldAt 0 4 e == id) ∨ s.time.frame % max 1 (fieldAt 6 2 b) ≠ 0 then .next s
    else
      let n := (group.map (fun e => s.txValue e)).sum
      let fl := fieldAt 5 1 b
      .next (s.canQueue c { ide := bitAt id 31, fd := bitAt fl 0, brs := bitAt fl 1, id := id % 2 ^ 29, data := leBytes (fieldAt 4 1 b) n })

/-- W as kW, rounded down and saturated to u16 (R434). -/
def kiloFloor (w : Int) : Nat := (clampInt 0 0xFFFF (w / 1000)).toNat
/-- R434: the payload of status message k. -/
def State.statusPayload (s : State) (c : Fin 4) (k : Nat) : List Byte :=
  match k with
  | 0 => leBytes 1 s.mode.code ++ leBytes 1 s.role.code ++ leBytes 2 (s.safetyStatus % 65536) ++ leBytes 2 s.stringSoc ++
      leBytes 1 s.slim.warn ++ leBytes 1 s.can[c.val].counter
  | 1 => leBytes 2 (kiloFloor s.slim.disP[3]) ++ leBytes 2 (kiloFloor s.slim.chgP[3]) ++ leBytes 2 (kiloFloor s.slim.disP[1]) ++
      leBytes 2 (kiloFloor s.slim.chgP[1])
  | 2 => leBytes 2 (clampInt 0 0xFFFF (roundDiv s.vBusMean 100)).toNat ++ leInt 4 (satI32 s.stringI) ++
      leInt 2 (satI16 (roundDiv (s.vBusMean * s.stringI) 1000000000))
  | 3 => leBytes 1 s.slim.warn ++ leBytes 1 s.slim.latched ++ leBytes 2 (min s.slim.tte 0xFFFF) ++ leBytes 2 (min s.slim.ttf 0xFFFF) ++ leBytes 2 0
  | _ => leBytes 4 (s.thermalStatus / 64) ++ leInt 2 (tempOr (listMax? (allLegs.flatMap (fun l => s.cellTemps l)))) ++
      leInt 2 (tempOr (listMax? (s.ntcsOf (List.range 8))))
/-- R434: status message k is queued where it is enabled. -/
def State.sendMessage (c : Fin 4) (k : Nat) (s : State) : State :=
  if !bitAt (s.parN P.canStatusEnable c.val) k then s
  else
    let ext := s.par P.canStatusExt c.val == 1
    let f : CanFrame := { ide := ext, fd := false, brs := false, id := s.parN P.canStatusBaseId c.val + k, data := s.statusPayload c k }
    let t := s.canQueue c f
    if k = 0 then t.modCan c (fun x => { x with counter := (x.counter + 1) % 256 }) else t
/-- R434: the period of a controller's status set ends with this frame. -/
def State.statusDue (s : State) (c : Fin 4) : Bool := s.time.frame % max 1 (s.parN P.canStatusPeriod c.val) == 0
/-- R434: every STATUS_PERIOD frames the enabled status messages are queued, by the active unit. -/
def execCanStatusSetSend (c : Fin 4) (s : State) : Host.Outcome State Fault Refusal :=
  if !s.isActive || !(s.can[c.val].st == 1 || s.can[c.val].st == 2) || !s.statusDue c then .next s
  else .next ([0, 1, 2, 3, 4].foldl (fun t k => t.sendMessage c k) s)
/-- R434: in W4, messages 3 and 4 are sent where R216 or R327 signals a change, unless the period sends them anyway. -/
def State.canChanges (s : State) : State :=
  let send (k : Nat) (t : State) : State := allCans.foldl (fun u c => if u.statusDue c || !u.isActive then u else u.sendMessage c k) t
  let s := if s.slim.canDue then send 3 s else s
  let s := if s.therm.canDue then send 4 s else s
  { s with slim := { s.slim with canDue := false }, therm := { s.therm with canDue := false } }

/-- R435: a gateway load: status, and the state with the buffer loaded. -/
def State.canLoad (c : Fin 4) (b : Nat) (f : CanFrame) (oneShot : Bool) (s : State) : Nat × State :=
  let x := s.can[c.val]
  if h : b < 3 then
    if !s.gatewayOwns c b then (8, s)
    else if x.detecting ∨ !(x.st == 1 || x.st == 2) then (4, s)
    else if !(x.tx[b]).loadable then (6, s)
    else if !canLenOk f.fd f.data.length ∨ (f.fd ∧ x.dat = 0) then (3, s)
    else (0, s.modCan c (fun x => { x with tx := vmod x.tx ⟨b, h⟩ (CanTx.load f oneShot) }))
  else (3, s)
/-- R426, R435: a gateway abort: a PENDING buffer becomes ABORTED; a frame on the wire completes its attempt. -/
def State.canAbort (c : Fin 4) (b : Nat) (s : State) : Nat × State :=
  if h : b < 3 then
    if !s.gatewayOwns c b then (8, s)
    else (0, s.modCan c (fun x => { x with tx := vmod x.tx ⟨b, h⟩ (fun t =>
      if t.st = 1 then { t with st := 4 } else if t.st = 2 then { t with abort := true } else t) }))
  else (3, s)
/-- R435: the bytes of a held entry in RX_READ. -/
def CanRx.bytes (e : CanRx) : List Byte :=
  leBytes 2 e.seq ++ leBytes 1 (flagsWord [(e.frame.ide, 0), (e.frame.fd, 1), (e.frame.brs, 2)]) ++ leBytes 1 e.frame.data.length ++
    leBytes 4 e.frame.id ++ leBytes 8 e.stamp ++ e.frame.data
/-- R435: whole entries from the oldest, at most `n` and within `room` bytes. -/
def takeEntries : List CanRx → Nat → Nat → List CanRx
  | [], _, _ => []
  | _, 0, _ => []
  | e :: es, n + 1, room => if e.bytes.length ≤ room then e :: takeEntries es n (room - e.bytes.length) else []
/-- R435: RX_ACK releases the entries up to and including SEQ: how many, and the rest. -/
def ackEntries (seq : Nat) (es : List CanRx) : Option (Nat × List CanRx) :=
  if es.any (fun e => e.seq == seq) then
    let n := (es.takeWhile (fun e => e.seq != seq)).length + 1
    some (n, es.drop n)
  else none

end Sys2Proof.Machine
end

