-- ==== Sys2Proof/Machine/Access.lean ====
section
/-! DEFINITION. Host writes to objects (R12, R30, R48, R103): which are writable and within what bounds, the bits cleared
by writing 1, what an accepted write does at the next frame boundary, and the commands of single objects. -/
namespace Sys2Proof.Machine

/-- R12: the states in which RW-runtime objects are writable. -/
def runtimeStates : List Mode := [.surveyed, .armed, .running, .stopping, .faultHold]
/-- An RW-runtime object's element: why its owning chapter refuses a write now (0: it does not), and the bounds. -/
structure Bounds where
  refuse : Nat
  lo : Int
  hi : Int
  deriving DecidableEq, Repr
/-- Bounds without a condition. -/
def within (lo hi : Int) : Option Bounds := some { refuse := 0, lo := lo, hi := hi }
/-- R272: BANK_SELECT: the bounds within which the banks of the running mode. -/
def State.bankBounds (s : State) (leg : Leg) : Bounds :=
  let ok (b : Nat) : Bool := s.par P.bankMode leg.val b == s.str.running
  let refuse := if s.str.modeChange.isSome then 4 else 0
  if ok 0 && ok 1 then { refuse := refuse, lo := 0, hi := 1 } else if ok 0 then { refuse := refuse, lo := 0, hi := 0 }
  else { refuse := refuse, lo := 1, hi := if ok 1 then 1 else 0 }
/-- R12, R103: the RW-runtime objects with their bounds; none: not writable. -/
def State.writable (s : State) (id elem : Nat) : Option Bounds :=
  let n := id / 65536 % 256
  let x := ix4 n
  if id = 0x02000004 then within s.grid.phaseMin s.grid.phaseMax
  else if id = 0x02000005 then within 0 1
  else if id = 0x04000013 then within 0 (s.par P.layupTimer)
  else if id = 0x14100001 then within 0 15
  else if id = 0x20100002 then within 0 3
  else if id = 0x20100003 then within 0 1
  else if id = 0x30100008 then within 50 10000
  else if id = 0x50000009 then within (s.par P.valveSpMin 0xFF elem) (s.par P.valveSpMax 0xFF elem)
  else if id = 0x5000000C then within 0 10000
  else if id = 0x8000000B then within 0 1
  else if id = 0x88000009 then within (if s.par P.bistAllowOff = 1 then 0 else 1) 1
  else if 4 ≤ n then none
  else if id / 2 ^ 24 = 0x38 ∧ id % 65536 = 6 then some (s.bankBounds x)
  else if id / 2 ^ 24 = 0x58 ∧ id % 65536 = 4 then
    some { refuse := if s.par P.valveMode 0xFF x.val = 1 then 4 else 0, lo := s.axPar x P.posMin, hi := s.axPar x P.posMax }
  else if id / 2 ^ 24 = 0x58 ∧ id % 65536 = 5 then within 0 2
  else if id / 2 ^ 24 = 0x58 ∧ id % 65536 = 6 then within 0 1
  else if id / 2 ^ 24 = 0x78 ∧ id % 65536 = 2 then within 0 1
  else none

/-- R12, W1C: the bits of an object that a write of `v` clears; none where the object has no such bit. 1s in RO bits of
such an object are ignored, which the spec says of LINK_STATUS and SAFETY_STATUS only: DESIGN CHOICE (log 273). -/
def State.clearOnes (id v : Nat) (s : State) : Option State :=
  let n := id / 65536 % 256
  let g := id / 2 ^ 24
  if id = 0x01000020 then some { s with base := { s.base with lost := s.base.lost && !bitAt v 1 } }
  else if id = 0x02000003 then some { s with win := { s.win with any := s.win.any && !bitAt v 0, safety := s.win.safety && !bitAt v 1 } }
  else if id = 0x04000001 then some { s with supply := { s.supply with switched := s.supply.switched && !bitAt v 7 } }
  else if id = 0x04000010 then some { s with resetReq := { s.resetReq with stuck := s.resetReq.stuck && !bitAt v 5 } }
  else if 0x10 ≤ g ∧ g ≤ 0x13 ∧ id % 2 ^ 24 = 1 then
    some (s.modRing (ix4 g) (fun r => { r with contactLost := r.contactLost && !bitAt v 4 }))
  else if id = 0x20100017 then some { s with slim := { s.slim with latched := clearBits s.slim.latched (bitsAt v 13 8) } }
  else if id = 0x20100018 then some { s with learn := { s.learn with writeFail := s.learn.writeFail && !bitAt v 8 } }
  else if id = 0x40000001 then some { s with sf := { s.sf with tgDegraded := s.sf.tgDegraded && !bitAt v 12 } }
  else if id = 0x68000001 then some { s with fb := { s.fb with queueFull := s.fb.queueFull && !bitAt v 3 } }
  else if g = 0x78 ∧ n < 4 ∧ id % 65536 = 1 then
    some (s.modCan (ix4 n) (fun x => { x with ovf := x.ovf && !bitAt v 9, drop := x.drop && !bitAt v 8 }))
  else none

/-- R12, R103, R411: what a write of one element is answered: 0, or an item status. The spec gives no order of a wrong
state and a value out of bounds: DESIGN CHOICE (log 273): 0x04 comes before 0x03. -/
def State.writeStatus (s : State) (id elem : Nat) (v : Int) : Nat :=
  match s.object id with
  | none => 1
  | some o =>
    if o.count ≤ elem then 3
    else if (s.clearOnes id 0).isSome then 0
    else match s.writable id elem with
      | none => 2
      | some b =>
        if !s.inStates runtimeStates then 4
        else if b.refuse ≠ 0 then b.refuse
        else if v < b.lo ∨ b.hi < v then 3
        else 0
/-- An accepted write of one element: a W1C bit clears at once, any other waits for the next frame boundary (R30, R48). -/
def State.acceptWrite (id elem : Nat) (v : Int) (s : State) : State :=
  match s.clearOnes id v.toNat with
  | some t => t
  | none => { s with host := { s.host with writes := s.host.writes ++ [(id, elem, v)] } }
/-- R73, R98: the networks and the host protocol run: from LOAD on, in recovery and in the FAULT-HOLD of R461. -/
def State.hostServed (s : State) : Bool :=
  !s.inStates [.off, .boot, .plat, .laidUp] && !s.start.lastGasp
/-- R98, R461: the host protocol is limited to recovery's operations. -/
def State.limited (s : State) : Bool := s.plat.recovery || s.start.reduced
/-- R98, R318: host writes are accepted by this unit at all. -/
def State.hostWrites (s : State) : Bool := s.hostServed && !s.limited && s.role != .standby && s.mode != .load
/-- A host write of one element of an object: checked (R12, R103) and, if accepted, applied under R30 and R48. -/
def State.hostWrite (id elem : Nat) (v : Int) (s : State) : State :=
  if s.hostWrites ∧ s.writeStatus id elem v = 0 then s.acceptWrite id elem v else s

/-- R152, R49: BAL_ENABLE: the legs whose bit is cleared drain. -/
def State.setBalEnable (v : Nat) (s : State) : State :=
  allLegs.foldl (fun t l => if !bitAt v l.val && t.diag[l.val].balancing then t.stopBalancing l else t) { s with balEnable := v }
/-- R190: PROBE_ENABLE: the pairs whose bit is cleared cancel, or complete their probe. -/
def State.setProbeEnable (v : Nat) (s : State) : State :=
  ([0, 1] : List (Fin 2)).foldl (fun t p => if !bitAt v p.val && bitAt s.probeEnable p.val then t.yieldPair p .enableCleared else t) { s with probeEnable := v }
/-- R452: UPDATE_ENABLE 1 resumes a held application; 0 holds it after the block in progress. -/
def State.setUpdateEnable (on : Bool) (s : State) : State :=
  s.modUpd (fun u => { u with enable := on, session := if on && u.session == 4 then 3 else u.session })
/-- R463: BIST_ENABLE: a slice in progress completes (R49). -/
def State.setBistEnable (on : Bool) (s : State) : State :=
  { s with bist := { s.bist with enable := on, run := if on then (if s.bist.run = 2 then 2 else 1) else if s.bist.inSlice then 2 else 3 } }
/-- R30, R48: an accepted write takes effect. -/
def State.applyWrite (id elem : Nat) (v : Int) (s : State) : State :=
  let x := ix4 (id / 65536)
  let m := id % 65536
  if id = 0x02000004 then s.setPhase v.toNat
  else if id = 0x02000005 then (s.modGrid (fun g => { g with syncinEnable := v == 1 })).selectSource
  else if id = 0x04000013 then { s with layup := { s.layup with timer := v.toNat } }
  else if id = 0x14100001 then s.setBalEnable v.toNat
  else if id = 0x20100002 then s.setProbeEnable v.toNat
  else if id = 0x20100003 then { s with natEnable := v == 1 }
  else if id = 0x30100008 then { s with str := { s.str with timeout := v.toNat } }
  else if id = 0x50000009 then { s with therm := { s.therm with valveSp := vmod s.therm.valveSp (ix4 elem) (fun _ => v) } }
  else if id = 0x5000000C then { s with therm := { s.therm with fanOverride := vmod s.therm.fanOverride (ix4 elem) (fun _ => v.toNat) } }
  else if id = 0x8000000B then s.setUpdateEnable (v == 1)
  else if id = 0x88000009 then s.setBistEnable (v == 1)
  else if id / 2 ^ 24 = 0x38 then s.modCle x (fun c => { c with bankSelect := v.toNat, bankDue := some v.toNat })
  else if id / 2 ^ 24 = 0x58 then
    (if m = 4 then s.axisTarget x v else if m = 6 then s.axisEnable x (v == 1)
     else if v = 1 then s.axisHome x else if v = 2 then s.axisStop x else s)
  else if id / 2 ^ 24 = 0x78 then s.canEnable x (v == 1)
  else s
/-- R48: of several writes to one element, the last in sealed order takes effect. -/
def lastWrites : List (Nat × Nat × Int) → List (Nat × Nat × Int)
  | [] => []
  | w :: ws => if ws.any (fun u => u.1 == w.1 && u.2.1 == w.2.1) then lastWrites ws else w :: lastWrites ws
/-- R48: the writes of the frame that ends take effect at its boundary. -/
def State.applyWrites (s : State) : State :=
  (lastWrites s.host.writes).foldl (fun t w => t.applyWrite w.1 w.2.1 w.2.2) { s with host := { s.host with writes := [] } }

/-- R12: a host write to an object. -/
def execObjectWrite (id elem : Nat) (v : Int) (s : State) : Host.Outcome State Fault Refusal := .next (s.hostWrite id elem v)
/-- R38: SYNC_PHASE. -/
def execSyncPhaseWrite (v : Nat) (s : State) : Host.Outcome State Fault Refusal := .next (s.hostWrite 0x02000004 0 v)
/-- R36: SYNCIN_ENABLE. -/
def execSyncinEnableWrite (v : Nat) (s : State) : Host.Outcome State Fault Refusal := .next (s.hostWrite 0x02000005 0 v)
/-- R152: BAL_ENABLE. -/
def execBalEnableWrite (v : Nat) (s : State) : Host.Outcome State Fault Refusal := .next (s.hostWrite 0x14100001 0 v)
/-- R190: PROBE_ENABLE. -/
def execProbeEnableWrite (v : Nat) (s : State) : Host.Outcome State Fault Refusal := .next (s.hostWrite 0x20100002 0 v)
/-- R272: BANK_SELECT of a CLE. -/
def execBankSelectWrite (leg : Leg) (v : Nat) (s : State) : Host.Outcome State Fault Refusal :=
  .next (s.hostWrite (0x38000006 + leg.val * 65536) 0 v)
/-- R342: AX_TARGET of an axis. -/
def execAxTargetWrite (ax : Fin 4) (v : Int) (s : State) : Host.Outcome State Fault Refusal :=
  .next (s.hostWrite (0x58000004 + ax.val * 65536) 0 v)
/-- R345: AX_COMMAND 1. -/
def execAxCommandHome (ax : Fin 4) (s : State) : Host.Outcome State Fault Refusal :=
  .next (s.hostWrite (0x58000005 + ax.val * 65536) 0 1)
/-- R350: AX_COMMAND 2. -/
def execAxCommandStop (ax : Fin 4) (s : State) : Host.Outcome State Fault Refusal :=
  .next (s.hostWrite (0x58000005 + ax.val * 65536) 0 2)
/-- R350: AX_ENABLE of an axis. -/
def execAxEnableWrite (ax : Fin 4) (v : Nat) (s : State) : Host.Outcome State Fault Refusal :=
  .next (s.hostWrite (0x58000006 + ax.val * 65536) 0 v)
/-- R436: CAN_ENABLE of a controller. -/
def execCanEnableWrite (c : Fin 4) (v : Nat) (s : State) : Host.Outcome State Fault Refusal :=
  .next (s.hostWrite (0x78000002 + c.val * 65536) 0 v)
/-- R452: UPDATE_ENABLE. -/
def execUpdateEnableWrite (v : Nat) (s : State) : Host.Outcome State Fault Refusal := .next (s.hostWrite 0x8000000B 0 v)
/-- R463: BIST_ENABLE. -/
def execBistEnableWrite (v : Nat) (s : State) : Host.Outcome State Fault Refusal := .next (s.hostWrite 0x88000009 0 v)
/-- R137: LINK_STATUS of a leg. -/
def execContactLostClear (leg : Leg) (v : Nat) (s : State) : Host.Outcome State Fault Refusal :=
  .next (s.hostWrite (0x10000001 + leg.val * 2 ^ 24) 0 v)
/-- R297: SAFETY_STATUS. -/
def execTelegramDegradedClear (v : Nat) (s : State) : Host.Outcome State Fault Refusal := .next (s.hostWrite 0x40000001 0 v)
/-- R23: BASELINE_STATUS. -/
def execBaselineLostClear (v : Nat) (s : State) : Host.Outcome State Fault Refusal := .next (s.hostWrite 0x01000020 0 v)
/-- R56: TIME_STATUS. -/
def execTimeOverrunClear (v : Nat) (s : State) : Host.Outcome State Fault Refusal := .next (s.hostWrite 0x02000003 0 v)
/-- R80: SUPPLY_STATUS. -/
def execSupplySwitchedClear (v : Nat) (s : State) : Host.Outcome State Fault Refusal := .next (s.hostWrite 0x04000001 0 v)
/-- R80: RESET_CAUSE. -/
def execResetreqStuckClear (v : Nat) (s : State) : Host.Outcome State Fault Refusal := .next (s.hostWrite 0x04000010 0 v)
/-- R223: WARN_STATUS. -/
def execWarnLatchedClear (v : Nat) (s : State) : Host.Outcome State Fault Refusal := .next (s.hostWrite 0x20100017 0 v)
/-- R223: LEARN_STATUS. -/
def execLearnWriteFailClear (v : Nat) (s : State) : Host.Outcome State Fault Refusal := .next (s.hostWrite 0x20100018 0 v)
/-- R391: FB_STATUS. -/
def execFbQueueFullClear (v : Nat) (s : State) : Host.Outcome State Fault Refusal := .next (s.hostWrite 0x68000001 0 v)
/-- R439: CAN_STATUS of a controller. -/
def execCanStatusClear (c : Fin 4) (v : Nat) (s : State) : Host.Outcome State Fault Refusal :=
  .next (s.hostWrite (0x78000001 + c.val * 65536) 0 v)

end Sys2Proof.Machine
end

