-- ==== Sys2Proof/Machine/Net.lean ====
section
/-! DEFINITION. The Ethernet ports, PRP and the IP layer (R393 to R400). -/
namespace Sys2Proof.Machine

/-- The state with its network part changed. -/
def State.modNet (f : Net → Net) (s : State) : State := { s with net := f s.net }
/-- The state with a port changed. -/
def State.modLan (i : Fin 2) (f : Lan → Lan) (s : State) : State := { s with net := { s.net with lan := vmod s.net.lan i f } }
/-- A NETWORK record of R421 with its host event. -/
def State.netRecord (source code index : Nat) (a : Int) (s : State) : State := s.formEvent 0x7001 code source index a 0
/-- R398: n frames leave on both ports, each with the next SeqNr. -/
def State.prpSend (n : Nat) (s : State) : State := s.modNet (fun m => { m with txSeq := (m.txSeq + n) % 65536 })
/-- R394: Mbit/s of a SPEED code. -/
def speedOf (code : Nat) : Nat := if code = 1 then 100 else if code = 2 then 1000 else 0

/-- R394: a port after one poll of its PHY: up with link and auto-negotiation, down after two polls without link. -/
def Lan.poll (r : PhyRead) (l : Lan) : Lan :=
  if !r.present then { l with present := false, link := false, aneg := false, speed := 0, misses := 0 }
  else
    let misses := if r.link then 0 else l.misses + 1
    let up := (r.link && r.aneg) || (l.link && decide (misses < 2))
    { l with present := true, aneg := r.aneg, misses := misses, link := up
             speed := if !up then 0 else if r.link && r.aneg then r.speed else l.speed }
/-- R394: one port is polled; a change is recorded and raises a host event. -/
def State.pollPort (i : Fin 2) (r : PhyRead) (s : State) : State :=
  let was := s.net.lan[i.val].link
  let s := s.modLan i (Lan.poll r)
  let l := s.net.lan[i.val]
  if was = l.link then s
  else if l.link then s.netRecord (80 + i.val) 1 i.val (speedOf l.speed) else s.netRecord (80 + i.val) 2 i.val 0
/-- R394: the poll of register 1 of both PHYs, every 100 ms. -/
def execPhyPoll (status : Vector PhyRead 2) (s : State) : Host.Outcome State Fault Refusal :=
  .next (if s.hostServed then (s.pollPort 0 status[0]).pollPort 1 status[1] else s)

/-- R399: 400 ms in Meridian ticks. -/
def prpWindow : Nat := 100000000
/-- R399: a frame with this SeqNr has arrived from the node on the other port within the last 400 ms. -/
def PrpNode.duplicate (n : PrpNode) (lan seq stamp : Nat) : Bool :=
  n.seen.any (fun q => q.1 == seq && q.2.1 != lan && decide (stamp ≤ q.2.2 + prpWindow))
/-- R399: the node table takes up a frame; it holds 64 nodes. -/
def noteNode (mac : Nat) (lan stamp : Nat) (seq : Option Nat) (ns : List PrpNode) : List PrpNode :=
  let keep (n : PrpNode) : PrpNode :=
    { n with seen := (match seq with
      | some q => [(q, lan, stamp)]
      | none => []) ++ n.seen.filter (fun q => decide (stamp ≤ q.2.2 + prpWindow)) }
  if ns.any (fun n => n.mac == mac) then ns.map (fun n => if n.mac = mac then keep n else n)
  else if ns.length < 64 then ns ++ [keep { mac := mac, seen := [] }] else ns
/-- R396: the VLAN filter. -/
def State.vlanOk (s : State) (v : Option Nat) : Bool := match v with
  | none => true
  | some k => k == s.parN P.vlanId
/-- R396: the UDP ports the module serves. -/
def udpPorts : List Nat := [319, 320, 47008, 47009]
/-- R396, R406: the kind of a frame passes duplicate discard whatever its SeqNr. -/
def bypasses (k : EthKind) : Bool := match k with
  | .ptp => true
  | .udp p _ => p == 47009 || p == 319 || p == 320
  | _ => false
/-- R396, R399: an accepted frame whose datagram the IP layer discards. -/
def ipDiscards (k : EthKind) : Bool := match k with
  | .udp p fragment => fragment || !udpPorts.contains p
  | _ => false
/-- R399, R400, R421: the PRP layer takes a good frame of the module's VLAN. -/
def State.prpReceive (lan : Fin 2) (f : EthFrame) (stamp : Nat) (s : State) : State :=
  let seq : Option Nat := if f.kind = .ptp then none else f.prp.map (fun p => p.1)
  let wrong : Bool := match f.prp with
    | some p => f.kind != .ptp && p.2 != 10 + lan.val
    | none => false
  let dup : Bool := match seq with
    | some q => s.net.nodes.any (fun n => n.mac == f.src && n.duplicate lan.val q stamp)
    | none => false
  let s := if wrong then s.modLan lan (fun l => { l with wrongLan := incSat l.wrongLan }) else s
  let s := s.modNet (fun m => { m with nodes := noteNode f.src lan.val stamp seq m.nodes })
  if dup && !wrong && !bypasses f.kind then s.modNet (fun m => { m with duplicates := incSat m.duplicates })
  else if ipDiscards f.kind then s.modNet (fun m => { m with discarded := incSat m.discarded })
  else s
/-- R396, R399: an Ethernet frame arrives on a port. What it carries acts through the command of its kind. -/
def execEthernetFrameReceived (lan : Fin 2) (frame : EthFrame) (stamp : Nat) (s : State) : Host.Outcome State Fault Refusal :=
  if !s.hostServed || !s.net.lan[lan.val].link then .next s
  else if !frame.good then .next ((s.at' stamp).modLan lan (fun l => { l with rxErrors := incSat l.rxErrors }))
  else
    let s := (s.at' stamp).modLan lan (fun l => { l with rxFrames := incSat l.rxFrames })
    .next (if s.vlanOk frame.vlan then s.prpReceive lan frame stamp else s)

/-- R397: the module answers on an address. -/
def State.answersOn (s : State) (ip : Nat) : Bool := ip == s.address || (s.onService && ip == s.parN P.serviceAddr)
/-- R396: an ARP request for the module's address: answered, and the cache of 32 entries is updated. -/
def execArpRequest (ip mac target : Nat) (s : State) : Host.Outcome State Fault Refusal :=
  if !s.hostServed || !s.answersOn target then .next s
  else .next ((s.modNet (fun m =>
    { m with arp := ((ip, mac) :: m.arp.filter (fun p => p.1 != ip)).take 32, arpSent := m.arpSent + 1 })).prpSend 1)
/-- R396: an ARP cache entry is 60 s old. -/
def execArpCacheExpiry (ip : Nat) (s : State) : Host.Outcome State Fault Refusal :=
  .next (s.modNet (fun m => { m with arp := m.arp.filter (fun p => p.1 != ip) }))
/-- R396: an ICMP echo request to the module: at most 10 replies in a second. -/
def execIcmpEcho (target : Nat) (s : State) : Host.Outcome State Fault Refusal :=
  if !s.hostServed || !s.answersOn target then .next s
  else
    let now := s.time.meridian / ticksPerSecond
    let sent := if s.net.icmpSecond = now then s.net.icmpNow else 0
    if 10 ≤ sent then .next s
    else .next ((s.modNet (fun m => { m with icmpSecond := now, icmpNow := sent + 1, icmpSent := m.icmpSent + 1 })).prpSend 1)
/-- R398: a supervision frame on both ports, every PRP_LIFE_CHECK. -/
def execPrpSupervisionSend (s : State) : Host.Outcome State Fault Refusal :=
  .next (if s.hostServed then (s.modNet (fun m => { m with supervision := m.supervision + 1 })).prpSend 1 else s)
/-- R399: NODE_FORGET has passed without a frame of a node. -/
def execPrpNodeForget (mac : Nat) (s : State) : Host.Outcome State Fault Refusal :=
  .next (s.modNet (fun m => { m with nodes := m.nodes.filter (fun n => n.mac != mac) }))
/-- R400: a LAN enters or leaves DEGRADED. -/
def execLanDegraded (lan : Fin 2) (entered : Bool) (s : State) : Host.Outcome State Fault Refusal :=
  if !s.hostServed || s.net.lan[lan.val].degraded == entered then .next s
  else .next ((s.modLan lan (fun l => { l with degraded := entered })).netRecord 82 (if entered then 3 else 4) lan.val 0)

end Sys2Proof.Machine
end

