-- ==== Sys2Proof/Machine/Host.lean ====
section
/-! DEFINITION. The host protocol (R407 to R415): the check of a request, responses, READ, WRITE, SUBSCRIBE, EVENTS. -/
namespace Sys2Proof.Machine

/-- The state with its host part changed. -/
def State.modHost (f : HostUnit → HostUnit) (s : State) : State := { s with host := f s.host }
/-- A key slot's index. -/
def slotIndex (key : Nat) : Fin 8 := ⟨key % 8, by omega⟩
/-- The state with a key slot's protocol state changed. -/
def State.modSlot (key : Nat) (f : HostSlot → HostSlot) (s : State) : State :=
  s.modHost (fun h => { h with slot := vmod h.slot (slotIndex key) f })
/-- Who is to be answered. -/
def ctxOf (op : Nat) (r : HostReq) : HostCtx := { op := op, key := r.keyId, tag := r.tag, ip := r.ip, port := r.port }
/-- A message to a destination under a slot's key, with the slot's next NONCE (R409). -/
def State.message (s : State) (c : HostCtx) (flags status : Nat) (payload : List Byte) : HostMsg :=
  { op := c.op, flags := flags, status := status, key := c.key, nonce := (s.host.slot[(slotIndex c.key).val]).txNonce + 1, tag := c.tag
    payload := payload, auth := true, ip := c.ip, port := c.port }
/-- R407: a response, kept for RETRY (R409) and sent in W4 (R410). -/
def State.respond (c : HostCtx) (status : Nat) (payload : List Byte) (s : State) : State :=
  let m := s.message c 2 status payload
  (s.modSlot c.key (fun k => { k with txNonce := m.nonce, responses := ((s.time.meridian, m) :: k.responses).take 16 })).modHost
    (fun h => { h with outbox := h.outbox ++ [m] })
/-- R419: the response to a request: to a forwarded one it is sent only by a unit that is ACTIVE in W4. -/
def State.answer (op : Nat) (r : HostReq) (status : Nat) (payload : List Byte) (s : State) : State :=
  if r.forwarded then s.modHost (fun h => { h with shadow := h.shadow ++ [s.message (ctxOf op r) 2 status payload] })
  else s.respond (ctxOf op r) status payload
/-- R407, R414, R415: an unsolicited message, sent at once (in W4). -/
def State.publish (c : HostCtx) (payload : List Byte) (s : State) : State :=
  let m := s.message c 4 0 payload
  ((s.modSlot c.key (fun k => { k with txNonce := m.nonce })).modHost (fun h => { h with sent := h.sent ++ [m] })).prpSend 1

/-- R407: header, with STATUS 0, and payload of a request, over which its MAC is formed. -/
def requestBytes (op : Nat) (r : HostReq) : List Byte :=
  leBytes 1 r.version ++ leBytes 1 op ++ leBytes 1 r.flags ++ leBytes 1 0 ++ leBytes 2 r.keyId ++ leBytes 2 r.len ++ leBytes 4 r.epoch ++
  leBytes 8 r.nonce ++ leBytes 4 r.tag ++ r.payload
/-- R408: the role and the key of a programmed, unrevoked slot. -/
def State.hostKey (s : State) (id : Nat) : Option (Nat × List Byte) :=
  if s.fuses.hostRevoked.toList.getD id true then none else s.fuses.hostKeys.toList.getD id none
/-- R409: the length is consistent. -/
def lengthOk (r : HostReq) : Bool := r.len == r.payload.length && decide (r.len ≤ 1426)
/-- R409: the MAC is correct under a key. -/
def macOk (key : List Byte) (op : Nat) (r : HostReq) : Bool := r.mac == (hmacSha256 key (requestBytes op r)).take 16
/-- R409: a NONCE is above the highest accepted, or one of the 64 below it not yet accepted. -/
def HostSlot.fresh (k : HostSlot) (n : Nat) : Bool :=
  decide (k.nonce < n) || (decide (k.nonce ≤ n + 64) && decide (n < k.nonce) && !k.accepted.contains n)
/-- R409: a NONCE is accepted. -/
def HostSlot.accept (n : Nat) (k : HostSlot) : HostSlot :=
  let top := max k.nonce n
  { k with nonce := top, accepted := (k.nonce :: n :: k.accepted).filter (fun m => decide (m < top) && decide (top ≤ m + 64)) }
/-- R409: a request that fails on version, length, key or MAC; at most 10 unauthenticated replies in a second. -/
def State.refuseUnknown (op : Nat) (r : HostReq) (s : State) : State :=
  let now := s.time.meridian / ticksPerSecond
  let n := if s.host.unauthSecond = now then s.host.unauthNow else 0
  let m : HostMsg := { op := op, flags := 2, status := 5, key := 0xFFFF, nonce := 0, tag := r.tag, payload := [], auth := false, ip := r.ip, port := r.port }
  let s := s.modHost (fun h => { h with authFail := incSat h.authFail, failNow := h.failNow + 1 })
  if n < 10 then (s.modHost (fun h => { h with unauthSecond := now, unauthNow := n + 1, sent := h.sent ++ [m] })).prpSend 1 else s
/-- R408, R410: the role an operation requires. -/
def roleFor (op : Nat) (payload : List Byte) : Nat :=
  match op with
  | 1 | 3 | 7 => 1
  | 2 | 8 => 2
  | 4 => if [0x30, 0x31, 0x40].contains (fieldAt 0 1 payload) then 3 else 2
  | _ => 3
/-- R409: the response to a RETRY that matches one of the last 2 s. -/
def State.retried (s : State) (r : HostReq) : Option HostMsg :=
  if !bitAt r.flags 4 then none
  else ((s.host.slot[(slotIndex r.keyId).val]).responses.find? (fun p =>
    p.2.tag == r.tag && p.2.key == r.keyId && decide (s.time.meridian ≤ p.1 + 2 * ticksPerSecond))).map Prod.snd
/-- R409: an old response goes out again with a new NONCE. -/
def State.respondAgain (m : HostMsg) (s : State) : State :=
  let n := (s.host.slot[(slotIndex m.key).val]).txNonce + 1
  (s.modSlot m.key (fun k => { k with txNonce := n })).modHost (fun h => { h with outbox := h.outbox ++ [{ m with nonce := n }] })
/-- R318: what a STANDBY executes of the forwarded seal: everything but operations on the other unit's own memory, keys
and resets. -/
def forwardable (op : Nat) (payload : List Byte) : Bool :=
  op == 2 || op == 8 || (op == 4 && !([0x04, 0x30, 0x31, 0x40].contains (fieldAt 0 1 payload)))
/-- R306: an active unit forwards a host message that passed authentication, as an entry of its seal. -/
def State.forwardMessage (op : Nat) (r : HostReq) (s : State) : State :=
  if s.isActive && forwardable op r.payload then
    s.twinSend 4 (.entry { typ := 1, source := 84, stamp := r.stamp, data := requestBytes op r })
  else s
/-- R409: RETRY, role and admission of an authentic request; true: it is sealed and executed. -/
def State.letIn (op role : Nat) (r : HostReq) (s : State) : State × Bool :=
  let s := s.modSlot r.keyId (HostSlot.accept r.nonce)
  match s.retried r with
  | some m => (s.respondAgain m, false)
  | none =>
    if role < roleFor op r.payload then (s.answer op r 8 [], false)
    else if s.parN P.hostMaxPerFrame ≤ s.host.admitted then
      ((s.modHost (fun h => { h with busy := incSat h.busy })).answer op r 6 [], false)
    else ((s.modHost (fun h => { h with admitted := h.admitted + 1 })).forwardMessage op r, true)
/-- R409: the check of a request on receipt; true: it is sealed and executed. -/
def State.hostCheck (op : Nat) (r : HostReq) (s : State) : State × Bool :=
  if r.forwarded then (s, s.role == .standby && forwardable op r.payload)
  else if !s.hostServed then (s, false)
  else if s.bist.keyFault then (s.refuseUnknown op r, false)
  else if !s.bist.keysValid then (s.modHost (fun h => { h with held := h.held ++ [(op, r)] }), false)
  else match s.hostKey r.keyId with
    | none => (s.refuseUnknown op r, false)
    | some (role, key) =>
      if r.version ≠ 1 || !lengthOk r || !macOk key op r then (s.refuseUnknown op r, false)
      else if r.epoch ≠ s.epoch then
        ((s.modHost (fun h => { h with authFail := incSat h.authFail, failNow := h.failNow + 1 })).answer op r 5 [], false)
      else if !(s.host.slot[(slotIndex r.keyId).val]).fresh r.nonce then
        ((s.modHost (fun h => { h with replay := incSat h.replay })).answer op r 5 [], false)
      else s.letIn op role r
/-- R409: the record of the failures of the last second. -/
def execHostAuthFailRecord (s : State) : Host.Outcome State Fault Refusal :=
  if s.host.failNow = 0 then .next s
  else .next ((s.form 0x7001 7 85 noIndex s.host.failNow 0).modHost (fun h => { h with failNow := 0 }))

/-- An item of a request: ID, FIRST, NUM (R411). -/
abbrev Item := Nat × Nat × Nat
/-- R411: n items of 8 bytes. -/
def itemsAt : Nat → List Byte → List Item
  | 0, _ => []
  | n + 1, b => (fieldAt 0 4 b, fieldAt 4 2 b, fieldAt 6 2 b) :: itemsAt n (b.drop 8)
/-- COUNT and its items, where the bytes are exactly that (R412, R414). -/
def itemList (b : List Byte) : Option (List Item) :=
  let n := fieldAt 0 1 b
  if b.length = 1 + 8 * n then some (itemsAt n (b.drop 1)) else none
/-- Elements an item selects of an object: NUM 0 means every element from FIRST (R411). -/
def numOf (o : Obj) (i : Item) : Nat := if i.2.2 = 0 then o.count - i.2.1 else i.2.2
/-- R411: the status of a read item. -/
def State.readStatus (s : State) (i : Item) : Nat := match s.object i.1 with
  | none => 1
  | some o => if o.count ≤ i.2.1 ∨ o.count < i.2.1 + numOf o i then 3 else 0
/-- R411: the response to an item: ID, STATUS, 0, NUM, data. -/
def State.readItem (s : State) (i : Item) : List Byte :=
  let st := s.readStatus i
  match s.object i.1 with
  | some o =>
    if st = 0 then leBytes 4 i.1 ++ leBytes 1 0 ++ leBytes 1 0 ++ leBytes 2 (numOf o i) ++ o.bytes i.2.1 (numOf o i)
    else leBytes 4 i.1 ++ leBytes 1 st ++ leBytes 1 0 ++ leBytes 2 0
  | none => leBytes 4 i.1 ++ leBytes 1 st ++ leBytes 1 0 ++ leBytes 2 0
/-- R412: the response payload of READ: FRAME and the items. -/
def State.readPayload (s : State) (is : List Item) : List Byte := leBytes 4 s.time.frame ++ is.flatMap (fun i => s.readItem i)
/-- R412: bytes of that payload. -/
def State.readSize (s : State) (is : List Item) : Nat :=
  4 + (is.map (fun i => 8 + (match s.object i.1 with
    | some o => if s.readStatus i = 0 then o.width * numOf o i else 0
    | none => 0))).sum
/-- R412: READ. -/
def State.serveRead (r : HostReq) (s : State) : State :=
  match itemList r.payload with
  | none => s.answer 1 r 8 []
  | some is => if 1426 < s.readSize is then s.answer 1 r 3 [] else s.answer 1 r 0 (s.readPayload is)

/-- A parsed item of WRITE: ID, the status of its form, and the values by element (R413). -/
structure WriteItem where
  id : Nat
  status : Nat
  vals : List (Nat × Int)
  deriving DecidableEq, Repr
/-- A value of an object's element (R4). -/
def Obj.value (o : Obj) (b : List Byte) : Int := if o.signed then leSigned (b.take o.width) else leNat (b.take o.width)
/-- R411, R413: n items with their data. Where an ID is unknown its data cannot be told from the next item; none: the
payload is not well formed. -/
def State.writeItems (s : State) : Nat → List Byte → Option (List WriteItem)
  | 0, b => if b.isEmpty then some [] else none
  | n + 1, b =>
    if b.length < 8 then none
    else
      let i : Item := (fieldAt 0 4 b, fieldAt 4 2 b, fieldAt 6 2 b)
      match s.object i.1 with
      | none => some [{ id := i.1, status := 1, vals := [] }]
      | some o =>
        let k := numOf o i
        let d := (b.drop 8).take (o.width * k)
        if d.length < o.width * k then none
        else
          let vals := (List.range k).map (fun j => (i.2.1 + j, o.value (d.drop (o.width * j))))
          (State.writeItems s n (b.drop (8 + o.width * k))).map (fun rest => { id := i.1, status := s.readStatus i, vals := vals } :: rest)
/-- R12, R103, R413: the status of an item: of its form, or of the first element that is refused. -/
def State.itemStatus (s : State) (w : WriteItem) : Nat :=
  if w.status ≠ 0 then w.status else ((w.vals.map (fun v => s.writeStatus w.id v.1 v.2)).find? (fun x => x != 0)).getD 0
/-- R413: an accepted item is applied under R30 and R48. -/
def State.applyItem (w : WriteItem) (s : State) : State := w.vals.foldl (fun t v => t.acceptWrite w.id v.1 v.2) s
/-- R413: WRITE. -/
def State.serveWrite (r : HostReq) (s : State) : State :=
  match s.writeItems (fieldAt 0 1 r.payload) (r.payload.drop 1) with
  | none => s.answer 2 r 8 []
  | some ws =>
    let st := ws.map (fun w => (w, s.itemStatus w))
    let reply := st.flatMap (fun p => leBytes 4 p.1.id ++ leBytes 1 p.2 ++ leBytes 1 0 ++ leBytes 2 0)
    let hold := bitAt r.flags 0 && st.any (fun p => p.2 != 0)
    let t := if hold then s else (st.filter (fun p => p.2 == 0)).foldl (fun t p => t.applyItem p.1) s
    t.answer 2 r 0 reply

/-- R414: bytes of a subscription's publication: SUB_ID and a READ response. -/
def State.pubSize (s : State) (is : List Item) : Nat := 1 + s.readSize is
/-- R414: SUBSCRIBE. -/
def State.serveSubscribe (r : HostReq) (s : State) : State :=
  let p := r.payload
  let id := fieldAt 0 1 p
  let period := fieldAt 2 2 p
  let others := s.host.subs.filter (fun x => x.id != id)
  match itemList (p.drop 4) with
  | none => s.answer 3 r 8 []
  | some is =>
    if 15 < id then s.answer 3 r 3 []
    else if period = 0 then (s.modHost (fun h => { h with subs := others })).answer 3 r 0 []
    else if 1426 < s.pubSize is then s.answer 3 r 3 []
    else if s.parN P.pubBytes < s.pubSize is + (others.map (fun x => s.pubSize x.items)).sum then s.answer 3 r 6 []
    else
      let next := (s.time.frame + 1) % 2 ^ 32
      let old := s.host.subs.find? (fun x => x.id == id)
      let sub : Sub := match old with
        | some x =>
          if x.items = is ∧ x.period = period ∧ x.ip = r.ip ∧ x.port = r.port ∧ x.key = r.keyId then { x with renewed := s.time.meridian }
          else { x with ip := r.ip, port := r.port, key := r.keyId, period := period, items := is, first := next, renewed := s.time.meridian }
        | none => { id := id, ip := r.ip, port := r.port, key := r.keyId, period := period, items := is, first := next, count := 0, renewed := s.time.meridian }
      (s.modHost (fun h => { h with subs := others ++ [sub] })).answer 3 r 0 []
/-- R414: a subscription publishes in this frame. -/
def Sub.due (x : Sub) (frame : Nat) : Bool :=
  let d := (frame + 2 ^ 32 - x.first) % 2 ^ 32
  decide (d < 2 ^ 31) && d % max 1 x.period == 0
/-- R414: the publication of a subscription (by its place in the list), in W4. -/
def execSubscriptionPublish (idx : Nat) (s : State) : Host.Outcome State Fault Refusal :=
  match s.host.subs[idx]? with
  | none => .next s
  | some x =>
    if !s.hostServed || !x.due s.time.frame then .next s
    else
      let c : HostCtx := { op := 3, key := x.key, tag := x.count, ip := x.ip, port := x.port }
      let s := s.publish c (leBytes 1 x.id ++ s.readPayload x.items)
      .next (s.modHost (fun h => { h with subs := updAt h.subs idx (fun y => { y with count := (y.count + 1) % 2 ^ 32 }) }))
/-- R414, R415: SUB_LEASE has passed without a renewal of a subscription, or of a follower. -/
def execSubscriptionLeaseExpiry (follower : Bool) (idx : Nat) (s : State) : Host.Outcome State Fault Refusal :=
  let there := if follower then decide (idx < s.host.followers.length) else decide (idx < s.host.subs.length)
  if !there then .next s
  else .next ((s.modHost (fun h =>
    if follower then { h with followers := h.followers.eraseIdx idx } else { h with subs := h.subs.eraseIdx idx })).form 0x7001 9 84 noIndex 0 0)

/-- R390: records that fit, whole, into a room, and the rest. -/
def fitRecords : List Found → Nat → List Found × List Found
  | [], _ => ([], [])
  | x :: xs, room => if x.len ≤ room then ((fitRecords xs (room - x.len)).1.cons x, (fitRecords xs (room - x.len)).2) else ([], x :: xs)
/-- R390: valid records from a page and offset on, in PAGE_SEQ order: their bytes, their number, and the next cursor. -/
def State.readBook (s : State) : Nat → Nat → Nat → Nat → List Byte × Nat × Nat
  | 0, page, off, _ => ([], 0, page * 4096 + off)
  | n + 1, page, off, room =>
    let f := fitRecords ((s.pageRecords page).filter (fun x => x.valid && decide (off ≤ x.off))) room
    let bytes := f.1.flatMap (fun x => Memory.readBytes s.store (page * 4096 + x.off) x.len)
    match f.2 with
    | x :: _ => (bytes, f.1.length, page * 4096 + x.off)
    | [] =>
      if page = s.fb.page then (bytes, f.1.length, s.bookHead)
      else
        let rest := State.readBook s n (s.ringNext page) 16 (room - bytes.length)
        (bytes ++ rest.1, f.1.length + rest.2.1, rest.2.2)
/-- R390: where a cursor starts: an erased page, or one outside the ring, resumes at FB_OLDEST. -/
def State.cursorStart (s : State) (cursor : Nat) : Nat :=
  let page := cursor / 4096
  let inRing := decide (fbStart ≤ page) && decide (page < fbStart + s.ringPages)
  if inRing && (page == s.fb.page || (headerOf (Memory.readBytes s.store (page * 4096) 16)).isSome) then cursor else s.fb.oldest
/-- R415: EVENTS, read. -/
def State.eventsRead (r : HostReq) (s : State) : State :=
  if r.payload.length ≠ 8 then s.answer 7 r 8 []
  else
    let c := s.cursorStart (fieldAt 4 4 r.payload)
    let x := s.readBook s.ringPages (c / 4096) (c % 4096) (min (fieldAt 2 2 r.payload) 1420)
    s.answer 7 r 0 (leBytes 4 x.2.2 ++ leBytes 2 x.2.1 ++ x.1)
/-- The sender of a request is this follower. -/
def Follower.is (f : Follower) (r : HostReq) : Bool := f.ip == r.ip && f.port == r.port && f.key == r.keyId
/-- R415: EVENTS, follow: at most 8 followers. -/
def State.eventsFollow (r : HostReq) (s : State) : State :=
  if s.host.followers.any (fun f => f.is r) then
    (s.modHost (fun h => { h with followers := h.followers.map (fun f => if f.is r then { f with renewed := s.time.meridian } else f) })).answer 7 r 0 []
  else if 8 ≤ s.host.followers.length then s.answer 7 r 6 []
  else (s.modHost (fun h =>
    { h with followers := h.followers ++ [{ ip := r.ip, port := r.port, key := r.keyId, count := 0, renewed := s.time.meridian }] })).answer 7 r 0 []
/-- R415: EVENTS, unfollow. -/
def State.eventsUnfollow (r : HostReq) (s : State) : State :=
  (s.modHost (fun h => { h with followers := h.followers.filter (fun f => !f.is r) })).answer 7 r 0 []
/-- R415: EVENTS. -/
def State.serveEvents (r : HostReq) (s : State) : State :=
  match fieldAt 0 1 r.payload with
  | 0 => s.eventsRead r
  | 1 => s.eventsFollow r
  | 2 => s.eventsUnfollow r
  | _ => s.answer 7 r 8 []
/-- R415: an event entry of 28 bytes. -/
def FbRecord.entry (e : FbRecord) : List Byte := leBytes 2 e.type ++ leBytes 1 e.source ++ leBytes 1 e.flags ++ leBytes 8 e.stamp ++ e.common
/-- R415: in W4 the events of the frame go to every follower, 32 at most; an overflow is announced in the next frame. -/
def State.sendEvents (s : State) : State :=
  let s := if s.host.dropped then (s.event 0x7001 10 84 noIndex 0 0).modHost (fun h => { h with dropped := false }) else s
  let es := s.events
  let extra := es.length - 32
  let payload := (es.take 32).flatMap FbRecord.entry
  let s := { s with events := [] }
  if es.isEmpty ∨ s.host.followers.isEmpty then s
  else
    let s := s.host.followers.foldl (fun t f => t.publish { op := 7, key := f.key, tag := f.count, ip := f.ip, port := f.port } payload) s
    let s := s.modHost (fun h =>
      { h with followers := h.followers.map (fun f => { f with count := (f.count + min 32 es.length) % 2 ^ 32 }), overflow := addSat h.overflow extra
               dropped := decide (0 < extra) })
    if 0 < extra then s.form 0x7001 10 84 noIndex extra 0 else s
/-- R410, R419: in W4 the responses are sent; those to forwarded requests only by an active unit. -/
def State.sendReplies (s : State) : State :=
  let out := s.host.outbox ++ (if s.isActive then s.host.shadow else [])
  (s.modHost (fun h => { h with sent := h.sent ++ out, outbox := [], shadow := [] })).prpSend out.length

/-- R416, R435: the gateway's response: the header of the request, then what the sub-operation returns. -/
def State.canReply (r : HostReq) (status : Nat) (data : List Byte) (s : State) : State := s.answer 8 r status (r.payload.take 4 ++ data)
/-- R435: BUFFER and STATE of a transmit buffer. -/
def State.bufferState (s : State) (c : Fin 4) (b : Nat) : List Byte := leBytes 1 b ++ leBytes 1 (s.can[c.val].tx.toList.getD b {}).st
/-- R435: TX_LOAD. -/
def State.gatewayLoad (c : Fin 4) (r : HostReq) (s : State) : State :=
  let p := r.payload
  let fl := fieldAt 5 1 p
  let n := fieldAt 6 1 p
  let f : CanFrame := { ide := bitAt fl 0, fd := bitAt fl 1, brs := bitAt fl 2, id := fieldAt 8 4 p % 2 ^ 29, data := slice 12 n p }
  if p.length ≠ 12 + n then s.answer 8 r 8 []
  else
    let t := s.canLoad c (fieldAt 4 1 p) f (bitAt fl 3)
    t.2.canReply r t.1 (if t.1 = 0 then t.2.bufferState c (fieldAt 4 1 p) else [])
/-- R435: TX_ABORT. -/
def State.gatewayAbort (c : Fin 4) (r : HostReq) (s : State) : State :=
  let t := s.canAbort c (fieldAt 4 1 r.payload)
  t.2.canReply r t.1 (if t.1 = 0 then t.2.bufferState c (fieldAt 4 1 r.payload) else [])
/-- R435: the host reads the receive queue of a controller: GATEWAY_RX. -/
def State.gatewayReads (s : State) (c : Fin 4) : Bool := s.par P.canGatewayRx c.val != 0
/-- R435: RX_READ. -/
def State.gatewayRead (c : Fin 4) (r : HostReq) (s : State) : State :=
  let es := takeEntries s.can[c.val].rxq (fieldAt 4 1 r.payload) 1421
  if s.gatewayReads c then s.canReply r 0 (leBytes 1 es.length ++ es.flatMap CanRx.bytes) else s.canReply r 8 []
/-- R435: RX_ACK. -/
def State.gatewayAck (c : Fin 4) (r : HostReq) (s : State) : State :=
  if !s.gatewayReads c then s.canReply r 8 []
  else match ackEntries (fieldAt 4 2 r.payload) s.can[c.val].rxq with
    | none => s.canReply r 3 []
    | some a => (s.modCan c (fun y => { y with rxq := a.2 })).canReply r 0 (leBytes 1 a.1)
/-- R435: the CAN gateway. -/
def State.serveCan (r : HostReq) (s : State) : State :=
  let c := ix4 (fieldAt 1 1 r.payload)
  let x := s.can[c.val]
  if r.payload.length < 4 then s.answer 8 r 8 []
  else if 3 < fieldAt 1 1 r.payload then s.answer 8 r 3 []
  else match fieldAt 0 1 r.payload with
    | 0 => s.gatewayLoad c r
    | 1 => s.gatewayAbort c r
    | 2 => s.canReply r 0 (x.tx.toList.flatMap (fun t => leBytes 1 t.st ++ leBytes 3 0 ++ leBytes 8 t.stamp))
    | 3 => s.gatewayRead c r
    | 4 => s.gatewayAck c r
    | 5 => s.canReply r 0 (leBytes 4 (s.canStatus c) ++ leBytes 1 (min 255 x.tec) ++ leBytes 1 (min 255 x.rxe) ++ leBytes 1 x.rxq.length ++ leBytes 1 0)
    | _ => s.answer 8 r 8 []

end Sys2Proof.Machine
end

