-- ==== Sys2Proof/Machine/Command.lean ====
section
/-! DEFINITION. COMMAND (R417, R418): arm, disarm, release, reset, laid-up, dispatch, swap, plat and key commands. -/
namespace Sys2Proof.Machine

/-- R71, R284: ARMED: the contactor sequence begins; R272, R330, R345 name what each entry to ARMED starts. -/
def State.enterArmed (s : State) : State :=
  let mode := s.parN P.mode
  let s := { s with mode := .armed, str := { s.str with running := mode } }
  ((((s.seqTo 1).command 1 true).selectBanks mode).autoHome).startValves
/-- R71, R76, R291, R468: COMMAND ARM: status and state. A module not in the lifecycle state FIELD never enters ARMED. -/
def State.arm (s : State) : Nat × State :=
  if s.mode ≠ .surveyed ∨ s.layup.step ≠ 0 then (4, s) else if !s.healthy || s.fuses.lifecycle != 2 then (8, s) else (0, s.enterArmed)
/-- R71: COMMAND DISARM. -/
def State.disarmCommand (s : State) : Nat × State := if s.mode = .armed ∨ s.mode = .running then (0, s.disarm) else (4, s)

/-- R287: every feedback in use reads open. -/
def State.feedbackOpen (s : State) : Bool := allLegs.all (fun g => s.readsOpen g)
/-- R278: a pair of a function reads low. -/
def State.functionLow (s : State) (fn : Int) : Bool := allOutputs.any (fun k => s.par P.pairFunc 0xFF k.val == fn && s.pairLow k)
/-- R285, R291: an output whose read-back disagrees with its drive. -/
def State.outputDisagrees (s : State) : Bool := s.sf.output.toList.any (fun o => o.readback != o.driven)
/-- R291: a cause has not cleared itself. -/
def State.persists (s : State) (k : Nat) : Bool :=
  match k with
  | 1 => s.functionLow 1
  | 2 => s.functionLow 2
  | 3 => s.sf.pair.toList.any (fun p => p.fault)
  | 4 => s.sf.tgStop != 0
  | 5 => s.sf.tgWd && s.par P.telegramRequired == 1
  | 6 => s.sf.hardNow
  | 7 => !s.sf.cellInvalid.isEmpty
  | 8 => s.sf.hotNow
  | 9 => !s.sf.stationInvalid.isEmpty
  | 10 => decide (2 ≤ s.win.safetyRun)
  | 11 => s.base.coreLost
  | 12 => s.twin.step == .dispute || (s.twinMember && s.par P.twinRequired == 1 && s.twin.degraded)
  | 13 => s.outputDisagrees
  | 14 => s.outputDisagrees || !s.feedbackOpen
  | 15 => !s.feedbackOpen
  | 16 => !s.feedbackOpen
  | 17 => s.sf.lockstep
  | _ => false
/-- R291: the causes that persist, as a word: the latched ones, and those that act without a latch (a pair with
PAIR_LATCH 0, the telegram watchdog). -/
def State.persisting (s : State) : Nat :=
  ((List.range 20).map (fun k => if (bitAt s.sf.latched k || [1, 2, 5].contains k) && s.persists k then 2 ^ k else 0)).sum
/-- R71, R97, R461, R312: FAULT-HOLD may be left: the start was complete, and its cause is not one that only a reset ends. -/
def State.releasable (s : State) : Bool :=
  !s.limited && s.start.limitExpired.isNone && !s.su.short && s.role != .estranged && !s.bist.debugOpen &&
  s.ring.toList.any (fun r => r.available)
/-- R280, R285, R287, R291: every latch of the safety functions clears. -/
def State.clearLatches (s : State) : State :=
  s.modSf (fun f => { f with
    latched := 0, stopCause := 0, firstCause := 0, activeCauses := 0, tripReq := false, stopLatching := false
    pair := f.pair.map (fun p => { p with latched := false })
    output := f.output.map (fun o => { o with stuckOn := false, stuckOff := false, diagFault := false, missed := 0 })
    group := f.group.map (fun g => { g with st := if g.on then g.st else .opened }) })
/-- R291: COMMAND RELEASE of module causes: status and state. -/
def State.release (s : State) : Nat × State :=
  if s.mode ≠ .surveyed ∧ s.mode ≠ .faultHold then (4, s)
  else
    let left := s.persisting
    if left ≠ 0 ∨ (s.sf.tripReq ∧ !s.feedbackOpen) then (8, s.modSf (fun f => { f with latched := f.latched &&& left }))
    else if s.mode = .faultHold ∧ !s.releasable then (8, s)
    else (0, { s.clearLatches with mode := .surveyed })
/-- R158, R255: the cause of a latched leg has not cleared. -/
def State.legPersists (s : State) (leg : Leg) : Bool :=
  let c := s.conv[leg.val].cause
  (c == 8 && s.diag[leg.val].closureFail) || c == 9
/-- R255: a leg's latch clears and leaves it DISABLED. -/
def State.unlatchLeg (leg : Leg) (s : State) : State :=
  let s := s.modConv leg (fun c => { c with st := .disabled, cause := 0 })
  (s.modPwm (phaseA leg) (fun p => { p with run := 0 })).modPwm (phaseB leg) (fun p => { p with run := 0 })
/-- R255: COMMAND RELEASE of legs: status and state. -/
def State.releaseLegs (mask : Nat) (s : State) : Nat × State :=
  if !s.inStates [.surveyed, .armed, .running] then (4, s)
  else
    let named := allLegs.filter (fun l => bitAt mask l.val && s.conv[l.val].st == .fault)
    let clear := named.filter (fun l => !s.legPersists l)
    (if clear.length = named.length ∧ mask < 16 then 0 else 8, clear.foldl (fun t l => t.unlatchLeg l) s)

/-- R68, R220: a reset on command waits for the learned set, where there is one. `kind` as in `Learn.shutdown`. -/
def State.orderlyReset (kind : Nat) (s : State) : State :=
  if s.start.learnedRead then
    let t := s.learnTrigger 6
    { t with learn := { t.learn with shutdown := kind } }
  else s.moduleReset cHost
/-- R68: COMMAND RESET. -/
def State.resetCommand (s : State) : Nat × State :=
  if s.mode = .surveyed ∨ s.mode = .faultHold then (0, s.orderlyReset 2) else (4, s)
/-- R76, R165: step 1: SET_SLEEP_THRESHOLDS to every station of a leg. -/
def State.planSleep (leg : Leg) (s : State) : State :=
  if !s.measurable leg then s
  else
    let t := (s.endsInUse leg).foldl (fun t b => t.plan leg b 0x40 0 (t.sleepPayload leg)) s
    { t with layup := { t.layup with awaiting := t.layup.awaiting ++ (s.stakes leg).map (fun k => stationKey leg k) } }
/-- R76: COMMAND LAY_UP: the sequence begins at the next frame boundary. -/
def State.layUp (s : State) : Nat × State :=
  if s.mode ≠ .surveyed ∨ s.layup.step ≠ 0 ∨ s.layup.due then (4, s) else (0, { s with layup := { s.layup with due := true } })
/-- R76: at the frame boundary after COMMAND LAY_UP step 1 begins, unless the module has left SURVEYED meanwhile. -/
def State.beginLayup (s : State) : State :=
  if !s.layup.due then s
  else if s.mode ≠ .surveyed then { s with layup := { s.layup with due := false } }
  else
    let s := { s.stopAllBalancing with layup := { s.layup with due := false, step := 1, awaiting := [] } }
    (allLegs.foldl (fun t l => t.planSleep l) s).layupPersist
/-- R418: COMMAND DISPATCH with its arguments. -/
def State.dispatchCommand (p : List Byte) (s : State) : Nat × State :=
  let mode := fieldAt 4 1 p
  let mask := fieldAt 5 1 p
  let kind := fieldAt 6 1 p
  let target := leSigned (slice 8 4 p)
  if p.length ≠ 16 then (8, s)
  else
    let st := s.dispatchStatus mode kind target
    if st ≠ 0 then (st, s) else if 15 < mask then (8, s) else (0, s.dispatch mode mask kind target (fieldAt 12 4 p))
/-- R301, R319: COMMAND SWAP, sent to the active unit; the standby executes it from the seal. -/
def State.swapCommand (r : HostReq) (s : State) : Nat × State :=
  if (s.isActive || r.forwarded) && s.swapReady then (0, s.beginSwap) else (4, s)

/-- First byte of the plat staging area (R99). -/
def platStaging : Nat := 13312 * 4096
/-- R100: the staged header. -/
def State.stagedHeader (s : State) : PlatHeader := parseHeader (Memory.readBytes s.store platStaging 96)
/-- R100: the result of the staged copy: R94, R96, and a SERIAL above that of both flash copies (code 4). -/
def State.stagedResult (s : State) : Nat :=
  let h := Memory.readBytes s.store platStaging 96
  let p := s.stagedHeader
  let c := headerResult s.start.imageVersion h
  if c ≠ 0 then c
  else
    let r := bodyResult (fun id => (State.reset.object id).isSome) p (Memory.readBytes s.store (platStaging + 96) p.bodyLen)
    if r.code ≠ 0 then r.code
    else if s.plat.serials.toList.any (fun x => match x with
      | some q => decide (p.serial ≤ q)
      | none => false) then 4
    else 0
/-- R100: COMMAND PLAT_STAGE. -/
def State.platStage (s : State) : Nat × State :=
  let c := s.stagedResult
  (if c = 0 then 0 else 8, { s with plat := { s.plat with stage := c } })
/-- R100, R106: COMMAND PLAT_INSTALL is accepted in this state. -/
def State.installState (s : State) : Bool :=
  s.mode == .surveyed || (s.mode == .faultHold && (s.plat.recovery || s.par P.installInFaultHold == 1))
/-- R100, R102: COMMAND PLAT_INSTALL. -/
def State.platInstall (s : State) : Nat × State :=
  if !s.installState then (4, s)
  else if (!s.plat.recovery && s.par P.platInstallEnable == 0) || s.stagedResult != 0 then (8, s)
  else
    let target := if !s.plat.recovery && s.plat.copy == 0 then 1 else 0
    let s := s.programInstall true target 0 s.stagedHeader.serial s.stagedHeader.bodyHash
    (0, s.orderlyReset 3)

/-- R408: another unrevoked maintenance slot than k remains. -/
def State.otherMaintenance (s : State) (k : Nat) : Bool :=
  (List.range 8).any (fun j => j != k && (match s.hostKey j with
    | some (role, _) => role == 3
    | none => false))
/-- R408: COMMAND KEY_REVOKE of a slot, by the slot that authenticates it. -/
def State.keyRevoke (own : Nat) (p : List Byte) (s : State) : Nat × State :=
  let k := fieldAt 4 1 p
  if p.length < 5 then (8, s)
  else if 7 < k then (3, s)
  else if k = own ∨ !s.otherMaintenance k then (8, s)
  else
    let s := { s with fuses := { s.fuses with hostRevoked := vmod s.fuses.hostRevoked (slotIndex k) (fun _ => true) } }
    (0, s.modHost (fun h => { h with subs := h.subs.filter (fun x => x.key != k), followers := h.followers.filter (fun f => f.key != k) }))

/-- R417: the codes of COMMAND. -/
def commandCodes : List Nat := [0x01, 0x02, 0x03, 0x04, 0x05, 0x10, 0x20, 0x30, 0x31, 0x40]
/-- R417: a command: status and state. -/
def State.command1 (r : HostReq) (s : State) : Nat × State :=
  let p := r.payload
  match fieldAt 0 1 p with
  | 0x01 => s.arm
  | 0x02 => s.disarmCommand
  | 0x03 => if p.length < 5 then (8, s) else if fieldAt 4 1 p = 0 then s.release else s.releaseLegs (fieldAt 4 1 p)
  | 0x04 => s.resetCommand
  | 0x05 => s.layUp
  | 0x10 => s.dispatchCommand p
  | 0x20 => s.swapCommand r
  | 0x30 => s.platStage
  | 0x31 => s.platInstall
  | 0x40 => s.keyRevoke r.keyId p
  | _ => (8, s)
/-- R417: COMMAND: the response reports acceptance. A command that resets at once leaves no response (R419). -/
def State.serveCommand (r : HostReq) (s : State) : State :=
  let t := s.command1 r
  if t.2.mode = .boot then t.2 else t.2.answer 4 r t.1 []

end Sys2Proof.Machine
end

