-- ==== Sys2Proof/Machine/HostWindow.lean ====
section
/-! DEFINITION. WINDOW (R372 to R374, R416): the host's access to the store through channels 14 and 15. -/
namespace Sys2Proof.Machine

/-- The channel of a window. -/
def winCh (w : Fin 2) : Fin 16 := ⟨14 + w.val, by omega⟩
/-- The other window. -/
def otherWin (w : Fin 2) : Fin 2 := if w = 0 then 1 else 0
/-- The state with a window changed. -/
def State.modWin (w : Fin 2) (f : HostWin → HostWin) (s : State) : State := { s with su := { s.su with win := vmod s.su.win w f } }
/-- R372: bytes within one region, 1,024 at most. -/
def State.windowFits (s : State) (a len : Nat) : Bool :=
  decide (len ≤ 1024) && (len == 0 || s.regionOf (a / 4096) == s.regionOf ((a + len - 1) / 4096))
/-- R363: the program unit of the port of an address. -/
def State.unitAt (s : State) (a : Nat) : Nat := match s.portOf (a / 4096) with
  | some p => s.su.port[p.val].unit
  | none => 256
/-- R373: a window has written a page of a range and not yet programmed it. -/
def State.unprogrammed (s : State) (w : Fin 2) (first last : Nat) : Bool :=
  let x := s.su.win[w.val]
  let c := s.su.ch[(winCh w).val]
  let hits (a n : Nat) : Bool := n != 0 && decide (a / 4096 ≤ last) && decide (first ≤ (a + n - 1) / 4096)
  hits (x.next - x.held.length) x.held.length || (c.op == .write && c.st != .idle && hits (c.addr + c.progress) (c.len - c.progress))
/-- R374, R416: what a window replies: FAULT, CH_STATE, FAULT_PAGE, PROGRESS of the operation, and the data of a READ. -/
def State.windowPayload (s : State) (w : Fin 2) (data : List Byte) : List Byte :=
  let c := s.su.ch[(winCh w).val]
  leBytes 1 c.fault ++ leBytes 1 c.st.code ++ leBytes 2 0 ++ leBytes 4 c.faultPage ++ leBytes 4 (c.progress - s.su.win[w.val].before) ++ data
/-- R374: the operation of a window has completed, or halted: its reply. -/
def State.windowReply (w : Fin 2) (status : Nat) (s : State) : State :=
  match s.su.win[w.val].reply with
  | none => s
  | some c =>
    let data := if s.su.win[w.val].op = 0 ∧ status = 0 then s.su.ch[(winCh w).val].data else []
    (s.respond c status (s.windowPayload w data)).modWin w (fun x => { x with reply := none })
/-- An operation of a window begins on its channel. -/
def State.windowStart (w : Fin 2) (r : HostReq) (sub : Nat) (op : DmaOp) (a len before : Nat) (data : List Byte) (s : State) : State :=
  (s.startDesc (winCh w) op a len data).modWin w (fun x => { x with op := sub, reply := some (ctxOf 5 r), before := before })
/-- A reply at once. -/
def State.windowNow (w : Fin 2) (r : HostReq) (status : Nat) (s : State) : State := s.answer 5 r status (s.windowPayload w [])

/-- R372: READ. -/
def State.windowRead (w : Fin 2) (r : HostReq) (a len : Nat) (s : State) : State :=
  if len = 0 then s.windowNow w r 0 else s.windowStart w r 0 .read a len 0 []
/-- R373: WRITE: the bytes held so far and the new ones, less what ends inside a program unit. -/
def State.windowWrite (w : Fin 2) (r : HostReq) (a : Nat) (data : List Byte) (s : State) : State :=
  let x := s.su.win[w.val]
  if !x.held.isEmpty && a != x.next then s.windowNow w r 8
  else
    let all := x.held ++ data
    let base := a - x.held.length
    let stop := a + data.length
    let keep := min (stop % s.unitAt stop) all.length
    let n := all.length - keep
    let s := s.modWin w (fun x => { x with next := stop, held := all.drop n })
    if n = 0 then s.windowNow w r 0 else s.windowStart w r 1 .write base n x.held.length (all.take n)
/-- R372: FLUSH: the partial unit is programmed, padded with 0xFF. -/
def State.windowFlush (w : Fin 2) (r : HostReq) (s : State) : State :=
  let x := s.su.win[w.val]
  if x.held.isEmpty then s.windowNow w r 0
  else
    let base := x.next - x.held.length
    let unit := s.unitAt base
    let pad := (unit - x.next % unit) % unit
    (s.modWin w (fun x => { x with held := [], next := 0 })).windowStart w r 3 .write base (x.held.length + pad) 0 (x.held ++ List.replicate pad 0xFF)
/-- R372, R368: RESUME replies as the halted operation would. -/
def State.windowResume (w : Fin 2) (r : HostReq) (s : State) : State :=
  let c := winCh w
  if s.su.ch[c.val].st ≠ .halted then s.windowNow w r 8
  else
    let t := (s.modWin w (fun x => { x with reply := some (ctxOf 5 r) })).resumeCh c 0
    match t.2 with
    | .done _ => t.1.windowReply w 0
    | _ => if t.1.su.ch[c.val].st = .halted then t.1.windowReply w 7 else t.1
/-- R369, R372, R374: a halted operation is abandoned, and any partial unit discarded. -/
def State.windowAbandon (w : Fin 2) (s : State) : State :=
  (s.abandonCh (winCh w)).modWin w (fun x => { x with held := [], next := 0, reply := none })
/-- R372 to R374, R416: WINDOW. -/
def State.serveWindow (r : HostReq) (s : State) : State :=
  let p := r.payload
  let w : Fin 2 := if fieldAt 0 1 p = 1 then 1 else 0
  let sub := fieldAt 1 1 p
  let page := fieldAt 4 4 p
  let a := page * 4096 + fieldAt 8 2 p
  let len := if sub ≤ 1 then fieldAt 10 2 p else 0
  let st := s.su.ch[(winCh w).val].st
  let last := if sub = 2 then ((s.eraseUnit (page * 4096)).1 + (s.eraseUnit (page * 4096)).2 - 1) / 4096 else (a + len - 1) / 4096
  let first := if sub = 2 then (s.eraseUnit (page * 4096)).1 / 4096 else a / 4096
  if p.length < 12 ∨ 6 < sub ∨ (sub = 1 ∧ p.length ≠ 12 + len) then s.answer 5 r 8 []
  else if 1 < fieldAt 0 1 p then s.answer 5 r 3 []
  else if s.limited && sub ≤ 2 && s.regionOf page != 4 then s.answer 5 r 4 []
  else if sub = 4 then s.windowNow w r 0
  else if sub = 5 then s.windowResume w r
  else if sub = 6 then (if st = .active ∨ st = .waiting then s.windowNow w r 6 else (s.windowAbandon w).windowNow w r 0)
  else if st = .halted ∨ st = .active ∨ st = .waiting then s.windowNow w r 6
  else if sub = 3 then s.windowFlush w r
  else if 4095 < fieldAt 8 2 p ∨ !s.windowFits a len then s.windowNow w r 3
  else if s.unprogrammed (otherWin w) first last then s.windowNow w r 6
  else if sub = 0 then s.windowRead w r a len
  else if sub = 1 then s.windowWrite w r a (p.drop 12)
  else s.windowStart w r 2 .erase (page * 4096) 4096 0 []

end Sys2Proof.Machine
end

