-- ==== Sys2Proof/Machine/Firmware.lean ====
section
/-! DEFINITION. UPDATE (R449 to R452), the application of an update, trials and their confirmation (R453 to R456). -/
namespace Sys2Proof.Machine

/-- The slot that does not hold the running image. -/
def State.spareSlot (s : State) : Nat := if s.upd.slot = 0 then 1 else 0
/-- An UPDATE record of the spare slot with a host event (R452, R458). -/
def State.updNote (code : Nat) (value : Int) (s : State) : State :=
  (s.event 0x8001 code 118 s.spareSlot value 0).updRecord code s.spareSlot value
/-- R416: the response of UPDATE. -/
def State.updPayload (s : State) (sub result : Nat) : List Byte :=
  leBytes 1 sub ++ leBytes 1 result ++ leBytes 2 0 ++ leBytes 4 s.upd.received
/-- R449: the reply to a sub-operation; LAST_RESULT keeps its RESULT (R458). -/
def State.updAnswer (r : HostReq) (status result : Nat) (s : State) : State :=
  let sub := fieldAt 0 1 r.payload
  let s := s.modUpd (fun u => { u with lastResult := result })
  s.answer 6 r status (s.updPayload sub result)
/-- R449: a rejection. -/
def State.updReject (r : HostReq) (result : Nat) (s : State) : State := s.updAnswer r 8 result
/-- BODY_LEN and RESULT_LEN of the session's header. -/
def State.bodyLen (s : State) : Nat := fieldAt 20 4 s.upd.header
/-- RESULT_LEN. -/
def State.resultLen (s : State) : Nat := fieldAt 24 4 s.upd.header

/-- R446, R449, R451: an accepted header is staged and opens a session. A staged body under the same header continues;
what lies beyond it in staging is erased. -/
def State.openSession (h : List Byte) (s : State) : State :=
  let again := Memory.readBytes s.store stagingBase 256 == h
  let n := fieldAt 20 4 h / 4096
  let got := if again then s.stagedPrefix n 0 else 0
  let mem := Memory.erase s.store (stagingBase + 4096 + got) (16773120 - got)
  let mem := if again then mem else Memory.program (Memory.erase mem stagingBase 4096) stagingBase h
  { s with store := mem }.modUpd (fun u =>
    { u with session := if got = 4096 * n then 2 else 1, header := h, received := got, applied := 0, block := 0, abortDue := false })
/-- The reply to the body in programming. -/
def State.bodyReply (status result : Nat) (s : State) : State :=
  match s.upd.reply with
  | none => s
  | some c =>
    let s := s.modUpd (fun u => { u with reply := none, lastResult := result })
    s.respond c status (s.updPayload 1 result)
/-- R449: HEADER; while a BODY is in programming it is busy (log 285). -/
def State.updHeader (r : HostReq) (s : State) : State :=
  let h := r.payload.drop 8
  let c := if fieldAt 4 4 r.payload ≠ 0 then 8 else s.updHeaderResult h
  if s.upd.reply.isSome then s.updAnswer r 6 s.upd.lastResult
  else if c ≠ 0 then (s.updRecord 1 s.spareSlot c).updReject r c
  else if (s.portOf (stagingBase / 4096)).isNone then s.updAnswer r 7 14
  else (s.openSession h).updAnswer r 0 0
/-- R449: BODY. -/
def State.updBody (r : HostReq) (s : State) : State :=
  let data := r.payload.drop 8
  let at' := fieldAt 4 4 r.payload
  if s.upd.reply.isSome then s.updAnswer r 6 s.upd.lastResult
  else if 1024 < data.length then s.updAnswer r 3 s.upd.lastResult
  else if (s.upd.session ≠ 1 ∧ s.upd.session ≠ 2) ∨ at' ≠ s.upd.received then s.updReject r 8
  else if s.bodyLen < at' + data.length then s.updReject r 10
  else if data.isEmpty then s.updAnswer r 0 0
  else (s.startDesc 8 .write (stagingBase + 4096 + at') data.length data).modUpd (fun u => { u with reply := some (ctxOf 6 r) })
/-- R449, R447: channel 8 has programmed the bytes of a BODY; where ABORT has ended the session meanwhile, it is out of
order (log 285). -/
def State.bodyDone (s : State) : State :=
  let old := s.upd.received
  let new := old + s.su.ch[8].len
  let bad := ((List.range (new / 4096 + 1)).filter (fun b => decide (old / 4096 ≤ b) && decide (b < new / 4096))).find? (fun b => !blockOk (s.stagedBlock b))
  if s.upd.session = 0 then s.bodyReply 8 8
  else match bad with
  | some b =>
    ({ s with store := Memory.erase s.store (stagingBase + 4096 + b * 4096) (16773120 - b * 4096) }.modUpd
      (fun u => { u with received := b * 4096 })).bodyReply 8 9
  | none =>
    let s := s.modUpd (fun u => { u with received := new })
    if new = s.bodyLen then ((s.modUpd (fun u => { u with session := 2 })).updRecord 2 s.spareSlot 0).bodyReply 0 0 else s.bodyReply 0 0
/-- R452: a channel 8 fault: the transfer is abandoned, RECEIVED returns to the start of the block. -/
def State.bodyHalted (s : State) : State :=
  let start := s.upd.received / 4096 * 4096
  let s := s.abandonCh 8
  ({ s with store := Memory.erase s.store (stagingBase + 4096 + start) (16773120 - start) }.modUpd
    (fun u => { u with received := start, session := if u.session = 2 then 1 else u.session })).bodyReply 7 14

/-- R452, steps 1 and 2: the body's hash, and the erase of the spare slot. -/
def State.updApply (r : HostReq) (s : State) : State :=
  let k := s.spareSlot
  let body := Memory.readBytes s.store (stagingBase + 4096) s.bodyLen
  if s.upd.session ≠ 2 ∨ s.upd.received ≠ s.bodyLen then s.updReject r 8
  else if sha256 body ≠ slice 104 32 s.upd.header then (s.updNote 7 11).updReject r 11
  else if (s.portOf (4096 * k)).isNone ∨ (s.portOf (4096 * k + 4095)).isNone then (s.updNote 7 14).updAnswer r 7 14
  else
    let mem := Memory.erase (Memory.erase s.store (slotBase k) ((s.resultLen + 4095) / 4096 * 4096)) (slotBase k + 4088 * 4096) 32768
    ({ s with store := mem }.modUpd (fun u =>
      { u with session := if u.enable then 3 else 4, applied := 0, block := 0, abortDue := false })).updAnswer r 0 0
/-- R452: application ends with a RESULT: record and host event; a new APPLY starts again from step 1. -/
def State.applyFails (result : Nat) (s : State) : State :=
  (s.modUpd (fun u => { u with session := 2, lastResult := result })).updNote 7 result
/-- R452, steps 4 to 6, after the last block. -/
def State.applyEnds (s : State) : State :=
  let k := s.spareSlot
  let s := { s with store := Memory.program s.store (slotBase k + 4088 * 4096) s.upd.header }
  if s.upd.applied ≠ s.resultLen then s.applyFails 12
  else if sha256 (s.imageBytes k s.resultLen) ≠ slice 72 32 s.upd.header then s.applyFails 13
  else ((s.programEntry k 1 0 0 0).modUpd (fun u => { u with session := 5 })).updNote 3 (fieldAt 12 4 s.upd.header)
/-- R448, R452: one body block is applied. -/
def State.applyBlock (s : State) : State :=
  let k := s.spareSlot
  let b := s.stagedBlock s.upd.block
  if !blockOk b then s.applyFails 9
  else match s.runOps (fieldAt 33 1 s.upd.header == 1) (fieldAt 24 4 (s.headerCopy s.upd.slot)) s.resultLen b 4096 0 s.upd.applied with
    | none => s.applyFails 12
    | some out =>
      let s := { s with store := Memory.program s.store (slotBase k + s.upd.applied) out }
      let s := s.modUpd (fun u => { u with applied := u.applied + out.length, block := u.block + 1 })
      if s.upd.abortDue then s.modUpd (fun u => { u with session := 0, abortDue := false })
      else if s.bodyLen ≤ 4096 * s.upd.block then s.applyEnds
      else if s.upd.enable then s
      else s.modUpd (fun u => { u with session := 4 })
/-- R452: the block in progress ends, or meets a store fault on channel 9. -/
def execApplyBlockComplete (fault : Nat) (s : State) : Host.Outcome State Fault Refusal :=
  .next (if s.upd.session ≠ 3 then s else if fault ≠ 0 then s.applyFails 14 else s.applyBlock)

/-- R449, R450: START: the TRIAL slot runs after a reset with cause UPDATE. -/
def State.updStart (r : HostReq) (s : State) : State :=
  if s.role ≠ .standby ∧ s.mode ≠ .surveyed ∧ s.mode ≠ .faultHold then s.updAnswer r 4 s.upd.lastResult
  else if s.slotState s.spareSlot ≠ 1 then s.updReject r 8
  else s.moduleReset cUpdate
/-- R455: a trial ends with a code: after an orderly stop where the module is armed, else at once. -/
def State.endTrial (code : Nat) (s : State) : State :=
  if s.inStates [.armed, .running, .stopping] then (s.modUpd (fun u => { u with endDue := code })).disarm
  else ({ s with ret := { s.ret with trialEnd := code } }).moduleReset cUpdate
/-- R449, R455: REJECT. -/
def State.updRejectTrial (r : HostReq) (s : State) : State :=
  if !s.upd.trial then s.updReject r 8
  else
    let t := s.endTrial 2
    if t.mode = .boot then t else t.updAnswer r 0 0
/-- R449, R452: ABORT. -/
def State.updAbort (r : HostReq) (s : State) : State :=
  (s.modUpd (fun u => if u.session = 3 then { u with abortDue := true } else { u with session := 0, abortDue := false })).updAnswer r 0 0
/-- R416, R449, R450: UPDATE. -/
def State.serveUpdate (r : HostReq) (s : State) : State :=
  let sub := fieldAt 0 1 r.payload
  let busy := s.upd.session == 3 || s.upd.session == 4
  if r.payload.length < 8 ∨ 6 < sub then s.answer 6 r 8 []
  else if sub = 6 then s.answer 6 r 0 (s.updPayload 6 s.upd.session)
  else if (sub ≤ 2 ∨ sub = 5) ∧ !s.inStates runtimeStates then s.updAnswer r 4 s.upd.lastResult
  else if sub = 5 then s.updAbort r
  else if busy then s.updAnswer r 6 s.upd.lastResult
  else match sub with
    | 0 => s.updHeader r
    | 1 => s.updBody r
    | 2 => s.updApply r
    | 3 => s.updStart r
    | _ => s.updRejectTrial r
/-- R455: the trial timer expires. -/
def execTrialTimerExpiry (s : State) : Host.Outcome State Fault Refusal := .next (if s.upd.trial then s.endTrial 1 else s)

/-- R454: the conditions of confirmation other than the count of frames. -/
def State.trialFit (s : State) : Bool :=
  !s.plat.recovery && s.healthy && allLegs.all (fun l => !s.populated l || (s.ring[l.val].stakeComplete && s.ring[l.val].available))
/-- R454: the lowest unrevoked update key, 4 where none is. -/
def State.lowestKey (s : State) : Nat := ([0, 1, 2, 3].find? (fun k => !s.fuses.updateRevoked.toList.getD k true)).getD 4
/-- R454, R456: keys below MIN_KEY are revoked. -/
def State.revokeBelow (minKey : Nat) (s : State) : State :=
  if minKey ≤ s.lowestKey then s
  else { s with fuses := { s.fuses with updateRevoked := Vector.ofFn (fun (i : Fin 4) => s.fuses.updateRevoked[i.val] || decide (i.val < minKey)) } }.updRecord
    9 s.upd.slot minKey
/-- R454: the trial is confirmed. -/
def State.confirmTrial (s : State) : State :=
  let k := s.upd.slot
  let gen (j : Nat) : Nat := match s.lastEntry j with
    | some e => e.gen
    | none => 0
  let g := max (gen 0) (gen 1) + 1
  let h := s.headerCopy k
  (((s.programEntry k 3 0 0 g).updRecord 5 k g).modUpd (fun u => { u with trial := false })).revokeBelow (fieldAt 30 2 h)
/-- R454: in W5 a frame counts towards the confirmation, or starts the count again. -/
def State.trialFrame (s : State) : State :=
  if !s.upd.trial || s.upd.endDue != 0 then s
  else
    let good := if s.role = .standby then s.twin.step == .inStep else !s.win.now.toList.any (fun b => b)
    let s := s.modUpd (fun u => { u with frames := if good then u.frames + 1 else 0 })
    if s.trialFit && decide (s.parN P.updTrialFrames ≤ s.upd.frames) then s.confirmTrial else s

end Sys2Proof.Machine
end

