-- ==== Sys2Proof/Machine/Serve.lean ====
section
/-! DEFINITION. Host requests as they are served (R98, R318, R410), and the events of the store's channels and ports with
what their owners do (R362 to R370, R374, R379, R385, R449). -/
namespace Sys2Proof.Machine

/-- Every item of a READ lies in one of some groups. -/
def readsOnly (groups : List Nat) (payload : List Byte) : Bool :=
  match itemList payload with
  | some is => is.all (fun i => groups.contains (i.1 / 2 ^ 24))
  | none => true
/-- R75, R98, R318, R410, R461: an operation outside what the unit serves in its state answers 4. -/
def State.scopeStatus (s : State) (op : Nat) (r : HostReq) : Nat :=
  let code := fieldAt 0 1 r.payload
  let ok :=
    if r.forwarded then true
    else if s.limited then
      (op == 1 && readsOnly [0x01, 0x03, 0x04] r.payload) || (op == 4 && [0x04, 0x30, 0x31].contains code) || op == 5 || op == 6 || op == 7
    else if s.mode == .load then op == 1 && readsOnly [0x01] r.payload
    else if s.role == .standby then op != 2 && !(op == 4 && code != 0x04) && !(op == 8 && code ≤ 1)
    else true
  if ok then 0 else 4
/-- R410: an operation that has passed the checks. -/
def State.serve (op : Nat) (r : HostReq) (s : State) : State :=
  match op with
  | 1 => s.serveRead r
  | 2 => s.serveWrite r
  | 3 => s.serveSubscribe r
  | 4 => s.serveCommand r
  | 5 => s.serveWindow r
  | 6 => s.serveUpdate r
  | 7 => s.serveEvents r
  | 8 => s.serveCan r
  | _ => s.answer op r 8 []
/-- R409, R410: a request, checked, sealed and executed at its place in sealed order. -/
def State.hostRequest (op : Nat) (r : HostReq) (s : State) : State :=
  let c := s.hostCheck op r
  if !c.2 then c.1
  else
    let st := c.1.scopeStatus op r
    if st ≠ 0 then c.1.answer op r st [] else c.1.serve op r
/-- A request of one sub-operation, or of a code that names none (which any of them may carry). -/
def State.subRequest (op at' : Nat) (codes : List Nat) (code : Nat) (r : HostReq) (s : State) : State :=
  let c := fieldAt at' 1 r.payload
  if c = code ∨ !codes.contains c then s.hostRequest op r else s

/-- R412: READ. -/
def execHostRead (r : HostReq) (s : State) : Host.Outcome State Fault Refusal := .next (s.hostRequest 1 r)
/-- R413: WRITE. -/
def execHostWrite (r : HostReq) (s : State) : Host.Outcome State Fault Refusal := .next (s.hostRequest 2 r)
/-- R414: SUBSCRIBE. -/
def execHostSubscribe (r : HostReq) (s : State) : Host.Outcome State Fault Refusal := .next (s.hostRequest 3 r)
/-- R415: EVENTS, read. -/
def execEventsRead (r : HostReq) (s : State) : Host.Outcome State Fault Refusal := .next (s.subRequest 7 0 [0, 1, 2] 0 r)
/-- R415: EVENTS, follow. -/
def execEventsFollow (r : HostReq) (s : State) : Host.Outcome State Fault Refusal := .next (s.subRequest 7 0 [0, 1, 2] 1 r)
/-- R415: EVENTS, unfollow. -/
def execEventsUnfollow (r : HostReq) (s : State) : Host.Outcome State Fault Refusal := .next (s.subRequest 7 0 [0, 1, 2] 2 r)
/-- R71: COMMAND ARM. -/
def execCommandArm (r : HostReq) (s : State) : Host.Outcome State Fault Refusal := .next (s.subRequest 4 0 commandCodes 0x01 r)
/-- R71: COMMAND DISARM. -/
def execCommandDisarm (r : HostReq) (s : State) : Host.Outcome State Fault Refusal := .next (s.subRequest 4 0 commandCodes 0x02 r)
/-- R255, R291: COMMAND RELEASE. -/
def execCommandRelease (r : HostReq) (s : State) : Host.Outcome State Fault Refusal := .next (s.subRequest 4 0 commandCodes 0x03 r)
/-- R68: COMMAND RESET. -/
def execCommandReset (r : HostReq) (s : State) : Host.Outcome State Fault Refusal := .next (s.subRequest 4 0 commandCodes 0x04 r)
/-- R76: COMMAND LAY_UP. -/
def execCommandLayUp (r : HostReq) (s : State) : Host.Outcome State Fault Refusal := .next (s.subRequest 4 0 commandCodes 0x05 r)
/-- R242, R418: COMMAND DISPATCH. -/
def execCommandDispatch (r : HostReq) (s : State) : Host.Outcome State Fault Refusal := .next (s.subRequest 4 0 commandCodes 0x10 r)
/-- R319: COMMAND SWAP. -/
def execCommandSwap (r : HostReq) (s : State) : Host.Outcome State Fault Refusal := .next (s.subRequest 4 0 commandCodes 0x20 r)
/-- R100: COMMAND PLAT_STAGE. -/
def execCommandPlatStage (r : HostReq) (s : State) : Host.Outcome State Fault Refusal := .next (s.subRequest 4 0 commandCodes 0x30 r)
/-- R100, R102: COMMAND PLAT_INSTALL. -/
def execCommandPlatInstall (r : HostReq) (s : State) : Host.Outcome State Fault Refusal := .next (s.subRequest 4 0 commandCodes 0x31 r)
/-- R408: COMMAND KEY_REVOKE. -/
def execCommandKeyRevoke (r : HostReq) (s : State) : Host.Outcome State Fault Refusal := .next (s.subRequest 4 0 commandCodes 0x40 r)
/-- R372, R449: the numbers of the sub-operations of WINDOW and of UPDATE. -/
def sevenCodes : List Nat := [0, 1, 2, 3, 4, 5, 6]
/-- R372: WINDOW READ. -/
def execWindowRead (r : HostReq) (s : State) : Host.Outcome State Fault Refusal := .next (s.subRequest 5 1 sevenCodes 0 r)
/-- R373: WINDOW WRITE. -/
def execWindowWrite (r : HostReq) (s : State) : Host.Outcome State Fault Refusal := .next (s.subRequest 5 1 sevenCodes 1 r)
/-- R372: WINDOW ERASE. -/
def execWindowErase (r : HostReq) (s : State) : Host.Outcome State Fault Refusal := .next (s.subRequest 5 1 sevenCodes 2 r)
/-- R372: WINDOW FLUSH. -/
def execWindowFlush (r : HostReq) (s : State) : Host.Outcome State Fault Refusal := .next (s.subRequest 5 1 sevenCodes 3 r)
/-- R372: WINDOW STATUS. -/
def execWindowStatus (r : HostReq) (s : State) : Host.Outcome State Fault Refusal := .next (s.subRequest 5 1 sevenCodes 4 r)
/-- R372: WINDOW RESUME. -/
def execWindowResume (r : HostReq) (s : State) : Host.Outcome State Fault Refusal := .next (s.subRequest 5 1 sevenCodes 5 r)
/-- R372: WINDOW ABANDON. -/
def execWindowAbandon (r : HostReq) (s : State) : Host.Outcome State Fault Refusal := .next (s.subRequest 5 1 sevenCodes 6 r)
/-- R446, R449: UPDATE HEADER. -/
def execUpdateHeader (r : HostReq) (s : State) : Host.Outcome State Fault Refusal := .next (s.subRequest 6 0 sevenCodes 0 r)
/-- R449: UPDATE BODY. -/
def execUpdateBody (r : HostReq) (s : State) : Host.Outcome State Fault Refusal := .next (s.subRequest 6 0 sevenCodes 1 r)
/-- R452: UPDATE APPLY. -/
def execUpdateApply (r : HostReq) (s : State) : Host.Outcome State Fault Refusal := .next (s.subRequest 6 0 sevenCodes 2 r)
/-- R449: UPDATE START. -/
def execUpdateStart (r : HostReq) (s : State) : Host.Outcome State Fault Refusal := .next (s.subRequest 6 0 sevenCodes 3 r)
/-- R455: UPDATE REJECT. -/
def execUpdateReject (r : HostReq) (s : State) : Host.Outcome State Fault Refusal := .next (s.subRequest 6 0 sevenCodes 4 r)
/-- R449: UPDATE ABORT. -/
def execUpdateAbort (r : HostReq) (s : State) : Host.Outcome State Fault Refusal := .next (s.subRequest 6 0 sevenCodes 5 r)
/-- R449: UPDATE STATUS. -/
def execUpdateStatus (r : HostReq) (s : State) : Host.Outcome State Fault Refusal := .next (s.subRequest 6 0 sevenCodes 6 r)
/-- R435: the numbers of the gateway's sub-operations. -/
def canCodes : List Nat := [0, 1, 2, 3, 4, 5]
/-- R435: CAN TX_LOAD. -/
def execCanTxLoad (r : HostReq) (s : State) : Host.Outcome State Fault Refusal := .next (s.subRequest 8 0 canCodes 0 r)
/-- R426: CAN TX_ABORT. -/
def execCanTxAbort (r : HostReq) (s : State) : Host.Outcome State Fault Refusal := .next (s.subRequest 8 0 canCodes 1 r)
/-- R435: CAN TX_STATUS. -/
def execCanTxStatus (r : HostReq) (s : State) : Host.Outcome State Fault Refusal := .next (s.subRequest 8 0 canCodes 2 r)
/-- R435: CAN RX_READ. -/
def execCanRxRead (r : HostReq) (s : State) : Host.Outcome State Fault Refusal := .next (s.subRequest 8 0 canCodes 3 r)
/-- R435: CAN RX_ACK. -/
def execCanRxAck (r : HostReq) (s : State) : Host.Outcome State Fault Refusal := .next (s.subRequest 8 0 canCodes 4 r)
/-- R435: CAN STATUS. -/
def execCanControllerStatus (r : HostReq) (s : State) : Host.Outcome State Fault Refusal := .next (s.subRequest 8 0 canCodes 5 r)

/-- The end of a descriptor, or a halt, as its owner takes it. -/
def State.ownEvent (e : ChEvent) (s : State) : State :=
  match e with
  | .quiet => s
  | .done c =>
    match c.val with
    | 2 => s.bookDone
    | 12 => s.eraseAheadDone.bookNext
    | 8 => s.bodyDone
    | 14 => s.windowReply 0 0
    | 15 => s.windowReply 1 0
    | _ => s
  | .halted c =>
    match c.val with
    | 2 => s.bookHalted
    | 12 => s.eraseAheadHalted
    | 8 => s.bodyHalted
    | 14 => s.windowReply 0 7
    | 15 => s.windowReply 1 7
    | _ => s
/-- R362, R366: a burst boundary of a path (0 SA, 1 SB, 2 the on-chip fabric); `cond` is a condition met at the page's
first touch: 0 none, 3 uncorrectable ECC, 7 an on-chip error. -/
def execDmaBurst (path : Fin 3) (cond : Nat) (s : State) : Host.Outcome State Fault Refusal :=
  let t := s.burstOn path cond
  .next (t.1.ownEvent t.2)
/-- R363: a program of a port completes, with pass or fail status. -/
def execFlashProgramComplete (port : Fin 2) (pass : Bool) (s : State) : Host.Outcome State Fault Refusal :=
  let t := s.programDone port pass
  .next (t.1.ownEvent t.2)
/-- R363: an erase of a port completes. -/
def execFlashEraseComplete (port : Fin 2) (pass : Bool) (s : State) : Host.Outcome State Fault Refusal :=
  let t := s.eraseDone port pass
  .next (t.1.ownEvent t.2)
/-- R368: the owner resumes a halted channel; after a port timeout `unit` is what the unit at PROGRESS reads back as. -/
def execDmaResume (ch : Fin 16) (unit : Nat) (s : State) : Host.Outcome State Fault Refusal :=
  let t := s.resumeCh ch unit
  .next (t.1.ownEvent t.2)
/-- R369: the owner abandons a halted descriptor. -/
def execDmaAbandon (ch : Fin 16) (s : State) : Host.Outcome State Fault Refusal := .next (s.abandonCh ch)
/-- R366, R370: a port gives no data or stays busy beyond its timeout. -/
def execPortTimeout (port : Fin 2) (s : State) : Host.Outcome State Fault Refusal :=
  if s.su.port[port.val].kind = 0 then .next s
  else
    let t := s.timeoutPort port
    .next (t.2.foldl (fun u e => u.ownEvent e) t.1)
/-- R370, R386: 1 ms after the JEDEC reset the port's ID is read. -/
def execPortRecovery (port : Fin 2) (ok : Bool) (s : State) : Host.Outcome State Fault Refusal := .next (s.recoverPort port ok).bookPort
/-- R374: a host window has been HALTED for 60 s. -/
def execWindowHaltTimeout (w : Fin 2) (s : State) : Host.Outcome State Fault Refusal :=
  .next (if s.su.ch[(winCh w).val].st = .halted then s.windowAbandon w else s)

end Sys2Proof.Machine
end

