-- ==== Sys2Proof/Machine/SelfTest.lean ====
section
/-! DEFINITION. Run-time self-test, key re-derivation and debug unlock (R462 to R470). -/
namespace Sys2Proof.Machine

/-- The state with its self-test part changed. -/
def State.modBist (f : SelfTest → SelfTest) (s : State) : State := { s with bist := f s.bist }
/-- R462, R471: the engine of a slice, as the INDEX of its records. -/
def engineOf (slice : Nat) : Nat :=
  if slice < 96 then 0 else if slice < 192 then 1 else if slice < 288 then 2 else if slice < 384 then 3 else if slice < 448 then 5
  else if slice < 480 then 6 else 4
/-- A SELF_TEST record (R471). -/
def State.bistRecord (code index : Nat) (value : Int) (s : State) : State := s.form 0x8801 code 119 index value 0
/-- R463: run-time BIST runs in this state. -/
def State.bistRuns (s : State) : Bool := s.inStates runtimeStates && !s.limited && s.bist.enable && !s.start.lastGasp
/-- R463: the slot is skipped; `busy` says that the engine has not finished its window work, or that a ring command or
frame falls in the slice of the sequencer core. -/
def State.slotSkipped (s : State) (busy : Bool) : Bool :=
  busy || (s.bist.slice ≥ 480 && s.mode == .stopping) ||
  (s.twinMember && (s.twin.final || s.twin.step == .dispute || s.twin.decided.isSome || s.twin.swapAt == some s.time.frame))
/-- R463: a slice has passed; the 512th ends a pass. -/
def State.slicePassed (s : State) : State :=
  let last := s.bist.slice == 511
  let time := s.fb.opMs - s.bist.passStart
  s.modBist (fun b => { b with
    slice := (b.slice + 1) % 512, retest := false
    passes := if last then incSat b.passes else b.passes
    lastPass := if last then time else b.lastPass
    passStart := if last then s.fb.opMs else b.passStart
    late := if last && decide (time ≤ s.parN P.passLimit * 1000) then false else b.late })
/-- R465: a fault in an engine is confirmed. -/
def State.engineFault (slice : Nat) (s : State) : State :=
  if slice < 480 then s.declareFault State.coreMemoryError
  else if s.sf.lockstep then s
  else ((s.modSf (fun f => { f with lockstep := true })).ioRecord 16 13 noIndex 0).declareFault (fun t => t)
/-- R465: a slice has failed; the second failure in a row confirms a fault. -/
def State.sliceFailed (s : State) : State :=
  let k := s.bist.slice
  let again := s.bist.retest
  let s := (s.modBist (fun b => { b with fails := incSat b.fails, retest := !again })).bistRecord 2 (engineOf k) k
  if again then (s.bistRecord 3 (engineOf k) k).engineFault k else s
/-- R463 to R465, R467: a slice in a slot frame: the keys are zeroised, an engine is scanned and restored. -/
def execBistSlice (busy sigOk : Bool) (s : State) : Host.Outcome State Fault Refusal :=
  if !s.bistRuns || s.time.frame % 20 != 13 || s.bist.inSlice then .next s
  else if s.slotSkipped busy then .next (s.modBist (fun b => { b with skipped := incSat b.skipped }))
  else
    let s := s.modBist (fun b => { b with run := 1, inSlice := true, keysValid := false })
    .next (if sigOk then s.slicePassed else s.sliceFailed)
/-- R49: the slice in progress has ended. -/
def State.endSlice (s : State) : State :=
  s.modBist (fun b => { b with inSlice := false, run := if b.run = 2 then 3 else b.run })
/-- R467: the requests held while KEYS_VALID was clear are checked now, in the order of their receipt. -/
def State.serveHeld (s : State) : State :=
  s.host.held.foldl (fun t p => t.hostRequest p.1 p.2) (s.modHost (fun h => { h with held := [] }))
/-- R467: re-derivation after a zeroise ends. -/
def execKeyRederivationComplete (ok : Bool) (s : State) : Host.Outcome State Fault Refusal :=
  if s.bist.keysValid || s.bist.keyFault || s.bist.debugOpen then .next s
  else if ok then .next ((s.modBist (fun b => { b with keysValid := true, rederiveFailed := false })).endSlice.serveHeld)
  else if s.bist.rederiveFailed then
    .next ((((s.modBist (fun b => { b with keyFault := true })).endSlice).bistRecord 5 8 0).serveHeld)
  else .next (s.modBist (fun b => { b with rederiveFailed := true }))
/-- R463: a pass takes longer than PASS_LIMIT. -/
def execBistPassLate (s : State) : Host.Outcome State Fault Refusal :=
  let time := s.fb.opMs - s.bist.passStart
  if s.bist.run ≠ 1 || s.bist.late || decide (time ≤ s.parN P.passLimit * 1000) then .next s
  else .next (((s.modBist (fun b => { b with late := true })).event 0x8801 4 119 noIndex time 0).bistRecord 4 noIndex time)
/-- R469: the signature over the challenge and the serial is good under a programmed, unrevoked update key. -/
def State.unlockOk (s : State) (sig : List Byte) : Bool :=
  let msg := Config.challenge s.start.powerCycles s.bist.challenges ++ leBytes 4 s.fuses.serial
  [0, 1, 2, 3].any (fun k => match s.updateKey k with
    | some key => Config.ed25519 key msg sig
    | none => false)
/-- R469, R470: a debug unlock attempt. -/
def execDebugUnlock (sig : List Byte) (s : State) : Host.Outcome State Fault Refusal :=
  if s.fuses.lifecycle ≠ 2 || decide (3 ≤ s.bist.attempts) || s.bist.debugOpen || s.inStates [.off, .boot, .plat, .laidUp] then .next s
  else
    let ok := (s.mode == .surveyed || s.mode == .faultHold) && s.par P.debugAllowed == 1 && s.unlockOk sig
    let s := s.modBist (fun b => { b with challenges := b.challenges + 1 })
    if ok then
      let s := (s.endSlice.modBist (fun b => { b with keysValid := false, debugOpen := true })).bistRecord 6 8 0
      .next s.enterFaultHold
    else .next ((s.modBist (fun b => { b with attempts := b.attempts + 1 })).bistRecord 7 8 0)

end Sys2Proof.Machine
end

