-- ==== Sys2Proof/Machine/Startup.lean ====
section
/-! DEFINITION. The start (R74, R75, R84, R94 to R102, R359, R460, R461, R482): BOOT to SURVEYED. -/
namespace Sys2Proof.Machine

/-- R408, R460: the start-up BIST ends; bit t of `failed` is target t of R460. The key store is loaded. -/
def execStartupBistComplete (failed : Nat) (s : State) : Host.Outcome State Fault Refusal :=
  if s.mode ≠ .boot || !s.start.imageOk || s.start.bistPassed || s.start.bistFailed ≠ 0 then .next s
  else
    let f := failed % 32
    .next { s with
      mode := .plat
      start := { s.start with bistPassed := f == 0, bistFailed := f, opAtBoot := s.fb.opMs }
      bist := { s.bist with keysValid := true } }

/-- R101: the plat slot of a copy. -/
def platBase (copy : Nat) : Nat := copy * platSlot
/-- R101: the staged copy, header and body. -/
def State.stagedCopy (s : State) : List Byte := Memory.readBytes s.store platStaging (96 + min s.stagedHeader.bodyLen 2097056)
/-- R101, R102: at PLAT with READY set the staged copy is programmed into its target; `readBack` is what then reads back. -/
def execPlatInstallProgram (readBack : List Byte) (s : State) : Host.Outcome State Fault Refusal :=
  match s.governing with
  | none => .next s
  | some e =>
    if s.mode ≠ .plat || !e.ready then .next s
    else if s.stagedHeader.serial ≠ e.serial ∨ s.stagedHeader.bodyHash.take 12 ≠ e.hash then
      let t := s.programInstall false e.target e.fails e.serial e.hash
      .next { t with plat := { t.plat with installFail := true } }
    else
      let copy := s.stagedCopy
      let base := platBase (e.target % 2)
      let flash := Memory.program (Memory.erase s.plat.flash base ((copy.length + 4095) / 4096 * 4096)) base readBack
      let s := { s with plat := { s.plat with flash := flash } }
      if readBack = copy then
        let t := s.programInstall false e.target e.fails e.serial e.hash
        .next { t with plat := { t.plat with installed := true } }
      else if e.fails = 0 then .next (s.programInstall true e.target 1 e.serial e.hash)
      else
        let t := s.programInstall false e.target e.fails e.serial e.hash
        .next { t with plat := { t.plat with installFail := true } }

/-- R95: the record of a start with FALLBACK, SERIAL_CLASH, RECOVERY or a failed copy. -/
def State.platRecord (s : State) : State :=
  let p := s.plat
  if p.fallback || p.clash || p.recovery || decide (2 ≤ p.result[0]) || decide (2 ≤ p.result[1]) then
    s.form 0x0301 (s.platStatus % 65536) 113 p.failType s.platSerial (p.stage + 256 * b2n s.installReady)
  else s
/-- R461: the record of a failed start-up test, once the book is open. -/
def State.bistStartRecord (s : State) : State :=
  if s.start.bistFailed = 0 then s else s.bistRecord 1 (if s.start.bistFailed % 4 ≠ 0 then 4 else 7) s.start.bistFailed
/-- R97: no copy is accepted: recovery. -/
def State.enterRecovery (s : State) : State :=
  ({ s with mode := .faultHold, plat := { s.plat with recovery := true, copy := 2 }, start := { s.start with reduced := true } }.platRecord).bistStartRecord
/-- R84: a read that has failed, and failed again in its one retry. -/
def readLost (r : ReadTry) : Bool := r.failed && r.retryFailed
/-- R84: a JEDEC ID that is a read failure. -/
def badJedec (id : Nat) : Bool := id == 0 || id == 0xFFFFFF
/-- R84: the command that reads the body of a copy. -/
def PlatHeader.command (h : PlatHeader) : Nat := if h.quad then 0x6B else 0x03
/-- R84, R94, R95: the JEDEC ID and the headers are read, each once more where the read fails. -/
def execPlatHeaderRead (jedec : JedecTry) (readA readB : ReadTry) (s : State) : Host.Outcome State Fault Refusal :=
  if s.mode ≠ .plat || s.installReady || !s.plat.candidates.isEmpty then .next s
  else
    let noId := badJedec jedec.first && badJedec jedec.again
    let h (c : Nat) : List Byte := Memory.readBytes s.plat.flash (platBase c) 96
    let code (c : Nat) (r : ReadTry) : Nat := if noId || readLost r then 2 else headerResult s.start.imageVersion (h c)
    let ca := code 0 readA
    let cb := code 1 readB
    let serial (c : Nat) (p : PlatHeader) : Option Nat := if c = 0 ∨ c = 5 ∨ c = 6 then some p.serial else none
    let pa := parseHeader (h 0)
    let pb := parseHeader (h 1)
    let both := ca == 0 && cb == 0
    let order := if both then (if pa.serial < pb.serial then [1, 0] else [0, 1]) else if ca = 0 then [0] else if cb = 0 then [1] else []
    let s := { s with plat := { s.plat with
      headers := #v[if ca = 0 then some pa else none, if cb = 0 then some pb else none]
      serials := #v[serial ca pa, serial cb pb]
      candidates := order
      result := #v[if ca = 0 then 1 else ca, if cb = 0 then 1 else cb]
      clash := both && pa.serial == pb.serial && pa.bodyHash != pb.bodyHash } }
    .next (if order.isEmpty then s.enterRecovery else s)

/-- R64: required capacitance in units of 1/206,550 µF. -/
def State.holdupNeed (s : State) : Int :=
  (2500000 * 85 + (3300 * s.par P.vio33LoadMa + 1800 * s.par P.vio18LoadMa) * 100) * 12
/-- R64: the declared capacitance is below what the exported loads require: the warning record. -/
def State.checkHoldup (s : State) : State :=
  let short := decide (s.par P.holdupUf * 206550 < s.holdupNeed)
  if short then s.form 0x0403 0 0 noIndex (s.par P.holdupUf) (roundDiv s.holdupNeed 206550) else s
/-- R359: the mapped capacity against the regions. -/
def State.checkStore (s : State) : State :=
  let total := s.portPages 0 + s.portPages 1
  s.modSu (fun u => { u with short := decide (total < fbStart + s.fbPages), truncated := decide (total < 65536) })
/-- R32 to R40: what record 0x0201 sets of the sample grid (log 10). -/
def State.loadGrid (s : State) : State :=
  let sync := Config.syncField (((findRec s.plat.recs 0x0201 0xFF).map PlatRec.data).getD []) (((findRec s.plat.recs 0x0281 0xFF).map PlatRec.data).getD [])
  s.modGrid (fun g => { g with
    due := some (platFreq s.plat.recs, sync 1 % 3600), phase := sync 1 % 3600, phaseMin := sync 2, phaseMax := sync 3
    syncinEnable := sync 4 % 2 == 1, syncinPlat := sync 4 % 2 == 1, syncoutMode := sync 5 % 3 })
/-- R99: the accepted copy differs from the archive copy and waits to be archived. -/
def State.archiveDiffers (s : State) : Bool :=
  let archive := Memory.readBytes s.store (13824 * 4096) 96
  s.par P.archiveEnable == 1 && (match s.plat.header with
    | some h => headerResult s.start.imageVersion archive != 0 || (parseHeader archive).bodyHash != h.bodyHash
    | none => false)
/-- R12, R103: the start values of the plat. -/
def State.loadStarts (s : State) : State :=
  { s with
    layup := { s.layup with timer := s.parN P.layupTimer }
    probeEnable := s.parN P.probeEnable, natEnable := s.par P.natStepEnable == 1
    str := { s.str with timeout := s.parN P.dispatchTimeout, running := s.parN P.mode }
    therm := { s.therm with valveSp := Vector.ofFn (fun (i : Fin 4) => s.par P.valveSp 0xFF i.val) }
    upd := { s.upd with enable := s.par P.updUpdateEnable == 1, trialLimit := if s.upd.trial then s.parN P.updTrialTime else s.upd.trialLimit }
    net := { s.net with ptp := { s.net.ptp with lan := if s.par P.ptpLan = 1 then 1 else 0 } }
    ring := Vector.ofFn (fun (l : Fin 4) => { s.ring[l.val] with available := s.populated l })
    fb := { s.fb with mb := s.parN P.fbMb }
    su := { s.su with archiveDue := s.archiveDiffers } }
/-- R431: the controllers that the plat enables start. -/
def State.startCans (s : State) : State :=
  allCans.foldl (fun t c => if t.par P.canEnable c.val = 1 then (t.modCan c (fun x => { x with enable := true })).canStart c else t) s
/-- R71, R75: LOAD is entered with an accepted plat. -/
def State.enterLoad (s : State) : State := ({ s with mode := .load }.loadGrid.loadStarts.lockComparators).startCans
/-- R64, R71, R359, R461: the end of PLAT with an accepted copy. -/
def State.platAccepted (s : State) : State :=
  let s := s.platRecord.checkStore.checkHoldup
  if s.start.bistFailed ≠ 0 then ({ s with mode := .faultHold, start := { s.start with reduced := true } }).bistStartRecord
  else if s.su.short then { s with mode := .faultHold }
  else s.enterLoad
/-- R95: the copy of a candidate is accepted. -/
def State.acceptCopy (c : Nat) (h : PlatHeader) (r : BodyResult) (s : State) : State :=
  let lower := s.plat.headers.toList.zipIdx.any (fun x => match x.1 with
    | some q => x.2 != c && decide (2 ≤ s.plat.result.toList.getD x.2 0) && decide (h.serial < q.serial)
    | none => false)
  { s with plat := { s.plat with
    copy := c, header := some h, recs := r.recs, skipped := r.skipped, candidates := [], fallback := lower
    result := s.plat.result.setIfInBounds c 0 } }.platAccepted
/-- R84, R95, R96: the body of the candidate in hand has been read, once more where the read failed, and is checked. -/
def execPlatBodyCheck (read : ReadTry) (s : State) : Host.Outcome State Fault Refusal :=
  if s.mode ≠ .plat then .next s
  else match s.plat.candidates with
    | [] => .next s
    | c :: rest =>
      let h := (s.plat.headers.toList.getD c none).getD (parseHeader [])
      let body := Memory.readBytes s.plat.flash (platBase c + 96) h.bodyLen
      let r := bodyResult (fun id => (State.reset.object id).isSome) h body
      let s := { s with plat := { s.plat with bodyCommand := h.command } }
      let code := if readLost read then 2 else r.code
      if code = 0 then .next (s.acceptCopy c h r)
      else
        let s := { s with plat := { s.plat with
          result := s.plat.result.setIfInBounds c code, failType := if readLost read then 0 else r.failType
          candidates := if h.noFallback then [] else rest } }
        .next (if h.noFallback || rest.isEmpty then s.enterRecovery else s)

/-- R75: a start-up state exceeds its limit. -/
def execStateLimitExpiry (s : State) : Host.Outcome State Fault Refusal :=
  if !s.inStates [.boot, .plat, .load, .staking] || (s.mode == .boot && s.start.noImage) then .next s
  else .next ({ s with start := { s.start with limitExpired := some s.mode } }).enterFaultHold

/-- R482: length of the run of free intervals that begins at interval a, cyclically, 16 at most. -/
def freeRun (busy a : Nat) : Nat → Nat
  | 0 => 0
  | n + 1 => if bitAt busy (a % 16) then 0 else 1 + freeRun busy (a + 1) n
/-- R482: the sampling phase for the busy intervals of an input: the centre of the longest free run; 17: training failed. -/
def phaseFor (busy : Nat) : Nat :=
  let runs := (List.range 16).map (fun a => (freeRun busy a 16, a))
  let best := runs.foldl (fun m x => if m.1 < x.1 then x else m) (0, 0)
  if best.1 < 8 then 17 else (best.2 + best.1 / 2) % 16
/-- R482: MCK has run for 10 ms in LOAD: bit k of an input's word is its busy interval k. -/
def execMckPhaseTraining (busy : Vector Nat 20) (s : State) : Host.Outcome State Fault Refusal :=
  if s.mode ≠ .load then .next s
  else .next { s with start := { s.start with
    mckPhase := Vector.ofFn (fun (i : Fin 20) => if s.start.mckPhase[i.val] = 16 then phaseFor busy[i.val] else s.start.mckPhase[i.val]) } }
/-- R482: the inputs that the start needs are trained. -/
def State.phasesTrained (s : State) : Bool :=
  (List.finRange 20).all (fun i => decide (s.start.mckPhase[i.val] < 16) || decide (18 ≤ i.val) ||
    (decide (i.val < 16) && !s.populated (ix4 (i.val / 4))))
/-- R71, R75: the engines are loaded and verified, and station code runs on every reachable station. -/
def execLoadComplete (s : State) : Host.Outcome State Fault Refusal :=
  let legs := allLegs.all (fun l => !s.populated l || s.role == .standby || s.ring[l.val].loaded || !s.ring[l.val].available)
  .next (if s.mode = .load ∧ s.linkUp ∧ s.base.enginesLoaded ∧ s.phasesTrained ∧ legs then ({ s with mode := .staking } : State).beginStaking else s)
/-- R74: a leg is staked completely with hop delays measured, or marked unavailable. -/
def State.legResolved (s : State) (leg : Leg) : Bool :=
  !s.populated leg || !s.ring[leg.val].available || (s.ring[leg.val].stakeComplete && s.hopsWhole leg)
/-- R74: an available leg has its first rounds, checks and offset. -/
def State.legReady (s : State) (leg : Leg) : Bool :=
  !s.ring[leg.val].available || (s.start.firstTemps[leg.val] && s.start.firstClosure[leg.val] && s.start.offsetsDone[leg.val])
/-- R74, R281, R463: SURVEYED, or FAULT-HOLD where no leg is available. -/
def execSurveyedEntry (s : State) : Host.Outcome State Fault Refusal :=
  if s.mode ≠ .staking || !allLegs.all (fun l => s.legResolved l) then .next s
  else if !allLegs.any (fun l => s.ring[l.val].available) then .next s.enterFaultHold
  else if !s.start.learnedRead || !allLegs.all (fun l => s.legReady l) then .next s
  else .next { s with
    mode := .surveyed
    sf := { s.sf with tps := Vector.replicate 4 true }
    bist := { s.bist with run := if s.bist.enable then 1 else 3, passStart := s.fb.opMs } }

end Sys2Proof.Machine
end

