-- ==== Sys2Proof/Machine/Windows.lean ====
section
/-! DEFINITION. The Datum frame: its boundary (R34, R35, R42, R48 to R50), its windows W0 to W5 (R41, R43), their
overruns (R44 to R47), and the end of a drain (R49). -/
namespace Sys2Proof.Machine

/-- Frames run: the module is out of OFF and LAID-UP (R36, R51). -/
def State.framed (s : State) : Bool := !s.inStates [.off, .laidUp]
/-- R62: the windows work; in last-gasp nothing but its own sequence runs. -/
def State.windowed (s : State) : Bool := s.framed && !s.start.lastGasp
/-- R75, R97, R461: the safety pair works, from SURVEYED on, with a full load. -/
def State.safetyRuns (s : State) : Bool :=
  s.windowed && !s.start.reduced && !s.sf.lockstep && s.inStates [.surveyed, .armed, .running, .stopping, .faultHold]
/-- R75, R97, R307: the application engines compute: loaded, in an active unit or an in-step standby, without a Baseline
loss (R26). -/
def State.enginesRun (s : State) : Bool :=
  s.windowed && !s.start.reduced && !s.base.coreLost && (s.role == .active || (s.role == .standby && s.twin.step.paired)) &&
  s.inStates [.staking, .surveyed, .armed, .running, .stopping, .faultHold]

/-- R44, R45: what the windows keep across a frame boundary. -/
def Windows.endFrame (w : Windows) : Windows :=
  { w with
    since := Vector.ofFn (fun (i : Fin 6) => if w.now[i.val] then 0 else min 10 (w.since[i.val] + 1))
    safetyRun := if w.now[0] || w.now[1] then w.safetyRun else 0
    now := Vector.replicate 6 false, w2Done := false }
/-- R33, R38: the accepted plat's switching frequency takes the grid over at a frame boundary, so that every frame has whole
periods of one length, and its phase offset is reached by slewing (log 263). -/
def State.takeGrid (s : State) : State :=
  match s.grid.due with
  | none => s
  | some d => (s.modGrid (fun g => { g with freq := d.1, due := none, sample := 0 })).setPhase d.2
/-- R34, R35, R40, R382: the frame that ends gives way to the next: its number, its stamp, the field die's copy of the
Meridian, SYNCOUT at frame boundaries, the operating time. -/
def State.beginFrame (s : State) : State :=
  let s := State.finishFrame (s.nSamples - s.grid.sample) s
  let joined := s.base.supervised && !s.base.coreLost && !s.base.fieldLost
  let s := s.modTime (fun t =>
    { t with frame := (t.frame + 1) % 2 ^ 32, frameStamp := s.grid.stamp
             fieldCopy := if joined then s.grid.stamp else t.fieldCopy, copyAt := if joined then s.grid.stamp else t.copyAt })
  let s := s.takeGrid
  let pulse := s.grid.syncoutMode == 1 && s.syncoutDriven
  let s := s.modGrid (fun g => { g with syncoutPulses := if pulse then (g.syncoutPulses + 1) % 2 ^ 32 else g.syncoutPulses })
  { s with win := s.win.endFrame, fb := { s.fb with opMs := s.fb.opMs + 1 } }
/-- R251: the overload factor of a leg after a frame. -/
def LegConv.derate (step : Nat) (c : LegConv) : LegConv :=
  if c.overload then { c with ovlDerate := true, kOvl := c.kOvl - step }
  else { c with kOvl := min 1000000 (c.kOvl + step), ovlDerate := c.ovlDerate && decide (c.kOvl + step < 1000000) }
/-- R143: distances that replace table values from this boundary. -/
def Ring.takeDistances (r : Ring) : Ring :=
  r.distDue.foldl (fun q d =>
    if d.1 then { q with distB := insertKey d.2.1 d.2.2 q.distB } else { q with distA := insertKey d.2.1 d.2.2 q.distA }) { r with distDue := [] }
/-- R42: a new seal: no round of it is known yet. -/
def LegDiag.seal (d : LegDiag) : LegDiag := { d with sealed := [] }
/-- R50: an enable held during a drain takes effect once the leg has drained; a stop cancels it. -/
def State.resumeLeg (leg : Leg) (s : State) : State :=
  let c := s.conv[leg.val]
  if !c.heldEnable || c.st == .draining then s
  else if c.st = .disabled ∧ (s.mode = .armed ∨ s.mode = .running) then
    s.modConv leg (fun c => { c with heldEnable := false, enabled := true, st := .waitBus })
  else s.modConv leg (fun c => { c with heldEnable := false })
/-- R48 to R50, R76: host writes of the sealed frame take effect, functions whose drain has ended resume, and the laid-up
sequence begins. -/
def State.takeWrites (s : State) : State :=
  let s := s.applyWrites
  let s := (allLegs.foldl (fun t l => t.resumeLeg l) s).enterRunning
  let s := allCans.foldl (fun t c => t.canBoundary c) s
  let s := allAxes.foldl (fun t i => (t.modAxis i Axis.boundary).takeTarget i) s
  { s with bist := { s.bist with run := if s.bist.run = 3 ∧ s.bist.enable then 1 else s.bist.run } }.beginLayup
/-- R231: a new offset of a current channel applies from the boundary after the frame of its calibration. -/
def State.takeOffsets (s : State) : State :=
  let due := s.mdOffsetDue.filter (fun d => decide (d.2.2 < s.time.frame))
  { s with
    mdOffset := due.foldl (fun v d => v.setIfInBounds d.1 d.2.1) s.mdOffset
    mdOffsetDue := s.mdOffsetDue.filter (fun d => !decide (d.2.2 < s.time.frame)) }
/-- R303, R308, R309, R316: what a twin does at a frame boundary: the time message, the announcement with the read-back, the release
of TAKEOVER_N from which the standby is eligible, and the end of a join that a stop, a mode change or a swap has met. -/
def State.twinBoundary (s : State) : State :=
  if !s.twinMember then s
  else
    let mine := s.win.w2Done
    let peer := s.twin.peerW2 == some true
    let free : Bool := match s.twin.releaseAt with
      | some f => decide (f ≤ s.time.frame)
      | none => false
    let s := s.modTwin (fun w =>
      { w with w2Prev := if s.isActive then (mine, peer) else (peer, mine), peerW2 := none
               takeoverOut := w.takeoverOut && !free, degraded := w.degraded && !free, releaseAt := if free then none else w.releaseAt })
    let s := if s.isActive && !s.acceptsJoin then s.abandonJoin else s
    (if s.isActive then s.twinSend 0 (.time s.time.frameStamp) else s).twinSend 3 (.status s.announce)
/-- R306: an in-step standby takes its frame inputs from the bundle of the active unit alone. -/
def State.bundled (s : State) : Bool := s.role == .standby && s.twin.step.paired
/-- R34, R42, R175: what the field die does at a frame boundary on its own: it latches its values, advances an autonomous stop
(R25), and while the Baseline runs hands image, bundle and trains to it. -/
def State.fieldBoundary (l : FieldLatch) (s : State) : State :=
  let s := (s.latchField l).autonomyBoundary
  if s.linkRuns then (s.boundaryFlits l.readback).latchTrains else s
/-- R34, R35, R42, R48: a frame boundary. `l` is what the field die latches: R21 classes 0 and 2, the accumulators as
increments since the last latch. The core die's frame inputs follow at the seal (R28). -/
def execFrameBoundary (l : FieldLatch) (s : State) : Host.Outcome State Fault Refusal :=
  if !s.framed then .next s
  else
    let s := (s.twinBoundary).beginFrame
    if s.start.lastGasp then .next s
    else
      let s := s.fieldBoundary l
      let s := allLegs.foldl (fun t g =>
        (t.modConv g (LegConv.derate (t.parN P.ovlStep g.val))).modRing g Ring.takeDistances) s
      .next s.takeOffsets.takeWrites

/-- R306: the latch of this frame as an active unit forwards it. -/
def State.forwardLatch (s : State) : FieldLatch :=
  { accSum := Vector.ofFn (fun (i : Fin 4) => wrap64 (s.eleg[i.val].acc - s.eleg[i.val].accPrev))
    accN := Vector.ofFn (fun (i : Fin 4) => (wrap64 ((s.eleg[i.val].n : Int) - s.eleg[i.val].nPrev)).toNat)
    md := s.lat.md, ntc := s.lat.ntc, die := s.lat.die, vmot := s.lat.vmot, fbk := s.sf.imgFbk, readback := s.sf.imgReadback }
/-- R306: the further entries whose bytes the module keeps: telegram copies (source 86) and CAN receptions (96 + n) of the
seal, in the order of R55. Trains have a place of their own in the bundle, host messages reach a standby by their own commands. -/
def State.forwardEntries (s : State) : List SealEntry :=
  sortBy (fun e => e.stamp * 256 + e.source)
    ((s.sf.tgCopies.filter (fun c => c.sealed)).map (fun c => { typ := 2, source := 86, stamp := c.stamp, data := leBytes 1 c.lan ++ c.body }) ++
     s.canSealed.map (fun p => { typ := 3, source := 96 + p.1, stamp := p.2.2, data := leBytes 4 p.2.1.id ++ p.2.1.data }))
/-- R306: the place in R55 order of the first entry beyond SEAL_ADMIT, if there is one. -/
def firstBeyond : Nat → List (Nat × Nat) → Option Nat
  | _, [] => none
  | left, e :: es => if e.2 ≤ left then firstBeyond (left - e.2) es else some e.1
/-- R306: in a twin, the telegrams and CAN receptions from this place on in R55 order move to the next frame's seal: trains come
first, and always belong to the frame that latched them (R42). -/
def State.sealCut (s : State) : Option Nat :=
  if !s.twinMember || !s.isActive then none
  else
    let trains := ((s.sealTrains s.base.inbox).map (fun x => 12 + (x.train.taken.map (fun k => k.2.bytes.length)).sum)).sum
    let telegrams := (s.sf.tgCopies.filter (fun c => !c.sealed)).map (fun c => (c.stamp * 256 + 86, 13 + c.body.length))
    let frames := s.canNew.map (fun p => (p.2.2 * 256 + 96 + p.1, 16 + p.2.1.data.length))
    firstBeyond (1024 * s.parN P.sealAdmit - trains) (sortBy (fun e => e.1) (telegrams ++ frames))
/-- R21, R28: what has been released to the core die since its last seal becomes the frame's inputs. -/
def State.takeInput (p : Payload) (s : State) : State :=
  match p with
  | .image sfi fbk readback => s.takeImage sfi fbk readback
  | .bundle x => s.sealBundle x
  | .train leg serial => s.takeTrain leg serial
  | .bytes _ | .setPoint _ _ _ _ | .sampleCopy _ _ _ _ | .outputs _ _ | .ringFrame _ _ _ _ | .microcode _ => s
/-- R284, R292, R325: the checks of the values of a frame's inputs. -/
def State.checkLatched (s : State) : State := (s.takeNtc.countTach s.lat.tach).safetyBoundary
/-- R28, R306: the seal of the field die's inputs; a standby in step takes the active unit's instead, a core die that has
declared the loss none (R26). -/
def State.sealField (s : State) : State :=
  let inbox := s.base.inbox
  let s := { s with base := { s.base with inbox := [] } }
  if s.base.coreLost || s.bundled then s else (inbox.foldl (fun t p => t.takeInput p) s).checkLatched
/-- R28, R42, R306: the seal instant, 20 µs into the frame: inputs already released are the frame's inputs; the cell table goes
to the safety pair's mailbox (R16); an active unit forwards its seal. -/
def execWindowW0Seal (s : State) : Host.Outcome State Fault Refusal :=
  if !s.windowed then .next s
  else
    let s := s.at' s.sealStamp
    let cut := s.sealCut
    let s := (s.canSeal cut).sealTelegrams cut
    let trains := s.sealTrains s.base.inbox
    let s := (allLegs.foldl (fun t g => t.modDiag g LegDiag.seal) s).sealField.postMail
    let s := { s with host := { s.host with admitted := 0 } }
    .next (if s.isActive then
        s.twinSend 4 (.bundle { frame := s.time.frame, stamp := s.time.frameStamp, sfi := s.sf.imgSfi, latch := s.forwardLatch
                                w2 := s.twin.w2Prev, trains := trains, entries := s.forwardEntries, crcOk := true })
      else s)
/-- R306: the seal bundle of the active unit becomes the standby's frame inputs, its trains among them; its further entries take
effect through their own commands. -/
def execSealBundleReceived (b : SealBundle) (s : State) : Host.Outcome State Fault Refusal :=
  if s.role ≠ .standby ∨ !b.crcOk ∨ b.frame ≠ s.time.frame then .next s
  else
    let s := ((s.takeBundle b.latch).takeImage b.sfi b.latch.fbk b.latch.readback).modSf (fun f => { f with fbk := b.latch.fbk })
    let s := (b.trains.foldl (fun t x => t.takeSealedTrain x) s).postMail
    .next (s.modTwin (fun w => { w with sealed := b.frame })).checkLatched

/-- R41, R45, R289, R290: the safety evaluation, and the permit frame. A safety pair that lockstep has stopped does nothing;
one that runs only the stop evaluation and the envelope monitoring schedules no dark tests (R45). -/
def execWindowW1Safety (s : State) : Host.Outcome State Fault Refusal :=
  if !s.safetyRuns then .next s
  else
    let s := s.judge
    let s := { s with diag := s.diag.map (fun (d : LegDiag) => { d with sealed := [] }) }
    let s := s.stopOpens
    .next (if s.win.stopOnly then s else s.scheduleDark).sendPermit

/-- The readings of one round on a cell whose further history stands (R147, R148). -/
def Cell.withReading (r c : Cell) : Cell :=
  { c with v := r.v, invalid := r.invalid, late := r.late, bleedNear := r.bleedNear, stale := r.stale, corrected := r.corrected,
           held := r.held, bledRound := r.bledRound }
/-- R42: work on the cell table as a sealed round left it, where later rounds have been sealed too. -/
def State.withRound (leg : Leg) (r : SealedRound) (f : State → State) (s : State) : State :=
  let keys := (s.legKeys leg).map (fun k => k.2.2)
  let now := keys.map (fun k => (k, s.cell k))
  let lay (xs : List (Nat × Cell)) (t : State) : State := xs.foldl (fun u x => u.modCell x.1 (Cell.withReading x.2)) t
  lay now (f (lay r.cells s))
/-- R157 to R159, R169, R182, R192: one sealed round of a leg. -/
def State.takeOne (leg : Leg) (u : RoundInfo) (s : State) : State :=
  let s := s.closureCheck leg u
  let s := (if u.regular then s.openWires leg u else s).keepReads leg u
  s.takeRound leg u
/-- R157 to R159, R182: the sealed rounds of a leg, oldest first, are taken up by the W2 that follows their seal. -/
def State.takeSealed (leg : Leg) (s : State) : State :=
  let rounds := s.diag[leg.val].w2Due
  (rounds.foldl (fun t r => t.withRound leg r (fun u => u.takeOne leg r.info)) s).modDiag leg (fun d => { d with w2Due := [] })
/-- R175 to R185: counting, predictions, rounds, extractions, and SOC of the string. -/
def State.estimate (s : State) : State :=
  let s := allLegs.foldl (fun t l => t.predictRounds l) s
  let s := allLegs.foldl (fun t l => t.countLeg l) s
  let s := allLegs.foldl (fun t l => t.takeSealed l) s
  s.extractAll.socSums
/-- R200 to R208: limits of the legs and of the string; a frame of 1 ms is 250,000 ticks. -/
def State.computeLimits (s : State) : State :=
  let s := allLegs.foldl (fun t l => t.legLimits 250000 l) s
  let s := s.stringLimits 250000
  allLegs.foldl (fun t l => t.enforce l) s
/-- R46: W2 has completed: what was frozen follows the new limits again. -/
def Windows.complete2 (w : Windows) : Windows := { w with frozen := false, w2Run := 0, w2Done := true }
/-- R200, R214, R215, R327: the work of W2. -/
def State.work2 (s : State) : State := s.estimate.computeLimits.energyTime.warnings.thermalThresholds
/-- R308: W2 has completed in this unit, and not in the peer. -/
def State.diverged2 (s : State) : Bool := s.twin.step.paired && s.twin.peerW2 == some false
/-- R41, R46, R200: estimation and limits. A W2 that has overrun in this frame is not made up. -/
def execWindowW2Estimation (s : State) : Host.Outcome State Fault Refusal :=
  if !s.enginesRun || s.win.now[2] then .next s
  else
    let s := ({ s with win := s.win.complete2 }.work2).twinSend 3 (.w2 true)
    .next (if s.diverged2 then s.diverge else s)
/-- R41, R186, R240, R241, R432: message maps, steering, dispatch and the probe schedule. -/
def execWindowW3Dispatch (s : State) : Host.Outcome State Fault Refusal :=
  if !s.windowed then .next s
  else
    let s := s.canMapApply
    .next (if s.enginesRun then s.steer.takeRequest.commitProbes else s)
/-- R17, R41, R332, R410, R415, R434: the words of the next frame, the duties, CAN messages, host events and responses. -/
def execWindowW4Outputs (s : State) : Host.Outcome State Fault Refusal :=
  if !s.windowed then .next s
  else
    let s := if s.enginesRun then s.writeWords.setFans else s
    .next s.canChanges.sendEvents.sendReplies
/-- R99: the accepted plat is copied into the archive region. -/
def State.archivePlat (s : State) : State :=
  let up : Bool := match s.portOf 13824 with
    | some p => s.su.port[p.val].up && !s.su.port[p.val].down
    | none => false
  match s.plat.header with
  | some h =>
    if !s.su.archiveDue || !up then s
    else
      let bytes := Memory.readBytes s.plat.flash (platBase s.plat.copy) (headerLen + h.bodyLen)
      { s with store := Memory.program (Memory.erase s.store (13824 * 4096) platSlot) (13824 * 4096) bytes, su := { s.su with archiveDue := false } }
  | none => s
/-- R310: the frame words go to the peer at 850 µs and are kept for the comparison. -/
def State.sendFrameWords (s : State) : State :=
  if s.twin.step.paired then
    (s.twinSend 3 (.frameWords s.frameWords)).modTwin (fun w => { w with ownFrame := some s.frameWords })
  else s
/-- R41, R99, R310, R383, R454: frame words, the records of the frame and their programming, the archive, the trial. -/
def execWindowW5Store (s : State) : Host.Outcome State Fault Refusal :=
  if !s.windowed then .next s
  else
    let s := s.sendFrameWords
    let s := (s.modFb FieldBook.takeFormed).bookNext
    .next s.archivePlat.trialFrame

/-- R46: in the ninth frame in a row every limit moves towards zero by a step of the stop slope. -/
def State.rampLimits (s : State) : State :=
  let di := s.riseMa 250000
  let down (step : Int) (v : Vector Int 4) : Vector Int 4 := v.map (fun x => max 0 (x - step))
  let sum : Int := (allLegs.map (fun l => s.riseW l 250000)).sum
  let legs := Vector.ofFn (fun (i : Fin 4) =>
    let l := s.llim[i.val]
    let l := { l with disI := down di l.disI, chgI := down di l.chgI
                      disP := down (s.riseW i 250000) l.disP, chgP := down (s.riseW i 250000) l.chgP }
    { l with enfDis := enforced l.disI l.budDis, enfChg := enforced l.chgI l.budChg })
  { s with llim := legs, slim := { s.slim with disP := down sum s.slim.disP, chgP := down sum s.slim.chgP } }
/-- R45, R313: a safety window has overrun; in a second consecutive frame the safety pair demands a category 1 stop, or
the unit of a twin declares its own fault. -/
def State.safetyOverrun (first : Bool) (s : State) : State :=
  let n := if first then s.win.safetyRun + 1 else s.win.safetyRun
  let s := { s with win := { s.win with safety := true, safetyRun := n, stopOnly := s.win.stopOnly || decide (2 ≤ n) } }
  if first && decide (n = 2) then s.declareFault (fun t => t.trigger 10 2 true) else s
/-- R46, R308: W2 has overrun: the limits of the previous frame stand, and ramp from the ninth frame on. -/
def State.estimationOverrun (s : State) : State :=
  let s := { s with win := { s.win with frozen := true, w2Run := s.win.w2Run + 1 } }
  let s := if 9 ≤ s.win.w2Run then s.rampLimits else s
  let s := s.twinSend 3 (.w2 false)
  if s.twin.step.paired ∧ s.twin.peerW2 = some true then s.diverge else s
/-- R44 to R47: a window has overrun, having used `engineUs` of its engine. -/
def execWindowOverrun (w : Fin 6) (engineUs : Nat) (s : State) : Host.Outcome State Fault Refusal :=
  if !s.windowed || s.win.now[w.val] then .next s
  else
    let first := !s.win.now[0] && !s.win.now[1]
    let quiet := decide (10 ≤ s.win.since[w.val])
    let s := { s with win := { s.win with count := vmod s.win.count w incSat, now := vmod s.win.now w (fun _ => true), any := true } }
    let s := if quiet then s.form 0x0202 w.val 25 noIndex s.win.count[w.val] engineUs else s
    .next (if w.val ≤ 1 then s.safetyOverrun first else if w.val == 2 && s.enginesRun then s.estimationOverrun else s)

/-- R48 to R50: the last unit of a disabled function completes: it reports DISABLED; a held enable waits for the next
frame boundary. -/
def execFunctionDrainComplete (fn : DrainFn) (s : State) : Host.Outcome State Fault Refusal :=
  .next (match fn with
    | .leg l => s.endDrain l
    | .probe p => if s.probe[p.val].phase = .idle then s.modProbe p (fun q => { q with draining := false }) else s
    | .balancing l =>
      if s.ring[l.val].due.any (fun d => d.cmd == 0x20) then s else s.modDiag l (fun d => { d with draining := false })
    | .axis i => s.modAxis i (fun a => if a.st = .stopping ∧ !a.enable ∧ a.v = 0 then { a with st := .disabled } else a)
    | .can c => s.canDrained c
    | .dma c => s.modCh c (fun x => if x.st = .draining ∧ !x.issued then { x with st := .disabled, buffer := [] } else x)
    | .update => s.modUpd (fun u => if u.session = 3 ∧ !u.enable then { u with session := 4 } else u)
    | .bist => s.modBist (fun b => if b.run = 2 ∧ !b.inSlice then { b with run := 3 } else b))

end Sys2Proof.Machine
end

