-- ==== Sys2Proof/Machine/Dispatch.lean ====
section
/-! DEFINITION. The dispatcher: one arm per command. -/
namespace Sys2Proof.Machine

def exec (i : Instr) (s : State) : Host.Outcome State Fault Refusal :=
  match i with
  | .powerOnRelease v => Sys2Proof.Machine.execPowerOnRelease v s
  | .brownOut v => Sys2Proof.Machine.execBrownOut v s
  | .supplySwitchToVback v => Sys2Proof.Machine.execSupplySwitchToVback v s
  | .vmainReturn v => Sys2Proof.Machine.execVmainReturn v s
  | .vbackFailReturn v => Sys2Proof.Machine.execVbackFailReturn v s
  | .railOverload rail => Sys2Proof.Machine.execRailOverload rail s
  | .lastGaspStart v => Sys2Proof.Machine.execLastGaspStart v s
  | .lastGaspComplete => Sys2Proof.Machine.execLastGaspComplete s
  | .watchdogExpiry => Sys2Proof.Machine.execWatchdogExpiry s
  | .resetreqArm => Sys2Proof.Machine.execResetreqArm s
  | .resetreqFallingEdge => Sys2Proof.Machine.execResetreqFallingEdge s
  | .resetreqReset => Sys2Proof.Machine.execResetreqReset s
  | .resetreqStuck => Sys2Proof.Machine.execResetreqStuck s
  | .resetreqStuckRearm => Sys2Proof.Machine.execResetreqStuckRearm s
  | .refclkLoss => Sys2Proof.Machine.execRefclkLoss s
  | .refclkReturn => Sys2Proof.Machine.execRefclkReturn s
  | .bootSlotSelect saProbe sbProbe readFault => Sys2Proof.Machine.execBootSlotSelect saProbe sbProbe readFault s
  | .startupBistComplete failed => Sys2Proof.Machine.execStartupBistComplete failed s
  | .platInstallProgram readBack => Sys2Proof.Machine.execPlatInstallProgram readBack s
  | .platHeaderRead jedec readA readB => Sys2Proof.Machine.execPlatHeaderRead jedec readA readB s
  | .platBodyCheck read => Sys2Proof.Machine.execPlatBodyCheck read s
  | .stateLimitExpiry => Sys2Proof.Machine.execStateLimitExpiry s
  | .mckPhaseTraining busy => Sys2Proof.Machine.execMckPhaseTraining busy s
  | .twinRoleDecision peerActive peerAliveIn => Sys2Proof.Machine.execTwinRoleDecision peerActive peerAliveIn s
  | .twinStartWaitExpiry peerAliveIn => Sys2Proof.Machine.execTwinStartWaitExpiry peerAliveIn s
  | .loadComplete => Sys2Proof.Machine.execLoadComplete s
  | .learnedValuesRead => Sys2Proof.Machine.execLearnedValuesRead s
  | .offsetCalibrationComplete leg sum n means => Sys2Proof.Machine.execOffsetCalibrationComplete leg sum n means s
  | .offsetCalibrationStart leg => Sys2Proof.Machine.execOffsetCalibrationStart leg s
  | .surveyedEntry => Sys2Proof.Machine.execSurveyedEntry s
  | .baselineFlitSend dir => Sys2Proof.Machine.execBaselineFlitSend dir s
  | .baselineFlitReceived dir crcOk => Sys2Proof.Machine.execBaselineFlitReceived dir crcOk s
  | .baselineFlitRelease dir timing => Sys2Proof.Machine.execBaselineFlitRelease dir timing s
  | .baselineNakReceived dir ack => Sys2Proof.Machine.execBaselineNakReceived dir ack s
  | .baselineUp => Sys2Proof.Machine.execBaselineUp s
  | .baselineLossField => Sys2Proof.Machine.execBaselineLossField s
  | .autonomyPermitDrop => Sys2Proof.Machine.execAutonomyPermitDrop s
  | .baselineLossCore => Sys2Proof.Machine.execBaselineLossCore s
  | .baselineLossHoldExpiry => Sys2Proof.Machine.execBaselineLossHoldExpiry s
  | .memoryEccCorrected region => Sys2Proof.Machine.execMemoryEccCorrected region s
  | .memoryEccUncorrectable region => Sys2Proof.Machine.execMemoryEccUncorrectable region s
  | .lockstepMismatch => Sys2Proof.Machine.execLockstepMismatch s
  | .frameBoundary l => Sys2Proof.Machine.execFrameBoundary l s
  | .sampleBoundary => Sys2Proof.Machine.execSampleBoundary s
  | .windowW0Seal => Sys2Proof.Machine.execWindowW0Seal s
  | .windowW1Safety => Sys2Proof.Machine.execWindowW1Safety s
  | .windowW2Estimation => Sys2Proof.Machine.execWindowW2Estimation s
  | .windowW3Dispatch => Sys2Proof.Machine.execWindowW3Dispatch s
  | .windowW4Outputs => Sys2Proof.Machine.execWindowW4Outputs s
  | .windowW5Store => Sys2Proof.Machine.execWindowW5Store s
  | .windowOverrun w engineUs => Sys2Proof.Machine.execWindowOverrun w engineUs s
  | .functionDrainComplete fn => Sys2Proof.Machine.execFunctionDrainComplete fn s
  | .syncinEdge stamp => Sys2Proof.Machine.execSyncinEdge stamp s
  | .syncinLoss => Sys2Proof.Machine.execSyncinLoss s
  | .ppsOutSecond => Sys2Proof.Machine.execPpsOutSecond s
  | .ppsInEdge stamp => Sys2Proof.Machine.execPpsInEdge stamp s
  | .ptpAnnounceReceived a => Sys2Proof.Machine.execPtpAnnounceReceived a s
  | .ptpSyncReceived lan identity seqId t2 corr => Sys2Proof.Machine.execPtpSyncReceived lan identity seqId t2 corr s
  | .ptpFollowUpReceived lan identity seqId t1 corr => Sys2Proof.Machine.execPtpFollowUpReceived lan identity seqId t1 corr s
  | .ptpDelayReqSend t3 => Sys2Proof.Machine.execPtpDelayReqSend t3 s
  | .ptpDelayRespReceived lan identity seqId t4 corr => Sys2Proof.Machine.execPtpDelayRespReceived lan identity seqId t4 corr s
  | .ptpSyncTimeout => Sys2Proof.Machine.execPtpSyncTimeout s
  | .ptpMasterTimeout lan identity => Sys2Proof.Machine.execPtpMasterTimeout lan identity s
  | .ptpPortFailover => Sys2Proof.Machine.execPtpPortFailover s
  | .commandLayUp r => Sys2Proof.Machine.execCommandLayUp r s
  | .layupPersistDone => Sys2Proof.Machine.execLayupPersistDone s
  | .wakeInEdge => Sys2Proof.Machine.execWakeInEdge s
  | .wakeTone leg => Sys2Proof.Machine.execWakeTone leg s
  | .wakeTimerExpiry => Sys2Proof.Machine.execWakeTimerExpiry s
  | .traverseStake x next dir => Sys2Proof.Machine.execTraverseStake x next dir s
  | .traverseUnstakeAll x => Sys2Proof.Machine.execTraverseUnstakeAll x s
  | .traversePing x turn => Sys2Proof.Machine.execTraversePing x turn s
  | .traverseSampleAt x round tag wait => Sys2Proof.Machine.execTraverseSampleAt x round tag wait s
  | .traverseReadCells x round => Sys2Proof.Machine.execTraverseReadCells x round s
  | .traverseReadTemps x => Sys2Proof.Machine.execTraverseReadTemps x s
  | .traverseReadHousekeeping x => Sys2Proof.Machine.execTraverseReadHousekeeping x s
  | .traverseBalanceSet x duration mask => Sys2Proof.Machine.execTraverseBalanceSet x duration mask s
  | .traverseQuiet x start length => Sys2Proof.Machine.execTraverseQuiet x start length s
  | .traverseOpenWireTest x wires => Sys2Proof.Machine.execTraverseOpenWireTest x wires s
  | .traverseBalSwitchTest x mask => Sys2Proof.Machine.execTraverseBalSwitchTest x mask s
  | .traverseSetSleepThresholds x ov uv ot ut period => Sys2Proof.Machine.execTraverseSetSleepThresholds x ov uv ot ut period s
  | .traverseSleep x key => Sys2Proof.Machine.execTraverseSleep x key s
  | .traverseCodeLoad x addr data => Sys2Proof.Machine.execTraverseCodeLoad x addr data s
  | .traverseCodeRun x length crc version => Sys2Proof.Machine.execTraverseCodeRun x length crc version s
  | .traverseReadReg x addr count => Sys2Proof.Machine.execTraverseReadReg x addr count s
  | .traverseWriteReg x addr values => Sys2Proof.Machine.execTraverseWriteReg x addr values s
  | .trainReturned leg fromB back => Sys2Proof.Machine.execTrainReturned leg fromB back s
  | .trainReturnTimeout leg fromB => Sys2Proof.Machine.execTrainReturnTimeout leg fromB s
  | .stationConversion leg pos cells stackV late bleedNear => Sys2Proof.Machine.execStationConversion leg pos cells stackV late bleedNear s
  | .stationTestEnd leg pos openWire aborted values => Sys2Proof.Machine.execStationTestEnd leg pos openWire aborted values s
  | .stationBalanceExpiry leg pos => Sys2Proof.Machine.execStationBalanceExpiry leg pos s
  | .stationCodeEccError leg pos passed10ms => Sys2Proof.Machine.execStationCodeEccError leg pos passed10ms s
  | .stationFrameTimeout leg pos => Sys2Proof.Machine.execStationFrameTimeout leg pos s
  | .stationSleepCheck leg pos first second => Sys2Proof.Machine.execStationSleepCheck leg pos first second s
  | .toneLoss leg => Sys2Proof.Machine.execToneLoss leg s
  | .splitModeEntry leg => Sys2Proof.Machine.execSplitModeEntry leg s
  | .splitReflectWait leg => Sys2Proof.Machine.execSplitReflectWait leg s
  | .loopModeReturn leg => Sys2Proof.Machine.execLoopModeReturn leg s
  | .voltageRound kind tp phase => Sys2Proof.Machine.execVoltageRound kind tp phase s
  | .plumbCapture tp caps => Sys2Proof.Machine.execPlumbCapture tp caps s
  | .closureHoldExpiry leg => Sys2Proof.Machine.execClosureHoldExpiry leg s
  | .openWireRetest leg stake line => Sys2Proof.Machine.execOpenWireRetest leg stake line s
  | .balSwitchTestSchedule leg retest => Sys2Proof.Machine.execBalSwitchTestSchedule leg retest s
  | .tempSlowRound => Sys2Proof.Machine.execTempSlowRound s
  | .fastListRound => Sys2Proof.Machine.execFastListRound s
  | .fastListLeave leg stake => Sys2Proof.Machine.execFastListLeave leg stake s
  | .tempStaleTimeout index => Sys2Proof.Machine.execTempStaleTimeout index s
  | .balancePhaseBoundary => Sys2Proof.Machine.execBalancePhaseBoundary s
  | .probeDue pair => Sys2Proof.Machine.execProbeDue pair s
  | .probeLeadingEdge pair => Sys2Proof.Machine.execProbeLeadingEdge pair s
  | .probeTrailingEdge pair => Sys2Proof.Machine.execProbeTrailingEdge pair s
  | .restTimerExpiry leg => Sys2Proof.Machine.execRestTimerExpiry leg s
  | .learnPeriodExpiry => Sys2Proof.Machine.execLearnPeriodExpiry s
  | .learnedSnapshot => Sys2Proof.Machine.execLearnedSnapshot s
  | .learnedWriteComplete fault => Sys2Proof.Machine.execLearnedWriteComplete fault s
  | .commandDispatch r => Sys2Proof.Machine.execCommandDispatch r s
  | .modeChangeBankSwitch => Sys2Proof.Machine.execModeChangeBankSwitch s
  | .dispatchWatchdogExpiry => Sys2Proof.Machine.execDispatchWatchdogExpiry s
  | .wdHoldExpiry => Sys2Proof.Machine.execWdHoldExpiry s
  | .legWaitBusReady leg => Sys2Proof.Machine.execLegWaitBusReady leg s
  | .startIntoShort => Sys2Proof.Machine.execStartIntoShort s
  | .retrySpacingExpiry leg => Sys2Proof.Machine.execRetrySpacingExpiry leg s
  | .sampleLatch codes => Sys2Proof.Machine.execSampleLatch codes s
  | .compareWrite => Sys2Proof.Machine.execCompareWrite s
  | .pwmCarrierStart p => Sys2Proof.Machine.execPwmCarrierStart p s
  | .fastLimitTrip p current => Sys2Proof.Machine.execFastLimitTrip p current s
  | .desatTrip p => Sys2Proof.Machine.execDesatTrip p s
  | .overloadTrip leg => Sys2Proof.Machine.execOverloadTrip leg s
  | .loadStepTurnOff leg => Sys2Proof.Machine.execLoadStepTurnOff leg s
  | .loadStepReentry leg => Sys2Proof.Machine.execLoadStepReentry leg s
  | .loadStepTimeout leg => Sys2Proof.Machine.execLoadStepTimeout leg s
  | .legDrainComplete leg => Sys2Proof.Machine.execLegDrainComplete leg s
  | .legHeadroomLoss leg => Sys2Proof.Machine.execLegHeadroomLoss leg s
  | .safetyInputDemand ch => Sys2Proof.Machine.execSafetyInputDemand ch s
  | .safetyInputClear ch => Sys2Proof.Machine.execSafetyInputClear ch s
  | .safetyPairDiscrepancy pair => Sys2Proof.Machine.execSafetyPairDiscrepancy pair s
  | .testPulseStart src levelsBefore => Sys2Proof.Machine.execTestPulseStart src levelsBefore s
  | .testPulseCheck src levels => Sys2Proof.Machine.execTestPulseCheck src levels s
  | .testPulseEnd src => Sys2Proof.Machine.execTestPulseEnd src s
  | .stopTMaxExpiry => Sys2Proof.Machine.execStopTMaxExpiry s
  | .stoppingExit => Sys2Proof.Machine.execStoppingExit s
  | .cellInvalidTimeout cell => Sys2Proof.Machine.execCellInvalidTimeout cell s
  | .tempPointsInvalidTimeout leg stake => Sys2Proof.Machine.execTempPointsInvalidTimeout leg stake s
  | .contactorSequenceStep => Sys2Proof.Machine.execContactorSequenceStep s
  | .prechargeTimeout => Sys2Proof.Machine.execPrechargeTimeout s
  | .outputReadbackMismatch ch readOn => Sys2Proof.Machine.execOutputReadbackMismatch ch readOn s
  | .darkTestStart => Sys2Proof.Machine.execDarkTestStart s
  | .darkTestOffCheck readOn => Sys2Proof.Machine.execDarkTestOffCheck readOn s
  | .darkTestRecoveryCheck readOn => Sys2Proof.Machine.execDarkTestRecoveryCheck readOn s
  | .darkTestIntervalEnd ch => Sys2Proof.Machine.execDarkTestIntervalEnd ch s
  | .contactorOperateTimeout g levels => Sys2Proof.Machine.execContactorOperateTimeout g levels s
  | .contactorFeedbackChange g levels => Sys2Proof.Machine.execContactorFeedbackChange g levels s
  | .weldPeerHoldExpiry g levels => Sys2Proof.Machine.execWeldPeerHoldExpiry g levels s
  | .inhibitCurrentViolation leg charge => Sys2Proof.Machine.execInhibitCurrentViolation leg charge s
  | .permitReceived bytes => Sys2Proof.Machine.execPermitReceived bytes s
  | .permitTimeout => Sys2Proof.Machine.execPermitTimeout s
  | .forceoffAssert => Sys2Proof.Machine.execForceoffAssert s
  | .safeTelegramReceived lan bytes stamp => Sys2Proof.Machine.execSafeTelegramReceived lan bytes stamp s
  | .telegramWatchdogExpiry => Sys2Proof.Machine.execTelegramWatchdogExpiry s
  | .statusTelegramSend => Sys2Proof.Machine.execStatusTelegramSend s
  | .backsightFlitReceived cls seq ack nak crcOk msg => Sys2Proof.Machine.execBacksightFlitReceived cls seq ack nak crcOk msg s
  | .backsightUp peerStamp delay tai stepped => Sys2Proof.Machine.execBacksightUp peerStamp delay tai stepped s
  | .backsightSilence => Sys2Proof.Machine.execBacksightSilence s
  | .peerAliveLost => Sys2Proof.Machine.execPeerAliveLost s
  | .standbyCleStart => Sys2Proof.Machine.execStandbyCleStart s
  | .sealBundleReceived bundle => Sys2Proof.Machine.execSealBundleReceived bundle s
  | .sealBundleLate => Sys2Proof.Machine.execSealBundleLate s
  | .twinSampleCompare => Sys2Proof.Machine.execTwinSampleCompare s
  | .twinFrameCompare => Sys2Proof.Machine.execTwinFrameCompare s
  | .twinRecomputeComplete selfOk => Sys2Proof.Machine.execTwinRecomputeComplete selfOk s
  | .twinVerdictReceived selfOk => Sys2Proof.Machine.execTwinVerdictReceived selfOk s
  | .twinVerdictTimeout => Sys2Proof.Machine.execTwinVerdictTimeout s
  | .takeoverSwitch => Sys2Proof.Machine.execTakeoverSwitch s
  | .joinRequest => Sys2Proof.Machine.execJoinRequest s
  | .joinBlockReceived index data => Sys2Proof.Machine.execJoinBlockReceived index data s
  | .joinConverged => Sys2Proof.Machine.execJoinConverged s
  | .joinComplete j => Sys2Proof.Machine.execJoinComplete j s
  | .joinTimeout => Sys2Proof.Machine.execJoinTimeout s
  | .commandSwap r => Sys2Proof.Machine.execCommandSwap r s
  | .swapBoundary => Sys2Proof.Machine.execSwapBoundary s
  | .twinGraceExpiry => Sys2Proof.Machine.execTwinGraceExpiry s
  | .stageThermalTrip ntc code => Sys2Proof.Machine.execStageThermalTrip ntc code s
  | .stageThermalRelease leg => Sys2Proof.Machine.execStageThermalRelease leg s
  | .ntcFault ch code => Sys2Proof.Machine.execNtcFault ch code s
  | .ntcFaultClear ch => Sys2Proof.Machine.execNtcFaultClear ch s
  | .dieThermalShutdown die temp => Sys2Proof.Machine.execDieThermalShutdown die temp s
  | .dieShutdownRelease => Sys2Proof.Machine.execDieShutdownRelease s
  | .valveLoop => Sys2Proof.Machine.execValveLoop s
  | .fanFault f => Sys2Proof.Machine.execFanFault f s
  | .fanFaultClear f => Sys2Proof.Machine.execFanFaultClear f s
  | .axisPwmPeriod vmot => Sys2Proof.Machine.execAxisPwmPeriod vmot s
  | .axisHomeEdge ax level stamp => Sys2Proof.Machine.execAxisHomeEdge ax level stamp s
  | .axisChatterClear ax => Sys2Proof.Machine.execAxisChatterClear ax s
  | .axisLimit ax positive level => Sys2Proof.Machine.execAxisLimit ax positive level s
  | .axisStandstill ax => Sys2Proof.Machine.execAxisStandstill ax s
  | .axisVmotFault ax => Sys2Proof.Machine.execAxisVmotFault ax s
  | .axisVmotRecover ax => Sys2Proof.Machine.execAxisVmotRecover ax s
  | .axTargetWrite ax v => Sys2Proof.Machine.execAxTargetWrite ax v s
  | .axCommandHome ax => Sys2Proof.Machine.execAxCommandHome ax s
  | .axCommandStop ax => Sys2Proof.Machine.execAxCommandStop ax s
  | .axEnableWrite ax v => Sys2Proof.Machine.execAxEnableWrite ax v s
  | .dmaBurst path cond => Sys2Proof.Machine.execDmaBurst path cond s
  | .flashProgramComplete port pass => Sys2Proof.Machine.execFlashProgramComplete port pass s
  | .flashEraseComplete port pass => Sys2Proof.Machine.execFlashEraseComplete port pass s
  | .dmaResume ch unit => Sys2Proof.Machine.execDmaResume ch unit s
  | .dmaAbandon ch => Sys2Proof.Machine.execDmaAbandon ch s
  | .portTimeout port => Sys2Proof.Machine.execPortTimeout port s
  | .portRecovery port ok => Sys2Proof.Machine.execPortRecovery port ok s
  | .windowHaltTimeout w => Sys2Proof.Machine.execWindowHaltTimeout w s
  | .fieldBookReplay => Sys2Proof.Machine.execFieldBookReplay s
  | .fbTimeRecord => Sys2Proof.Machine.execFbTimeRecord s
  | .fbSecondEnd => Sys2Proof.Machine.execFbSecondEnd s
  | .fbNandFlush => Sys2Proof.Machine.execFbNandFlush s
  | .phyPoll status => Sys2Proof.Machine.execPhyPoll status s
  | .ethernetFrameReceived lan frame stamp => Sys2Proof.Machine.execEthernetFrameReceived lan frame stamp s
  | .arpRequest ip mac target => Sys2Proof.Machine.execArpRequest ip mac target s
  | .arpCacheExpiry ip => Sys2Proof.Machine.execArpCacheExpiry ip s
  | .icmpEcho target => Sys2Proof.Machine.execIcmpEcho target s
  | .prpSupervisionSend => Sys2Proof.Machine.execPrpSupervisionSend s
  | .prpNodeForget mac => Sys2Proof.Machine.execPrpNodeForget mac s
  | .lanDegraded lan entered => Sys2Proof.Machine.execLanDegraded lan entered s
  | .hostAuthFailRecord => Sys2Proof.Machine.execHostAuthFailRecord s
  | .hostRead r => Sys2Proof.Machine.execHostRead r s
  | .hostWrite r => Sys2Proof.Machine.execHostWrite r s
  | .objectWrite obj elem v => Sys2Proof.Machine.execObjectWrite obj elem v s
  | .hostSubscribe r => Sys2Proof.Machine.execHostSubscribe r s
  | .subscriptionPublish idx => Sys2Proof.Machine.execSubscriptionPublish idx s
  | .subscriptionLeaseExpiry follower idx => Sys2Proof.Machine.execSubscriptionLeaseExpiry follower idx s
  | .eventsRead r => Sys2Proof.Machine.execEventsRead r s
  | .eventsFollow r => Sys2Proof.Machine.execEventsFollow r s
  | .eventsUnfollow r => Sys2Proof.Machine.execEventsUnfollow r s
  | .commandArm r => Sys2Proof.Machine.execCommandArm r s
  | .commandDisarm r => Sys2Proof.Machine.execCommandDisarm r s
  | .commandRelease r => Sys2Proof.Machine.execCommandRelease r s
  | .commandReset r => Sys2Proof.Machine.execCommandReset r s
  | .commandPlatStage r => Sys2Proof.Machine.execCommandPlatStage r s
  | .commandPlatInstall r => Sys2Proof.Machine.execCommandPlatInstall r s
  | .commandKeyRevoke r => Sys2Proof.Machine.execCommandKeyRevoke r s
  | .windowRead r => Sys2Proof.Machine.execWindowRead r s
  | .windowWrite r => Sys2Proof.Machine.execWindowWrite r s
  | .windowErase r => Sys2Proof.Machine.execWindowErase r s
  | .windowFlush r => Sys2Proof.Machine.execWindowFlush r s
  | .windowStatus r => Sys2Proof.Machine.execWindowStatus r s
  | .windowResume r => Sys2Proof.Machine.execWindowResume r s
  | .windowAbandon r => Sys2Proof.Machine.execWindowAbandon r s
  | .updateHeader r => Sys2Proof.Machine.execUpdateHeader r s
  | .updateBody r => Sys2Proof.Machine.execUpdateBody r s
  | .updateApply r => Sys2Proof.Machine.execUpdateApply r s
  | .applyBlockComplete fault => Sys2Proof.Machine.execApplyBlockComplete fault s
  | .updateStart r => Sys2Proof.Machine.execUpdateStart r s
  | .updateReject r => Sys2Proof.Machine.execUpdateReject r s
  | .updateAbort r => Sys2Proof.Machine.execUpdateAbort r s
  | .updateStatus r => Sys2Proof.Machine.execUpdateStatus r s
  | .trialTimerExpiry => Sys2Proof.Machine.execTrialTimerExpiry s
  | .canTxLoad r => Sys2Proof.Machine.execCanTxLoad r s
  | .canTxAbort r => Sys2Proof.Machine.execCanTxAbort r s
  | .canTxStatus r => Sys2Proof.Machine.execCanTxStatus r s
  | .canRxRead r => Sys2Proof.Machine.execCanRxRead r s
  | .canRxAck r => Sys2Proof.Machine.execCanRxAck r s
  | .canControllerStatus r => Sys2Proof.Machine.execCanControllerStatus r s
  | .canFrameReceived c frame remote stamp => Sys2Proof.Machine.execCanFrameReceived c frame remote stamp s
  | .canArbitrationStart c => Sys2Proof.Machine.execCanArbitrationStart c s
  | .canTxComplete c stamp => Sys2Proof.Machine.execCanTxComplete c stamp s
  | .canTxError c lost => Sys2Proof.Machine.execCanTxError c lost s
  | .canBusOffRecovery c => Sys2Proof.Machine.execCanBusOffRecovery c s
  | .canRateDwellExpiry c => Sys2Proof.Machine.execCanRateDwellExpiry c s
  | .canMapTimeout c entry => Sys2Proof.Machine.execCanMapTimeout c entry s
  | .canTxMapSend c entry => Sys2Proof.Machine.execCanTxMapSend c entry s
  | .canStatusSetSend c => Sys2Proof.Machine.execCanStatusSetSend c s
  | .canEnableWrite c v => Sys2Proof.Machine.execCanEnableWrite c v s
  | .bistSlice busy sigOk => Sys2Proof.Machine.execBistSlice busy sigOk s
  | .keyRederivationComplete ok => Sys2Proof.Machine.execKeyRederivationComplete ok s
  | .bistPassLate => Sys2Proof.Machine.execBistPassLate s
  | .debugUnlock sig => Sys2Proof.Machine.execDebugUnlock sig s
  | .syncPhaseWrite v => Sys2Proof.Machine.execSyncPhaseWrite v s
  | .syncinEnableWrite v => Sys2Proof.Machine.execSyncinEnableWrite v s
  | .balEnableWrite v => Sys2Proof.Machine.execBalEnableWrite v s
  | .probeEnableWrite v => Sys2Proof.Machine.execProbeEnableWrite v s
  | .bankSelectWrite leg v => Sys2Proof.Machine.execBankSelectWrite leg v s
  | .updateEnableWrite v => Sys2Proof.Machine.execUpdateEnableWrite v s
  | .bistEnableWrite v => Sys2Proof.Machine.execBistEnableWrite v s
  | .contactLostClear leg v => Sys2Proof.Machine.execContactLostClear leg v s
  | .telegramDegradedClear v => Sys2Proof.Machine.execTelegramDegradedClear v s
  | .baselineLostClear v => Sys2Proof.Machine.execBaselineLostClear v s
  | .timeOverrunClear v => Sys2Proof.Machine.execTimeOverrunClear v s
  | .supplySwitchedClear v => Sys2Proof.Machine.execSupplySwitchedClear v s
  | .resetreqStuckClear v => Sys2Proof.Machine.execResetreqStuckClear v s
  | .warnLatchedClear v => Sys2Proof.Machine.execWarnLatchedClear v s
  | .learnWriteFailClear v => Sys2Proof.Machine.execLearnWriteFailClear v s
  | .fbQueueFullClear v => Sys2Proof.Machine.execFbQueueFullClear v s
  | .canStatusClear c v => Sys2Proof.Machine.execCanStatusClear c v s
  | .baselineLaneLock dir lane locked => Sys2Proof.Machine.execBaselineLaneLock dir lane locked s
  | .backsightFlitSend => Sys2Proof.Machine.execBacksightFlitSend s
  | .toneReturn leg => Sys2Proof.Machine.execToneReturn leg s
  | .stationToneLost leg pos gap => Sys2Proof.Machine.execStationToneLost leg pos gap s
  | .stationToneQualified leg pos up => Sys2Proof.Machine.execStationToneQualified leg pos up s
  | .stationPowerUp leg pos uid hwId romVersion => Sys2Proof.Machine.execStationPowerUp leg pos uid hwId romVersion s
  | .stationQuietWindowEnd leg pos => Sys2Proof.Machine.execStationQuietWindowEnd leg pos s
  | .resetreqRisingEdge => Sys2Proof.Machine.execResetreqRisingEdge s
  | .forceoffRelease => Sys2Proof.Machine.execForceoffRelease s
  | .railOverloadEnd rail => Sys2Proof.Machine.execRailOverloadEnd rail s
  | .supplyLowExit v => Sys2Proof.Machine.execSupplyLowExit v s
  | .canRxError c heavy => Sys2Proof.Machine.execCanRxError c heavy s
  | .fanPwmPeriod f => Sys2Proof.Machine.execFanPwmPeriod f s
  | .tachEdge f => Sys2Proof.Machine.execTachEdge f s
  | .shutdownPersistTimeout => Sys2Proof.Machine.execShutdownPersistTimeout s

end Sys2Proof.Machine
end

