-- ==== Sys2Proof/Machine/Alert.lean ====
section
/-! DEFINITION. ALERT_N (R26, R71, R73, R163, R216, R287, R312, R333, R386, R432, R467): when the module pulls the open-drain pin low. -/
namespace Sys2Proof.Machine

/-- R163: a populated cell's bleed is stuck on. -/
def State.bleedStuck (s : State) : Bool := s.cells.any (fun c => c.2.stuckOn)
/-- R386: the book's port is DOWN and writing is halted. -/
def State.bookDown (s : State) : Bool :=
  s.fb.writeHalted && s.su.port.toList.any (fun p => p.down)
/-- R312: the last dispute ended with both units SELF_OK or both SELF_BAD (log 280). -/
def State.disputeOpen (s : State) : Bool := s.twin.disputeOutcome == 3 || s.twin.disputeOutcome == 4
/-- What the rules name as causes of a low ALERT_N while its function drives it: an active warning in ALERT_MASK (R216), the breaker
trip request of a welded group (R287), the core die's declaration of a Baseline loss (R26), a stuck-on bleed (R163), a dispute
without a verdict (R312), a fan fault (R333), a halted book (R386), a map condition (R432), a key fault (R467). -/
def State.alertCause (s : State) : Bool :=
  s.slim.warn &&& s.parN P.alertMask != 0 || s.sf.tripReq || s.base.coreLost || s.bleedStuck || s.disputeOpen ||
  s.therm.fanFault.toList.any (fun f => f) || s.bookDown || s.canAlert || s.bist.keyFault
/-- R71, R73: ALERT_N is low: where the table says so, or by a cause where its function drives it. -/
def State.alertLow (s : State) : Bool := match s.drive .alert with
  | .low => true
  | .active => s.alertCause
  | .z | .high | .idle => false

end Sys2Proof.Machine
end

