-- ==== Sys2Proof/Machine/Tone.lean ====
section
/-! DEFINITION. The heartbeat tone (R109, R129, R130, R132, R166): who sends it, who relays, withholds and returns it, and where it
arrives. `forward` is the path from end A to end B, the other one the reverse path. -/
namespace Sys2Proof.Machine

/-- R129: an end of this unit sends the tone: in the idle gaps between its trains, which for the far end of a ring in loop mode, from
which no train starts, is always. -/
def State.endTone (s : State) (leg : Leg) (fromB : Bool) : Bool :=
  let r := s.ring[leg.val]
  s.ringWorks leg && r.mode != 3 && (!s.twinMember || fromB == s.ownEnd) && r.flight[(endIx fromB).val].isNone
/-- R130: a station withholds the tone on the forward path. -/
def Station.withholds (st : Station) : Bool := st.frameLost || st.faults != 0
/-- R130, R132, R166: the tone a station sends on a path, from what arrives on that path and on the other one: relayed, or returned where
it turns the frames of the other path; a sleeping station relays and sends its bursts. -/
def Station.tone (st : Station) (forward here back : Bool) (now : Nat) : Bool :=
  if st.sleeping then here || decide (0 < st.burstsLeft now)
  else (here && !(forward && st.withholds)) || (back && st.turnsFrom forward)
/-- The tone as it arrives at each station of a path, and at its end: stations in path order, each with the tone on the other path. -/
def toneAlong (forward : Bool) (now : Nat) : Bool → List (Station × Bool) → List Bool × Bool
  | t, [] => ([], t)
  | t, (st, back) :: rest =>
    let r := toneAlong forward now (st.tone forward t back now) rest
    (t :: r.1, r.2)
/-- R129 to R132: the tone of a leg: at the UP pair and at the DOWN pair of each station, at end B's and at end A's receive pair. -/
def State.tones (s : State) (leg : Leg) : List Bool × List Bool × Bool × Bool :=
  let chain := s.ring[leg.val].chain
  let now := s.time.meridian
  let none? := chain.map (fun _ => false)
  let down := (toneAlong false now (s.endTone leg true) ((chain.zip none?).reverse)).1.reverse
  let f := toneAlong true now (s.endTone leg false) (chain.zip down)
  let b := toneAlong false now (s.endTone leg true) ((chain.zip f.1).reverse)
  (f.1, b.1.reverse, f.2, b.2)

end Sys2Proof.Machine
end

