-- ==== Sys2Proof/Safety.lean ====
section
/-! DEFINITION. What every command keeps: the queue of waiting commands, the canonical form of the two flash memories,
and the fuses, whose keys and lifecycle no command changes and whose revoke bits are only ever blown. -/
namespace Sys2Proof.Machine

/-- The two flash memories are in canonical form. -/
def State.memWf (s : State) : Prop := Memory.wf s.store = true ∧ Memory.wf s.plat.flash = true
/-- g is f, but for further blown revoke fuses (R408, R446). -/
def Fuses.within (f g : Fuses) : Prop :=
  g = { f with hostRevoked := g.hostRevoked, updateRevoked := g.updateRevoked } ∧
  (∀ k : Fin 8, f.hostRevoked[k.val] = true → g.hostRevoked[k.val] = true) ∧
  (∀ k : Fin 4, f.updateRevoked[k.val] = true → g.updateRevoked[k.val] = true)
/-- What most commands leave alone: the queue, the fuses, the store and the plat flash. -/
def State.kept (s : State) : List Instr × Fuses × List Host.Cell × List Host.Cell := (s.pending, s.fuses, s.store, s.plat.flash)
/-- From k to l the queue stays, fuses are only blown further, and both memories stay canonical. -/
def Goes (k l : List Instr × Fuses × List Host.Cell × List Host.Cell) : Prop :=
  l.1 = k.1 ∧ k.2.1.within l.2.1 ∧ (Memory.wf k.2.2.1 = true → Memory.wf l.2.2.1 = true) ∧ (Memory.wf k.2.2.2 = true → Memory.wf l.2.2.2 = true)
/-- A next state has what s has of the queue, the fuses and the memories. -/
def Keeps (o : Host.Outcome State Fault Refusal) (s : State) : Prop := match o with
  | .next t => t.kept = s.kept
  | .fault _ => True
  | .refused _ => True
/-- A next state goes from what s has. -/
def OutGoes (o : Host.Outcome State Fault Refusal) (s : State) : Prop := match o with
  | .next t => Goes s.kept t.kept
  | .fault _ => True
  | .refused _ => True

/-- All but what survives a reset has its value of State.reset (R51, R67, log 44). -/
def State.fresh (t : State) : Prop :=
  t = { State.reset with
    mode := t.mode, supply := t.supply, resetReq := t.resetReq, ret := t.ret, fuses := t.fuses, store := t.store, plat := t.plat
    start := t.start, su := t.su, sf := t.sf, ring := t.ring, freeCounter := t.freeCounter, pending := t.pending }
/-- What a reset carries over: fuses, both flash memories, the queue, the stations outside the module, the monitor of
RESETREQ_N and the remap tables; of the plat and the safety functions nothing else (R67, log 44). -/
def State.carries (s t : State) : Prop :=
  t.kept = s.kept ∧ t.plat = { flash := s.plat.flash } ∧ t.ring = s.ring.map (fun r => { chain := r.chain }) ∧
  t.sf = { forceoff := s.sf.forceoff && s.role != .estranged } ∧
  t.su = { port := s.su.port.map (fun p => { retired := p.retired, remap := p.remap, hasMap := p.hasMap }) } ∧ t.fresh
/-- A reset: BOOT, with a RESET_CAUSE and one more power cycle. -/
def State.restarts (cause : Nat) (s t : State) : Prop :=
  t.mode = .boot ∧ s.carries t ∧ t.resetReq = s.resetReq ∧
  t.start = { cause := cause + ((if s.ret.lastGaspCut then 8 else 0) + (if s.ret.brownOut then 2 else 0)),
              wakeCause := if s.ret.wake = 0 then s.start.wakeCause else s.ret.wake, transfers := s.ret.transfers
              powerCycles := (s.start.powerCycles + 1) % 2 ^ 24, wakeOut := true }

/-- What a change of the supply input leaves alone (R58, R60), and the voltages it takes. -/
def State.supplied (v : SupplyMv) (s t : State) : Prop :=
  t.supply.vmain = v.vmain ∧ t.supply.vback = v.vback ∧ t.kept = s.kept ∧ t.ring = s.ring ∧ t.conv = s.conv ∧ t.pwm = s.pwm ∧ t.mode = s.mode
/-- A frame of an end is in flight with its CMD, STAKE field and payload, a new one with the next SEQ; what else the ring
holds but for the stations, the waiting frames and the count of CODE_RUN attempts stays, and so do the other legs (R112, R117). -/
def State.sent (x : RingTx) (cmd : Nat) (payload : List Byte) (s t : State) : Prop :=
  (∀ l : Leg, l ≠ x.leg → t.ring[l.val] = s.ring[l.val]) ∧
  t.ring[x.leg.val] = { s.ring[x.leg.val] with
    chain := t.ring[x.leg.val].chain, flight := t.ring[x.leg.val].flight, seq := t.ring[x.leg.val].seq, due := t.ring[x.leg.val].due,
    loadAt := t.ring[x.leg.val].loadAt, codeRuns := t.ring[x.leg.val].codeRuns } ∧
  t.ring[x.leg.val].chain.length = s.ring[x.leg.val].chain.length ∧
  t.ring[x.leg.val].flight[(endIx (!x.fromB)).val] = s.ring[x.leg.val].flight[(endIx (!x.fromB)).val] ∧
  ∃ f, t.ring[x.leg.val].flight[(endIx x.fromB).val] = some f ∧ f.cmd = cmd ∧ f.stake = x.stake ∧ f.payload = payload ∧
    (x.retry = false → f.retries = 0 ∧ f.seq = s.ring[x.leg.val].seq[(endIx x.fromB).val] ∧
      t.ring[x.leg.val].seq[(endIx x.fromB).val] = (f.seq + 1) % 256)
/-- A frame that the module may send from an end of its own (R117, R120, R133, R138, R146): its fields are valid, its end is
free, its train fits, and the ring is worked and left to the next round in time. -/
def State.launches (x : RingTx) (cmd : Nat) (payload : List Byte) (s : State) : Prop :=
  s.mayLaunch x cmd payload = true ∧ (s.twinMember = false ∨ x.fromB = s.ownEnd)
/-- A leg's ring differs in the parts a clause names; the other legs' rings stay (R117). -/
def State.ringOnly (leg : Leg) (s t : State) : Prop := t = { s with ring := t.ring } ∧ ∀ l : Leg, l ≠ leg → t.ring[l.val] = s.ring[l.val]
/-- The same, with frames planned (R146): they cross to the field die in the classes of R21. -/
def State.ringPlanned (leg : Leg) (s t : State) : Prop :=
  t = { s with ring := t.ring, base := { s.base with c2f := t.base.c2f } } ∧ ∀ l : Leg, l ≠ leg → t.ring[l.val] = s.ring[l.val]
/-- An active module outside a twin, or a twin unit, that takes its own trains (R119, R136) on a leg without a code load in progress. -/
def State.takesTrains (leg : Leg) (s : State) : Prop :=
  s.twinMember = false ∧ s.role ≠ .standby ∧ s.base.coreLost = false ∧ s.ring[leg.val].load = none
/-- One station of a chain changed by f; the ring else, the other legs and all other state as before. -/
def State.stationGoes (leg : Leg) (pos : Nat) (f : Station → Station) (s t : State) : Prop :=
  t = { s with ring := t.ring } ∧ (∀ l : Leg, l ≠ leg → t.ring[l.val] = s.ring[l.val]) ∧
  t.ring[leg.val] = { s.ring[leg.val] with chain := t.ring[leg.val].chain } ∧
  ∀ i : Nat, t.ring[leg.val].chain[i]? = (s.ring[leg.val].chain[i]?).map (fun st => if i = pos then f st else st)

/-- A request that passes the check of R409 and lies within what the unit serves in its state; u is s with the check done. -/
def State.accepts (op : Nat) (r : HostReq) (s u : State) : Prop := s.hostCheck op r = (u, true) ∧ u.scopeStatus op r = 0
/-- A leg that braked (R235): both phases low, PWMEN low, its CLE idle, its converter in a state with a cause. -/
def State.braked (leg : Leg) (st : LegSt) (cause : Nat) (t : State) : Prop :=
  t.conv[leg.val].st = st ∧ t.conv[leg.val].cause = cause ∧ t.conv[leg.val].pwmen = false ∧ t.conv[leg.val].setpoint = 0 ∧
  t.conv[leg.val].ramp = none ∧ t.pwm[(phaseA leg).val].on = false ∧ t.pwm[(phaseB leg).val].on = false ∧ t.cle[leg.val].running = false
/-- What a command of the leg converters may change: converters, engines, phases, the estimation and probe of the leg, flits
under way, records and events, and the mode (RUNNING to ARMED). -/
def State.converterFrame (s t : State) : Prop :=
  t = { s with conv := t.conv, cle := t.cle, pwm := t.pwm, eleg := t.eleg, probe := t.probe
               base := { s.base with c2f := t.base.c2f, ahead := t.base.ahead }
               fb := t.fb, mode := t.mode, str := t.str }

/-- A stop demand (R291, R292): its cause is entered, latched where it latches; in ARMED and RUNNING the stop begins with
its category and the latched leg currents, during a stop the category never becomes slower, and elsewhere only the cause
is entered. Outputs and groups are not touched by the demand itself, and no state but the named parts. -/
def State.demands (cause cat : Nat) (latching : Bool) (s t : State) : Prop :=
  t = { s with mode := t.mode, sf := t.sf, fb := t.fb, events := t.events, learn := t.learn, eleg := t.eleg, probe := t.probe, conv := t.conv
               cle := t.cle, ring := t.ring, diag := t.diag, base := { s.base with c2f := t.base.c2f, ahead := t.base.ahead } } ∧
  bitAt t.sf.stopCause cause = true ∧ (latching = true → bitAt t.sf.latched cause = true) ∧ t.sf.output = s.sf.output ∧ t.sf.permit = s.sf.permit ∧
  ((s.mode = .armed ∨ s.mode = .running) → t.mode = .stopping ∧ t.sf.stopCat = cat ∧ t.sf.stopLatching = latching ∧ t.sf.i0 = s.lat.legMa ∧
    t.sf.stopFrames = 0 ∧ t.sf.opened = false) ∧
  (s.mode = .stopping → t.mode = .stopping ∧ (cat = 1 → t.sf.stopCat = 1) ∧ (s.sf.stopCat = 1 → t.sf.stopCat = 1) ∧ t.sf.i0 = s.sf.i0 ∧
    t.sf.stopFrames = s.sf.stopFrames) ∧
  (s.mode ≠ .armed → s.mode ≠ .running → s.mode ≠ .stopping → t = { s with sf := t.sf, fb := t.fb })
/-- Only the safety part and the records differ. -/
def State.safetyFrame (s t : State) : Prop := t = { s with sf := t.sf, fb := t.fb }

/-- The channels whose owner acts at the end of a descriptor: Field Book 2 and 12, UPDATE 8, the windows 14 and 15. -/
def ownedChannels : List Nat := [2, 8, 12, 14, 15]
/-- Only the store unit and the records differ, or also the store's bytes. -/
def State.storeFrame (s t : State) : Prop := t = { s with su := t.su, fb := t.fb, store := t.store }

/-- A WINDOW request names its window and its sub-operation, in a payload of the right length (R372). -/
def windowReq (r : HostReq) (w : Fin 2) (sub : Nat) : Prop :=
  fieldAt 0 1 r.payload = w.val ∧ fieldAt 1 1 r.payload = sub ∧ 12 ≤ r.payload.length ∧ (sub = 1 → r.payload.length = 12 + fieldAt 10 2 r.payload)
/-- The first byte that a WINDOW request names (R416). -/
def windowAddr (r : HostReq) : Nat := fieldAt 4 4 r.payload * 4096 + fieldAt 8 2 r.payload
/-- A window whose channel is neither at work nor halted (R372). -/
def State.windowIdle (u : State) (w : Fin 2) : Prop :=
  u.su.ch[(winCh w).val].st ≠ .halted ∧ u.su.ch[(winCh w).val].st ≠ .active ∧ u.su.ch[(winCh w).val].st ≠ .waiting
/-- A window that may begin an operation on a range of pages: idle, and its neighbour has written none of them without
programming it (R372, R373). -/
def State.windowFree (u : State) (w : Fin 2) (first last : Nat) : Prop :=
  u.limited = false ∧ u.windowIdle w ∧ u.unprogrammed (otherWin w) first last = false

end Sys2Proof.Machine
end

