-- ==== Sys2Proof/Certificates/Slice0/Obligations.lean ====
section
/-! DEFINITION. The statements for the provers: from the spec's numbered rules, what the commands do, and what the whole
block keeps. A docstring cites the rules; where a clause rests on a choice of the model it names the log entry. -/
open Sys2Proof Sys2Proof.Machine

/-- The queue is the model's own (log 1): first in, first out; an empty queue idles. -/
def Obligations.StepRunsFront : Prop :=
  (∀ (c : Instr) (rest : List Instr) (s : State), step { s with pending := c :: rest } = exec c { s with pending := rest }) ∧
  (∀ s : State, s.pending = [] → step s = .next s)

/-- R36, R51, R57, R65, R71, R83; the values the rules do not give are logs 20 to 22. -/
def Obligations.ResetState : Prop :=
  State.reset.mode = .off ∧ State.reset.role = .active ∧ State.reset.memWf ∧ State.reset.store = [] ∧ State.reset.plat.flash = [] ∧
  State.reset.pending = [] ∧ State.reset.time.meridian = 0 ∧ State.reset.time.frame = 0 ∧ State.reset.host.writes = [] ∧ State.reset.fb.isOpen = false ∧
  (∀ k : Fin 8, State.reset.sf.output[k.val].driven = false) ∧
  (∀ g : Fin 4, State.reset.sf.group[g.val].on = false) ∧
  (∀ l : Leg, State.reset.conv[l.val].st = .disabled ∧ State.reset.conv[l.val].pwmen = false ∧ State.reset.cle[l.val].running = false) ∧
  (∀ p : Phase, State.reset.pwm[p.val].on = false) ∧
  (∀ c : Fin 4, State.reset.can[c.val].st = 0) ∧
  (∀ (id elem : Nat) (v : Int), State.reset.hostWrite id elem v = State.reset)

/-- The fuses are one-time (R408, R446, R469); the canonical form of the memories is the model's own. -/
def Obligations.EveryStepKeeps : Prop :=
  ∀ s : State, ∃ t : State, step s = .next t ∧ t.pending = s.pending.tail ∧ s.fuses.within t.fuses ∧ (s.memWf → t.memWf)

/-- R57, R66 to R69, R77, R78, R481; what a reset keeps: log 44, the model's choice. -/
def Obligations.ResetsEnterBoot : Prop :=
  (∀ (v : SupplyMv) (s : State), s.mode = .off → s.ret.dieHold = false → s.supply.refclkLost = false → 4500 ≤ max v.vmain v.vback →
    ∃ t, exec (.powerOnRelease v) s = .next t ∧
      ({ s with supply := { s.supply with vmain := v.vmain, vback := v.vback }, resetReq := { high := s.resetReq.high } } : State).restarts 1 t ∧
      t.supply.sel = (if 4350 ≤ v.vmain then 0 else if 4500 ≤ v.vback then 1 else 2)) ∧
  (∀ s : State, s.mode ≠ .off → s.mode ≠ .laidUp → s.start.lastGasp = false → ∃ t, exec .watchdogExpiry s = .next t ∧ s.restarts 64 t) ∧
  (∀ s : State, s.start.lastGasp = true → exec .watchdogExpiry s = .next s) ∧
  (∀ s : State, s.resetReq.qualifying = true → s.resetReq.high = false → s.resetReq.armed = true → s.mode ≠ .off → s.mode ≠ .laidUp →
    s.layup.step = 0 → s.start.lastGasp = false →
    ∃ t, exec .resetreqReset s = .next t ∧
      ({ s with resetReq := { s.resetReq with armed := false, qualifying := false } } : State).restarts 16 t) ∧
  (∀ s : State, s.start.lastGasp = true → ∃ t, exec .lastGaspComplete s = .next t ∧ s.writeShort.restarts 4 t ∧ Goes s.kept t.kept) ∧
  (∀ s : State, s.supply.refclkLost = true → ∃ t, exec .refclkReturn s = .next t ∧ s.restarts 64 t) ∧
  (∀ s : State, s.mode = .laidUp → ∃ t, exec .wakeInEdge s = .next t ∧ ({ s with ret := { s.ret with wake := 16 } } : State).restarts 512 t) ∧
  (∀ (leg : Leg) (s : State), s.mode = .laidUp →
    ∃ t, exec (.wakeTone leg) s = .next t ∧ ({ s with ret := { s.ret with wake := 2 ^ leg.val } } : State).restarts 512 t) ∧
  (∀ s : State, s.mode = .laidUp → s.ret.timer ≠ 0 →
    ∃ t, exec .wakeTimerExpiry s = .next t ∧ ({ s with ret := { s.ret with wake := 32 } } : State).restarts 512 t) ∧
  (∀ s : State, s.mode = .laidUp → s.ret.timer = 0 → exec .wakeTimerExpiry s = .next s)

/-- R62, R65, R66, R76, R77, R481. -/
def Obligations.PowerFailures : Prop :=
  (∀ (v : SupplyMv) (s : State), max v.vmain v.vback < 3900 → (s.mode ≠ .off ∨ s.supply.refclkLost = true ∨ s.ret.dieHold = true) →
    ∃ t, exec (.brownOut v) s = .next t ∧ t.mode = .off ∧ s.carries t ∧ t.ret.dieHold = false ∧ t.supply.refclkLost = false ∧ t.ret.brownOut = true ∧ t.supply.vmain = v.vmain ∧ t.supply.vback = v.vback ∧
      t.ret.lastGaspCut = (s.ret.lastGaspCut || s.start.lastGasp)) ∧
  (∀ s : State, s.mode ≠ .off → s.mode ≠ .laidUp →
    ∃ t, exec .refclkLoss s = .next t ∧ t.mode = .off ∧ t.supply.refclkLost = true ∧ s.carries t) ∧
  (∀ (v : SupplyMv) (s : State), s.mode ≠ .off → s.mode ≠ .laidUp → s.start.lastGasp = false → v.vmain < 4200 → v.vback < 4200 →
    ∃ t, exec (.lastGaspStart v) s = .next t ∧ t.mode = .stopping ∧ t.start.lastGasp = true ∧ t.start.lastGaspFrom = s.mode ∧
      t.fb.queue = [] ∧ t.fb.forming = [] ∧ (∀ k : Fin 4, t.sf.legPwm[k.val] = false ∧ t.axis[k.val].off = true ∧ t.therm.fanDuty[k.val] = 0) ∧
      (∀ c : Fin 8, t.sf.output[c.val].driven = false) ∧ t.supply.sel = 2 ∧ t.kept.2.1 = s.kept.2.1 ∧ Goes s.kept t.kept) ∧
  (∀ (v : SupplyMv) (s : State), (4200 ≤ v.vmain ∨ 4200 ≤ v.vback ∨ s.mode = .off ∨ s.mode = .laidUp ∨ s.start.lastGasp = true) →
    exec (.lastGaspStart v) s = .next s) ∧
  (∀ s : State, s.mode = .surveyed → s.layup.step = 2 →
    ∃ t, exec .layupPersistDone s = .next t ∧ t.mode = .laidUp ∧ t.ret.timer = s.layup.timer ∧ t.plat.recs = s.plat.recs ∧ t.fresh ∧
      Goes s.kept t.kept)

/-- R57, R58, R60, R81; the transfer's record and counters follow in noteTransfer (R60). -/
def Obligations.SupplySelection : Prop :=
  (∀ (v : SupplyMv) (s : State), s.mode ≠ .off → s.mode ≠ .laidUp → s.supply.sel = 0 → v.vmain < 4350 →
    ∃ t, exec (.supplySwitchToVback v) s = .next t ∧
      t.supply.sel = (if 4500 ≤ v.vback ∧ s.par P.backupFitted = 1 then 1 else 2) ∧ (t.supply.low ↔ t.supply.sel = 2) ∧ s.supplied v t) ∧
  (∀ (v : SupplyMv) (s : State), s.mode ≠ .off → s.mode ≠ .laidUp → s.supply.sel = 1 → 4600 ≤ v.vmain →
    ∃ t, exec (.vmainReturn v) s = .next t ∧ t.supply.sel = 0 ∧ t.supply.low = false ∧ s.supplied v t) ∧
  (∀ (v : SupplyMv) (s : State), s.mode ≠ .off → s.mode ≠ .laidUp → s.supply.sel = 1 → v.vback < 4350 →
    ∃ t, exec (.vbackFailReturn v) s = .next t ∧ t.supply.sel = (if 4500 ≤ v.vmain then 0 else 2) ∧ (t.supply.low ↔ t.supply.sel = 2) ∧ s.supplied v t) ∧
  (∀ (v : SupplyMv) (s : State), s.mode ≠ .off → s.mode ≠ .laidUp → s.supply.sel = 2 →
    ∃ t, exec (.supplyLowExit v) s = .next t ∧ (t.supply.low ↔ t.supply.sel = 2) ∧ s.supplied v t ∧
      t.supply.sel = (if 4350 ≤ v.vmain then 0 else if 4500 ≤ v.vback ∧ s.par P.backupFitted = 1 then 1 else 2)) ∧
  (∀ (v : SupplyMv) (s : State), s.mode = .off → (s.supply.refclkLost = true ∨ s.ret.dieHold = true) → s.supply.sel = 2 → 4350 ≤ v.vmain →
    ∃ t, exec (.supplyLowExit v) s = .next t ∧ t.supply.sel = 0 ∧ t.supply.low = false ∧ t.mode = .off ∧
      t = { s with supply := t.supply, ret := t.ret })

/-- R61, R69, R70; the monitor of RESETREQ_N runs wherever the always-on domain has power. -/
def Obligations.RailsAndResetPin : Prop :=
  (∀ (r : Rail) (s : State), exec (.railOverload r) s = .next { s with supply := { s.supply with
    ovl33 := s.supply.ovl33 || (r == .vio33 && s.supply.rail33), ovl18 := s.supply.ovl18 || (r == .vio18 && s.supply.rail18) } }) ∧
  (∀ (r : Rail) (s : State), exec (.railOverloadEnd r) s = .next { s with supply := { s.supply with
    ovl33 := s.supply.ovl33 && r != .vio33, ovl18 := s.supply.ovl18 && r != .vio18 } }) ∧
  (∀ s : State, exec .resetreqFallingEdge s = .next { s with resetReq := { s.resetReq with high := false, qualifying := s.resetReq.armed } }) ∧
  (∀ s : State, exec .resetreqRisingEdge s = .next { s with resetReq := { s.resetReq with high := true, qualifying := false } }) ∧
  (∀ s : State, s.alwaysOn = true → s.resetReq.high = true → s.resetReq.episode = false →
    exec .resetreqArm s = .next { s with resetReq := { s.resetReq with armed := true } }) ∧
  (∀ s : State, s.resetReq.episode = true → exec .resetreqArm s = .next s) ∧
  (∀ s : State, s.alwaysOn = true → s.resetReq.high = false → s.resetReq.episode = false →
    ∃ t, exec .resetreqStuck s = .next t ∧
      t.resetReq = { s.resetReq with stuck := true, episode := true, armed := false, qualifying := false, recordDue := s.resetReq.recordDue || !s.fb.isOpen } ∧
      t.fb = (if s.fb.isOpen then (s.form 0x0102 1 120 0xFFFF 5000 0).fb else s.fb) ∧ t = { s with resetReq := t.resetReq, fb := t.fb }) ∧
  (∀ s : State, s.resetReq.episode = true → exec .resetreqStuck s = .next s) ∧
  (∀ s : State, s.mode ≠ .off → s.mode ≠ .laidUp → s.resetReq.high = true → s.resetReq.episode = true →
    ∃ t, exec .resetreqStuckRearm s = .next t ∧ t.resetReq = { s.resetReq with episode := false, armed := true } ∧
      t.fb = (s.form 0x0102 2 120 0xFFFF 0 0).fb ∧ t = { s with resetReq := t.resetReq, fb := t.fb }) ∧
  (∀ s : State, s.alwaysOn = true → (s.mode = .off ∨ s.mode = .laidUp) → s.resetReq.high = true → s.resetReq.episode = true →
    exec .resetreqStuckRearm s = .next { s with resetReq := { s.resetReq with episode := false, armed := true } })

/-- R71, R74, R75, R95, R97, R235, R461, R463, R482. -/
def Obligations.StartupSteps : Prop :=
  (∀ (failed : Nat) (s : State), s.mode = .boot → s.start.imageOk = true → s.start.bistPassed = false → s.start.bistFailed = 0 → failed < 32 →
    exec (.startupBistComplete failed) s = .next { s with
      mode := .plat, start := { s.start with bistPassed := failed == 0, bistFailed := failed, opAtBoot := s.fb.opMs },
      bist := { s.bist with keysValid := true } }) ∧
  (∀ (jedec again : Nat) (a b : ReadTry) (s : State), s.mode = .plat → s.installReady = false → s.plat.candidates = [] →
    (badJedec jedec = true ∧ badJedec again = true ∨ readLost a = true ∧ readLost b = true) →
    ∃ t, exec (.platHeaderRead ⟨jedec, again⟩ a b) s = .next t ∧ t.mode = .faultHold ∧ t.plat.recovery = true ∧ t.plat.copy = 2 ∧
      t.plat.result = #v[2, 2] ∧ t.start.reduced = true ∧ t.kept = s.kept) ∧
  (∀ (jedec again : Nat) (a b : ReadTry) (s : State), s.mode = .plat → s.installReady = false → s.plat.candidates = [] →
    (badJedec jedec = false ∨ badJedec again = false) → readLost a = false → readLost b = true →
    headerResult s.start.imageVersion (Memory.readBytes s.plat.flash 0 96) = 0 →
    ∃ t, exec (.platHeaderRead ⟨jedec, again⟩ a b) s = .next t ∧ t.mode = .plat ∧ t.plat.candidates = [0] ∧ t.plat.result = #v[1, 2] ∧
      t.plat.headers = #v[some (parseHeader (Memory.readBytes s.plat.flash 0 96)), none] ∧
      t.plat.serials = #v[some (parseHeader (Memory.readBytes s.plat.flash 0 96)).serial, none] ∧ t = { s with plat := t.plat }) ∧
  (∀ s : State, (s.mode = .plat ∨ s.mode = .load ∨ s.mode = .staking ∨ (s.mode = .boot ∧ s.start.noImage = false)) →
    exec .stateLimitExpiry s = .next ({ s with start := { s.start with limitExpired := some s.mode } } : State).enterFaultHold) ∧
  (∀ (busy : Vector Nat 20) (s : State), s.mode = .load →
    ∃ t, exec (.mckPhaseTraining busy) s = .next t ∧ t = { s with start := { s.start with mckPhase := t.start.mckPhase } } ∧
      ∀ i : Fin 20, t.start.mckPhase[i.val] = if s.start.mckPhase[i.val] = 16 then phaseFor busy[i.val] else s.start.mckPhase[i.val]) ∧
  (∀ s : State, s.mode = .load → s.linkUp = true → s.base.enginesLoaded = true → s.phasesTrained = true →
    (∀ l : Leg, s.populated l = true → s.role ≠ .standby → s.ring[l.val].available = true → s.ring[l.val].loaded = true) →
    ∃ t, exec .loadComplete s = .next t ∧ t = { s with mode := .staking, ring := t.ring, base := { s.base with c2f := t.base.c2f } } ∧
      (s.role = .standby → t.ring = s.ring) ∧
      ∀ l : Leg, (s.role = .standby ∨ s.populated l = false ∨ s.ring[l.val].available = false → t.ring[l.val] = s.ring[l.val]) ∧
        (s.role ≠ .standby → s.populated l = true → s.ring[l.val].available = true →
          t.ring[l.val].passes = 1 ∧ t.ring[l.val].chain = s.ring[l.val].chain ∧ t.ring[l.val].due = s.ring[l.val].due ++
            [{ fromB := s.ownEnd, cmd := 0x02, stake := 0, payload := [], retry := 0, seq := 0 },
             { fromB := s.ownEnd, cmd := 0x01, stake := 0xFF, payload := s.stakePayload l s.ownEnd, retry := 0, seq := 0 }])) ∧
  (∀ s : State, s.mode = .staking → (∀ l : Leg, s.legResolved l = true ∧ s.legReady l = true) → (∃ l : Leg, s.ring[l.val].available = true) →
    s.start.learnedRead = true →
    exec .surveyedEntry s = .next { s with
      mode := .surveyed, sf := { s.sf with tps := Vector.replicate 4 true }
      bist := { s.bist with run := if s.bist.enable then 1 else 3, passStart := s.fb.opMs } }) ∧
  (∀ s : State, s.mode = .staking → (∀ l : Leg, s.legResolved l = true) → (∀ l : Leg, s.ring[l.val].available = false) →
    exec .surveyedEntry s = .next s.enterFaultHold) ∧
  (∀ s : State, s.enterFaultHold.mode = .faultHold ∧ (∀ p : Phase, s.enterFaultHold.pwm[p.val].on = false) ∧
    (∀ l : Leg, s.enterFaultHold.cle[l.val].running = false ∧ s.enterFaultHold.conv[l.val].st.live = false ∧ s.enterFaultHold.conv[l.val].pwmen = false) ∧
    s.enterFaultHold.kept = s.kept)

/-- R83, R95 to R102, R443, R447, R450. -/
def Obligations.PlatAndImage : Prop :=
  (∀ (back : List Byte) (s : State) (e : InstallEntry), s.mode = .plat → s.governing = some e → e.ready = true →
    s.stagedHeader.serial = e.serial → s.stagedHeader.bodyHash.take 12 = e.hash →
    (∃ t, exec (.platInstallProgram back) s = .next t ∧
      t.plat.flash = Memory.program (Memory.erase s.plat.flash (platBase (e.target % 2)) ((s.stagedCopy.length + 4095) / 4096 * 4096))
        (platBase (e.target % 2)) back ∧
      t.plat.installed = (s.plat.installed || back == s.stagedCopy) ∧ t.mode = .plat ∧ t.fuses = s.fuses ∧ t.pending = s.pending)) ∧
  (∀ (back : List Byte) (s : State) (e : InstallEntry), s.mode = .plat → s.governing = some e → e.ready = true →
    s.stagedHeader.serial ≠ e.serial →
    ∃ t, exec (.platInstallProgram back) s = .next t ∧ t.plat = { s.plat with installFail := true } ∧ t.mode = .plat ∧ t.fuses = s.fuses) ∧
  (∀ (c : Nat) (rest : List Nat) (h : PlatHeader) (read : ReadTry) (s : State), s.mode = .plat → s.plat.candidates = c :: rest →
    s.plat.headers.toList.getD c none = some h → readLost read = false →
    (bodyResult (fun id => (State.reset.object id).isSome) h (Memory.readBytes s.plat.flash (platBase c + 96) h.bodyLen)).code = 0 →
    ∃ t, exec (.platBodyCheck read) s = .next t ∧ t.plat.copy = c ∧ t.plat.header = some h ∧ t.plat.bodyCommand = h.command ∧
      t.plat.recs = (bodyResult (fun id => (State.reset.object id).isSome) h (Memory.readBytes s.plat.flash (platBase c + 96) h.bodyLen)).recs ∧
      (t.mode = .load ∨ t.mode = .faultHold) ∧ t.kept = s.kept) ∧
  (∀ (c : Nat) (rest : List Nat) (h : PlatHeader) (read : ReadTry) (s : State), s.mode = .plat → s.plat.candidates = c :: rest →
    s.plat.headers.toList.getD c none = some h → readLost read = true → (rest = [] ∨ h.noFallback = true) →
    ∃ t, exec (.platBodyCheck read) s = .next t ∧ t.mode = .faultHold ∧ t.plat.recovery = true ∧ t.plat.candidates = [] ∧ t.kept = s.kept) ∧
  (∀ (pa pb : PortProbe) (fault : Nat) (s : State), s.mode = .boot → s.start.imageOk = false → s.start.noImage = false →
    ∃ t, exec (.bootSlotSelect pa pb fault) s = .next t ∧ t.mode = .boot ∧ (t.start.imageOk = true ∨ t.start.noImage = true) ∧ Goes s.kept t.kept)

/-- R49, R461 to R471. -/
def Obligations.SelfTestRuns : Prop :=
  (∀ s : State, s.bistRuns = true → s.time.frame % 20 = 13 → s.bist.inSlice = false → s.slotSkipped false = false → s.bist.slice ≠ 511 →
    exec (.bistSlice false true) s = .next { s with bist := { s.bist with
      run := 1, inSlice := true, keysValid := false, slice := (s.bist.slice + 1) % 512, retest := false } }) ∧
  (∀ s : State, s.bistRuns = true → s.time.frame % 20 = 13 → s.bist.inSlice = false → s.slotSkipped false = false → s.bist.slice = 511 →
    ∃ t, exec (.bistSlice false true) s = .next t ∧ t.bist.slice = 0 ∧ t.bist.passes = incSat s.bist.passes ∧
      t.bist.lastPass = s.fb.opMs - s.bist.passStart ∧ t.bist.keysValid = false ∧ t = { s with bist := t.bist }) ∧
  (∀ s : State, s.bistRuns = true → s.time.frame % 20 = 13 → s.bist.inSlice = false → s.slotSkipped false = false → s.bist.retest = false →
    ∃ t, exec (.bistSlice false false) s = .next t ∧ t.bist.retest = true ∧ t.bist.fails = incSat s.bist.fails ∧ t.bist.slice = s.bist.slice ∧
      t.bist.keysValid = false ∧ t = { s with bist := t.bist, fb := t.fb }) ∧
  (∀ s : State, s.bistRuns = true → s.time.frame % 20 = 13 → s.bist.inSlice = false → ∀ ok : Bool,
    exec (.bistSlice true ok) s = .next { s with bist := { s.bist with skipped := incSat s.bist.skipped } }) ∧
  (∀ s : State, s.bist.keysValid = false → s.bist.keyFault = false → s.bist.debugOpen = false → s.host.held = [] →
    (exec (.keyRederivationComplete true) s = .next { s with bist := { s.bist with
        keysValid := true, rederiveFailed := false, inSlice := false, run := if s.bist.run = 2 then 3 else s.bist.run } }) ∧
    (s.bist.rederiveFailed = false →
      exec (.keyRederivationComplete false) s = .next { s with bist := { s.bist with rederiveFailed := true } }) ∧
    (s.bist.rederiveFailed = true → ∃ t, exec (.keyRederivationComplete false) s = .next t ∧ t.bist.keyFault = true ∧ t.bist.keysValid = false ∧
      t = { s with bist := t.bist, fb := t.fb })) ∧
  (∀ s : State, s.bist.run = 1 → s.bist.late = false → s.parN P.passLimit * 1000 < s.fb.opMs - s.bist.passStart →
    ∃ t, exec .bistPassLate s = .next t ∧ t.bist = { s.bist with late := true } ∧ t.events.length = s.events.length + 1 ∧
      t = { s with bist := t.bist, fb := t.fb, events := t.events }) ∧
  (∀ (sig : List Byte) (s : State), s.fuses.lifecycle = 2 → s.bist.attempts < 3 → s.bist.debugOpen = false →
    (s.mode = .staking ∨ s.mode = .load ∨ s.mode = .armed ∨ s.mode = .running ∨ s.mode = .stopping) →
    ∃ t, exec (.debugUnlock sig) s = .next t ∧ t.bist = { s.bist with challenges := s.bist.challenges + 1, attempts := s.bist.attempts + 1 } ∧
      t = { s with bist := t.bist, fb := t.fb }) ∧
  (∀ (sig : List Byte) (s : State), s.fuses.lifecycle = 2 → s.bist.attempts < 3 → s.bist.debugOpen = false → s.mode = .surveyed →
    s.par P.debugAllowed = 1 → s.unlockOk sig = true →
    ∃ t, exec (.debugUnlock sig) s = .next t ∧ t.mode = .faultHold ∧ t.bist.debugOpen = true ∧ t.bist.keysValid = false ∧ t.kept = s.kept) ∧
  (∀ (sig : List Byte) (s : State), s.fuses.lifecycle ≠ 2 ∨ 3 ≤ s.bist.attempts → exec (.debugUnlock sig) s = .next s)

/-- R20 to R22, R24, R25, R270, for the direction field die to core die and, where said, the other. -/
def Obligations.BaselineFlits : Prop :=
  (∀ (dir : BaseDir) (s : State), s.linkRuns = true → ∃ t, exec (.baselineFlitSend dir) s = .next t ∧
    t = { s with base := { s.base with f2c := t.base.f2c, c2f := t.base.c2f } } ∧ (t.dirOf dir).onWire.isSome = true ∧
    (t.dirOf (otherDir dir)).nakDue = false ∧
    ((s.dirOf dir).replaying = [] → (s.dirOf dir).pending = [] → ∃ f, (t.dirOf dir).onWire = some f ∧ f.cls = 7 ∧ f.ack = (s.dirOf (otherDir dir)).lastRx) ∧
    (∀ f, (s.dirOf dir).replaying = [] → (s.dirOf dir).pending = [f] → f.cls ≤ 4 →
      ∃ g, (t.dirOf dir).onWire = some g ∧ g.cls = f.cls ∧ g.payload = f.payload ∧ g.seq = (s.dirOf dir).nextSeq ∧
        (t.dirOf dir).nextSeq = ((s.dirOf dir).nextSeq + 1) % 256 ∧ (t.dirOf dir).pending = [])) ∧
  (∀ (f : Flit) (whole : Bool), f.bytes.length = 64 ∧ flitGood (f.arrives whole) = whole) ∧
  (∀ (f : Flit) (s : State), s.base.f2c.onWire = some f → f.cls ≤ 4 → f.seq = (s.base.f2c.lastRx + 1) % 256 → s.base.laneF2c = 15 →
    exec (.baselineFlitReceived .f2c true) s = .next { s with base := { s.base with f2c := { s.base.f2c with
      onWire := none, discarding := false, lastRx := f.seq, received := s.base.f2c.received ++ [f] } } }) ∧
  (∀ (f : Flit) (s : State), s.base.c2f.onWire = some f → f.cls ≤ 4 → f.seq = (s.base.c2f.lastRx + 1) % 256 → s.base.laneC2f = 15 →
    exec (.baselineFlitReceived .c2f true) s = .next { s with base := { s.base with c2f := { s.base.c2f with
      onWire := none, discarding := false, lastRx := f.seq, received := s.base.c2f.received ++ [f] } } }) ∧
  (∀ (f : Flit) (whole : Bool) (s : State), s.base.c2f.onWire = some f → (whole = false ∨ s.base.laneC2f ≠ 15) →
    exec (.baselineFlitReceived .c2f whole) s = .next { s with base := { s.base with
      crcErrors := incSat s.base.crcErrors, c2f := { s.base.c2f with onWire := none, discarding := true, nakDue := true } } }) ∧
  (∀ (f : Flit) (rest : List Flit) (leg : Leg) (frame sample : Nat) (sp : SetPoint) (s : State),
    s.base.c2f.received = f :: rest → f.payload = .setPoint leg frame sample sp → f.cls = 1 → s.base.fieldLost = false → s.latchPassed f.tag = false →
    ∃ t, exec (.baselineFlitRelease .c2f .ns400) s = .next t ∧ t.cle[leg.val].words = s.cle[leg.val].words ++ [(frame % 1024, sample, sp)] ∧
      t = { s with base := { s.base with lateNow := false, c2f := { s.base.c2f with received := rest } }, cle := t.cle }) ∧
  (∀ (f : Flit) (rest : List Flit) (r : ReleaseAt) (s : State), s.base.c2f.received = f :: rest → f.cls = 1 → s.latchPassed f.tag = true →
    exec (.baselineFlitRelease .c2f r) s = .next { s with base := { s.base with
      lateNow := r == .later, late := incSat s.base.late, c2f := { s.base.c2f with received := rest } } }) ∧
  (∀ (tag f k : Nat) (s : State), s.grid.latched = some (f, k) → tag / 64 = f % 1024 → (s.latchPassed tag = true ↔ tag % 64 ≤ k)) ∧
  (∀ (ack : Nat) (s : State), exec (.baselineNakReceived .c2f ack) s = .next { s with base := { s.base with
    replays := incSat s.base.replays,
    c2f := { s.base.c2f with replaying := s.base.c2f.replay.filter (fun f =>
      decide (1 ≤ (f.seq + 256 - ack) % 256) && decide ((f.seq + 256 - ack) % 256 ≤ 16)) } } })

/-- R19, R23 to R27. -/
def Obligations.BaselineState : Prop :=
  (∀ (lane : Fin 4) (on : Bool) (s : State),
    exec (.baselineLaneLock .f2c lane on) s = .next { s with base := { s.base with laneF2c := setBit s.base.laneF2c lane.val on } } ∧
    exec (.baselineLaneLock .c2f lane on) s = .next { s with base := { s.base with laneC2f := setBit s.base.laneC2f lane.val on } }) ∧
  (∀ s : State, s.linkRuns = true → s.linkUp = true → s.base.supervised = false →
    ∃ t, exec .baselineUp s = .next t ∧ t = { s with base := { s.base with supervised := true, c2f := t.base.c2f } } ∧
      (t.base.c2f.pending.drop s.base.c2f.pending.length).map (fun f => (f.cls, f.payload)) =
        ([0, 1, 2, 3] : List Leg).map (fun l => (4, Payload.microcode l))) ∧
  (∀ s : State, s.base.supervised = true → s.base.fieldLost = false → s.mode = .running →
    ∃ t, exec .baselineLossField s = .next t ∧ t.base = { s.base with fieldLost := true, ramping := true, i0 := s.fld.legMa, frames := 0, zeroRun := 0 } ∧
      t.mode = .running ∧ t.kept = s.kept) ∧
  (∀ s : State, s.base.supervised = true → s.base.fieldLost = false → (s.mode = .surveyed ∨ s.mode = .armed ∨ s.mode = .faultHold) →
    ∃ t, exec .baselineLossField s = .next t ∧ t.base = { s.base with fieldLost := true } ∧
      (∀ k : Fin 4, t.sf.legPwm[k.val] = false) ∧ (∀ c : Fin 8, t.sf.output[c.val].driven = false) ∧ t.sf.fresh = false ∧ t.kept = s.kept) ∧
  (∀ s : State, s.base.ramping = true → ∃ t, exec .autonomyPermitDrop s = .next t ∧ t.base.ramping = false ∧ t.base.autonomy = true ∧
    (∀ k : Fin 4, t.sf.legPwm[k.val] = false) ∧ (∀ c : Fin 8, t.sf.output[c.val].driven = false) ∧ t.kept = s.kept) ∧
  (∀ s : State, s.base.supervised = true → s.base.coreLost = false → s.mode = .surveyed → s.twinMember = false →
    ∃ t, exec .baselineLossCore s = .next t ∧ t.base.coreLost = true ∧ t.base.lost = true ∧ t.mode = .faultHold ∧
      t.events.length = s.events.length + 1 ∧ t.kept = s.kept) ∧
  (∀ s : State, s.base.coreLost = true → s.mode = .stopping → exec .baselineLossHoldExpiry s = .next s.enterFaultHold) ∧
  (∀ (r : EccRegion) (s : State), exec (.memoryEccCorrected r) s = .next { s with base := { s.base with eccCorrected := incSat s.base.eccCorrected } }) ∧
  (∀ (leg : Leg) (s : State), ∃ t, exec (.memoryEccUncorrectable (.cle leg)) s = .next t ∧ t.conv[leg.val].st = .fault ∧ t.conv[leg.val].cause = 9 ∧
    t.pwm[(phaseA leg).val].on = false ∧ t.pwm[(phaseB leg).val].on = false ∧ t.kept = s.kept) ∧
  (∀ (leg : Leg) (s : State), ∃ t, exec (.memoryEccUncorrectable (.ring leg)) s = .next t ∧ t.ring[leg.val].flight[0] = none ∧ t.ring[leg.val].flight[1] = none ∧
    t.conv = s.conv ∧ t.kept = s.kept) ∧
  (∀ s : State, s.mode = .surveyed → s.twinMember = false →
    ∃ t, exec (.memoryEccUncorrectable .coreSram) s = .next t ∧ t.mode = .faultHold ∧ bitAt t.sf.stopCause 0 = true ∧ t.kept = s.kept)

/-- R33, R35 to R37, R39, R40, R51, R54. -/
def Obligations.SampleGrid : Prop :=
  (∀ s : State, s.mode ≠ .off → s.mode ≠ .laidUp → s.grid.sample + 1 < s.nSamples →
    ∃ t, exec .sampleBoundary s = .next t ∧ t.grid.sample = s.grid.sample + 1 ∧
      t.grid.stamp = (s.stampAfter ((s.period : Int) + s.grid.adjust s.maxAdjust).toNat).1 ∧
      (s.grid.source = 2 → t.grid.slew = s.grid.slew - clampInt (-((s.period : Int) / 200)) ((s.period : Int) / 200) s.grid.slew) ∧
      t.time.meridian = max s.time.meridian t.grid.stamp ∧ t.time.frame = s.time.frame ∧
      t = { s with grid := t.grid, time := t.time, base := { s.base with ahead := t.base.ahead, c2f := t.base.c2f } }) ∧
  (∀ (at' last : Nat) (s : State), (s.mode = .load ∨ s.mode = .staking ∨ s.mode = .surveyed ∨ s.mode = .armed ∨ s.mode = .running) → s.role = .active →
    s.grid.syncinLast = some last → s.grid.syncinValid = false → s.grid.syncinGood < 63 →
    ∃ t, exec (.syncinEdge at') s = .next t ∧ t.grid.syncinLast = some at' ∧ t.time.meridian = max s.time.meridian at' ∧
      t.grid.syncinGood = (if 100 * ((4 * ((at' : Int) - last) - 5 * s.period).natAbs : Int) ≤ 5 * s.period then s.grid.syncinGood + 1 else 0) ∧
      t.grid.syncinValid = false ∧ t = { s with grid := t.grid, time := t.time }) ∧
  (∀ s : State, ∃ t, exec .syncinLoss s = .next t ∧ t.grid.syncinValid = false ∧ t.grid.syncinLast = none ∧ t.grid.syncinGood = 0 ∧
    t = { s with grid := t.grid }) ∧
  (∀ s : State, (s.mode = .load ∨ s.mode = .staking ∨ s.mode = .surveyed ∨ s.mode = .armed ∨ s.mode = .running ∨ s.mode = .stopping ∨ s.mode = .faultHold) →
    s.secondNear = true →
    exec .ppsOutSecond s = .next { s with time := { s.time with
      meridian := (s.time.meridian / ticksPerSecond + 1) * ticksPerSecond, ppsOut := s.time.ppsOut + 1 } }) ∧
  (∀ (at' : Nat) (s : State), exec (.ppsInEdge at') s = .next { s with time := { s.time.reach s.ppsDriven at' with ppsIn := at' } })

/-- R52 to R54, R402, R403. -/
def Obligations.PtpMessages : Prop :=
  (∀ (a : Announce) (s : State), s.ptpRuns = true → (a.domain : Int) = s.par P.ptpDomain → a.steps < 255 →
    ∃ t, exec (.ptpAnnounceReceived a) s = .next t ∧
      t.net.ptp.masters = s.net.ptp.masters.filter (fun b => !(b.lan == a.lan && b.identity == a.identity)) ++ [a] ∧
      t = { s with net := { s.net with ptp := t.net.ptp }, fb := t.fb }) ∧
  (∀ (lan : Fin 2) (m : List Byte) (q t2 : Nat) (c : Int) (s : State), s.ptpRuns = true → s.net.ptp.lan = lan.val → s.net.ptp.selected = some m →
    exec (.ptpSyncReceived lan m q t2 c) s = .next { s with
      time := s.time.reach s.ppsDriven t2
      net := { s.net with ptp := { s.net.ptp with sync := some (q, (t2 : Int) * 4 - s.par P.phyDelayRx 0xFF lan.val, c) } } }) ∧
  (∀ (lan : Fin 2) (m : List Byte) (q : Nat) (t1 c t2 c2 : Int) (s : State), s.ptpRuns = true → s.net.ptp.lan = lan.val → s.net.ptp.selected = some m →
    s.net.ptp.sync = some (q, t2, c2) →
    (s.net.ptp.upPath = none → exec (.ptpFollowUpReceived lan m q t1 c) s = .next { s with net := { s.net with ptp := { s.net.ptp with
      sync := none, down := some (t2 - t1 - c - c2), upAge := s.net.ptp.upAge + 1 } } }) ∧
    (∀ up, s.net.ptp.upPath = some up → s.net.ptp.upAge < 16 →
      ∃ t, exec (.ptpFollowUpReceived lan m q t1 c) s = .next t ∧ t.net.ptp.path = satI32 (roundDiv (t2 - t1 - c - c2 + up) 2) ∧
        t.time.offset = satI32 (roundDiv (t2 - t1 - c - c2 - up) 2) ∧ t.time.holdover = false ∧ t.kept = s.kept)) ∧
  (∀ (t3 : Nat) (s : State), s.ptpRuns = true → s.net.ptp.selected.isSome = true →
    exec (.ptpDelayReqSend t3) s = .next { s with
      time := s.time.reach s.ppsDriven t3
      net := { s.net with ptp := { s.net.ptp with
        delayReq := some (s.net.ptp.reqSeq, (t3 : Int) * 4 + s.par P.phyDelayTx 0xFF s.net.ptp.lan), reqSeq := (s.net.ptp.reqSeq + 1) % 65536 } } }) ∧
  (∀ (lan : Fin 2) (m : List Byte) (q : Nat) (t4 c t3 : Int) (s : State), s.ptpRuns = true → s.net.ptp.lan = lan.val → s.net.ptp.selected = some m →
    s.net.ptp.delayReq = some (q, t3) →
    ∃ t, exec (.ptpDelayRespReceived lan m q t4 c) s = .next t ∧ t.net.ptp.upPath = some (t4 - t3 - c) ∧ t.net.ptp.upAge = 0 ∧ t.net.ptp.delayReq = none ∧
      t = { s with net := { s.net with ptp := { s.net.ptp with delayReq := none, upPath := t.net.ptp.upPath, upAge := 0, path := t.net.ptp.path } } }) ∧
  (∀ s : State, s.ptpRuns = true → ∃ t, exec .ptpSyncTimeout s = .next t ∧ t.time.locked = false ∧ t.time.holdover = true ∧ t.time.inLock = 0 ∧
    t = { s with time := t.time, grid := t.grid, fb := t.fb }) ∧
  (∀ (lan : Fin 2) (m : List Byte) (s : State), ∃ t, exec (.ptpMasterTimeout lan m) s = .next t ∧
    t.net.ptp.masters = s.net.ptp.masters.filter (fun b => !(b.lan == lan.val && b.identity == m)) ∧
    t = { s with net := { s.net with ptp := t.net.ptp }, fb := t.fb }) ∧
  (∀ s : State, s.ptpRuns = true → s.par P.ptpLan = 2 → (bestMaster (1 - s.net.ptp.lan) s.net.ptp.masters).isSome = true →
    ∃ t, exec .ptpPortFailover s = .next t ∧ t.net.ptp.lan = 1 - s.net.ptp.lan ∧ t = { s with net := { s.net with ptp := t.net.ptp }, fb := t.fb })

/-- R33 to R35, R40, R44, R45, R62, R382. -/
def Obligations.FrameBegins : Prop :=
  (∀ s : State, s.grid.sample < s.nSamples →
    s.beginFrame.grid.sample = 0 ∧ s.beginFrame.time.frame = (s.time.frame + 1) % 2 ^ 32 ∧ s.beginFrame.fb = { s.fb with opMs := s.fb.opMs + 1 } ∧
    s.beginFrame.win.now = Vector.replicate 6 false ∧ s.beginFrame.time.frameStamp = s.beginFrame.grid.stamp ∧
    s.beginFrame = { s with grid := s.beginFrame.grid, time := s.beginFrame.time, win := s.beginFrame.win, fb := s.beginFrame.fb
                            base := { s.base with ahead := s.beginFrame.base.ahead, c2f := s.beginFrame.base.c2f } }) ∧
  (∀ (l : FieldLatch) (s : State), s.mode ≠ .off → s.mode ≠ .laidUp → s.start.lastGasp = true →
    exec (.frameBoundary l) s = .next s.twinBoundary.beginFrame) ∧
  (∀ (l : FieldLatch) (s : State), s.mode ≠ .off → s.mode ≠ .laidUp → s.start.lastGasp = false →
    ∃ t, exec (.frameBoundary l) s = .next t ∧ t.kept = s.kept ∧ t.fld = s.fld.latch l (s.trained l.md) s.therm.tachNow ∧ t.lat = s.lat ∧
      t.therm.tachNow = Vector.replicate 4 0 ∧
      t = (allLegs.foldl (fun (u : State) g => (u.modConv g (LegConv.derate (u.parN P.ovlStep g.val))).modRing g Ring.takeDistances)
        ((s.twinBoundary.beginFrame).fieldBoundary l)).takeOffsets.takeWrites) ∧
  (∀ (l : FieldLatch) (s : State), (s.mode = .off ∨ s.mode = .laidUp) → exec (.frameBoundary l) s = .next s)

/-- R28, R41, R42, R46, R48, R99, R289, R290, R306, R310, R383. -/
def Obligations.WindowWork : Prop :=
  (∀ s : State, s.windowed = true →
    ∃ t, exec .windowW0Seal s = .next t ∧ t.host = { s.host with admitted := 0 } ∧ t.canSealed = ((s.at' s.sealStamp).canSeal (s.at' s.sealStamp).sealCut).canSealed ∧
      t.base.inbox = [] ∧ s.sealStamp ≤ t.time.meridian ∧ t.kept = s.kept) ∧
  (∀ s : State, s.windowed = true → s.base.coreLost = false → s.role = .active → s.base.inbox = [] →
    ∃ t, exec .windowW0Seal s = .next t ∧ t.lat = s.lat ∧ t.sf.imgSfi = s.sf.imgSfi ∧ t.eleg.map (fun e => e.acc) = s.eleg.map (fun e => e.acc)) ∧
  (∀ s : State, s.safetyRuns = true →
    ∃ t f, exec .windowW1Safety s = .next t ∧ t.base.c2f.pending.getLast? = some f ∧ f.cls = 0 ∧
      f.payload = .bytes t.sf.permit ∧ f.tag = t.time.frame % 65536 ∧ (∀ l : Leg, t.diag[l.val].sealed = []) ∧ t.kept = s.kept) ∧
  (∀ s : State, s.enginesRun = true → s.win.now[2] = false → s.twin.step.paired = false →
    ∃ t, exec .windowW2Estimation s = .next t ∧ t.win.w2Done = true ∧ t.win.frozen = false ∧ t.win.w2Run = 0 ∧ t.kept = s.kept) ∧
  (∀ s : State, s.windowed = true → s.canMapApply.enginesRun = false → exec .windowW3Dispatch s = .next s.canMapApply) ∧
  (∀ s : State, s.windowed = true → s.canMapApply.enginesRun = true →
    ∃ t, exec .windowW3Dispatch s = .next t ∧ t = s.canMapApply.steer.takeRequest.commitProbes ∧ t.kept = s.kept) ∧
  (∀ s : State, s.windowed = true → s.enginesRun = true →
    ∃ t, exec .windowW4Outputs s = .next t ∧ t = s.writeWords.setFans.canChanges.sendEvents.sendReplies ∧ t.kept = s.kept) ∧
  (∀ s : State, s.windowed = true → s.enginesRun = false → exec .windowW4Outputs s = .next s.canChanges.sendEvents.sendReplies) ∧
  (∀ s : State, s.windowed = true →
    ∃ t, exec .windowW5Store s = .next t ∧ t = ((s.sendFrameWords.modFb FieldBook.takeFormed).bookNext).archivePlat.trialFrame ∧ Goes s.kept t.kept)

/-- R44 to R50. -/
def Obligations.OverrunsAndDrains : Prop :=
  (∀ (w : Fin 6) (us : Nat) (s : State), s.windowed = true → s.win.now[w.val] = true → exec (.windowOverrun w us) s = .next s) ∧
  (∀ (w : Fin 6) (us : Nat) (s : State), s.windowed = true → s.win.now[w.val] = false → 3 ≤ w.val → s.win.since[w.val] < 10 →
    ∃ t, exec (.windowOverrun w us) s = .next t ∧ t.win.count[w.val] = incSat s.win.count[w.val] ∧ t.win.now[w.val] = true ∧ t.win.any = true ∧
      t = { s with win := t.win }) ∧
  (∀ (w : Fin 6) (us : Nat) (s : State), s.windowed = true → s.win.now[w.val] = false → 3 ≤ w.val → 10 ≤ s.win.since[w.val] →
    ∃ t, exec (.windowOverrun w us) s = .next t ∧ t.win.any = true ∧ t = { s with win := t.win, fb := t.fb } ∧
      t.fb = (({ s with win := t.win } : State).form 0x0202 w.val 25 0xFFFF t.win.count[w.val] us).fb) ∧
  (∀ (us : Nat) (s : State), s.windowed = true → s.win.now[2] = false → s.enginesRun = true → s.win.since[2] < 10 → s.win.w2Run < 8 →
    s.twin.step.paired = false → s.twinMember = false →
    ∃ t, exec (.windowOverrun 2 us) s = .next t ∧ t.win.frozen = true ∧ t.win.w2Run = s.win.w2Run + 1 ∧ t = { s with win := t.win }) ∧
  (∀ (us : Nat) (s : State), s.windowed = true → s.win.now[0] = false → s.win.now[1] = false → s.win.safetyRun = 0 → s.win.since[1] < 10 →
    ∃ t, exec (.windowOverrun 1 us) s = .next t ∧ t.win.safety = true ∧ t.win.safetyRun = 1 ∧ t = { s with win := t.win }) ∧
  (∀ (l : Leg) (s : State), (s.ring[l.val].due.any (fun d => d.cmd == 0x20)) = false →
    ∃ t, exec (.functionDrainComplete (.balancing l)) s = .next t ∧ t.diag[l.val] = { s.diag[l.val] with draining := false } ∧ t = { s with diag := t.diag }) ∧
  (∀ s : State, s.upd.session = 3 → s.upd.enable = false →
    exec (.functionDrainComplete .update) s = .next { s with upd := { s.upd with session := 4 } }) ∧
  (∀ s : State, s.bist.run = 2 → s.bist.inSlice = false →
    exec (.functionDrainComplete .bist) s = .next { s with bist := { s.bist with run := 3 } }) ∧
  (∀ (p : Fin 2) (s : State), s.probe[p.val].phase = .idle →
    ∃ t, exec (.functionDrainComplete (.probe p)) s = .next t ∧ t.probe[p.val] = { s.probe[p.val] with draining := false } ∧ t = { s with probe := t.probe }) ∧
  (∀ (i : Fin 4) (s : State), s.axis[i.val].st = .stopping → s.axis[i.val].enable = false → s.axis[i.val].v = 0 →
    ∃ t, exec (.functionDrainComplete (.axis i)) s = .next t ∧ t.axis[i.val] = { s.axis[i.val] with st := .disabled } ∧ t = { s with axis := t.axis })

/-- R139, R140, R142, R145, R146, R175, R189. -/
def Obligations.VoltageRounds : Prop :=
  (∀ (k : RoundKind) (tp : Nat) (ph : List Nat) (s : State), k.probe = none → k.regular = true → s.overlapsExtra tp = false →
    ∃ t, exec (.voltageRound k tp ph) s = .next t ∧ t = { s with ring := t.ring, base := { s.base with c2f := t.base.c2f } } ∧
      ∀ l : Leg,
        (s.measurable l = true → s.regularAt l tp = true → s.ring[l.val].unreadCount < 4 →
          t.ring[l.val].round = (s.ring[l.val].round + 1) % 256 ∧
          t.ring[l.val].unread = s.ring[l.val].unread ++
            [{ round := (s.ring[l.val].round + 1) % 256, regular := true, tp := tp, v := 0, i := 0, acc := 0, n := 0, probe := none, edge := none
               out := s.endsInUse l, left := s.endsInUse l }]) ∧
        (s.measurable l = false ∨ s.regularAt l tp = false ∨ 4 ≤ s.ring[l.val].unreadCount → t.ring[l.val] = s.ring[l.val])) ∧
  (∀ (i : Fin 4) (e tp : Nat) (ph : List Nat) (s : State), s.edgeFor i tp = some e →
    ∃ t, exec (.voltageRound { regular := false, probe := some i } tp ph) s = .next t ∧
      t = { s with ring := t.ring, base := { s.base with c2f := t.base.c2f } } ∧
      ∀ l : Leg, s.measurable l = true → s.ring[l.val].unreadCount < 4 →
        t.ring[l.val].unread = s.ring[l.val].unread ++
          [{ round := (s.ring[l.val].round + 1) % 256, regular := false, tp := tp, v := 0, i := 0, acc := 0, n := 0, probe := some i.val, edge := some e
             out := s.endsInUse l, left := s.endsInUse l }]) ∧
  (∀ (tp : Nat) (ph : List Nat) (s : State), (s.overlapsExtra tp = true ∨ ∀ l : Leg, s.regularAt l tp = false) →
    exec (.voltageRound { regular := true, probe := none } tp ph) s = .next s) ∧
  (∀ (i : Fin 4) (tp : Nat) (ph : List Nat) (s : State), s.edgeFor i tp = none →
    exec (.voltageRound { regular := false, probe := some i } tp ph) s = .next s) ∧
  (∀ (tp : Nat) (c : PlumbCap) (u : RoundInfo) (s : State), s.ring[0].unread = [u] → u.tp = tp → u.captured = false → u.probe = none →
    ∃ t v, exec (.plumbCapture tp [c]) s = .next t ∧ t.ring[0].unread = [v] ∧ v.v = interpolate c.v0 c.v1 c.num c.den ∧
      v.i = interpolate c.i0 c.i1 c.num c.den ∧ v.captured = true ∧ v.round = u.round ∧ t = { s with ring := t.ring, eleg := t.eleg })

/-- R149, R150, R152, R154, R158, R161, R163, R164, R177, R183. -/
def Obligations.MeasurementTimers : Prop :=
  (∀ (l : Leg) (s : State), s.diag[l.val].closureFail = true → s.diag[l.val].holdExpired = false →
    exec (.closureHoldExpiry l) s = .next ((s.modDiag l (fun d => { d with holdExpired := true })).startDrain l (.fault 8))) ∧
  (∀ (l : Leg) (k line : Nat) (b : Bool) (s : State), bitAt (s.sdiagAt l k).openWires line = true → s.role ≠ .standby → s.endsInUse l = [b] →
    ∃ t d, exec (.openWireRetest l k line) s = .next t ∧ t = { s with ring := t.ring, base := { s.base with c2f := t.base.c2f } } ∧
      t.ring[l.val].due = s.ring[l.val].due ++ [d,
        { fromB := s.endOf l k, cmd := 0x30, stake := k, payload := leBytes 4 (2 ^ line), retry := 0, seq := 0 }] ∧
      d.fromB = b ∧ d.cmd = 0x20 ∧ d.stake = 0) ∧
  (∀ (l : Leg) (k line : Nat) (s : State), bitAt (s.sdiagAt l k).openWires line = false → exec (.openWireRetest l k line) s = .next s) ∧
  (∀ (l : Leg) (b : Bool) (s : State), s.measurable l = true → s.mode = .surveyed → s.role ≠ .standby → s.endsInUse l = [b] →
    ∃ t, exec (.balSwitchTestSchedule l none) s = .next t ∧ t.diag[l.val].swEven = !s.diag[l.val].swEven ∧
      t.ring[l.val].due.length = s.ring[l.val].due.length + 2 ∧
      t = { s with ring := t.ring, diag := t.diag, base := { s.base with c2f := t.base.c2f } }) ∧
  (∀ s : State, s.role ≠ .standby →
    ∃ t, exec .tempSlowRound s = .next t ∧ t = { s with ring := t.ring, diag := t.diag, base := { s.base with c2f := t.base.c2f } } ∧
      ∀ l : Leg, s.measurable l = true → s.endsInUse l ≠ [] → s.ring[l.val].due.length < t.ring[l.val].due.length) ∧
  (∀ s : State, s.role ≠ .standby →
    ∃ t, exec .fastListRound s = .next t ∧ t = { s with ring := t.ring, base := { s.base with c2f := t.base.c2f } } ∧
      ∀ (l : Leg) (k : Nat) (b : Bool), s.measurable l = true → s.fastList l = [k] → s.endsInUse l = [b] → s.reaches l b k = true →
        t.ring[l.val].due.length = s.ring[l.val].due.length + 1) ∧
  (∀ (l : Leg) (k : Nat) (s : State), (s.validTemps l k).any (fun t => s.nearThreshold l t) = false →
    ∃ t, exec (.fastListLeave l k) s = .next t ∧ (t.sdiagAt l k).fast = false ∧ t = { s with sdiag := t.sdiag }) ∧
  (∀ (i : Nat) (s : State), exec (.tempStaleTimeout i) s = .next { s with temps := modKey {} i (fun p => { p with t := tInvalid }) s.temps }) ∧
  (∀ s : State, (∀ l : Leg, s.mayBalance l = false ∧ s.diag[l.val].balancing = false) → exec .balancePhaseBoundary s = .next s) ∧
  (∀ (b : Bool) (s : State), s.mayBalance 0 = true → s.diag[0].draining = false → s.phaseOver 0 = true → s.endsInUse 0 = [b] → s.role ≠ .standby →
    (∀ l : Leg, l ≠ 0 → s.populated l = false ∧ s.diag[l.val].balancing = false) →
    ∃ t d, exec .balancePhaseBoundary s = .next t ∧ t.diag[0].balancing = true ∧ t.diag[0].phaseAt = some s.time.frame ∧
      t.ring[0].due.head? = some d ∧ d.cmd = 0x20 ∧ d.first = true ∧
      t = { s with ring := t.ring, diag := t.diag, cells := t.cells, base := { s.base with c2f := t.base.c2f } }) ∧
  (∀ (l : Leg) (s : State), s.mayCalibrate l = true →
    ∃ t, exec (.offsetCalibrationStart l) s = .next t ∧ t.eleg[l.val] = { s.eleg[l.val] with calRunning := true } ∧ t = { s with eleg := t.eleg }) ∧
  (∀ (l : Leg) (sum : Int) (n : Nat) (s : State), s.eleg[l.val].calRunning = true → 0 < n → s.eleg[l.val].offsetKnown = false →
    ∃ t, exec (.offsetCalibrationComplete l sum n []) s = .next t ∧ t.start.offsetsDone[l.val] = true ∧
      t.eleg[l.val] = { s.eleg[l.val] with offsetDue := some ((F64.ofInt sum).div (F64.ofNat n), s.time.frame), calAt := s.time.meridian,
                                           offsetKnown := true, calNeeded := false, calRunning := false } ∧
      t = { s with start := t.start, eleg := t.eleg }) ∧
  (∀ (l : Leg) (s : State), s.eleg[l.val].rest = false → (s.eleg[l.val].mean.abs).lt ((s.parF P.restC 0xFF 0 3).mul (s.oneC l)) = true →
    ∃ t, exec (.restTimerExpiry l) s = .next t ∧ t.eleg[l.val] = { s.eleg[l.val] with rest := true, restDue := true } ∧ t = { s with eleg := t.eleg })

/-- R112, R117, R120: the seventeen commands; the station's part is TraverseStations. -/
def Obligations.TraverseFramesSent : Prop :=
  (∀ (x : RingTx) (next dir : Nat) (s : State), s.launches x 0x01 (leBytes 1 next ++ leBytes 1 dir) →
    ∃ t, exec (.traverseStake x next dir) s = .next t ∧ t = { s with ring := t.ring } ∧ s.sent x 0x01 (leBytes 1 next ++ leBytes 1 dir) t) ∧
  (∀ (x : RingTx) (s : State), s.launches x 0x02 [] →
    ∃ t, exec (.traverseUnstakeAll x) s = .next t ∧ t = { s with ring := t.ring } ∧ s.sent x 0x02 [] t) ∧
  (∀ (x : RingTx) (turn : Bool) (s : State), s.launches x 0x03 (leBytes 1 (b2n turn)) →
    ∃ t, exec (.traversePing x turn) s = .next t ∧ t = { s with ring := t.ring } ∧ s.sent x 0x03 (leBytes 1 (b2n turn)) t) ∧
  (∀ (x : RingTx) (round tag : Nat) (wait : List Nat) (s : State), s.launches x 0x10 (leBytes 1 round ++ [0] ++ leBytes 4 tag ++ (List.range 24).flatMap (fun k => leBytes 2 (nth wait k 0))) →
    ∃ t, exec (.traverseSampleAt x round tag wait) s = .next t ∧ t = { s with ring := t.ring } ∧ s.sent x 0x10 (leBytes 1 round ++ [0] ++ leBytes 4 tag ++ (List.range 24).flatMap (fun k => leBytes 2 (nth wait k 0))) t) ∧
  (∀ (x : RingTx) (round : Nat) (s : State), s.launches x 0x11 (leBytes 1 round) →
    ∃ t, exec (.traverseReadCells x round) s = .next t ∧ t = { s with ring := t.ring } ∧ s.sent x 0x11 (leBytes 1 round) t) ∧
  (∀ (x : RingTx) (s : State), s.launches x 0x12 [] →
    ∃ t, exec (.traverseReadTemps x) s = .next t ∧ t = { s with ring := t.ring } ∧ s.sent x 0x12 [] t) ∧
  (∀ (x : RingTx) (s : State), s.launches x 0x13 [] →
    ∃ t, exec (.traverseReadHousekeeping x) s = .next t ∧ t = { s with ring := t.ring } ∧ s.sent x 0x13 [] t) ∧
  (∀ (x : RingTx) (duration : Nat) (mask : List Nat) (s : State), s.launches x 0x20 (leBytes 2 duration ++ (List.range 24).flatMap (fun k => leBytes 2 (nth mask k 0))) →
    ∃ t, exec (.traverseBalanceSet x duration mask) s = .next t ∧ t = { s with ring := t.ring, diag := t.diag, sdiag := t.sdiag } ∧
      (∀ k : Nat, 1 ≤ k → k ≤ s.stations x.leg → (t.sdiagAt x.leg k).mask = if duration = 0 then 0 else nth mask (k - 1) 0) ∧ s.sent x 0x20 (leBytes 2 duration ++ (List.range 24).flatMap (fun k => leBytes 2 (nth mask k 0))) t) ∧
  (∀ (x : RingTx) (start length : Nat) (s : State), s.launches x 0x21 (leBytes 2 start ++ leBytes 2 length) →
    ∃ t, exec (.traverseQuiet x start length) s = .next t ∧ t = { s with ring := t.ring } ∧ s.sent x 0x21 (leBytes 2 start ++ leBytes 2 length) t) ∧
  (∀ (x : RingTx) (wires : Nat) (s : State), s.launches x 0x30 (leBytes 4 wires) →
    ∃ t, exec (.traverseOpenWireTest x wires) s = .next t ∧ t = { s with ring := t.ring } ∧ s.sent x 0x30 (leBytes 4 wires) t) ∧
  (∀ (x : RingTx) (mask : Nat) (s : State), s.launches x 0x31 (leBytes 2 mask) →
    ∃ t, exec (.traverseBalSwitchTest x mask) s = .next t ∧ t = { s with ring := t.ring } ∧ s.sent x 0x31 (leBytes 2 mask) t) ∧
  (∀ (x : RingTx) (ov uv : Nat) (ot ut : Int) (period : Nat) (s : State), s.launches x 0x40 (leBytes 2 ov ++ leBytes 2 uv ++ leInt 2 ot ++ leInt 2 ut ++ leBytes 2 period) →
    ∃ t, exec (.traverseSetSleepThresholds x ov uv ot ut period) s = .next t ∧ t = { s with ring := t.ring } ∧ s.sent x 0x40 (leBytes 2 ov ++ leBytes 2 uv ++ leInt 2 ot ++ leInt 2 ut ++ leBytes 2 period) t) ∧
  (∀ (x : RingTx) (key : Nat) (s : State), s.launches x 0x41 (leBytes 2 key) →
    ∃ t, exec (.traverseSleep x key) s = .next t ∧ t = { s with ring := t.ring } ∧ s.sent x 0x41 (leBytes 2 key) t) ∧
  (∀ (x : RingTx) (addr : Nat) (data : List Byte) (s : State), s.launches x 0x50 (leBytes 4 addr ++ data) → data.length ≤ 48 →
    ∃ t, exec (.traverseCodeLoad x addr data) s = .next t ∧ t = { s with ring := t.ring } ∧ s.sent x 0x50 (leBytes 4 addr ++ data) t) ∧
  (∀ (x : RingTx) (length crc version : Nat) (s : State), s.launches x 0x51 (leBytes 4 length ++ leBytes 4 crc ++ leBytes 4 version) →
    ∃ t, exec (.traverseCodeRun x length crc version) s = .next t ∧ t = { s with ring := t.ring } ∧
      t.ring[x.leg.val].codeRuns = s.ring[x.leg.val].codeRuns + b2n (!x.retry && (s.endsInUse x.leg).head? == some x.fromB) ∧ s.sent x 0x51 (leBytes 4 length ++ leBytes 4 crc ++ leBytes 4 version) t) ∧
  (∀ (x : RingTx) (addr count : Nat) (s : State), s.launches x 0x60 (leBytes 2 addr ++ leBytes 1 count) →
    ∃ t, exec (.traverseReadReg x addr count) s = .next t ∧ t = { s with ring := t.ring } ∧ s.sent x 0x60 (leBytes 2 addr ++ leBytes 1 count) t) ∧
  (∀ (x : RingTx) (addr : Nat) (values : List Nat) (s : State), s.launches x 0x61 (leBytes 2 addr ++ leBytes 1 values.length ++ values.flatMap (leBytes 2)) →
    ∃ t, exec (.traverseWriteReg x addr values) s = .next t ∧ t = { s with ring := t.ring } ∧ s.sent x 0x61 (leBytes 2 addr ++ leBytes 1 values.length ++ values.flatMap (leBytes 2)) t) ∧
  (∀ (x : RingTx) (next dir : Nat) (s : State), s.mayLaunch x 0x01 (leBytes 1 next ++ leBytes 1 dir) = false → exec (.traverseStake x next dir) s = .next s) ∧
  (∀ (x : RingTx) (round : Nat) (s : State), s.mayLaunch x 0x11 (leBytes 1 round) = false → exec (.traverseReadCells x round) s = .next s) ∧
  (∀ (x : RingTx) (duration : Nat) (mask : List Nat) (s : State), s.mayLaunch x 0x20 (leBytes 2 duration ++ (List.range 24).flatMap (fun k => leBytes 2 (nth mask k 0))) = false → exec (.traverseBalanceSet x duration mask) s = .next s) ∧
  (∀ (x : RingTx) (length crc version : Nat) (s : State), s.mayLaunch x 0x51 (leBytes 4 length ++ leBytes 4 crc ++ leBytes 4 version) = false → exec (.traverseCodeRun x length crc version) s = .next s) ∧
  (∀ (x : RingTx) (addr : Nat) (values : List Nat) (s : State), s.mayLaunch x 0x61 (leBytes 2 addr ++ leBytes 1 values.length ++ values.flatMap (leBytes 2)) = false → exec (.traverseWriteReg x addr values) s = .next s)

/-- R113 to R116, R118, R120 to R125, R135, R160, R165, R166. -/
def Obligations.TraverseStations : Prop :=
  (∀ (h : Heard) (r : RingRec) (whole : Bool), h.good whole = whole ∧ r.good whole = whole) ∧
  (∀ (st : Station) (h : Heard) (e : StationSense) (next : Nat), st.rxValid < 0xFFFF →
    (h.cmd ≠ 0x60 ∧ h.cmd ≠ 0x51 ∧ h.cmd ≠ 0x41) → (st.onGood h e next).st.rxValid = st.rxValid + 1 ∧ (st.onGood h e next).st.sleeping = false ∧
      (st.onGood h e next).st.frameLost = false) ∧
  (∀ (st : Station) (dir seq now : Nat) (fromB : Bool) (next : Nat) (e : StationSense), st.mode = 2 → st.stake = 0xFF → 1 ≤ next → next ≤ 24 →
    dir ≤ 1 →
    ∃ a : Answer, st.onGood { cmd := 0x01, stake := 0xFF, seq := seq, payload := leBytes 1 next ++ leBytes 1 dir, fromB := fromB, now := now } e next = a ∧
      a.st.stake = next ∧ a.st.reset = false ∧ a.next = (if dir = 0 then next + 1 else next - 1) ∧
      ∃ r, a.rec? = some r ∧ r.stake = next ∧ r.data = leBytes 8 st.uid ++ leBytes 2 st.hwId ++ leBytes 2 st.romVersion ++ [16, 8]) ∧
  (∀ (st : Station) (h : Heard) (e : StationSense) (next : Nat), st.mode = 2 → st.stake ≠ 0xFF → h.cmd = 0x20 →
    fieldAt 0 2 h.payload ≠ 0 →
    ∃ m r : Nat, m = fieldAt (2 + 2 * (st.stake - 1)) 2 h.payload ∧ r = refusedBits st e.dieT m ∧
      (st.execute h e next).st = { st with bleeds := m - r, refused := r } ∧
      (st.execute h e next).rec?.map (fun r => r.data) = some (leBytes 2 (m - r) ++ leBytes 2 r)) ∧
  (∀ (st : Station) (h : Heard) (e : StationSense) (next t : Nat) (r : RingRec), st.mode = 2 → st.stake ≠ 0xFF → h.stake = st.stake →
    withEffect h.cmd = true → stakeFieldOk h.cmd h.stake = true → payloadOk h.cmd h.stake h.payload = true →
    st.lastCmd = some (h.cmd, h.seq, some r, t) → h.now ≤ t + 25000000 →
    ∃ a : Answer, st.onGood h e next = a ∧
      a.st = { st.noteFaults e.faults with rxValid := incSat16 st.rxValid, frameLost := false, sleeping := false, burstAt := none, cmdErr := false, dup := true } ∧
      ∃ q, a.rec? = some q ∧ q.data = r.data ∧ q.stake = r.stake ∧ bitAt q.status 4 = true) ∧
  (∀ (st : Station) (h : Heard) (e : StationSense) (next : Nat), st.mode = 2 → st.stake ≠ 0xFF → h.stake = st.stake → h.cmd ≠ 0x01 →
    (knownCmd h.cmd = false ∨ stakeFieldOk h.cmd h.stake = false ∨ payloadOk h.cmd h.stake h.payload = false) →
    ∃ a : Answer, st.onGood h e next = a ∧
      a.st = { st.noteFaults e.faults with rxValid := incSat16 st.rxValid, frameLost := false, sleeping := false, burstAt := none, cmdErr := true, dup := false } ∧
      (hasRecord h.cmd = true → ∃ q, a.rec? = some q ∧ q.data = [] ∧ bitAt q.status 5 = true) ∧ (hasRecord h.cmd = false → a.rec? = none)) ∧
  (∀ (st : Station) (h : Heard) (e : StationSense) (next : Nat), st.mode = 2 → st.stake ≠ 0xFF →
    (h.cmd = 0x02 → (st.execute h e next).st = { st.defaults with stake := 0xFF } ∧ (st.execute h e next).rec? = none) ∧
    (h.cmd = 0x10 → ∃ w : Nat, w = fieldAt (6 + 2 * (st.stake - 1)) 2 h.payload ∧ (st.execute h e next).st =
      ({ st with sampling := some (fieldAt 0 1 h.payload, fieldAt 2 4 h.payload, w) } : Station).hold h.now h.now (h.now + sampleHold w)) ∧
    (h.cmd = 0x21 → (st.execute h e next).st = st.hold h.now (h.now + 250 * fieldAt 0 2 h.payload)
      (h.now + 250 * fieldAt 0 2 h.payload + 2500 * fieldAt 2 2 h.payload)) ∧
    (h.cmd = 0x40 → (st.execute h e next).st = { st with sleepSet := h.payload } ∧ (st.execute h e next).rec?.map (fun r => r.data) = some h.payload) ∧
    (h.cmd = 0x41 → (st.execute h e next).st = { st with sleeping := true, bleeds := 0, burstAt := none }) ∧
    (h.cmd = 0x30 → st.testing = true → (st.execute h e next).st = st) ∧
    (h.cmd = 0x11 → (st.execute h e next).st = st ∧ (st.execute h e next).rec?.map (fun r => r.data) = some (st.cellData (fieldAt 0 1 h.payload)))) ∧
  (∀ (st : Station) (now : Nat), st.switchTest.running = none →
    (st.openWire.running.isSome = true ∨ st.sleeping = true ∨ ∃ q, q ∈ st.quiets ∧ q.1 ≤ now ∧ now < q.2) → st.bleedsOn now = 0) ∧
  (∀ (st : Station) (h : Heard), st.mode ≠ 2 → fieldAt 0 4 h.payload ≠ 0 →
    st.onCodeLoad h = { st with mode := 1, image := insertKey (fieldAt 0 4 h.payload) (h.payload.drop 4) st.image })

/-- R117 to R119, R131, R134, R148: trains wait for the seal of their frame (R42). -/
def Obligations.TrainsReturned : Prop :=
  (∀ (leg : Leg) (b : Bool) (back : TrainBack) (s : State), s.role ≠ .standby → s.ring[leg.val].flight[(endIx b).val] = none →
    exec (.trainReturned leg b back) s = .next s ∧ exec (.trainReturnTimeout leg b) s = .next s) ∧
  (∀ (leg : Leg) (b : Bool) (f : Flight) (r : RingRec) (back : TrainBack) (s : State), s.takesTrains leg → s.ring[leg.val].flight[(endIx b).val] = some f →
    back.badCommand = false → back.badRecords = [] → (f.cmd = 0x60 ∨ f.cmd = 0x61) → 1 ≤ f.stake → f.stake ≤ 24 → f.records = [r] →
    r.stake = f.stake → r.status % 4 = 2 → bitAt r.status 6 = false →
    ∃ t a, exec (.trainReturned leg b back) s = .next t ∧ s.ringOnly leg t ∧
      t.ring[leg.val].flight[(endIx b).val] = none ∧ t.ring[leg.val].missRun[(endIx b).val] = 0 ∧
      t.ring[leg.val].arrived = s.ring[leg.val].arrived ++ [a] ∧ a.fate = .good ∧ a.flight = f ∧ a.taken = [(f.stake, r)] ∧ a.latched = false ∧
      t.ring[leg.val].recordErrors = addSat s.ring[leg.val].recordErrors 0 ∧ t.ring[leg.val].due = s.ring[leg.val].due ∧
      t.ring[leg.val].chain = s.ring[leg.val].chain) ∧
  (∀ (leg : Leg) (b : Bool) (f : Flight) (back : TrainBack) (s : State), s.takesTrains leg → s.ring[leg.val].flight[(endIx b).val] = some f →
    back.badCommand = true → f.cmd = 0x60 →
    ∃ t a, exec (.trainReturned leg b back) s = .next t ∧ s.ringOnly leg t ∧ t.ring[leg.val].due = s.ring[leg.val].due ∧
      t.ring[leg.val].flight[(endIx b).val] = none ∧ t.ring[leg.val].arrived = s.ring[leg.val].arrived ++ [a] ∧ a.fate = .bad ∧ a.taken = []) ∧
  (∀ (leg : Leg) (b : Bool) (f : Flight) (back : TrainBack) (s : State), s.takesTrains leg → s.ring[leg.val].flight[(endIx b).val] = some f →
    back.badCommand = true → withEffect f.cmd = true → f.cmd ≠ 0x40 → f.retries < s.parN (P.retries leg.val) →
    ∃ t d, exec (.trainReturned leg b back) s = .next t ∧ s.ringOnly leg t ∧ t.ring[leg.val].due = d :: s.ring[leg.val].due ∧ d.cmd = f.cmd ∧
      d.seq = f.seq ∧ d.stake = f.stake ∧ d.payload = f.payload ∧ d.retry = f.retries + 1 ∧ t.ring[leg.val].flight[(endIx b).val] = none) ∧
  (∀ (leg : Leg) (b : Bool) (f : Flight) (s : State), s.takesTrains leg → s.ring[leg.val].flight[(endIx b).val] = some f → f.cmd = 0x12 →
    ∃ t a, exec (.trainReturnTimeout leg b) s = .next t ∧ s.ringOnly leg t ∧ t.ring[leg.val].flight[(endIx b).val] = none ∧
      t.ring[leg.val].trainMisses = incSat s.ring[leg.val].trainMisses ∧
      t.ring[leg.val].missRun[(endIx b).val] = s.ring[leg.val].missRun[(endIx b).val] + 1 ∧ t.ring[leg.val].due = s.ring[leg.val].due ∧
      t.ring[leg.val].arrived = s.ring[leg.val].arrived ++ [a] ∧ a.fate = .missing ∧ a.taken = [] ∧
      (s.ring[leg.val].mode = 0 → 1 ≤ s.ring[leg.val].missRun[(endIx b).val] → t.ring[leg.val].splitDue = true)) ∧
  (∀ (leg : Leg) (b : Bool) (f : Flight) (back : TrainBack) (s : State), s.twinMember = false → s.role ≠ .standby → s.base.coreLost = true →
    s.ring[leg.val].flight[(endIx b).val] = some f →
    ∃ t, exec (.trainReturned leg b back) s = .next t ∧ s.ringOnly leg t ∧ t.ring[leg.val].flight[(endIx b).val] = none ∧
      t.ring[leg.val].arrived = s.ring[leg.val].arrived ∧ t.ring[leg.val].due = s.ring[leg.val].due) ∧
  (∀ (leg : Leg) (a : Arrival) (r : RingRec) (s : State), (a.flight.cmd = 0x60 ∨ a.flight.cmd = 0x61) → a.taken = [(a.flight.stake, r)] →
    ∃ t, s.takeArrival leg a = t ∧ s.ringOnly leg t ∧
      t.ring[leg.val] = { s.ring[leg.val] with statuses := insertKey a.flight.stake r.status s.ring[leg.val].statuses })

/-- R114, R122 to R124, R130, R132, R141, R160, R162, R166. -/
def Obligations.StationEvents : Prop :=
  (∀ (leg : Leg) (pos : Nat) (cells : List Nat) (v : Nat) (late near : Bool) (s : State), ∃ t, exec (.stationConversion leg pos cells v late near) s = .next t ∧
    s.stationGoes leg pos (fun (st : Station) => st.convert cells v late near) t) ∧
  (∀ (st : Station) (cells : List Nat) (v round tag wait : Nat) (late near : Bool), st.sampling = some (round, tag, wait) →
    st.convert cells v late near = { st with sampling := none, rounds :=
      ({ round := round, tag := tag, v := cells, stackV := v, late := late, bleedNear := near } :: st.rounds).take 4 }) ∧
  (∀ (leg : Leg) (pos : Nat) (openWire aborted : Bool) (values : List Int) (s : State), ∃ t, exec (.stationTestEnd leg pos openWire aborted values) s = .next t ∧
    s.stationGoes leg pos (fun (st : Station) => if openWire then { st with openWire := st.openWire.finish aborted true values }
      else { st with switchTest := st.switchTest.finish aborted false values }) t) ∧
  (∀ (x : StationTest) (sel : Nat) (aborted openWire : Bool) (values : List Int), x.running = some sel →
    ∃ y, x.finish aborted openWire values = y ∧ y.running = none ∧ y.on = 0 ∧ y.seq = x.seq ∧ y.endedSeq = x.seq ∧ y.state = (if aborted then 2 else 0) ∧
      (aborted = true → y.values = []) ∧
      (aborted = false → y.values.length = values.length ∧ ∀ i : Nat, i < 16 → bitAt sel i = false → nth y.values i 0 = 0) ∧
      (aborted = false → ∀ i : Nat, bitAt sel i = true → nth y.values i 0 = nth values i 0)) ∧
  (∀ (leg : Leg) (pos : Nat) (s : State), ∃ t, exec (.stationBalanceExpiry leg pos) s = .next t ∧
    s.stationGoes leg pos (fun (st : Station) => { st with bleeds := 0 }) t) ∧
  (∀ (leg : Leg) (pos : Nat) (s : State), ∃ t, exec (.stationCodeEccError leg pos false) s = .next t ∧
    s.stationGoes leg pos (fun (st : Station) => { st with faults := withBit st.faults 3, eccPending := st.mode != 0 }) t) ∧
  (∀ (leg : Leg) (pos : Nat) (s : State), ∃ t, exec (.stationCodeEccError leg pos true) s = .next t ∧
    s.stationGoes leg pos (fun (st : Station) => if st.eccPending then st.toLoader else st) t) ∧
  (∀ st : Station, st.toLoader.mode = 0 ∧ st.toLoader.stake = 0xFF ∧ st.toLoader.image = [] ∧ st.toLoader.bleeds = 0 ∧ st.toLoader.codeVersion = 0 ∧
    st.toLoader.rounds = [] ∧ st.toLoader.openWire = {} ∧ st.toLoader.switchTest = {}) ∧
  (∀ (leg : Leg) (pos : Nat) (s : State), ∃ t, exec (.stationFrameTimeout leg pos) s = .next t ∧
    s.stationGoes leg pos (fun (st : Station) => { st with frameLost := true, bleeds := 0 }) t) ∧
  (∀ (leg : Leg) (pos : Nat) (a b : SleepReading) (s : State), ∃ t, exec (.stationSleepCheck leg pos a b) s = .next t ∧
    s.stationGoes leg pos (fun (st : Station) => if st.sleeping && st.burstsLeft s.time.meridian == 0 then
      { st with burstAt := if st.violated a && st.violated b then some s.time.meridian else none } else st) t) ∧
  (∀ (leg : Leg) (pos : Nat) (up frames : Bool) (s : State), ∃ t, exec (.stationToneLost leg pos ⟨up, frames⟩) s = .next t ∧
    s.stationGoes leg pos (fun (st : Station) => if up then { st with toneLost := true, lostUp := st.lostUp || !frames }
      else { st with lostDown := st.lostDown || !frames }) t) ∧
  (∀ (leg : Leg) (pos : Nat) (up : Bool) (s : State), ∃ t, exec (.stationToneQualified leg pos up) s = .next t ∧
    s.stationGoes leg pos (fun (st : Station) => if up then { st with toneLost := false, lostUp := false } else { st with lostDown := false }) t) ∧
  (∀ (leg : Leg) (pos : Nat) (s : State), ∃ t, exec (.stationQuietWindowEnd leg pos) s = .next t ∧
    s.stationGoes leg pos (Station.endWindow) t) ∧
  (∀ (st : Station) (a b : Nat × Nat), st.quiets = [a, b] → a.2 < b.2 → st.endWindow = { st with quiets := [b] }) ∧
  (∀ (leg : Leg) (pos uid hw rom : Nat) (s : State), pos < s.ring[leg.val].chain.length → ∃ t, exec (.stationPowerUp leg pos uid hw rom) s = .next t ∧
    s.stationGoes leg pos (fun (old : Station) => { uid := uid, hwId := hw, romVersion := rom, lostUp := old.lostUp, lostDown := old.lostDown, toneLost := old.toneLost }) t)

/-- R131 to R134, R137. -/
def Obligations.RingModes : Prop :=
  (∀ (leg : Leg) (s : State), s.ring[leg.val].mode = 0 → s.ring[leg.val].toneGone = false → s.role ≠ .standby →
    ∃ t e, exec (.toneLoss leg) s = .next t ∧
      t = { s with ring := t.ring, fb := t.fb, events := insertRecord e s.events, base := { s.base with c2f := t.base.c2f } } ∧
      t.ring[leg.val] = { s.ring[leg.val] with toneOk := false, toneGone := true, contactLost := true, contactPing := true, due := s.ring[leg.val].due ++
        [{ fromB := s.ownEnd, cmd := 0x03, stake := 0, payload := [0], retry := 0, seq := 0 }] } ∧
      e.type = 0x1001 + 0x100 * leg.val ∧ e.code = 1 ∧ e.source = 48 + leg.val) ∧
  (∀ (leg : Leg) (s : State), (s.ring[leg.val].mode ≠ 0 ∨ s.ring[leg.val].toneGone = true) → exec (.toneLoss leg) s = .next s) ∧
  (∀ (leg : Leg) (s : State), ∃ t, exec (.toneReturn leg) s = .next t ∧ s.ringOnly leg t ∧
    t.ring[leg.val] = { s.ring[leg.val] with toneOk := true, toneGone := false, silent := 31 }) ∧
  (∀ (leg : Leg) (s : State), s.ring[leg.val].splitDue = true →
    ∃ t, exec (.splitModeEntry leg) s = .next t ∧ t = { s with ring := t.ring, fb := t.fb } ∧
      t.ring[leg.val] = { s.ring[leg.val] with mode := 1, splitDue := false, splitWait := true, splitEntries := incSat s.ring[leg.val].splitEntries,
                                               sightings := 0, reachA := 0, reachB := 0,
                                               seek := Vector.replicate 2 0 }) ∧
  (∀ (x : RingTx) (cmd : Nat) (p : List Byte) (s : State), s.ring[x.leg.val].splitWait = true → s.launch x cmd p = s) ∧
  (∀ (leg : Leg) (s : State), s.ring[leg.val].mode = 1 → s.ring[leg.val].splitWait = true → s.twinMember = false → s.role ≠ .standby →
    s.ring[leg.val].chain.any (fun st => st.turnsFrom false) = true → s.ring[leg.val].chain.any (fun st => st.turnsFrom true) = true →
    ∃ t, exec (.splitReflectWait leg) s = .next t ∧ s.ringPlanned leg t ∧
      t.ring[leg.val] = { s.ring[leg.val] with splitWait := false, seek := #v[0, 0], due := s.ring[leg.val].due ++
        [{ fromB := false, cmd := 0x03, stake := 0, payload := [0], retry := 0, seq := 0 },
         { fromB := true, cmd := 0x03, stake := 0, payload := [0], retry := 0, seq := 0 }] }) ∧
  (∀ (leg : Leg) (s : State), s.ring[leg.val].mode = 1 → s.ring[leg.val].splitWait = true → s.twinMember = false → s.role ≠ .standby →
    s.ring[leg.val].chain.any (fun st => st.turnsFrom false) = false → s.ring[leg.val].chain.any (fun st => st.turnsFrom true) = false →
    ∃ t, exec (.splitReflectWait leg) s = .next t ∧ s.ringPlanned leg t ∧
      t.ring[leg.val] = { s.ring[leg.val] with splitWait := false, seek := #v[1, s.stations leg], due := s.ring[leg.val].due ++
        [{ fromB := false, cmd := 0x03, stake := 0, payload := [0], retry := 0, seq := 0 },
         { fromB := true, cmd := 0x03, stake := 0, payload := [0], retry := 0, seq := 0 },
         { fromB := false, cmd := 0x03, stake := 1, payload := [1], retry := 0, seq := 0 },
         { fromB := true, cmd := 0x03, stake := s.stations leg, payload := [1], retry := 0, seq := 0 }] }) ∧
  (∀ (leg : Leg) (k : Nat) (s : State), s.ring[leg.val].mode = 1 → 0 < k → s.ring[leg.val].seek[0] = k + 1 → s.role ≠ .standby →
    ∃ t, s.seekReflect leg false (k + 1) false = t ∧ s.ringPlanned leg t ∧ t.ring[leg.val].seek[0] = 0 ∧ t.ring[leg.val].reachA = k ∧
      t.ring[leg.val].due = s.ring[leg.val].due ++ [{ fromB := false, cmd := 0x61, stake := k, payload := [0x13, 0, 1, 1, 0], retry := 0, seq := 0 }]) ∧
  (∀ (leg : Leg) (k : Nat) (s : State), s.ring[leg.val].mode = 1 → 0 < k → k < s.stations leg → s.ring[leg.val].seek[1] = k → s.role ≠ .standby →
    ∃ t, s.seekReflect leg true k false = t ∧ s.ringPlanned leg t ∧ t.ring[leg.val].seek[1] = 0 ∧ t.ring[leg.val].reachB = s.stations leg - k ∧
      t.ring[leg.val].due = s.ring[leg.val].due ++ [{ fromB := true, cmd := 0x61, stake := k + 1, payload := [0x13, 0, 1, 2, 0], retry := 0, seq := 0 }]) ∧
  (∀ (leg : Leg) (a : Arrival) (s : State), a.flight.cmd = 0x03 → a.fate = .missing → a.taken = [] → s.ring[leg.val].stakeStep = 0 →
    (s.seekReflect leg a.fromB a.flight.stake false).ring[leg.val].stakeStep = 0 →
    s.takeArrival leg a = s.seekReflect leg a.fromB a.flight.stake false) ∧
  (∀ (leg : Leg) (s : State), s.ring[leg.val].mode = 1 → 3 ≤ s.ring[leg.val].sightings → s.role ≠ .standby →
    ∃ t, exec (.loopModeReturn leg) s = .next t ∧ t = { s with ring := t.ring, fb := t.fb, base := { s.base with c2f := t.base.c2f } } ∧
      t.ring[leg.val] = { s.ring[leg.val] with mode := 0, sightings := 0, reachA := 0, reachB := 0, splitWait := false,
                                               splitExits := incSat s.ring[leg.val].splitExits, due := s.ring[leg.val].due ++
        [{ fromB := s.ownEnd, cmd := 0x61, stake := 0, payload := [0x13, 0, 1, 0, 0], retry := 0, seq := 0 }] })

/-- R71 to R73, R129, R130, R132; the tone of a station that neither withholds nor turns passes on. -/
def Obligations.PinsAndTones : Prop :=
  (∀ (g : Signal) (s : State), g.plant = true → s.mode ≠ .surveyed → s.mode ≠ .armed → s.mode ≠ .running → s.mode ≠ .stopping →
    s.mode ≠ .faultHold → s.start.lastGasp = false → s.drive g = .z) ∧
  (∀ (g : Signal) (s : State), g.plant = true → s.sf.forceoff = true → s.drive g = .z) ∧
  (∀ (g : Signal) (s : State), g.plant = true → g ≠ .sfo → s.role = .standby → s.drive g = .z) ∧
  (∀ s : State, s.mode = .boot → s.start.noImage = true → s.alertLow = true) ∧
  (∀ s : State, s.mode = .faultHold → s.alertLow = true) ∧
  (∀ s : State, (s.mode = .plat ∨ s.mode = .load ∨ s.mode = .staking ∨ s.mode = .surveyed ∨ s.mode = .armed ∨ s.mode = .running ∨ s.mode = .stopping) →
    s.alertLow = s.alertCause) ∧
  (∀ (forward here : Bool) (now : Nat) (xs : List (Station × Bool)),
    (∀ x ∈ xs, x.1.sleeping = false ∧ x.1.withholds = false ∧ x.1.turnsFrom forward = false) →
    toneAlong forward now here xs = (List.replicate xs.length here, here)) ∧
  (∀ (st : Station) (here back : Bool) (now : Nat) (xs : List (Station × Bool)), st.sleeping = false → (st.frameLost = true ∨ st.faults ≠ 0) →
    st.turnsFrom true = false →
    toneAlong true now here ((st, back) :: xs) = (here :: (toneAlong true now false xs).1, (toneAlong true now false xs).2)) ∧
  (∀ (st : Station) (forward here : Bool) (now : Nat) (xs : List (Station × Bool)), st.sleeping = false → st.turnsFrom forward = true →
    toneAlong forward now here ((st, true) :: xs) = (here :: (toneAlong forward now true xs).1, (toneAlong forward now true xs).2))

/-- R186, R188, R189, R194, R197. -/
def Obligations.ProbeEdges : Prop :=
  (∀ (p : Fin 2) (s : State), s.probe[p.val].phase = .idle → s.probe[p.val].due = false →
    ∃ t, exec (.probeDue p) s = .next t ∧ t = { s with probe := t.probe } ∧
      t.probe[p.val] = { s.probe[p.val] with due := true, dueAt := s.time.meridian } ∧
      (∀ q : Fin 2, q ≠ p → t.probe[q.val] = s.probe[q.val])) ∧
  (∀ (p : Fin 2) (s : State), s.probe[p.val].phase ≠ .idle → exec (.probeDue p) s = .next s) ∧
  (∀ (p : Fin 2) (s : State), s.probe[p.val].phase = .committed →
    ∃ t, exec (.probeLeadingEdge p) s = .next t ∧ t = { s with probe := t.probe, conv := t.conv } ∧
      t.probe[p.val] = { s.probe[p.val] with phase := .running, edge := s.time.meridian, executed := incSat s.probe[p.val].executed } ∧
      t.conv[(pairA p).val] = { s.conv[(pairA p).val] with probeOffset := true } ∧
      t.conv[(pairB p).val] = { s.conv[(pairB p).val] with probeOffset := true }) ∧
  (∀ (p : Fin 2) (s : State), s.probe[p.val].phase ≠ .committed → exec (.probeLeadingEdge p) s = .next s) ∧
  (∀ (p : Fin 2) (s : State), (s.probe[p.val].phase = .observed ∨ (s.probe[p.val].phase = .running ∧ s.probe[p.val].spoilt.isSome = true)) →
    ∃ t, exec (.probeTrailingEdge p) s = .next t ∧ t = { s with probe := t.probe, conv := t.conv } ∧
      t.probe[p.val] = { s.probe[p.val] with phase := .idle, due := false, applied := false, draining := false,
                                                   endedAt := if s.probe[p.val].applied then s.time.meridian else s.probe[p.val].endedAt } ∧
      t.conv[(pairA p).val] = { s.conv[(pairA p).val] with probeOffset := false } ∧
      t.conv[(pairB p).val] = { s.conv[(pairB p).val] with probeOffset := false }) ∧
  (∀ (p : Fin 2) (s : State), s.probe[p.val].phase = .running → s.probe[p.val].spoilt = none →
    ∃ t, exec (.probeTrailingEdge p) s = .next t ∧ t = { s with probe := t.probe, conv := t.conv, eleg := t.eleg } ∧ t.probe[p.val].phase = .idle ∧
      t.eleg[(pairA p).val] = { s.eleg[(pairA p).val] with lastResult := 5, natural := false, discarded := incSat s.eleg[(pairA p).val].discarded })

/-- R68, R217 to R222. -/
def Obligations.LearnedValues : Prop :=
  (∀ s : State, s.start.learnedRead = true →
    exec .learnPeriodExpiry s = .next { s with learn := { s.learn with due := some (match s.learn.due with
      | some c => min c 1
      | none => 1) } }) ∧
  (∀ s : State, s.start.learnedRead = false → exec .learnPeriodExpiry s = .next s) ∧
  (∀ s : State, s.learn.due = none → exec .learnedSnapshot s = .next s) ∧
  (∀ (code : Nat) (s : State), s.learn.due = some code → s.learn.writing = none →
    exec .learnedSnapshot s = .next { s with learn := { s.learn with
      due := none, writing := some (s.learnSet code ((s.learn.generation + 1) % 2 ^ 32)) } }) ∧
  (∀ (code : Nat) (w v : LearnSet) (s : State), s.learn.due = some code → s.learn.writing = some w → s.learn.waiting = some v →
    exec .learnedSnapshot s = .next { s with learn := { s.learn with due := none, waiting := some (s.learnSet (min v.trigger code) 0) } }) ∧
  (∀ (fault : Nat) (s : State), s.learn.writing = none → exec (.learnedWriteComplete fault) s = .next s) ∧
  (∀ (w : LearnSet) (s : State), s.learn.writing = some w → w.trigger ≠ 6 →
    ∃ t b, exec (.learnedWriteComplete 0) s = .next t ∧ b = (if s.learn.fullGen.isSome then 1 - s.learn.fullBuffer else 0) ∧
      t.store = Memory.writeBytes (Memory.erase s.store (fullBase b) (448 * 4096)) (fullBase b) w.fullBytes ∧
      t.learn.generation = w.generation ∧ t.learn.fullGen = some w.generation ∧ t.learn.fullBuffer = b ∧ t.learn.lastTrigger = w.trigger ∧
      t.learn.writeFail = s.learn.writeFail ∧ t = { s with store := t.store, learn := t.learn }) ∧
  (∀ (fault : Nat) (w : LearnSet) (s : State), s.learn.writing = some w → fault ≠ 0 →
    ∃ t b, exec (.learnedWriteComplete fault) s = .next t ∧ b = (if s.learn.fullGen.isSome then 1 - s.learn.fullBuffer else 0) ∧
      t.store = Memory.erase s.store (fullBase b) (448 * 4096) ∧ t.learn.writeFail = true ∧ t.learn.generation = s.learn.generation ∧
      t = { s with store := t.store, learn := t.learn, fb := t.fb }) ∧
  (∀ s : State, (s.learn.shutdown = 2 ∨ s.learn.shutdown = 3) →
    ∃ t, exec .shutdownPersistTimeout s = .next t ∧ s.restarts 128 t) ∧
  (∀ s : State, s.learn.shutdown = 0 → exec .shutdownPersistTimeout s = .next s) ∧
  (∀ s : State, s.mode = .staking → s.start.learnedRead = false → s.fullSet 0 = none → s.fullSet 1 = none →
    ∃ t, exec .learnedValuesRead s = .next t ∧ t.start = { s.start with learnedRead := true } ∧ t.learn = { s.learn with initialised := true } ∧
      t.store = Memory.erase s.store (shortBase 0) 16384 ∧
      t = { s with start := t.start, est := t.est, store := t.store, learn := t.learn, fb := t.fb }) ∧
  (∀ (a : List Byte) (s : State), s.mode = .staking → s.start.learnedRead = false → s.fullSet 0 = some a → s.fullSet 1 = none → s.shortSet (genOf a) = none →
    ∃ t, exec .learnedValuesRead s = .next t ∧ t.start.learnedRead = true ∧ t.learn.fullGen = some (genOf a) ∧ t.learn.fullBuffer = 0 ∧
      t.learn.generation = genOf a ∧ t.learn.initialised = false ∧ (∀ l : Leg, t.eleg[l.val].offsetKnown = true) ∧
      t = { s with start := t.start, est := t.est, store := t.store, learn := t.learn, eleg := t.eleg })

/-- R239, R242 to R245, R253, R418; the mask bound is log 96. -/
def Obligations.DispatchAndWatchdog : Prop :=
  (∀ (r : HostReq) (s u : State), s.accepts 4 r u → fieldAt 0 1 r.payload = 0x10 → r.payload.length = 16 → fieldAt 5 1 r.payload ≤ 15 →
    u.dispatchStatus (fieldAt 4 1 r.payload) (fieldAt 6 1 r.payload) (leSigned (slice 8 4 r.payload)) = 0 → u.mode ≠ .boot →
    ∃ t, exec (.commandDispatch r) s = .next t ∧
      t = (u.dispatch (fieldAt 4 1 r.payload) (fieldAt 5 1 r.payload) (fieldAt 6 1 r.payload) (leSigned (slice 8 4 r.payload)) (fieldAt 12 4 r.payload)).answer 4 r 0 []) ∧
  (∀ (r : HostReq) (s u : State), s.accepts 4 r u → fieldAt 0 1 r.payload = 0x10 → r.payload.length = 16 →
    u.dispatchStatus (fieldAt 4 1 r.payload) (fieldAt 6 1 r.payload) (leSigned (slice 8 4 r.payload)) ≠ 0 → u.mode ≠ .boot →
    exec (.commandDispatch r) s =
      .next (u.answer 4 r (u.dispatchStatus (fieldAt 4 1 r.payload) (fieldAt 6 1 r.payload) (leSigned (slice 8 4 r.payload))) [])) ∧
  (∀ (mask kind rate : Nat) (target : Int) (s : State), s.str.modeChange = none → s.str.wdHold = false → (∀ l : Leg, s.populated l = false) →
    s.mode = .armed → (∀ l : Leg, s.conv[l.val].enabled = false) →
    s.dispatch s.str.running mask kind target rate = { s with str := { s.str with
      mask := mask, mode := s.str.running, x := s.convertX kind, kind := kind, xt := target * 1000, rate := s.rateFor kind rate, wdHold := false, wdExpired := false } }) ∧
  (∀ (mode mask kind rate : Nat) (target : Int) (s : State), mode ≠ s.str.running → s.str.modeChange = none →
    (∀ l : Leg, s.conv[l.val].enabled = false) →
    s.dispatch mode mask kind target rate = { s with str := { s.str with
      mask := mask, mode := mode, wdHold := false, wdExpired := false,
      modeChange := some { mode := mode, mask := mask, kind := kind, target := target, rate := rate } } }) ∧
  (∀ (m : ModeChange) (s : State), s.str.modeChange = some m → (∃ l : Leg, s.conv[l.val].st.live = true) → exec .modeChangeBankSwitch s = .next s) ∧
  (∀ (m : ModeChange) (s : State), s.str.modeChange = some m → (∀ l : Leg, s.conv[l.val].st.live = false) → s.mode = .surveyed → s.str.wdHold = false →
    ∃ t, exec .modeChangeBankSwitch s = .next t ∧ t = { s with str := t.str, cle := t.cle } ∧ t.str.modeChange = none ∧ t.str.running = m.mode ∧
      t.str.mode = m.mode ∧ t.str.kind = m.kind ∧ t.str.xt = m.target * 1000 ∧
      (∀ l : Leg, t.cle[l.val].bank = s.selectBank l m.mode false s.cle[l.val] ∧ t.cle[l.val].bankSelect = t.cle[l.val].bank)) ∧
  (∀ s : State, s.str.kind ≠ 3 → s.str.wdHold = false → (s.mode = .armed ∨ s.mode = .running) →
    ∃ t, exec .dispatchWatchdogExpiry s = .next t ∧ t = { s with str := { s.str with wdHold := true }, fb := t.fb }) ∧
  (∀ s : State, s.str.wdHold = true → s.str.wdExpired = false → s.str.running = 0 →
    ∃ t, exec .wdHoldExpiry s = .next t ∧ t.str = { s.str with wdExpired := true, xt := 0, rate := t.str.rate } ∧ t = { s with str := t.str, fb := t.fb }) ∧
  (∀ s : State, s.str.running = 1 → exec .wdHoldExpiry s = .next s)

/-- R245 to R247, R252, R271. -/
def Obligations.LegStarts : Prop :=
  (∀ (leg : Leg) (s : State), s.conv[leg.val].st = .waitBus → s.conv[leg.val].enabled = true → s.mode = .running → s.busReady leg = true →
    s.sf.seqStep = 5 → s.therm.stageTrip[leg.val] = false → s.str.running = 0 →
    ∃ t, exec (.legWaitBusReady leg) s = .next t ∧ t.conv[leg.val].st = .softStart ∧ t.conv[leg.val].pwmen = true ∧ t.conv[leg.val].soft = 0 ∧
      t.conv[leg.val].f10 = F64.zero ∧ t.conv[leg.val].f1s = F64.zero ∧ t.conv[leg.val].ramp = none ∧
      t.cle[leg.val].comp[0].u1 = 0 ∧ t.cle[leg.val].comp[1].u1 = s.presetDuty leg (s.dMin leg s.cle[leg.val].bank) (s.dMax leg s.cle[leg.val].bank) ∧
      t = { s with conv := t.conv, cle := t.cle, eleg := t.eleg } ∧ (∀ l : Leg, l ≠ leg → t.conv[l.val] = s.conv[l.val] ∧ t.cle[l.val] = s.cle[l.val])) ∧
  (∀ (leg : Leg) (s : State), (s.conv[leg.val].st ≠ .waitBus ∨ s.mode ≠ .running ∨ s.busReady leg = false ∨ s.sf.seqStep ≠ 5) →
    exec (.legWaitBusReady leg) s = .next s) ∧
  (∀ (leg : Leg) (s : State), s.conv[leg.val].st = .softStart → s.conv[leg.val].pulsed = true → (∀ l : Leg, l ≠ leg → s.conv[l.val].st ≠ .softStart) →
    s.str.retries < s.parN P.startRetries →
    ∃ t, exec .startIntoShort s = .next t ∧ State.braked leg .retryWait 0 t ∧ t.str.retries = s.str.retries + 1 ∧ s.converterFrame t ∧ t.mode = s.mode) ∧
  (∀ (leg : Leg) (s : State), s.conv[leg.val].st = .softStart → s.conv[leg.val].pulsed = true → (∀ l : Leg, l ≠ leg → s.conv[l.val].st ≠ .softStart) →
    s.parN P.startRetries ≤ s.str.retries →
    ∃ t, exec .startIntoShort s = .next t ∧ State.braked leg .fault 6 t ∧ t.conv[leg.val].enabled = false ∧ s.converterFrame t) ∧
  (∀ s : State, (∀ l : Leg, s.conv[l.val].st ≠ .softStart) → exec .startIntoShort s = .next s) ∧
  (∀ (leg : Leg) (s : State), s.conv[leg.val].st = .retryWait →
    ∃ t, exec (.retrySpacingExpiry leg) s = .next t ∧ t = { s with conv := t.conv } ∧ t.conv[leg.val] = { s.conv[leg.val] with st := .waitBus }) ∧
  (∀ (leg : Leg) (s : State), s.conv[leg.val].st = .loadStepOff → 2 ≤ s.conv[leg.val].reenterRun → s.mode = .running →
    ∃ t, exec (.loadStepReentry leg) s = .next t ∧ t = { s with conv := t.conv, cle := t.cle, eleg := t.eleg } ∧
      t.conv[leg.val].st = .softStart ∧ t.conv[leg.val].soft = 0)

/-- R235, R250 to R253, R256. -/
def Obligations.LegProtection : Prop :=
  (∀ (leg : Leg) (s : State), s.conv[leg.val].overload = true → s.conv[leg.val].st = .running → s.conv[leg.val].ramp = none → s.str.running = 0 →
    ∃ t, exec (.overloadTrip leg) s = .next t ∧ t.conv[leg.val].st = .draining ∧ t.conv[leg.val].drainEnd = .fault 5 ∧
      t.conv[leg.val].ramp = some { ref := s.conv[leg.val].setpoint * 1000, direct := false, stop := false } ∧ s.converterFrame t ∧ t.mode = s.mode) ∧
  (∀ (leg : Leg) (s : State), s.conv[leg.val].overload = false → exec (.overloadTrip leg) s = .next s) ∧
  (∀ (leg : Leg) (s : State), s.discharging leg = true → s.conv[leg.val].st = .running →
    ∃ t, exec (.loadStepTurnOff leg) s = .next t ∧ t.conv[leg.val].st = .loadStepOff ∧ t.conv[leg.val].pwmen = s.conv[leg.val].pwmen ∧
      t.pwm[(phaseA leg).val].on = false ∧ t.pwm[(phaseB leg).val].on = false ∧ t.cle[leg.val].running = false ∧ s.converterFrame t ∧ t.mode = s.mode) ∧
  (∀ (leg : Leg) (s : State), s.discharging leg = false → exec (.loadStepTurnOff leg) s = .next s) ∧
  (∀ (leg : Leg) (s : State), s.conv[leg.val].st = .loadStepOff →
    ∃ t, exec (.loadStepTimeout leg) s = .next t ∧ State.braked leg .fault 7 t ∧ t.conv[leg.val].enabled = false ∧ s.converterFrame t) ∧
  (∀ (leg : Leg) (rp : Ramp) (s : State), s.conv[leg.val].st = .draining → s.conv[leg.val].ramp = some rp → rp.ref = 0 → rp.stop = false →
    2 ≤ s.conv[leg.val].lowRun → s.conv[leg.val].drainEnd = .disabled →
    ∃ t, exec (.legDrainComplete leg) s = .next t ∧ State.braked leg .disabled 0 t ∧ s.converterFrame t) ∧
  (∀ (leg : Leg) (rp : Ramp) (s : State), s.conv[leg.val].ramp = some rp → rp.ref ≠ 0 → exec (.legDrainComplete leg) s = .next s) ∧
  (∀ (leg : Leg) (s : State), s.conv[leg.val].st = .running → 2000 * s.vLegMean leg < s.vBusMean * (2000 + s.par P.headroom) → s.conv[leg.val].ramp = none → s.str.running = 0 →
    ∃ t, exec (.legHeadroomLoss leg) s = .next t ∧ t.conv[leg.val].st = .draining ∧ t.conv[leg.val].drainEnd = .waitBus ∧ s.converterFrame t)

/-- R226, R231, R232, R234, R248 to R250, R269, R270, R307. -/
def Obligations.SamplesAndPwm : Prop :=
  (∀ (codes : Vector Int 20) (s : State), s.role = .standby → s.twin.decided = none →
    ∃ t, exec (.sampleLatch codes) s = .next t ∧ t.twin = { s.twin with ownCodes := codes, missing := false } ∧
      t.grid = { s.grid with latched := some (s.time.frame, s.grid.sample), latchStamp := t.fieldStamp } ∧
      t = { s with twin := t.twin, grid := t.grid, time := t.time }) ∧
  (∀ (codes : Vector Int 20) (s : State), s.role = .active →
    ∃ t, exec (.sampleLatch codes) s = .next t ∧ t.kept = s.kept ∧ t.mode = s.mode ∧ t.sf = s.sf ∧
      ∀ (l : Leg) (i : Fin 20), t.cle[l.val].codes[i.val] = clampInt (-131071) 131071 ((s.trained codes)[i.val] - s.mdOffset[i.val])) ∧
  (∀ s : State, (∀ l : Leg, s.cle[l.val].running = false) → s.twin.step.paired = false → exec .compareWrite s = .next s) ∧
  (∀ (leg : Leg) (s : State), s.cle[leg.val].running = true → (∀ l : Leg, l ≠ leg → s.cle[l.val].running = false) → s.twin.step.paired = false →
    ∃ t, exec .compareWrite s = .next t ∧ t.pwm[(phaseA leg).val] = { s.pwm[(phaseA leg).val] with written := s.compareOf leg s.cle[leg.val].out[1] } ∧
      t.pwm[(phaseB leg).val] = { s.pwm[(phaseB leg).val] with written := s.compareOf leg s.cle[leg.val].out[2] } ∧
      t = { s with pwm := t.pwm, cle := t.cle, base := { s.base with f2c := t.base.f2c } }) ∧
  (∀ (leg : Leg) (u : Int) (s : State), 0 ≤ s.cMin leg → s.cMin leg ≤ s.cMax leg → s.cMin leg ≤ s.compareOf leg u ∧ s.compareOf leg u ≤ s.cMax leg) ∧
  (∀ (p : Phase) (s : State), (s.conv[(legOf p).val].st = .disabled ∨ s.pwm[p.val].fast = false ∧ s.pwm[p.val].desat = false ∧ 0 < s.parN P.fastLatch (legOf p).val) →
    ∃ t, exec (.pwmCarrierStart p) s = .next t ∧ t = { s with pwm := t.pwm, conv := t.conv } ∧ t.pwm[p.val].compare = s.pwm[p.val].written ∧
      t.pwm[p.val].held = false ∧ t.pwm[p.val].fast = false ∧ t.pwm[p.val].desat = false ∧
      t.pwm[p.val].fastTrips = (if s.pwm[p.val].fast then incSat s.pwm[p.val].fastTrips else s.pwm[p.val].fastTrips) ∧
      (s.conv[(legOf p).val].pwmen = false ∨ s.sf.legPwm[(legOf p).val] = false ∨ s.sf.forceoff = true → t.pwm[p.val].on = false)) ∧
  (∀ (p : Phase) (i : Int) (s : State), s.pwm[p.val].on = true → s.par P.fastLim (legOf p).val < i.natAbs →
    ∃ t, exec (.fastLimitTrip p i) s = .next t ∧ t = { s with pwm := t.pwm } ∧ t.pwm[p.val].held = true ∧ t.pwm[p.val].tripMa = i ∧
      ∀ c : Nat, t.pwmHigh p c = false ∧ t.pwmLow p c = false) ∧
  (∀ (p : Phase) (i : Int) (s : State), (i.natAbs : Int) ≤ s.par P.fastLim (legOf p).val → exec (.fastLimitTrip p i) s = .next s) ∧
  (∀ (p : Phase) (s : State), s.pwm[p.val].on = true →
    ∃ t, exec (.desatTrip p) s = .next t ∧ t = { s with pwm := t.pwm } ∧ t.pwm[p.val].held = true ∧ (∀ c : Nat, t.pwmHigh p c = false ∧ t.pwmLow p c = false)) ∧
  (∀ (p : Phase) (c : Nat) (s : State), ¬ (s.pwmHigh p c = true ∧ s.pwmLow p c = true))

/-- R278 to R282; a pair fault of a function that has no category acts as log 80 says. -/
def Obligations.SafetyInputs : Prop :=
  (∀ (ch : Fin 16) (s : State), s.sf.input[ch.val].filtered = true → s.pairFunc (pairOfInput ch) = 0 →
    ∃ t, exec (.safetyInputDemand ch) s = .next t ∧ t.sf.input[ch.val] = { s.sf.input[ch.val] with level := false, filtered := false } ∧
      t.sf.pair[(pairOfInput ch).val] = { s.sf.pair[(pairOfInput ch).val] with cycleBad := true } ∧
      t = { s with sf := { s.sf with input := t.sf.input, pair := t.sf.pair } }) ∧
  (∀ (ch : Fin 16) (s : State), s.sf.input[ch.val].filtered = true → s.pairFunc (pairOfInput ch) ≠ 0 → s.pairFunc (pairOfInput ch) ≠ 4 →
    s.pairLow (pairOfInput ch) = false →
    ∃ t, exec (.safetyInputDemand ch) s = .next t ∧ t.sf.input[ch.val].filtered = false ∧ s.safetyFrame t ∧
      t.fb = (({ s with sf := t.sf } : State).form 0x4002 1 17 (pairOfInput ch).val (({ s with sf := t.sf } : State).pairLevels (pairOfInput ch)) 0).fb) ∧
  (∀ (ch : Fin 16) (s : State), s.sf.input[ch.val].filtered = false → exec (.safetyInputDemand ch) s = .next s) ∧
  (∀ (ch : Fin 16) (s : State), s.sf.input[ch.val].filtered = true → exec (.safetyInputClear ch) s = .next s) ∧
  (∀ (ch : Fin 16) (s : State), s.sf.input[ch.val].filtered = false → s.pairFunc (pairOfInput ch) ≠ 4 →
    ∃ t, exec (.safetyInputClear ch) s = .next t ∧ t.sf.input[ch.val] = { s.sf.input[ch.val] with level := true, filtered := true } ∧
      t = { s with sf := { s.sf with input := t.sf.input }, fb := t.fb }) ∧
  (∀ (k : Fin 8) (s : State), s.pairFunc k = 1 → s.sf.pair[k.val].discrepancy = false → s.sf.input[2 * k.val].filtered ≠ s.sf.input[2 * k.val + 1].filtered →
    ∃ t, exec (.safetyPairDiscrepancy k) s = .next t ∧ t.sf.pair[k.val].discrepancy = true ∧ t.sf.pair[k.val].latched = true ∧ s.demands 3 1 true t) ∧
  (∀ (k : Fin 8) (s : State), s.pairFunc k = 2 → s.sf.pair[k.val].discrepancy = false → s.sf.input[2 * k.val].filtered ≠ s.sf.input[2 * k.val + 1].filtered →
    ∃ t, exec (.safetyPairDiscrepancy k) s = .next t ∧ t.sf.pair[k.val].discrepancy = true ∧ s.demands 3 2 true t) ∧
  (∀ (k : Fin 8) (s : State), s.sf.input[2 * k.val].filtered = s.sf.input[2 * k.val + 1].filtered → exec (.safetyPairDiscrepancy k) s = .next s) ∧
  (∀ (src : Fin 4) (levels : Nat) (s : State), s.pulseFrame src = false → exec (.testPulseStart src levels) s = .next s) ∧
  (∀ (src : Fin 4) (levels : Nat) (s : State), src ≠ 0 → s.pulseFrame src = true →
    ∃ t, exec (.testPulseStart src levels) s = .next t ∧ t.sf.tps[src.val] = false ∧ (∀ i : Fin 16, t.sf.input[i.val] =
      { s.sf.input[i.val] with before := bitAt levels i.val }) ∧ t = { s with sf := { s.sf with tps := t.sf.tps, input := t.sf.input } }) ∧
  (∀ (levels : Nat) (s : State), s.pulseFrame 0 = true → ∃ t, exec (.testPulseStart 0 levels) s = .next t ∧
    (∀ k : Fin 8, t.sf.pair[k.val] = s.sf.pair[k.val].endCycle (!s.pairLow k)) ∧
    t = { s with sf := { s.sf with tps := t.sf.tps, input := t.sf.input, pair := t.sf.pair } }) ∧
  (∀ p : SafetyPair, p.fault = true → 2 ≤ p.goodCycles → p.cycleBad = false →
    (p.endCycle true).fault = false ∧ ((p.endCycle false).fault = true ∧ (p.endCycle false).goodCycles = 0)) ∧
  (∀ (src : Fin 4) (levels : Nat) (s : State), (∀ k : Fin 8, s.pairFunc k = 0) →
    ∃ t, exec (.testPulseCheck src levels) s = .next t ∧ (∀ i : Fin 16, t.sf.input[i.val] = { s.sf.input[i.val] with level := bitAt levels i.val }) ∧
      t = { s with sf := { s.sf with input := t.sf.input } }) ∧
  (∀ (src : Fin 4) (s : State), ∃ t, exec (.testPulseEnd src) s = .next t ∧ t.sf.tps[src.val] = true ∧ t = { s with sf := { s.sf with tps := t.sf.tps } })

/-- R71, R284, R288, R290 to R293. -/
def Obligations.StopDemands : Prop :=
  (∀ (i : Nat) (s : State), (s.legKeys (legOfCell i)).any (fun k => k.2.2 == i) = true → (s.cell i).invalid = true →
    s.conv[(legOfCell i).val].st ≠ .disabled → s.sf.cellInvalid.contains i = false →
    ∃ t, exec (.cellInvalidTimeout i) s = .next t ∧ t.sf.cellInvalid = s.sf.cellInvalid ++ [i] ∧ s.demands 7 2 true t) ∧
  (∀ (i : Nat) (s : State), (s.cell i).invalid = false → exec (.cellInvalidTimeout i) s = .next s) ∧
  (∀ (leg : Leg) (k : Nat) (s : State), 1 ≤ k → k ≤ s.stations leg → s.sf.stationInvalid.contains (stationKey leg k) = false →
    (∀ j : Nat, j < 8 → (s.temp (8 * stationKey leg k + j)).t = tInvalid) →
    ∃ t, exec (.tempPointsInvalidTimeout leg k) s = .next t ∧ t.sf.stationInvalid = s.sf.stationInvalid ++ [stationKey leg k] ∧ s.demands 9 2 true t) ∧
  (∀ s : State, s.sf.seqStep = 2 → ∃ t, exec .prechargeTimeout s = .next t ∧ s.demands 15 2 true t) ∧
  (∀ s : State, s.sf.seqStep ≠ 2 → exec .prechargeTimeout s = .next s) ∧
  (∀ (leg : Leg) (chg : Bool) (s : State), s.inhibited chg = true →
    ∃ t, exec (.inhibitCurrentViolation leg chg) s = .next t ∧ s.demands 18 2 true t) ∧
  (∀ (leg : Leg) (chg : Bool) (s : State), s.inhibited chg = false → exec (.inhibitCurrentViolation leg chg) s = .next s) ∧
  (∀ s : State, s.mode = .stopping → 2 ≤ s.sf.stopCat → s.sf.opened = false →
    ∃ t, exec .stopTMaxExpiry s = .next t ∧ t = { s with sf := t.sf } ∧ t.sf.opened = true ∧ t.sf.seqStep = 6 ∧
      (∀ g : Fin 4, t.sf.group[g.val].on = false) ∧
      (∀ g : Fin 4, s.sf.group[g.val].on = true → s.sf.group[g.val].st ≠ .welded → t.sf.group[g.val].st = .opening)) ∧
  (∀ s : State, s.mode = .stopping → s.sf.opened = true → s.allOpen = true → s.start.lastGasp = false → s.base.coreLost = false → s.upd.endDue = 0 →
    s.welded = false → s.sf.stopLatching = false →
    ∃ t, exec .stoppingExit s = .next t ∧ t.mode = .surveyed ∧ t.sf.stopCat = 0 ∧ t.sf.seqStep = 0 ∧ t.kept = s.kept) ∧
  (∀ s : State, s.mode = .stopping → s.sf.opened = true → s.allOpen = true → s.start.lastGasp = false → s.base.coreLost = false → s.upd.endDue = 0 →
    (s.welded = true ∨ s.sf.stopLatching = true) →
    ∃ t, exec .stoppingExit s = .next t ∧ t.mode = .faultHold ∧ t.sf.stopCat = 0 ∧ (∀ l : Leg, t.conv[l.val].pwmen = false) ∧ t.kept = s.kept) ∧
  (∀ s : State, (s.mode ≠ .stopping ∨ s.allOpen = false) → exec .stoppingExit s = .next s)

/-- R283, R284, R287, R317. -/
def Obligations.Contactors : Prop :=
  (∀ s : State, (s.mode = .armed ∨ s.mode = .running) → s.sf.seqStep = 1 → s.closed 1 = true → s.sf.group[2].on = false → s.sf.group[2].st ≠ .welded →
    ∃ t, exec .contactorSequenceStep s = .next t ∧ t.sf.seqStep = 2 ∧ t.sf.stepFrames = 0 ∧ t.sf.group[2].on = true ∧ t.sf.group[2].st = .closing ∧
      t = { s with sf := t.sf }) ∧
  (∀ s : State, (s.mode = .armed ∨ s.mode = .running) → s.sf.seqStep = 2 → 100 ≤ s.sf.stepFrames → s.busSettled = true → s.sf.group[0].on = false →
    ∃ t, exec .contactorSequenceStep s = .next t ∧ t.sf.seqStep = 3 ∧ t.sf.group[0].on = true ∧ t.sf.group[3].on = (s.sf.group[3].on || !s.groupUnused 3) ∧
      t = { s with sf := t.sf }) ∧
  (∀ s : State, (s.mode = .armed ∨ s.mode = .running) → s.sf.seqStep = 3 → s.closed 0 = true → s.closed 3 = true →
    ∃ t, exec .contactorSequenceStep s = .next t ∧ t = { s with sf := { s.sf with seqStep := 4, stepFrames := 0 } }) ∧
  (∀ s : State, (s.mode = .armed ∨ s.mode = .running) → s.sf.seqStep = 4 → s.sf.group[2].on = true → s.parN P.prechargeOverlap ≤ s.sf.stepFrames →
    ∃ t, exec .contactorSequenceStep s = .next t ∧ t.sf.group[2].on = false ∧ t.sf.seqStep = 4 ∧ t = { s with sf := t.sf }) ∧
  (∀ s : State, (s.mode = .armed ∨ s.mode = .running) → s.sf.seqStep = 4 → s.sf.group[2].on = false → s.standsOpen 2 = true →
    ∃ t, exec .contactorSequenceStep s = .next t ∧ t = { s with sf := { s.sf with seqStep := 5, stepFrames := 0 } }) ∧
  (∀ s : State, (s.mode = .armed ∨ s.mode = .running) → s.sf.seqStep = 1 → s.closed 1 = false → exec .contactorSequenceStep s = .next s) ∧
  (∀ (g : Fin 4) (levels : Nat) (s : State), s.groupUnused g = false → s.sf.group[g.val].st ≠ .welded → s.fbkUse g = 0 →
    ∃ t, exec (.contactorOperateTimeout g levels) s = .next t ∧ t.sf.group[g.val].operating = false ∧
      t.sf.group[g.val].st = (if s.sf.group[g.val].on then .closed else .opened) ∧ t = { s with sf := t.sf }) ∧
  (∀ (g : Fin 4) (s : State), s.groupUnused g = false → s.sf.group[g.val].st ≠ .welded → s.fbkUse g = 2 → s.sf.group[g.val].on = true →
    ∃ t, exec (.contactorOperateTimeout g 3) s = .next t ∧ t.sf.group[g.val].st = .failedToClose ∧ s.demands 15 2 true t) ∧
  (∀ (g : Fin 4) (s : State), s.groupUnused g = false → s.sf.group[g.val].st ≠ .welded → s.fbkUse g = 2 → s.sf.group[g.val].on = false → s.peerHolds g = false →
    ∃ t, exec (.contactorOperateTimeout g 0) s = .next t ∧ t.sf.group[g.val].st = .welded ∧ t.sf.tripReq = true ∧ s.demands 16 2 true t) ∧
  (∀ (g : Fin 4) (s : State), s.groupUnused g = false → s.fbkUse g = 2 → s.sf.group[g.val].on = true → s.sf.group[g.val].st = .closed →
    s.base.coreLost = false →
    ∃ t, exec (.contactorFeedbackChange g 3) s = .next t ∧ t.sf.group[g.val].st = .dropped ∧ s.demands 14 1 true t) ∧
  (∀ (g : Fin 4) (s : State), s.groupUnused g = false → s.fbkUse g = 2 → s.sf.group[g.val].on = true → s.sf.group[g.val].st = .closing →
    s.base.coreLost = false →
    ∃ t, exec (.contactorFeedbackChange g 0) s = .next t ∧ t.sf.group[g.val].st = .closed ∧ t = { s with sf := t.sf }) ∧
  (∀ (g : Fin 4) (s : State), s.sf.group[g.val].peerHold = true → s.fbkUse g = 2 →
    (∃ t, exec (.weldPeerHoldExpiry g 3) s = .next t ∧ t.sf.group[g.val].st = .opened ∧ t.sf.group[g.val].peerHold = false ∧ t = { s with sf := t.sf }) ∧
    (∃ t, exec (.weldPeerHoldExpiry g 0) s = .next t ∧ t.sf.group[g.val].st = .welded ∧ t.sf.tripReq = true ∧ s.demands 16 2 true t)) ∧
  (∀ (g : Fin 4) (levels : Nat) (s : State), s.sf.group[g.val].peerHold = false → exec (.weldPeerHoldExpiry g levels) s = .next s)

/-- R285, R286, R289, of a single module (no twin member). -/
def Obligations.OutputTests : Prop :=
  (∀ (c : Fin 8) (on : Bool) (s : State), s.sf.output[c.val].driven = on →
    ∃ t, exec (.outputReadbackMismatch c on) s = .next t ∧ t.sf.output[c.val] = { s.sf.output[c.val] with readback := on } ∧
      t = { s with sf := { s.sf with output := t.sf.output } }) ∧
  (∀ (c : Fin 8) (s : State), s.sf.output[c.val].driven = true → s.sf.dark = none → s.sf.output[c.val].stuckOff = false → s.twinMember = false →
    s.mode = .running → ∃ t, exec (.outputReadbackMismatch c false) s = .next t ∧ t.sf.output[c.val].stuckOff = true ∧ t.mode = .stopping ∧
      t.sf.stopCat = 1 ∧ bitAt t.sf.latched 14 = true) ∧
  (∀ (c : Fin 8) (s : State), s.sf.output[c.val].driven = false → s.sf.dark = none → s.sf.output[c.val].stuckOn = false → s.twinMember = false →
    s.mode = .running → ∃ t, exec (.outputReadbackMismatch c true) s = .next t ∧ t.sf.output[c.val].stuckOn = true ∧ t.mode = .stopping ∧
      t.sf.stopCat = 2 ∧ bitAt t.sf.latched 13 = true) ∧
  (∀ (c : Fin 8) (s : State), s.sf.darkNext = some c.val → s.sf.dark = none →
    ∃ t, exec .darkTestStart s = .next t ∧ t.sf.dark = some (c.val, none) ∧ t.sf.darkNext = none ∧ t.sf.darkOn = bitAt s.sf.fieldCmd c.val ∧
      t.sf.output[c.val].driven = false ∧ t = { s with sf := t.sf }) ∧
  (∀ s : State, s.sf.darkNext = none → exec .darkTestStart s = .next s) ∧
  (∀ (c : Fin 8) (s : State), s.sf.dark = some (c.val, none) →
    ∃ t, exec (.darkTestOffCheck false) s = .next t ∧ t.sf.dark = some (c.val, some true) ∧ t = { s with sf := t.sf }) ∧
  (∀ (c : Fin 8) (s : State), s.sf.dark = some (c.val, some true) → s.sf.darkOn = true → s.sf.output[c.val].driven = true →
    ∃ t, exec (.darkTestRecoveryCheck true) s = .next t ∧ t.sf.dark = none ∧ t.sf.darkOn = false ∧ t.sf.output[c.val].missed = 0 ∧
      t.sf.output[c.val].lastGood = true ∧ t.sf.output[c.val].goodNow = true ∧ t.sf.output[c.val].good = incSat s.sf.output[c.val].good ∧
      t = { s with sf := t.sf }) ∧
  (∀ (c : Fin 8) (s : State), s.sf.output[c.val].goodNow = true →
    ∃ t, exec (.darkTestIntervalEnd c) s = .next t ∧ t.sf.output[c.val] = { s.sf.output[c.val] with goodNow := false } ∧ t = { s with sf := { s.sf with output := t.sf.output } }) ∧
  (∀ (c : Fin 8) (s : State), s.sf.output[c.val].goodNow = false → s.darkTested c = true → s.sf.output[c.val].missed < 2 →
    ∃ t, exec (.darkTestIntervalEnd c) s = .next t ∧ t.sf.output[c.val] = { s.sf.output[c.val] with missed := s.sf.output[c.val].missed + 1 } ∧
      t = { s with sf := { s.sf with output := t.sf.output } }) ∧
  (∀ (c : Fin 8) (s : State), s.sf.output[c.val].goodNow = false → s.darkTested c = true → s.sf.output[c.val].missed = 2 →
    s.sf.output[c.val].diagFault = false → s.twinMember = false →
    ∃ t, exec (.darkTestIntervalEnd c) s = .next t ∧ t.sf.output[c.val].diagFault = true ∧ bitAt t.sf.latched 13 = true)

/-- R235, R289, R290, R292, R301. -/
def Obligations.Permits : Prop :=
  (∀ (b : List Byte) (s : State), (b.length ≠ 56 ∨ fieldAt 52 4 b ≠ safetyCrc (b.take 52) ∨ fieldAt 4 4 b ≠ s.time.frame ∨ s.sf.permitTimeout = true ∨
    s.base.fieldLost = true ∨ s.start.lastGasp = true) → exec (.permitReceived b) s = .next s) ∧
  (∀ (b : List Byte) (s : State), s.permitFresh b = true →
    ∃ t, exec (.permitReceived b) s = .next t ∧ t.sf.fresh = true ∧ t.sf.fieldCmd = fieldAt 0 1 b ∧
      (∀ l : Leg, t.sf.legPwm[l.val] = bitAt (fieldAt 1 1 b) l.val) ∧
      (∀ l : Leg, bitAt (fieldAt 1 1 b) l.val = false → t.conv[l.val].st.live = false) ∧
      (fieldAt 2 1 b % 4 = 1 → ∀ l : Leg, t.conv[l.val].st.live = false) ∧
      (∀ c : Fin 8, t.sf.output[c.val].driven = true → bitAt (fieldAt 0 1 b) c.val = true ∧ s.sf.forceoff = false ∧ (s.mode = .armed ∨ s.mode = .running ∨ s.mode = .stopping)) ∧
      t = { s with sf := t.sf, conv := t.conv, cle := t.cle, pwm := t.pwm, mode := t.mode }) ∧
  (∀ s : State, s.sf.permitTimeout = false → s.base.fieldLost = false → s.start.reduced = false → s.mode = .running → s.sf.lockstep = false →
    ∃ t, exec .permitTimeout s = .next t ∧ t.sf.permitTimeout = true ∧ t.sf.fresh = false ∧ t.sf.fieldCmd = 0 ∧ (∀ l : Leg, t.sf.legPwm[l.val] = false) ∧
      (∀ c : Fin 8, t.sf.output[c.val].driven = false) ∧ (∀ l : Leg, t.conv[l.val].st.live = false) ∧ t.kept = s.kept) ∧
  (∀ s : State, s.sf.permitTimeout = false → s.base.fieldLost = false → s.start.reduced = false → s.mode = .running → s.sf.lockstep = true →
    ∃ t, exec .permitTimeout s = .next t ∧ t.mode = .faultHold ∧ bitAt t.sf.stopCause 17 = true ∧ (∀ c : Fin 8, t.sf.output[c.val].driven = false)) ∧
  (∀ s : State, s.sf.permitTimeout = true → exec .permitTimeout s = .next s) ∧
  (∀ s : State, s.sf.lockstep = false → s.mode ≠ .off → s.mode ≠ .laidUp → s.twinMember = false →
    ∃ t, exec .lockstepMismatch s = .next t ∧ t = { s with sf := { s.sf with lockstep := true }, fb := t.fb }) ∧
  (∀ s : State, s.sf.lockstep = true → exec .lockstepMismatch s = .next s)

/-- R294, R404 to R406. -/
def Obligations.Telegrams : Prop :=
  (∀ (lan : Fin 2) (b : List Byte) (stamp : Nat) (s : State), (s.mode = .surveyed ∨ s.mode = .armed ∨ s.mode = .running) → b.length = 46 →
    (s.sf.tgCopies.any (fun c => c.lan == lan.val && tgSource c.body == tgSource b && tgSeqOf c.body == tgSeqOf b)) = false →
    exec (.safeTelegramReceived lan b stamp) s = .next { s with
      time := s.time.reach s.ppsDriven stamp, sf := { s.sf with tgCopies := s.sf.tgCopies ++ [{ lan := lan.val, stamp := stamp, body := b }] } }) ∧
  (∀ (lan : Fin 2) (b : List Byte) (stamp : Nat) (s : State), (s.mode = .surveyed ∨ s.mode = .armed ∨ s.mode = .running) → b.length = 46 →
    (s.sf.tgCopies.any (fun c => c.lan == lan.val && tgSource c.body == tgSource b && tgSeqOf c.body == tgSeqOf b)) = true →
    ∃ t, exec (.safeTelegramReceived lan b stamp) s = .next t ∧ t.net.tg[3] = incSat s.net.tg[3] ∧ t.sf = s.sf ∧ t = { s with time := t.time, net := t.net }) ∧
  (∀ (lan : Fin 2) (b : List Byte) (stamp : Nat) (s : State), b.length ≠ 46 →
    ∃ t, exec (.safeTelegramReceived lan b stamp) s = .next t ∧ t = { s with time := t.time }) ∧
  (∀ (a b : TelegramCopy) (s : State), a.body = b.body → s.tgValid a.body = true → tgType a.body = 1 → fieldAt 18 1 a.body % 4 = 0 →
    s.tgEvaluate [a, b] = { s with
      sf := { s.sf with tgSeq := some (tgSeqOf a.body), tgRx := incSat s.sf.tgRx, tgStop := 0, tgChargeInhibit := bitAt (fieldAt 18 1 a.body) 2,
                        tgDischargeInhibit := bitAt (fieldAt 18 1 a.body) 3, tgWd := false }
      net := { s.net with tg := vmod s.net.tg 0 incSat } }) ∧
  (∀ (a b : TelegramCopy) (s : State), a.body ≠ b.body → ∃ t, t = s.tgEvaluate [a, b] ∧ t.sf = s.sf ∧ t.net.tg[2] = incSat s.net.tg[2] ∧
    t = { s with net := t.net, fb := t.fb }) ∧
  (∀ (a b : TelegramCopy) (s : State), a.body = b.body → s.tgValid a.body = false → s.tgEvaluate [a, b] = s) ∧
  (∀ (b : List Byte) (s : State), s.tgValid b = true → b.length = 46 ∧ fieldAt 42 4 b = safetyCrc (b.take 42) ∧ tgSource b ≠ 0) ∧
  (∀ s : State, s.par P.telegramRequired = 1 → exec .telegramWatchdogExpiry s = .next { s with sf := { s.sf with tgWd := true } }) ∧
  (∀ s : State, s.par P.telegramRequired = 0 → exec .telegramWatchdogExpiry s = .next s) ∧
  (∀ s : State, s.role = .active → s.mode = .running → s.sf.lockstep = false → s.parN P.telegramSource ≠ 0 → s.parN P.tripDest = 0 →
    exec .statusTelegramSend s = .next { s with
      sf := { s.sf with tgSent := s.sf.tgSent ++ [(s.parN P.telegramSource, s.statusTelegram (s.parN P.telegramSource))], tgTxSeq := (s.sf.tgTxSeq + 1) % 2 ^ 32 }
      net := { s.net with txSeq := (s.net.txSeq + 1) % 65536 } }) ∧
  (∀ s : State, s.role ≠ .active → exec .statusTelegramSend s = .next s)

/-- R289, R299, R300, R302, R305, R312 to R316, R321. -/
def Obligations.TwinRolesAndPins : Prop :=
  (∀ (alive : Bool) (s : State), s.twinMember = true → s.mode = .load → s.twin.aliveOut = false →
    ∃ t, exec (.twinRoleDecision true alive) s = .next t ∧ t.role = .standby ∧ t.twin.waiting = false ∧ t.twin.aliveOut = true ∧ t.twin.peerAlive = alive ∧
      t = { s with role := t.role, twin := t.twin }) ∧
  (∀ (alive : Bool) (s : State), s.twinMember = true → s.mode = .load → s.twin.aliveOut = false →
    ∃ t, exec (.twinRoleDecision false alive) s = .next t ∧ t.twin.aliveOut = true ∧ t = { s with role := t.role, twin := t.twin } ∧
      (s.unitB = false → s.sf.forceoff = false → t.role = .active ∧ t.twin.activeN = true) ∧
      ((s.unitB = true ∨ s.sf.forceoff = true) → t.role = .standby ∧ t.twin.waiting = true)) ∧
  (∀ s : State, s.twin.waiting = true → s.unitB = true → s.sf.forceoff = false → s.twin.incompatible = false →
    ∃ t, exec (.twinStartWaitExpiry false) s = .next t ∧ t.role = .active ∧ t.twin.waiting = false ∧ t = { s with role := .active, twin := t.twin }) ∧
  (∀ s : State, s.twin.waiting = true → s.unitB = true → s.twin.up = false →
    ∃ t, exec (.twinStartWaitExpiry true) s = .next t ∧ t.role = .standby ∧ t.twin.noLink = true ∧ t = { s with role := .standby, twin := t.twin }) ∧
  (∀ s : State, s.sf.forceoff = false → s.twinMember = false →
    ∃ t, exec .forceoffAssert s = .next t ∧ t.sf.forceoff = true ∧ (∀ c : Fin 8, t.sf.output[c.val].driven = false) ∧
      (∀ p : Phase, t.pwm[p.val].on = false) ∧ t = { s with sf := t.sf, pwm := t.pwm }) ∧
  (∀ s : State, s.sf.forceoff = false → s.twinMember = true → s.role = .active → s.mode = .running → s.twin.takeoverOut = false →
    ∃ t, exec .forceoffAssert s = .next t ∧ t.role = .estranged ∧ t.mode = .faultHold ∧ t.sf.forceoff = true ∧ (∀ p : Phase, t.pwm[p.val].on = false) ∧
      (∀ c : Fin 8, t.sf.output[c.val].driven = false)) ∧
  (∀ s : State, s.role ≠ .estranged → s.twin.waiting = false → exec .forceoffRelease s = .next { s with sf := { s.sf with forceoff := false } }) ∧
  (∀ s : State, s.role = .estranged → exec .forceoffRelease s = .next s) ∧
  (∀ (stamp delay : Nat) (tai stepped : Bool) (s : State), s.twinMember = true → s.mode = .surveyed → s.role = .active →
    ∃ t, exec (.backsightUp stamp delay tai stepped) s = .next t ∧ t = { s with twin := t.twin } ∧ t.twin.up = true ∧ t.twin.everUp = true ∧ t.twin.rx = {} ∧
      t.twin.tx.pending = [(3, .status t.announce)]) ∧
  (∀ (stamp delay : Nat) (tai stepped : Bool) (s : State), s.twinMember = true → s.mode = .surveyed → s.role = .standby → s.twin.everUp = false →
    ∃ t, exec (.backsightUp stamp delay tai stepped) s = .next t ∧ t.time.meridian = stamp + delay ∧ t.time.tai = tai ∧ t.time.stepped = stepped ∧
      t = { s with twin := t.twin, time := t.time, fb := t.fb }) ∧
  (∀ s : State, s.twin.up = true → s.canTakeOver = true →
    ∃ t, exec .backsightSilence s = .next t ∧ t.twin.up = false ∧ t.twin.decided = some s.time.meridian ∧ t.twin.outcome = 5 ∧
      t.twin.takeovers = incSat s.twin.takeovers ∧ t.twin.lastTakeover = s.time.meridian ∧ t = { s with twin := t.twin, fb := t.fb }) ∧
  (∀ s : State, s.twin.peerAlive = true → s.canTakeOver = true →
    ∃ t, exec .peerAliveLost s = .next t ∧ t.twin.peerAlive = false ∧ t.twin.decided = some s.time.meridian ∧ t.twin.outcome = 6 ∧ t = { s with twin := t.twin, fb := t.fb }) ∧
  (∀ s : State, s.twin.up = false → exec .backsightSilence s = .next s) ∧ (∀ s : State, s.twin.peerAlive = false → exec .peerAliveLost s = .next s) ∧
  (∀ s : State, s.twinMember = true → s.role = .active → s.twin.degraded = true → s.par P.twinRequired = 1 →
    ∃ t, exec .twinGraceExpiry s = .next t ∧ s.demands 12 2 true t) ∧
  (∀ s : State, s.twin.waiting = true → s.unitB = true → s.twin.incompatible = true →
    exec (.twinStartWaitExpiry false) s = .next { s with twin := { s.twin with peerAlive := false } })

/-- R303, R304, R306 to R308. -/
def Obligations.BacksightTraffic : Prop :=
  (∀ s : State, s.twinMember = true → s.twin.up = true → s.twin.tx.replaying = [] → s.twin.tx.pending = [] →
    exec .backsightFlitSend s = .next { s with twin := { s.twin with
      rx := { s.twin.rx with nakDue := false }
      tx := { s.twin.tx with onWire := some (7, .idle)
                             wire := backFlit 7 s.twin.tx.nextSeq s.twin.rx.lastRx s.twin.rx.nakDue s.time.frame .idle } } }) ∧
  (∀ (m : TwinMsg) (s : State), s.twinMember = true → s.twin.up = true → s.twin.tx.replaying = [] → s.twin.tx.pending = [(3, m)] →
    s.twin.tx.replay.length < 16 →
    exec .backsightFlitSend s = .next { s with twin := { s.twin with
      rx := { s.twin.rx with nakDue := false }
      tx := { s.twin.tx with pending := [], replay := s.twin.tx.replay ++ [(s.twin.tx.nextSeq, (3, m))],
                             nextSeq := (s.twin.tx.nextSeq + 1) % 256, onWire := some (3, m)
                             wire := backFlit 3 s.twin.tx.nextSeq s.twin.rx.lastRx s.twin.rx.nakDue s.time.frame m } } }) ∧
  (∀ (seq ack : Nat) (nak : Bool) (m : TwinMsg) (s : State), s.twinMember = true → s.twin.up = true →
    exec (.backsightFlitReceived 3 seq ack nak false m) s = .next { s with twin := { s.twin with
      errors := incSat s.twin.errors, rx := { s.twin.rx with discarding := true, nakDue := true, owed := s.twin.rx.owed + 1 } } }) ∧
  (∀ (seq ack : Nat) (b : List Byte) (s : State), s.twinMember = true → s.twin.up = true → s.twin.rx.discarding = false → s.twin.rx.owed = 0 →
    exec (.backsightFlitReceived 3 seq ack false true (.permitWords b)) s = .next { s with twin := { s.twin with
      peerPermit := some b, rx := { s.twin.rx with discarding := false, owed := 0, lastRx := seq } } }) ∧
  (∀ (seq ack : Nat) (m : TwinMsg) (s : State), s.twinMember = true → s.twin.up = true → s.twin.step.paired = true → s.role = .active →
    ∃ t, exec (.backsightFlitReceived 2 seq ack false false m) s = .next t ∧ t.twin.step = .joining ∧ t.twin.divergences = incSat s.twin.divergences ∧
      t.twin.takeoverOut = true ∧ t = { s with twin := t.twin, fb := t.fb }) ∧
  (∀ (cls seq ack : Nat) (nak ok : Bool) (m : TwinMsg) (s : State), s.twin.up = false → exec (.backsightFlitReceived cls seq ack nak ok m) s = .next s) ∧
  (∀ (b : SealBundle) (s : State), s.role = .standby → b.crcOk = true → b.frame = s.time.frame →
    ∃ t, exec (.sealBundleReceived b) s = .next t ∧ t.twin.sealed = b.frame ∧ t.sf.imgSfi = b.sfi ∧ t.sf.imgFbk = b.latch.fbk ∧ t.sf.imgReadback = b.latch.readback ∧
      t.lat.ntc = b.latch.ntc ∧ t.kept = s.kept) ∧
  (∀ (b : SealBundle) (s : State), (s.role ≠ .standby ∨ b.crcOk = false ∨ b.frame ≠ s.time.frame) → exec (.sealBundleReceived b) s = .next s) ∧
  (∀ s : State, s.role = .standby → s.twin.step = .inStep → s.twin.sealed ≠ s.time.frame → s.twin.divergeAt = [] →
    ∃ t, exec .sealBundleLate s = .next t ∧ t.twin.step = .joining ∧ t.twin.divergences = incSat s.twin.divergences ∧ t.role = .standby ∧
      t = { s with twin := t.twin, fb := t.fb }) ∧
  (∀ s : State, s.twin.sealed = s.time.frame → exec .sealBundleLate s = .next s) ∧
  (∀ s : State, s.role = .standby → s.twin.step = .inStep → s.twin.decided = none → s.twin.codes = none →
    exec .standbyCleStart s = .next { s with twin := { s.twin with missing := true } }) ∧
  (∀ (c : Vector Int 18) (s : State), s.role = .standby → s.twin.step = .inStep → s.twin.decided = none → s.twin.codes = some c →
    (∀ i : Fin 18, s.twin.diffRun[i.val] + 1 < s.parN P.plausSamples) →
    ∃ t, exec .standbyCleStart s = .next t ∧ t.twin.codes = none ∧ t.twin.missing = false ∧ t.role = .standby ∧ t.kept = s.kept)

/-- R308, R310 to R312. -/
def Obligations.TwinComparison : Prop :=
  (∀ (w : SampleWords) (s : State), w.held = 0 → w.notComputed = 0 → s.twin.ownWords = some w → s.twin.peerWords = some w →
    (s.twin.step = .inStep → exec .twinSampleCompare s = .next { s with twin := { s.twin with ownWords := none, peerWords := none } }) ∧
    (s.twin.step = .suspect → exec .twinSampleCompare s = .next { s with twin := { s.twin with ownWords := none, peerWords := none, step := .inStep } })) ∧
  (∀ (a b : SampleWords) (k : Nat) (s : State), a.held = 0 → a.notComputed = 0 → b.held = 0 → b.notComputed = 0 →
    s.twin.ownWords = some a → s.twin.peerWords = some b → firstDiff (sampleFlat a) (sampleFlat b) = some k →
    (s.twin.step = .inStep → exec .twinSampleCompare s = .next { s with twin := { s.twin with
      ownWords := none, peerWords := none, step := .suspect, singleDiffs := incSat s.twin.singleDiffs, suspectAt := (s.time.frame, s.grid.sample) } }) ∧
    (s.twin.step = .suspect → ∃ t, exec .twinSampleCompare s = .next t ∧ t.twin.step = .dispute ∧ t.twin.mismatches = incSat s.twin.mismatches ∧
      t.twin.disputeWord = k ∧ t.twin.own = none ∧ t.twin.peer = none ∧ t = { s with twin := t.twin, fb := t.fb })) ∧
  (∀ (a b : SampleWords) (s : State), s.twin.step = .inStep → s.role = .active → a.held ≠ 0 → s.twin.ownWords = some a → s.twin.peerWords = some b →
    ∃ t, exec .twinSampleCompare s = .next t ∧ t.twin.step = .joining ∧ t.twin.divergences = incSat s.twin.divergences ∧ t = { s with twin := t.twin, fb := t.fb }) ∧
  (∀ s : State, s.twin.step = .inStep → s.twin.peerPermit = some s.sf.permit → s.twin.peerFrame = none →
    exec .twinFrameCompare s = .next { s with twin := { s.twin with peerPermit := none, peerFrame := none } }) ∧
  (∀ (p o : FrameWords) (k : Nat) (s : State), s.twin.step = .inStep → s.twin.peerPermit = none → s.twin.peerFrame = some p → s.twin.ownFrame = some o →
    firstDiff (frameFlat o) (frameFlat p) = some k →
    ∃ t, exec .twinFrameCompare s = .next t ∧ t.twin.step = .dispute ∧ t.twin.disputeWord = k + 16 ∧ t.twin.mismatches = incSat s.twin.mismatches ∧
      t = { s with twin := t.twin, fb := t.fb }) ∧
  (∀ (ok : Bool) (s : State), s.twin.step = .dispute → s.twin.own = none → s.twin.peer = none → 9 ≤ s.twin.disputeWord →
    ∃ t, exec (.twinRecomputeComplete ok) s = .next t ∧ t.twin.own = some ok ∧ t.twin.step = .dispute ∧ t = { s with twin := t.twin }) ∧
  (∀ (ok : Bool) (s : State), s.twin.step = .dispute → s.twin.peer = none → s.twin.own = none →
    exec (.twinVerdictReceived ok) s = .next { s with twin := { s.twin with peer := some ok } }) ∧
  (∀ s : State, s.twin.step = .dispute → s.twin.peer = none → s.twin.own = some false → s.role = .active →
    ∃ t, exec (.twinVerdictReceived true) s = .next t ∧ t.twin.outcome = 1 ∧ t.role = .active ∧ t = { s with twin := t.twin, fb := t.fb }) ∧
  (∀ s : State, s.twin.step = .dispute → s.twin.peer = none → s.twin.own = some true → s.role = .active →
    ∃ t, exec (.twinVerdictReceived false) s = .next t ∧ t.twin.outcome = 2 ∧ t.twin.step = .none ∧ t.twin.takeoverOut = true ∧ t.twin.degraded = true ∧
      t = { s with twin := t.twin, fb := t.fb }) ∧
  (∀ s : State, s.twin.step = .dispute → s.twin.peer = none → s.twin.own = some false → s.role = .standby →
    ∃ t, exec (.twinVerdictReceived true) s = .next t ∧ t.role = .estranged ∧ t.sf.forceoff = true) ∧
  (∀ s : State, s.twin.step = .dispute → s.twin.own = none → s.twin.peer = none → s.role = .active →
    ∃ t, exec .twinVerdictTimeout s = .next t ∧ t.twin.outcome = 4 ∧ t.twin.takeoverOut = true ∧ t.events.length = s.events.length + 1) ∧
  (∀ s : State, s.twin.step ≠ .dispute → exec .twinVerdictTimeout s = .next s)

/-- R308, R309, R313, R314, R318, R319; the state of a join comes whole with its completion (log 74). -/
def Obligations.JoinTakeoverSwap : Prop :=
  (∀ s : State, s.twinMember = true → s.twin.up = true → s.twin.incompatible = false → s.twin.step = .none → s.role = .standby →
    ∃ t, exec .joinRequest s = .next t ∧ t.twin.step = .joining ∧ t.twin.blocks = 0 ∧ t.twin.tx.pending = s.twin.tx.pending ++ [(3, .joinRequest)] ∧
      t = { s with twin := t.twin }) ∧
  (∀ s : State, s.twinMember = true → s.twin.up = true → s.twin.incompatible = false → s.twin.step = .none → s.role = .active → s.acceptsJoin = true →
    ∃ t, exec .joinRequest s = .next t ∧ t.twin.step = .joining ∧ t.twin.takeoverOut = true ∧ t.twin.tx.pending = s.twin.tx.pending ++ [(3, .joinAccept)] ∧
      t = { s with twin := t.twin }) ∧
  (∀ s : State, s.twin.step.paired = true → exec .joinRequest s = .next s) ∧
  (∀ (i : Nat) (d : List Byte) (s : State), s.role = .standby → s.twin.step = .joining → s.twinMember = true → s.twin.up = true →
    ∃ t, exec (.joinBlockReceived i d) s = .next t ∧ t.twin.blocks = s.twin.blocks + 1 ∧ t.twin.tx.pending = s.twin.tx.pending ++ [(5, .joinAck (s.twin.blocks + 1))] ∧
      t = { s with twin := t.twin }) ∧
  (∀ s : State, s.twin.step = .joining → s.role = .standby → exec .joinConverged s = .next { s with twin := { s.twin with final := true } }) ∧
  (∀ (j : JoinState) (s : State), s.twin.step = .joining → s.twin.final = true → s.role = .active → s.acceptsJoin = true →
    ∃ t, exec (.joinComplete j) s = .next t ∧ t.twin.step = .inStep ∧ t.twin.eligibleFrom = some (s.time.frame + 2) ∧ t.twin.releaseAt = some (s.time.frame + 2) ∧
      t = { s with twin := t.twin, fb := t.fb }) ∧
  (∀ (j : JoinState) (s : State), s.twin.step = .joining → s.twin.final = true → s.role = .standby →
    ∃ t, exec (.joinComplete j) s = .next t ∧ t.twin.step = .inStep ∧ t.time.frame = j.frame ∧ t.mode = j.mode ∧ t.conv = j.conv ∧ t.str = j.str ∧ t.est = j.est ∧
      t.eleg = j.eleg ∧ t.cells = j.cells ∧ (∀ l : Leg, t.cle[l.val].comp = j.cle[l.val].comp ∧ t.cle[l.val].word = j.cle[l.val].word) ∧
      t.sf.group = j.sf.group ∧ t.sf.forceoff = s.sf.forceoff ∧ t.sf.permit = s.sf.permit ∧ t.kept = s.kept ∧ t.learn = s.learn) ∧
  (∀ (j : JoinState) (s : State), s.twin.final = false → exec (.joinComplete j) s = .next s) ∧
  (∀ s : State, s.twin.step = .joining → s.role = .active → exec .joinTimeout s = .next { s with twin := { s.twin with blocks := 0, final := false } }) ∧
  (∀ (d : Nat) (s : State), s.twin.decided = some d → s.role = .standby →
    ∃ t, exec .takeoverSwitch s = .next t ∧ t.role = .active ∧ t.twin.decided = none ∧ t.twin.takeoverOut = true ∧ t.twin.activeN = true ∧ t.twin.step = .none ∧
      t.kept = s.kept) ∧
  (∀ s : State, s.role = .active → exec .takeoverSwitch s = .next s) ∧
  (∀ (r : HostReq) (s u : State), s.accepts 4 r u → fieldAt 0 1 r.payload = 0x20 → u.role = .active → u.swapReady = true → u.mode ≠ .boot →
    exec (.commandSwap r) s = .next (({ u with twin := { u.twin with swapAt := some (u.time.frame + 2) } } : State).answer 4 r 0 [])) ∧
  (∀ (r : HostReq) (s u : State), s.accepts 4 r u → fieldAt 0 1 r.payload = 0x20 → u.swapReady = false → u.mode ≠ .boot →
    exec (.commandSwap r) s = .next (u.answer 4 r 4 [])) ∧
  (∀ s : State, s.twin.swapAt = some s.time.frame → s.twin.step = .inStep → s.twin.ownFault = false → s.role = .active →
    ∃ t, exec .swapBoundary s = .next t ∧ t.role = .standby ∧ t.twin.activeN = false ∧ t.twin.swapAt = none ∧ t.host = { s.host with subs := [], followers := [] } ∧
      t.grid = { s.grid with source := 3 } ∧ (∀ l : Leg, t.ring[l.val] = { s.ring[l.val] with due := [] }) ∧
      t = { s with role := t.role, twin := t.twin, host := t.host, fb := t.fb, grid := t.grid, ring := t.ring }) ∧
  (∀ s : State, s.twin.swapAt = some s.time.frame → s.twin.step = .inStep → s.twin.ownFault = false → s.role = .standby →
    ∃ t, exec .swapBoundary s = .next t ∧ t.role = .active ∧ t.twin.activeN = true ∧ t = { s with role := t.role, twin := t.twin, net := t.net, fb := t.fb, grid := t.grid }) ∧
  (∀ s : State, s.twin.swapAt ≠ some s.time.frame → exec .swapBoundary s = .next s) ∧
  (∀ (j : JoinState) (s : State), s.twin.step = .joining → s.twin.final = true → s.role = .active → s.acceptsJoin = false →
    exec (.joinComplete j) s = .next { s with twin := { s.twin with step := .none, blocks := 0, final := false } })

/-- R325, R328 to R330, R332 to R334. -/
def Obligations.ThermalProtection : Prop :=
  (∀ (ch : Fin 12) (code : Nat) (s : State), (code ≤ 40 ∨ 4055 ≤ code) → s.therm.ntcFault[ch.val] = false →
    ∃ t, exec (.ntcFault ch code) s = .next t ∧ t.therm.ntcFault[ch.val] = true ∧ t.therm.ntc[ch.val] = -32768 ∧ t = { s with therm := t.therm, fb := t.fb }) ∧
  (∀ (ch : Fin 12) (code : Nat) (s : State), 40 < code → code < 4055 → exec (.ntcFault ch code) s = .next s) ∧
  (∀ (ch : Fin 12) (s : State), ∃ t, exec (.ntcFaultClear ch) s = .next t ∧ t.therm.ntcFault[ch.val] = false ∧
    t = { s with therm := { s.therm with ntcFault := t.therm.ntcFault } }) ∧
  (∀ (ntc : Fin 8) (code : Nat) (s : State), code ≤ s.therm.tripCode[ntc.val] → s.therm.stageTrip[(legOf ntc).val] = false → s.conv[(legOf ntc).val].st = .running →
    ∃ t, exec (.stageThermalTrip ntc code) s = .next t ∧ State.braked (legOf ntc) .fault 0 t ∧ t.therm.stageTrip[(legOf ntc).val] = true ∧
      t.therm.restart[(legOf ntc).val] = true ∧ t.therm.stageTrips[(legOf ntc).val] = incSat s.therm.stageTrips[(legOf ntc).val] ∧ t.kept = s.kept) ∧
  (∀ (ntc : Fin 8) (code : Nat) (s : State), s.therm.tripCode[ntc.val] < code → exec (.stageThermalTrip ntc code) s = .next s) ∧
  (∀ (leg : Leg) (s : State), s.therm.stageTrip[leg.val] = true → s.therm.restart[leg.val] = true → s.conv[leg.val].st = .fault → s.conv[leg.val].enabled = true →
    s.mode = .armed →
    ∃ t, exec (.stageThermalRelease leg) s = .next t ∧ t.conv[leg.val] = { s.conv[leg.val] with st := .waitBus, enabled := true, cause := 0 } ∧
      t.therm.stageTrip[leg.val] = false ∧ t = { s with conv := t.conv, therm := t.therm, fb := t.fb }) ∧
  (∀ (leg : Leg) (s : State), s.therm.stageTrip[leg.val] = false → exec (.stageThermalRelease leg) s = .next s) ∧
  (∀ (die : Fin 2) (temp : Int) (s : State), 1300 ≤ temp → s.mode ≠ .off →
    ∃ t, exec (.dieThermalShutdown die temp) s = .next t ∧ t.mode = .off ∧ t.ret.dieShutdown = some (die.val, temp, s.fieldStamp) ∧ t.ret.dieHold = true ∧
      t.ret.dieRestart = true ∧ s.carries { t with start := t.start } ∧ (∀ p : Phase, t.pwm[p.val].on = false) ∧ (∀ c : Fin 8, t.sf.output[c.val].driven = false)) ∧
  (∀ (die : Fin 2) (temp : Int) (s : State), temp < 1300 → exec (.dieThermalShutdown die temp) s = .next s) ∧
  (∀ s : State, s.mode = .off → s.ret.dieHold = true → ∃ t, exec .dieShutdownRelease s = .next t ∧ s.restarts 0 t ∧ t.ret.dieHold = false) ∧
  (∀ s : State, s.time.frame % (max 1 (s.parN P.valvePeriod)) ≠ 0 → exec .valveLoop s = .next s) ∧
  (∀ s : State, s.time.frame % (max 1 (s.parN P.valvePeriod)) = 0 → s.axesRun = true → s.base.coreLost = false → s.base.fieldLost = false → s.par P.valveMode 0xFF 0 = 1 →
    (∀ v : Fin 4, v ≠ 0 → s.par P.valveMode 0xFF v.val = 0) → s.valveTemp 0 = none → s.axis[0].homed = false → s.therm.valveHold[0] = true →
    ∃ t, exec .valveLoop s = .next t ∧ t.axis[0] = { s.axis[0] with nextTarget := some (s.valveSteps 0 (s.failsafe 0)) } ∧ t.therm.valveI[0] = s.failsafe 0 ∧
      t = { s with therm := t.therm, axis := t.axis }) ∧
  (∀ (f : Fin 4) (s : State), ∃ t, exec (.fanPwmPeriod f) s = .next t ∧ t = { s with therm := { s.therm with fanDuty := t.therm.fanDuty } } ∧
    (s.drive .fan = .active → t.therm.fanDuty[f.val] = s.therm.fanOut[f.val]) ∧ (s.drive .fan = .high → t.therm.fanDuty[f.val] = 10000) ∧
    (s.drive .fan = .low → t.therm.fanDuty[f.val] = 0)) ∧
  (∀ (f : Fin 4) (s : State), ∃ t, exec (.tachEdge f) s = .next t ∧ t.therm.tachNow[f.val] = s.therm.tachNow[f.val] + 1 ∧
    t = { s with therm := { s.therm with tachNow := t.therm.tachNow } }) ∧
  (∀ (f : Fin 4) (s : State), s.parN P.tachMinRpm 0xFF f.val ≠ 0 → s.therm.fanRpm[f.val] < s.parN P.tachMinRpm 0xFF f.val →
    s.parN P.tachMinDuty ≤ s.therm.fanDuty[f.val] → s.therm.fanFault[f.val] = false →
    ∃ t, exec (.fanFault f) s = .next t ∧ t.therm.fanFault[f.val] = true ∧ t.events.length = s.events.length + 1 ∧
      t = { s with therm := { s.therm with fanFault := t.therm.fanFault }, fb := t.fb, events := t.events }) ∧
  (∀ (f : Fin 4) (s : State), s.parN P.tachMinRpm 0xFF f.val ≤ s.therm.fanRpm[f.val] →
    ∃ t, exec (.fanFaultClear f) s = .next t ∧ t.therm.fanFault[f.val] = false ∧ t = { s with therm := { s.therm with fanFault := t.therm.fanFault } })

/-- R73, R338 to R341, R343 to R348. -/
def Obligations.AxisMotion : Prop :=
  (∀ (v : Vector Nat 4) (s : State), s.axesRun = false →
    ∃ t, exec (.axisPwmPeriod v) s = .next t ∧ t = { s with axis := t.axis } ∧ ∀ i : Fin 4, t.axis[i.val].off = true ∧ t.axis[i.val].dutyA = 0 ∧
      t.axis[i.val].x = s.axis[i.val].x ∧ t.axis[i.val].st = s.axis[i.val].st ∧
      t.axis[i.val].vmot = (roundDiv ((v[i.val] : Int) * 3300 * s.axPar i P.vmotDiv) 409500).toNat) ∧
  (∀ (v : Vector Nat 4) (s : State), s.axesDriven = true → (∀ i : Fin 4, s.axis[i.val].st = .holding ∧ s.axis[i.val].edge = none ∧ s.axis[i.val].lead = 0) →
    ∃ t, exec (.axisPwmPeriod v) s = .next t ∧ t = { s with axis := t.axis } ∧
      ∀ i : Fin 4, t.axis[i.val].x = s.axis[i.val].x ∧ t.axis[i.val].v = s.axis[i.val].v ∧ t.axis[i.val].st = .holding) ∧
  (∀ (ax : Fin 4) (stamp : Nat) (s : State), s.axPar ax P.homePol = 1 → s.axis[ax.val].homeLevel = false → s.axis[ax.val].homeQual = false →
    s.axis[ax.val].edge = none → s.axis[ax.val].limitNow = false →
    ∃ t, exec (.axisHomeEdge ax true stamp) s = .next t ∧ t = { s with axis := t.axis } ∧
      t.axis[ax.val] = { s.axis[ax.val] with homeLevel := true, edgeNow := true, edge := some (s.axis[ax.val].x, stamp, true) }) ∧
  (∀ (ax : Fin 4) (stamp : Nat) (e : Int × Nat × Bool) (s : State), s.axPar ax P.homePol = 1 → s.axis[ax.val].homeLevel = true → s.axis[ax.val].edge = some e →
    s.axis[ax.val].chatterAt = [] →
    ∃ t, exec (.axisHomeEdge ax false stamp) s = .next t ∧ t = { s with axis := t.axis } ∧ t.axis[ax.val].edge = none ∧
      t.axis[ax.val].chatter = incSat s.axis[ax.val].chatter ∧ t.axis[ax.val].homeLevel = false) ∧
  (∀ (ax : Fin 4) (s : State), ∃ t, exec (.axisChatterClear ax) s = .next t ∧ t = { s with axis := t.axis } ∧
    t.axis[ax.val] = { s.axis[ax.val] with chatterWarn := false, chatterAt := [] }) ∧
  (∀ (ax : Fin 4) (s : State), bitAt (s.axPar ax P.limitsFitted).toNat 0 = true → s.axPar ax P.limPol = 1 → s.axis[ax.val].st = .moving → 0 < s.axis[ax.val].v →
    ∃ t, exec (.axisLimit ax true true) s = .next t ∧ t.axis[ax.val].st = .stopping ∧ t.axis[ax.val].limitDec = true ∧ t.axis[ax.val].limit[0] = true ∧
      t.axis[ax.val].hit[0] = true ∧ t.axis[ax.val].x = s.axis[ax.val].x ∧ t = { s with axis := t.axis, fb := t.fb }) ∧
  (∀ (ax : Fin 4) (level : Bool) (s : State), bitAt (s.axPar ax P.limitsFitted).toNat 1 = false → exec (.axisLimit ax false level) s = .next s) ∧
  (∀ (ax : Fin 4) (s : State), s.axis[ax.val].st = .holding →
    ∃ t, exec (.axisStandstill ax) s = .next t ∧ t = { s with axis := t.axis } ∧ t.axis[ax.val] = { s.axis[ax.val] with st := .standstill }) ∧
  (∀ (ax : Fin 4) (s : State), (s.axis[ax.val].vmot : Int) < s.axPar ax P.vmotMin → s.axPar ax P.axFitted = 1 → s.axis[ax.val].st ≠ .fault →
    ∃ t, exec (.axisVmotFault ax) s = .next t ∧ t.axis[ax.val].st = .fault ∧ t.axis[ax.val].cause = 1 ∧ t.axis[ax.val].v = 0 ∧ t.axis[ax.val].off = true ∧
      t.axis[ax.val].homed = false ∧ t.events.length = s.events.length + 1 ∧ t = { s with axis := t.axis, fb := t.fb, events := t.events }) ∧
  (∀ (ax : Fin 4) (s : State), s.axPar ax P.vmotMin ≤ s.axis[ax.val].vmot → exec (.axisVmotFault ax) s = .next s) ∧
  (∀ (ax : Fin 4) (s : State), s.axis[ax.val].st = .fault → s.axis[ax.val].cause = 1 → s.axPar ax P.vmotMin ≤ s.axis[ax.val].vmot → s.axPar ax P.autoHome = 0 →
    ∃ t, exec (.axisVmotRecover ax) s = .next t ∧ t = { s with axis := t.axis } ∧ t.axis[ax.val] = { s.axis[ax.val] with
      st := if s.axis[ax.val].enable then .holding else .disabled, cause := 0, target := s.axis[ax.val].position }) ∧
  (∀ (ax : Fin 4) (s : State), s.axis[ax.val].st ≠ .fault → exec (.axisVmotRecover ax) s = .next s)

/-- R342. -/
def Obligations.AxisTargets : Prop :=
  (∀ (i : Fin 4) (v : Int) (s : State), s.inStates runtimeStates = true → s.writeStatus (0x58000004 + i.val * 65536) 0 v =
    if s.par P.valveMode 0xFF i.val = 1 then 4 else if v < s.axPar i P.posMin ∨ s.axPar i P.posMax < v then 3 else 0) ∧
  (∀ (i : Fin 4) (v : Int) (s : State), (s.axis[i.val].homed = false ∨ s.axis[i.val].st = .homing) →
    ∃ t, s.applyWrite (0x58000004 + i.val * 65536) 0 v = t ∧ t = { s with axis := t.axis } ∧ t.axis[i.val] = { s.axis[i.val] with target := v, held := true }) ∧
  (∀ (i : Fin 4) (s : State), s.axis[i.val].step = .found → s.axis[i.val].v = 0 → s.axis[i.val].held = true →
    ∃ t x, s.homingStep i = t ∧ x = (s.axis[i.val].position - s.axis[i.val].latch + s.axPar i P.homeOffset) * axU ∧ t.axis[i.val].homed = true ∧
      t.axis[i.val].held = false ∧ t.axis[i.val].target = s.axis[i.val].target ∧ t.axis[i.val].x = x ∧
      (s.axis[i.val].target * axU ≠ x → ({ s.axis[i.val] with x := x, homed := true, st := .holding, held := false } : Axis).mayMove = true →
        t.axis[i.val].st = .moving)) ∧
  (∀ (i : Fin 4) (s : State), s.axis[i.val].step = .found → s.axis[i.val].v = 0 → s.axis[i.val].held = false →
    ∃ t, s.homingStep i = t ∧ t.axis[i.val].homed = true ∧ t.axis[i.val].target = t.axis[i.val].position)

/-- R361 to R364, R366. Of the channels whose owner acts at the end (Field Book, UPDATE, windows) the clauses speak where
the descriptor does not end. -/
def Obligations.StoreBursts : Prop :=
  (∀ (path last : Nat) (may : Fin 16 → Bool) (c : Fin 16) (s : State), s.grant path last may = some c →
    s.su.ch[c.val].wants = true ∧ s.pathOf c = path ∧ may c = true ∧
    ∀ d : Fin 16, s.su.ch[d.val].wants = true → s.pathOf d = path → may d = true →
      chPriority c.val * 16 + turn last c.val ≤ chPriority d.val * 16 + turn last d.val) ∧
  (∀ (p : Fin 2) (c : Fin 16) (cond : Nat) (s : State), s.su.port[p.val].recovering = false → s.su.port[p.val].busy = none →
    s.grant p.val s.su.port[p.val].last (fun d => s.maySuspend p d) = some c → s.touchFault c cond = 0 → s.su.ch[c.val].op = .read →
    (s.su.ch[c.val].len ≤ s.su.ch[c.val].progress + burstLen (s.su.ch[c.val].addr + s.su.ch[c.val].progress) (s.su.ch[c.val].len - s.su.ch[c.val].progress) →
      c.val ∉ ownedChannels) →
    ∃ t n, exec (.dmaBurst ⟨p.val, by omega⟩ cond) s = .next t ∧
      n = burstLen (s.su.ch[c.val].addr + s.su.ch[c.val].progress) (s.su.ch[c.val].len - s.su.ch[c.val].progress) ∧ n ≤ 64 ∧
      t.su.ch[c.val] = { s.su.ch[c.val] with
        progress := s.su.ch[c.val].progress + n
        data := s.su.ch[c.val].data ++ Memory.readBytes s.store (s.su.ch[c.val].addr + s.su.ch[c.val].progress) n
        st := if s.su.ch[c.val].len ≤ s.su.ch[c.val].progress + n then .idle else .active } ∧
      t = { s with su := t.su }) ∧
  (∀ (p : Fin 2) (c : Fin 16) (cond : Nat) (s : State), s.su.port[p.val].recovering = false → s.su.port[p.val].busy = none →
    s.grant p.val s.su.port[p.val].last (fun d => s.maySuspend p d) = some c → s.touchFault c cond = 0 → s.su.ch[c.val].op = .write →
    ∃ t, exec (.dmaBurst ⟨p.val, by omega⟩ cond) s = .next t ∧ t.su.ch[c.val].progress = s.su.ch[c.val].progress ∧ t.su.ch[c.val].st = .active ∧
      (∃ n, n ≤ 64 ∧ t.su.ch[c.val].buffer = s.su.ch[c.val].buffer ++ slice (s.su.ch[c.val].progress + s.su.ch[c.val].buffer.length) n s.su.ch[c.val].data) ∧
      t = { s with su := t.su }) ∧
  (∀ (p : Fin 2) (c : Fin 16) (cond : Nat) (s : State), s.su.port[p.val].recovering = false → s.su.port[p.val].busy = none →
    s.grant p.val s.su.port[p.val].last (fun d => s.maySuspend p d) = some c → s.touchFault c cond = 0 → s.su.ch[c.val].op = .erase →
    ∃ t, exec (.dmaBurst ⟨p.val, by omega⟩ cond) s = .next t ∧ t.su.ch[c.val] = { s.su.ch[c.val] with st := .active, issued := true } ∧
      (∃ p' : Fin 2, t.su.port[p'.val].busy = some c.val) ∧ t = { s with su := t.su }) ∧
  (∀ (p : Fin 2) (c : Fin 16) (cond f : Nat) (s : State), s.su.port[p.val].recovering = false → s.su.port[p.val].busy = none →
    s.grant p.val s.su.port[p.val].last (fun d => s.maySuspend p d) = some c → s.touchFault c cond = f → f ≠ 0 → c.val ∉ ownedChannels →
    ∃ t, exec (.dmaBurst ⟨p.val, by omega⟩ cond) s = .next t ∧ t.su.ch[c.val] = { s.su.ch[c.val] with
        st := .halted, fault := f, faultPage := t.su.ch[c.val].faultPage, buffer := [], issued := false, faults := incSat s.su.ch[c.val].faults } ∧
      t = { s with su := t.su, fb := t.fb }) ∧
  (∀ (p : Fin 2) (cond : Nat) (s : State), (s.su.port[p.val].recovering = true ∨ s.grant p.val s.su.port[p.val].last (fun d => s.maySuspend p d) = none) →
    exec (.dmaBurst ⟨p.val, by omega⟩ cond) s = .next s) ∧
  (∀ (p : Fin 2) (c : Fin 16) (s : State), s.su.port[p.val].busy = some c.val → s.su.ch[c.val].op = .write →
    (s.su.ch[c.val].len ≤ s.su.ch[c.val].progress + s.su.ch[c.val].buffer.length → c.val ∉ ownedChannels) →
    ∃ t, exec (.flashProgramComplete p true) s = .next t ∧
      t.store = Memory.program s.store (s.su.ch[c.val].addr + s.su.ch[c.val].progress) s.su.ch[c.val].buffer ∧ t.su.port[p.val].busy = none ∧
      t.su.ch[c.val].progress = s.su.ch[c.val].progress + s.su.ch[c.val].buffer.length ∧ t.su.ch[c.val].buffer = [] ∧ t.su.ch[c.val].issued = false ∧
      t = { s with su := t.su, store := t.store }) ∧
  (∀ (p : Fin 2) (c : Fin 16) (s : State), s.su.port[p.val].busy = some c.val → s.su.ch[c.val].op = .write → c.val ∉ ownedChannels →
    ∃ t, exec (.flashProgramComplete p false) s = .next t ∧ t.su.ch[c.val].st = .halted ∧ t.su.ch[c.val].fault = 4 ∧
      t.su.ch[c.val].progress = s.su.ch[c.val].progress ∧ t = { s with su := t.su, fb := t.fb }) ∧
  (∀ (p : Fin 2) (pass : Bool) (s : State), s.su.port[p.val].busy = none →
    exec (.flashProgramComplete p pass) s = .next s ∧ exec (.flashEraseComplete p pass) s = .next s) ∧
  (∀ (p : Fin 2) (c : Fin 16) (s : State), s.su.port[p.val].busy = some c.val → s.su.ch[c.val].op = .erase → c.val ∉ ownedChannels →
    ∃ t, exec (.flashEraseComplete p true) s = .next t ∧
      t.store = Memory.erase s.store (s.eraseUnit s.su.ch[c.val].addr).1 (s.eraseUnit s.su.ch[c.val].addr).2 ∧ t.su.port[p.val].busy = none ∧
      t.su.ch[c.val].st = .idle ∧ t = { s with su := t.su, store := t.store }) ∧
  (∀ (p : Fin 2) (c : Fin 16) (s : State), s.su.port[p.val].busy = some c.val → s.su.ch[c.val].op = .erase → c.val ∉ ownedChannels →
    ∃ t, exec (.flashEraseComplete p false) s = .next t ∧ t.su.ch[c.val].st = .halted ∧ t.su.ch[c.val].fault = 5 ∧
      t = { s with su := t.su, fb := t.fb })

/-- R356, R366, R368 to R370, R374. -/
def Obligations.StoreFaults : Prop :=
  (∀ (c : Fin 16) (unit : Nat) (s : State), s.su.ch[c.val].st ≠ .halted → exec (.dmaResume c unit) s = .next s) ∧
  (∀ (c : Fin 16) (unit : Nat) (s : State), s.su.ch[c.val].st = .halted → s.su.ch[c.val].fault = 3 →
    ∃ t, exec (.dmaResume c unit) s = .next t ∧ t.su.ch[c.val] = { s.su.ch[c.val] with st := .waiting, fault := 0, retried := true } ∧ t = { s with su := t.su }) ∧
  (∀ (c : Fin 16) (p : Fin 2) (unit : Nat) (s : State), s.su.ch[c.val].st = .halted → (s.su.ch[c.val].fault = 4 ∨ s.su.ch[c.val].fault = 5) →
    s.portOf s.su.ch[c.val].faultPage = some p → s.su.port[p.val].kind = 1 →
    ∃ t, exec (.dmaResume c unit) s = .next t ∧ t.su.ch[c.val] = { s.su.ch[c.val] with st := .waiting, fault := 0, retried := true } ∧ t.su.port = s.su.port ∧
      t = { s with su := t.su }) ∧
  (∀ (c : Fin 16) (p : Fin 2) (unit : Nat) (s : State), s.su.ch[c.val].st = .halted → (s.su.ch[c.val].fault = 4 ∨ s.su.ch[c.val].fault = 5) →
    s.portOf s.su.ch[c.val].faultPage = some p → s.su.port[p.val].kind = 2 → s.su.port[p.val].retired + 2 < s.reserveBlocks s.su.port[p.val] →
    ∃ t, exec (.dmaResume c unit) s = .next t ∧ t.su.ch[c.val] = { s.su.ch[c.val] with st := .waiting, fault := 0, retried := true } ∧
      t.su.port[p.val].retired = s.su.port[p.val].retired + 1 ∧ t = { s with su := t.su }) ∧
  (∀ (c : Fin 16) (p : Fin 2) (unit : Nat) (s : State), s.su.ch[c.val].st = .halted → (s.su.ch[c.val].fault = 4 ∨ s.su.ch[c.val].fault = 5) →
    s.portOf s.su.ch[c.val].faultPage = some p → s.su.port[p.val].kind = 2 → s.reserveBlocks s.su.port[p.val] ≤ s.su.port[p.val].retired + 2 →
    exec (.dmaResume c unit) s = .next { s with su := { s.su with reserveEmpty := true } }) ∧
  (∀ (c : Fin 16) (p : Fin 2) (s : State), s.su.ch[c.val].st = .halted → s.su.ch[c.val].fault = 6 → s.portOf s.su.ch[c.val].faultPage = some p →
    s.su.port[p.val].up = true → s.su.ch[c.val].op = .write → s.su.ch[c.val].addr % s.su.port[p.val].unit = 0 → s.su.ch[c.val].progress = 0 →
    s.su.port[p.val].unit < s.su.ch[c.val].len →
    ∃ t, exec (.dmaResume c 1) s = .next t ∧ t.su.ch[c.val].progress = s.su.port[p.val].unit ∧ t.su.ch[c.val].st = .waiting ∧ t.su.ch[c.val].fault = 0 ∧
      t.store = Memory.program s.store s.su.ch[c.val].addr (slice 0 s.su.port[p.val].unit s.su.ch[c.val].data) ∧ t = { s with su := t.su, store := t.store }) ∧
  (∀ (c : Fin 16) (unit : Nat) (s : State), s.su.ch[c.val].st = .halted → (s.su.ch[c.val].fault = 1 ∨ s.su.ch[c.val].fault = 2 ∨ s.su.ch[c.val].fault = 7) →
    exec (.dmaResume c unit) s = .next s) ∧
  (∀ (c : Fin 16) (s : State), s.su.ch[c.val].st = .halted → ∃ t, exec (.dmaAbandon c) s = .next t ∧ t = { s with su := t.su } ∧
    t.su.ch[c.val] = { s.su.ch[c.val] with st := .idle, buffer := [], issued := false, len := 0, data := [] } ∧
    (∀ d : Fin 16, d ≠ c → t.su.ch[d.val] = s.su.ch[d.val])) ∧
  (∀ (c : Fin 16) (s : State), s.su.ch[c.val].st ≠ .halted → exec (.dmaAbandon c) s = .next s) ∧
  (∀ (p : Fin 2) (s : State), s.su.port[p.val].kind ≠ 0 → s.su.port[p.val].down = false → (∀ c : Fin 16, c ∈ s.onPort p → c.val ∉ ownedChannels) →
    ∃ t, exec (.portTimeout p) s = .next t ∧ t = { s with su := t.su, fb := t.fb } ∧
      t.su.port[p.val] = { s.su.port[p.val] with up := false, busy := none, recovering := true, resets := incSat s.su.port[p.val].resets } ∧
      (∀ c : Fin 16, c ∈ s.onPort p → t.su.ch[c.val].st = .halted ∧ t.su.ch[c.val].fault = 6) ∧
      (∀ c : Fin 16, c ∉ s.onPort p → t.su.ch[c.val] = s.su.ch[c.val])) ∧
  (∀ (p : Fin 2) (s : State), s.su.port[p.val].kind = 0 → exec (.portTimeout p) s = .next s) ∧
  (∀ (p : Fin 2) (s : State), s.su.port[p.val].recovering = true → (∀ q : Fin 2, s.su.port[q.val].down = false) →
    ∃ t, exec (.portRecovery p true) s = .next t ∧ t.su.port[p.val] = { s.su.port[p.val] with up := true, recovering := false } ∧ t = { s with su := t.su }) ∧
  (∀ (p : Fin 2) (s : State), s.su.port[p.val].recovering = true → (∀ q : Fin 2, s.su.port[q.val].down = false) → s.su.port[p.val].failAt = [] →
    ∃ t, exec (.portRecovery p false) s = .next t ∧
      t.su.port[p.val] = { s.su.port[p.val] with failAt := [s.time.meridian], resets := incSat s.su.port[p.val].resets } ∧ t = { s with su := t.su }) ∧
  (∀ (p : Fin 2) (a b : Nat) (s : State), s.su.port[p.val].recovering = true → s.su.port[p.val].failAt = [a, b] → s.time.meridian < a + 10 * ticksPerSecond →
    s.time.meridian < b + 10 * ticksPerSecond →
    ∃ t, exec (.portRecovery p false) s = .next t ∧ t.su.port[p.val].down = true ∧ t.su.port[p.val].recovering = false ∧ t = { s with su := t.su, fb := t.fb }) ∧
  (∀ (w : Fin 2) (s : State), s.su.ch[(winCh w).val].st = .halted →
    ∃ t, exec (.windowHaltTimeout w) s = .next t ∧ t.su.ch[(winCh w).val].st = .idle ∧
      t.su.win[w.val] = { s.su.win[w.val] with held := [], next := 0, reply := none } ∧ t = { s with su := t.su }) ∧
  (∀ (w : Fin 2) (s : State), s.su.ch[(winCh w).val].st ≠ .halted → exec (.windowHaltTimeout w) s = .next s)

/-- R369. -/
def Obligations.AbandonedDescriptor : Prop :=
  ∀ (c : Fin 16) (s : State), s.su.ch[c.val].st = .halted →
    ∃ t, exec (.dmaAbandon c) s = .next t ∧ t.su.ch[c.val].st = .idle ∧ t.su.ch[c.val].len = 0 ∧ t.su.ch[c.val].data = [] ∧ t.su.ch[c.val].wants = false ∧
      t.su.ch[c.val].fault = s.su.ch[c.val].fault ∧
      ∀ (d : Fin 16) (op : DmaOp) (addr len : Nat) (data : List Byte),
        (t.startDesc d op addr len data).su.ch[c.val].fault = if d = c then 0 else s.su.ch[c.val].fault

/-- R377, R380, R382 to R385; the record 0x0201 is log 10. -/
def Obligations.FieldBookRows : Prop :=
  (∀ s : State, (s.fb.isOpen = true ∨ s.fb.closed = true ∨ s.mode = .boot ∨ s.mode = .plat ∨ s.mode = .off ∨ s.mode = .laidUp) →
    exec .fieldBookReplay s = .next s) ∧
  (∀ s : State, s.fb.isOpen = false → s.fb.closed = false → s.mode = .load → s.su.short = false → s.store = [] → s.plat.recovery = false →
    s.plat.header.isSome = true →
    ∃ t, exec .fieldBookReplay s = .next t ∧ t.fb.isOpen = true ∧ t.fb.replayed = true ∧ t.fb.page = fbStart ∧ t.fb.offset = 0 ∧ t.fb.pageSeq = 1 ∧
      t.fb.mb = s.parN P.fbMb ∧ t.fb.records = 0 ∧ t.fb.erasedAhead = s.parN P.fbMb * 256 ∧ t.store = [] ∧
      t = { s with fb := t.fb, su := t.su, ret := t.ret, resetReq := t.resetReq, start := { s.start with transfers := [] } }) ∧
  (∀ (p seq : Nat) (s : State), s.fb.isOpen = false → s.fb.closed = false → s.mode = .load → s.su.short = false → s.plat.recovery = false →
    s.plat.header.isSome = true → s.bookHeaders s.fbPages = [(p, seq, s.parN P.fbMb)] →
    ∃ t, exec .fieldBookReplay s = .next t ∧ t.fb.isOpen = true ∧ t.fb.offset = 0 ∧ t.fb.pageSeq = (seq + 1) % 2 ^ 32 ∧
      t.fb.page = fbStart + (p + 1 - fbStart) % (max 1 (s.parN P.fbMb * 256)) ∧ t.store = s.store) ∧
  (∀ s : State, s.mode ≠ .off → s.mode ≠ .laidUp → exec .fbTimeRecord s = .next (s.form 0x0201 0 112 noIndex s.time.offset 0)) ∧
  (∀ s : State, (s.mode = .off ∨ s.mode = .laidUp) → exec .fbTimeRecord s = .next s) ∧
  (∀ s : State, s.time.meridian / ticksPerSecond ≤ s.fb.second → exec .fbSecondEnd s = .next s) ∧
  (∀ s : State, s.fb.second < s.time.meridian / ticksPerSecond →
    ∃ t, exec .fbSecondEnd s = .next t ∧ t.fb.rate = [] ∧ t.fb.second = s.time.meridian / ticksPerSecond ∧
      ((∀ e : Nat × Nat × Nat, e ∈ s.fb.rate → e.2.2 = 0) → t.fb.forming = s.fb.forming) ∧ t = { s with fb := t.fb }) ∧
  (∀ s : State, s.bookReady = true → s.bookNand = true → s.fb.inProgram = none → s.fb.nandBuffer ≠ [] → s.fb.erasedAhead ≠ 0 →
    ∃ t, exec .fbNandFlush s = .next t ∧ t.su.ch[2].st = .waiting ∧ t.su.ch[2].op = .write ∧ t.su.ch[2].addr = s.fb.page * 4096 ∧ t.su.ch[2].len = 4096 ∧
      t.fb.inProgram = some (pageHeader s.fb.pageSeq s.fb.mb ++ s.fb.nandBuffer) ∧ t = { s with fb := t.fb, su := t.su }) ∧
  (∀ s : State, (s.bookNand = false ∨ s.bookReady = false ∨ s.fb.nandBuffer = []) → exec .fbNandFlush s = .next s) ∧
  (∀ (fbRate : Nat) (r : FbRecord) (fb : FieldBook), fb.closed = false → (r.source < 32 ∨ (rateOf fb r.source).1 < fbRate) →
    (fb.form fbRate r).forming = insertRecord r fb.forming ∧ (fb.form fbRate r).queue = fb.queue) ∧
  (∀ (fbRate : Nat) (r : FbRecord) (fb : FieldBook), fb.closed = false → 32 ≤ r.source → fbRate ≤ (rateOf fb r.source).1 →
    (fb.form fbRate r).forming = fb.forming ∧ (fb.form fbRate r).suppressed = incSat fb.suppressed) ∧
  (∀ (fbRate : Nat) (r : FbRecord) (fb : FieldBook), fb.closed = true → fb.form fbRate r = fb) ∧
  (∀ (r : FbRecord) (l : List FbRecord), List.Pairwise (fun a b => a.stamp < b.stamp ∨ (a.stamp = b.stamp ∧ a.source ≤ b.source)) l →
    List.Pairwise (fun a b => a.stamp < b.stamp ∨ (a.stamp = b.stamp ∧ a.source ≤ b.source)) (insertRecord r l))

/-- R379. -/
def Obligations.RecordWriting : Prop :=
  (∀ (r : FbRecord) (rest : List FbRecord) (s : State), s.fb.writeHalted = false → s.bookReady = true → s.fb.inProgram = none → s.bookNand = false →
    s.fb.queue = r :: rest → s.recordFits r.bytes = true → s.fb.offset ≠ 0 →
    ∃ t, s.bookNext = t ∧ t.fb = { s.fb with queue := rest, inProgram := some r.bytes, marking := false } ∧ t.su.ch[2].st = .waiting ∧ t.su.ch[2].op = .write ∧
      t.su.ch[2].addr = s.fb.page * 4096 + s.fb.offset ∧ t.su.ch[2].data = r.bytes ∧ r.bytes = r.headBody ++ leBytes 4 (crc32 r.headBody) ∧
      t = { s with fb := t.fb, su := t.su }) ∧
  (∀ (p : Fin 2) (b : List Byte) (s : State), s.su.port[p.val].busy = some 2 → s.su.ch[2].op = .write → s.su.ch[2].st = .active →
    s.su.ch[2].len ≤ s.su.ch[2].progress + s.su.ch[2].buffer.length → s.fb.inProgram = some b → s.bookNand = false → s.fb.marking = false → s.fb.offset ≠ 0 →
    ∃ t, exec (.flashProgramComplete p true) s = .next t ∧ t.store = Memory.program s.store (s.su.ch[2].addr + s.su.ch[2].progress) s.su.ch[2].buffer ∧
      t.su.ch[2].st = .waiting ∧ t.su.ch[2].op = .write ∧ t.su.ch[2].addr = s.fb.page * 4096 + s.fb.offset + b.length ∧ t.su.ch[2].len = 4 ∧
      t.su.ch[2].data = [0x5C, 0xA5, 0xC3, 0x5A] ∧ t.fb = { s.fb with marking := true }) ∧
  (∀ (p : Fin 2) (s : State), s.su.port[p.val].busy = some 2 → s.su.ch[2].op = .write → s.su.ch[2].st = .active →
    s.su.ch[2].progress + s.su.ch[2].buffer.length < s.su.ch[2].len →
    ∃ t, exec (.flashProgramComplete p true) s = .next t ∧ t.fb = s.fb ∧ t.su.ch[2].addr = s.su.ch[2].addr ∧ t.su.ch[2].data = s.su.ch[2].data) ∧
  (∀ (page : List Byte) (n o : Nat) (f : Found), f ∈ scanPage page n o →
    (f.valid = true ↔ (fieldAt (f.off + f.len - 4) 4 page = 0x5AC3A55C ∧
      fieldAt (f.off + f.len - 8) 4 page = crc32 (slice f.off (f.len - 8) page)))) ∧
  (∀ (p seq : Nat) (s : State), s.fb.isOpen = false → s.fb.closed = false → s.mode = .load → s.su.short = false → s.plat.recovery = false →
    s.plat.header.isSome = true → s.bookHeaders s.fbPages = [(p, seq, s.parN P.fbMb)] →
    ∃ t, exec .fieldBookReplay s = .next t ∧
      t.fb.corrupt = addSat s.fb.corrupt ((s.pageRecords p).filter (fun f => f.mark && !f.crc)).length)

/-- R394, R396 to R400, R409, R421. -/
def Obligations.NetworkRows : Prop :=
  (∀ (v : Vector PhyRead 2) (s : State), s.hostServed = false → exec (.phyPoll v) s = .next s) ∧
  (∀ (v : Vector PhyRead 2) (s : State), s.hostServed = true →
    ∃ t, exec (.phyPoll v) s = .next t ∧ t.net.lan[0] = Lan.poll v[0] s.net.lan[0] ∧ t.net.lan[1] = Lan.poll v[1] s.net.lan[1] ∧
      t = { s with net := { s.net with lan := t.net.lan }, fb := t.fb, events := t.events } ∧
      (t.net.lan[0].link = s.net.lan[0].link → t.net.lan[1].link = s.net.lan[1].link → t.events = s.events ∧ t.fb = s.fb)) ∧
  (∀ (r : PhyRead) (l : Lan), r.present = true → r.link = true → r.aneg = true →
    Lan.poll r l = { l with present := true, aneg := true, misses := 0, link := true, speed := r.speed }) ∧
  (∀ (r : PhyRead) (l : Lan), r.present = true → r.link = false → 1 ≤ l.misses → (Lan.poll r l).link = false ∧ (Lan.poll r l).speed = 0) ∧
  (∀ (r : PhyRead) (l : Lan), r.present = true → r.link = false → l.misses = 0 → (Lan.poll r l).link = l.link ∧ (Lan.poll r l).misses = 1) ∧
  (∀ (lan : Fin 2) (f : EthFrame) (stamp : Nat) (s : State), s.hostServed = true → s.net.lan[lan.val].link = true → f.good = false →
    ∃ t, exec (.ethernetFrameReceived lan f stamp) s = .next t ∧ t.net.lan[lan.val] = { s.net.lan[lan.val] with rxErrors := incSat s.net.lan[lan.val].rxErrors } ∧
      t.time = s.time.reach s.ppsDriven stamp ∧ t = { s with net := { s.net with lan := t.net.lan }, time := t.time }) ∧
  (∀ (lan : Fin 2) (f : EthFrame) (stamp : Nat) (s : State), s.hostServed = true → s.net.lan[lan.val].link = true → f.good = true → s.vlanOk f.vlan = false →
    ∃ t, exec (.ethernetFrameReceived lan f stamp) s = .next t ∧ t.net.lan[lan.val] = { s.net.lan[lan.val] with rxFrames := incSat s.net.lan[lan.val].rxFrames } ∧
      t.net.nodes = s.net.nodes ∧ t.net.duplicates = s.net.duplicates) ∧
  (∀ (lan : Fin 2) (f : EthFrame) (q : Nat) (n : PrpNode) (stamp : Nat) (s : State), s.hostServed = true → s.net.lan[lan.val].link = true → f.good = true →
    s.vlanOk f.vlan = true → f.prp = some (q, 10 + lan.val) → bypasses f.kind = false → n ∈ s.net.nodes → n.mac = f.src → n.duplicate lan.val q stamp = true →
    ∃ t, exec (.ethernetFrameReceived lan f stamp) s = .next t ∧ t.net.duplicates = incSat s.net.duplicates ∧ t.net.discarded = s.net.discarded) ∧
  (∀ (lan : Fin 2) (f : EthFrame) (stamp : Nat) (s : State), s.hostServed = false → exec (.ethernetFrameReceived lan f stamp) s = .next s) ∧
  (∀ (ip mac target : Nat) (s : State), s.hostServed = true → s.answersOn target = true →
    ∃ t, exec (.arpRequest ip mac target) s = .next t ∧ t.net.arp.head? = some (ip, mac) ∧ t.net.arp.length ≤ 32 ∧ t.net.arpSent = s.net.arpSent + 1 ∧
      t.net.txSeq = (s.net.txSeq + 1) % 65536 ∧ t = { s with net := { s.net with arp := t.net.arp, arpSent := t.net.arpSent, txSeq := t.net.txSeq } }) ∧
  (∀ (ip mac target : Nat) (s : State), s.answersOn target = false → exec (.arpRequest ip mac target) s = .next s) ∧
  (∀ (ip : Nat) (s : State), ∃ t, exec (.arpCacheExpiry ip) s = .next t ∧ (∀ p : Nat × Nat, p ∈ t.net.arp ↔ (p ∈ s.net.arp ∧ p.1 ≠ ip)) ∧
    t = { s with net := { s.net with arp := t.net.arp } }) ∧
  (∀ (target : Nat) (s : State), s.hostServed = true → s.answersOn target = true → s.net.icmpSecond ≠ s.time.meridian / ticksPerSecond →
    exec (.icmpEcho target) s = .next { s with net := { s.net with
      icmpSecond := s.time.meridian / ticksPerSecond, icmpNow := 1, icmpSent := s.net.icmpSent + 1, txSeq := (s.net.txSeq + 1) % 65536 } }) ∧
  (∀ (target : Nat) (s : State), s.net.icmpSecond = s.time.meridian / ticksPerSecond → 10 ≤ s.net.icmpNow → exec (.icmpEcho target) s = .next s) ∧
  (∀ s : State, s.hostServed = true → exec .prpSupervisionSend s = .next { s with net := { s.net with
    supervision := s.net.supervision + 1, txSeq := (s.net.txSeq + 1) % 65536 } }) ∧
  (∀ (mac : Nat) (s : State), ∃ t, exec (.prpNodeForget mac) s = .next t ∧ (∀ n : PrpNode, n ∈ t.net.nodes ↔ (n ∈ s.net.nodes ∧ n.mac ≠ mac)) ∧
    t = { s with net := { s.net with nodes := t.net.nodes } }) ∧
  (∀ (lan : Fin 2) (entered : Bool) (s : State), s.hostServed = true → s.net.lan[lan.val].degraded ≠ entered →
    ∃ t, exec (.lanDegraded lan entered) s = .next t ∧ t.net.lan[lan.val] = { s.net.lan[lan.val] with degraded := entered } ∧
      t.events.length = s.events.length + 1 ∧ t = { s with net := { s.net with lan := t.net.lan }, fb := t.fb, events := t.events }) ∧
  (∀ (lan : Fin 2) (entered : Bool) (s : State), s.net.lan[lan.val].degraded = entered → exec (.lanDegraded lan entered) s = .next s) ∧
  (∀ s : State, s.host.failNow ≠ 0 → ∃ t, exec .hostAuthFailRecord s = .next t ∧ t.host = { s.host with failNow := 0 } ∧
    t = { (s.form 0x7001 7 85 noIndex s.host.failNow 0) with host := t.host }) ∧
  (∀ s : State, s.host.failNow = 0 → exec .hostAuthFailRecord s = .next s)

/-- R407 to R410, R467, shown on HOST_READ; every operation has the same check. -/
def Obligations.RequestChecks : Prop :=
  (∀ (r : HostReq) (s : State), r.forwarded = false → s.hostServed = false → exec (.hostRead r) s = .next s) ∧
  (∀ (r : HostReq) (s : State), r.forwarded = false → s.hostServed = true → s.bist.keyFault = false → s.bist.keysValid = false →
    exec (.hostRead r) s = .next { s with host := { s.host with held := s.host.held ++ [(1, r)] } }) ∧
  (∀ (r : HostReq) (s : State), r.forwarded = false → s.hostServed = true → s.bist.keyFault = false → s.bist.keysValid = true →
    (s.hostKey r.keyId = none ∨ r.version ≠ 1 ∨ lengthOk r = false ∨ (∃ role key, s.hostKey r.keyId = some (role, key) ∧ macOk key 1 r = false)) →
    ∃ t : State, exec (.hostRead r) s = .next t ∧ t.host.authFail = incSat s.host.authFail ∧ t.host.failNow = s.host.failNow + 1 ∧ t.host.slot = s.host.slot ∧
      t.host.outbox = s.host.outbox ∧ (s.host.unauthSecond = s.time.meridian / ticksPerSecond → 10 ≤ s.host.unauthNow → t.host.sent = s.host.sent) ∧
      t = { s with host := t.host, net := t.net }) ∧
  (∀ (r : HostReq) (role : Nat) (key : List Byte) (s : State), r.forwarded = false → s.hostServed = true → s.bist.keyFault = false →
    s.bist.keysValid = true → s.hostKey r.keyId = some (role, key) → r.version = 1 → lengthOk r = true → macOk key 1 r = true →
    (r.epoch ≠ s.epoch → exec (.hostRead r) s = .next (({ s with host := { s.host with
      authFail := incSat s.host.authFail, failNow := s.host.failNow + 1 } } : State).answer 1 r 5 [])) ∧
    (r.epoch = s.epoch → (s.host.slot[(slotIndex r.keyId).val]).fresh r.nonce = false →
      exec (.hostRead r) s = .next (({ s with host := { s.host with replay := incSat s.host.replay } } : State).answer 1 r 5 [])) ∧
    (r.epoch = s.epoch → (s.host.slot[(slotIndex r.keyId).val]).fresh r.nonce = true → bitAt r.flags 4 = false → role < 1 →
      exec (.hostRead r) s = .next ((s.modSlot r.keyId (HostSlot.accept r.nonce)).answer 1 r 8 [])) ∧
    (r.epoch = s.epoch → (s.host.slot[(slotIndex r.keyId).val]).fresh r.nonce = true → bitAt r.flags 4 = false → 1 ≤ role →
      s.parN P.hostMaxPerFrame ≤ s.host.admitted →
      ∃ t : State, exec (.hostRead r) s = .next (t.answer 1 r 6 []) ∧ t.host.busy = incSat s.host.busy) ∧
    (r.epoch = s.epoch → (s.host.slot[(slotIndex r.keyId).val]).fresh r.nonce = true → bitAt r.flags 4 = false → 1 ≤ role →
      s.host.admitted < s.parN P.hostMaxPerFrame →
      ∃ t : State, s.hostCheck 1 r = (t, true) ∧ t.host.admitted = s.host.admitted + 1 ∧
        (t.host.slot[(slotIndex r.keyId).val]).nonce = max (s.host.slot[(slotIndex r.keyId).val]).nonce r.nonce ∧ t = { s with host := t.host })) ∧
  (∀ (k : HostSlot) (n : Nat), k.fresh n = true → (k.accept n).fresh n = false) ∧
  (∀ (k : HostSlot) (n m : Nat), k.fresh n = true → k.fresh m = false → (k.accept n).fresh m = false)

/-- R411 to R415. -/
def Obligations.HostOperations : Prop :=
  (∀ (r : HostReq) (is : List Item) (s u : State), s.accepts 1 r u → itemList r.payload = some is → u.readSize is ≤ 1426 →
    exec (.hostRead r) s = .next (u.answer 1 r 0 (leBytes 4 u.time.frame ++ is.flatMap (fun i => u.readItem i)))) ∧
  (∀ (r : HostReq) (is : List Item) (s u : State), s.accepts 1 r u → itemList r.payload = some is → 1426 < u.readSize is →
    exec (.hostRead r) s = .next (u.answer 1 r 3 [])) ∧
  (∀ (r : HostReq) (s u : State), s.accepts 1 r u → itemList r.payload = none → exec (.hostRead r) s = .next (u.answer 1 r 8 [])) ∧
  (∀ (r : HostReq) (w : WriteItem) (s u : State), s.accepts 2 r u → u.writeItems (fieldAt 0 1 r.payload) (r.payload.drop 1) = some [w] → u.itemStatus w = 0 →
    exec (.hostWrite r) s = .next ((u.applyItem w).answer 2 r 0 (leBytes 4 w.id ++ leBytes 4 0))) ∧
  (∀ (r : HostReq) (ws : List WriteItem) (s u : State), s.accepts 2 r u → u.writeItems (fieldAt 0 1 r.payload) (r.payload.drop 1) = some ws →
    bitAt r.flags 0 = true → (∃ w, w ∈ ws ∧ u.itemStatus w ≠ 0) →
    exec (.hostWrite r) s = .next (u.answer 2 r 0 (ws.flatMap (fun w => leBytes 4 w.id ++ leBytes 1 (u.itemStatus w) ++ leBytes 1 0 ++ leBytes 2 0)))) ∧
  (∀ (r : HostReq) (s u : State), s.accepts 2 r u → u.writeItems (fieldAt 0 1 r.payload) (r.payload.drop 1) = none →
    exec (.hostWrite r) s = .next (u.answer 2 r 8 [])) ∧
  (∀ (r : HostReq) (is : List Item) (s u : State), s.accepts 3 r u → itemList (r.payload.drop 4) = some is → fieldAt 0 1 r.payload ≤ 15 →
    fieldAt 2 2 r.payload ≠ 0 → u.readSize is + 1 ≤ 1426 → u.host.subs = [] → u.readSize is + 1 ≤ u.parN P.pubBytes →
    exec (.hostSubscribe r) s = .next (({ u with host := { u.host with subs := [{
      id := fieldAt 0 1 r.payload, ip := r.ip, port := r.port, key := r.keyId, period := fieldAt 2 2 r.payload, items := is
      first := (u.time.frame + 1) % 2 ^ 32, count := 0, renewed := u.time.meridian }] } } : State).answer 3 r 0 [])) ∧
  (∀ (r : HostReq) (is : List Item) (s u : State), s.accepts 3 r u → itemList (r.payload.drop 4) = some is → fieldAt 0 1 r.payload ≤ 15 →
    fieldAt 2 2 r.payload = 0 →
    ∃ t : State, exec (.hostSubscribe r) s = .next (t.answer 3 r 0 []) ∧ t = { u with host := { u.host with subs := t.host.subs } } ∧
      ∀ x : Sub, x ∈ t.host.subs ↔ (x ∈ u.host.subs ∧ x.id ≠ fieldAt 0 1 r.payload)) ∧
  (∀ (r : HostReq) (is : List Item) (s u : State), s.accepts 3 r u → itemList (r.payload.drop 4) = some is → 15 < fieldAt 0 1 r.payload →
    exec (.hostSubscribe r) s = .next (u.answer 3 r 3 [])) ∧
  (∀ (i : Nat) (x : Sub) (s : State), s.host.subs[i]? = some x → s.hostServed = true → x.due s.time.frame = true →
    ∃ t m, exec (.subscriptionPublish i) s = .next t ∧ t.host.sent = s.host.sent ++ [m] ∧ m.op = 3 ∧ m.flags = 4 ∧ m.tag = x.count ∧ m.key = x.key ∧
      m.payload = leBytes 1 x.id ++ (leBytes 4 s.time.frame ++ x.items.flatMap (fun j => s.readItem j)) ∧
      (∀ j : Nat, t.host.subs[j]? = (s.host.subs[j]?).map (fun y => if j = i then { y with count := (y.count + 1) % 2 ^ 32 } else y)) ∧
      t = { s with host := t.host, net := t.net }) ∧
  (∀ (i : Nat) (s : State), s.host.subs[i]? = none → exec (.subscriptionPublish i) s = .next s) ∧
  (∀ (i : Nat) (s : State), i < s.host.subs.length →
    ∃ t : State, exec (.subscriptionLeaseExpiry false i) s = .next t ∧ t.host = { s.host with subs := s.host.subs.eraseIdx i } ∧ t = { s with host := t.host, fb := t.fb }) ∧
  (∀ (i : Nat) (s : State), i < s.host.followers.length →
    ∃ t : State, exec (.subscriptionLeaseExpiry true i) s = .next t ∧ t.host = { s.host with followers := s.host.followers.eraseIdx i } ∧
      t = { s with host := t.host, fb := t.fb }) ∧
  (∀ (r : HostReq) (s u : State), s.accepts 7 r u → fieldAt 0 1 r.payload = 0 → r.payload.length = 8 →
    ∃ bytes n next, exec (.eventsRead r) s = .next (u.answer 7 r 0 (leBytes 4 next ++ leBytes 2 n ++ bytes)) ∧
      (bytes, n, next) = u.readBook u.ringPages (u.cursorStart (fieldAt 4 4 r.payload) / 4096) (u.cursorStart (fieldAt 4 4 r.payload) % 4096)
        (min (fieldAt 2 2 r.payload) 1420)) ∧
  (∀ (r : HostReq) (s u : State), s.accepts 7 r u → fieldAt 0 1 r.payload = 1 → (∀ f : Follower, f ∈ u.host.followers → f.is r = false) →
    (u.host.followers.length < 8 →
      exec (.eventsFollow r) s = .next (({ u with host := { u.host with followers := u.host.followers ++
        [{ ip := r.ip, port := r.port, key := r.keyId, count := 0, renewed := u.time.meridian }] } } : State).answer 7 r 0 [])) ∧
    (8 ≤ u.host.followers.length → exec (.eventsFollow r) s = .next (u.answer 7 r 6 []))) ∧
  (∀ (r : HostReq) (s u : State), s.accepts 7 r u → fieldAt 0 1 r.payload = 2 →
    ∃ t : State, exec (.eventsUnfollow r) s = .next (t.answer 7 r 0 []) ∧ t = { u with host := { u.host with followers := t.host.followers } } ∧
      ∀ f : Follower, f ∈ t.host.followers ↔ (f ∈ u.host.followers ∧ f.is r = false))

/-- R12, R30, R48, R103 and the rules of the objects. -/
def Obligations.ObjectWrites : Prop :=
  (∀ (id elem : Nat) (v : Int) (s : State), s.hostWrites = true → s.writeStatus id elem v = 0 → s.clearOnes id v.toNat = none →
    exec (.objectWrite id elem v) s = .next { s with host := { s.host with writes := s.host.writes ++ [(id, elem, v)] } }) ∧
  (∀ (id elem : Nat) (v : Int) (s : State), (s.hostWrites = false ∨ s.writeStatus id elem v ≠ 0) → exec (.objectWrite id elem v) s = .next s) ∧
  (∀ (v : Nat) (s : State), s.hostWrites = true → s.writeStatus 0x02000004 0 v = 0 →
    exec (.syncPhaseWrite v) s = .next { s with host := { s.host with writes := s.host.writes ++ [(0x02000004, 0, (v : Int))] } }) ∧
  (∀ (v : Nat) (s : State), s.hostWrites = true → s.writeStatus 0x02000005 0 v = 0 →
    exec (.syncinEnableWrite v) s = .next { s with host := { s.host with writes := s.host.writes ++ [(0x02000005, 0, (v : Int))] } }) ∧
  (∀ (v : Nat) (s : State), s.hostWrites = true → s.writeStatus 0x14100001 0 v = 0 →
    exec (.balEnableWrite v) s = .next { s with host := { s.host with writes := s.host.writes ++ [(0x14100001, 0, (v : Int))] } }) ∧
  (∀ (v : Nat) (s : State), s.hostWrites = true → s.writeStatus 0x20100002 0 v = 0 →
    exec (.probeEnableWrite v) s = .next { s with host := { s.host with writes := s.host.writes ++ [(0x20100002, 0, (v : Int))] } }) ∧
  (∀ (leg : Leg) (v : Nat) (s : State), s.hostWrites = true → s.writeStatus (0x38000006 + leg.val * 65536) 0 v = 0 →
    exec (.bankSelectWrite leg v) s = .next { s with host := { s.host with writes := s.host.writes ++ [(0x38000006 + leg.val * 65536, 0, (v : Int))] } }) ∧
  (∀ (a : Fin 4) (v : Int) (s : State), s.hostWrites = true → s.writeStatus (0x58000004 + a.val * 65536) 0 v = 0 →
    exec (.axTargetWrite a v) s = .next { s with host := { s.host with writes := s.host.writes ++ [(0x58000004 + a.val * 65536, 0, v)] } }) ∧
  (∀ (a : Fin 4) (s : State), s.hostWrites = true → s.writeStatus (0x58000005 + a.val * 65536) 0 1 = 0 →
    exec (.axCommandHome a) s = .next { s with host := { s.host with writes := s.host.writes ++ [(0x58000005 + a.val * 65536, 0, 1)] } }) ∧
  (∀ (a : Fin 4) (s : State), s.hostWrites = true → s.writeStatus (0x58000005 + a.val * 65536) 0 2 = 0 →
    exec (.axCommandStop a) s = .next { s with host := { s.host with writes := s.host.writes ++ [(0x58000005 + a.val * 65536, 0, 2)] } }) ∧
  (∀ (a : Fin 4) (v : Nat) (s : State), s.hostWrites = true → s.writeStatus (0x58000006 + a.val * 65536) 0 v = 0 →
    exec (.axEnableWrite a v) s = .next { s with host := { s.host with writes := s.host.writes ++ [(0x58000006 + a.val * 65536, 0, (v : Int))] } }) ∧
  (∀ (c : Fin 4) (v : Nat) (s : State), s.hostWrites = true → s.writeStatus (0x78000002 + c.val * 65536) 0 v = 0 →
    exec (.canEnableWrite c v) s = .next { s with host := { s.host with writes := s.host.writes ++ [(0x78000002 + c.val * 65536, 0, (v : Int))] } }) ∧
  (∀ (v : Nat) (s : State), s.hostWrites = true → s.writeStatus 0x8000000B 0 v = 0 →
    exec (.updateEnableWrite v) s = .next { s with host := { s.host with writes := s.host.writes ++ [(0x8000000B, 0, (v : Int))] } }) ∧
  (∀ (v : Nat) (s : State), s.hostWrites = true → s.writeStatus 0x88000009 0 v = 0 →
    exec (.bistEnableWrite v) s = .next { s with host := { s.host with writes := s.host.writes ++ [(0x88000009, 0, (v : Int))] } }) ∧
  (∀ (v : Nat) (leg : Leg) (s : State), s.hostWrites = false → exec (.balEnableWrite v) s = .next s ∧ exec (.bankSelectWrite leg v) s = .next s ∧
    exec (.updateEnableWrite v) s = .next s ∧ exec (.canEnableWrite leg v) s = .next s) ∧
  (∀ (v : Int) (s : State), s.inStates runtimeStates = true → s.writeStatus 0x20100002 0 v = (if v < 0 ∨ 3 < v then 3 else 0)) ∧
  (∀ (v : Int) (s : State), s.inStates runtimeStates = false → s.writeStatus 0x14100001 0 v = 4) ∧
  (∀ (v : Int) (s : State), s.writeStatus 0x02000001 0 v = 2 ∧ s.writeStatus 0x14100001 1 v = 3) ∧
  (∀ s : State, s.host.writes = [] → s.applyWrites = s) ∧
  (∀ (id elem : Nat) (v : Int) (s : State), s.host.writes = [(id, elem, v)] →
    s.applyWrites = ({ s with host := { s.host with writes := [] } } : State).applyWrite id elem v) ∧
  (∀ (id elem : Nat) (u v : Int) (s : State), s.host.writes = [(id, elem, u), (id, elem, v)] →
    s.applyWrites = ({ s with host := { s.host with writes := [] } } : State).applyWrite id elem v) ∧
  (∀ s : State, s.applyWrite 0x8000000B 0 0 = { s with upd := { s.upd with enable := false } }) ∧
  (∀ s : State, s.upd.session = 4 → s.applyWrite 0x8000000B 0 1 = { s with upd := { s.upd with enable := true, session := 3 } }) ∧
  (∀ s : State, s.bist.inSlice = true → s.applyWrite 0x88000009 0 0 = { s with bist := { s.bist with enable := false, run := 2 } }) ∧
  (∀ s : State, s.bist.inSlice = false → s.applyWrite 0x88000009 0 0 = { s with bist := { s.bist with enable := false, run := 3 } }) ∧
  (∀ (v : Nat) (s : State), s.applyWrite 0x04000013 0 v = { s with layup := { s.layup with timer := v } }) ∧
  (∀ (v : Nat) (s : State), s.applyWrite 0x30100008 0 v = { s with str := { s.str with timeout := v } }) ∧
  (∀ (leg : Leg) (v : Nat) (s : State), ∃ t : State, s.applyWrite (0x38000006 + leg.val * 65536) 0 v = t ∧ t = { s with cle := t.cle } ∧
    t.cle[leg.val] = { s.cle[leg.val] with bankSelect := v, bankDue := some v } ∧ (∀ l : Leg, l ≠ leg → t.cle[l.val] = s.cle[l.val])) ∧
  (∀ (a : Fin 4) (s : State), s.applyWrite (0x58000005 + a.val * 65536) 0 1 = s.axisHome a ∧ s.applyWrite (0x58000005 + a.val * 65536) 0 2 = s.axisStop a)

/-- R12 and the rule of each object. -/
def Obligations.LatchesCleared : Prop :=
  (∀ (leg : Leg) (v : Nat) (s : State), s.hostWrites = true → s.writeStatus (0x10000001 + leg.val * 2 ^ 24) 0 v = 0 →
    ∃ t : State, exec (.contactLostClear leg v) s = .next t ∧ t = { s with ring := t.ring } ∧
      t.ring[leg.val] = { s.ring[leg.val] with contactLost := s.ring[leg.val].contactLost && !bitAt v 4 } ∧ (∀ l : Leg, l ≠ leg → t.ring[l.val] = s.ring[l.val])) ∧
  (∀ (v : Nat) (s : State), s.hostWrites = true → s.writeStatus 0x40000001 0 v = 0 →
    exec (.telegramDegradedClear v) s = .next { s with sf := { s.sf with tgDegraded := s.sf.tgDegraded && !bitAt v 12 } }) ∧
  (∀ (v : Nat) (s : State), s.hostWrites = true → s.writeStatus 0x01000020 0 v = 0 →
    exec (.baselineLostClear v) s = .next { s with base := { s.base with lost := s.base.lost && !bitAt v 1 } }) ∧
  (∀ (v : Nat) (s : State), s.hostWrites = true → s.writeStatus 0x02000003 0 v = 0 →
    exec (.timeOverrunClear v) s = .next { s with win := { s.win with any := s.win.any && !bitAt v 0, safety := s.win.safety && !bitAt v 1 } }) ∧
  (∀ (v : Nat) (s : State), s.hostWrites = true → s.writeStatus 0x04000001 0 v = 0 →
    exec (.supplySwitchedClear v) s = .next { s with supply := { s.supply with switched := s.supply.switched && !bitAt v 7 } }) ∧
  (∀ (v : Nat) (s : State), s.hostWrites = true → s.writeStatus 0x04000010 0 v = 0 →
    exec (.resetreqStuckClear v) s = .next { s with resetReq := { s.resetReq with stuck := s.resetReq.stuck && !bitAt v 5 } }) ∧
  (∀ (v : Nat) (s : State), s.hostWrites = true → s.writeStatus 0x20100017 0 v = 0 →
    exec (.warnLatchedClear v) s = .next { s with slim := { s.slim with latched := clearBits s.slim.latched (bitsAt v 13 8) } }) ∧
  (∀ (v : Nat) (s : State), s.hostWrites = true → s.writeStatus 0x20100018 0 v = 0 →
    exec (.learnWriteFailClear v) s = .next { s with learn := { s.learn with writeFail := s.learn.writeFail && !bitAt v 8 } }) ∧
  (∀ (v : Nat) (s : State), s.hostWrites = true → s.writeStatus 0x68000001 0 v = 0 →
    exec (.fbQueueFullClear v) s = .next { s with fb := { s.fb with queueFull := s.fb.queueFull && !bitAt v 3 } }) ∧
  (∀ (c : Fin 4) (v : Nat) (s : State), s.hostWrites = true → s.writeStatus (0x78000001 + c.val * 65536) 0 v = 0 →
    ∃ t : State, exec (.canStatusClear c v) s = .next t ∧ t = { s with can := t.can } ∧
      t.can[c.val] = { s.can[c.val] with ovf := s.can[c.val].ovf && !bitAt v 9, drop := s.can[c.val].drop && !bitAt v 8 } ∧
      (∀ d : Fin 4, d ≠ c → t.can[d.val] = s.can[d.val])) ∧
  (∀ (v : Nat) (c : Fin 4) (s : State), s.hostWrites = false → exec (.baselineLostClear v) s = .next s ∧ exec (.canStatusClear c v) s = .next s ∧
    exec (.warnLatchedClear v) s = .next s ∧ exec (.fbQueueFullClear v) s = .next s)

/-- R68, R71, R76, R220, R255, R284, R291, R417, R468. The category of the stop on DISARM is the model's code 3 of category 2. -/
def Obligations.ModuleCommands : Prop :=
  (∀ (r : HostReq) (s u : State), s.accepts 4 r u → fieldAt 0 1 r.payload = 0x01 → u.mode = .surveyed → u.layup.step = 0 → u.healthy = true →
    u.fuses.lifecycle = 2 →
    ∃ t : State, exec (.commandArm r) s = .next (t.answer 4 r 0 []) ∧ t.mode = .armed ∧ t.sf.seqStep = 1 ∧ t.sf.group[1].on = true ∧
      t.str.running = u.parN P.mode ∧ t.conv = u.conv ∧ t.sf.permit = u.sf.permit ∧ t.kept = u.kept) ∧
  (∀ (r : HostReq) (s u : State), s.accepts 4 r u → fieldAt 0 1 r.payload = 0x01 → u.mode ≠ .surveyed → u.mode ≠ .boot →
    exec (.commandArm r) s = .next (u.answer 4 r 4 [])) ∧
  (∀ (r : HostReq) (s u : State), s.accepts 4 r u → fieldAt 0 1 r.payload = 0x01 → u.mode = .surveyed → u.layup.step = 0 →
    (u.healthy = false ∨ u.fuses.lifecycle ≠ 2) → exec (.commandArm r) s = .next (u.answer 4 r 8 [])) ∧
  (∀ (r : HostReq) (s u : State), s.accepts 4 r u → fieldAt 0 1 r.payload = 0x02 → (u.mode = .armed ∨ u.mode = .running) →
    ∃ t : State, exec (.commandDisarm r) s = .next (t.answer 4 r 0 []) ∧ u.demands 19 3 false t) ∧
  (∀ (r : HostReq) (s u : State), s.accepts 4 r u → fieldAt 0 1 r.payload = 0x02 → u.mode ≠ .armed → u.mode ≠ .running → u.mode ≠ .boot →
    exec (.commandDisarm r) s = .next (u.answer 4 r 4 [])) ∧
  (∀ (r : HostReq) (s u : State), s.accepts 4 r u → fieldAt 0 1 r.payload = 0x03 → 5 ≤ r.payload.length → fieldAt 4 1 r.payload = 0 →
    (u.mode = .surveyed ∨ (u.mode = .faultHold ∧ u.releasable = true)) → u.persisting = 0 → (u.sf.tripReq = true → u.feedbackOpen = true) →
    ∃ t : State, exec (.commandRelease r) s = .next (t.answer 4 r 0 []) ∧ t.mode = .surveyed ∧ t.sf.latched = 0 ∧ t.sf.stopCause = 0 ∧ t.sf.firstCause = 0 ∧
      t.sf.tripReq = false ∧ (∀ k : Fin 8, t.sf.pair[k.val].latched = false) ∧ (∀ k : Fin 8, t.sf.output[k.val].stuckOn = false ∧ t.sf.output[k.val].stuckOff = false) ∧
      t = { u with mode := t.mode, sf := t.sf }) ∧
  (∀ (r : HostReq) (s u : State), s.accepts 4 r u → fieldAt 0 1 r.payload = 0x03 → 5 ≤ r.payload.length → fieldAt 4 1 r.payload = 0 →
    (u.mode = .surveyed ∨ u.mode = .faultHold) → u.persisting ≠ 0 →
    exec (.commandRelease r) s = .next (({ u with sf := { u.sf with latched := u.sf.latched &&& u.persisting } } : State).answer 4 r 8 [])) ∧
  (∀ (leg : Leg) (r : HostReq) (s u : State), s.accepts 4 r u → fieldAt 0 1 r.payload = 0x03 → 5 ≤ r.payload.length → fieldAt 4 1 r.payload = 2 ^ leg.val →
    (u.mode = .surveyed ∨ u.mode = .armed ∨ u.mode = .running) → u.conv[leg.val].st = .fault → u.legPersists leg = false →
    ∃ t : State, exec (.commandRelease r) s = .next (t.answer 4 r 0 []) ∧ t.conv[leg.val] = { u.conv[leg.val] with st := .disabled, cause := 0 } ∧
      t.pwm[(phaseA leg).val] = { u.pwm[(phaseA leg).val] with run := 0 } ∧ t = { u with conv := t.conv, pwm := t.pwm }) ∧
  (∀ (r : HostReq) (s u : State), s.accepts 4 r u → fieldAt 0 1 r.payload = 0x04 → (u.mode = .surveyed ∨ u.mode = .faultHold) → u.start.learnedRead = false →
    ∃ t : State, exec (.commandReset r) s = .next t ∧ u.restarts 128 t) ∧
  (∀ (r : HostReq) (s u : State), s.accepts 4 r u → fieldAt 0 1 r.payload = 0x04 → (u.mode = .surveyed ∨ u.mode = .faultHold) → u.start.learnedRead = true →
    u.learn.due = none →
    exec (.commandReset r) s = .next (({ u with learn := { u.learn with due := some 6, shutdown := 2 } } : State).answer 4 r 0 [])) ∧
  (∀ (r : HostReq) (s u : State), s.accepts 4 r u → fieldAt 0 1 r.payload = 0x04 → u.mode ≠ .surveyed → u.mode ≠ .faultHold → u.mode ≠ .boot →
    exec (.commandReset r) s = .next (u.answer 4 r 4 [])) ∧
  (∀ (r : HostReq) (s u : State), s.accepts 4 r u → fieldAt 0 1 r.payload = 0x05 → u.mode = .surveyed → u.layup.step = 0 → u.layup.due = false →
    exec (.commandLayUp r) s = .next (({ u with layup := { u.layup with due := true } } : State).answer 4 r 0 [])) ∧
  (∀ (r : HostReq) (s u : State), s.accepts 4 r u → fieldAt 0 1 r.payload = 0x05 → (u.mode ≠ .surveyed ∨ u.layup.step ≠ 0 ∨ u.layup.due = true) →
    u.mode ≠ .boot → exec (.commandLayUp r) s = .next (u.answer 4 r 4 [])) ∧
  (∀ s : State, s.layup.due = true → s.mode = .surveyed → s.start.learnedRead = true → (∀ l : Leg, s.measurable l = false) →
    ∃ t, s.beginLayup = t ∧ t.mode = .surveyed ∧ t.layup.step = 2 ∧ t.layup.due = false ∧ t.learn.shutdown = 1 ∧ t.learn.due.isSome = true ∧ t.kept = s.kept)

/-- R100, R102, R106, R408, R419. -/
def Obligations.PlatAndKeyCommands : Prop :=
  (∀ (r : HostReq) (s u : State), s.accepts 4 r u → fieldAt 0 1 r.payload = 0x30 → u.mode ≠ .boot →
    exec (.commandPlatStage r) s =
      .next (({ u with plat := { u.plat with stage := u.stagedResult } } : State).answer 4 r (if u.stagedResult = 0 then 0 else 8) [])) ∧
  (∀ (r : HostReq) (s u : State), s.accepts 4 r u → fieldAt 0 1 r.payload = 0x31 → u.mode = .surveyed → u.plat.recovery = false →
    u.par P.platInstallEnable = 1 → u.stagedResult = 0 → u.start.learnedRead = false →
    ∃ t v : State, exec (.commandPlatInstall r) s = .next t ∧ v.restarts 128 t ∧
      v = u.programInstall true (if u.plat.copy = 0 then 1 else 0) 0 u.stagedHeader.serial u.stagedHeader.bodyHash) ∧
  (∀ (r : HostReq) (s u : State), s.accepts 4 r u → fieldAt 0 1 r.payload = 0x31 → u.mode = .surveyed →
    (u.stagedResult ≠ 0 ∨ (u.plat.recovery = false ∧ u.par P.platInstallEnable = 0)) →
    exec (.commandPlatInstall r) s = .next (u.answer 4 r 8 [])) ∧
  (∀ (r : HostReq) (s u : State), s.accepts 4 r u → fieldAt 0 1 r.payload = 0x31 → u.mode ≠ .surveyed → u.mode ≠ .faultHold → u.mode ≠ .boot →
    exec (.commandPlatInstall r) s = .next (u.answer 4 r 4 [])) ∧
  (∀ (r : HostReq) (s u : State), s.accepts 4 r u → fieldAt 0 1 r.payload = 0x31 → u.mode = .faultHold → u.plat.recovery = false →
    u.par P.installInFaultHold ≠ 1 → exec (.commandPlatInstall r) s = .next (u.answer 4 r 4 [])) ∧
  (∀ (k : Fin 8) (r : HostReq) (s u : State), s.accepts 4 r u → fieldAt 0 1 r.payload = 0x40 → 5 ≤ r.payload.length → fieldAt 4 1 r.payload = k.val →
    k.val ≠ r.keyId → u.otherMaintenance k.val = true → u.mode ≠ .boot →
    ∃ t : State, exec (.commandKeyRevoke r) s = .next (t.answer 4 r 0 []) ∧ t.fuses.hostRevoked[k.val] = true ∧
      (∀ j : Fin 8, j ≠ k → t.fuses.hostRevoked[j.val] = u.fuses.hostRevoked[j.val]) ∧
      (∀ x : Sub, x ∈ t.host.subs ↔ (x ∈ u.host.subs ∧ x.key ≠ k.val)) ∧ (∀ f : Follower, f ∈ t.host.followers ↔ (f ∈ u.host.followers ∧ f.key ≠ k.val)) ∧
      t = { u with fuses := { u.fuses with hostRevoked := t.fuses.hostRevoked }, host := { u.host with subs := t.host.subs, followers := t.host.followers } }) ∧
  (∀ (r : HostReq) (s u : State), s.accepts 4 r u → fieldAt 0 1 r.payload = 0x40 → 5 ≤ r.payload.length → fieldAt 4 1 r.payload ≤ 7 → u.mode ≠ .boot →
    (fieldAt 4 1 r.payload = r.keyId ∨ u.otherMaintenance (fieldAt 4 1 r.payload) = false) →
    exec (.commandKeyRevoke r) s = .next (u.answer 4 r 8 []))

/-- R368, R369, R372 to R374, R416. -/
def Obligations.WindowOperations : Prop :=
  (∀ (w : Fin 2) (r : HostReq) (s u : State), s.accepts 5 r u → windowReq r w 0 → fieldAt 8 2 r.payload ≤ 4095 → fieldAt 10 2 r.payload ≠ 0 →
    u.windowFits (windowAddr r) (fieldAt 10 2 r.payload) = true → u.windowFree w (windowAddr r / 4096) ((windowAddr r + fieldAt 10 2 r.payload - 1) / 4096) →
    ∃ t : State, exec (.windowRead r) s = .next t ∧ t = { u with su := t.su } ∧ t.su.win[w.val] = { u.su.win[w.val] with op := 0, reply := some (ctxOf 5 r), before := 0 } ∧
      t.su.ch[(winCh w).val] = { st := .waiting, op := .read, addr := windowAddr r, len := fieldAt 10 2 r.payload, data := [],
                                 faults := u.su.ch[(winCh w).val].faults }) ∧
  (∀ (w : Fin 2) (sub : Nat) (r : HostReq) (s u : State), s.accepts 5 r u → windowReq r w sub → u.limited = false →
    (u.su.ch[(winCh w).val].st = .halted ∨ u.su.ch[(winCh w).val].st = .active ∨ u.su.ch[(winCh w).val].st = .waiting) →
    (sub = 0 → exec (.windowRead r) s = .next (u.answer 5 r 6 (u.windowPayload w []))) ∧ (sub = 1 → exec (.windowWrite r) s = .next (u.answer 5 r 6 (u.windowPayload w []))) ∧
    (sub = 2 → exec (.windowErase r) s = .next (u.answer 5 r 6 (u.windowPayload w []))) ∧ (sub = 3 → exec (.windowFlush r) s = .next (u.answer 5 r 6 (u.windowPayload w [])))) ∧
  (∀ (w : Fin 2) (r : HostReq) (s u : State), s.accepts 5 r u → windowReq r w 2 → fieldAt 8 2 r.payload ≤ 4095 →
    u.windowFree w ((u.eraseUnit (fieldAt 4 4 r.payload * 4096)).1 / 4096)
      (((u.eraseUnit (fieldAt 4 4 r.payload * 4096)).1 + (u.eraseUnit (fieldAt 4 4 r.payload * 4096)).2 - 1) / 4096) →
    ∃ t : State, exec (.windowErase r) s = .next t ∧ t = { u with su := t.su } ∧ t.su.ch[(winCh w).val].st = .waiting ∧ t.su.ch[(winCh w).val].op = .erase ∧
      t.su.ch[(winCh w).val].addr = fieldAt 4 4 r.payload * 4096 ∧ t.su.win[w.val].reply = some (ctxOf 5 r)) ∧
  (∀ (w : Fin 2) (r : HostReq) (s u : State), s.accepts 5 r u → windowReq r w 1 → fieldAt 8 2 r.payload ≤ 4095 →
    u.windowFits (windowAddr r) (fieldAt 10 2 r.payload) = true → u.windowFree w (windowAddr r / 4096) ((windowAddr r + fieldAt 10 2 r.payload - 1) / 4096) →
    u.su.win[w.val].held = [] → fieldAt 10 2 r.payload ≠ 0 →
    ((windowAddr r + fieldAt 10 2 r.payload) % u.unitAt (windowAddr r + fieldAt 10 2 r.payload) = 0 →
      ∃ t : State, exec (.windowWrite r) s = .next t ∧ t = { u with su := t.su } ∧ t.su.ch[(winCh w).val].st = .waiting ∧ t.su.ch[(winCh w).val].op = .write ∧
        t.su.ch[(winCh w).val].addr = windowAddr r ∧ t.su.ch[(winCh w).val].data = r.payload.drop 12 ∧ t.su.win[w.val].held = [] ∧
        t.su.win[w.val].reply = some (ctxOf 5 r)) ∧
    (fieldAt 10 2 r.payload ≤ (windowAddr r + fieldAt 10 2 r.payload) % u.unitAt (windowAddr r + fieldAt 10 2 r.payload) →
      ∃ t : State, exec (.windowWrite r) s = .next (t.answer 5 r 0 (t.windowPayload w [])) ∧ t = { u with su := t.su } ∧ t.su.win[w.val].held = r.payload.drop 12 ∧
        t.su.ch = u.su.ch)) ∧
  (∀ (w : Fin 2) (r : HostReq) (s u : State), s.accepts 5 r u → windowReq r w 3 → u.windowIdle w → u.su.win[w.val].held = [] →
    exec (.windowFlush r) s = .next (u.answer 5 r 0 (u.windowPayload w []))) ∧
  (∀ (w : Fin 2) (r : HostReq) (s u : State), s.accepts 5 r u → windowReq r w 3 → u.windowIdle w → u.su.win[w.val].held ≠ [] →
    ∃ (t : State) (n : Nat), exec (.windowFlush r) s = .next t ∧ t = { u with su := t.su } ∧ t.su.win[w.val].held = [] ∧ t.su.ch[(winCh w).val].op = .write ∧
      t.su.ch[(winCh w).val].addr = u.su.win[w.val].next - u.su.win[w.val].held.length ∧
      t.su.ch[(winCh w).val].data = u.su.win[w.val].held ++ List.replicate n 0xFF ∧ n < u.unitAt (u.su.win[w.val].next - u.su.win[w.val].held.length) ∧
      (u.su.win[w.val].next + n) % u.unitAt (u.su.win[w.val].next - u.su.win[w.val].held.length) = 0) ∧
  (∀ (w : Fin 2) (r : HostReq) (s u : State), s.accepts 5 r u → windowReq r w 4 → exec (.windowStatus r) s = .next (u.answer 5 r 0 (u.windowPayload w []))) ∧
  (∀ (w : Fin 2) (r : HostReq) (s u : State), s.accepts 5 r u → windowReq r w 5 → u.su.ch[(winCh w).val].st ≠ .halted →
    exec (.windowResume r) s = .next (u.answer 5 r 8 (u.windowPayload w []))) ∧
  (∀ (w : Fin 2) (r : HostReq) (s u : State), s.accepts 5 r u → windowReq r w 5 → u.su.ch[(winCh w).val].st = .halted → u.su.ch[(winCh w).val].fault = 3 →
    ∃ t : State, exec (.windowResume r) s = .next t ∧ t = { u with su := t.su } ∧ t.su.win[w.val].reply = some (ctxOf 5 r) ∧
      t.su.ch[(winCh w).val] = { u.su.ch[(winCh w).val] with st := .waiting, fault := 0, retried := true }) ∧
  (∀ (w : Fin 2) (r : HostReq) (s u : State), s.accepts 5 r u → windowReq r w 6 → u.su.ch[(winCh w).val].st = .halted →
    ∃ t : State, exec (.windowAbandon r) s = .next (t.answer 5 r 0 (t.windowPayload w [])) ∧ t = { u with su := t.su } ∧ t.su.ch[(winCh w).val].st = .idle ∧
      t.su.win[w.val] = { u.su.win[w.val] with held := [], next := 0, reply := none }) ∧
  (∀ (w : Fin 2) (r : HostReq) (s u : State), s.accepts 5 r u → windowReq r w 6 → (u.su.ch[(winCh w).val].st = .active ∨ u.su.ch[(winCh w).val].st = .waiting) →
    exec (.windowAbandon r) s = .next (u.answer 5 r 6 (u.windowPayload w [])))

/-- R446, R447, R449 to R453, R455. -/
def Obligations.UpdateOperations : Prop :=
  (∀ (r : HostReq) (s u : State), s.accepts 6 r u → fieldAt 0 1 r.payload = 0 → 8 ≤ r.payload.length → u.inStates runtimeStates = true → u.upd.session ≠ 3 →
    u.upd.session ≠ 4 → u.upd.reply = none → (u.portOf 8192).isSome = true → fieldAt 4 4 r.payload = 0 → u.updHeaderResult (r.payload.drop 8) = 0 →
    ∃ t : State, exec (.updateHeader r) s = .next (t.answer 6 r 0 (t.updPayload 0 0)) ∧ t.upd.header = r.payload.drop 8 ∧ (t.upd.session = 1 ∨ t.upd.session = 2) ∧
      t.upd.applied = 0 ∧ t.upd.block = 0 ∧ t.upd.lastResult = 0 ∧ t = { u with upd := t.upd, store := t.store }) ∧
  (∀ (r : HostReq) (s u : State), s.accepts 6 r u → fieldAt 0 1 r.payload = 0 → 8 ≤ r.payload.length → u.inStates runtimeStates = true → u.upd.session ≠ 3 →
    u.upd.session ≠ 4 → u.upd.reply = none → fieldAt 4 4 r.payload = 0 → u.updHeaderResult (r.payload.drop 8) ≠ 0 →
    ∃ t : State, exec (.updateHeader r) s = .next (t.answer 6 r 8 (t.updPayload 0 (u.updHeaderResult (r.payload.drop 8)))) ∧
      t.upd = { u.upd with lastResult := u.updHeaderResult (r.payload.drop 8) } ∧ t = { u with upd := t.upd, fb := t.fb }) ∧
  (∀ (r : HostReq) (s u : State), s.accepts 6 r u → fieldAt 0 1 r.payload = 1 → 8 < r.payload.length → r.payload.length ≤ 1032 → u.inStates runtimeStates = true →
    u.upd.session = 1 → u.upd.reply = none → fieldAt 4 4 r.payload = u.upd.received → u.upd.received + (r.payload.length - 8) ≤ u.bodyLen →
    ∃ t : State, exec (.updateBody r) s = .next t ∧ t.upd = { u.upd with reply := some (ctxOf 6 r) } ∧ 
      t.su.ch[8] = { st := .waiting, op := .write, addr := stagingBase + 4096 + u.upd.received, len := r.payload.length - 8, data := r.payload.drop 8, faults := u.su.ch[8].faults } ∧
      t = { u with upd := t.upd, su := t.su }) ∧
  (∀ (r : HostReq) (s u : State), s.accepts 6 r u → fieldAt 0 1 r.payload = 2 → 8 ≤ r.payload.length → u.inStates runtimeStates = true → u.upd.session = 2 →
    u.upd.received = u.bodyLen → sha256 (Memory.readBytes u.store (stagingBase + 4096) u.bodyLen) = slice 104 32 u.upd.header →
    (u.portOf (4096 * u.spareSlot)).isSome = true → (u.portOf (4096 * u.spareSlot + 4095)).isSome = true →
    ∃ t : State, exec (.updateApply r) s = .next (t.answer 6 r 0 (t.updPayload 2 0)) ∧ t.upd.session = (if u.upd.enable then 3 else 4) ∧ t.upd.applied = 0 ∧
      t = { u with upd := t.upd, store := t.store }) ∧
  (∀ (r : HostReq) (s u : State), s.accepts 6 r u → fieldAt 0 1 r.payload = 2 → 8 ≤ r.payload.length → u.inStates runtimeStates = true → u.upd.session = 2 →
    u.upd.received = u.bodyLen → sha256 (Memory.readBytes u.store (stagingBase + 4096) u.bodyLen) ≠ slice 104 32 u.upd.header →
    ∃ t : State, exec (.updateApply r) s = .next (t.answer 6 r 8 (t.updPayload 2 11)) ∧ t.upd = { u.upd with lastResult := 11 } ∧
      t = { u with upd := t.upd, fb := t.fb, events := t.events }) ∧
  (∀ (fault : Nat) (s : State), s.upd.session ≠ 3 → exec (.applyBlockComplete fault) s = .next s) ∧
  (∀ (fault : Nat) (s : State), s.upd.session = 3 → fault ≠ 0 →
    ∃ t : State, exec (.applyBlockComplete fault) s = .next t ∧ t.upd = { s.upd with session := 2, lastResult := 14 } ∧ t = { s with upd := t.upd, fb := t.fb, events := t.events }) ∧
  (∀ (out : List Byte) (s : State), s.upd.session = 3 → blockOk (s.stagedBlock s.upd.block) = true →
    s.runOps (fieldAt 33 1 s.upd.header == 1) (fieldAt 24 4 (s.headerCopy s.upd.slot)) s.resultLen (s.stagedBlock s.upd.block) 4096 0 s.upd.applied = some out →
    s.upd.abortDue = false → 4096 * (s.upd.block + 1) < s.bodyLen → s.upd.enable = true →
    exec (.applyBlockComplete 0) s = .next { s with
      store := Memory.program s.store (slotBase s.spareSlot + s.upd.applied) out
      upd := { s.upd with applied := s.upd.applied + out.length, block := s.upd.block + 1 } }) ∧
  (∀ (r : HostReq) (s u : State), s.accepts 6 r u → fieldAt 0 1 r.payload = 3 → 8 ≤ r.payload.length → u.upd.session ≠ 3 → u.upd.session ≠ 4 →
    (u.mode = .surveyed ∨ u.mode = .faultHold) → u.slotState u.spareSlot = 1 → ∃ t : State, exec (.updateStart r) s = .next t ∧ u.restarts 256 t) ∧
  (∀ (r : HostReq) (s u : State), s.accepts 6 r u → fieldAt 0 1 r.payload = 3 → 8 ≤ r.payload.length → u.upd.session ≠ 3 → u.upd.session ≠ 4 →
    (u.mode = .surveyed ∨ u.mode = .faultHold) → u.slotState u.spareSlot ≠ 1 →
    ∃ t : State, exec (.updateStart r) s = .next (t.answer 6 r 8 (t.updPayload 3 8)) ∧ t = { u with upd := { u.upd with lastResult := 8 } }) ∧
  (∀ (r : HostReq) (s u : State), s.accepts 6 r u → fieldAt 0 1 r.payload = 4 → 8 ≤ r.payload.length → u.upd.session ≠ 3 → u.upd.session ≠ 4 →
    u.upd.trial = true → u.mode = .surveyed → ∃ t : State, exec (.updateReject r) s = .next t ∧ u.restarts 256 t ∧ t.ret.trialEnd = 2) ∧
  (∀ (r : HostReq) (s u : State), s.accepts 6 r u → fieldAt 0 1 r.payload = 4 → 8 ≤ r.payload.length → u.upd.session ≠ 3 → u.upd.session ≠ 4 →
    u.upd.trial = true → (u.mode = .armed ∨ u.mode = .running) →
    ∃ t : State, exec (.updateReject r) s = .next (t.answer 6 r 0 (t.updPayload 4 0)) ∧ t.upd = { u.upd with endDue := 2, lastResult := 0 } ∧
      t.mode = .stopping ∧ bitAt t.sf.stopCause 19 = true ∧ t.kept = u.kept) ∧
  (∀ (r : HostReq) (s u : State), s.accepts 6 r u → fieldAt 0 1 r.payload = 5 → 8 ≤ r.payload.length → u.inStates runtimeStates = true → u.upd.session = 3 →
    ∃ t : State, exec (.updateAbort r) s = .next (t.answer 6 r 0 (t.updPayload 5 0)) ∧ t = { u with upd := { u.upd with abortDue := true, lastResult := 0 } }) ∧
  (∀ (r : HostReq) (s u : State), s.accepts 6 r u → fieldAt 0 1 r.payload = 5 → 8 ≤ r.payload.length → u.inStates runtimeStates = true → u.upd.session ≠ 3 →
    ∃ t : State, exec (.updateAbort r) s = .next (t.answer 6 r 0 (t.updPayload 5 0)) ∧ t = { u with upd := { u.upd with session := 0, abortDue := false, lastResult := 0 } }) ∧
  (∀ (r : HostReq) (s u : State), s.accepts 6 r u → fieldAt 0 1 r.payload = 6 → 8 ≤ r.payload.length →
    exec (.updateStatus r) s = .next (u.answer 6 r 0 (u.updPayload 6 u.upd.session))) ∧
  (∀ s : State, s.upd.trial = false → exec .trialTimerExpiry s = .next s) ∧
  (∀ s : State, s.upd.trial = true → s.mode = .surveyed → ∃ t : State, exec .trialTimerExpiry s = .next t ∧ s.restarts 256 t ∧ t.ret.trialEnd = 1)

/-- R423 to R429, R431 to R434, R436. The counters beyond the rules follow ISO 11898-1 (PRESUMED in the log). -/
def Obligations.CanBus : Prop :=
  (∀ (c : Fin 4) (f : CanFrame) (remote : Bool) (stamp : Nat) (s : State), (s.can[c.val].st = 1 ∨ s.can[c.val].st = 2) → s.can[c.val].err = 0 →
    s.can[c.val].tec < 128 → s.can[c.val].rxe < 128 → s.can[c.val].detecting = false →
    ∃ t, exec (.canFrameReceived c f remote stamp) s = .next t ∧ t = { s with can := t.can } ∧ (∀ d : Fin 4, d ≠ c → t.can[d.val] = s.can[d.val]) ∧
      (remote = false → s.can[c.val].rxq.length < 64 → t.can[c.val] = { s.can[c.val] with
        st := 2, rxe := s.can[c.val].rxe - 1, rxq := s.can[c.val].rxq ++ [{ seq := s.can[c.val].nextSeq, frame := f, stamp := stamp, sealed := false }]
        nextSeq := (s.can[c.val].nextSeq + 1) % 65536, rxFrames := incSat s.can[c.val].rxFrames }) ∧
      (remote = false → 64 ≤ s.can[c.val].rxq.length → t.can[c.val] = { s.can[c.val] with
        st := 2, rxe := s.can[c.val].rxe - 1, rxDropped := incSat s.can[c.val].rxDropped, drop := true }) ∧
      (remote = true → t.can[c.val] = { s.can[c.val] with st := 2, rxe := s.can[c.val].rxe - 1, rxRemote := incSat s.can[c.val].rxRemote })) ∧
  (∀ (c : Fin 4) (f : CanFrame) (stamp : Nat) (s : State), s.can[c.val].st = 2 → s.can[c.val].err = 0 → s.can[c.val].tec < 128 → s.can[c.val].rxe < 128 →
    s.can[c.val].detecting = true → s.can[c.val].good = 3 →
    ∃ t, exec (.canFrameReceived c f false stamp) s = .next t ∧ t.can[c.val].detecting = false ∧ (t.can[c.val].arb, t.can[c.val].dat) = s.ratePair c s.can[c.val].rate ∧
      t = { s with can := t.can, fb := t.fb }) ∧
  (∀ (c : Fin 4) (f : CanFrame) (b : Bool) (stamp : Nat) (s : State), s.can[c.val].err = 2 →
    exec (.canFrameReceived c f b stamp) s = .next s ∧ exec (.canRxError c b) s = .next s ∧ exec (.canArbitrationStart c) s = .next s) ∧
  (∀ (c : Fin 4) (heavy : Bool) (s : State), s.can[c.val].st = 2 → s.can[c.val].err ≠ 2 → s.can[c.val].detecting = false →
    ∃ t, exec (.canRxError c heavy) s = .next t ∧ t.can[c.val].rxe = s.can[c.val].rxe + (if heavy then 8 else 1) ∧ t.can[c.val].tec = s.can[c.val].tec ∧
      t = { s with can := t.can, fb := t.fb, freeCounter := t.freeCounter }) ∧
  (∀ (c : Fin 4) (heavy : Bool) (s : State), s.can[c.val].st = 2 → s.can[c.val].err ≠ 2 → s.can[c.val].detecting = true → s.can[c.val].errors = 2 →
    ∃ t, exec (.canRxError c heavy) s = .next t ∧ t.can[c.val].rate = (s.can[c.val].rate + 1) % max 1 (s.parN P.canRateCount c.val) ∧ t.can[c.val].good = 0 ∧
      t.can[c.val].errors = 0) ∧
  (∀ (c : Fin 4) (p : Fin 3) (s : State), (s.can[c.val].st = 1 ∨ s.can[c.val].st = 2) → s.can[c.val].err ≠ 2 → s.can[c.val].listen = false →
    (∀ b : Fin 3, s.can[c.val].tx[b.val].st ≠ 2) → s.can[c.val].tx[p.val].st = 1 →
    ∃ (t : State) (b : Fin 3), exec (.canArbitrationStart c) s = .next t ∧ s.can[c.val].tx[b.val].st = 1 ∧ t.can[c.val].st = 2 ∧
      t.can[c.val].tx[b.val] = { s.can[c.val].tx[b.val] with st := 2 } ∧ t = { s with can := t.can } ∧
      (s.par P.canTxOrder c.val = 0 → arbKey s.can[c.val].tx[b.val].frame ≤ arbKey s.can[c.val].tx[p.val].frame) ∧
      (s.par P.canTxOrder c.val = 1 → b.val ≤ p.val)) ∧
  (∀ f g : CanFrame, f.ide = false → g.ide = true → f.id = g.id / 2 ^ 18 → arbKey f < arbKey g) ∧
  (∀ (c : Fin 4) (b : Fin 3) (stamp : Nat) (s : State), s.can[c.val].onWire = some b → s.can[c.val].queue = [] →
    ∃ t, exec (.canTxComplete c stamp) s = .next t ∧ t.can[c.val].tx[b.val] = { s.can[c.val].tx[b.val] with st := 3, stamp := stamp, abort := false } ∧
      t.can[c.val].tec = s.can[c.val].tec - 1 ∧ t.can[c.val].txFrames = incSat s.can[c.val].txFrames ∧
      t = { s with can := t.can, fb := t.fb, freeCounter := t.freeCounter }) ∧
  (∀ (c : Fin 4) (b : Fin 3) (lost : Bool) (s : State), s.can[c.val].onWire = some b → s.can[c.val].queue = [] → s.can[c.val].st = 2 →
    ∃ t, exec (.canTxError c lost) s = .next t ∧ t.can[c.val].tec = s.can[c.val].tec + (if lost then 0 else 8) ∧
      t = { s with can := t.can, fb := t.fb, freeCounter := t.freeCounter } ∧
      (s.can[c.val].tx[b.val].abort = true → t.can[c.val].tx[b.val].st = 4) ∧
      (s.can[c.val].tx[b.val].abort = false → s.can[c.val].tx[b.val].oneShot = true → t.can[c.val].tx[b.val].st = 5) ∧
      (s.can[c.val].tx[b.val].abort = false → s.can[c.val].tx[b.val].oneShot = false → t.can[c.val].tx[b.val].st = 1)) ∧
  (∀ (c : Fin 4) (lost : Bool) (stamp : Nat) (s : State), s.can[c.val].onWire = none →
    exec (.canTxComplete c stamp) s = .next s ∧ exec (.canTxError c lost) s = .next s) ∧
  (∀ (c : Fin 4) (s : State), s.can[c.val].err = 2 → s.par P.canBusOffAuto c.val = 1 → (s.can[c.val].st = 1 ∨ s.can[c.val].st = 2) →
    ∃ t, exec (.canBusOffRecovery c) s = .next t ∧ t.can[c.val] = { s.can[c.val] with err := 0, tec := 0, rxe := 0 } ∧ t = { s with can := t.can, fb := t.fb }) ∧
  (∀ (c : Fin 4) (s : State), (s.can[c.val].err ≠ 2 ∨ s.par P.canBusOffAuto c.val = 0) → exec (.canBusOffRecovery c) s = .next s) ∧
  (∀ (c : Fin 4) (s : State), s.can[c.val].detecting = true →
    ∃ t, exec (.canRateDwellExpiry c) s = .next t ∧ t = { s with can := t.can } ∧
      t.can[c.val] = { s.can[c.val] with rate := (s.can[c.val].rate + 1) % max 1 (s.parN P.canRateCount c.val), good := 0, errors := 0 }) ∧
  (∀ (c : Fin 4) (s : State), s.can[c.val].detecting = false → exec (.canRateDwellExpiry c) s = .next s) ∧
  (∀ (c : Fin 4) (k : Nat) (m : RxMap) (s : State), (s.rxMaps c)[k]? = some m → m.timeout ≠ 0 → s.can[c.val].timedOut.contains k = false →
    s.canSealed = [] → s.can[c.val].rxq = [] →
    ∃ t, exec (.canMapTimeout c k) s = .next t ∧ t.signal[(slotIx m.slot).val] = -0x80000000 ∧ t.signalValid[(slotIx m.slot).val] = false ∧
      t.can[c.val].timedOut = s.can[c.val].timedOut ++ [k] ∧ t = { s with can := t.can, signal := t.signal, signalValid := t.signalValid, fb := t.fb }) ∧
  (∀ (c : Fin 4) (k : Nat) (s : State), (s.rxMaps c)[k]? = none → exec (.canMapTimeout c k) s = .next s) ∧
  (∀ (c : Fin 4) (k : Nat) (m : RxMap) (f : CanFrame) (stamp : Nat) (s : State), (s.rxMaps c)[k]? = some m → (c.val, f, stamp) ∈ s.canSealed → m.hits f = true →
    exec (.canMapTimeout c k) s = .next s) ∧
  (∀ (c : Fin 4) (k : Nat) (b : List Byte) (s : State), (s.txMaps c)[k]? = some b → (∀ e : List Byte, e ∈ (s.txMaps c).take k → fieldAt 0 4 e ≠ fieldAt 0 4 b) →
    s.time.frame % max 1 (fieldAt 6 2 b) = 0 →
    exec (.canTxMapSend c k) s = .next (s.canQueue c {
      ide := bitAt (fieldAt 0 4 b) 31, fd := bitAt (fieldAt 5 1 b) 0, brs := bitAt (fieldAt 5 1 b) 1, id := fieldAt 0 4 b % 2 ^ 29
      data := leBytes (fieldAt 4 1 b) (((s.txMaps c).filter (fun e => fieldAt 0 4 e == fieldAt 0 4 b)).map (fun e => s.txValue e)).sum })) ∧
  (∀ (c : Fin 4) (k : Nat) (s : State), (s.txMaps c)[k]? = none → exec (.canTxMapSend c k) s = .next s) ∧
  (∀ (c : Fin 4) (f : CanFrame) (s : State), (s.can[c.val].st = 1 ∨ s.can[c.val].st = 2) → s.role = .active → 32 ≤ s.can[c.val].queue.length →
    ∃ t, s.canQueue c f = t ∧ t = { s with can := t.can } ∧ t.can[c.val] = { s.can[c.val] with txDropped := incSat s.can[c.val].txDropped, ovf := true }) ∧
  (∀ (c : Fin 4) (f : CanFrame) (s : State), s.can[c.val].st = 2 → s.role = .active → s.can[c.val].queue.length < 32 →
    (s.can[c.val].listen = true ∨ ∀ b : Fin 3, s.can[c.val].tx[b.val].loadable = false) →
    ∃ t, s.canQueue c f = t ∧ t = { s with can := t.can } ∧ t.can[c.val] = { s.can[c.val] with queue := s.can[c.val].queue ++ [f] }) ∧
  (∀ (c : Fin 4) (k : Fin 5) (s : State), s.role = .active → s.can[c.val].st = 2 → s.statusDue c = true → k ≠ 0 → s.parN P.canStatusEnable c.val = 2 ^ k.val →
    exec (.canStatusSetSend c) s = .next (s.canQueue c {
      ide := s.par P.canStatusExt c.val == 1, fd := false, brs := false, id := s.parN P.canStatusBaseId c.val + k.val, data := s.statusPayload c k.val })) ∧
  (∀ (c : Fin 4) (s : State), (s.role ≠ .active ∨ s.statusDue c = false) → exec (.canStatusSetSend c) s = .next s)

/-- R426, R435. -/
def Obligations.CanGateway : Prop :=
  (∀ (c : Fin 4) (b : Fin 3) (r : HostReq) (s u : State), s.accepts 8 r u → fieldAt 0 1 r.payload = 0 → fieldAt 1 1 r.payload = c.val → fieldAt 4 1 r.payload = b.val →
    12 ≤ r.payload.length → r.payload.length = 12 + fieldAt 6 1 r.payload → u.gatewayOwns c b.val = true → u.can[c.val].detecting = false →
    (u.can[c.val].st = 1 ∨ u.can[c.val].st = 2) → canLenOk (bitAt (fieldAt 5 1 r.payload) 1) (fieldAt 6 1 r.payload) = true →
    (bitAt (fieldAt 5 1 r.payload) 1 = true → u.can[c.val].dat ≠ 0) →
    (u.can[c.val].tx[b.val].loadable = true →
      ∃ t : State, exec (.canTxLoad r) s = .next (t.canReply r 0 (leBytes 1 b.val ++ leBytes 1 1)) ∧ t = { u with can := t.can } ∧
        (∀ d : Fin 4, d ≠ c → t.can[d.val] = u.can[d.val]) ∧
        t.can[c.val].tx[b.val] = { u.can[c.val].tx[b.val] with
          st := 1, oneShot := bitAt (fieldAt 5 1 r.payload) 3, abort := false
          frame := { ide := bitAt (fieldAt 5 1 r.payload) 0, fd := bitAt (fieldAt 5 1 r.payload) 1, brs := bitAt (fieldAt 5 1 r.payload) 2
                     id := fieldAt 8 4 r.payload % 2 ^ 29, data := r.payload.drop 12 } }) ∧
    (u.can[c.val].tx[b.val].loadable = false → exec (.canTxLoad r) s = .next (u.canReply r 6 []))) ∧
  (∀ (c : Fin 4) (b : Fin 3) (r : HostReq) (s u : State), s.accepts 8 r u → fieldAt 0 1 r.payload = 0 → fieldAt 1 1 r.payload = c.val → fieldAt 4 1 r.payload = b.val →
    12 ≤ r.payload.length → r.payload.length = 12 + fieldAt 6 1 r.payload → u.gatewayOwns c b.val = false → exec (.canTxLoad r) s = .next (u.canReply r 8 [])) ∧
  (∀ (c : Fin 4) (b : Fin 3) (r : HostReq) (s u : State), s.accepts 8 r u → fieldAt 0 1 r.payload = 1 → fieldAt 1 1 r.payload = c.val → fieldAt 4 1 r.payload = b.val →
    4 ≤ r.payload.length → u.gatewayOwns c b.val = true →
    ∃ t : State, exec (.canTxAbort r) s = .next (t.canReply r 0 (leBytes 1 b.val ++ leBytes 1 t.can[c.val].tx[b.val].st)) ∧ t = { u with can := t.can } ∧
      (u.can[c.val].tx[b.val].st = 1 → t.can[c.val].tx[b.val] = { u.can[c.val].tx[b.val] with st := 4 }) ∧
      (u.can[c.val].tx[b.val].st = 2 → t.can[c.val].tx[b.val] = { u.can[c.val].tx[b.val] with abort := true }) ∧
      (u.can[c.val].tx[b.val].st ≠ 1 → u.can[c.val].tx[b.val].st ≠ 2 → t.can[c.val].tx[b.val] = u.can[c.val].tx[b.val])) ∧
  (∀ (c : Fin 4) (r : HostReq) (s u : State), s.accepts 8 r u → fieldAt 0 1 r.payload = 2 → fieldAt 1 1 r.payload = c.val → 4 ≤ r.payload.length →
    exec (.canTxStatus r) s = .next (u.canReply r 0 (u.can[c.val].tx.toList.flatMap (fun x => leBytes 1 x.st ++ leBytes 3 0 ++ leBytes 8 x.stamp)))) ∧
  (∀ (c : Fin 4) (r : HostReq) (s u : State), s.accepts 8 r u → fieldAt 0 1 r.payload = 3 → fieldAt 1 1 r.payload = c.val → 4 ≤ r.payload.length →
    (u.gatewayReads c = true → ∃ es : List CanRx, exec (.canRxRead r) s = .next (u.canReply r 0 (leBytes 1 es.length ++ es.flatMap CanRx.bytes)) ∧
      es <+: u.can[c.val].rxq ∧ es.length ≤ fieldAt 4 1 r.payload ∧ (es.flatMap CanRx.bytes).length ≤ 1421) ∧
    (u.gatewayReads c = false → exec (.canRxRead r) s = .next (u.canReply r 8 []))) ∧
  (∀ (c : Fin 4) (r : HostReq) (s u : State), s.accepts 8 r u → fieldAt 0 1 r.payload = 4 → fieldAt 1 1 r.payload = c.val → 4 ≤ r.payload.length →
    (∀ (a z : List CanRx) (e : CanRx), u.gatewayReads c = true → u.can[c.val].rxq = a ++ e :: z → e.seq = fieldAt 4 2 r.payload →
      (∀ x : CanRx, x ∈ a → x.seq ≠ e.seq) →
      ∃ t : State, exec (.canRxAck r) s = .next (t.canReply r 0 (leBytes 1 (a.length + 1))) ∧ t = { u with can := t.can } ∧ t.can[c.val] = { u.can[c.val] with rxq := z }) ∧
    (u.gatewayReads c = true → (∀ x : CanRx, x ∈ u.can[c.val].rxq → x.seq ≠ fieldAt 4 2 r.payload) → exec (.canRxAck r) s = .next (u.canReply r 3 [])) ∧
    (u.gatewayReads c = false → exec (.canRxAck r) s = .next (u.canReply r 8 []))) ∧
  (∀ (c : Fin 4) (r : HostReq) (s u : State), s.accepts 8 r u → fieldAt 0 1 r.payload = 5 → fieldAt 1 1 r.payload = c.val → 4 ≤ r.payload.length →
    exec (.canControllerStatus r) s = .next (u.canReply r 0 (leBytes 4 (u.canStatus c) ++ leBytes 1 (min 255 u.can[c.val].tec) ++ leBytes 1 (min 255 u.can[c.val].rxe) ++
      leBytes 1 u.can[c.val].rxq.length ++ leBytes 1 0))) ∧
  (∀ (r : HostReq) (s u : State), s.accepts 8 r u → fieldAt 0 1 r.payload = 5 → 4 ≤ r.payload.length → 3 < fieldAt 1 1 r.payload →
    exec (.canControllerStatus r) s = .next (u.answer 8 r 3 []))
end

