-- ==== Sys2Proof/Laws/Kept.lean ====
section
/-! SUPPORT. What most operations and commands keep: the queue, the fuses, the store and the plat flash. One lemma for each
operation of the model on the state that writes none of them; those that do are in Laws/Goes.lean. -/
set_option linter.unusedSimpArgs false
set_option linter.unusedVariables false
set_option linter.unusedTactic false
set_option linter.unreachableTactic false
namespace Sys2Proof.Machine
@[simp] theorem keeps_next (t s : State) : Keeps (.next t) s ↔ t.kept = s.kept := Iff.rfl
@[simp] theorem kept_fold (s : State) : (s.pending, s.fuses, s.store, s.plat.flash) = s.kept := rfl
@[simp] theorem kept_mk (mode role supply resetReq ret fuses layup start plat grid time win base fb fld lat sf ring diag sdiag cells temps balEnable est eleg probe stringSoc probeEnable natEnable llim slim learn conv pwm cle str therm mdOffset mdOffsetDue axis twin su net host can signal signalValid canSealed upd bist events store freeCounter pending) : State.kept (State.mk mode role supply resetReq ret fuses layup start plat grid time win base fb fld lat sf ring diag sdiag cells temps balEnable est eleg probe stringSoc probeEnable natEnable llim slim learn conv pwm cle str therm mdOffset mdOffsetDue axis twin su net host can signal signalValid canSealed upd bist events store freeCounter pending) = (pending, fuses, store, plat.flash) := rfl
@[simp] theorem kept_ite (c : Prop) [Decidable c] (a b : State) : (if c then a else b).kept = if c then a.kept else b.kept := apply_ite ..
@[simp] theorem keeps_ite (c : Prop) [Decidable c] (a b : Host.Outcome State Fault Refusal) (s : State) : Keeps (if c then a else b) s ↔ if c then Keeps a s else Keeps b s := by split <;> rfl
@[simp] theorem kept_foldl {α : Type} (f : State → α → State) (l : List α) (s : State) (h : ∀ t a, (f t a).kept = t.kept) : (l.foldl f s).kept = s.kept := by
  induction l generalizing s with
  | nil => rfl
  | cons a l ih => exact (ih (f s a)).trans (h s a)
theorem fst_ite {α β : Type} (c : Prop) [Decidable c] (a b : α × β) : (if c then a else b).1 = if c then a.1 else b.1 := by split <;> rfl
theorem snd_ite {α β : Type} (c : Prop) [Decidable c] (a b : α × β) : (if c then a else b).2 = if c then a.2 else b.2 := by split <;> rfl
theorem optKept_ite {s : State} (c : Prop) [Decidable c] {a b : Option State} (ha : ∀ t, a = some t → t.kept = s.kept) (hb : ∀ t, b = some t → t.kept = s.kept) :
    ∀ t, (if c then a else b) = some t → t.kept = s.kept := by split <;> assumption
theorem optKept_some {s u : State} (h : u.kept = s.kept) : ∀ t, some u = some t → t.kept = s.kept := fun _ e => Option.some.inj e ▸ h
theorem pair_foldl_kept {α β : Type} (f : State × β → α → State × β) (h : ∀ p a, (f p a).1.kept = p.1.kept) (l : List α) (p : State × β) : (l.foldl f p).1.kept = p.1.kept := by
  induction l generalizing p with
  | nil => rfl
  | cons a l ih => exact (ih (f p a)).trans (h p a)


@[simp] theorem State.tookFree_kept : ∀ a0 a1, (State.tookFree a0 a1).kept = a1.kept := by intros; rfl
@[simp] theorem State.formAt_kept : ∀ a0 a1 a2 a3 a4 a5 a6 a7 a8 a9, (State.formAt a0 a1 a2 a3 a4 a5 a6 a7 a8 a9).kept = a9.kept := by intros; rfl
@[simp] theorem State.form_kept : ∀ a0 a1 a2 a3 a4 a5 a6, (State.form a0 a1 a2 a3 a4 a5 a6).kept = a6.kept := by intros; rfl
@[simp] theorem State.event_kept : ∀ a0 a1 a2 a3 a4 a5 a6, (State.event a0 a1 a2 a3 a4 a5 a6).kept = a6.kept := by intros; rfl
@[simp] theorem State.formField_kept : ∀ a0 a1 a2 a3 a4 a5 a6, (State.formField a0 a1 a2 a3 a4 a5 a6).kept = a6.kept := by intros; simp [State.formField]
@[simp] theorem State.formEvent_kept : ∀ a0 a1 a2 a3 a4 a5 a6, (State.formEvent a0 a1 a2 a3 a4 a5 a6).kept = a6.kept := by intros; rfl
@[simp] theorem State.modTwin_kept : ∀ a0 a1, (State.modTwin a0 a1).kept = a1.kept := by intros; rfl
@[simp] theorem State.twinSend_kept : ∀ a0 a1 a2, (State.twinSend a0 a1 a2).kept = a2.kept := by intros; simp [State.twinSend]

@[simp] theorem State.modSu_kept : ∀ a0 a1, (State.modSu a0 a1).kept = a1.kept := by intros; rfl
@[simp] theorem State.modPort_kept : ∀ a0 a1 a2, (State.modPort a0 a1 a2).kept = a2.kept := by intros; rfl
@[simp] theorem State.modCh_kept : ∀ a0 a1 a2, (State.modCh a0 a1 a2).kept = a2.kept := by intros; rfl
@[simp] theorem State.startDesc_kept : ∀ a0 a1 a2 a3 a4 a5, (State.startDesc a0 a1 a2 a3 a4 a5).kept = a5.kept := by intros; rfl
@[simp] theorem State.haltCh_kept : ∀ a0 a1 a2, (State.haltCh a0 a1 a2).kept = a2.kept := by intros; simp [State.haltCh]
@[simp] theorem State.burst_kept : ∀ a0 a1 a2, (State.burst a0 a1 a2).1.kept = a2.kept := by intros; simp only [State.burst]; (repeat' split) <;> simp
@[simp] theorem State.markWaiting_kept : ∀ a0 a1 a2, (State.markWaiting a0 a1 a2).kept = a2.kept := by intros; simp [State.markWaiting]
@[simp] theorem State.burstOn_kept : ∀ a0 a1 a2, (State.burstOn a0 a1 a2).1.kept = a2.kept := by intros; simp only [State.burstOn]; (repeat' split) <;> simp
@[simp] theorem State.retireBlock_kept : ∀ a0 a1 a2, (State.retireBlock a0 a1 a2).1.kept = a2.kept := by intros; simp only [State.retireBlock]; (repeat' split) <;> simp
@[simp] theorem State.abandonCh_kept : ∀ a0 a1, (State.abandonCh a0 a1).kept = a1.kept := by intros; simp [State.abandonCh]
@[simp] theorem State.drainCh_kept : ∀ a0 a1, (State.drainCh a0 a1).kept = a0.kept := by intros; rfl
@[simp] theorem State.timeoutPort_kept : ∀ a0 a1, (State.timeoutPort a0 a1).1.kept = a1.kept := by intros; simp [State.timeoutPort]
@[simp] theorem State.recoverPort_kept : ∀ a0 a1 a2, (State.recoverPort a0 a1 a2).kept = a2.kept := by intros; simp [State.recoverPort]

@[simp] theorem State.modFb_kept : ∀ a0 a1, (State.modFb a0 a1).kept = a1.kept := by intros; rfl
@[simp] theorem State.closePage_kept : ∀ n s, (State.closePage n s).kept = s.kept
  | 0, _ => rfl
  | n + 1, s => by
    unfold State.closePage; dsimp only; split
    · exact (State.closePage_kept n _).trans (by simp only [State.modFb_kept])
    · exact State.modFb_kept _ _
@[simp] theorem State.bookProgram_kept : ∀ a0 a1, (State.bookProgram a0 a1).kept = a1.kept := by intros; simp [State.bookProgram]
@[simp] theorem State.bookPage_kept : ∀ a0, (State.bookPage a0).kept = a0.kept := by intros; simp [State.bookPage]
@[simp] theorem State.gather_kept : ∀ n s, (State.gather n s).kept = s.kept
  | 0, _ => rfl
  | n + 1, s => by
    unfold State.gather; split
    · rfl
    · dsimp only; split
      · exact State.bookPage_kept s
      · exact (State.gather_kept n _).trans (State.modFb_kept _ _)
@[simp] theorem State.dropQueue_kept : ∀ a0, (State.dropQueue a0).kept = a0.kept := by intros; simp [State.dropQueue]
@[simp] theorem State.bookNext_kept : ∀ a0, (State.bookNext a0).kept = a0.kept := by intros; simp only [State.bookNext]; (repeat' split) <;> simp
@[simp] theorem State.bookDone_kept : ∀ a0, (State.bookDone a0).kept = a0.kept := by intros; simp only [State.bookDone]; (repeat' split) <;> simp
@[simp] theorem State.bookRecord_kept : ∀ a0 a1 a2, (State.bookRecord a0 a1 a2).kept = a2.kept := by intros; rfl
@[simp] theorem State.eraseAhead_kept : ∀ a0, (State.eraseAhead a0).kept = a0.kept := by intros; simp [State.eraseAhead]
@[simp] theorem State.bookCount_kept : ∀ a0, (State.bookCount a0).kept = a0.kept := by intros; rfl
@[simp] theorem State.eraseAheadDone_kept : ∀ a0, (State.eraseAheadDone a0).kept = a0.kept := by intros; simp [State.eraseAheadDone]
@[simp] theorem State.bookPort_kept : ∀ a0, (State.bookPort a0).kept = a0.kept := by intros; simp only [State.bookPort]; (repeat' split) <;> simp
@[simp] theorem State.openRecords_kept : ∀ a0, (State.openRecords a0).kept = a0.kept := by intros; simp only [State.openRecords]; (repeat' split) <;> simp
@[simp] theorem execFbTimeRecord_kept : ∀ a0, Keeps (execFbTimeRecord a0) a0 := by intros; simp [execFbTimeRecord]
@[simp] theorem State.suppressedRecords_kept : ∀ a0, (State.suppressedRecords a0).kept = a0.kept := by intros; simp [State.suppressedRecords]
@[simp] theorem execFbSecondEnd_kept : ∀ a0, Keeps (execFbSecondEnd a0) a0 := by intros; simp [execFbSecondEnd]
@[simp] theorem execFbNandFlush_kept : ∀ a0, Keeps (execFbNandFlush a0) a0 := by intros; simp [execFbNandFlush]

@[simp] theorem State.modRing_kept : ∀ a0 a1 a2, (State.modRing a0 a1 a2).kept = a2.kept := by intros; rfl
@[simp] theorem State.modDiag_kept : ∀ a0 a1 a2, (State.modDiag a0 a1 a2).kept = a2.kept := by intros; rfl
@[simp] theorem State.modStation_kept : ∀ a0 a1 a2 a3, (State.modStation a0 a1 a2 a3).kept = a3.kept := by intros; rfl
@[simp] theorem State.modCell_kept : ∀ a0 a1 a2, (State.modCell a0 a1 a2).kept = a2.kept := by intros; rfl
@[simp] theorem State.sendFrame_kept : ∀ a0 a1 a2 a3, (State.sendFrame a0 a1 a2 a3).kept = a3.kept := by intros; simp [State.sendFrame]
@[simp] theorem State.pushFlit_kept : ∀ a0 a1 a2 a3 a4 a5, (State.pushFlit a0 a1 a2 a3 a4 a5).kept = a5.kept := by intros; simp [State.pushFlit]
@[simp] theorem State.planAt_kept : ∀ a0 a1 a2 a3 a4 a5 a6, (State.planAt a0 a1 a2 a3 a4 a5 a6).kept = a6.kept := by intros; simp [State.planAt]
@[simp] theorem State.plan_kept : ∀ a0 a1 a2 a3 a4 a5, (State.plan a0 a1 a2 a3 a4 a5).kept = a5.kept := by intros; simp [State.plan]
@[simp] theorem State.planAll_kept : ∀ a0 a1 a2 a3, (State.planAll a0 a1 a2 a3).kept = a3.kept := by intros; simp [State.planAll]
@[simp] theorem State.planFirst_kept : ∀ a0 a1 a2 a3, (State.planFirst a0 a1 a2 a3).kept = a3.kept := by intros; simp [State.planFirst]
@[simp] theorem State.planFor_kept : ∀ a0 a1 a2 a3 a4, (State.planFor a0 a1 a2 a3 a4).kept = a4.kept := by intros; simp [State.planFor]
@[simp] theorem State.planTest_kept : ∀ a0 a1 a2 a3 a4, (State.planTest a0 a1 a2 a3 a4).kept = a4.kept := by intros; simp [State.planTest]
@[simp] theorem State.planWires_kept : ∀ a0 a1 a2 a3, (State.planWires a0 a1 a2 a3).kept = a3.kept := by intros; simp [State.planWires]
@[simp] theorem State.planSwitches_kept : ∀ a0 a1 a2 a3, (State.planSwitches a0 a1 a2 a3).kept = a3.kept := by intros; simp [State.planSwitches]
@[simp] theorem State.takeHop_kept : ∀ a0 a1 a2 a3 a4, (State.takeHop a0 a1 a2 a3 a4).kept = a4.kept := by intros; simp [State.takeHop]
@[simp] theorem State.measureHop_kept : ∀ a0 a1 a2 a3 a4, (State.measureHop a0 a1 a2 a3 a4).kept = a4.kept := by intros; simp only [State.measureHop]; (repeat' split) <;> simp
@[simp] theorem State.enterCells_kept : ∀ a0 a1 a2 a3 a4, (State.enterCells a0 a1 a2 a3 a4).kept = a4.kept := by intros; simp [State.enterCells]
@[simp] theorem State.missCells_kept : ∀ a0 a1 a2 a3, (State.missCells a0 a1 a2 a3).kept = a3.kept := by intros; simp [State.missCells]
@[simp] theorem State.loseStation_kept : ∀ a0 a1 a2, (State.loseStation a0 a1 a2).kept = a2.kept := by intros; simp [State.loseStation]
@[simp] theorem State.enterTemps_kept : ∀ a0 a1 a2 a3, (State.enterTemps a0 a1 a2 a3).kept = a3.kept := by intros; simp [State.enterTemps]
@[simp] theorem State.checkHousekeeping_kept : ∀ a0 a1 a2 a3 a4, (State.checkHousekeeping a0 a1 a2 a3 a4).1.kept = a4.kept := by intros; simp [State.checkHousekeeping]
@[simp] theorem State.setLine_kept : ∀ a0 a1 a2 a3 a4, (State.setLine a0 a1 a2 a3 a4).kept = a4.kept := by intros; simp [State.setLine]
@[simp] theorem State.classifyLine_kept : ∀ a0 a1 a2 a3 a4, (State.classifyLine a0 a1 a2 a3 a4).kept = a4.kept := by intros; simp [State.classifyLine]
@[simp] theorem State.evaluateSwitches_kept : ∀ a0 a1 a2 a3 a4, (State.evaluateSwitches a0 a1 a2 a3 a4).kept = a4.kept := by intros; simp [State.evaluateSwitches]
@[simp] theorem State.abandonLayup_kept : ∀ a0 a1 a2, (State.abandonLayup a0 a1 a2).kept = a2.kept := by intros; simp [State.abandonLayup]
@[simp] theorem State.sleepNotConfirmed_kept : ∀ a0 a1 a2, (State.sleepNotConfirmed a0 a1 a2).kept = a2.kept := by intros; simp [State.sleepNotConfirmed]

@[simp] theorem State.planEach_kept : ∀ a0 a1 a2 a3 a4, (State.planEach a0 a1 a2 a3 a4).kept = a4.kept := by intros; simp [State.planEach]
@[simp] theorem State.planLoad_kept : ∀ a0 a1, (State.planLoad a0 a1).kept = a1.kept := by intros; simp only [State.planLoad]; (repeat' split) <;> simp
@[simp] theorem State.beginLoad_kept : ∀ a0 a1 a2 a3, (State.beginLoad a0 a1 a2 a3).kept = a3.kept := by intros; simp [State.beginLoad]
@[simp] theorem State.loadStations_kept : ∀ a0, (State.loadStations a0).kept = a0.kept := by intros; simp [State.loadStations]
@[simp] theorem State.loadOn_kept : ∀ a0 a1, (State.loadOn a0 a1).kept = a1.kept := by intros; simp [State.loadOn]
@[simp] theorem State.resendLoad_kept : ∀ a0 a1 a2, (State.resendLoad a0 a1 a2).kept = a2.kept := by intros; simp [State.resendLoad]
@[simp] theorem State.recount_kept : ∀ a0 a1, (State.recount a0 a1).kept = a1.kept := by intros; simp [State.recount]
@[simp] theorem State.startPass_kept : ∀ a0 a1, (State.startPass a0 a1).kept = a1.kept := by intros; simp [State.startPass]
@[simp] theorem State.failPass_kept : ∀ a0 a1, (State.failPass a0 a1).kept = a1.kept := by intros; simp [State.failPass]
@[simp] theorem State.stakeFromFar_kept : ∀ a0 a1, (State.stakeFromFar a0 a1).kept = a1.kept := by intros; simp [State.stakeFromFar]
@[simp] theorem State.learnStakes_kept : ∀ a0 a1, (State.learnStakes a0 a1).kept = a1.kept := by intros; simp [State.learnStakes]
@[simp] theorem State.planHop_kept : ∀ a0 a1 a2 a3, (State.planHop a0 a1 a2 a3).kept = a3.kept := by intros; simp [State.planHop]
@[simp] theorem State.planMeasure_kept : ∀ a0 a1, (State.planMeasure a0 a1).kept = a1.kept := by
  intros; simp [State.planMeasure, -List.foldl_reverse]
@[simp] theorem State.planRegisters_kept : ∀ a0 a1 a2, (State.planRegisters a0 a1 a2).kept = a2.kept := by intros; simp [State.planRegisters]
@[simp] theorem State.planAllRegisters_kept : ∀ a0 a1 a2, (State.planAllRegisters a0 a1 a2).kept = a2.kept := by intros; simp [State.planAllRegisters]
@[simp] theorem State.concludeStakes_kept : ∀ a0 a1, (State.concludeStakes a0 a1).kept = a1.kept := by intros; simp [State.concludeStakes]
@[simp] theorem State.onStakeTrain_kept : ∀ a0 a1 a2 a3 a4, (State.onStakeTrain a0 a1 a2 a3 a4).kept = a4.kept := by intros; simp only [State.onStakeTrain]; (repeat' split) <;> simp
@[simp] theorem State.missStake_kept : ∀ a0 a1 a2, (State.missStake a0 a1 a2).kept = a2.kept := by intros; simp [State.missStake]
@[simp] theorem State.spoilPass_kept : ∀ a0 a1, (State.spoilPass a0 a1).kept = a1.kept := by intros; simp [State.spoilPass]
@[simp] theorem State.pingOfPass_kept : ∀ a0 a1 a2 a3 a4, (State.pingOfPass a0 a1 a2 a3 a4).kept = a4.kept := by intros; simp only [State.pingOfPass]; (repeat' split) <;> simp
@[simp] theorem State.planRestake_kept : ∀ a0 a1, (State.planRestake a0 a1).kept = a1.kept := by intros; simp [State.planRestake]
@[simp] theorem State.markRestarted_kept : ∀ a0 a1 a2, (State.markRestarted a0 a1 a2).kept = a2.kept := by intros; simp [State.markRestarted]
@[simp] theorem State.beginStaking_kept : ∀ a0, (State.beginStaking a0).kept = a0.kept := by intros; simp [State.beginStaking]

@[simp] theorem State.modConv_kept : ∀ a0 a1 a2, (State.modConv a0 a1 a2).kept = a2.kept := by intros; rfl
@[simp] theorem State.modCle_kept : ∀ a0 a1 a2, (State.modCle a0 a1 a2).kept = a2.kept := by intros; rfl
@[simp] theorem State.modPwm_kept : ∀ a0 a1 a2, (State.modPwm a0 a1 a2).kept = a2.kept := by intros; rfl
@[simp] theorem State.modEleg_kept : ∀ a0 a1 a2, (State.modEleg a0 a1 a2).kept = a2.kept := by intros; rfl
@[simp] theorem State.modProbe_kept : ∀ a0 a1 a2, (State.modProbe a0 a1 a2).kept = a2.kept := by intros; rfl
@[simp] theorem State.modEst_kept : ∀ a0 a1 a2, (State.modEst a0 a1 a2).kept = a2.kept := by intros; rfl
@[simp] theorem State.learnTrigger_kept : ∀ a0 a1, (State.learnTrigger a0 a1).kept = a1.kept := by intros; simp [State.learnTrigger]
@[simp] theorem State.probeResult_kept : ∀ a0 a1 a2, (State.probeResult a0 a1 a2).kept = a2.kept := by intros; rfl
@[simp] theorem State.stripOffset_kept : ∀ a0 a1, (State.stripOffset a0 a1).kept = a1.kept := by intros; rfl
@[simp] theorem State.removeOffsets_kept : ∀ a0 a1, (State.removeOffsets a0 a1).kept = a1.kept := by intros; simp [State.removeOffsets]
@[simp] theorem State.yieldPair_kept : ∀ a0 a1 a2, (State.yieldPair a0 a1 a2).kept = a2.kept := by intros; simp only [State.yieldPair]; (repeat' split) <;> simp
@[simp] theorem State.yieldLeg_kept : ∀ a0 a1 a2, (State.yieldLeg a0 a1 a2).kept = a2.kept := by intros; simp [State.yieldLeg]
@[simp] theorem State.yieldAll_kept : ∀ a0 a1, (State.yieldAll a0 a1).kept = a1.kept := by intros; simp [State.yieldAll]
@[simp] theorem State.stopBalancing_kept : ∀ a0 a1, (State.stopBalancing a0 a1).kept = a1.kept := by intros; simp [State.stopBalancing]
@[simp] theorem State.stopAllBalancing_kept : ∀ a0, (State.stopAllBalancing a0).kept = a0.kept := by intros; simp [State.stopAllBalancing]
@[simp] theorem State.brakeLeg_kept : ∀ a0 a1 a2 a3, (State.brakeLeg a0 a1 a2 a3).kept = a3.kept := by intros; simp [State.brakeLeg]
@[simp] theorem State.settleRunning_kept : ∀ a0, (State.settleRunning a0).kept = a0.kept := by intros; simp [State.settleRunning]
@[simp] theorem State.trigger_kept : ∀ a0 a1 a2 a3, (State.trigger a0 a1 a2 a3).kept = a3.kept := by intros; simp [State.trigger]
@[simp] theorem State.enterFaultHold_kept : ∀ a0, (State.enterFaultHold a0).kept = a0.kept := by intros; simp [State.enterFaultHold]
@[simp] theorem State.latchLeg_kept : ∀ a0 a1 a2 a3 a4, (State.latchLeg a0 a1 a2 a3 a4).kept = a4.kept := by intros; simp [State.latchLeg]

@[simp] theorem State.mapLeg_kept : ∀ a0 a1 a2, (State.mapLeg a0 a1 a2).kept = a2.kept := by intros; simp [State.mapLeg]
@[simp] theorem State.predictRounds_kept : ∀ a0 a1, (State.predictRounds a0 a1).kept = a1.kept := by intros; simp [State.predictRounds]
@[simp] theorem State.countLeg_kept : ∀ a0 a1, (State.countLeg a0 a1).kept = a1.kept := by intros; simp [State.countLeg]
@[simp] theorem State.endNews_kept : ∀ a0 a1 a2 a3 a4, (State.endNews a0 a1 a2 a3 a4).kept = a4.kept := by intros; simp [State.endNews]
@[simp] theorem State.takeRound_kept : ∀ a0 a1 a2, (State.takeRound a0 a1 a2).kept = a2.kept := by intros; simp [State.takeRound]
@[simp] theorem State.socSums_kept : ∀ a0, (State.socSums a0).kept = a0.kept := by intros; simp only [State.socSums, kept_mk, kept_fold, kept_ite, ite_self, kept_foldl, keeps_next, keeps_ite, implies_true, fst_ite, snd_ite, State.modEleg_kept]; exact kept_foldl _ _ _ (fun t a => by (try dsimp only); (repeat' split) <;> (first | with_reducible rfl | simp only [kept_mk, kept_fold, kept_ite, ite_self, kept_foldl, keeps_next, keeps_ite, implies_true, fst_ite, snd_ite, State.modEleg_kept]))

@[simp] theorem State.closureCheck_kept : ∀ a0 a1 a2, (State.closureCheck a0 a1 a2).kept = a2.kept := by intros; simp [State.closureCheck]
@[simp] theorem State.planWireTest_kept : ∀ a0 a1 a2 a3 a4, (State.planWireTest a0 a1 a2 a3 a4).kept = a4.kept := by intros; simp [State.planWireTest]
@[simp] theorem State.actPattern_kept : ∀ a0 a1 a2 a3 a4, (State.actPattern a0 a1 a2 a3 a4).kept = a4.kept := by intros; simp [State.actPattern]
@[simp] theorem State.examineStation_kept : ∀ a0 a1 a2, (State.examineStation a0 a1 a2).kept = a2.kept := by intros; simp only [State.examineStation]; (repeat' split) <;> simp
@[simp] theorem State.formDeltas_kept : ∀ a0 a1 a2, (State.formDeltas a0 a1 a2).kept = a2.kept := by intros; simp only [State.formDeltas, kept_mk, kept_fold, kept_ite, ite_self, kept_foldl, keeps_next, keeps_ite, implies_true, fst_ite, snd_ite, State.modCell_kept]; exact kept_foldl _ _ _ (fun t a => by (try dsimp only); (repeat' split) <;> (first | with_reducible rfl | simp only [kept_mk, kept_fold, kept_ite, ite_self, kept_foldl, keeps_next, keeps_ite, implies_true, fst_ite, snd_ite, State.modCell_kept]))
@[simp] theorem State.openWires_kept : ∀ a0 a1 a2, (State.openWires a0 a1 a2).kept = a2.kept := by intros; simp [State.openWires]

@[simp] theorem State.finishDrain_kept : ∀ a0 a1, (State.finishDrain a0 a1).kept = a1.kept := by intros; simp only [State.finishDrain]; (repeat' split) <;> simp
@[simp] theorem State.startDrain_kept : ∀ a0 a1 a2, (State.startDrain a0 a1 a2).kept = a2.kept := by intros; simp only [State.startDrain]; (repeat' split) <;> simp

@[simp] theorem State.survivors_kept : ∀ a0, (State.survivors a0).kept = a0.kept := by intros; rfl
@[simp] theorem State.moduleReset_kept : ∀ a0 a1, (State.moduleReset a0 a1).kept = a1.kept := by intros; rfl
@[simp] theorem State.powerOff_kept : ∀ a0, (State.powerOff a0).kept = a0.kept := by intros; rfl

@[simp] theorem State.modUpd_kept : ∀ a0 a1, (State.modUpd a0 a1).kept = a1.kept := by intros; rfl
@[simp] theorem State.updRecord_kept : ∀ a0 a1 a2 a3, (State.updRecord a0 a1 a2 a3).kept = a3.kept := by intros; rfl
@[simp] theorem State.openPort_kept : ∀ a0 a1 a2, (State.openPort a0 a1 a2).kept = a2.kept := by intros; simp [State.openPort]

@[simp] theorem State.legLimits_kept : ∀ a0 a1 a2, (State.legLimits a0 a1 a2).kept = a2.kept := by intros; rfl
@[simp] theorem State.stringLimits_kept : ∀ a0 a1, (State.stringLimits a0 a1).kept = a1.kept := by intros; simp [State.stringLimits]
@[simp] theorem State.enforce_kept : ∀ a0 a1, (State.enforce a0 a1).kept = a1.kept := by intros; rfl
@[simp] theorem State.fillBudgets_kept : ∀ a0, (State.fillBudgets a0).kept = a0.kept := by intros; rfl
@[simp] theorem State.energyTime_kept : ∀ a0, (State.energyTime a0).kept = a0.kept := by intros; rfl
@[simp] theorem State.setWarning_kept : ∀ a0 a1 a2 a3, (State.setWarning a0 a1 a2 a3).kept = a3.kept := by intros; simp [State.setWarning]
@[simp] theorem State.socWarning_kept : ∀ a0 a1 a2 a3, (State.socWarning a0 a1 a2 a3).kept = a3.kept := by intros; simp [State.socWarning]
@[simp] theorem State.timeWarning_kept : ∀ a0 a1 a2 a3 a4, (State.timeWarning a0 a1 a2 a3 a4).kept = a4.kept := by intros; simp [State.timeWarning]
@[simp] theorem State.warnings_kept : ∀ a0, (State.warnings a0).kept = a0.kept := by intros; simp [State.warnings]

@[simp] theorem execLearnedSnapshot_kept : ∀ a0, Keeps (execLearnedSnapshot a0) a0 := by intros; simp only [execLearnedSnapshot]; (repeat' split) <;> simp
@[simp] theorem execLearnPeriodExpiry_kept : ∀ a0, Keeps (execLearnPeriodExpiry a0) a0 := by intros; simp [execLearnPeriodExpiry]
@[simp] theorem State.finishShutdown_kept : ∀ a0, (State.finishShutdown a0).kept = a0.kept := by intros; simp [State.finishShutdown]
@[simp] theorem execShutdownPersistTimeout_kept : ∀ a0, Keeps (execShutdownPersistTimeout a0) a0 := by intros; simp [execShutdownPersistTimeout]

@[simp] theorem State.modAxis_kept : ∀ a0 a1 a2, (State.modAxis a0 a1 a2).kept = a2.kept := by intros; rfl
@[simp] theorem State.axisFault_kept : ∀ a0 a1 a2, (State.axisFault a0 a1 a2).kept = a2.kept := by intros; rfl
@[simp] theorem State.autoHome_kept : ∀ a0, (State.autoHome a0).kept = a0.kept := by intros; simp [State.autoHome]
@[simp] theorem State.homingStep_kept : ∀ a0 a1, (State.homingStep a0 a1).kept = a1.kept := by intros; simp only [State.homingStep]; (repeat' split) <;> simp
@[simp] theorem State.axisPeriod_kept : ∀ a0 a1 a2, (State.axisPeriod a0 a1 a2).kept = a2.kept := by intros; simp [State.axisPeriod]
@[simp] theorem execAxisPwmPeriod_kept : ∀ a0 a1, Keeps (execAxisPwmPeriod a0 a1) a1 := by intros; simp [execAxisPwmPeriod]
@[simp] theorem execAxisHomeEdge_kept : ∀ a0 a1 a2 a3, Keeps (execAxisHomeEdge a0 a1 a2 a3) a3 := by intros; simp only [execAxisHomeEdge]; (repeat' split) <;> simp
@[simp] theorem execAxisChatterClear_kept : ∀ a0 a1, Keeps (execAxisChatterClear a0 a1) a1 := by intros; rfl
@[simp] theorem execAxisLimit_kept : ∀ a0 a1 a2 a3, Keeps (execAxisLimit a0 a1 a2 a3) a3 := by intros; simp only [execAxisLimit]; (repeat' split) <;> simp
@[simp] theorem execAxisStandstill_kept : ∀ a0 a1, Keeps (execAxisStandstill a0 a1) a1 := by intros; rfl
@[simp] theorem execAxisVmotFault_kept : ∀ a0 a1, Keeps (execAxisVmotFault a0 a1) a1 := by intros; simp [execAxisVmotFault]
@[simp] theorem execAxisVmotRecover_kept : ∀ a0 a1, Keeps (execAxisVmotRecover a0 a1) a1 := by intros; simp [execAxisVmotRecover]
@[simp] theorem State.axisTarget_kept : ∀ a0 a1 a2, (State.axisTarget a0 a1 a2).kept = a2.kept := by intros; rfl
@[simp] theorem State.takeTarget_kept : ∀ a0 a1, (State.takeTarget a0 a1).kept = a1.kept := by intros; simp only [State.takeTarget]; (repeat' split) <;> simp
@[simp] theorem State.axisHome_kept : ∀ a0 a1, (State.axisHome a0 a1).kept = a1.kept := by intros; rfl
@[simp] theorem State.axisStop_kept : ∀ a0 a1, (State.axisStop a0 a1).kept = a1.kept := by intros; rfl
@[simp] theorem State.axisEnable_kept : ∀ a0 a1 a2, (State.axisEnable a0 a1 a2).kept = a2.kept := by intros; rfl

@[simp] theorem State.presetCle_kept : ∀ a0 a1, (State.presetCle a0 a1).kept = a1.kept := by intros; rfl
@[simp] theorem State.selectBanks_kept : ∀ a0 a1, (State.selectBanks a0 a1).kept = a1.kept := by intros; simp [State.selectBanks]
@[simp] theorem State.enterSoftStart_kept : ∀ a0 a1, (State.enterSoftStart a0 a1).kept = a1.kept := by intros; rfl

@[simp] theorem State.modGrid_kept : ∀ a0 a1, (State.modGrid a0 a1).kept = a1.kept := by intros; rfl
@[simp] theorem State.modTime_kept : ∀ a0 a1, (State.modTime a0 a1).kept = a1.kept := by intros; rfl
@[simp] theorem State.at'_kept : ∀ a0 a1, (State.at' a0 a1).kept = a1.kept := by intros; rfl
@[simp] theorem State.selectSource_kept : ∀ a0, (State.selectSource a0).kept = a0.kept := by intros; simp [State.selectSource]
@[simp] theorem State.setPhase_kept : ∀ a0 a1, (State.setPhase a0 a1).kept = a1.kept := by intros; rfl
@[simp] theorem State.handOver_kept : ∀ a0 a1 a2, (State.handOver a0 a1 a2).kept = a2.kept := by intros; simp [State.handOver]
@[simp] theorem State.holdMark_kept : ∀ a0, (State.holdMark a0).kept = a0.kept := by intros; simp [State.holdMark]

@[simp] theorem State.twinRecord_kept : ∀ a0 a1 a2 a3, (State.twinRecord a0 a1 a2 a3).kept = a3.kept := by intros; rfl
@[simp] theorem State.outputsOff_kept : ∀ a0, (State.outputsOff a0).kept = a0.kept := by intros; simp [State.outputsOff]
@[simp] theorem State.announceService_kept : ∀ a0, (State.announceService a0).kept = a0.kept := by intros; simp [State.announceService]
@[simp] theorem State.endListeners_kept : ∀ a0, (State.endListeners a0).kept = a0.kept := by intros; rfl
@[simp] theorem State.estrange_kept : ∀ a0, (State.estrange a0).kept = a0.kept := by intros; simp [State.estrange]
@[simp] theorem State.loseStandby_kept : ∀ a0, (State.loseStandby a0).kept = a0.kept := by intros; simp [State.loseStandby]
@[simp] theorem State.diverge_kept : ∀ a0, (State.diverge a0).kept = a0.kept := by intros; simp [State.diverge]
@[simp] theorem State.decideTakeover_kept : ∀ a0 a1, (State.decideTakeover a0 a1).kept = a1.kept := by intros; simp [State.decideTakeover]
@[simp] theorem State.declareFault_kept (f : State → State) (s : State) (h : ∀ t, (f t).kept = t.kept) : (State.declareFault f s).kept = s.kept := by
  unfold State.declareFault; (repeat' split) <;> simp only [h, State.estrange_kept, State.twinRecord_kept, State.twinSend_kept, State.modTwin_kept]
@[simp] theorem State.openDispute_kept : ∀ a0 a1, (State.openDispute a0 a1).kept = a1.kept := by intros; rfl
@[simp] theorem State.arbitrate_kept : ∀ a0, (State.arbitrate a0).kept = a0.kept := by intros; unfold State.arbitrate; (repeat' split) <;> simp
@[simp] theorem State.abandonJoin_kept : ∀ a0, (State.abandonJoin a0).kept = a0.kept := by intros; simp [State.abandonJoin]
@[simp] theorem State.sendCodes_kept : ∀ a0 a1, (State.sendCodes a0 a1).kept = a1.kept := by intros; simp [State.sendCodes]
@[simp] theorem State.sendWords_kept : ∀ a0, (State.sendWords a0).kept = a0.kept := by intros; simp [State.sendWords]

@[simp] theorem State.countLatch_kept : ∀ a0 a1 a2 a3, (State.countLatch a0 a1 a2 a3).kept = a3.kept := by intros; rfl
@[simp] theorem State.latchField_kept : ∀ a0 a1, (State.latchField a0 a1).kept = a1.kept := by intros; simp [State.latchField]
@[simp] theorem State.boundaryFlits_kept : ∀ a0 a1, (State.boundaryFlits a0 a1).kept = a1.kept := by intros; simp [State.boundaryFlits]
@[simp] theorem State.sealCounts_kept : ∀ a0 a1, (State.sealCounts a0 a1).kept = a1.kept := by intros; simp [State.sealCounts]
@[simp] theorem State.sealBundle_kept : ∀ a0 a1, (State.sealBundle a0 a1).kept = a1.kept := by intros; simp [State.sealBundle]
@[simp] theorem State.takeImage_kept : ∀ a0 a1 a2 a3, (State.takeImage a0 a1 a2 a3).kept = a3.kept := by intros; rfl
@[simp] theorem State.takeBundle_kept : ∀ a0 a1, (State.takeBundle a0 a1).kept = a1.kept := by intros; simp [State.takeBundle]

@[simp] theorem State.launch_kept : ∀ a0 a1 a2 a3, (State.launch a0 a1 a2 a3).kept = a3.kept := by intros; simp [State.launch]

@[simp] theorem State.planRound_kept : ∀ a0 a1 a2 a3 a4 a5, (State.planRound a0 a1 a2 a3 a4 a5).kept = a5.kept := by intros; simp [State.planRound]
@[simp] theorem State.planReads_kept : ∀ a0 a1 a2 a3 a4 a5, (State.planReads a0 a1 a2 a3 a4 a5).kept = a5.kept := by intros; simp only [State.planReads]; (repeat' split) <;> simp
@[simp] theorem State.startRound_kept : ∀ a0 a1 a2 a3 a4 a5 a6, (State.startRound a0 a1 a2 a3 a4 a5 a6).kept = a6.kept := by intros; simp [State.startRound]
@[simp] theorem execVoltageRound_kept : ∀ a0 a1 a2 a3, Keeps (execVoltageRound a0 a1 a2 a3) a3 := by intros; simp [execVoltageRound]
@[simp] theorem State.capture_kept : ∀ a0 a1 a2 a3, (State.capture a0 a1 a2 a3).kept = a3.kept := by intros; simp only [State.capture]; (repeat' split) <;> simp
@[simp] theorem execPlumbCapture_kept : ∀ a0 a1 a2, Keeps (execPlumbCapture a0 a1 a2) a2 := by intros; simp only [execPlumbCapture, kept_mk, kept_fold, kept_ite, ite_self, kept_foldl, keeps_next, keeps_ite, implies_true, fst_ite, snd_ite, State.capture_kept]; exact kept_foldl _ _ _ (fun t a => by (try dsimp only); (repeat' split) <;> (first | with_reducible rfl | simp only [kept_mk, kept_fold, kept_ite, ite_self, kept_foldl, keeps_next, keeps_ite, implies_true, fst_ite, snd_ite, State.capture_kept]))
@[simp] theorem execClosureHoldExpiry_kept : ∀ a0 a1, Keeps (execClosureHoldExpiry a0 a1) a1 := by intros; simp [execClosureHoldExpiry]
@[simp] theorem execOpenWireRetest_kept : ∀ a0 a1 a2 a3, Keeps (execOpenWireRetest a0 a1 a2 a3) a3 := by intros; simp [execOpenWireRetest]
@[simp] theorem execBalSwitchTestSchedule_kept : ∀ a0 a1 a2, Keeps (execBalSwitchTestSchedule a0 a1 a2) a2 := by intros; simp only [execBalSwitchTestSchedule]; (repeat' split) <;> simp
@[simp] theorem State.slowRound_kept : ∀ a0 a1, (State.slowRound a0 a1).kept = a1.kept := by intros; simp [State.slowRound]
@[simp] theorem execTempSlowRound_kept : ∀ a0, Keeps (execTempSlowRound a0) a0 := by intros; simp [execTempSlowRound]
@[simp] theorem execFastListRound_kept : ∀ a0, Keeps (execFastListRound a0) a0 := by intros; simp only [execFastListRound, kept_mk, kept_fold, kept_ite, ite_self, kept_foldl, keeps_next, keeps_ite, implies_true, fst_ite, snd_ite, State.plan_kept]; exact kept_foldl _ _ _ (fun t a => by (try dsimp only); (repeat' split) <;> (first | with_reducible rfl | simp only [kept_mk, kept_fold, kept_ite, ite_self, kept_foldl, keeps_next, keeps_ite, implies_true, fst_ite, snd_ite, State.plan_kept]))
@[simp] theorem execFastListLeave_kept : ∀ a0 a1 a2, Keeps (execFastListLeave a0 a1 a2) a2 := by intros; simp [execFastListLeave]
@[simp] theorem execTempStaleTimeout_kept : ∀ a0 a1, Keeps (execTempStaleTimeout a0 a1) a1 := by intros; rfl
@[simp] theorem State.balancePhase_kept : ∀ a0 a1, (State.balancePhase a0 a1).kept = a1.kept := by intros; simp [State.balancePhase]
@[simp] theorem execBalancePhaseBoundary_kept : ∀ a0, Keeps (execBalancePhaseBoundary a0) a0 := by intros; simp [execBalancePhaseBoundary]
@[simp] theorem execOffsetCalibrationStart_kept : ∀ a0 a1, Keeps (execOffsetCalibrationStart a0 a1) a1 := by intros; simp [execOffsetCalibrationStart]
@[simp] theorem State.widenSoc_kept : ∀ a0 a1 a2 a3, (State.widenSoc a0 a1 a2 a3).kept = a3.kept := by intros; simp [State.widenSoc]
@[simp] theorem execOffsetCalibrationComplete_kept : ∀ a0 a1 a2 a3 a4, Keeps (execOffsetCalibrationComplete a0 a1 a2 a3 a4) a4 := by intros; simp [execOffsetCalibrationComplete]
@[simp] theorem execRestTimerExpiry_kept : ∀ a0 a1, Keeps (execRestTimerExpiry a0 a1) a1 := by intros; simp [execRestTimerExpiry]

@[simp] theorem State.commitPair_kept : ∀ a0 a1, (State.commitPair a0 a1).kept = a1.kept := by intros; simp only [State.commitPair]; (repeat' split) <;> simp
@[simp] theorem State.commitProbes_kept : ∀ a0, (State.commitProbes a0).kept = a0.kept := by intros; simp [State.commitProbes]
@[simp] theorem execProbeDue_kept : ∀ a0 a1, Keeps (execProbeDue a0 a1) a1 := by intros; simp [execProbeDue]
@[simp] theorem execProbeLeadingEdge_kept : ∀ a0 a1, Keeps (execProbeLeadingEdge a0 a1) a1 := by intros; simp [execProbeLeadingEdge]
@[simp] theorem execProbeTrailingEdge_kept : ∀ a0 a1, Keeps (execProbeTrailingEdge a0 a1) a1 := by intros; simp [execProbeTrailingEdge]
@[simp] theorem State.extractLeg_kept : ∀ a0 a1 a2 a3 a4 a5 a6, (State.extractLeg a0 a1 a2 a3 a4 a5 a6).kept = a6.kept := by intros; simp only [State.extractLeg]; (repeat' split) <;> simp
@[simp] theorem State.keepReads_kept : ∀ a0 a1 a2, (State.keepReads a0 a1 a2).kept = a2.kept := by intros; simp only [State.keepReads]; (repeat' split) <;> simp
@[simp] theorem State.extractPair_kept : ∀ a0 a1, (State.extractPair a0 a1).kept = a1.kept := by intros; simp [State.extractPair]
@[simp] theorem State.extractNatural_kept : ∀ a0 a1, (State.extractNatural a0 a1).kept = a1.kept := by intros; simp only [State.extractNatural]; (repeat' split) <;> simp
@[simp] theorem State.extractAll_kept : ∀ a0, (State.extractAll a0).kept = a0.kept := by intros; simp [State.extractAll]

@[simp] theorem State.steer_kept : ∀ a0, (State.steer a0).kept = a0.kept := by intros; simp [State.steer]
@[simp] theorem State.takeRequest_kept : ∀ a0, (State.takeRequest a0).kept = a0.kept := by intros; rfl
@[simp] theorem State.detectNatural_kept : ∀ a0 a1 a2 a3 a4, (State.detectNatural a0 a1 a2 a3 a4).kept = a4.kept := by intros; simp only [State.detectNatural]; (repeat' split) <;> simp
@[simp] theorem State.requestChange_kept : ∀ a0 a1 a2 a3, (State.requestChange a0 a1 a2 a3).kept = a3.kept := by intros; simp only [State.requestChange]; (repeat' split) <;> simp
@[simp] theorem State.writeWords_kept : ∀ a0, (State.writeWords a0).kept = a0.kept := by intros; simp [State.writeWords]
@[simp] theorem State.enableLeg_kept : ∀ a0 a1, (State.enableLeg a0 a1).kept = a1.kept := by intros; simp [State.enableLeg]
@[simp] theorem State.disableLeg_kept : ∀ a0 a1, (State.disableLeg a0 a1).kept = a1.kept := by intros; simp [State.disableLeg]
@[simp] theorem State.enterRunning_kept : ∀ a0, (State.enterRunning a0).kept = a0.kept := by intros; simp [State.enterRunning]
@[simp] theorem State.applyMask_kept : ∀ a0 a1, (State.applyMask a0 a1).kept = a1.kept := by intros; simp [State.applyMask]
@[simp] theorem State.retarget_kept : ∀ a0 a1 a2 a3, (State.retarget a0 a1 a2 a3).kept = a3.kept := by intros; simp [State.retarget]
@[simp] theorem State.finishModeChange_kept : ∀ a0 a1, (State.finishModeChange a0 a1).kept = a1.kept := by intros; simp [State.finishModeChange]
@[simp] theorem State.dispatch_kept : ∀ a0 a1 a2 a3 a4 a5, (State.dispatch a0 a1 a2 a3 a4 a5).kept = a5.kept := by intros; simp [State.dispatch]
@[simp] theorem execModeChangeBankSwitch_kept : ∀ a0, Keeps (execModeChangeBankSwitch a0) a0 := by intros; simp only [execModeChangeBankSwitch]; (repeat' split) <;> simp
@[simp] theorem execDispatchWatchdogExpiry_kept : ∀ a0, Keeps (execDispatchWatchdogExpiry a0) a0 := by intros; simp [execDispatchWatchdogExpiry]
@[simp] theorem execWdHoldExpiry_kept : ∀ a0, Keeps (execWdHoldExpiry a0) a0 := by intros; simp [execWdHoldExpiry]

@[simp] theorem State.startReference_kept : ∀ a0, (State.startReference a0).kept = a0.kept := by intros; simp [State.startReference]
@[simp] theorem execLegWaitBusReady_kept : ∀ a0 a1, Keeps (execLegWaitBusReady a0 a1) a1 := by intros; simp [execLegWaitBusReady]
@[simp] theorem execStartIntoShort_kept : ∀ a0, Keeps (execStartIntoShort a0) a0 := by intros; simp [execStartIntoShort]
@[simp] theorem execRetrySpacingExpiry_kept : ∀ a0 a1, Keeps (execRetrySpacingExpiry a0 a1) a1 := by intros; simp [execRetrySpacingExpiry]
@[simp] theorem State.latchLegSample_kept : ∀ a0 a1, (State.latchLegSample a0 a1).kept = a1.kept := by intros; simp [State.latchLegSample]
@[simp] theorem State.latchSample_kept : ∀ a0 a1, (State.latchSample a0 a1).kept = a1.kept := by intros; simp [State.latchSample]
@[simp] theorem State.stampLatch_kept : ∀ a0, (State.stampLatch a0).kept = a0.kept := by intros; simp [State.stampLatch]
@[simp] theorem State.sampleFlits_kept : ∀ a0, (State.sampleFlits a0).kept = a0.kept := by intros; simp [State.sampleFlits]
@[simp] theorem execSampleLatch_kept : ∀ a0 a1, Keeps (execSampleLatch a0 a1) a1 := by intros; simp [execSampleLatch]
@[simp] theorem execCompareWrite_kept : ∀ a0, Keeps (execCompareWrite a0) a0 := by intros; simp [execCompareWrite]
@[simp] theorem State.latchPhase_kept : ∀ a0 a1, (State.latchPhase a0 a1).kept = a1.kept := by intros; simp [State.latchPhase]
@[simp] theorem execPwmCarrierStart_kept : ∀ a0 a1, Keeps (execPwmCarrierStart a0 a1) a1 := by intros; simp [execPwmCarrierStart]
@[simp] theorem execFastLimitTrip_kept : ∀ a0 a1 a2, Keeps (execFastLimitTrip a0 a1 a2) a2 := by intros; simp [execFastLimitTrip]
@[simp] theorem execDesatTrip_kept : ∀ a0 a1, Keeps (execDesatTrip a0 a1) a1 := by intros; simp [execDesatTrip]
@[simp] theorem execOverloadTrip_kept : ∀ a0 a1, Keeps (execOverloadTrip a0 a1) a1 := by intros; simp [execOverloadTrip]
@[simp] theorem execLoadStepTurnOff_kept : ∀ a0 a1, Keeps (execLoadStepTurnOff a0 a1) a1 := by intros; simp only [execLoadStepTurnOff]; (repeat' split) <;> simp
@[simp] theorem execLoadStepReentry_kept : ∀ a0 a1, Keeps (execLoadStepReentry a0 a1) a1 := by intros; simp [execLoadStepReentry]
@[simp] theorem execLoadStepTimeout_kept : ∀ a0 a1, Keeps (execLoadStepTimeout a0 a1) a1 := by intros; simp [execLoadStepTimeout]
@[simp] theorem State.endDrain_kept : ∀ a0 a1, (State.endDrain a0 a1).kept = a1.kept := by intros; simp [State.endDrain]
@[simp] theorem execLegDrainComplete_kept : ∀ a0 a1, Keeps (execLegDrainComplete a0 a1) a1 := by intros; simp [execLegDrainComplete]
@[simp] theorem execLegHeadroomLoss_kept : ∀ a0 a1, Keeps (execLegHeadroomLoss a0 a1) a1 := by intros; simp [execLegHeadroomLoss]

@[simp] theorem State.modSf_kept : ∀ a0 a1, (State.modSf a0 a1).kept = a1.kept := by intros; rfl
@[simp] theorem State.modGroup_kept : ∀ a0 a1 a2, (State.modGroup a0 a1 a2).kept = a2.kept := by intros; rfl
@[simp] theorem State.modOut_kept : ∀ a0 a1 a2, (State.modOut a0 a1 a2).kept = a2.kept := by intros; rfl
@[simp] theorem State.modPair_kept : ∀ a0 a1 a2, (State.modPair a0 a1 a2).kept = a2.kept := by intros; rfl
@[simp] theorem State.setFbk_kept : ∀ a0 a1 a2, (State.setFbk a0 a1 a2).kept = a2.kept := by intros; rfl
@[simp] theorem State.command_kept : ∀ a0 a1 a2, (State.command a0 a1 a2).kept = a2.kept := by intros; simp [State.command]
@[simp] theorem State.openAll_kept : ∀ a0, (State.openAll a0).kept = a0.kept := by intros; simp [State.openAll]
@[simp] theorem State.ioRecord_kept : ∀ a0 a1 a2 a3 a4, (State.ioRecord a0 a1 a2 a3 a4).kept = a4.kept := by intros; rfl
@[simp] theorem State.declareWelded_kept : ∀ a0 a1, (State.declareWelded a0 a1).kept = a1.kept := by intros; simp [State.declareWelded]
@[simp] theorem State.stuckOn_kept : ∀ a0 a1, (State.stuckOn a0 a1).kept = a1.kept := by intros; simp [State.stuckOn]
@[simp] theorem State.stuckOff_kept : ∀ a0 a1, (State.stuckOff a0 a1).kept = a1.kept := by intros; simp [State.stuckOff]
@[simp] theorem State.pairFault_kept : ∀ a0 a1 a2 a3, (State.pairFault a0 a1 a2 a3).kept = a3.kept := by intros; simp [State.pairFault]
@[simp] theorem State.postMail_kept : ∀ a0, (State.postMail a0).kept = a0.kept := by intros; simp [State.postMail]
@[simp] theorem State.countHard_kept : ∀ a0 a1 a2, (State.countHard a0 a1 a2).kept = a2.kept := by intros; simp [State.countHard]
@[simp] theorem State.hardRound_kept : ∀ a0 a1 a2, (State.hardRound a0 a1 a2).1.kept = a2.1.kept := by intros; simp [State.hardRound]
@[simp] theorem State.hardTrigger_kept (s : State) : (State.hardTrigger s).kept = s.kept := by
  unfold State.hardTrigger
  have h := pair_foldl_kept (fun b l => (List.range (b.1.diag[(l : Leg).val].sealed.length)).foldl (fun c j => State.hardRound l (2 + j) c) b)
    (fun b l => pair_foldl_kept _ (fun c j => State.hardRound_kept l (2 + j) c) _ b) allLegs (s, [])
  simp only [State.modSf_kept]
  split
  · exact h
  · simp [h]
@[simp] theorem State.countHot_kept : ∀ a0, (State.countHot a0).kept = a0.kept := by intros; rfl
@[simp] theorem State.hotTrigger_kept : ∀ a0, (State.hotTrigger a0).kept = a0.kept := by intros; simp [State.hotTrigger]
@[simp] theorem State.tgAccept_kept : ∀ a0 a1, (State.tgAccept a0 a1).kept = a1.kept := by intros; simp [State.tgAccept]
@[simp] theorem State.tgCount_kept : ∀ a0 a1, (State.tgCount a0 a1).kept = a1.kept := by intros; rfl
@[simp] theorem State.tgEvaluate_kept : ∀ a0 a1, (State.tgEvaluate a0 a1).kept = a1.kept := by intros; simp only [State.tgEvaluate]; (repeat' split) <;> simp
@[simp] theorem State.sealTelegrams_kept : ∀ a0 a1, (State.sealTelegrams a0 a1).kept = a1.kept := by intros; simp [State.sealTelegrams]
@[simp] theorem State.tgWork_kept : ∀ n s, (State.tgWork n s).kept = s.kept
  | 0, _ => rfl
  | n + 1, s => by
    unfold State.tgWork; split
    · rfl
    · exact (State.tgWork_kept n _).trans (by simp only [State.tgEvaluate_kept, State.modSf_kept])
@[simp] theorem State.riseCause_kept : ∀ a0 a1 a2 a3 a4, (State.riseCause a0 a1 a2 a3 a4).kept = a4.kept := by intros; simp [State.riseCause]
@[simp] theorem State.latchPairs_kept : ∀ a0 a1, (State.latchPairs a0 a1).kept = a1.kept := by intros; simp [State.latchPairs]
@[simp] theorem State.pruneInvalid_kept : ∀ a0, (State.pruneInvalid a0).kept = a0.kept := by intros; rfl
@[simp] theorem State.judge_kept : ∀ a0, (State.judge a0).kept = a0.kept := by intros; simp [State.judge]
@[simp] theorem State.scheduleDark_kept : ∀ s, (State.scheduleDark s).kept = s.kept := by
  intro s
  unfold State.scheduleDark; dsimp only
  split <;> simp only [State.modSf_kept, State.modOut_kept, kept_foldl, kept_ite, ite_self, implies_true]
@[simp] theorem State.sendPermit_kept : ∀ a0, (State.sendPermit a0).kept = a0.kept := by intros; simp [State.sendPermit]
@[simp] theorem State.stopOpens_kept : ∀ a0, (State.stopOpens a0).kept = a0.kept := by intros; simp [State.stopOpens]
@[simp] theorem State.stopBoundary_kept : ∀ a0, (State.stopBoundary a0).kept = a0.kept := by intros; simp [State.stopBoundary]
@[simp] theorem State.safetyBoundary_kept : ∀ a0, (State.safetyBoundary a0).kept = a0.kept := by intros; simp [State.safetyBoundary]
@[simp] theorem State.stopRamp_kept : ∀ a0 a1, (State.stopRamp a0 a1).kept = a1.kept := by intros; simp only [State.stopRamp]; (repeat' split) <;> simp
@[simp] theorem State.stopLeg_kept : ∀ a0 a1, (State.stopLeg a0 a1).kept = a1.kept := by intros; simp [State.stopLeg]
@[simp] theorem State.driveOutputs_kept : ∀ a0, (State.driveOutputs a0).kept = a0.kept := by intros; rfl

@[simp] theorem State.modInput_kept : ∀ a0 a1 a2, (State.modInput a0 a1 a2).kept = a2.kept := by intros; rfl
@[simp] theorem State.demandRecord_kept : ∀ a0 a1 a2, (State.demandRecord a0 a1 a2).kept = a2.kept := by intros; simp [State.demandRecord]
@[simp] theorem execSafetyInputDemand_kept : ∀ a0 a1, Keeps (execSafetyInputDemand a0 a1) a1 := by intros; simp [execSafetyInputDemand]
@[simp] theorem execSafetyInputClear_kept : ∀ a0 a1, Keeps (execSafetyInputClear a0 a1) a1 := by intros; simp [execSafetyInputClear]
@[simp] theorem execSafetyPairDiscrepancy_kept : ∀ a0 a1, Keeps (execSafetyPairDiscrepancy a0 a1) a1 := by intros; simp [execSafetyPairDiscrepancy]
@[simp] theorem execTestPulseStart_kept : ∀ a0 a1 a2, Keeps (execTestPulseStart a0 a1 a2) a2 := by intros; simp [execTestPulseStart]
@[simp] theorem State.checkInput_kept : ∀ a0 a1 a2 a3, (State.checkInput a0 a1 a2 a3).kept = a2.kept := by intros; simp [State.checkInput]
@[simp] theorem execTestPulseCheck_kept : ∀ a0 a1 a2, Keeps (execTestPulseCheck a0 a1 a2) a2 := by intros; simp [execTestPulseCheck]
@[simp] theorem execTestPulseEnd_kept : ∀ a0 a1, Keeps (execTestPulseEnd a0 a1) a1 := by intros; rfl
@[simp] theorem execStopTMaxExpiry_kept : ∀ a0, Keeps (execStopTMaxExpiry a0) a0 := by intros; simp [execStopTMaxExpiry]
@[simp] theorem execStoppingExit_kept : ∀ a0, Keeps (execStoppingExit a0) a0 := by intros; simp [execStoppingExit]
@[simp] theorem State.cellTrigger_kept : ∀ a0 a1 a2 a3 a4 a5, (State.cellTrigger a0 a1 a2 a3 a4 a5).kept = a5.kept := by intros; simp [State.cellTrigger]
@[simp] theorem execCellInvalidTimeout_kept : ∀ a0 a1, Keeps (execCellInvalidTimeout a0 a1) a1 := by intros; simp [execCellInvalidTimeout]
@[simp] theorem execTempPointsInvalidTimeout_kept : ∀ a0 a1 a2, Keeps (execTempPointsInvalidTimeout a0 a1 a2) a2 := by intros; simp [execTempPointsInvalidTimeout]
@[simp] theorem State.seqTo_kept : ∀ a0 a1, (State.seqTo a0 a1).kept = a1.kept := by intros; rfl
@[simp] theorem execContactorSequenceStep_kept : ∀ a0, Keeps (execContactorSequenceStep a0) a0 := by intros; simp only [execContactorSequenceStep]; (repeat' split) <;> simp
@[simp] theorem execPrechargeTimeout_kept : ∀ a0, Keeps (execPrechargeTimeout a0) a0 := by intros; simp [execPrechargeTimeout]
@[simp] theorem execOutputReadbackMismatch_kept : ∀ a0 a1 a2, Keeps (execOutputReadbackMismatch a0 a1 a2) a2 := by intros; simp [execOutputReadbackMismatch]
@[simp] theorem execDarkTestStart_kept : ∀ a0, Keeps (execDarkTestStart a0) a0 := by intros; simp only [execDarkTestStart]; (repeat' split) <;> simp
@[simp] theorem execDarkTestOffCheck_kept : ∀ a0 a1, Keeps (execDarkTestOffCheck a0 a1) a1 := by intros; simp only [execDarkTestOffCheck]; (repeat' split) <;> simp
@[simp] theorem execDarkTestRecoveryCheck_kept : ∀ a0 a1, Keeps (execDarkTestRecoveryCheck a0 a1) a1 := by intros; simp only [execDarkTestRecoveryCheck]; (repeat' split) <;> simp
@[simp] theorem execDarkTestIntervalEnd_kept : ∀ a0 a1, Keeps (execDarkTestIntervalEnd a0 a1) a1 := by intros; simp [execDarkTestIntervalEnd]
@[simp] theorem State.groupFault_kept : ∀ a0 a1 a2 a3 a4 a5, (State.groupFault a0 a1 a2 a3 a4 a5).kept = a5.kept := by intros; simp [State.groupFault]
@[simp] theorem execContactorOperateTimeout_kept : ∀ a0 a1 a2, Keeps (execContactorOperateTimeout a0 a1 a2) a2 := by intros; simp [execContactorOperateTimeout]
@[simp] theorem execContactorFeedbackChange_kept : ∀ a0 a1 a2, Keeps (execContactorFeedbackChange a0 a1 a2) a2 := by intros; simp [execContactorFeedbackChange]
@[simp] theorem execWeldPeerHoldExpiry_kept : ∀ a0 a1 a2, Keeps (execWeldPeerHoldExpiry a0 a1 a2) a2 := by intros; simp [execWeldPeerHoldExpiry]
@[simp] theorem execInhibitCurrentViolation_kept : ∀ a0 a1 a2, Keeps (execInhibitCurrentViolation a0 a1 a2) a2 := by intros; simp [execInhibitCurrentViolation]
@[simp] theorem State.permitLeg_kept : ∀ a0 a1 a2, (State.permitLeg a0 a1 a2).kept = a1.kept := by intros; simp [State.permitLeg]
@[simp] theorem execPermitReceived_kept : ∀ a0 a1, Keeps (execPermitReceived a0 a1) a1 := by intros; simp [execPermitReceived]
@[simp] theorem execPermitTimeout_kept : ∀ a0, Keeps (execPermitTimeout a0) a0 := by intros; simp [execPermitTimeout]
@[simp] theorem execLockstepMismatch_kept : ∀ a0, Keeps (execLockstepMismatch a0) a0 := by intros; simp [execLockstepMismatch]
@[simp] theorem execSafeTelegramReceived_kept : ∀ a0 a1 a2 a3, Keeps (execSafeTelegramReceived a0 a1 a2 a3) a3 := by intros; simp [execSafeTelegramReceived]
@[simp] theorem execTelegramWatchdogExpiry_kept : ∀ a0, Keeps (execTelegramWatchdogExpiry a0) a0 := by intros; simp [execTelegramWatchdogExpiry]
@[simp] theorem State.sendStatus_kept : ∀ a0 a1, (State.sendStatus a0 a1).kept = a1.kept := by intros; simp [State.sendStatus]
@[simp] theorem execStatusTelegramSend_kept : ∀ a0, Keeps (execStatusTelegramSend a0) a0 := by intros; simp [execStatusTelegramSend]

@[simp] theorem execTraverseStake_kept : ∀ a0 a1 a2 a3, Keeps (execTraverseStake a0 a1 a2 a3) a3 := by intros; simp [execTraverseStake]
@[simp] theorem execTraverseUnstakeAll_kept : ∀ a0 a1, Keeps (execTraverseUnstakeAll a0 a1) a1 := by intros; simp [execTraverseUnstakeAll]
@[simp] theorem execTraversePing_kept : ∀ a0 a1 a2, Keeps (execTraversePing a0 a1 a2) a2 := by intros; simp [execTraversePing]
@[simp] theorem execTraverseSampleAt_kept : ∀ a0 a1 a2 a3 a4, Keeps (execTraverseSampleAt a0 a1 a2 a3 a4) a4 := by intros; simp [execTraverseSampleAt]
@[simp] theorem execTraverseReadCells_kept : ∀ a0 a1 a2, Keeps (execTraverseReadCells a0 a1 a2) a2 := by intros; simp [execTraverseReadCells]
@[simp] theorem execTraverseReadTemps_kept : ∀ a0 a1, Keeps (execTraverseReadTemps a0 a1) a1 := by intros; simp [execTraverseReadTemps]
@[simp] theorem execTraverseReadHousekeeping_kept : ∀ a0 a1, Keeps (execTraverseReadHousekeeping a0 a1) a1 := by intros; simp [execTraverseReadHousekeeping]
@[simp] theorem State.noteMasks_kept : ∀ a0 a1 a2 a3, (State.noteMasks a0 a1 a2 a3).kept = a3.kept := by intros; simp [State.noteMasks]
@[simp] theorem execTraverseBalanceSet_kept : ∀ a0 a1 a2 a3, Keeps (execTraverseBalanceSet a0 a1 a2 a3) a3 := by intros; simp [execTraverseBalanceSet]
@[simp] theorem execTraverseQuiet_kept : ∀ a0 a1 a2 a3, Keeps (execTraverseQuiet a0 a1 a2 a3) a3 := by intros; simp [execTraverseQuiet]
@[simp] theorem execTraverseOpenWireTest_kept : ∀ a0 a1 a2, Keeps (execTraverseOpenWireTest a0 a1 a2) a2 := by intros; simp [execTraverseOpenWireTest]
@[simp] theorem execTraverseBalSwitchTest_kept : ∀ a0 a1 a2, Keeps (execTraverseBalSwitchTest a0 a1 a2) a2 := by intros; simp [execTraverseBalSwitchTest]
@[simp] theorem execTraverseSetSleepThresholds_kept : ∀ a0 a1 a2 a3 a4 a5 a6, Keeps (execTraverseSetSleepThresholds a0 a1 a2 a3 a4 a5 a6) a6 := by intros; simp [execTraverseSetSleepThresholds]
@[simp] theorem execTraverseSleep_kept : ∀ a0 a1 a2, Keeps (execTraverseSleep a0 a1 a2) a2 := by intros; simp [execTraverseSleep]
@[simp] theorem execTraverseCodeLoad_kept : ∀ a0 a1 a2 a3, Keeps (execTraverseCodeLoad a0 a1 a2 a3) a3 := by intros; simp [execTraverseCodeLoad]
@[simp] theorem execTraverseCodeRun_kept : ∀ a0 a1 a2 a3 a4, Keeps (execTraverseCodeRun a0 a1 a2 a3 a4) a4 := by intros; simp [execTraverseCodeRun]
@[simp] theorem execTraverseReadReg_kept : ∀ a0 a1 a2 a3, Keeps (execTraverseReadReg a0 a1 a2 a3) a3 := by intros; simp [execTraverseReadReg]
@[simp] theorem execTraverseWriteReg_kept : ∀ a0 a1 a2 a3, Keeps (execTraverseWriteReg a0 a1 a2 a3) a3 := by intros; simp [execTraverseWriteReg]
@[simp] theorem State.seekReflect_kept : ∀ a0 a1 a2 a3 a4, (State.seekReflect a0 a1 a2 a3 a4).kept = a4.kept := by intros; simp only [State.seekReflect]; (repeat' split) <;> simp
@[simp] theorem State.answerContact_kept : ∀ a0 a1 a2, (State.answerContact a0 a1 a2).kept = a2.kept := by intros; simp [State.answerContact]
@[simp] theorem State.onPingTrain_kept : ∀ a0 a1 a2, (State.onPingTrain a0 a1 a2).kept = a2.kept := by intros; simp [State.onPingTrain]
@[simp] theorem State.enterRound_kept : ∀ a0 a1 a2 a3 a4, (State.enterRound a0 a1 a2 a3 a4).kept = a4.kept := by
  intros; exact kept_foldl _ _ _ (fun t a => by (repeat' split) <;> simp)
@[simp] theorem State.loseUnreached_kept : ∀ a0 a1, (State.loseUnreached a0 a1).kept = a1.kept := by
  intros; simp only [State.loseUnreached]; split
  · exact kept_foldl _ _ _ (fun t a => by split <;> simp)
  · rfl
@[simp] theorem State.pollTests_kept : ∀ a0 a1, (State.pollTests a0 a1).kept = a1.kept := by intros; simp [State.pollTests]
@[simp] theorem State.sealRound_kept : ∀ a0 a1 a2, (State.sealRound a0 a1 a2).kept = a2.kept := by intros; simp [State.sealRound]
@[simp] theorem State.onCellsTrain_kept : ∀ a0 a1 a2, (State.onCellsTrain a0 a1 a2).kept = a2.kept := by intros; simp only [State.onCellsTrain]; (repeat' split) <;> simp
@[simp] theorem State.noteFirst_kept : ∀ a0 a1, (State.noteFirst a0 a1).kept = a1.kept := by intros; simp [State.noteFirst]
@[simp] theorem State.onTempsTrain_kept : ∀ a0 a1 a2, (State.onTempsTrain a0 a1 a2).kept = a2.kept := by intros; simp [State.onTempsTrain]
@[simp] theorem State.onHousekeepingTrain_kept : ∀ a0 a1 a2, (State.onHousekeepingTrain a0 a1 a2).kept = a2.kept := by
  intro l a s
  have h := pair_foldl_kept (fun (b : State × Bool) p =>
    let c := b.1.checkHousekeeping l p.1 (b.1.sumAt l p.1 a.flight.sentAt) p.2.data
    (c.1, b.2 && c.2)) (fun p q => by simp) a.taken (s, true)
  simp only [State.onHousekeepingTrain, kept_ite, State.noteFirst_kept, State.modDiag_kept]
  simp only [h, ite_self]
@[simp] theorem State.onBalanceTrain_kept : ∀ a0 a1 a2, (State.onBalanceTrain a0 a1 a2).kept = a2.kept := by intros; simp [State.onBalanceTrain]
@[simp] theorem State.onOpenWireTrain_kept : ∀ a0 a1 a2, (State.onOpenWireTrain a0 a1 a2).kept = a2.kept := by intros; simp [State.onOpenWireTrain]
@[simp] theorem State.onSwitchTrain_kept : ∀ a0 a1 a2, (State.onSwitchTrain a0 a1 a2).kept = a2.kept := by intros; simp [State.onSwitchTrain]
@[simp] theorem State.layupPersist_kept : ∀ a0, (State.layupPersist a0).kept = a0.kept := by intros; simp [State.layupPersist]
@[simp] theorem State.onSleepTrain_kept : ∀ a0 a1 a2, (State.onSleepTrain a0 a1 a2).kept = a2.kept := by intros; simp [State.onSleepTrain]
@[simp] theorem State.onCodeRunTrain_kept : ∀ a0 a1 a2, (State.onCodeRunTrain a0 a1 a2).kept = a2.kept := by intros; simp [State.onCodeRunTrain]
@[simp] theorem State.keepStatuses_kept : ∀ a0 a1 a2, (State.keepStatuses a0 a1 a2).kept = a2.kept := by intros; simp [State.keepStatuses]
@[simp] theorem State.takeArrival_kept : ∀ a0 a1 a2, (State.takeArrival a0 a1 a2).kept = a2.kept := by intros; simp only [State.takeArrival]; (repeat' split) <;> simp
@[simp] theorem State.latchTrains_kept : ∀ a0, (State.latchTrains a0).kept = a0.kept := by intros; simp [State.latchTrains]
@[simp] theorem State.takeTrain_kept : ∀ a0 a1 a2, (State.takeTrain a0 a1 a2).kept = a2.kept := by intros; simp only [State.takeTrain]; (repeat' split) <;> simp
@[simp] theorem State.takeSealedTrain_kept : ∀ a0 a1, (State.takeSealedTrain a0 a1).kept = a1.kept := by intros; simp only [State.takeSealedTrain]; (repeat' split) <;> simp
@[simp] theorem State.retryFrame_kept : ∀ a0 a1 a2 a3, (State.retryFrame a0 a1 a2 a3).kept = a3.kept := by intros; simp [State.retryFrame]
@[simp] theorem State.freeEnd_kept : ∀ a0 a1 a2, (State.freeEnd a0 a1 a2).kept = a2.kept := by intros; simp [State.freeEnd]
@[simp] theorem State.arrive_kept : ∀ a0 a1 a2 a3 a4 a5 a6 a7 a8, (State.arrive a0 a1 a2 a3 a4 a5 a6 a7 a8).kept = a8.kept := by intros; simp [State.arrive]
@[simp] theorem State.goodTrain_kept : ∀ a0 a1 a2 a3 a4, (State.goodTrain a0 a1 a2 a3 a4).kept = a4.kept := by intros; simp [State.goodTrain]
@[simp] theorem State.lostTrain_kept : ∀ a0 a1 a2 a3 a4, (State.lostTrain a0 a1 a2 a3 a4).kept = a4.kept := by intros; simp [State.lostTrain]
@[simp] theorem State.trainBack_kept : ∀ a0 a1 a2 a3, (State.trainBack a0 a1 a2 a3).kept = a3.kept := by intros; simp only [State.trainBack]; (repeat' split) <;> simp
@[simp] theorem execTrainReturned_kept : ∀ a0 a1 a2 a3, Keeps (execTrainReturned a0 a1 a2 a3) a3 := by intros; simp only [execTrainReturned]; (repeat' split) <;> simp
@[simp] theorem execTrainReturnTimeout_kept : ∀ a0 a1 a2, Keeps (execTrainReturnTimeout a0 a1 a2) a2 := by intros; simp only [execTrainReturnTimeout]; (repeat' split) <;> simp
@[simp] theorem State.modChain_kept : ∀ a0 a1 a2 a3, (State.modChain a0 a1 a2 a3).kept = a3.kept := by intros; rfl
@[simp] theorem execStationConversion_kept : ∀ a0 a1 a2 a3 a4 a5 a6, Keeps (execStationConversion a0 a1 a2 a3 a4 a5 a6) a6 := by intros; rfl
@[simp] theorem execStationTestEnd_kept : ∀ a0 a1 a2 a3 a4 a5, Keeps (execStationTestEnd a0 a1 a2 a3 a4 a5) a5 := by intros; rfl
@[simp] theorem execStationBalanceExpiry_kept : ∀ a0 a1 a2, Keeps (execStationBalanceExpiry a0 a1 a2) a2 := by intros; rfl
@[simp] theorem execStationCodeEccError_kept : ∀ a0 a1 a2 a3, Keeps (execStationCodeEccError a0 a1 a2 a3) a3 := by intros; rfl
@[simp] theorem execStationFrameTimeout_kept : ∀ a0 a1 a2, Keeps (execStationFrameTimeout a0 a1 a2) a2 := by intros; rfl
@[simp] theorem execStationSleepCheck_kept : ∀ a0 a1 a2 a3 a4, Keeps (execStationSleepCheck a0 a1 a2 a3 a4) a4 := by intros; rfl
@[simp] theorem execStationToneLost_kept : ∀ a0 a1 a2 a3, Keeps (execStationToneLost a0 a1 a2 a3) a3 := by intros; simp [execStationToneLost]
@[simp] theorem execStationToneQualified_kept : ∀ a0 a1 a2 a3, Keeps (execStationToneQualified a0 a1 a2 a3) a3 := by intros; rfl
@[simp] theorem execStationPowerUp_kept : ∀ a0 a1 a2 a3 a4 a5, Keeps (execStationPowerUp a0 a1 a2 a3 a4 a5) a5 := by intros; rfl
@[simp] theorem execStationQuietWindowEnd_kept : ∀ a0 a1 a2, Keeps (execStationQuietWindowEnd a0 a1 a2) a2 := by intros; rfl
@[simp] theorem execToneLoss_kept : ∀ a0 a1, Keeps (execToneLoss a0 a1) a1 := by intros; simp [execToneLoss]
@[simp] theorem execToneReturn_kept : ∀ a0 a1, Keeps (execToneReturn a0 a1) a1 := by intros; rfl
@[simp] theorem execSplitModeEntry_kept : ∀ a0 a1, Keeps (execSplitModeEntry a0 a1) a1 := by intros; simp [execSplitModeEntry]
@[simp] theorem execSplitReflectWait_kept : ∀ a0 a1, Keeps (execSplitReflectWait a0 a1) a1 := by intros; simp [execSplitReflectWait]
@[simp] theorem execLoopModeReturn_kept : ∀ a0 a1, Keeps (execLoopModeReturn a0 a1) a1 := by intros; simp [execLoopModeReturn]

@[simp] theorem State.modDir_kept : ∀ a0 a1 a2, (State.modDir a0 a1 a2).kept = a2.kept := by intros; simp only [State.modDir]; (repeat' split) <;> simp
@[simp] theorem execBaselineFlitSend_kept : ∀ a0 a1, Keeps (execBaselineFlitSend a0 a1) a1 := by intros; simp [execBaselineFlitSend]
@[simp] theorem execBaselineFlitReceived_kept : ∀ a0 a1 a2, Keeps (execBaselineFlitReceived a0 a1 a2) a2 := by intros; simp only [execBaselineFlitReceived]; (repeat' split) <;> simp
@[simp] theorem State.deliver_kept : ∀ a0 a1, (State.deliver a0 a1).kept = a1.kept := by intros; simp only [State.deliver]; (repeat' split) <;> simp
@[simp] theorem execBaselineFlitRelease_kept : ∀ a0 a1 a2, Keeps (execBaselineFlitRelease a0 a1 a2) a2 := by intros; simp only [execBaselineFlitRelease]; (repeat' split) <;> simp
@[simp] theorem execBaselineNakReceived_kept : ∀ a0 a1 a2, Keeps (execBaselineNakReceived a0 a1 a2) a2 := by intros; simp [execBaselineNakReceived]
@[simp] theorem execBaselineLaneLock_kept : ∀ a0 a1 a2 a3, Keeps (execBaselineLaneLock a0 a1 a2 a3) a3 := by intros; simp only [execBaselineLaneLock]; (repeat' split) <;> simp
@[simp] theorem execBaselineUp_kept : ∀ a0, Keeps (execBaselineUp a0) a0 := by intros; simp [execBaselineUp]
@[simp] theorem State.dropPermit_kept : ∀ a0, (State.dropPermit a0).kept = a0.kept := by intros; simp [State.dropPermit]
@[simp] theorem State.endAutonomy_kept : ∀ a0, (State.endAutonomy a0).kept = a0.kept := by intros; simp [State.endAutonomy]
@[simp] theorem execBaselineLossField_kept : ∀ a0, Keeps (execBaselineLossField a0) a0 := by intros; simp [execBaselineLossField]
@[simp] theorem execAutonomyPermitDrop_kept : ∀ a0, Keeps (execAutonomyPermitDrop a0) a0 := by intros; simp [execAutonomyPermitDrop]
@[simp] theorem State.autonomyBoundary_kept : ∀ a0, (State.autonomyBoundary a0).kept = a0.kept := by intros; simp [State.autonomyBoundary]
@[simp] theorem execBaselineLossCore_kept : ∀ a0, Keeps (execBaselineLossCore a0) a0 := by intros; simp [execBaselineLossCore]
@[simp] theorem execBaselineLossHoldExpiry_kept : ∀ a0, Keeps (execBaselineLossHoldExpiry a0) a0 := by intros; simp [execBaselineLossHoldExpiry]
@[simp] theorem execMemoryEccCorrected_kept : ∀ a0 a1, Keeps (execMemoryEccCorrected a0 a1) a1 := by intros; rfl
@[simp] theorem State.coreMemoryError_kept : ∀ a0, (State.coreMemoryError a0).kept = a0.kept := by intros; simp [State.coreMemoryError]
@[simp] theorem State.discardTrains_kept : ∀ a0 a1, (State.discardTrains a0 a1).kept = a1.kept := by intros; simp only [State.discardTrains]; (repeat' split) <;> simp
@[simp] theorem execMemoryEccUncorrectable_kept : ∀ a0 a1, Keeps (execMemoryEccUncorrectable a0 a1) a1 := by intros; simp only [execMemoryEccUncorrectable]; (repeat' split) <;> simp

@[simp] theorem State.modSupply_kept : ∀ a0 a1, (State.modSupply a0 a1).kept = a1.kept := by intros; rfl
@[simp] theorem State.modReq_kept : ∀ a0 a1, (State.modReq a0 a1).kept = a1.kept := by intros; rfl
@[simp] theorem State.setSupply_kept : ∀ a0 a1, (State.setSupply a0 a1).kept = a1.kept := by intros; rfl
@[simp] theorem State.wakeBy_kept : ∀ a0 a1 a2, (State.wakeBy a0 a1 a2).kept = a2.kept := by intros; simp [State.wakeBy]
@[simp] theorem State.noteTransfer_kept : ∀ a0, (State.noteTransfer a0).kept = a0.kept := by intros; simp [State.noteTransfer]
@[simp] theorem State.select_kept : ∀ a0 a1 a2, (State.select a0 a1 a2).kept = a1.kept := by intros; simp [State.select]
@[simp] theorem execPowerOnRelease_kept : ∀ a0 a1, Keeps (execPowerOnRelease a0 a1) a1 := by intros; simp [execPowerOnRelease]
@[simp] theorem execBrownOut_kept : ∀ a0 a1, Keeps (execBrownOut a0 a1) a1 := by intros; simp [execBrownOut]
@[simp] theorem execSupplySwitchToVback_kept : ∀ a0 a1, Keeps (execSupplySwitchToVback a0 a1) a1 := by intros; simp [execSupplySwitchToVback]
@[simp] theorem execVmainReturn_kept : ∀ a0 a1, Keeps (execVmainReturn a0 a1) a1 := by intros; simp [execVmainReturn]
@[simp] theorem execVbackFailReturn_kept : ∀ a0 a1, Keeps (execVbackFailReturn a0 a1) a1 := by intros; simp [execVbackFailReturn]
@[simp] theorem execSupplyLowExit_kept : ∀ a0 a1, Keeps (execSupplyLowExit a0 a1) a1 := by intros; simp [execSupplyLowExit]
@[simp] theorem execRailOverload_kept : ∀ a0 a1, Keeps (execRailOverload a0 a1) a1 := by intros; rfl
@[simp] theorem execRailOverloadEnd_kept : ∀ a0 a1, Keeps (execRailOverloadEnd a0 a1) a1 := by intros; rfl
@[simp] theorem State.dropPlant_kept : ∀ a0, (State.dropPlant a0).kept = a0.kept := by intros; simp [State.dropPlant]
@[simp] theorem execWatchdogExpiry_kept : ∀ a0, Keeps (execWatchdogExpiry a0) a0 := by intros; simp [execWatchdogExpiry]
@[simp] theorem execResetreqArm_kept : ∀ a0, Keeps (execResetreqArm a0) a0 := by intros; simp [execResetreqArm]
@[simp] theorem execResetreqFallingEdge_kept : ∀ a0, Keeps (execResetreqFallingEdge a0) a0 := by intros; rfl
@[simp] theorem execResetreqRisingEdge_kept : ∀ a0, Keeps (execResetreqRisingEdge a0) a0 := by intros; rfl
@[simp] theorem execResetreqReset_kept : ∀ a0, Keeps (execResetreqReset a0) a0 := by intros; simp [execResetreqReset]
@[simp] theorem execResetreqStuck_kept : ∀ a0, Keeps (execResetreqStuck a0) a0 := by intros; simp [execResetreqStuck]
@[simp] theorem execResetreqStuckRearm_kept : ∀ a0, Keeps (execResetreqStuckRearm a0) a0 := by intros; simp [execResetreqStuckRearm]
@[simp] theorem execRefclkLoss_kept : ∀ a0, Keeps (execRefclkLoss a0) a0 := by intros; simp [execRefclkLoss]
@[simp] theorem execRefclkReturn_kept : ∀ a0, Keeps (execRefclkReturn a0) a0 := by intros; simp [execRefclkReturn]
@[simp] theorem State.sendSleep_kept : ∀ a0 a1, (State.sendSleep a0 a1).kept = a1.kept := by intros; simp [State.sendSleep]
@[simp] theorem execWakeInEdge_kept : ∀ a0, Keeps (execWakeInEdge a0) a0 := by intros; simp [execWakeInEdge]
@[simp] theorem execWakeTone_kept : ∀ a0 a1, Keeps (execWakeTone a0 a1) a1 := by intros; simp [execWakeTone]
@[simp] theorem execWakeTimerExpiry_kept : ∀ a0, Keeps (execWakeTimerExpiry a0) a0 := by intros; simp [execWakeTimerExpiry]

@[simp] theorem State.lockComparators_kept : ∀ a0, (State.lockComparators a0).kept = a0.kept := by intros; rfl
@[simp] theorem State.takeNtc_kept : ∀ a0, (State.takeNtc a0).kept = a0.kept := by intros; rfl
@[simp] theorem execNtcFault_kept : ∀ a0 a1 a2, Keeps (execNtcFault a0 a1 a2) a2 := by intros; simp [execNtcFault]
@[simp] theorem execNtcFaultClear_kept : ∀ a0 a1, Keeps (execNtcFaultClear a0 a1) a1 := by intros; rfl
@[simp] theorem State.warnNote_kept : ∀ a0 a1 a2 a3 a4 a5, (State.warnNote a0 a1 a2 a3 a4 a5).kept = a5.kept := by intros; simp [State.warnNote]
@[simp] theorem State.thermalThresholds_kept : ∀ a0, (State.thermalThresholds a0).kept = a0.kept := by intros; simp [State.thermalThresholds]
@[simp] theorem execStageThermalTrip_kept : ∀ a0 a1 a2, Keeps (execStageThermalTrip a0 a1 a2) a2 := by intros; simp [execStageThermalTrip]
@[simp] theorem execStageThermalRelease_kept : ∀ a0 a1, Keeps (execStageThermalRelease a0 a1) a1 := by intros; simp [execStageThermalRelease]
@[simp] theorem execDieThermalShutdown_kept : ∀ a0 a1 a2, Keeps (execDieThermalShutdown a0 a1 a2) a2 := by intros; simp [execDieThermalShutdown]
@[simp] theorem execDieShutdownRelease_kept : ∀ a0, Keeps (execDieShutdownRelease a0) a0 := by intros; simp [execDieShutdownRelease]
@[simp] theorem State.holdValve_kept : ∀ a0 a1 a2, (State.holdValve a0 a1 a2).kept = a2.kept := by intros; simp [State.holdValve]
@[simp] theorem State.valveCommand_kept : ∀ a0 a1 a2, (State.valveCommand a0 a1 a2).kept = a2.kept := by intros; rfl
@[simp] theorem State.valveLoop_kept : ∀ a0 a1, (State.valveLoop a0 a1).kept = a1.kept := by intros; simp only [State.valveLoop]; (repeat' split) <;> simp
@[simp] theorem execValveLoop_kept : ∀ a0, Keeps (execValveLoop a0) a0 := by intros; simp [execValveLoop]
@[simp] theorem State.startValves_kept : ∀ a0, (State.startValves a0).kept = a0.kept := by intros; rfl
@[simp] theorem State.setFans_kept : ∀ a0, (State.setFans a0).kept = a0.kept := by intros; rfl
@[simp] theorem execFanPwmPeriod_kept : ∀ a0 a1, Keeps (execFanPwmPeriod a0 a1) a1 := by intros; simp only [execFanPwmPeriod]; (repeat' split) <;> simp
@[simp] theorem execTachEdge_kept : ∀ a0 a1, Keeps (execTachEdge a0 a1) a1 := by intros; rfl
@[simp] theorem State.countTach_kept : ∀ a0 a1, (State.countTach a0 a1).kept = a1.kept := by intros; simp [State.countTach]
@[simp] theorem execFanFault_kept : ∀ a0 a1, Keeps (execFanFault a0 a1) a1 := by intros; simp [execFanFault]
@[simp] theorem execFanFaultClear_kept : ∀ a0 a1, Keeps (execFanFaultClear a0 a1) a1 := by intros; simp [execFanFaultClear]

@[simp] theorem State.becomeActive_kept : ∀ a0, (State.becomeActive a0).kept = a0.kept := by intros; simp [State.becomeActive]
@[simp] theorem State.becomeStandby_kept : ∀ a0 a1 a2, (State.becomeStandby a0 a1 a2).kept = a2.kept := by intros; rfl
@[simp] theorem execTwinRoleDecision_kept : ∀ a0 a1 a2, Keeps (execTwinRoleDecision a0 a1 a2) a2 := by intros; simp [execTwinRoleDecision]
@[simp] theorem execTwinStartWaitExpiry_kept : ∀ a0 a1, Keeps (execTwinStartWaitExpiry a0 a1) a1 := by intros; simp [execTwinStartWaitExpiry]
@[simp] theorem State.freeRate_kept : ∀ a0, (State.freeRate a0).kept = a0.kept := by intros; rfl
@[simp] theorem State.alignRate_kept : ∀ a0 a1, (State.alignRate a0 a1).kept = a1.kept := by intros; simp [State.alignRate]
@[simp] theorem State.alignTo_kept : ∀ a0 a1, (State.alignTo a0 a1).kept = a1.kept := by intros; simp [State.alignTo]
@[simp] theorem State.peerStatus_kept : ∀ a0 a1, (State.peerStatus a0 a1).kept = a1.kept := by intros; simp [State.peerStatus]
@[simp] theorem State.endTwinTrial_kept : ∀ a0 a1, (State.endTwinTrial a0 a1).kept = a1.kept := by intros; simp only [State.endTwinTrial]; (repeat' split) <;> simp
@[simp] theorem State.requestFrame_kept : ∀ a0 a1 a2 a3 a4, (State.requestFrame a0 a1 a2 a3 a4).kept = a4.kept := by intros; simp [State.requestFrame]
@[simp] theorem State.twinMessage_kept : ∀ a0 a1, (State.twinMessage a0 a1).kept = a1.kept := by intros; simp only [State.twinMessage]; (repeat' split) <;> simp
@[simp] theorem execBacksightFlitReceived_kept : ∀ a0 a1 a2 a3 a4 a5 a6, Keeps (execBacksightFlitReceived a0 a1 a2 a3 a4 a5 a6) a6 := by intros; simp [execBacksightFlitReceived]
@[simp] theorem execBacksightFlitSend_kept : ∀ a0, Keeps (execBacksightFlitSend a0) a0 := by intros; simp only [execBacksightFlitSend]; (repeat' split) <;> simp
@[simp] theorem execBacksightUp_kept : ∀ a0 a1 a2 a3 a4, Keeps (execBacksightUp a0 a1 a2 a3 a4) a4 := by intros; simp [execBacksightUp]
@[simp] theorem execBacksightSilence_kept : ∀ a0, Keeps (execBacksightSilence a0) a0 := by intros; simp [execBacksightSilence]
@[simp] theorem execPeerAliveLost_kept : ∀ a0, Keeps (execPeerAliveLost a0) a0 := by intros; simp [execPeerAliveLost]
@[simp] theorem execStandbyCleStart_kept : ∀ a0, Keeps (execStandbyCleStart a0) a0 := by intros; simp only [execStandbyCleStart]; (repeat' split) <;> simp
@[simp] theorem execSealBundleLate_kept : ∀ a0, Keeps (execSealBundleLate a0) a0 := by intros; simp [execSealBundleLate]
@[simp] theorem execTwinSampleCompare_kept : ∀ a0, Keeps (execTwinSampleCompare a0) a0 := by intros; simp only [execTwinSampleCompare]; (repeat' split) <;> simp
@[simp] theorem execTwinFrameCompare_kept : ∀ a0, Keeps (execTwinFrameCompare a0) a0 := by intros; simp only [execTwinFrameCompare]; (repeat' split) <;> simp
@[simp] theorem execTwinRecomputeComplete_kept : ∀ a0 a1, Keeps (execTwinRecomputeComplete a0 a1) a1 := by intros; simp [execTwinRecomputeComplete]
@[simp] theorem execTwinVerdictReceived_kept : ∀ a0 a1, Keeps (execTwinVerdictReceived a0 a1) a1 := by intros; simp [execTwinVerdictReceived]
@[simp] theorem execTwinVerdictTimeout_kept : ∀ a0, Keeps (execTwinVerdictTimeout a0) a0 := by intros; simp [execTwinVerdictTimeout]
@[simp] theorem execTakeoverSwitch_kept : ∀ a0, Keeps (execTakeoverSwitch a0) a0 := by intros; simp [execTakeoverSwitch]
@[simp] theorem execForceoffAssert_kept : ∀ a0, Keeps (execForceoffAssert a0) a0 := by intros; simp [execForceoffAssert]
@[simp] theorem execForceoffRelease_kept : ∀ a0, Keeps (execForceoffRelease a0) a0 := by intros; simp [execForceoffRelease]
@[simp] theorem execJoinRequest_kept : ∀ a0, Keeps (execJoinRequest a0) a0 := by intros; simp only [execJoinRequest]; (repeat' split) <;> simp
@[simp] theorem execJoinBlockReceived_kept : ∀ a0 a1 a2, Keeps (execJoinBlockReceived a0 a1 a2) a2 := by intros; simp [execJoinBlockReceived]
@[simp] theorem execJoinConverged_kept : ∀ a0, Keeps (execJoinConverged a0) a0 := by intros; simp [execJoinConverged]
@[simp] theorem State.takeJoin_kept : ∀ a0 a1, (State.takeJoin a0 a1).kept = a1.kept := by intros; rfl
@[simp] theorem execJoinComplete_kept : ∀ a0 a1, Keeps (execJoinComplete a0 a1) a1 := by intros; simp [execJoinComplete]
@[simp] theorem execJoinTimeout_kept : ∀ a0, Keeps (execJoinTimeout a0) a0 := by intros; simp [execJoinTimeout]
@[simp] theorem State.beginSwap_kept : ∀ a0, (State.beginSwap a0).kept = a0.kept := by intros; rfl
@[simp] theorem execSwapBoundary_kept : ∀ a0, Keeps (execSwapBoundary a0) a0 := by intros; simp [execSwapBoundary]
@[simp] theorem execTwinGraceExpiry_kept : ∀ a0, Keeps (execTwinGraceExpiry a0) a0 := by intros; simp [execTwinGraceExpiry]

@[simp] theorem State.modPtp_kept : ∀ a0 a1, (State.modPtp a0 a1).kept = a1.kept := by intros; rfl
@[simp] theorem State.nextSample_kept : ∀ a0, (State.nextSample a0).kept = a0.kept := by intros; simp [State.nextSample]
@[simp] theorem execSampleBoundary_kept : ∀ a0, Keeps (execSampleBoundary a0) a0 := by intros; simp [execSampleBoundary]
@[simp] theorem State.finishFrame_kept : ∀ n s, (State.finishFrame n s).kept = s.kept
  | 0, _ => rfl
  | n + 1, s => (State.finishFrame_kept n _).trans (State.nextSample_kept s)
@[simp] theorem State.loseSyncin_kept : ∀ a0, (State.loseSyncin a0).kept = a0.kept := by intros; simp [State.loseSyncin]
@[simp] theorem State.countSyncin_kept : ∀ a0 a1, (State.countSyncin a0 a1).kept = a1.kept := by intros; simp only [State.countSyncin]; (repeat' split) <;> simp
@[simp] theorem execSyncinEdge_kept : ∀ a0 a1, Keeps (execSyncinEdge a0 a1) a1 := by intros; simp only [execSyncinEdge]; (repeat' split) <;> simp
@[simp] theorem execSyncinLoss_kept : ∀ a0, Keeps (execSyncinLoss a0) a0 := by intros; simp [execSyncinLoss]
@[simp] theorem execPpsOutSecond_kept : ∀ a0, Keeps (execPpsOutSecond a0) a0 := by intros; simp [execPpsOutSecond]
@[simp] theorem execPpsInEdge_kept : ∀ a0 a1, Keeps (execPpsInEdge a0 a1) a1 := by intros; rfl
@[simp] theorem State.selectMaster_kept : ∀ a0, (State.selectMaster a0).kept = a0.kept := by intros; simp [State.selectMaster]
@[simp] theorem execPtpAnnounceReceived_kept : ∀ a0 a1, Keeps (execPtpAnnounceReceived a0 a1) a1 := by intros; simp [execPtpAnnounceReceived]
@[simp] theorem execPtpSyncReceived_kept : ∀ a0 a1 a2 a3 a4 a5, Keeps (execPtpSyncReceived a0 a1 a2 a3 a4 a5) a5 := by intros; simp [execPtpSyncReceived]
@[simp] theorem State.timeRecord_kept : ∀ a0 a1 a2, (State.timeRecord a0 a1 a2).kept = a2.kept := by intros; rfl
@[simp] theorem State.stepToTai_kept : ∀ a0 a1, (State.stepToTai a0 a1).kept = a1.kept := by intros; rfl
@[simp] theorem State.judgeLock_kept : ∀ a0 a1, (State.judgeLock a0 a1).kept = a1.kept := by intros; simp [State.judgeLock]
@[simp] theorem State.discipline_kept : ∀ a0 a1, (State.discipline a0 a1).kept = a1.kept := by intros; simp [State.discipline]
@[simp] theorem execPtpFollowUpReceived_kept : ∀ a0 a1 a2 a3 a4 a5, Keeps (execPtpFollowUpReceived a0 a1 a2 a3 a4 a5) a5 := by intros; simp only [execPtpFollowUpReceived]; (repeat' split) <;> simp
@[simp] theorem execPtpDelayReqSend_kept : ∀ a0 a1, Keeps (execPtpDelayReqSend a0 a1) a1 := by intros; simp [execPtpDelayReqSend]
@[simp] theorem execPtpDelayRespReceived_kept : ∀ a0 a1 a2 a3 a4 a5, Keeps (execPtpDelayRespReceived a0 a1 a2 a3 a4 a5) a5 := by intros; simp only [execPtpDelayRespReceived]; (repeat' split) <;> simp
@[simp] theorem execPtpSyncTimeout_kept : ∀ a0, Keeps (execPtpSyncTimeout a0) a0 := by intros; simp [execPtpSyncTimeout]
@[simp] theorem execPtpMasterTimeout_kept : ∀ a0 a1 a2, Keeps (execPtpMasterTimeout a0 a1 a2) a2 := by intros; simp [execPtpMasterTimeout]
@[simp] theorem execPtpPortFailover_kept : ∀ a0, Keeps (execPtpPortFailover a0) a0 := by intros; simp [execPtpPortFailover]

@[simp] theorem State.modCan_kept : ∀ a0 a1 a2, (State.modCan a0 a1 a2).kept = a2.kept := by intros; rfl
@[simp] theorem State.canRecord_kept : ∀ a0 a1 a2 a3 a4 a5, (State.canRecord a0 a1 a2 a3 a4 a5).kept = a5.kept := by intros; rfl
@[simp] theorem State.canRefill_kept : ∀ a0 a1, (State.canRefill a0 a1).kept = a1.kept := by intros; rfl
@[simp] theorem State.canQueue_kept : ∀ a0 a1 a2, (State.canQueue a0 a1 a2).kept = a2.kept := by intros; simp [State.canQueue]
@[simp] theorem State.canDrained_kept : ∀ a0 a1, (State.canDrained a0 a1).kept = a1.kept := by intros; rfl
@[simp] theorem State.canErr_kept : ∀ a0 a1, (State.canErr a0 a1).kept = a1.kept := by intros; simp [State.canErr]
@[simp] theorem State.nextRate_kept : ∀ a0 a1, (State.nextRate a0 a1).kept = a1.kept := by intros; rfl
@[simp] theorem State.canErrEnds_kept : ∀ a0 a1, (State.canErrEnds a0 a1).kept = a1.kept := by intros; simp [State.canErrEnds]
@[simp] theorem State.canStart_kept : ∀ a0 a1, (State.canStart a0 a1).kept = a1.kept := by intros; simp [State.canStart]
@[simp] theorem State.canEnable_kept : ∀ a0 a1 a2, (State.canEnable a0 a1 a2).kept = a2.kept := by intros; simp [State.canEnable]
@[simp] theorem State.canBoundary_kept : ∀ a0 a1, (State.canBoundary a0 a1).kept = a1.kept := by intros; simp [State.canBoundary]
@[simp] theorem State.acceptRate_kept : ∀ a0 a1, (State.acceptRate a0 a1).kept = a1.kept := by intros; rfl
@[simp] theorem execCanFrameReceived_kept : ∀ a0 a1 a2 a3 a4, Keeps (execCanFrameReceived a0 a1 a2 a3 a4) a4 := by intros; simp [execCanFrameReceived]
@[simp] theorem execCanRxError_kept : ∀ a0 a1 a2, Keeps (execCanRxError a0 a1 a2) a2 := by intros; simp [execCanRxError]
@[simp] theorem execCanRateDwellExpiry_kept : ∀ a0 a1, Keeps (execCanRateDwellExpiry a0 a1) a1 := by intros; simp [execCanRateDwellExpiry]
@[simp] theorem execCanArbitrationStart_kept : ∀ a0 a1, Keeps (execCanArbitrationStart a0 a1) a1 := by intros; simp only [execCanArbitrationStart]; (repeat' split) <;> simp
@[simp] theorem execCanTxComplete_kept : ∀ a0 a1 a2, Keeps (execCanTxComplete a0 a1 a2) a2 := by intros; simp only [execCanTxComplete]; (repeat' split) <;> simp
@[simp] theorem execCanTxError_kept : ∀ a0 a1 a2, Keeps (execCanTxError a0 a1 a2) a2 := by intros; simp only [execCanTxError]; (repeat' split) <;> simp
@[simp] theorem execCanBusOffRecovery_kept : ∀ a0 a1, Keeps (execCanBusOffRecovery a0 a1) a1 := by intros; simp [execCanBusOffRecovery]
@[simp] theorem State.canSeal_kept : ∀ a0 a1, (State.canSeal a0 a1).kept = a1.kept := by intros; simp [State.canSeal]
@[simp] theorem State.applyEntry_kept : ∀ a0 a1 a2 a3 a4, (State.applyEntry a0 a1 a2 a3 a4).kept = a4.kept := by intros; simp [State.applyEntry]
@[simp] theorem State.applyFrame_kept : ∀ a0 a1 a2, (State.applyFrame a0 a1 a2).kept = a2.kept := by intros; simp [State.applyFrame]
@[simp] theorem State.disarm_kept : ∀ a0, (State.disarm a0).kept = a0.kept := by intros; simp [State.disarm]
@[simp] theorem State.judgeEntry_kept : ∀ a0 a1 a2 a3, (State.judgeEntry a0 a1 a2 a3).kept = a3.kept := by intros; simp [State.judgeEntry]
@[simp] theorem State.canMapApply_kept : ∀ a0, (State.canMapApply a0).kept = a0.kept := by intros; simp [State.canMapApply]
@[simp] theorem execCanMapTimeout_kept : ∀ a0 a1 a2, Keeps (execCanMapTimeout a0 a1 a2) a2 := by intros; simp only [execCanMapTimeout]; (repeat' split) <;> simp
@[simp] theorem execCanTxMapSend_kept : ∀ a0 a1 a2, Keeps (execCanTxMapSend a0 a1 a2) a2 := by intros; simp only [execCanTxMapSend]; (repeat' split) <;> simp
@[simp] theorem State.sendMessage_kept : ∀ a0 a1 a2, (State.sendMessage a0 a1 a2).kept = a2.kept := by intros; simp [State.sendMessage]
@[simp] theorem execCanStatusSetSend_kept : ∀ a0 a1, Keeps (execCanStatusSetSend a0 a1) a1 := by intros; simp [execCanStatusSetSend]
@[simp] theorem State.canChanges_kept : ∀ a0, (State.canChanges a0).kept = a0.kept := by intros; simp [State.canChanges]
@[simp] theorem State.canLoad_kept : ∀ a0 a1 a2 a3 a4, (State.canLoad a0 a1 a2 a3 a4).2.kept = a4.kept := by intros; simp only [State.canLoad]; (repeat' split) <;> simp
@[simp] theorem State.canAbort_kept : ∀ a0 a1 a2, (State.canAbort a0 a1 a2).2.kept = a2.kept := by intros; simp only [State.canAbort]; (repeat' split) <;> simp

theorem State.clearOnes_kept (a0 a1 : Nat) (a2 : State) : ∀ t, State.clearOnes a0 a1 a2 = some t → t.kept = a2.kept := by
  unfold State.clearOnes; dsimp only
  repeat' apply optKept_ite
  all_goals first | (refine optKept_some ?_; simp only [kept_mk, kept_fold, State.modRing_kept, State.modCan_kept]; done) | (intro t h; cases h)
@[simp] theorem State.acceptWrite_kept : ∀ a0 a1 a2 a3, (State.acceptWrite a0 a1 a2 a3).kept = a3.kept := by
  intro a0 a1 a2 a3
  unfold State.acceptWrite; split
  · rename_i t h; exact State.clearOnes_kept _ _ _ t h
  · rfl
@[simp] theorem State.hostWrite_kept : ∀ a0 a1 a2 a3, (State.hostWrite a0 a1 a2 a3).kept = a3.kept := by intros; simp [State.hostWrite]
@[simp] theorem State.setBalEnable_kept : ∀ a0 a1, (State.setBalEnable a0 a1).kept = a1.kept := by intros; simp [State.setBalEnable]
@[simp] theorem State.setProbeEnable_kept : ∀ a0 a1, (State.setProbeEnable a0 a1).kept = a1.kept := by intros; simp [State.setProbeEnable]
@[simp] theorem State.setUpdateEnable_kept : ∀ a0 a1, (State.setUpdateEnable a0 a1).kept = a1.kept := by intros; rfl
@[simp] theorem State.setBistEnable_kept : ∀ a0 a1, (State.setBistEnable a0 a1).kept = a1.kept := by intros; rfl
@[simp] theorem State.applyWrite_kept : ∀ a0 a1 a2 a3, (State.applyWrite a0 a1 a2 a3).kept = a3.kept := by intros; simp [State.applyWrite]
@[simp] theorem State.applyWrites_kept : ∀ a0, (State.applyWrites a0).kept = a0.kept := by intros; simp [State.applyWrites]
@[simp] theorem execObjectWrite_kept : ∀ a0 a1 a2 a3, Keeps (execObjectWrite a0 a1 a2 a3) a3 := by intros; simp [execObjectWrite]
@[simp] theorem execSyncPhaseWrite_kept : ∀ a0 a1, Keeps (execSyncPhaseWrite a0 a1) a1 := by intros; simp [execSyncPhaseWrite]
@[simp] theorem execSyncinEnableWrite_kept : ∀ a0 a1, Keeps (execSyncinEnableWrite a0 a1) a1 := by intros; simp [execSyncinEnableWrite]
@[simp] theorem execBalEnableWrite_kept : ∀ a0 a1, Keeps (execBalEnableWrite a0 a1) a1 := by intros; simp [execBalEnableWrite]
@[simp] theorem execProbeEnableWrite_kept : ∀ a0 a1, Keeps (execProbeEnableWrite a0 a1) a1 := by intros; simp [execProbeEnableWrite]
@[simp] theorem execBankSelectWrite_kept : ∀ a0 a1 a2, Keeps (execBankSelectWrite a0 a1 a2) a2 := by intros; simp [execBankSelectWrite]
@[simp] theorem execAxTargetWrite_kept : ∀ a0 a1 a2, Keeps (execAxTargetWrite a0 a1 a2) a2 := by intros; simp [execAxTargetWrite]
@[simp] theorem execAxCommandHome_kept : ∀ a0 a1, Keeps (execAxCommandHome a0 a1) a1 := by intros; simp [execAxCommandHome]
@[simp] theorem execAxCommandStop_kept : ∀ a0 a1, Keeps (execAxCommandStop a0 a1) a1 := by intros; simp [execAxCommandStop]
@[simp] theorem execAxEnableWrite_kept : ∀ a0 a1 a2, Keeps (execAxEnableWrite a0 a1 a2) a2 := by intros; simp [execAxEnableWrite]
@[simp] theorem execCanEnableWrite_kept : ∀ a0 a1 a2, Keeps (execCanEnableWrite a0 a1 a2) a2 := by intros; simp [execCanEnableWrite]
@[simp] theorem execUpdateEnableWrite_kept : ∀ a0 a1, Keeps (execUpdateEnableWrite a0 a1) a1 := by intros; simp [execUpdateEnableWrite]
@[simp] theorem execBistEnableWrite_kept : ∀ a0 a1, Keeps (execBistEnableWrite a0 a1) a1 := by intros; simp [execBistEnableWrite]
@[simp] theorem execContactLostClear_kept : ∀ a0 a1 a2, Keeps (execContactLostClear a0 a1 a2) a2 := by intros; simp [execContactLostClear]
@[simp] theorem execTelegramDegradedClear_kept : ∀ a0 a1, Keeps (execTelegramDegradedClear a0 a1) a1 := by intros; simp [execTelegramDegradedClear]
@[simp] theorem execBaselineLostClear_kept : ∀ a0 a1, Keeps (execBaselineLostClear a0 a1) a1 := by intros; simp [execBaselineLostClear]
@[simp] theorem execTimeOverrunClear_kept : ∀ a0 a1, Keeps (execTimeOverrunClear a0 a1) a1 := by intros; simp [execTimeOverrunClear]
@[simp] theorem execSupplySwitchedClear_kept : ∀ a0 a1, Keeps (execSupplySwitchedClear a0 a1) a1 := by intros; simp [execSupplySwitchedClear]
@[simp] theorem execResetreqStuckClear_kept : ∀ a0 a1, Keeps (execResetreqStuckClear a0 a1) a1 := by intros; simp [execResetreqStuckClear]
@[simp] theorem execWarnLatchedClear_kept : ∀ a0 a1, Keeps (execWarnLatchedClear a0 a1) a1 := by intros; simp [execWarnLatchedClear]
@[simp] theorem execLearnWriteFailClear_kept : ∀ a0 a1, Keeps (execLearnWriteFailClear a0 a1) a1 := by intros; simp [execLearnWriteFailClear]
@[simp] theorem execFbQueueFullClear_kept : ∀ a0 a1, Keeps (execFbQueueFullClear a0 a1) a1 := by intros; simp [execFbQueueFullClear]
@[simp] theorem execCanStatusClear_kept : ∀ a0 a1 a2, Keeps (execCanStatusClear a0 a1 a2) a2 := by intros; simp [execCanStatusClear]

@[simp] theorem State.modNet_kept : ∀ a0 a1, (State.modNet a0 a1).kept = a1.kept := by intros; rfl
@[simp] theorem State.modLan_kept : ∀ a0 a1 a2, (State.modLan a0 a1 a2).kept = a2.kept := by intros; rfl
@[simp] theorem State.netRecord_kept : ∀ a0 a1 a2 a3 a4, (State.netRecord a0 a1 a2 a3 a4).kept = a4.kept := by intros; rfl
@[simp] theorem State.prpSend_kept : ∀ a0 a1, (State.prpSend a0 a1).kept = a1.kept := by intros; rfl
@[simp] theorem State.pollPort_kept : ∀ a0 a1 a2, (State.pollPort a0 a1 a2).kept = a2.kept := by intros; simp [State.pollPort]
@[simp] theorem execPhyPoll_kept : ∀ a0 a1, Keeps (execPhyPoll a0 a1) a1 := by intros; simp [execPhyPoll]
@[simp] theorem State.prpReceive_kept : ∀ a0 a1 a2 a3, (State.prpReceive a0 a1 a2 a3).kept = a3.kept := by intros; simp [State.prpReceive]
@[simp] theorem execEthernetFrameReceived_kept : ∀ a0 a1 a2 a3, Keeps (execEthernetFrameReceived a0 a1 a2 a3) a3 := by intros; simp [execEthernetFrameReceived]
@[simp] theorem execArpRequest_kept : ∀ a0 a1 a2 a3, Keeps (execArpRequest a0 a1 a2 a3) a3 := by intros; simp [execArpRequest]
@[simp] theorem execArpCacheExpiry_kept : ∀ a0 a1, Keeps (execArpCacheExpiry a0 a1) a1 := by intros; rfl
@[simp] theorem execIcmpEcho_kept : ∀ a0 a1, Keeps (execIcmpEcho a0 a1) a1 := by intros; simp [execIcmpEcho]
@[simp] theorem execPrpSupervisionSend_kept : ∀ a0, Keeps (execPrpSupervisionSend a0) a0 := by intros; simp [execPrpSupervisionSend]
@[simp] theorem execPrpNodeForget_kept : ∀ a0 a1, Keeps (execPrpNodeForget a0 a1) a1 := by intros; rfl
@[simp] theorem execLanDegraded_kept : ∀ a0 a1 a2, Keeps (execLanDegraded a0 a1 a2) a2 := by intros; simp [execLanDegraded]

@[simp] theorem State.modHost_kept : ∀ a0 a1, (State.modHost a0 a1).kept = a1.kept := by intros; rfl
@[simp] theorem State.modSlot_kept : ∀ a0 a1 a2, (State.modSlot a0 a1 a2).kept = a2.kept := by intros; rfl
@[simp] theorem State.respond_kept : ∀ a0 a1 a2 a3, (State.respond a0 a1 a2 a3).kept = a3.kept := by intros; rfl
@[simp] theorem State.answer_kept : ∀ a0 a1 a2 a3 a4, (State.answer a0 a1 a2 a3 a4).kept = a4.kept := by intros; simp [State.answer]
@[simp] theorem State.publish_kept : ∀ a0 a1 a2, (State.publish a0 a1 a2).kept = a2.kept := by intros; simp [State.publish]
@[simp] theorem State.refuseUnknown_kept : ∀ a0 a1 a2, (State.refuseUnknown a0 a1 a2).kept = a2.kept := by intros; simp [State.refuseUnknown]
@[simp] theorem State.respondAgain_kept : ∀ a0 a1, (State.respondAgain a0 a1).kept = a1.kept := by intros; rfl
@[simp] theorem State.forwardMessage_kept : ∀ a0 a1 a2, (State.forwardMessage a0 a1 a2).kept = a2.kept := by intros; simp [State.forwardMessage]
@[simp] theorem State.letIn_kept : ∀ a0 a1 a2 a3, (State.letIn a0 a1 a2 a3).1.kept = a3.kept := by intros; simp only [State.letIn]; (repeat' split) <;> simp
@[simp] theorem State.hostCheck_kept : ∀ a0 a1 a2, (State.hostCheck a0 a1 a2).1.kept = a2.kept := by intros; simp only [State.hostCheck]; (repeat' split) <;> simp
@[simp] theorem execHostAuthFailRecord_kept : ∀ a0, Keeps (execHostAuthFailRecord a0) a0 := by intros; simp [execHostAuthFailRecord]
@[simp] theorem State.serveRead_kept : ∀ a0 a1, (State.serveRead a0 a1).kept = a1.kept := by intros; simp only [State.serveRead]; (repeat' split) <;> simp
@[simp] theorem State.applyItem_kept : ∀ a0 a1, (State.applyItem a0 a1).kept = a1.kept := by intros; simp [State.applyItem]
@[simp] theorem State.serveWrite_kept : ∀ a0 a1, (State.serveWrite a0 a1).kept = a1.kept := by intros; simp only [State.serveWrite]; (repeat' split) <;> simp
@[simp] theorem State.serveSubscribe_kept : ∀ a0 a1, (State.serveSubscribe a0 a1).kept = a1.kept := by intros; simp only [State.serveSubscribe]; (repeat' split) <;> simp
@[simp] theorem execSubscriptionPublish_kept : ∀ a0 a1, Keeps (execSubscriptionPublish a0 a1) a1 := by intros; simp only [execSubscriptionPublish]; (repeat' split) <;> simp
@[simp] theorem execSubscriptionLeaseExpiry_kept : ∀ a0 a1 a2, Keeps (execSubscriptionLeaseExpiry a0 a1 a2) a2 := by intros; simp [execSubscriptionLeaseExpiry]
@[simp] theorem State.eventsRead_kept : ∀ a0 a1, (State.eventsRead a0 a1).kept = a1.kept := by intros; simp [State.eventsRead]
@[simp] theorem State.eventsFollow_kept : ∀ a0 a1, (State.eventsFollow a0 a1).kept = a1.kept := by intros; simp [State.eventsFollow]
@[simp] theorem State.eventsUnfollow_kept : ∀ a0 a1, (State.eventsUnfollow a0 a1).kept = a1.kept := by intros; simp [State.eventsUnfollow]
@[simp] theorem State.serveEvents_kept : ∀ a0 a1, (State.serveEvents a0 a1).kept = a1.kept := by intros; simp only [State.serveEvents]; (repeat' split) <;> simp
@[simp] theorem State.sendEvents_kept : ∀ a0, (State.sendEvents a0).kept = a0.kept := by intros; simp [State.sendEvents]
@[simp] theorem State.sendReplies_kept : ∀ a0, (State.sendReplies a0).kept = a0.kept := by intros; rfl
@[simp] theorem State.canReply_kept : ∀ a0 a1 a2 a3, (State.canReply a0 a1 a2 a3).kept = a3.kept := by intros; simp [State.canReply]
@[simp] theorem State.gatewayLoad_kept : ∀ a0 a1 a2, (State.gatewayLoad a0 a1 a2).kept = a2.kept := by intros; simp [State.gatewayLoad]
@[simp] theorem State.gatewayAbort_kept : ∀ a0 a1 a2, (State.gatewayAbort a0 a1 a2).kept = a2.kept := by intros; simp [State.gatewayAbort]
@[simp] theorem State.gatewayRead_kept : ∀ a0 a1 a2, (State.gatewayRead a0 a1 a2).kept = a2.kept := by intros; simp [State.gatewayRead]
@[simp] theorem State.gatewayAck_kept : ∀ a0 a1 a2, (State.gatewayAck a0 a1 a2).kept = a2.kept := by intros; simp only [State.gatewayAck]; (repeat' split) <;> simp
@[simp] theorem State.serveCan_kept : ∀ a0 a1, (State.serveCan a0 a1).kept = a1.kept := by intros; simp only [State.serveCan]; (repeat' split) <;> simp

@[simp] theorem State.enterArmed_kept : ∀ a0, (State.enterArmed a0).kept = a0.kept := by intros; simp [State.enterArmed]
@[simp] theorem State.arm_kept : ∀ a0, (State.arm a0).2.kept = a0.kept := by intros; simp only [State.arm]; (repeat' split) <;> simp
@[simp] theorem State.disarmCommand_kept : ∀ a0, (State.disarmCommand a0).2.kept = a0.kept := by intros; simp only [State.disarmCommand]; (repeat' split) <;> simp
@[simp] theorem State.clearLatches_kept : ∀ a0, (State.clearLatches a0).kept = a0.kept := by intros; rfl
@[simp] theorem State.release_kept : ∀ a0, (State.release a0).2.kept = a0.kept := by intros; simp only [State.release]; (repeat' split) <;> simp
@[simp] theorem State.unlatchLeg_kept : ∀ a0 a1, (State.unlatchLeg a0 a1).kept = a1.kept := by intros; rfl
@[simp] theorem State.releaseLegs_kept : ∀ a0 a1, (State.releaseLegs a0 a1).2.kept = a1.kept := by intros; simp only [State.releaseLegs]; (repeat' split) <;> simp
@[simp] theorem State.orderlyReset_kept : ∀ a0 a1, (State.orderlyReset a0 a1).kept = a1.kept := by intros; simp [State.orderlyReset]
@[simp] theorem State.resetCommand_kept : ∀ a0, (State.resetCommand a0).2.kept = a0.kept := by intros; simp only [State.resetCommand]; (repeat' split) <;> simp
@[simp] theorem State.planSleep_kept : ∀ a0 a1, (State.planSleep a0 a1).kept = a1.kept := by intros; simp [State.planSleep]
@[simp] theorem State.layUp_kept : ∀ a0, (State.layUp a0).2.kept = a0.kept := by intros; simp only [State.layUp]; (repeat' split) <;> simp
@[simp] theorem State.beginLayup_kept : ∀ a0, (State.beginLayup a0).kept = a0.kept := by intros; simp [State.beginLayup]
@[simp] theorem State.dispatchCommand_kept : ∀ a0 a1, (State.dispatchCommand a0 a1).2.kept = a1.kept := by intros; simp only [State.dispatchCommand]; (repeat' split) <;> simp
@[simp] theorem State.swapCommand_kept : ∀ a0 a1, (State.swapCommand a0 a1).2.kept = a1.kept := by intros; simp only [State.swapCommand]; (repeat' split) <;> simp
@[simp] theorem State.platStage_kept : ∀ a0, (State.platStage a0).2.kept = a0.kept := by intros; rfl

@[simp] theorem State.modWin_kept : ∀ a0 a1 a2, (State.modWin a0 a1 a2).kept = a2.kept := by intros; rfl
@[simp] theorem State.windowReply_kept : ∀ a0 a1 a2, (State.windowReply a0 a1 a2).kept = a2.kept := by intros; simp only [State.windowReply]; (repeat' split) <;> simp
@[simp] theorem State.windowStart_kept : ∀ a0 a1 a2 a3 a4 a5 a6 a7 a8, (State.windowStart a0 a1 a2 a3 a4 a5 a6 a7 a8).kept = a8.kept := by intros; rfl
@[simp] theorem State.windowNow_kept : ∀ a0 a1 a2 a3, (State.windowNow a0 a1 a2 a3).kept = a3.kept := by intros; simp [State.windowNow]
@[simp] theorem State.windowRead_kept : ∀ a0 a1 a2 a3 a4, (State.windowRead a0 a1 a2 a3 a4).kept = a4.kept := by intros; simp [State.windowRead]
@[simp] theorem State.windowWrite_kept : ∀ a0 a1 a2 a3 a4, (State.windowWrite a0 a1 a2 a3 a4).kept = a4.kept := by intros; simp [State.windowWrite]
@[simp] theorem State.windowFlush_kept : ∀ a0 a1 a2, (State.windowFlush a0 a1 a2).kept = a2.kept := by intros; simp [State.windowFlush]
@[simp] theorem State.windowAbandon_kept : ∀ a0 a1, (State.windowAbandon a0 a1).kept = a1.kept := by intros; simp [State.windowAbandon]

@[simp] theorem State.updNote_kept : ∀ a0 a1 a2, (State.updNote a0 a1 a2).kept = a2.kept := by intros; rfl
@[simp] theorem State.updAnswer_kept : ∀ a0 a1 a2 a3, (State.updAnswer a0 a1 a2 a3).kept = a3.kept := by intros; simp [State.updAnswer]
@[simp] theorem State.updReject_kept : ∀ a0 a1 a2, (State.updReject a0 a1 a2).kept = a2.kept := by intros; simp [State.updReject]
@[simp] theorem State.bodyReply_kept : ∀ a0 a1 a2, (State.bodyReply a0 a1 a2).kept = a2.kept := by intros; simp only [State.bodyReply]; (repeat' split) <;> simp
@[simp] theorem State.updBody_kept : ∀ a0 a1, (State.updBody a0 a1).kept = a1.kept := by intros; simp [State.updBody]
@[simp] theorem State.applyFails_kept : ∀ a0 a1, (State.applyFails a0 a1).kept = a1.kept := by intros; rfl
@[simp] theorem State.updStart_kept : ∀ a0 a1, (State.updStart a0 a1).kept = a1.kept := by intros; simp [State.updStart]
@[simp] theorem State.endTrial_kept : ∀ a0 a1, (State.endTrial a0 a1).kept = a1.kept := by intros; simp [State.endTrial]
@[simp] theorem State.updRejectTrial_kept : ∀ a0 a1, (State.updRejectTrial a0 a1).kept = a1.kept := by intros; simp [State.updRejectTrial]
@[simp] theorem State.updAbort_kept : ∀ a0 a1, (State.updAbort a0 a1).kept = a1.kept := by intros; simp [State.updAbort]
@[simp] theorem execTrialTimerExpiry_kept : ∀ a0, Keeps (execTrialTimerExpiry a0) a0 := by intros; simp [execTrialTimerExpiry]

@[simp] theorem execDmaAbandon_kept : ∀ a0 a1, Keeps (execDmaAbandon a0 a1) a1 := by intros; simp [execDmaAbandon]
@[simp] theorem execPortRecovery_kept : ∀ a0 a1 a2, Keeps (execPortRecovery a0 a1 a2) a2 := by intros; simp [execPortRecovery]
@[simp] theorem execWindowHaltTimeout_kept : ∀ a0 a1, Keeps (execWindowHaltTimeout a0 a1) a1 := by intros; simp [execWindowHaltTimeout]

@[simp] theorem State.modBist_kept : ∀ a0 a1, (State.modBist a0 a1).kept = a1.kept := by intros; rfl
@[simp] theorem State.bistRecord_kept : ∀ a0 a1 a2 a3, (State.bistRecord a0 a1 a2 a3).kept = a3.kept := by intros; rfl
@[simp] theorem State.slicePassed_kept : ∀ a0, (State.slicePassed a0).kept = a0.kept := by intros; rfl
@[simp] theorem State.engineFault_kept : ∀ a0 a1, (State.engineFault a0 a1).kept = a1.kept := by intros; simp [State.engineFault]
@[simp] theorem State.sliceFailed_kept : ∀ a0, (State.sliceFailed a0).kept = a0.kept := by intros; simp [State.sliceFailed]
@[simp] theorem execBistSlice_kept : ∀ a0 a1 a2, Keeps (execBistSlice a0 a1 a2) a2 := by intros; simp [execBistSlice]
@[simp] theorem State.endSlice_kept : ∀ a0, (State.endSlice a0).kept = a0.kept := by intros; rfl
@[simp] theorem execBistPassLate_kept : ∀ a0, Keeps (execBistPassLate a0) a0 := by intros; simp [execBistPassLate]
@[simp] theorem execDebugUnlock_kept : ∀ a0 a1, Keeps (execDebugUnlock a0 a1) a1 := by intros; simp [execDebugUnlock]

@[simp] theorem execStartupBistComplete_kept : ∀ a0 a1, Keeps (execStartupBistComplete a0 a1) a1 := by intros; simp [execStartupBistComplete]
@[simp] theorem State.platRecord_kept : ∀ a0, (State.platRecord a0).kept = a0.kept := by intros; simp [State.platRecord]
@[simp] theorem State.bistStartRecord_kept : ∀ a0, (State.bistStartRecord a0).kept = a0.kept := by intros; simp [State.bistStartRecord]
@[simp] theorem State.enterRecovery_kept : ∀ a0, (State.enterRecovery a0).kept = a0.kept := by intros; simp [State.enterRecovery]
@[simp] theorem execPlatHeaderRead_kept : ∀ a0 a1 a2 a3, Keeps (execPlatHeaderRead a0 a1 a2 a3) a3 := by intros; simp [execPlatHeaderRead]
@[simp] theorem State.checkHoldup_kept : ∀ a0, (State.checkHoldup a0).kept = a0.kept := by intros; simp [State.checkHoldup]
@[simp] theorem State.checkStore_kept : ∀ a0, (State.checkStore a0).kept = a0.kept := by intros; rfl
@[simp] theorem State.loadGrid_kept : ∀ a0, (State.loadGrid a0).kept = a0.kept := by intros; rfl
@[simp] theorem State.loadStarts_kept : ∀ a0, (State.loadStarts a0).kept = a0.kept := by intros; rfl
@[simp] theorem State.startCans_kept : ∀ a0, (State.startCans a0).kept = a0.kept := by intros; simp [State.startCans]
@[simp] theorem State.enterLoad_kept : ∀ a0, (State.enterLoad a0).kept = a0.kept := by intros; simp [State.enterLoad]
@[simp] theorem State.platAccepted_kept : ∀ a0, (State.platAccepted a0).kept = a0.kept := by intros; simp [State.platAccepted]
@[simp] theorem State.acceptCopy_kept : ∀ a0 a1 a2 a3, (State.acceptCopy a0 a1 a2 a3).kept = a3.kept := by intros; simp [State.acceptCopy]
@[simp] theorem execPlatBodyCheck_kept : ∀ a0 a1, Keeps (execPlatBodyCheck a0 a1) a1 := by intros; simp only [execPlatBodyCheck]; (repeat' split) <;> simp
@[simp] theorem execStateLimitExpiry_kept : ∀ a0, Keeps (execStateLimitExpiry a0) a0 := by intros; simp [execStateLimitExpiry]
@[simp] theorem execMckPhaseTraining_kept : ∀ a0 a1, Keeps (execMckPhaseTraining a0 a1) a1 := by intros; simp [execMckPhaseTraining]
@[simp] theorem execLoadComplete_kept : ∀ a0, Keeps (execLoadComplete a0) a0 := by intros; simp [execLoadComplete]
@[simp] theorem execSurveyedEntry_kept : ∀ a0, Keeps (execSurveyedEntry a0) a0 := by intros; simp [execSurveyedEntry]

@[simp] theorem State.takeGrid_kept : ∀ a0, (State.takeGrid a0).kept = a0.kept := by intros; simp only [State.takeGrid]; (repeat' split) <;> simp
@[simp] theorem State.beginFrame_kept : ∀ a0, (State.beginFrame a0).kept = a0.kept := by intros; simp [State.beginFrame]
@[simp] theorem State.resumeLeg_kept : ∀ a0 a1, (State.resumeLeg a0 a1).kept = a1.kept := by intros; simp [State.resumeLeg]
@[simp] theorem State.takeWrites_kept : ∀ a0, (State.takeWrites a0).kept = a0.kept := by intros; simp [State.takeWrites]
@[simp] theorem State.takeOffsets_kept : ∀ a0, (State.takeOffsets a0).kept = a0.kept := by intros; rfl
@[simp] theorem State.twinBoundary_kept : ∀ a0, (State.twinBoundary a0).kept = a0.kept := by intros; simp [State.twinBoundary]
@[simp] theorem State.fieldBoundary_kept : ∀ a0 a1, (State.fieldBoundary a0 a1).kept = a1.kept := by intros; simp [State.fieldBoundary]
@[simp] theorem execFrameBoundary_kept : ∀ a0 a1, Keeps (execFrameBoundary a0 a1) a1 := by intros; simp [execFrameBoundary]
@[simp] theorem State.takeInput_kept : ∀ a0 a1, (State.takeInput a0 a1).kept = a1.kept := by intros; simp only [State.takeInput]; (repeat' split) <;> simp
@[simp] theorem State.checkLatched_kept : ∀ a0, (State.checkLatched a0).kept = a0.kept := by intros; simp [State.checkLatched]
@[simp] theorem State.sealField_kept : ∀ a0, (State.sealField a0).kept = a0.kept := by intros; simp [State.sealField]
@[simp] theorem execWindowW0Seal_kept : ∀ a0, Keeps (execWindowW0Seal a0) a0 := by intros; simp [execWindowW0Seal]
@[simp] theorem execSealBundleReceived_kept : ∀ a0 a1, Keeps (execSealBundleReceived a0 a1) a1 := by intros; simp [execSealBundleReceived]
@[simp] theorem execWindowW1Safety_kept : ∀ a0, Keeps (execWindowW1Safety a0) a0 := by intros; simp [execWindowW1Safety]
@[simp] theorem State.withRound_kept (leg : Leg) (r : SealedRound) (f : State → State) (s : State) (h : ∀ t, (f t).kept = t.kept) : (State.withRound leg r f s).kept = s.kept := by
  simp [State.withRound, h]
@[simp] theorem State.takeOne_kept : ∀ a0 a1 a2, (State.takeOne a0 a1 a2).kept = a2.kept := by intros; simp [State.takeOne]
@[simp] theorem State.takeSealed_kept : ∀ a0 a1, (State.takeSealed a0 a1).kept = a1.kept := by intros; simp [State.takeSealed]
@[simp] theorem State.estimate_kept : ∀ a0, (State.estimate a0).kept = a0.kept := by intros; simp [State.estimate]
@[simp] theorem State.computeLimits_kept : ∀ a0, (State.computeLimits a0).kept = a0.kept := by intros; simp [State.computeLimits]
@[simp] theorem State.work2_kept : ∀ a0, (State.work2 a0).kept = a0.kept := by intros; simp [State.work2]
@[simp] theorem execWindowW2Estimation_kept : ∀ a0, Keeps (execWindowW2Estimation a0) a0 := by intros; simp [execWindowW2Estimation]
@[simp] theorem execWindowW3Dispatch_kept : ∀ a0, Keeps (execWindowW3Dispatch a0) a0 := by intros; simp [execWindowW3Dispatch]
@[simp] theorem execWindowW4Outputs_kept : ∀ a0, Keeps (execWindowW4Outputs a0) a0 := by intros; simp [execWindowW4Outputs]
@[simp] theorem State.sendFrameWords_kept : ∀ a0, (State.sendFrameWords a0).kept = a0.kept := by intros; simp [State.sendFrameWords]
@[simp] theorem State.rampLimits_kept : ∀ a0, (State.rampLimits a0).kept = a0.kept := by intros; rfl
@[simp] theorem State.safetyOverrun_kept : ∀ a0 a1, (State.safetyOverrun a0 a1).kept = a1.kept := by intros; simp [State.safetyOverrun]
@[simp] theorem State.estimationOverrun_kept : ∀ a0, (State.estimationOverrun a0).kept = a0.kept := by intros; simp [State.estimationOverrun]
@[simp] theorem execWindowOverrun_kept : ∀ a0 a1 a2, Keeps (execWindowOverrun a0 a1 a2) a2 := by intros; simp [execWindowOverrun]
@[simp] theorem execFunctionDrainComplete_kept : ∀ a0 a1, Keeps (execFunctionDrainComplete a0 a1) a1 := by intros; simp only [execFunctionDrainComplete]; (repeat' split) <;> simp

end Sys2Proof.Machine
end

