-- ==== Sys2Proof/Laws/Memory.lean ====
section
/-! SUPPORT. Every memory operation keeps the canonical form, and what a write, a program and an erase leave to be read. -/
namespace Sys2Proof.Machine

theorem Memory.wfFrom_mono {lo hi : Nat} (h : lo ≤ hi) : ∀ m, Memory.wfFrom hi m = true → Memory.wfFrom lo m = true
  | [], _ => rfl
  | c :: cs, w => by
    simp only [Memory.wfFrom, Bool.and_eq_true, decide_eq_true_eq] at w ⊢
    exact ⟨⟨by omega, w.1.2⟩, w.2⟩

theorem Memory.wfFrom_write (lo a : Nat) (b : Byte) (h : lo ≤ a) : ∀ m, Memory.wfFrom lo m = true → Memory.wfFrom lo (Memory.write m a b) = true
  | [], _ => by
    unfold Memory.write; split
    · rfl
    · simp [Memory.wfFrom, *]
  | c :: cs, w => by
    simp only [Memory.wfFrom, Bool.and_eq_true, decide_eq_true_eq] at w
    unfold Memory.write
    split
    · split
      · simpa [Memory.wfFrom] using w
      · simp only [Memory.wfFrom, Bool.and_eq_true, decide_eq_true_eq]
        exact ⟨⟨h, by assumption⟩, ⟨by omega, w.1.2⟩, w.2⟩
    · split
      · split
        · exact Memory.wfFrom_mono (by omega) _ w.2
        · simp only [Memory.wfFrom, Bool.and_eq_true, decide_eq_true_eq]
          refine ⟨⟨h, by assumption⟩, ?_⟩
          subst a; exact w.2
      · simp only [Memory.wfFrom, Bool.and_eq_true, decide_eq_true_eq]
        exact ⟨w.1, Memory.wfFrom_write (c.1 + 1) a b (by omega) cs w.2⟩

/-- A write keeps the canonical form. -/
theorem Memory.wf_write (m : List Host.Cell) (a : Nat) (b : Byte) (h : Memory.wf m = true) : Memory.wf (Memory.write m a b) = true :=
  Memory.wfFrom_write 0 a b (Nat.zero_le _) m h
theorem Memory.wf_writeBytes : ∀ (bs : List Byte) (m : List Host.Cell) (a : Nat), Memory.wf m = true → Memory.wf (Memory.writeBytes m a bs) = true
  | [], _, _, h => h
  | b :: bs, _, a, h => Memory.wf_writeBytes bs _ (a + 1) (Memory.wf_write _ a b h)
/-- A flash program keeps the canonical form. -/
theorem Memory.wf_program : ∀ (bs : List Byte) (m : List Host.Cell) (a : Nat), Memory.wf m = true → Memory.wf (Memory.program m a bs) = true
  | [], _, _, h => h
  | _ :: bs, _, a, h => Memory.wf_program bs _ (a + 1) (Memory.wf_write _ a _ h)
theorem Memory.wfFrom_filter (p : Host.Cell → Bool) : ∀ (lo : Nat) (m : List Host.Cell), Memory.wfFrom lo m = true → Memory.wfFrom lo (m.filter p) = true
  | _, [], _ => rfl
  | lo, c :: cs, w => by
    simp only [Memory.wfFrom, Bool.and_eq_true, decide_eq_true_eq] at w
    have r := Memory.wfFrom_filter p (c.1 + 1) cs w.2
    rw [List.filter_cons]
    split
    · simp only [Memory.wfFrom, Bool.and_eq_true, decide_eq_true_eq]; exact ⟨w.1, r⟩
    · exact Memory.wfFrom_mono (by omega) _ r
/-- An erase keeps the canonical form. -/
theorem Memory.wf_erase (m : List Host.Cell) (a n : Nat) (h : Memory.wf m = true) : Memory.wf (Memory.erase m a n) = true :=
  Memory.wfFrom_filter _ 0 m h

theorem Memory.read_below {a : Nat} : ∀ {lo : Nat} (m : List Host.Cell), Memory.wfFrom lo m = true → a < lo → Memory.read m a = Memory.erased
  | _, [], _, _ => rfl
  | lo, c :: cs, w, h => by
    simp only [Memory.wfFrom, Bool.and_eq_true, decide_eq_true_eq] at w
    rw [Memory.read, if_neg (by omega)]
    exact Memory.read_below cs w.2 (by omega)
theorem Memory.read_writeFrom (a : Nat) (b : Byte) (x : Nat) : ∀ {lo : Nat} (m : List Host.Cell), Memory.wfFrom lo m = true →
    Memory.read (Memory.write m a b) x = if x = a then b else Memory.read m x
  | _, [], _ => by
    unfold Memory.write; split
    · subst b; simp [Memory.read]
    · by_cases e : x = a
      · simp [Memory.read, e]
      · simp [Memory.read, e, Ne.symm e]
  | lo, c :: cs, w => by
    simp only [Memory.wfFrom, Bool.and_eq_true, decide_eq_true_eq] at w
    have below : ∀ y, y ≤ c.1 → Memory.read cs y = Memory.erased := fun y hy => Memory.read_below cs w.2 (by omega)
    unfold Memory.write
    split
    · split
      · split
        · subst x; subst b; rw [Memory.read, if_neg (by omega), below a (by omega)]
        · rfl
      · rw [Memory.read]; split <;> (split <;> first | rfl | omega)
    · split
      · rename_i h; subst h
        split
        · split
          · subst x; subst b; exact below _ (Nat.le_refl _)
          · rw [Memory.read, if_neg (by omega)]
        · rw [Memory.read, Memory.read]; split <;> (split <;> first | rfl | omega)
      · rw [Memory.read, Memory.read_writeFrom a b x cs w.2]
        rw [show Memory.read (c :: cs) x = if c.1 = x then c.2 else Memory.read cs x from rfl]
        split <;> (split <;> first | rfl | omega)
/-- A read after a write: the byte written at its address, every other byte as before. -/
theorem Memory.read_write (m : List Host.Cell) (a : Nat) (b : Byte) (x : Nat) (h : Memory.wf m = true) :
    Memory.read (Memory.write m a b) x = if x = a then b else Memory.read m x := Memory.read_writeFrom a b x m h
/-- A byte outside the range of a program reads as before. -/
theorem Memory.read_program_other : ∀ (bs : List Byte) (m : List Host.Cell) (a x : Nat), Memory.wf m = true → (x < a ∨ a + bs.length ≤ x) →
    Memory.read (Memory.program m a bs) x = Memory.read m x
  | [], _, _, _, _, _ => rfl
  | b :: bs, m, a, x, h, o => by
    rw [List.length_cons] at o
    rw [Memory.program, Memory.read_program_other bs _ (a + 1) x (Memory.wf_write _ _ _ h) (by omega), Memory.read_write _ _ _ _ h, if_neg (by omega)]
/-- A programmed byte: only its set bits are cleared. -/
theorem Memory.read_program_in : ∀ (bs : List Byte) (m : List Host.Cell) (a i : Nat) (hi : i < bs.length), Memory.wf m = true →
    Memory.read (Memory.program m a bs) (a + i) = Memory.read m (a + i) &&& bs[i]
  | b :: bs, m, a, 0, _, h => by
    rw [Memory.program, Memory.read_program_other bs _ (a + 1) (a + 0) (Memory.wf_write _ _ _ h) (by omega), Memory.read_write _ _ _ _ h]; simp
  | b :: bs, m, a, i + 1, hi, h => by
    rw [List.length_cons] at hi
    have r := Memory.read_program_in bs _ (a + 1) i (by omega) (Memory.wf_write m a (Memory.read m a &&& b) h)
    rw [Memory.program, show a + (i + 1) = a + 1 + i by omega, r, Memory.read_write _ _ _ _ h, if_neg (by omega)]; rfl
/-- A read after an erase. -/
theorem Memory.read_erase (a n x : Nat) : ∀ (m : List Host.Cell), Memory.read (Memory.erase m a n) x = if a ≤ x ∧ x < a + n then Memory.erased else Memory.read m x
  | [] => by simp [Memory.erase, Memory.read]
  | c :: cs => by
    have r := Memory.read_erase a n x cs
    unfold Memory.erase at r ⊢
    rw [List.filter_cons]
    by_cases e : a ≤ c.1 ∧ c.1 < a + n
    · rw [if_neg (by simp [e]), r, Memory.read]
      split
      · rfl
      · rw [if_neg (by omega)]
    · rw [if_pos (by simp; omega), Memory.read, Memory.read, r]
      split <;> (split <;> first | rfl | omega)

end Sys2Proof.Machine
end

