-- ==== Sys2Proof/Laws/Goes.lean ====
section
/-! SUPPORT. The operations and commands that write the queue, the fuses, the store or the plat flash: the queue stays, a
fuse is only ever blown, and a memory in canonical form stays so. -/
set_option linter.unusedSimpArgs false
set_option linter.unusedVariables false
set_option linter.unusedTactic false
set_option linter.unreachableTactic false
namespace Sys2Proof.Machine
theorem Fuses.within_refl (f : Fuses) : f.within f := ⟨rfl, fun _ h => h, fun _ h => h⟩
theorem Fuses.within_trans {f g h : Fuses} (a : f.within g) (b : g.within h) : f.within h := by
  refine ⟨?_, fun k x => b.2.1 k (a.2.1 k x), fun k x => b.2.2 k (a.2.2 k x)⟩
  rw [b.1, a.1]
theorem Goes.refl (k) : Goes k k := ⟨rfl, Fuses.within_refl _, id, id⟩
theorem Goes.trans {k l m} (a : Goes k l) (b : Goes l m) : Goes k m :=
  ⟨b.1.trans a.1, Fuses.within_trans a.2.1 b.2.1, b.2.2.1 ∘ a.2.2.1, b.2.2.2 ∘ a.2.2.2⟩
theorem Goes.store {k} {t : State} {m} (a : Goes k t.kept) (h : Memory.wf t.store = true → Memory.wf m = true) : Goes k (t.pending, t.fuses, m, t.plat.flash) :=
  a.trans ⟨rfl, Fuses.within_refl _, h, id⟩
theorem outGoes_next (t s : State) : OutGoes (.next t) s ↔ Goes s.kept t.kept := Iff.rfl
theorem goes_of_kept {s t : State} (h : t.kept = s.kept) : Goes s.kept t.kept := h ▸ Goes.refl _
theorem outGoes_of_keeps {o s} (h : Keeps o s) : OutGoes o s := by
  cases o <;> first | exact goes_of_kept h | trivial
theorem Goes.foldl {α : Type} (f : State → α → State) (h : ∀ t a, Goes t.kept (f t a).kept) : ∀ (l : List α) (s : State), Goes s.kept (l.foldl f s).kept
  | [], s => Goes.refl _
  | a :: l, s => (h s a).trans (Goes.foldl f h l _)
theorem Goes.ite {k} (c : Prop) [Decidable c] {a b : State} (ha : Goes k a.kept) (hb : Goes k b.kept) : Goes k (if c then a else b).kept := by split <;> assumption

theorem execLearnedWriteComplete_goes : ∀ a0 a1, OutGoes (execLearnedWriteComplete a0 a1) a1 := by
  intros
  unfold execLearnedWriteComplete; (try dsimp only); (repeat' split)
  all_goals (repeat (first | with_reducible exact Goes.refl _ | with_reducible assumption | (simp only [kept_mk, kept_fold, kept_ite, ite_self, kept_foldl, keeps_next, keeps_ite, implies_true, fst_ite, snd_ite, outGoes_next, State.form_kept, State.finishShutdown_kept]) | with_reducible refine Goes.ite _ ?_ ?_ | (with_reducible refine Goes.store ?_ (fun h => ?_); rotate_left; (repeat' first | with_reducible assumption | with_reducible apply Memory.wf_program | with_reducible apply Memory.wf_erase | with_reducible apply Memory.wf_writeBytes | split))))
theorem execLearnedValuesRead_goes : ∀ a0, OutGoes (execLearnedValuesRead a0) a0 := by
  intros
  unfold execLearnedValuesRead; (try dsimp only); (repeat' split)
  all_goals (repeat (first | with_reducible exact Goes.refl _ | with_reducible assumption | (simp only [kept_mk, kept_fold, kept_ite, ite_self, kept_foldl, keeps_next, keeps_ite, implies_true, fst_ite, snd_ite, outGoes_next, State.form_kept]) | with_reducible refine Goes.ite _ ?_ ?_ | (with_reducible refine Goes.store ?_ (fun h => ?_); rotate_left; (repeat' first | with_reducible assumption | with_reducible apply Memory.wf_program | with_reducible apply Memory.wf_erase | with_reducible apply Memory.wf_writeBytes | split))))
theorem State.writeShort_goes : ∀ a0, Goes a0.kept (State.writeShort a0).kept := by
  intros
  unfold State.writeShort; (try dsimp only); (repeat' split)
  all_goals (repeat (first | with_reducible exact Goes.refl _ | with_reducible assumption | (simp only [kept_mk, kept_fold, kept_ite, ite_self, kept_foldl, keeps_next, keeps_ite, implies_true, fst_ite, snd_ite, outGoes_next]) | with_reducible refine Goes.ite _ ?_ ?_ | (with_reducible refine Goes.store ?_ (fun h => ?_); rotate_left; (repeat' first | with_reducible assumption | with_reducible apply Memory.wf_program | with_reducible apply Memory.wf_erase | with_reducible apply Memory.wf_writeBytes | split))))

theorem State.programDone_goes : ∀ a0 a1 a2, Goes a2.kept (State.programDone a0 a1 a2).1.kept := by
  intros
  unfold State.programDone; (try dsimp only); (repeat' split)
  all_goals (repeat (first | with_reducible exact Goes.refl _ | with_reducible assumption | (simp only [kept_mk, kept_fold, kept_ite, ite_self, kept_foldl, keeps_next, keeps_ite, implies_true, fst_ite, snd_ite, outGoes_next, State.modPort_kept, State.haltCh_kept, State.modCh_kept]) | with_reducible refine Goes.ite _ ?_ ?_ | (with_reducible refine Goes.store ?_ (fun h => ?_); rotate_left; (repeat' first | with_reducible assumption | with_reducible apply Memory.wf_program | with_reducible apply Memory.wf_erase | with_reducible apply Memory.wf_writeBytes | split))))
theorem State.eraseDone_goes : ∀ a0 a1 a2, Goes a2.kept (State.eraseDone a0 a1 a2).1.kept := by
  intros
  unfold State.eraseDone; (try dsimp only); (repeat' split)
  all_goals (repeat (first | with_reducible exact Goes.refl _ | with_reducible assumption | (simp only [kept_mk, kept_fold, kept_ite, ite_self, kept_foldl, keeps_next, keeps_ite, implies_true, fst_ite, snd_ite, outGoes_next, State.modPort_kept, State.haltCh_kept, State.modCh_kept]) | with_reducible refine Goes.ite _ ?_ ?_ | (with_reducible refine Goes.store ?_ (fun h => ?_); rotate_left; (repeat' first | with_reducible assumption | with_reducible apply Memory.wf_program | with_reducible apply Memory.wf_erase | with_reducible apply Memory.wf_writeBytes | split))))
theorem State.resumeCh_goes : ∀ a0 a1 a2, Goes a2.kept (State.resumeCh a0 a1 a2).1.kept := by
  intros
  unfold State.resumeCh; (try dsimp only); (repeat' split)
  all_goals (repeat (first | with_reducible exact Goes.refl _ | with_reducible assumption | (simp only [kept_mk, kept_fold, kept_ite, ite_self, kept_foldl, keeps_next, keeps_ite, implies_true, fst_ite, snd_ite, outGoes_next, State.modCh_kept, State.retireBlock_kept, State.haltCh_kept]) | with_reducible refine Goes.ite _ ?_ ?_ | (with_reducible refine Goes.store ?_ (fun h => ?_); rotate_left; (repeat' first | with_reducible assumption | with_reducible apply Memory.wf_program | with_reducible apply Memory.wf_erase | with_reducible apply Memory.wf_writeBytes | split))))

theorem State.bookHalted_goes : ∀ a0, Goes a0.kept (State.bookHalted a0).kept := by
  intros
  unfold State.bookHalted; (try dsimp only); (repeat' split)
  all_goals (repeat (first | with_reducible exact Goes.refl _ | with_reducible assumption | with_reducible refine Goes.trans ?_ (State.resumeCh_goes ..) | (simp only [kept_mk, kept_fold, kept_ite, ite_self, kept_foldl, keeps_next, keeps_ite, implies_true, fst_ite, snd_ite, outGoes_next, State.modFb_kept, State.bookRecord_kept, State.abandonCh_kept, State.closePage_kept, State.bookNext_kept, State.bookProgram_kept]) | with_reducible refine Goes.ite _ ?_ ?_ | (with_reducible refine Goes.store ?_ (fun h => ?_); rotate_left; (repeat' first | with_reducible assumption | with_reducible apply Memory.wf_program | with_reducible apply Memory.wf_erase | with_reducible apply Memory.wf_writeBytes | split))))
theorem State.eraseAheadHalted_goes : ∀ a0, Goes a0.kept (State.eraseAheadHalted a0).kept := by
  intros
  unfold State.eraseAheadHalted; (try dsimp only); (repeat' split)
  all_goals (repeat (first | with_reducible exact Goes.refl _ | with_reducible assumption | with_reducible refine Goes.trans ?_ (State.resumeCh_goes ..) | (simp only [kept_mk, kept_fold, kept_ite, ite_self, kept_foldl, keeps_next, keeps_ite, implies_true, fst_ite, snd_ite, outGoes_next, State.modFb_kept, State.bookRecord_kept, State.abandonCh_kept, State.eraseAheadDone_kept]) | with_reducible refine Goes.ite _ ?_ ?_ | (with_reducible refine Goes.store ?_ (fun h => ?_); rotate_left; (repeat' first | with_reducible assumption | with_reducible apply Memory.wf_program | with_reducible apply Memory.wf_erase | with_reducible apply Memory.wf_writeBytes | split))))
theorem State.bookPut_goes : ∀ a0 a1, Goes a1.kept (State.bookPut a0 a1).kept := by
  intros
  unfold State.bookPut; (try dsimp only); (repeat' split)
  all_goals (repeat (first | with_reducible exact Goes.refl _ | with_reducible assumption | (simp only [kept_mk, kept_fold, kept_ite, ite_self, kept_foldl, keeps_next, keeps_ite, implies_true, fst_ite, snd_ite, outGoes_next, State.modFb_kept, State.closePage_kept]) | with_reducible refine Goes.ite _ ?_ ?_ | (with_reducible refine Goes.store ?_ (fun h => ?_); rotate_left; (repeat' first | with_reducible assumption | with_reducible apply Memory.wf_program | with_reducible apply Memory.wf_erase | with_reducible apply Memory.wf_writeBytes | split))))
theorem State.bookFinish_goes : ∀ a0, Goes a0.kept (State.bookFinish a0).kept := by
  intros
  unfold State.bookFinish; (try dsimp only); (repeat' split)
  all_goals (repeat (first | with_reducible exact Goes.refl _ | with_reducible assumption | with_reducible refine Goes.trans ?_ (State.bookPut_goes ..) | (simp only [kept_mk, kept_fold, kept_ite, ite_self, kept_foldl, keeps_next, keeps_ite, implies_true, fst_ite, snd_ite, outGoes_next, State.modFb_kept]) | with_reducible refine Goes.ite _ ?_ ?_ | (with_reducible refine Goes.store ?_ (fun h => ?_); rotate_left; (repeat' first | with_reducible assumption | with_reducible apply Memory.wf_program | with_reducible apply Memory.wf_erase | with_reducible apply Memory.wf_writeBytes | split))))
theorem State.bookFlush_goes : ∀ a0, Goes a0.kept (State.bookFlush a0).kept := by
  intros
  unfold State.bookFlush; (try dsimp only); (repeat' split)
  all_goals (repeat (first | with_reducible exact Goes.refl _ | with_reducible assumption | (simp only [kept_mk, kept_fold, kept_ite, ite_self, kept_foldl, keeps_next, keeps_ite, implies_true, fst_ite, snd_ite, outGoes_next, State.modFb_kept]) | with_reducible refine Goes.ite _ ?_ ?_ | (with_reducible refine Goes.store ?_ (fun h => ?_); rotate_left; (repeat' first | with_reducible assumption | with_reducible apply Memory.wf_program | with_reducible apply Memory.wf_erase | with_reducible apply Memory.wf_writeBytes | split))))
theorem State.bookClose_goes (s : State) : Goes s.kept s.bookClose.kept := by
  unfold State.bookClose; dsimp only
  split
  · simp only [State.modFb_kept]; exact Goes.refl _
  · simp only [State.modFb_kept]
    refine Goes.trans (Goes.trans ?_ (Goes.foldl _ (fun t r => State.bookPut_goes ..) _ _)) (State.bookFlush_goes _)
    simp only [State.modFb_kept]
    refine Goes.trans ?_ (State.bookFinish_goes ..)
    simp only [State.modFb_kept]; exact Goes.refl _
theorem State.bookResume_goes : ∀ a0, Goes a0.kept (State.bookResume a0).kept := by
  intros
  unfold State.bookResume; (try dsimp only); (repeat' split)
  all_goals (repeat (first | with_reducible exact Goes.refl _ | with_reducible assumption | (simp only [kept_mk, kept_fold, kept_ite, ite_self, kept_foldl, keeps_next, keeps_ite, implies_true, fst_ite, snd_ite, outGoes_next, State.modFb_kept]) | with_reducible refine Goes.ite _ ?_ ?_ | (with_reducible refine Goes.store ?_ (fun h => ?_); rotate_left; (repeat' first | with_reducible assumption | with_reducible apply Memory.wf_program | with_reducible apply Memory.wf_erase | with_reducible apply Memory.wf_writeBytes | split))))
theorem execFieldBookReplay_goes : ∀ a0, OutGoes (execFieldBookReplay a0) a0 := by
  intros
  unfold execFieldBookReplay; (try dsimp only); (repeat' split)
  all_goals (repeat (first | with_reducible exact Goes.refl _ | with_reducible assumption | with_reducible refine Goes.trans ?_ (State.bookResume_goes ..) | (simp only [kept_mk, kept_fold, kept_ite, ite_self, kept_foldl, keeps_next, keeps_ite, implies_true, fst_ite, snd_ite, outGoes_next, State.modFb_kept, State.eraseAhead_kept, State.bookPort_kept, State.openRecords_kept, State.bookCount_kept]) | with_reducible refine Goes.ite _ ?_ ?_ | (with_reducible refine Goes.store ?_ (fun h => ?_); rotate_left; (repeat' first | with_reducible assumption | with_reducible apply Memory.wf_program | with_reducible apply Memory.wf_erase | with_reducible apply Memory.wf_writeBytes | split))))

theorem State.programEntry_goes : ∀ a0 a1 a2 a3 a4 a5, Goes a5.kept (State.programEntry a0 a1 a2 a3 a4 a5).kept := by
  intros
  unfold State.programEntry; (try dsimp only); (repeat' split)
  all_goals (repeat (first | with_reducible exact Goes.refl _ | with_reducible assumption | (simp only [kept_mk, kept_fold, kept_ite, ite_self, kept_foldl, keeps_next, keeps_ite, implies_true, fst_ite, snd_ite, outGoes_next]) | with_reducible refine Goes.ite _ ?_ ?_ | (with_reducible refine Goes.store ?_ (fun h => ?_); rotate_left; (repeat' first | with_reducible assumption | with_reducible apply Memory.wf_program | with_reducible apply Memory.wf_erase | with_reducible apply Memory.wf_writeBytes | split))))
theorem State.failSlot_goes : ∀ a0 a1 a2, Goes a2.kept (State.failSlot a0 a1 a2).kept := by
  intros
  unfold State.failSlot; (try dsimp only); (repeat' split)
  all_goals (repeat (first | with_reducible exact Goes.refl _ | with_reducible assumption | with_reducible refine Goes.trans ?_ (State.programEntry_goes ..) | (simp only [kept_mk, kept_fold, kept_ite, ite_self, kept_foldl, keeps_next, keeps_ite, implies_true, fst_ite, snd_ite, outGoes_next, State.updRecord_kept]) | with_reducible refine Goes.ite _ ?_ ?_ | (with_reducible refine Goes.store ?_ (fun h => ?_); rotate_left; (repeat' first | with_reducible assumption | with_reducible apply Memory.wf_program | with_reducible apply Memory.wf_erase | with_reducible apply Memory.wf_writeBytes | split))))
theorem State.endTrials_goes (s : State) : Goes s.kept s.endTrials.1.kept := by
  have step : ∀ (r : State × Bool) (k : Nat), Goes r.1.kept (if r.1.slotState k = 3 - 1 ∧ r.1.tryingEnd k ≠ 0 then (r.1.failSlot k (r.1.tryingEnd k), true) else r).1.kept := by
    intro r k; split
    · exact State.failSlot_goes ..
    · exact Goes.refl _
  exact (step (s, false) 0).trans (step _ 1)
set_option maxHeartbeats 400000 in
theorem State.runSlot_goes : ∀ a0 a1 a2, Goes a2.kept (State.runSlot a0 a1 a2).kept := by
  intros
  unfold State.runSlot; (try dsimp only); (repeat' split)
  all_goals (repeat (first | with_reducible exact Goes.refl _ | with_reducible assumption | with_reducible refine Goes.trans ?_ (State.programEntry_goes ..) | (simp only [kept_mk, kept_fold, kept_ite, ite_self, kept_foldl, keeps_next, keeps_ite, implies_true, fst_ite, snd_ite, outGoes_next, State.updRecord_kept]) | with_reducible refine Goes.ite _ ?_ ?_ | (with_reducible refine Goes.store ?_ (fun h => ?_); rotate_left; (repeat' first | with_reducible assumption | with_reducible apply Memory.wf_program | with_reducible apply Memory.wf_erase | with_reducible apply Memory.wf_writeBytes | split))))
theorem State.tryCandidates_goes : ∀ (ks : List Nat) (f : Nat) (b : Bool) (s : State), Goes s.kept (State.tryCandidates ks f b s).kept
  | [], _, _, s => by
    unfold State.tryCandidates; simp only [kept_mk, kept_fold]; exact Goes.refl _
  | k :: ks, f, b, s => by
    unfold State.tryCandidates
    refine Goes.ite _ (State.runSlot_goes ..) ?_
    dsimp only
    refine Goes.trans ?_ (State.tryCandidates_goes ks f true _)
    exact Goes.ite _ (State.failSlot_goes ..) (Goes.refl _)
theorem execBootSlotSelect_goes (a b : PortProbe) (c : Nat) (s : State) : OutGoes (execBootSlotSelect a b c s) s := by
  unfold execBootSlotSelect; split
  · exact Goes.refl _
  · refine Goes.trans (Goes.trans ?_ (State.endTrials_goes _)) (State.tryCandidates_goes ..)
    simp only [State.openPort_kept]; exact Goes.refl _

theorem State.supplyLost_goes : ∀ a0, Goes a0.kept (State.supplyLost a0).kept := by
  intros
  unfold State.supplyLost; (try dsimp only); (repeat' split)
  all_goals (repeat (first | with_reducible exact Goes.refl _ | with_reducible assumption | with_reducible refine Goes.trans ?_ (State.bookFinish_goes ..) | with_reducible refine Goes.trans ?_ (State.bookFlush_goes ..) | with_reducible refine Goes.trans ?_ (State.bookPut_goes ..) | (simp only [kept_mk, kept_fold, kept_ite, ite_self, kept_foldl, keeps_next, keeps_ite, implies_true, fst_ite, snd_ite, outGoes_next]) | with_reducible refine Goes.ite _ ?_ ?_ | (with_reducible refine Goes.store ?_ (fun h => ?_); rotate_left; (repeat' first | with_reducible assumption | with_reducible apply Memory.wf_program | with_reducible apply Memory.wf_erase | with_reducible apply Memory.wf_writeBytes | split))))
theorem execLastGaspStart_goes (v : SupplyMv) (s : State) : OutGoes (execLastGaspStart v s) s := by
  unfold execLastGaspStart; split
  · exact Goes.refl _
  · refine Goes.trans ?_ (State.supplyLost_goes _)
    simp only [kept_mk, kept_fold, kept_foldl, State.drainCh_kept, State.dropPlant_kept, State.select_kept, implies_true]; exact Goes.refl _
theorem execLastGaspComplete_goes (s : State) : OutGoes (execLastGaspComplete s) s := by
  unfold execLastGaspComplete; split
  · exact (State.writeShort_goes _).trans (goes_of_kept (State.moduleReset_kept ..))
  · exact Goes.refl _
theorem State.enterLaidUp_goes (s : State) : Goes s.kept s.enterLaidUp.kept := by
  unfold State.enterLaidUp; dsimp only
  simp only [kept_mk, State.survivors_kept, kept_fold]
  refine Goes.trans (Goes.trans ?_ (State.bookClose_goes _)) (Goes.foldl _ (fun t l => Goes.ite _ ?_ (Goes.refl _)) _ _)
  · exact goes_of_kept (State.form_kept ..)
  · exact goes_of_kept (State.sendSleep_kept ..)
theorem execLayupPersistDone_goes : ∀ a0, OutGoes (execLayupPersistDone a0) a0 := by
  intros
  unfold execLayupPersistDone; (try dsimp only); (repeat' split)
  all_goals (repeat (first | with_reducible exact Goes.refl _ | with_reducible assumption | with_reducible refine Goes.trans ?_ (State.enterLaidUp_goes ..) | (simp only [kept_mk, kept_fold, kept_ite, ite_self, kept_foldl, keeps_next, keeps_ite, implies_true, fst_ite, snd_ite, outGoes_next]) | with_reducible refine Goes.ite _ ?_ ?_ | (with_reducible refine Goes.store ?_ (fun h => ?_); rotate_left; (repeat' first | with_reducible assumption | with_reducible apply Memory.wf_program | with_reducible apply Memory.wf_erase | with_reducible apply Memory.wf_writeBytes | split))))

theorem State.programInstall_goes : ∀ a0 a1 a2 a3 a4 a5, Goes a5.kept (State.programInstall a0 a1 a2 a3 a4 a5).kept := by
  intros
  unfold State.programInstall; (try dsimp only); (repeat' split)
  all_goals (repeat (first | with_reducible exact Goes.refl _ | with_reducible assumption | (simp only [kept_mk, kept_fold, kept_ite, ite_self, kept_foldl, keeps_next, keeps_ite, implies_true, fst_ite, snd_ite, outGoes_next]) | with_reducible refine Goes.ite _ ?_ ?_ | (with_reducible refine Goes.store ?_ (fun h => ?_); rotate_left; (repeat' first | with_reducible assumption | with_reducible apply Memory.wf_program | with_reducible apply Memory.wf_erase | with_reducible apply Memory.wf_writeBytes | split))))

theorem State.platInstall_goes (s : State) : Goes s.kept s.platInstall.2.kept := by
  unfold State.platInstall; split
  · exact Goes.refl _
  · split
    · exact Goes.refl _
    · dsimp only; rw [State.orderlyReset_kept]; exact State.programInstall_goes ..
theorem State.keyRevoke_goes (o : Nat) (p : List Byte) (s : State) : Goes s.kept (State.keyRevoke o p s).2.kept := by
  unfold State.keyRevoke; dsimp only
  split
  · exact Goes.refl _
  · split
    · exact Goes.refl _
    · split
      · exact Goes.refl _
      · dsimp only; rw [State.modHost_kept]
        refine ⟨rfl, ⟨rfl, fun k h => ?_, fun _ h => h⟩, id, id⟩
        simp only [State.kept, vmod] at h ⊢
        rw [Vector.getElem_set]; split
        · rfl
        · exact h
theorem State.command1_goes (r : HostReq) (s : State) : Goes s.kept (State.command1 r s).2.kept := by
  unfold State.command1; dsimp only; split
  · exact goes_of_kept (State.arm_kept ..)
  · exact goes_of_kept (State.disarmCommand_kept ..)
  · split
    · exact Goes.refl _
    · split
      · exact goes_of_kept (State.release_kept ..)
      · exact goes_of_kept (State.releaseLegs_kept ..)
  · exact goes_of_kept (State.resetCommand_kept ..)
  · exact goes_of_kept (State.layUp_kept ..)
  · exact goes_of_kept (State.dispatchCommand_kept ..)
  · exact goes_of_kept (State.swapCommand_kept ..)
  · exact goes_of_kept (State.platStage_kept ..)
  · exact State.platInstall_goes s
  · exact State.keyRevoke_goes ..
  · exact Goes.refl _
theorem State.serveCommand_goes (r : HostReq) (s : State) : Goes s.kept (State.serveCommand r s).kept := by
  unfold State.serveCommand; dsimp only
  refine Goes.ite _ (State.command1_goes ..) ?_
  rw [State.answer_kept]; exact State.command1_goes ..

theorem State.windowResume_goes : ∀ a0 a1 a2, Goes a2.kept (State.windowResume a0 a1 a2).kept := by
  intros
  unfold State.windowResume; (try dsimp only); (repeat' split)
  all_goals (repeat (first | with_reducible exact Goes.refl _ | with_reducible assumption | with_reducible refine Goes.trans ?_ (State.resumeCh_goes ..) | (simp only [kept_mk, kept_fold, kept_ite, ite_self, kept_foldl, keeps_next, keeps_ite, implies_true, fst_ite, snd_ite, outGoes_next, State.windowNow_kept, State.modWin_kept, State.windowReply_kept]) | with_reducible refine Goes.ite _ ?_ ?_ | (with_reducible refine Goes.store ?_ (fun h => ?_); rotate_left; (repeat' first | with_reducible assumption | with_reducible apply Memory.wf_program | with_reducible apply Memory.wf_erase | with_reducible apply Memory.wf_writeBytes | split))))
theorem State.serveWindow_goes (r : HostReq) (s : State) : Goes s.kept (State.serveWindow r s).kept := by
  unfold State.serveWindow; dsimp only
  refine Goes.ite _ ?_ (Goes.ite _ ?_ (Goes.ite _ ?_ (Goes.ite _ ?_ (Goes.ite _ (State.windowResume_goes ..) ?_))))
  all_goals refine goes_of_kept ?_
  all_goals simp only [kept_ite, ite_self, State.answer_kept, State.windowNow_kept, State.windowAbandon_kept, State.windowFlush_kept, State.windowRead_kept,
    State.windowWrite_kept, State.windowStart_kept]

theorem State.openSession_goes : ∀ a0 a1, Goes a1.kept (State.openSession a0 a1).kept := by
  intros
  unfold State.openSession; (try dsimp only); (repeat' split)
  all_goals (repeat (first | with_reducible exact Goes.refl _ | with_reducible assumption | (simp only [kept_mk, kept_fold, kept_ite, ite_self, kept_foldl, keeps_next, keeps_ite, implies_true, fst_ite, snd_ite, outGoes_next, State.modUpd_kept]) | with_reducible refine Goes.ite _ ?_ ?_ | (with_reducible refine Goes.store ?_ (fun h => ?_); rotate_left; (repeat' first | with_reducible assumption | with_reducible apply Memory.wf_program | with_reducible apply Memory.wf_erase | with_reducible apply Memory.wf_writeBytes | split))))
theorem State.updHeader_goes (r : HostReq) (s : State) : Goes s.kept (State.updHeader r s).kept := by
  unfold State.updHeader; dsimp only
  refine Goes.ite _ (goes_of_kept (by simp only [State.updAnswer_kept])) (Goes.ite _ (goes_of_kept (by
    simp only [State.updReject_kept, State.updRecord_kept])) (Goes.ite _ (goes_of_kept (by simp only [State.updAnswer_kept])) ?_))
  rw [State.updAnswer_kept]; exact State.openSession_goes ..
theorem State.bodyDone_goes : ∀ a0, Goes a0.kept (State.bodyDone a0).kept := by
  intros
  unfold State.bodyDone; (try dsimp only); (repeat' split)
  all_goals (repeat (first | with_reducible exact Goes.refl _ | with_reducible assumption | (simp only [kept_mk, kept_fold, kept_ite, ite_self, kept_foldl, keeps_next, keeps_ite, implies_true, fst_ite, snd_ite, outGoes_next, State.bodyReply_kept, State.modUpd_kept, State.updRecord_kept]) | with_reducible refine Goes.ite _ ?_ ?_ | (with_reducible refine Goes.store ?_ (fun h => ?_); rotate_left; (repeat' first | with_reducible assumption | with_reducible apply Memory.wf_program | with_reducible apply Memory.wf_erase | with_reducible apply Memory.wf_writeBytes | split))))
theorem State.bodyHalted_goes : ∀ a0, Goes a0.kept (State.bodyHalted a0).kept := by
  intros
  unfold State.bodyHalted; (try dsimp only); (repeat' split)
  all_goals (repeat (first | with_reducible exact Goes.refl _ | with_reducible assumption | (simp only [kept_mk, kept_fold, kept_ite, ite_self, kept_foldl, keeps_next, keeps_ite, implies_true, fst_ite, snd_ite, outGoes_next, State.abandonCh_kept, State.bodyReply_kept, State.modUpd_kept]) | with_reducible refine Goes.ite _ ?_ ?_ | (with_reducible refine Goes.store ?_ (fun h => ?_); rotate_left; (repeat' first | with_reducible assumption | with_reducible apply Memory.wf_program | with_reducible apply Memory.wf_erase | with_reducible apply Memory.wf_writeBytes | split))))
theorem State.updApply_goes : ∀ a0 a1, Goes a1.kept (State.updApply a0 a1).kept := by
  intros
  unfold State.updApply; (try dsimp only); (repeat' split)
  all_goals (repeat (first | with_reducible exact Goes.refl _ | with_reducible assumption | (simp only [kept_mk, kept_fold, kept_ite, ite_self, kept_foldl, keeps_next, keeps_ite, implies_true, fst_ite, snd_ite, outGoes_next, State.updReject_kept, State.updNote_kept, State.updAnswer_kept, State.modUpd_kept]) | with_reducible refine Goes.ite _ ?_ ?_ | (with_reducible refine Goes.store ?_ (fun h => ?_); rotate_left; (repeat' first | with_reducible assumption | with_reducible apply Memory.wf_program | with_reducible apply Memory.wf_erase | with_reducible apply Memory.wf_writeBytes | split))))
theorem State.applyEnds_goes (s : State) : Goes s.kept s.applyEnds.kept := by
  have first : Goes s.kept { s with store := Memory.program s.store (slotBase s.spareSlot + 4088 * 4096) s.upd.header }.kept :=
    ⟨rfl, Fuses.within_refl _, Memory.wf_program _ _ _, id⟩
  unfold State.applyEnds; dsimp only
  refine Goes.trans first (Goes.ite _ ?_ (Goes.ite _ ?_ ?_))
  · exact goes_of_kept (State.applyFails_kept ..)
  · exact goes_of_kept (State.applyFails_kept ..)
  · rw [State.updNote_kept, State.modUpd_kept]; exact State.programEntry_goes ..
theorem State.applyBlock_goes (s : State) : Goes s.kept s.applyBlock.kept := by
  unfold State.applyBlock; dsimp only
  refine Goes.ite _ (goes_of_kept (State.applyFails_kept ..)) ?_
  split
  · exact goes_of_kept (State.applyFails_kept ..)
  · rename_i out _
    have first : Goes s.kept { s with store := Memory.program s.store (slotBase s.spareSlot + s.upd.applied) out }.kept :=
      ⟨rfl, Fuses.within_refl _, Memory.wf_program _ _ _, id⟩
    refine Goes.trans (Goes.trans first (goes_of_kept (State.modUpd_kept (fun u => { u with applied := u.applied + out.length, block := u.block + 1 }) _)))
      (Goes.ite _ ?_ (Goes.ite _ (State.applyEnds_goes _) (Goes.ite _ (Goes.refl _) ?_)))
    · exact goes_of_kept (State.modUpd_kept ..)
    · exact goes_of_kept (State.modUpd_kept ..)
theorem execApplyBlockComplete_goes : ∀ a0 a1, OutGoes (execApplyBlockComplete a0 a1) a1 := by
  intros
  unfold execApplyBlockComplete; (try dsimp only); (repeat' split)
  all_goals (repeat (first | with_reducible exact Goes.refl _ | with_reducible assumption | with_reducible refine Goes.trans ?_ (State.applyBlock_goes ..) | (simp only [kept_mk, kept_fold, kept_ite, ite_self, kept_foldl, keeps_next, keeps_ite, implies_true, fst_ite, snd_ite, outGoes_next, State.applyFails_kept]) | with_reducible refine Goes.ite _ ?_ ?_ | (with_reducible refine Goes.store ?_ (fun h => ?_); rotate_left; (repeat' first | with_reducible assumption | with_reducible apply Memory.wf_program | with_reducible apply Memory.wf_erase | with_reducible apply Memory.wf_writeBytes | split))))
theorem State.serveUpdate_goes (r : HostReq) (s : State) : Goes s.kept (State.serveUpdate r s).kept := by
  unfold State.serveUpdate; dsimp only
  refine Goes.ite _ ?_ (Goes.ite _ ?_ (Goes.ite _ ?_ (Goes.ite _ ?_ (Goes.ite _ ?_ ?_))))
  · exact goes_of_kept (State.answer_kept ..)
  · exact goes_of_kept (State.answer_kept ..)
  · exact goes_of_kept (State.updAnswer_kept ..)
  · exact goes_of_kept (State.updAbort_kept ..)
  · exact goes_of_kept (State.updAnswer_kept ..)
  · split
    · exact State.updHeader_goes ..
    · exact goes_of_kept (State.updBody_kept ..)
    · exact State.updApply_goes ..
    · exact goes_of_kept (State.updStart_kept ..)
    · exact goes_of_kept (State.updRejectTrial_kept ..)
theorem State.revokeBelow_goes (n : Nat) (s : State) : Goes s.kept (State.revokeBelow n s).kept := by
  unfold State.revokeBelow
  refine Goes.ite _ (Goes.refl _) ?_
  rw [State.updRecord_kept]
  refine ⟨rfl, ⟨rfl, fun _ h => h, fun k h => ?_⟩, id, id⟩
  simp only [State.kept] at h ⊢
  rw [Vector.getElem_ofFn, h]; rfl
theorem State.confirmTrial_goes (s : State) : Goes s.kept s.confirmTrial.kept := by
  unfold State.confirmTrial; dsimp only
  refine Goes.trans ?_ (State.revokeBelow_goes ..)
  rw [State.modUpd_kept, State.updRecord_kept]; exact State.programEntry_goes ..
theorem State.trialFrame_goes (s : State) : Goes s.kept s.trialFrame.kept := by
  unfold State.trialFrame; dsimp only
  refine Goes.ite _ (Goes.refl _) (Goes.ite _ ?_ ?_)
  · refine Goes.trans ?_ (State.confirmTrial_goes _)
    exact goes_of_kept (State.modUpd_kept ..)
  · exact goes_of_kept (State.modUpd_kept ..)

theorem State.serve_goes (op : Nat) (r : HostReq) (s : State) : Goes s.kept (State.serve op r s).kept := by
  unfold State.serve; split
  · exact goes_of_kept (State.serveRead_kept ..)
  · exact goes_of_kept (State.serveWrite_kept ..)
  · exact goes_of_kept (State.serveSubscribe_kept ..)
  · exact State.serveCommand_goes ..
  · exact State.serveWindow_goes ..
  · exact State.serveUpdate_goes ..
  · exact goes_of_kept (State.serveEvents_kept ..)
  · exact goes_of_kept (State.serveCan_kept ..)
  · exact goes_of_kept (State.answer_kept ..)
theorem State.hostRequest_goes (op : Nat) (r : HostReq) (s : State) : Goes s.kept (State.hostRequest op r s).kept := by
  have first : Goes s.kept (s.hostCheck op r).1.kept := goes_of_kept (State.hostCheck_kept ..)
  unfold State.hostRequest; dsimp only
  refine Goes.trans first (Goes.ite _ (Goes.refl _) (Goes.ite _ (goes_of_kept (State.answer_kept ..)) (State.serve_goes ..)))
theorem State.subRequest_goes : ∀ a0 a1 a2 a3 a4 a5, Goes a5.kept (State.subRequest a0 a1 a2 a3 a4 a5).kept := by
  intros
  unfold State.subRequest; (try dsimp only); (repeat' split)
  all_goals (repeat (first | with_reducible exact Goes.refl _ | with_reducible assumption | with_reducible refine Goes.trans ?_ (State.hostRequest_goes ..) | (simp only [kept_mk, kept_fold, kept_ite, ite_self, kept_foldl, keeps_next, keeps_ite, implies_true, fst_ite, snd_ite, outGoes_next]) | with_reducible refine Goes.ite _ ?_ ?_ | (with_reducible refine Goes.store ?_ (fun h => ?_); rotate_left; (repeat' first | with_reducible assumption | with_reducible apply Memory.wf_program | with_reducible apply Memory.wf_erase | with_reducible apply Memory.wf_writeBytes | split))))
theorem execHostRead_goes : ∀ a0 a1, OutGoes (execHostRead a0 a1) a1 := by
  intros
  unfold execHostRead; (try dsimp only); (repeat' split)
  all_goals (repeat (first | with_reducible exact Goes.refl _ | with_reducible assumption | with_reducible refine Goes.trans ?_ (State.hostRequest_goes ..) | (simp only [kept_mk, kept_fold, kept_ite, ite_self, kept_foldl, keeps_next, keeps_ite, implies_true, fst_ite, snd_ite, outGoes_next]) | with_reducible refine Goes.ite _ ?_ ?_ | (with_reducible refine Goes.store ?_ (fun h => ?_); rotate_left; (repeat' first | with_reducible assumption | with_reducible apply Memory.wf_program | with_reducible apply Memory.wf_erase | with_reducible apply Memory.wf_writeBytes | split))))
theorem execHostWrite_goes : ∀ a0 a1, OutGoes (execHostWrite a0 a1) a1 := by
  intros
  unfold execHostWrite; (try dsimp only); (repeat' split)
  all_goals (repeat (first | with_reducible exact Goes.refl _ | with_reducible assumption | with_reducible refine Goes.trans ?_ (State.hostRequest_goes ..) | (simp only [kept_mk, kept_fold, kept_ite, ite_self, kept_foldl, keeps_next, keeps_ite, implies_true, fst_ite, snd_ite, outGoes_next]) | with_reducible refine Goes.ite _ ?_ ?_ | (with_reducible refine Goes.store ?_ (fun h => ?_); rotate_left; (repeat' first | with_reducible assumption | with_reducible apply Memory.wf_program | with_reducible apply Memory.wf_erase | with_reducible apply Memory.wf_writeBytes | split))))
theorem execHostSubscribe_goes : ∀ a0 a1, OutGoes (execHostSubscribe a0 a1) a1 := by
  intros
  unfold execHostSubscribe; (try dsimp only); (repeat' split)
  all_goals (repeat (first | with_reducible exact Goes.refl _ | with_reducible assumption | with_reducible refine Goes.trans ?_ (State.hostRequest_goes ..) | (simp only [kept_mk, kept_fold, kept_ite, ite_self, kept_foldl, keeps_next, keeps_ite, implies_true, fst_ite, snd_ite, outGoes_next]) | with_reducible refine Goes.ite _ ?_ ?_ | (with_reducible refine Goes.store ?_ (fun h => ?_); rotate_left; (repeat' first | with_reducible assumption | with_reducible apply Memory.wf_program | with_reducible apply Memory.wf_erase | with_reducible apply Memory.wf_writeBytes | split))))
theorem execEventsRead_goes : ∀ a0 a1, OutGoes (execEventsRead a0 a1) a1 := by
  intros
  unfold execEventsRead; (try dsimp only); (repeat' split)
  all_goals (repeat (first | with_reducible exact Goes.refl _ | with_reducible assumption | with_reducible refine Goes.trans ?_ (State.subRequest_goes ..) | (simp only [kept_mk, kept_fold, kept_ite, ite_self, kept_foldl, keeps_next, keeps_ite, implies_true, fst_ite, snd_ite, outGoes_next]) | with_reducible refine Goes.ite _ ?_ ?_ | (with_reducible refine Goes.store ?_ (fun h => ?_); rotate_left; (repeat' first | with_reducible assumption | with_reducible apply Memory.wf_program | with_reducible apply Memory.wf_erase | with_reducible apply Memory.wf_writeBytes | split))))
theorem execEventsFollow_goes : ∀ a0 a1, OutGoes (execEventsFollow a0 a1) a1 := by
  intros
  unfold execEventsFollow; (try dsimp only); (repeat' split)
  all_goals (repeat (first | with_reducible exact Goes.refl _ | with_reducible assumption | with_reducible refine Goes.trans ?_ (State.subRequest_goes ..) | (simp only [kept_mk, kept_fold, kept_ite, ite_self, kept_foldl, keeps_next, keeps_ite, implies_true, fst_ite, snd_ite, outGoes_next]) | with_reducible refine Goes.ite _ ?_ ?_ | (with_reducible refine Goes.store ?_ (fun h => ?_); rotate_left; (repeat' first | with_reducible assumption | with_reducible apply Memory.wf_program | with_reducible apply Memory.wf_erase | with_reducible apply Memory.wf_writeBytes | split))))
theorem execEventsUnfollow_goes : ∀ a0 a1, OutGoes (execEventsUnfollow a0 a1) a1 := by
  intros
  unfold execEventsUnfollow; (try dsimp only); (repeat' split)
  all_goals (repeat (first | with_reducible exact Goes.refl _ | with_reducible assumption | with_reducible refine Goes.trans ?_ (State.subRequest_goes ..) | (simp only [kept_mk, kept_fold, kept_ite, ite_self, kept_foldl, keeps_next, keeps_ite, implies_true, fst_ite, snd_ite, outGoes_next]) | with_reducible refine Goes.ite _ ?_ ?_ | (with_reducible refine Goes.store ?_ (fun h => ?_); rotate_left; (repeat' first | with_reducible assumption | with_reducible apply Memory.wf_program | with_reducible apply Memory.wf_erase | with_reducible apply Memory.wf_writeBytes | split))))
theorem execCommandArm_goes : ∀ a0 a1, OutGoes (execCommandArm a0 a1) a1 := by
  intros
  unfold execCommandArm; (try dsimp only); (repeat' split)
  all_goals (repeat (first | with_reducible exact Goes.refl _ | with_reducible assumption | with_reducible refine Goes.trans ?_ (State.subRequest_goes ..) | (simp only [kept_mk, kept_fold, kept_ite, ite_self, kept_foldl, keeps_next, keeps_ite, implies_true, fst_ite, snd_ite, outGoes_next]) | with_reducible refine Goes.ite _ ?_ ?_ | (with_reducible refine Goes.store ?_ (fun h => ?_); rotate_left; (repeat' first | with_reducible assumption | with_reducible apply Memory.wf_program | with_reducible apply Memory.wf_erase | with_reducible apply Memory.wf_writeBytes | split))))
theorem execCommandDisarm_goes : ∀ a0 a1, OutGoes (execCommandDisarm a0 a1) a1 := by
  intros
  unfold execCommandDisarm; (try dsimp only); (repeat' split)
  all_goals (repeat (first | with_reducible exact Goes.refl _ | with_reducible assumption | with_reducible refine Goes.trans ?_ (State.subRequest_goes ..) | (simp only [kept_mk, kept_fold, kept_ite, ite_self, kept_foldl, keeps_next, keeps_ite, implies_true, fst_ite, snd_ite, outGoes_next]) | with_reducible refine Goes.ite _ ?_ ?_ | (with_reducible refine Goes.store ?_ (fun h => ?_); rotate_left; (repeat' first | with_reducible assumption | with_reducible apply Memory.wf_program | with_reducible apply Memory.wf_erase | with_reducible apply Memory.wf_writeBytes | split))))
theorem execCommandRelease_goes : ∀ a0 a1, OutGoes (execCommandRelease a0 a1) a1 := by
  intros
  unfold execCommandRelease; (try dsimp only); (repeat' split)
  all_goals (repeat (first | with_reducible exact Goes.refl _ | with_reducible assumption | with_reducible refine Goes.trans ?_ (State.subRequest_goes ..) | (simp only [kept_mk, kept_fold, kept_ite, ite_self, kept_foldl, keeps_next, keeps_ite, implies_true, fst_ite, snd_ite, outGoes_next]) | with_reducible refine Goes.ite _ ?_ ?_ | (with_reducible refine Goes.store ?_ (fun h => ?_); rotate_left; (repeat' first | with_reducible assumption | with_reducible apply Memory.wf_program | with_reducible apply Memory.wf_erase | with_reducible apply Memory.wf_writeBytes | split))))
theorem execCommandReset_goes : ∀ a0 a1, OutGoes (execCommandReset a0 a1) a1 := by
  intros
  unfold execCommandReset; (try dsimp only); (repeat' split)
  all_goals (repeat (first | with_reducible exact Goes.refl _ | with_reducible assumption | with_reducible refine Goes.trans ?_ (State.subRequest_goes ..) | (simp only [kept_mk, kept_fold, kept_ite, ite_self, kept_foldl, keeps_next, keeps_ite, implies_true, fst_ite, snd_ite, outGoes_next]) | with_reducible refine Goes.ite _ ?_ ?_ | (with_reducible refine Goes.store ?_ (fun h => ?_); rotate_left; (repeat' first | with_reducible assumption | with_reducible apply Memory.wf_program | with_reducible apply Memory.wf_erase | with_reducible apply Memory.wf_writeBytes | split))))
theorem execCommandLayUp_goes : ∀ a0 a1, OutGoes (execCommandLayUp a0 a1) a1 := by
  intros
  unfold execCommandLayUp; (try dsimp only); (repeat' split)
  all_goals (repeat (first | with_reducible exact Goes.refl _ | with_reducible assumption | with_reducible refine Goes.trans ?_ (State.subRequest_goes ..) | (simp only [kept_mk, kept_fold, kept_ite, ite_self, kept_foldl, keeps_next, keeps_ite, implies_true, fst_ite, snd_ite, outGoes_next]) | with_reducible refine Goes.ite _ ?_ ?_ | (with_reducible refine Goes.store ?_ (fun h => ?_); rotate_left; (repeat' first | with_reducible assumption | with_reducible apply Memory.wf_program | with_reducible apply Memory.wf_erase | with_reducible apply Memory.wf_writeBytes | split))))
theorem execCommandDispatch_goes : ∀ a0 a1, OutGoes (execCommandDispatch a0 a1) a1 := by
  intros
  unfold execCommandDispatch; (try dsimp only); (repeat' split)
  all_goals (repeat (first | with_reducible exact Goes.refl _ | with_reducible assumption | with_reducible refine Goes.trans ?_ (State.subRequest_goes ..) | (simp only [kept_mk, kept_fold, kept_ite, ite_self, kept_foldl, keeps_next, keeps_ite, implies_true, fst_ite, snd_ite, outGoes_next]) | with_reducible refine Goes.ite _ ?_ ?_ | (with_reducible refine Goes.store ?_ (fun h => ?_); rotate_left; (repeat' first | with_reducible assumption | with_reducible apply Memory.wf_program | with_reducible apply Memory.wf_erase | with_reducible apply Memory.wf_writeBytes | split))))
theorem execCommandSwap_goes : ∀ a0 a1, OutGoes (execCommandSwap a0 a1) a1 := by
  intros
  unfold execCommandSwap; (try dsimp only); (repeat' split)
  all_goals (repeat (first | with_reducible exact Goes.refl _ | with_reducible assumption | with_reducible refine Goes.trans ?_ (State.subRequest_goes ..) | (simp only [kept_mk, kept_fold, kept_ite, ite_self, kept_foldl, keeps_next, keeps_ite, implies_true, fst_ite, snd_ite, outGoes_next]) | with_reducible refine Goes.ite _ ?_ ?_ | (with_reducible refine Goes.store ?_ (fun h => ?_); rotate_left; (repeat' first | with_reducible assumption | with_reducible apply Memory.wf_program | with_reducible apply Memory.wf_erase | with_reducible apply Memory.wf_writeBytes | split))))
theorem execCommandPlatStage_goes : ∀ a0 a1, OutGoes (execCommandPlatStage a0 a1) a1 := by
  intros
  unfold execCommandPlatStage; (try dsimp only); (repeat' split)
  all_goals (repeat (first | with_reducible exact Goes.refl _ | with_reducible assumption | with_reducible refine Goes.trans ?_ (State.subRequest_goes ..) | (simp only [kept_mk, kept_fold, kept_ite, ite_self, kept_foldl, keeps_next, keeps_ite, implies_true, fst_ite, snd_ite, outGoes_next]) | with_reducible refine Goes.ite _ ?_ ?_ | (with_reducible refine Goes.store ?_ (fun h => ?_); rotate_left; (repeat' first | with_reducible assumption | with_reducible apply Memory.wf_program | with_reducible apply Memory.wf_erase | with_reducible apply Memory.wf_writeBytes | split))))
theorem execCommandPlatInstall_goes : ∀ a0 a1, OutGoes (execCommandPlatInstall a0 a1) a1 := by
  intros
  unfold execCommandPlatInstall; (try dsimp only); (repeat' split)
  all_goals (repeat (first | with_reducible exact Goes.refl _ | with_reducible assumption | with_reducible refine Goes.trans ?_ (State.subRequest_goes ..) | (simp only [kept_mk, kept_fold, kept_ite, ite_self, kept_foldl, keeps_next, keeps_ite, implies_true, fst_ite, snd_ite, outGoes_next]) | with_reducible refine Goes.ite _ ?_ ?_ | (with_reducible refine Goes.store ?_ (fun h => ?_); rotate_left; (repeat' first | with_reducible assumption | with_reducible apply Memory.wf_program | with_reducible apply Memory.wf_erase | with_reducible apply Memory.wf_writeBytes | split))))
theorem execCommandKeyRevoke_goes : ∀ a0 a1, OutGoes (execCommandKeyRevoke a0 a1) a1 := by
  intros
  unfold execCommandKeyRevoke; (try dsimp only); (repeat' split)
  all_goals (repeat (first | with_reducible exact Goes.refl _ | with_reducible assumption | with_reducible refine Goes.trans ?_ (State.subRequest_goes ..) | (simp only [kept_mk, kept_fold, kept_ite, ite_self, kept_foldl, keeps_next, keeps_ite, implies_true, fst_ite, snd_ite, outGoes_next]) | with_reducible refine Goes.ite _ ?_ ?_ | (with_reducible refine Goes.store ?_ (fun h => ?_); rotate_left; (repeat' first | with_reducible assumption | with_reducible apply Memory.wf_program | with_reducible apply Memory.wf_erase | with_reducible apply Memory.wf_writeBytes | split))))
theorem execWindowRead_goes : ∀ a0 a1, OutGoes (execWindowRead a0 a1) a1 := by
  intros
  unfold execWindowRead; (try dsimp only); (repeat' split)
  all_goals (repeat (first | with_reducible exact Goes.refl _ | with_reducible assumption | with_reducible refine Goes.trans ?_ (State.subRequest_goes ..) | (simp only [kept_mk, kept_fold, kept_ite, ite_self, kept_foldl, keeps_next, keeps_ite, implies_true, fst_ite, snd_ite, outGoes_next]) | with_reducible refine Goes.ite _ ?_ ?_ | (with_reducible refine Goes.store ?_ (fun h => ?_); rotate_left; (repeat' first | with_reducible assumption | with_reducible apply Memory.wf_program | with_reducible apply Memory.wf_erase | with_reducible apply Memory.wf_writeBytes | split))))
theorem execWindowWrite_goes : ∀ a0 a1, OutGoes (execWindowWrite a0 a1) a1 := by
  intros
  unfold execWindowWrite; (try dsimp only); (repeat' split)
  all_goals (repeat (first | with_reducible exact Goes.refl _ | with_reducible assumption | with_reducible refine Goes.trans ?_ (State.subRequest_goes ..) | (simp only [kept_mk, kept_fold, kept_ite, ite_self, kept_foldl, keeps_next, keeps_ite, implies_true, fst_ite, snd_ite, outGoes_next]) | with_reducible refine Goes.ite _ ?_ ?_ | (with_reducible refine Goes.store ?_ (fun h => ?_); rotate_left; (repeat' first | with_reducible assumption | with_reducible apply Memory.wf_program | with_reducible apply Memory.wf_erase | with_reducible apply Memory.wf_writeBytes | split))))
theorem execWindowErase_goes : ∀ a0 a1, OutGoes (execWindowErase a0 a1) a1 := by
  intros
  unfold execWindowErase; (try dsimp only); (repeat' split)
  all_goals (repeat (first | with_reducible exact Goes.refl _ | with_reducible assumption | with_reducible refine Goes.trans ?_ (State.subRequest_goes ..) | (simp only [kept_mk, kept_fold, kept_ite, ite_self, kept_foldl, keeps_next, keeps_ite, implies_true, fst_ite, snd_ite, outGoes_next]) | with_reducible refine Goes.ite _ ?_ ?_ | (with_reducible refine Goes.store ?_ (fun h => ?_); rotate_left; (repeat' first | with_reducible assumption | with_reducible apply Memory.wf_program | with_reducible apply Memory.wf_erase | with_reducible apply Memory.wf_writeBytes | split))))
theorem execWindowFlush_goes : ∀ a0 a1, OutGoes (execWindowFlush a0 a1) a1 := by
  intros
  unfold execWindowFlush; (try dsimp only); (repeat' split)
  all_goals (repeat (first | with_reducible exact Goes.refl _ | with_reducible assumption | with_reducible refine Goes.trans ?_ (State.subRequest_goes ..) | (simp only [kept_mk, kept_fold, kept_ite, ite_self, kept_foldl, keeps_next, keeps_ite, implies_true, fst_ite, snd_ite, outGoes_next]) | with_reducible refine Goes.ite _ ?_ ?_ | (with_reducible refine Goes.store ?_ (fun h => ?_); rotate_left; (repeat' first | with_reducible assumption | with_reducible apply Memory.wf_program | with_reducible apply Memory.wf_erase | with_reducible apply Memory.wf_writeBytes | split))))
theorem execWindowStatus_goes : ∀ a0 a1, OutGoes (execWindowStatus a0 a1) a1 := by
  intros
  unfold execWindowStatus; (try dsimp only); (repeat' split)
  all_goals (repeat (first | with_reducible exact Goes.refl _ | with_reducible assumption | with_reducible refine Goes.trans ?_ (State.subRequest_goes ..) | (simp only [kept_mk, kept_fold, kept_ite, ite_self, kept_foldl, keeps_next, keeps_ite, implies_true, fst_ite, snd_ite, outGoes_next]) | with_reducible refine Goes.ite _ ?_ ?_ | (with_reducible refine Goes.store ?_ (fun h => ?_); rotate_left; (repeat' first | with_reducible assumption | with_reducible apply Memory.wf_program | with_reducible apply Memory.wf_erase | with_reducible apply Memory.wf_writeBytes | split))))
theorem execWindowResume_goes : ∀ a0 a1, OutGoes (execWindowResume a0 a1) a1 := by
  intros
  unfold execWindowResume; (try dsimp only); (repeat' split)
  all_goals (repeat (first | with_reducible exact Goes.refl _ | with_reducible assumption | with_reducible refine Goes.trans ?_ (State.subRequest_goes ..) | (simp only [kept_mk, kept_fold, kept_ite, ite_self, kept_foldl, keeps_next, keeps_ite, implies_true, fst_ite, snd_ite, outGoes_next]) | with_reducible refine Goes.ite _ ?_ ?_ | (with_reducible refine Goes.store ?_ (fun h => ?_); rotate_left; (repeat' first | with_reducible assumption | with_reducible apply Memory.wf_program | with_reducible apply Memory.wf_erase | with_reducible apply Memory.wf_writeBytes | split))))
theorem execWindowAbandon_goes : ∀ a0 a1, OutGoes (execWindowAbandon a0 a1) a1 := by
  intros
  unfold execWindowAbandon; (try dsimp only); (repeat' split)
  all_goals (repeat (first | with_reducible exact Goes.refl _ | with_reducible assumption | with_reducible refine Goes.trans ?_ (State.subRequest_goes ..) | (simp only [kept_mk, kept_fold, kept_ite, ite_self, kept_foldl, keeps_next, keeps_ite, implies_true, fst_ite, snd_ite, outGoes_next]) | with_reducible refine Goes.ite _ ?_ ?_ | (with_reducible refine Goes.store ?_ (fun h => ?_); rotate_left; (repeat' first | with_reducible assumption | with_reducible apply Memory.wf_program | with_reducible apply Memory.wf_erase | with_reducible apply Memory.wf_writeBytes | split))))
theorem execUpdateHeader_goes : ∀ a0 a1, OutGoes (execUpdateHeader a0 a1) a1 := by
  intros
  unfold execUpdateHeader; (try dsimp only); (repeat' split)
  all_goals (repeat (first | with_reducible exact Goes.refl _ | with_reducible assumption | with_reducible refine Goes.trans ?_ (State.subRequest_goes ..) | (simp only [kept_mk, kept_fold, kept_ite, ite_self, kept_foldl, keeps_next, keeps_ite, implies_true, fst_ite, snd_ite, outGoes_next]) | with_reducible refine Goes.ite _ ?_ ?_ | (with_reducible refine Goes.store ?_ (fun h => ?_); rotate_left; (repeat' first | with_reducible assumption | with_reducible apply Memory.wf_program | with_reducible apply Memory.wf_erase | with_reducible apply Memory.wf_writeBytes | split))))
theorem execUpdateBody_goes : ∀ a0 a1, OutGoes (execUpdateBody a0 a1) a1 := by
  intros
  unfold execUpdateBody; (try dsimp only); (repeat' split)
  all_goals (repeat (first | with_reducible exact Goes.refl _ | with_reducible assumption | with_reducible refine Goes.trans ?_ (State.subRequest_goes ..) | (simp only [kept_mk, kept_fold, kept_ite, ite_self, kept_foldl, keeps_next, keeps_ite, implies_true, fst_ite, snd_ite, outGoes_next]) | with_reducible refine Goes.ite _ ?_ ?_ | (with_reducible refine Goes.store ?_ (fun h => ?_); rotate_left; (repeat' first | with_reducible assumption | with_reducible apply Memory.wf_program | with_reducible apply Memory.wf_erase | with_reducible apply Memory.wf_writeBytes | split))))
theorem execUpdateApply_goes : ∀ a0 a1, OutGoes (execUpdateApply a0 a1) a1 := by
  intros
  unfold execUpdateApply; (try dsimp only); (repeat' split)
  all_goals (repeat (first | with_reducible exact Goes.refl _ | with_reducible assumption | with_reducible refine Goes.trans ?_ (State.subRequest_goes ..) | (simp only [kept_mk, kept_fold, kept_ite, ite_self, kept_foldl, keeps_next, keeps_ite, implies_true, fst_ite, snd_ite, outGoes_next]) | with_reducible refine Goes.ite _ ?_ ?_ | (with_reducible refine Goes.store ?_ (fun h => ?_); rotate_left; (repeat' first | with_reducible assumption | with_reducible apply Memory.wf_program | with_reducible apply Memory.wf_erase | with_reducible apply Memory.wf_writeBytes | split))))
theorem execUpdateStart_goes : ∀ a0 a1, OutGoes (execUpdateStart a0 a1) a1 := by
  intros
  unfold execUpdateStart; (try dsimp only); (repeat' split)
  all_goals (repeat (first | with_reducible exact Goes.refl _ | with_reducible assumption | with_reducible refine Goes.trans ?_ (State.subRequest_goes ..) | (simp only [kept_mk, kept_fold, kept_ite, ite_self, kept_foldl, keeps_next, keeps_ite, implies_true, fst_ite, snd_ite, outGoes_next]) | with_reducible refine Goes.ite _ ?_ ?_ | (with_reducible refine Goes.store ?_ (fun h => ?_); rotate_left; (repeat' first | with_reducible assumption | with_reducible apply Memory.wf_program | with_reducible apply Memory.wf_erase | with_reducible apply Memory.wf_writeBytes | split))))
theorem execUpdateReject_goes : ∀ a0 a1, OutGoes (execUpdateReject a0 a1) a1 := by
  intros
  unfold execUpdateReject; (try dsimp only); (repeat' split)
  all_goals (repeat (first | with_reducible exact Goes.refl _ | with_reducible assumption | with_reducible refine Goes.trans ?_ (State.subRequest_goes ..) | (simp only [kept_mk, kept_fold, kept_ite, ite_self, kept_foldl, keeps_next, keeps_ite, implies_true, fst_ite, snd_ite, outGoes_next]) | with_reducible refine Goes.ite _ ?_ ?_ | (with_reducible refine Goes.store ?_ (fun h => ?_); rotate_left; (repeat' first | with_reducible assumption | with_reducible apply Memory.wf_program | with_reducible apply Memory.wf_erase | with_reducible apply Memory.wf_writeBytes | split))))
theorem execUpdateAbort_goes : ∀ a0 a1, OutGoes (execUpdateAbort a0 a1) a1 := by
  intros
  unfold execUpdateAbort; (try dsimp only); (repeat' split)
  all_goals (repeat (first | with_reducible exact Goes.refl _ | with_reducible assumption | with_reducible refine Goes.trans ?_ (State.subRequest_goes ..) | (simp only [kept_mk, kept_fold, kept_ite, ite_self, kept_foldl, keeps_next, keeps_ite, implies_true, fst_ite, snd_ite, outGoes_next]) | with_reducible refine Goes.ite _ ?_ ?_ | (with_reducible refine Goes.store ?_ (fun h => ?_); rotate_left; (repeat' first | with_reducible assumption | with_reducible apply Memory.wf_program | with_reducible apply Memory.wf_erase | with_reducible apply Memory.wf_writeBytes | split))))
theorem execUpdateStatus_goes : ∀ a0 a1, OutGoes (execUpdateStatus a0 a1) a1 := by
  intros
  unfold execUpdateStatus; (try dsimp only); (repeat' split)
  all_goals (repeat (first | with_reducible exact Goes.refl _ | with_reducible assumption | with_reducible refine Goes.trans ?_ (State.subRequest_goes ..) | (simp only [kept_mk, kept_fold, kept_ite, ite_self, kept_foldl, keeps_next, keeps_ite, implies_true, fst_ite, snd_ite, outGoes_next]) | with_reducible refine Goes.ite _ ?_ ?_ | (with_reducible refine Goes.store ?_ (fun h => ?_); rotate_left; (repeat' first | with_reducible assumption | with_reducible apply Memory.wf_program | with_reducible apply Memory.wf_erase | with_reducible apply Memory.wf_writeBytes | split))))
theorem execCanTxLoad_goes : ∀ a0 a1, OutGoes (execCanTxLoad a0 a1) a1 := by
  intros
  unfold execCanTxLoad; (try dsimp only); (repeat' split)
  all_goals (repeat (first | with_reducible exact Goes.refl _ | with_reducible assumption | with_reducible refine Goes.trans ?_ (State.subRequest_goes ..) | (simp only [kept_mk, kept_fold, kept_ite, ite_self, kept_foldl, keeps_next, keeps_ite, implies_true, fst_ite, snd_ite, outGoes_next]) | with_reducible refine Goes.ite _ ?_ ?_ | (with_reducible refine Goes.store ?_ (fun h => ?_); rotate_left; (repeat' first | with_reducible assumption | with_reducible apply Memory.wf_program | with_reducible apply Memory.wf_erase | with_reducible apply Memory.wf_writeBytes | split))))
theorem execCanTxAbort_goes : ∀ a0 a1, OutGoes (execCanTxAbort a0 a1) a1 := by
  intros
  unfold execCanTxAbort; (try dsimp only); (repeat' split)
  all_goals (repeat (first | with_reducible exact Goes.refl _ | with_reducible assumption | with_reducible refine Goes.trans ?_ (State.subRequest_goes ..) | (simp only [kept_mk, kept_fold, kept_ite, ite_self, kept_foldl, keeps_next, keeps_ite, implies_true, fst_ite, snd_ite, outGoes_next]) | with_reducible refine Goes.ite _ ?_ ?_ | (with_reducible refine Goes.store ?_ (fun h => ?_); rotate_left; (repeat' first | with_reducible assumption | with_reducible apply Memory.wf_program | with_reducible apply Memory.wf_erase | with_reducible apply Memory.wf_writeBytes | split))))
theorem execCanTxStatus_goes : ∀ a0 a1, OutGoes (execCanTxStatus a0 a1) a1 := by
  intros
  unfold execCanTxStatus; (try dsimp only); (repeat' split)
  all_goals (repeat (first | with_reducible exact Goes.refl _ | with_reducible assumption | with_reducible refine Goes.trans ?_ (State.subRequest_goes ..) | (simp only [kept_mk, kept_fold, kept_ite, ite_self, kept_foldl, keeps_next, keeps_ite, implies_true, fst_ite, snd_ite, outGoes_next]) | with_reducible refine Goes.ite _ ?_ ?_ | (with_reducible refine Goes.store ?_ (fun h => ?_); rotate_left; (repeat' first | with_reducible assumption | with_reducible apply Memory.wf_program | with_reducible apply Memory.wf_erase | with_reducible apply Memory.wf_writeBytes | split))))
theorem execCanRxRead_goes : ∀ a0 a1, OutGoes (execCanRxRead a0 a1) a1 := by
  intros
  unfold execCanRxRead; (try dsimp only); (repeat' split)
  all_goals (repeat (first | with_reducible exact Goes.refl _ | with_reducible assumption | with_reducible refine Goes.trans ?_ (State.subRequest_goes ..) | (simp only [kept_mk, kept_fold, kept_ite, ite_self, kept_foldl, keeps_next, keeps_ite, implies_true, fst_ite, snd_ite, outGoes_next]) | with_reducible refine Goes.ite _ ?_ ?_ | (with_reducible refine Goes.store ?_ (fun h => ?_); rotate_left; (repeat' first | with_reducible assumption | with_reducible apply Memory.wf_program | with_reducible apply Memory.wf_erase | with_reducible apply Memory.wf_writeBytes | split))))
theorem execCanRxAck_goes : ∀ a0 a1, OutGoes (execCanRxAck a0 a1) a1 := by
  intros
  unfold execCanRxAck; (try dsimp only); (repeat' split)
  all_goals (repeat (first | with_reducible exact Goes.refl _ | with_reducible assumption | with_reducible refine Goes.trans ?_ (State.subRequest_goes ..) | (simp only [kept_mk, kept_fold, kept_ite, ite_self, kept_foldl, keeps_next, keeps_ite, implies_true, fst_ite, snd_ite, outGoes_next]) | with_reducible refine Goes.ite _ ?_ ?_ | (with_reducible refine Goes.store ?_ (fun h => ?_); rotate_left; (repeat' first | with_reducible assumption | with_reducible apply Memory.wf_program | with_reducible apply Memory.wf_erase | with_reducible apply Memory.wf_writeBytes | split))))
theorem execCanControllerStatus_goes : ∀ a0 a1, OutGoes (execCanControllerStatus a0 a1) a1 := by
  intros
  unfold execCanControllerStatus; (try dsimp only); (repeat' split)
  all_goals (repeat (first | with_reducible exact Goes.refl _ | with_reducible assumption | with_reducible refine Goes.trans ?_ (State.subRequest_goes ..) | (simp only [kept_mk, kept_fold, kept_ite, ite_self, kept_foldl, keeps_next, keeps_ite, implies_true, fst_ite, snd_ite, outGoes_next]) | with_reducible refine Goes.ite _ ?_ ?_ | (with_reducible refine Goes.store ?_ (fun h => ?_); rotate_left; (repeat' first | with_reducible assumption | with_reducible apply Memory.wf_program | with_reducible apply Memory.wf_erase | with_reducible apply Memory.wf_writeBytes | split))))
theorem State.ownEvent_goes : ∀ a0 a1, Goes a1.kept (State.ownEvent a0 a1).kept := by
  intros
  unfold State.ownEvent; (try dsimp only); (repeat' split)
  all_goals (repeat (first | with_reducible exact Goes.refl _ | with_reducible assumption | with_reducible refine Goes.trans ?_ (State.bodyDone_goes ..) | with_reducible refine Goes.trans ?_ (State.bookHalted_goes ..) | with_reducible refine Goes.trans ?_ (State.eraseAheadHalted_goes ..) | with_reducible refine Goes.trans ?_ (State.bodyHalted_goes ..) | (simp only [kept_mk, kept_fold, kept_ite, ite_self, kept_foldl, keeps_next, keeps_ite, implies_true, fst_ite, snd_ite, outGoes_next, State.bookDone_kept, State.bookNext_kept, State.eraseAheadDone_kept, State.windowReply_kept]) | with_reducible refine Goes.ite _ ?_ ?_ | (with_reducible refine Goes.store ?_ (fun h => ?_); rotate_left; (repeat' first | with_reducible assumption | with_reducible apply Memory.wf_program | with_reducible apply Memory.wf_erase | with_reducible apply Memory.wf_writeBytes | split))))
theorem execDmaBurst_goes : ∀ a0 a1 a2, OutGoes (execDmaBurst a0 a1 a2) a2 := by
  intros
  unfold execDmaBurst; (try dsimp only); (repeat' split)
  all_goals (repeat (first | with_reducible exact Goes.refl _ | with_reducible assumption | with_reducible refine Goes.trans ?_ (State.ownEvent_goes ..) | (simp only [kept_mk, kept_fold, kept_ite, ite_self, kept_foldl, keeps_next, keeps_ite, implies_true, fst_ite, snd_ite, outGoes_next, State.burstOn_kept]) | with_reducible refine Goes.ite _ ?_ ?_ | (with_reducible refine Goes.store ?_ (fun h => ?_); rotate_left; (repeat' first | with_reducible assumption | with_reducible apply Memory.wf_program | with_reducible apply Memory.wf_erase | with_reducible apply Memory.wf_writeBytes | split))))
theorem execFlashProgramComplete_goes : ∀ a0 a1 a2, OutGoes (execFlashProgramComplete a0 a1 a2) a2 := by
  intros
  unfold execFlashProgramComplete; (try dsimp only); (repeat' split)
  all_goals (repeat (first | with_reducible exact Goes.refl _ | with_reducible assumption | with_reducible refine Goes.trans ?_ (State.programDone_goes ..) | with_reducible refine Goes.trans ?_ (State.ownEvent_goes ..) | (simp only [kept_mk, kept_fold, kept_ite, ite_self, kept_foldl, keeps_next, keeps_ite, implies_true, fst_ite, snd_ite, outGoes_next]) | with_reducible refine Goes.ite _ ?_ ?_ | (with_reducible refine Goes.store ?_ (fun h => ?_); rotate_left; (repeat' first | with_reducible assumption | with_reducible apply Memory.wf_program | with_reducible apply Memory.wf_erase | with_reducible apply Memory.wf_writeBytes | split))))
theorem execFlashEraseComplete_goes : ∀ a0 a1 a2, OutGoes (execFlashEraseComplete a0 a1 a2) a2 := by
  intros
  unfold execFlashEraseComplete; (try dsimp only); (repeat' split)
  all_goals (repeat (first | with_reducible exact Goes.refl _ | with_reducible assumption | with_reducible refine Goes.trans ?_ (State.eraseDone_goes ..) | with_reducible refine Goes.trans ?_ (State.ownEvent_goes ..) | (simp only [kept_mk, kept_fold, kept_ite, ite_self, kept_foldl, keeps_next, keeps_ite, implies_true, fst_ite, snd_ite, outGoes_next]) | with_reducible refine Goes.ite _ ?_ ?_ | (with_reducible refine Goes.store ?_ (fun h => ?_); rotate_left; (repeat' first | with_reducible assumption | with_reducible apply Memory.wf_program | with_reducible apply Memory.wf_erase | with_reducible apply Memory.wf_writeBytes | split))))
theorem execDmaResume_goes : ∀ a0 a1 a2, OutGoes (execDmaResume a0 a1 a2) a2 := by
  intros
  unfold execDmaResume; (try dsimp only); (repeat' split)
  all_goals (repeat (first | with_reducible exact Goes.refl _ | with_reducible assumption | with_reducible refine Goes.trans ?_ (State.resumeCh_goes ..) | with_reducible refine Goes.trans ?_ (State.ownEvent_goes ..) | (simp only [kept_mk, kept_fold, kept_ite, ite_self, kept_foldl, keeps_next, keeps_ite, implies_true, fst_ite, snd_ite, outGoes_next]) | with_reducible refine Goes.ite _ ?_ ?_ | (with_reducible refine Goes.store ?_ (fun h => ?_); rotate_left; (repeat' first | with_reducible assumption | with_reducible apply Memory.wf_program | with_reducible apply Memory.wf_erase | with_reducible apply Memory.wf_writeBytes | split))))
theorem execPortTimeout_goes (p : Fin 2) (s : State) : OutGoes (execPortTimeout p s) s := by
  unfold execPortTimeout; split
  · exact Goes.refl _
  · refine Goes.trans ?_ (Goes.foldl _ (fun t e => State.ownEvent_goes ..) _ _)
    exact goes_of_kept (State.timeoutPort_kept ..)

theorem State.serveHeld_goes (s : State) : Goes s.kept s.serveHeld.kept := by
  unfold State.serveHeld
  refine Goes.trans ?_ (Goes.foldl _ (fun t p => State.hostRequest_goes ..) _ _)
  exact goes_of_kept (State.modHost_kept ..)
theorem execKeyRederivationComplete_goes : ∀ a0 a1, OutGoes (execKeyRederivationComplete a0 a1) a1 := by
  intros
  unfold execKeyRederivationComplete; (try dsimp only); (repeat' split)
  all_goals (repeat (first | with_reducible exact Goes.refl _ | with_reducible assumption | with_reducible refine Goes.trans ?_ (State.serveHeld_goes ..) | (simp only [kept_mk, kept_fold, kept_ite, ite_self, kept_foldl, keeps_next, keeps_ite, implies_true, fst_ite, snd_ite, outGoes_next, State.endSlice_kept, State.modBist_kept, State.bistRecord_kept]) | with_reducible refine Goes.ite _ ?_ ?_ | (with_reducible refine Goes.store ?_ (fun h => ?_); rotate_left; (repeat' first | with_reducible assumption | with_reducible apply Memory.wf_program | with_reducible apply Memory.wf_erase | with_reducible apply Memory.wf_writeBytes | split))))

theorem execPlatInstallProgram_goes (b : List Byte) (s : State) : OutGoes (execPlatInstallProgram b s) s := by
  have flash : ∀ m, (Memory.wf s.plat.flash = true → Memory.wf m = true) → Goes s.kept { s with plat := { s.plat with flash := m } }.kept :=
    fun m h => ⟨rfl, Fuses.within_refl _, id, h⟩
  have fail : ∀ t u : State, Goes t.kept u.kept → Goes t.kept { u with plat := { u.plat with installFail := true } }.kept := fun _ _ h => h
  have good : ∀ t u : State, Goes t.kept u.kept → Goes t.kept { u with plat := { u.plat with installed := true } }.kept := fun _ _ h => h
  unfold execPlatInstallProgram
  split
  · exact Goes.refl _
  · rename_i e _
    split
    · exact Goes.refl _
    · split
      · exact fail _ _ (State.programInstall_goes ..)
      · dsimp only
        have base := flash (Memory.program (Memory.erase s.plat.flash (platBase (e.target % 2)) ((s.stagedCopy.length + 4095) / 4096 * 4096)) (platBase (e.target % 2)) b) (fun h => Memory.wf_program _ _ _ (Memory.wf_erase _ _ _ h))
        split
        · exact base.trans (good _ _ (State.programInstall_goes ..))
        · split
          · exact base.trans (State.programInstall_goes ..)
          · exact base.trans (fail _ _ (State.programInstall_goes ..))

theorem State.archivePlat_goes : ∀ a0, Goes a0.kept (State.archivePlat a0).kept := by
  intros
  unfold State.archivePlat; (try dsimp only); (repeat' split)
  all_goals (repeat (first | with_reducible exact Goes.refl _ | with_reducible assumption | (simp only [kept_mk, kept_fold, kept_ite, ite_self, kept_foldl, keeps_next, keeps_ite, implies_true, fst_ite, snd_ite, outGoes_next]) | with_reducible refine Goes.ite _ ?_ ?_ | (with_reducible refine Goes.store ?_ (fun h => ?_); rotate_left; (repeat' first | with_reducible assumption | with_reducible apply Memory.wf_program | with_reducible apply Memory.wf_erase | with_reducible apply Memory.wf_writeBytes | split))))
theorem execWindowW5Store_goes (s : State) : OutGoes (execWindowW5Store s) s := by
  unfold execWindowW5Store; split
  · exact Goes.refl _
  · refine Goes.trans (Goes.trans ?_ (State.archivePlat_goes _)) (State.trialFrame_goes _)
    exact goes_of_kept (by simp only [State.bookNext_kept, State.modFb_kept, State.sendFrameWords_kept])

end Sys2Proof.Machine
end

