-- ==== Sys2Proof/Laws/State.lean ====
section
/-! SUPPORT. What each update of State leaves alone, field by field, and what it makes of its own field, so that no proof
unfolds a record update; and the two laws of a vector element. -/
namespace Sys2Proof.Machine

/-- An element changed by vmod. -/
@[simp] theorem vmod_same {α : Type} {n : Nat} (v : Vector α n) (i : Fin n) (f : α → α) : (vmod v i f)[i.val] = f v[i.val] := by
  simp [vmod]
/-- The other elements stay. -/
theorem vmod_other {α : Type} {n : Nat} (v : Vector α n) (i j : Fin n) (f : α → α) (h : j ≠ i) : (vmod v i f)[j.val] = v[j.val] := by
  have : i.val ≠ j.val := fun e => h (Fin.ext e.symm)
  simp [vmod, this]

/-- `State.modConv` changes conv alone. -/
@[simp] theorem State.modConv_conv (leg f s) : (State.modConv leg f s).conv = vmod s.conv leg f := rfl
@[simp] theorem State.modConv_mode (leg f s) : (State.modConv leg f s).mode = s.mode := rfl
@[simp] theorem State.modConv_role (leg f s) : (State.modConv leg f s).role = s.role := rfl
@[simp] theorem State.modConv_supply (leg f s) : (State.modConv leg f s).supply = s.supply := rfl
@[simp] theorem State.modConv_resetReq (leg f s) : (State.modConv leg f s).resetReq = s.resetReq := rfl
@[simp] theorem State.modConv_ret (leg f s) : (State.modConv leg f s).ret = s.ret := rfl
@[simp] theorem State.modConv_fuses (leg f s) : (State.modConv leg f s).fuses = s.fuses := rfl
@[simp] theorem State.modConv_layup (leg f s) : (State.modConv leg f s).layup = s.layup := rfl
@[simp] theorem State.modConv_start (leg f s) : (State.modConv leg f s).start = s.start := rfl
@[simp] theorem State.modConv_plat (leg f s) : (State.modConv leg f s).plat = s.plat := rfl
@[simp] theorem State.modConv_grid (leg f s) : (State.modConv leg f s).grid = s.grid := rfl
@[simp] theorem State.modConv_time (leg f s) : (State.modConv leg f s).time = s.time := rfl
@[simp] theorem State.modConv_win (leg f s) : (State.modConv leg f s).win = s.win := rfl
@[simp] theorem State.modConv_base (leg f s) : (State.modConv leg f s).base = s.base := rfl
@[simp] theorem State.modConv_fb (leg f s) : (State.modConv leg f s).fb = s.fb := rfl
@[simp] theorem State.modConv_lat (leg f s) : (State.modConv leg f s).lat = s.lat := rfl
@[simp] theorem State.modConv_fld (leg f s) : (State.modConv leg f s).fld = s.fld := rfl
@[simp] theorem State.modConv_sf (leg f s) : (State.modConv leg f s).sf = s.sf := rfl
@[simp] theorem State.modConv_ring (leg f s) : (State.modConv leg f s).ring = s.ring := rfl
@[simp] theorem State.modConv_diag (leg f s) : (State.modConv leg f s).diag = s.diag := rfl
@[simp] theorem State.modConv_sdiag (leg f s) : (State.modConv leg f s).sdiag = s.sdiag := rfl
@[simp] theorem State.modConv_cells (leg f s) : (State.modConv leg f s).cells = s.cells := rfl
@[simp] theorem State.modConv_temps (leg f s) : (State.modConv leg f s).temps = s.temps := rfl
@[simp] theorem State.modConv_balEnable (leg f s) : (State.modConv leg f s).balEnable = s.balEnable := rfl
@[simp] theorem State.modConv_est (leg f s) : (State.modConv leg f s).est = s.est := rfl
@[simp] theorem State.modConv_eleg (leg f s) : (State.modConv leg f s).eleg = s.eleg := rfl
@[simp] theorem State.modConv_probe (leg f s) : (State.modConv leg f s).probe = s.probe := rfl
@[simp] theorem State.modConv_stringSoc (leg f s) : (State.modConv leg f s).stringSoc = s.stringSoc := rfl
@[simp] theorem State.modConv_probeEnable (leg f s) : (State.modConv leg f s).probeEnable = s.probeEnable := rfl
@[simp] theorem State.modConv_natEnable (leg f s) : (State.modConv leg f s).natEnable = s.natEnable := rfl
@[simp] theorem State.modConv_llim (leg f s) : (State.modConv leg f s).llim = s.llim := rfl
@[simp] theorem State.modConv_slim (leg f s) : (State.modConv leg f s).slim = s.slim := rfl
@[simp] theorem State.modConv_learn (leg f s) : (State.modConv leg f s).learn = s.learn := rfl
@[simp] theorem State.modConv_pwm (leg f s) : (State.modConv leg f s).pwm = s.pwm := rfl
@[simp] theorem State.modConv_cle (leg f s) : (State.modConv leg f s).cle = s.cle := rfl
@[simp] theorem State.modConv_str (leg f s) : (State.modConv leg f s).str = s.str := rfl
@[simp] theorem State.modConv_therm (leg f s) : (State.modConv leg f s).therm = s.therm := rfl
@[simp] theorem State.modConv_mdOffset (leg f s) : (State.modConv leg f s).mdOffset = s.mdOffset := rfl
@[simp] theorem State.modConv_mdOffsetDue (leg f s) : (State.modConv leg f s).mdOffsetDue = s.mdOffsetDue := rfl
@[simp] theorem State.modConv_axis (leg f s) : (State.modConv leg f s).axis = s.axis := rfl
@[simp] theorem State.modConv_twin (leg f s) : (State.modConv leg f s).twin = s.twin := rfl
@[simp] theorem State.modConv_su (leg f s) : (State.modConv leg f s).su = s.su := rfl
@[simp] theorem State.modConv_net (leg f s) : (State.modConv leg f s).net = s.net := rfl
@[simp] theorem State.modConv_host (leg f s) : (State.modConv leg f s).host = s.host := rfl
@[simp] theorem State.modConv_can (leg f s) : (State.modConv leg f s).can = s.can := rfl
@[simp] theorem State.modConv_signal (leg f s) : (State.modConv leg f s).signal = s.signal := rfl
@[simp] theorem State.modConv_signalValid (leg f s) : (State.modConv leg f s).signalValid = s.signalValid := rfl
@[simp] theorem State.modConv_canSealed (leg f s) : (State.modConv leg f s).canSealed = s.canSealed := rfl
@[simp] theorem State.modConv_upd (leg f s) : (State.modConv leg f s).upd = s.upd := rfl
@[simp] theorem State.modConv_bist (leg f s) : (State.modConv leg f s).bist = s.bist := rfl
@[simp] theorem State.modConv_events (leg f s) : (State.modConv leg f s).events = s.events := rfl
@[simp] theorem State.modConv_store (leg f s) : (State.modConv leg f s).store = s.store := rfl
@[simp] theorem State.modConv_freeCounter (leg f s) : (State.modConv leg f s).freeCounter = s.freeCounter := rfl
@[simp] theorem State.modConv_pending (leg f s) : (State.modConv leg f s).pending = s.pending := rfl

/-- `State.modCle` changes cle alone. -/
@[simp] theorem State.modCle_cle (leg f s) : (State.modCle leg f s).cle = vmod s.cle leg f := rfl
@[simp] theorem State.modCle_mode (leg f s) : (State.modCle leg f s).mode = s.mode := rfl
@[simp] theorem State.modCle_role (leg f s) : (State.modCle leg f s).role = s.role := rfl
@[simp] theorem State.modCle_supply (leg f s) : (State.modCle leg f s).supply = s.supply := rfl
@[simp] theorem State.modCle_resetReq (leg f s) : (State.modCle leg f s).resetReq = s.resetReq := rfl
@[simp] theorem State.modCle_ret (leg f s) : (State.modCle leg f s).ret = s.ret := rfl
@[simp] theorem State.modCle_fuses (leg f s) : (State.modCle leg f s).fuses = s.fuses := rfl
@[simp] theorem State.modCle_layup (leg f s) : (State.modCle leg f s).layup = s.layup := rfl
@[simp] theorem State.modCle_start (leg f s) : (State.modCle leg f s).start = s.start := rfl
@[simp] theorem State.modCle_plat (leg f s) : (State.modCle leg f s).plat = s.plat := rfl
@[simp] theorem State.modCle_grid (leg f s) : (State.modCle leg f s).grid = s.grid := rfl
@[simp] theorem State.modCle_time (leg f s) : (State.modCle leg f s).time = s.time := rfl
@[simp] theorem State.modCle_win (leg f s) : (State.modCle leg f s).win = s.win := rfl
@[simp] theorem State.modCle_base (leg f s) : (State.modCle leg f s).base = s.base := rfl
@[simp] theorem State.modCle_fb (leg f s) : (State.modCle leg f s).fb = s.fb := rfl
@[simp] theorem State.modCle_lat (leg f s) : (State.modCle leg f s).lat = s.lat := rfl
@[simp] theorem State.modCle_fld (leg f s) : (State.modCle leg f s).fld = s.fld := rfl
@[simp] theorem State.modCle_sf (leg f s) : (State.modCle leg f s).sf = s.sf := rfl
@[simp] theorem State.modCle_ring (leg f s) : (State.modCle leg f s).ring = s.ring := rfl
@[simp] theorem State.modCle_diag (leg f s) : (State.modCle leg f s).diag = s.diag := rfl
@[simp] theorem State.modCle_sdiag (leg f s) : (State.modCle leg f s).sdiag = s.sdiag := rfl
@[simp] theorem State.modCle_cells (leg f s) : (State.modCle leg f s).cells = s.cells := rfl
@[simp] theorem State.modCle_temps (leg f s) : (State.modCle leg f s).temps = s.temps := rfl
@[simp] theorem State.modCle_balEnable (leg f s) : (State.modCle leg f s).balEnable = s.balEnable := rfl
@[simp] theorem State.modCle_est (leg f s) : (State.modCle leg f s).est = s.est := rfl
@[simp] theorem State.modCle_eleg (leg f s) : (State.modCle leg f s).eleg = s.eleg := rfl
@[simp] theorem State.modCle_probe (leg f s) : (State.modCle leg f s).probe = s.probe := rfl
@[simp] theorem State.modCle_stringSoc (leg f s) : (State.modCle leg f s).stringSoc = s.stringSoc := rfl
@[simp] theorem State.modCle_probeEnable (leg f s) : (State.modCle leg f s).probeEnable = s.probeEnable := rfl
@[simp] theorem State.modCle_natEnable (leg f s) : (State.modCle leg f s).natEnable = s.natEnable := rfl
@[simp] theorem State.modCle_llim (leg f s) : (State.modCle leg f s).llim = s.llim := rfl
@[simp] theorem State.modCle_slim (leg f s) : (State.modCle leg f s).slim = s.slim := rfl
@[simp] theorem State.modCle_learn (leg f s) : (State.modCle leg f s).learn = s.learn := rfl
@[simp] theorem State.modCle_conv (leg f s) : (State.modCle leg f s).conv = s.conv := rfl
@[simp] theorem State.modCle_pwm (leg f s) : (State.modCle leg f s).pwm = s.pwm := rfl
@[simp] theorem State.modCle_str (leg f s) : (State.modCle leg f s).str = s.str := rfl
@[simp] theorem State.modCle_therm (leg f s) : (State.modCle leg f s).therm = s.therm := rfl
@[simp] theorem State.modCle_mdOffset (leg f s) : (State.modCle leg f s).mdOffset = s.mdOffset := rfl
@[simp] theorem State.modCle_mdOffsetDue (leg f s) : (State.modCle leg f s).mdOffsetDue = s.mdOffsetDue := rfl
@[simp] theorem State.modCle_axis (leg f s) : (State.modCle leg f s).axis = s.axis := rfl
@[simp] theorem State.modCle_twin (leg f s) : (State.modCle leg f s).twin = s.twin := rfl
@[simp] theorem State.modCle_su (leg f s) : (State.modCle leg f s).su = s.su := rfl
@[simp] theorem State.modCle_net (leg f s) : (State.modCle leg f s).net = s.net := rfl
@[simp] theorem State.modCle_host (leg f s) : (State.modCle leg f s).host = s.host := rfl
@[simp] theorem State.modCle_can (leg f s) : (State.modCle leg f s).can = s.can := rfl
@[simp] theorem State.modCle_signal (leg f s) : (State.modCle leg f s).signal = s.signal := rfl
@[simp] theorem State.modCle_signalValid (leg f s) : (State.modCle leg f s).signalValid = s.signalValid := rfl
@[simp] theorem State.modCle_canSealed (leg f s) : (State.modCle leg f s).canSealed = s.canSealed := rfl
@[simp] theorem State.modCle_upd (leg f s) : (State.modCle leg f s).upd = s.upd := rfl
@[simp] theorem State.modCle_bist (leg f s) : (State.modCle leg f s).bist = s.bist := rfl
@[simp] theorem State.modCle_events (leg f s) : (State.modCle leg f s).events = s.events := rfl
@[simp] theorem State.modCle_store (leg f s) : (State.modCle leg f s).store = s.store := rfl
@[simp] theorem State.modCle_freeCounter (leg f s) : (State.modCle leg f s).freeCounter = s.freeCounter := rfl
@[simp] theorem State.modCle_pending (leg f s) : (State.modCle leg f s).pending = s.pending := rfl

/-- `State.modPwm` changes pwm alone. -/
@[simp] theorem State.modPwm_pwm (p f s) : (State.modPwm p f s).pwm = vmod s.pwm p f := rfl
@[simp] theorem State.modPwm_mode (p f s) : (State.modPwm p f s).mode = s.mode := rfl
@[simp] theorem State.modPwm_role (p f s) : (State.modPwm p f s).role = s.role := rfl
@[simp] theorem State.modPwm_supply (p f s) : (State.modPwm p f s).supply = s.supply := rfl
@[simp] theorem State.modPwm_resetReq (p f s) : (State.modPwm p f s).resetReq = s.resetReq := rfl
@[simp] theorem State.modPwm_ret (p f s) : (State.modPwm p f s).ret = s.ret := rfl
@[simp] theorem State.modPwm_fuses (p f s) : (State.modPwm p f s).fuses = s.fuses := rfl
@[simp] theorem State.modPwm_layup (p f s) : (State.modPwm p f s).layup = s.layup := rfl
@[simp] theorem State.modPwm_start (p f s) : (State.modPwm p f s).start = s.start := rfl
@[simp] theorem State.modPwm_plat (p f s) : (State.modPwm p f s).plat = s.plat := rfl
@[simp] theorem State.modPwm_grid (p f s) : (State.modPwm p f s).grid = s.grid := rfl
@[simp] theorem State.modPwm_time (p f s) : (State.modPwm p f s).time = s.time := rfl
@[simp] theorem State.modPwm_win (p f s) : (State.modPwm p f s).win = s.win := rfl
@[simp] theorem State.modPwm_base (p f s) : (State.modPwm p f s).base = s.base := rfl
@[simp] theorem State.modPwm_fb (p f s) : (State.modPwm p f s).fb = s.fb := rfl
@[simp] theorem State.modPwm_lat (p f s) : (State.modPwm p f s).lat = s.lat := rfl
@[simp] theorem State.modPwm_fld (p f s) : (State.modPwm p f s).fld = s.fld := rfl
@[simp] theorem State.modPwm_sf (p f s) : (State.modPwm p f s).sf = s.sf := rfl
@[simp] theorem State.modPwm_ring (p f s) : (State.modPwm p f s).ring = s.ring := rfl
@[simp] theorem State.modPwm_diag (p f s) : (State.modPwm p f s).diag = s.diag := rfl
@[simp] theorem State.modPwm_sdiag (p f s) : (State.modPwm p f s).sdiag = s.sdiag := rfl
@[simp] theorem State.modPwm_cells (p f s) : (State.modPwm p f s).cells = s.cells := rfl
@[simp] theorem State.modPwm_temps (p f s) : (State.modPwm p f s).temps = s.temps := rfl
@[simp] theorem State.modPwm_balEnable (p f s) : (State.modPwm p f s).balEnable = s.balEnable := rfl
@[simp] theorem State.modPwm_est (p f s) : (State.modPwm p f s).est = s.est := rfl
@[simp] theorem State.modPwm_eleg (p f s) : (State.modPwm p f s).eleg = s.eleg := rfl
@[simp] theorem State.modPwm_probe (p f s) : (State.modPwm p f s).probe = s.probe := rfl
@[simp] theorem State.modPwm_stringSoc (p f s) : (State.modPwm p f s).stringSoc = s.stringSoc := rfl
@[simp] theorem State.modPwm_probeEnable (p f s) : (State.modPwm p f s).probeEnable = s.probeEnable := rfl
@[simp] theorem State.modPwm_natEnable (p f s) : (State.modPwm p f s).natEnable = s.natEnable := rfl
@[simp] theorem State.modPwm_llim (p f s) : (State.modPwm p f s).llim = s.llim := rfl
@[simp] theorem State.modPwm_slim (p f s) : (State.modPwm p f s).slim = s.slim := rfl
@[simp] theorem State.modPwm_learn (p f s) : (State.modPwm p f s).learn = s.learn := rfl
@[simp] theorem State.modPwm_conv (p f s) : (State.modPwm p f s).conv = s.conv := rfl
@[simp] theorem State.modPwm_cle (p f s) : (State.modPwm p f s).cle = s.cle := rfl
@[simp] theorem State.modPwm_str (p f s) : (State.modPwm p f s).str = s.str := rfl
@[simp] theorem State.modPwm_therm (p f s) : (State.modPwm p f s).therm = s.therm := rfl
@[simp] theorem State.modPwm_mdOffset (p f s) : (State.modPwm p f s).mdOffset = s.mdOffset := rfl
@[simp] theorem State.modPwm_mdOffsetDue (p f s) : (State.modPwm p f s).mdOffsetDue = s.mdOffsetDue := rfl
@[simp] theorem State.modPwm_axis (p f s) : (State.modPwm p f s).axis = s.axis := rfl
@[simp] theorem State.modPwm_twin (p f s) : (State.modPwm p f s).twin = s.twin := rfl
@[simp] theorem State.modPwm_su (p f s) : (State.modPwm p f s).su = s.su := rfl
@[simp] theorem State.modPwm_net (p f s) : (State.modPwm p f s).net = s.net := rfl
@[simp] theorem State.modPwm_host (p f s) : (State.modPwm p f s).host = s.host := rfl
@[simp] theorem State.modPwm_can (p f s) : (State.modPwm p f s).can = s.can := rfl
@[simp] theorem State.modPwm_signal (p f s) : (State.modPwm p f s).signal = s.signal := rfl
@[simp] theorem State.modPwm_signalValid (p f s) : (State.modPwm p f s).signalValid = s.signalValid := rfl
@[simp] theorem State.modPwm_canSealed (p f s) : (State.modPwm p f s).canSealed = s.canSealed := rfl
@[simp] theorem State.modPwm_upd (p f s) : (State.modPwm p f s).upd = s.upd := rfl
@[simp] theorem State.modPwm_bist (p f s) : (State.modPwm p f s).bist = s.bist := rfl
@[simp] theorem State.modPwm_events (p f s) : (State.modPwm p f s).events = s.events := rfl
@[simp] theorem State.modPwm_store (p f s) : (State.modPwm p f s).store = s.store := rfl
@[simp] theorem State.modPwm_freeCounter (p f s) : (State.modPwm p f s).freeCounter = s.freeCounter := rfl
@[simp] theorem State.modPwm_pending (p f s) : (State.modPwm p f s).pending = s.pending := rfl

/-- `State.modEleg` changes eleg alone. -/
@[simp] theorem State.modEleg_eleg (leg f s) : (State.modEleg leg f s).eleg = vmod s.eleg leg f := rfl
@[simp] theorem State.modEleg_mode (leg f s) : (State.modEleg leg f s).mode = s.mode := rfl
@[simp] theorem State.modEleg_role (leg f s) : (State.modEleg leg f s).role = s.role := rfl
@[simp] theorem State.modEleg_supply (leg f s) : (State.modEleg leg f s).supply = s.supply := rfl
@[simp] theorem State.modEleg_resetReq (leg f s) : (State.modEleg leg f s).resetReq = s.resetReq := rfl
@[simp] theorem State.modEleg_ret (leg f s) : (State.modEleg leg f s).ret = s.ret := rfl
@[simp] theorem State.modEleg_fuses (leg f s) : (State.modEleg leg f s).fuses = s.fuses := rfl
@[simp] theorem State.modEleg_layup (leg f s) : (State.modEleg leg f s).layup = s.layup := rfl
@[simp] theorem State.modEleg_start (leg f s) : (State.modEleg leg f s).start = s.start := rfl
@[simp] theorem State.modEleg_plat (leg f s) : (State.modEleg leg f s).plat = s.plat := rfl
@[simp] theorem State.modEleg_grid (leg f s) : (State.modEleg leg f s).grid = s.grid := rfl
@[simp] theorem State.modEleg_time (leg f s) : (State.modEleg leg f s).time = s.time := rfl
@[simp] theorem State.modEleg_win (leg f s) : (State.modEleg leg f s).win = s.win := rfl
@[simp] theorem State.modEleg_base (leg f s) : (State.modEleg leg f s).base = s.base := rfl
@[simp] theorem State.modEleg_fb (leg f s) : (State.modEleg leg f s).fb = s.fb := rfl
@[simp] theorem State.modEleg_lat (leg f s) : (State.modEleg leg f s).lat = s.lat := rfl
@[simp] theorem State.modEleg_fld (leg f s) : (State.modEleg leg f s).fld = s.fld := rfl
@[simp] theorem State.modEleg_sf (leg f s) : (State.modEleg leg f s).sf = s.sf := rfl
@[simp] theorem State.modEleg_ring (leg f s) : (State.modEleg leg f s).ring = s.ring := rfl
@[simp] theorem State.modEleg_diag (leg f s) : (State.modEleg leg f s).diag = s.diag := rfl
@[simp] theorem State.modEleg_sdiag (leg f s) : (State.modEleg leg f s).sdiag = s.sdiag := rfl
@[simp] theorem State.modEleg_cells (leg f s) : (State.modEleg leg f s).cells = s.cells := rfl
@[simp] theorem State.modEleg_temps (leg f s) : (State.modEleg leg f s).temps = s.temps := rfl
@[simp] theorem State.modEleg_balEnable (leg f s) : (State.modEleg leg f s).balEnable = s.balEnable := rfl
@[simp] theorem State.modEleg_est (leg f s) : (State.modEleg leg f s).est = s.est := rfl
@[simp] theorem State.modEleg_probe (leg f s) : (State.modEleg leg f s).probe = s.probe := rfl
@[simp] theorem State.modEleg_stringSoc (leg f s) : (State.modEleg leg f s).stringSoc = s.stringSoc := rfl
@[simp] theorem State.modEleg_probeEnable (leg f s) : (State.modEleg leg f s).probeEnable = s.probeEnable := rfl
@[simp] theorem State.modEleg_natEnable (leg f s) : (State.modEleg leg f s).natEnable = s.natEnable := rfl
@[simp] theorem State.modEleg_llim (leg f s) : (State.modEleg leg f s).llim = s.llim := rfl
@[simp] theorem State.modEleg_slim (leg f s) : (State.modEleg leg f s).slim = s.slim := rfl
@[simp] theorem State.modEleg_learn (leg f s) : (State.modEleg leg f s).learn = s.learn := rfl
@[simp] theorem State.modEleg_conv (leg f s) : (State.modEleg leg f s).conv = s.conv := rfl
@[simp] theorem State.modEleg_pwm (leg f s) : (State.modEleg leg f s).pwm = s.pwm := rfl
@[simp] theorem State.modEleg_cle (leg f s) : (State.modEleg leg f s).cle = s.cle := rfl
@[simp] theorem State.modEleg_str (leg f s) : (State.modEleg leg f s).str = s.str := rfl
@[simp] theorem State.modEleg_therm (leg f s) : (State.modEleg leg f s).therm = s.therm := rfl
@[simp] theorem State.modEleg_mdOffset (leg f s) : (State.modEleg leg f s).mdOffset = s.mdOffset := rfl
@[simp] theorem State.modEleg_mdOffsetDue (leg f s) : (State.modEleg leg f s).mdOffsetDue = s.mdOffsetDue := rfl
@[simp] theorem State.modEleg_axis (leg f s) : (State.modEleg leg f s).axis = s.axis := rfl
@[simp] theorem State.modEleg_twin (leg f s) : (State.modEleg leg f s).twin = s.twin := rfl
@[simp] theorem State.modEleg_su (leg f s) : (State.modEleg leg f s).su = s.su := rfl
@[simp] theorem State.modEleg_net (leg f s) : (State.modEleg leg f s).net = s.net := rfl
@[simp] theorem State.modEleg_host (leg f s) : (State.modEleg leg f s).host = s.host := rfl
@[simp] theorem State.modEleg_can (leg f s) : (State.modEleg leg f s).can = s.can := rfl
@[simp] theorem State.modEleg_signal (leg f s) : (State.modEleg leg f s).signal = s.signal := rfl
@[simp] theorem State.modEleg_signalValid (leg f s) : (State.modEleg leg f s).signalValid = s.signalValid := rfl
@[simp] theorem State.modEleg_canSealed (leg f s) : (State.modEleg leg f s).canSealed = s.canSealed := rfl
@[simp] theorem State.modEleg_upd (leg f s) : (State.modEleg leg f s).upd = s.upd := rfl
@[simp] theorem State.modEleg_bist (leg f s) : (State.modEleg leg f s).bist = s.bist := rfl
@[simp] theorem State.modEleg_events (leg f s) : (State.modEleg leg f s).events = s.events := rfl
@[simp] theorem State.modEleg_store (leg f s) : (State.modEleg leg f s).store = s.store := rfl
@[simp] theorem State.modEleg_freeCounter (leg f s) : (State.modEleg leg f s).freeCounter = s.freeCounter := rfl
@[simp] theorem State.modEleg_pending (leg f s) : (State.modEleg leg f s).pending = s.pending := rfl

/-- `State.modProbe` changes probe alone. -/
@[simp] theorem State.modProbe_probe (pair f s) : (State.modProbe pair f s).probe = vmod s.probe pair f := rfl
@[simp] theorem State.modProbe_mode (pair f s) : (State.modProbe pair f s).mode = s.mode := rfl
@[simp] theorem State.modProbe_role (pair f s) : (State.modProbe pair f s).role = s.role := rfl
@[simp] theorem State.modProbe_supply (pair f s) : (State.modProbe pair f s).supply = s.supply := rfl
@[simp] theorem State.modProbe_resetReq (pair f s) : (State.modProbe pair f s).resetReq = s.resetReq := rfl
@[simp] theorem State.modProbe_ret (pair f s) : (State.modProbe pair f s).ret = s.ret := rfl
@[simp] theorem State.modProbe_fuses (pair f s) : (State.modProbe pair f s).fuses = s.fuses := rfl
@[simp] theorem State.modProbe_layup (pair f s) : (State.modProbe pair f s).layup = s.layup := rfl
@[simp] theorem State.modProbe_start (pair f s) : (State.modProbe pair f s).start = s.start := rfl
@[simp] theorem State.modProbe_plat (pair f s) : (State.modProbe pair f s).plat = s.plat := rfl
@[simp] theorem State.modProbe_grid (pair f s) : (State.modProbe pair f s).grid = s.grid := rfl
@[simp] theorem State.modProbe_time (pair f s) : (State.modProbe pair f s).time = s.time := rfl
@[simp] theorem State.modProbe_win (pair f s) : (State.modProbe pair f s).win = s.win := rfl
@[simp] theorem State.modProbe_base (pair f s) : (State.modProbe pair f s).base = s.base := rfl
@[simp] theorem State.modProbe_fb (pair f s) : (State.modProbe pair f s).fb = s.fb := rfl
@[simp] theorem State.modProbe_lat (pair f s) : (State.modProbe pair f s).lat = s.lat := rfl
@[simp] theorem State.modProbe_fld (pair f s) : (State.modProbe pair f s).fld = s.fld := rfl
@[simp] theorem State.modProbe_sf (pair f s) : (State.modProbe pair f s).sf = s.sf := rfl
@[simp] theorem State.modProbe_ring (pair f s) : (State.modProbe pair f s).ring = s.ring := rfl
@[simp] theorem State.modProbe_diag (pair f s) : (State.modProbe pair f s).diag = s.diag := rfl
@[simp] theorem State.modProbe_sdiag (pair f s) : (State.modProbe pair f s).sdiag = s.sdiag := rfl
@[simp] theorem State.modProbe_cells (pair f s) : (State.modProbe pair f s).cells = s.cells := rfl
@[simp] theorem State.modProbe_temps (pair f s) : (State.modProbe pair f s).temps = s.temps := rfl
@[simp] theorem State.modProbe_balEnable (pair f s) : (State.modProbe pair f s).balEnable = s.balEnable := rfl
@[simp] theorem State.modProbe_est (pair f s) : (State.modProbe pair f s).est = s.est := rfl
@[simp] theorem State.modProbe_eleg (pair f s) : (State.modProbe pair f s).eleg = s.eleg := rfl
@[simp] theorem State.modProbe_stringSoc (pair f s) : (State.modProbe pair f s).stringSoc = s.stringSoc := rfl
@[simp] theorem State.modProbe_probeEnable (pair f s) : (State.modProbe pair f s).probeEnable = s.probeEnable := rfl
@[simp] theorem State.modProbe_natEnable (pair f s) : (State.modProbe pair f s).natEnable = s.natEnable := rfl
@[simp] theorem State.modProbe_llim (pair f s) : (State.modProbe pair f s).llim = s.llim := rfl
@[simp] theorem State.modProbe_slim (pair f s) : (State.modProbe pair f s).slim = s.slim := rfl
@[simp] theorem State.modProbe_learn (pair f s) : (State.modProbe pair f s).learn = s.learn := rfl
@[simp] theorem State.modProbe_conv (pair f s) : (State.modProbe pair f s).conv = s.conv := rfl
@[simp] theorem State.modProbe_pwm (pair f s) : (State.modProbe pair f s).pwm = s.pwm := rfl
@[simp] theorem State.modProbe_cle (pair f s) : (State.modProbe pair f s).cle = s.cle := rfl
@[simp] theorem State.modProbe_str (pair f s) : (State.modProbe pair f s).str = s.str := rfl
@[simp] theorem State.modProbe_therm (pair f s) : (State.modProbe pair f s).therm = s.therm := rfl
@[simp] theorem State.modProbe_mdOffset (pair f s) : (State.modProbe pair f s).mdOffset = s.mdOffset := rfl
@[simp] theorem State.modProbe_mdOffsetDue (pair f s) : (State.modProbe pair f s).mdOffsetDue = s.mdOffsetDue := rfl
@[simp] theorem State.modProbe_axis (pair f s) : (State.modProbe pair f s).axis = s.axis := rfl
@[simp] theorem State.modProbe_twin (pair f s) : (State.modProbe pair f s).twin = s.twin := rfl
@[simp] theorem State.modProbe_su (pair f s) : (State.modProbe pair f s).su = s.su := rfl
@[simp] theorem State.modProbe_net (pair f s) : (State.modProbe pair f s).net = s.net := rfl
@[simp] theorem State.modProbe_host (pair f s) : (State.modProbe pair f s).host = s.host := rfl
@[simp] theorem State.modProbe_can (pair f s) : (State.modProbe pair f s).can = s.can := rfl
@[simp] theorem State.modProbe_signal (pair f s) : (State.modProbe pair f s).signal = s.signal := rfl
@[simp] theorem State.modProbe_signalValid (pair f s) : (State.modProbe pair f s).signalValid = s.signalValid := rfl
@[simp] theorem State.modProbe_canSealed (pair f s) : (State.modProbe pair f s).canSealed = s.canSealed := rfl
@[simp] theorem State.modProbe_upd (pair f s) : (State.modProbe pair f s).upd = s.upd := rfl
@[simp] theorem State.modProbe_bist (pair f s) : (State.modProbe pair f s).bist = s.bist := rfl
@[simp] theorem State.modProbe_events (pair f s) : (State.modProbe pair f s).events = s.events := rfl
@[simp] theorem State.modProbe_store (pair f s) : (State.modProbe pair f s).store = s.store := rfl
@[simp] theorem State.modProbe_freeCounter (pair f s) : (State.modProbe pair f s).freeCounter = s.freeCounter := rfl
@[simp] theorem State.modProbe_pending (pair f s) : (State.modProbe pair f s).pending = s.pending := rfl

/-- `State.modEst` changes est alone. -/
@[simp] theorem State.modEst_est (i f s) : (State.modEst i f s).est = modKey {} i f s.est := rfl
@[simp] theorem State.modEst_mode (i f s) : (State.modEst i f s).mode = s.mode := rfl
@[simp] theorem State.modEst_role (i f s) : (State.modEst i f s).role = s.role := rfl
@[simp] theorem State.modEst_supply (i f s) : (State.modEst i f s).supply = s.supply := rfl
@[simp] theorem State.modEst_resetReq (i f s) : (State.modEst i f s).resetReq = s.resetReq := rfl
@[simp] theorem State.modEst_ret (i f s) : (State.modEst i f s).ret = s.ret := rfl
@[simp] theorem State.modEst_fuses (i f s) : (State.modEst i f s).fuses = s.fuses := rfl
@[simp] theorem State.modEst_layup (i f s) : (State.modEst i f s).layup = s.layup := rfl
@[simp] theorem State.modEst_start (i f s) : (State.modEst i f s).start = s.start := rfl
@[simp] theorem State.modEst_plat (i f s) : (State.modEst i f s).plat = s.plat := rfl
@[simp] theorem State.modEst_grid (i f s) : (State.modEst i f s).grid = s.grid := rfl
@[simp] theorem State.modEst_time (i f s) : (State.modEst i f s).time = s.time := rfl
@[simp] theorem State.modEst_win (i f s) : (State.modEst i f s).win = s.win := rfl
@[simp] theorem State.modEst_base (i f s) : (State.modEst i f s).base = s.base := rfl
@[simp] theorem State.modEst_fb (i f s) : (State.modEst i f s).fb = s.fb := rfl
@[simp] theorem State.modEst_lat (i f s) : (State.modEst i f s).lat = s.lat := rfl
@[simp] theorem State.modEst_fld (i f s) : (State.modEst i f s).fld = s.fld := rfl
@[simp] theorem State.modEst_sf (i f s) : (State.modEst i f s).sf = s.sf := rfl
@[simp] theorem State.modEst_ring (i f s) : (State.modEst i f s).ring = s.ring := rfl
@[simp] theorem State.modEst_diag (i f s) : (State.modEst i f s).diag = s.diag := rfl
@[simp] theorem State.modEst_sdiag (i f s) : (State.modEst i f s).sdiag = s.sdiag := rfl
@[simp] theorem State.modEst_cells (i f s) : (State.modEst i f s).cells = s.cells := rfl
@[simp] theorem State.modEst_temps (i f s) : (State.modEst i f s).temps = s.temps := rfl
@[simp] theorem State.modEst_balEnable (i f s) : (State.modEst i f s).balEnable = s.balEnable := rfl
@[simp] theorem State.modEst_eleg (i f s) : (State.modEst i f s).eleg = s.eleg := rfl
@[simp] theorem State.modEst_probe (i f s) : (State.modEst i f s).probe = s.probe := rfl
@[simp] theorem State.modEst_stringSoc (i f s) : (State.modEst i f s).stringSoc = s.stringSoc := rfl
@[simp] theorem State.modEst_probeEnable (i f s) : (State.modEst i f s).probeEnable = s.probeEnable := rfl
@[simp] theorem State.modEst_natEnable (i f s) : (State.modEst i f s).natEnable = s.natEnable := rfl
@[simp] theorem State.modEst_llim (i f s) : (State.modEst i f s).llim = s.llim := rfl
@[simp] theorem State.modEst_slim (i f s) : (State.modEst i f s).slim = s.slim := rfl
@[simp] theorem State.modEst_learn (i f s) : (State.modEst i f s).learn = s.learn := rfl
@[simp] theorem State.modEst_conv (i f s) : (State.modEst i f s).conv = s.conv := rfl
@[simp] theorem State.modEst_pwm (i f s) : (State.modEst i f s).pwm = s.pwm := rfl
@[simp] theorem State.modEst_cle (i f s) : (State.modEst i f s).cle = s.cle := rfl
@[simp] theorem State.modEst_str (i f s) : (State.modEst i f s).str = s.str := rfl
@[simp] theorem State.modEst_therm (i f s) : (State.modEst i f s).therm = s.therm := rfl
@[simp] theorem State.modEst_mdOffset (i f s) : (State.modEst i f s).mdOffset = s.mdOffset := rfl
@[simp] theorem State.modEst_mdOffsetDue (i f s) : (State.modEst i f s).mdOffsetDue = s.mdOffsetDue := rfl
@[simp] theorem State.modEst_axis (i f s) : (State.modEst i f s).axis = s.axis := rfl
@[simp] theorem State.modEst_twin (i f s) : (State.modEst i f s).twin = s.twin := rfl
@[simp] theorem State.modEst_su (i f s) : (State.modEst i f s).su = s.su := rfl
@[simp] theorem State.modEst_net (i f s) : (State.modEst i f s).net = s.net := rfl
@[simp] theorem State.modEst_host (i f s) : (State.modEst i f s).host = s.host := rfl
@[simp] theorem State.modEst_can (i f s) : (State.modEst i f s).can = s.can := rfl
@[simp] theorem State.modEst_signal (i f s) : (State.modEst i f s).signal = s.signal := rfl
@[simp] theorem State.modEst_signalValid (i f s) : (State.modEst i f s).signalValid = s.signalValid := rfl
@[simp] theorem State.modEst_canSealed (i f s) : (State.modEst i f s).canSealed = s.canSealed := rfl
@[simp] theorem State.modEst_upd (i f s) : (State.modEst i f s).upd = s.upd := rfl
@[simp] theorem State.modEst_bist (i f s) : (State.modEst i f s).bist = s.bist := rfl
@[simp] theorem State.modEst_events (i f s) : (State.modEst i f s).events = s.events := rfl
@[simp] theorem State.modEst_store (i f s) : (State.modEst i f s).store = s.store := rfl
@[simp] theorem State.modEst_freeCounter (i f s) : (State.modEst i f s).freeCounter = s.freeCounter := rfl
@[simp] theorem State.modEst_pending (i f s) : (State.modEst i f s).pending = s.pending := rfl

/-- `State.modAxis` changes axis alone. -/
@[simp] theorem State.modAxis_axis (i f s) : (State.modAxis i f s).axis = vmod s.axis i f := rfl
@[simp] theorem State.modAxis_mode (i f s) : (State.modAxis i f s).mode = s.mode := rfl
@[simp] theorem State.modAxis_role (i f s) : (State.modAxis i f s).role = s.role := rfl
@[simp] theorem State.modAxis_supply (i f s) : (State.modAxis i f s).supply = s.supply := rfl
@[simp] theorem State.modAxis_resetReq (i f s) : (State.modAxis i f s).resetReq = s.resetReq := rfl
@[simp] theorem State.modAxis_ret (i f s) : (State.modAxis i f s).ret = s.ret := rfl
@[simp] theorem State.modAxis_fuses (i f s) : (State.modAxis i f s).fuses = s.fuses := rfl
@[simp] theorem State.modAxis_layup (i f s) : (State.modAxis i f s).layup = s.layup := rfl
@[simp] theorem State.modAxis_start (i f s) : (State.modAxis i f s).start = s.start := rfl
@[simp] theorem State.modAxis_plat (i f s) : (State.modAxis i f s).plat = s.plat := rfl
@[simp] theorem State.modAxis_grid (i f s) : (State.modAxis i f s).grid = s.grid := rfl
@[simp] theorem State.modAxis_time (i f s) : (State.modAxis i f s).time = s.time := rfl
@[simp] theorem State.modAxis_win (i f s) : (State.modAxis i f s).win = s.win := rfl
@[simp] theorem State.modAxis_base (i f s) : (State.modAxis i f s).base = s.base := rfl
@[simp] theorem State.modAxis_fb (i f s) : (State.modAxis i f s).fb = s.fb := rfl
@[simp] theorem State.modAxis_lat (i f s) : (State.modAxis i f s).lat = s.lat := rfl
@[simp] theorem State.modAxis_fld (i f s) : (State.modAxis i f s).fld = s.fld := rfl
@[simp] theorem State.modAxis_sf (i f s) : (State.modAxis i f s).sf = s.sf := rfl
@[simp] theorem State.modAxis_ring (i f s) : (State.modAxis i f s).ring = s.ring := rfl
@[simp] theorem State.modAxis_diag (i f s) : (State.modAxis i f s).diag = s.diag := rfl
@[simp] theorem State.modAxis_sdiag (i f s) : (State.modAxis i f s).sdiag = s.sdiag := rfl
@[simp] theorem State.modAxis_cells (i f s) : (State.modAxis i f s).cells = s.cells := rfl
@[simp] theorem State.modAxis_temps (i f s) : (State.modAxis i f s).temps = s.temps := rfl
@[simp] theorem State.modAxis_balEnable (i f s) : (State.modAxis i f s).balEnable = s.balEnable := rfl
@[simp] theorem State.modAxis_est (i f s) : (State.modAxis i f s).est = s.est := rfl
@[simp] theorem State.modAxis_eleg (i f s) : (State.modAxis i f s).eleg = s.eleg := rfl
@[simp] theorem State.modAxis_probe (i f s) : (State.modAxis i f s).probe = s.probe := rfl
@[simp] theorem State.modAxis_stringSoc (i f s) : (State.modAxis i f s).stringSoc = s.stringSoc := rfl
@[simp] theorem State.modAxis_probeEnable (i f s) : (State.modAxis i f s).probeEnable = s.probeEnable := rfl
@[simp] theorem State.modAxis_natEnable (i f s) : (State.modAxis i f s).natEnable = s.natEnable := rfl
@[simp] theorem State.modAxis_llim (i f s) : (State.modAxis i f s).llim = s.llim := rfl
@[simp] theorem State.modAxis_slim (i f s) : (State.modAxis i f s).slim = s.slim := rfl
@[simp] theorem State.modAxis_learn (i f s) : (State.modAxis i f s).learn = s.learn := rfl
@[simp] theorem State.modAxis_conv (i f s) : (State.modAxis i f s).conv = s.conv := rfl
@[simp] theorem State.modAxis_pwm (i f s) : (State.modAxis i f s).pwm = s.pwm := rfl
@[simp] theorem State.modAxis_cle (i f s) : (State.modAxis i f s).cle = s.cle := rfl
@[simp] theorem State.modAxis_str (i f s) : (State.modAxis i f s).str = s.str := rfl
@[simp] theorem State.modAxis_therm (i f s) : (State.modAxis i f s).therm = s.therm := rfl
@[simp] theorem State.modAxis_mdOffset (i f s) : (State.modAxis i f s).mdOffset = s.mdOffset := rfl
@[simp] theorem State.modAxis_mdOffsetDue (i f s) : (State.modAxis i f s).mdOffsetDue = s.mdOffsetDue := rfl
@[simp] theorem State.modAxis_twin (i f s) : (State.modAxis i f s).twin = s.twin := rfl
@[simp] theorem State.modAxis_su (i f s) : (State.modAxis i f s).su = s.su := rfl
@[simp] theorem State.modAxis_net (i f s) : (State.modAxis i f s).net = s.net := rfl
@[simp] theorem State.modAxis_host (i f s) : (State.modAxis i f s).host = s.host := rfl
@[simp] theorem State.modAxis_can (i f s) : (State.modAxis i f s).can = s.can := rfl
@[simp] theorem State.modAxis_signal (i f s) : (State.modAxis i f s).signal = s.signal := rfl
@[simp] theorem State.modAxis_signalValid (i f s) : (State.modAxis i f s).signalValid = s.signalValid := rfl
@[simp] theorem State.modAxis_canSealed (i f s) : (State.modAxis i f s).canSealed = s.canSealed := rfl
@[simp] theorem State.modAxis_upd (i f s) : (State.modAxis i f s).upd = s.upd := rfl
@[simp] theorem State.modAxis_bist (i f s) : (State.modAxis i f s).bist = s.bist := rfl
@[simp] theorem State.modAxis_events (i f s) : (State.modAxis i f s).events = s.events := rfl
@[simp] theorem State.modAxis_store (i f s) : (State.modAxis i f s).store = s.store := rfl
@[simp] theorem State.modAxis_freeCounter (i f s) : (State.modAxis i f s).freeCounter = s.freeCounter := rfl
@[simp] theorem State.modAxis_pending (i f s) : (State.modAxis i f s).pending = s.pending := rfl

/-- `State.modFb` changes fb alone. -/
@[simp] theorem State.modFb_fb (f s) : (State.modFb f s).fb = f s.fb := rfl
@[simp] theorem State.modFb_mode (f s) : (State.modFb f s).mode = s.mode := rfl
@[simp] theorem State.modFb_role (f s) : (State.modFb f s).role = s.role := rfl
@[simp] theorem State.modFb_supply (f s) : (State.modFb f s).supply = s.supply := rfl
@[simp] theorem State.modFb_resetReq (f s) : (State.modFb f s).resetReq = s.resetReq := rfl
@[simp] theorem State.modFb_ret (f s) : (State.modFb f s).ret = s.ret := rfl
@[simp] theorem State.modFb_fuses (f s) : (State.modFb f s).fuses = s.fuses := rfl
@[simp] theorem State.modFb_layup (f s) : (State.modFb f s).layup = s.layup := rfl
@[simp] theorem State.modFb_start (f s) : (State.modFb f s).start = s.start := rfl
@[simp] theorem State.modFb_plat (f s) : (State.modFb f s).plat = s.plat := rfl
@[simp] theorem State.modFb_grid (f s) : (State.modFb f s).grid = s.grid := rfl
@[simp] theorem State.modFb_time (f s) : (State.modFb f s).time = s.time := rfl
@[simp] theorem State.modFb_win (f s) : (State.modFb f s).win = s.win := rfl
@[simp] theorem State.modFb_base (f s) : (State.modFb f s).base = s.base := rfl
@[simp] theorem State.modFb_lat (f s) : (State.modFb f s).lat = s.lat := rfl
@[simp] theorem State.modFb_fld (f s) : (State.modFb f s).fld = s.fld := rfl
@[simp] theorem State.modFb_sf (f s) : (State.modFb f s).sf = s.sf := rfl
@[simp] theorem State.modFb_ring (f s) : (State.modFb f s).ring = s.ring := rfl
@[simp] theorem State.modFb_diag (f s) : (State.modFb f s).diag = s.diag := rfl
@[simp] theorem State.modFb_sdiag (f s) : (State.modFb f s).sdiag = s.sdiag := rfl
@[simp] theorem State.modFb_cells (f s) : (State.modFb f s).cells = s.cells := rfl
@[simp] theorem State.modFb_temps (f s) : (State.modFb f s).temps = s.temps := rfl
@[simp] theorem State.modFb_balEnable (f s) : (State.modFb f s).balEnable = s.balEnable := rfl
@[simp] theorem State.modFb_est (f s) : (State.modFb f s).est = s.est := rfl
@[simp] theorem State.modFb_eleg (f s) : (State.modFb f s).eleg = s.eleg := rfl
@[simp] theorem State.modFb_probe (f s) : (State.modFb f s).probe = s.probe := rfl
@[simp] theorem State.modFb_stringSoc (f s) : (State.modFb f s).stringSoc = s.stringSoc := rfl
@[simp] theorem State.modFb_probeEnable (f s) : (State.modFb f s).probeEnable = s.probeEnable := rfl
@[simp] theorem State.modFb_natEnable (f s) : (State.modFb f s).natEnable = s.natEnable := rfl
@[simp] theorem State.modFb_llim (f s) : (State.modFb f s).llim = s.llim := rfl
@[simp] theorem State.modFb_slim (f s) : (State.modFb f s).slim = s.slim := rfl
@[simp] theorem State.modFb_learn (f s) : (State.modFb f s).learn = s.learn := rfl
@[simp] theorem State.modFb_conv (f s) : (State.modFb f s).conv = s.conv := rfl
@[simp] theorem State.modFb_pwm (f s) : (State.modFb f s).pwm = s.pwm := rfl
@[simp] theorem State.modFb_cle (f s) : (State.modFb f s).cle = s.cle := rfl
@[simp] theorem State.modFb_str (f s) : (State.modFb f s).str = s.str := rfl
@[simp] theorem State.modFb_therm (f s) : (State.modFb f s).therm = s.therm := rfl
@[simp] theorem State.modFb_mdOffset (f s) : (State.modFb f s).mdOffset = s.mdOffset := rfl
@[simp] theorem State.modFb_mdOffsetDue (f s) : (State.modFb f s).mdOffsetDue = s.mdOffsetDue := rfl
@[simp] theorem State.modFb_axis (f s) : (State.modFb f s).axis = s.axis := rfl
@[simp] theorem State.modFb_twin (f s) : (State.modFb f s).twin = s.twin := rfl
@[simp] theorem State.modFb_su (f s) : (State.modFb f s).su = s.su := rfl
@[simp] theorem State.modFb_net (f s) : (State.modFb f s).net = s.net := rfl
@[simp] theorem State.modFb_host (f s) : (State.modFb f s).host = s.host := rfl
@[simp] theorem State.modFb_can (f s) : (State.modFb f s).can = s.can := rfl
@[simp] theorem State.modFb_signal (f s) : (State.modFb f s).signal = s.signal := rfl
@[simp] theorem State.modFb_signalValid (f s) : (State.modFb f s).signalValid = s.signalValid := rfl
@[simp] theorem State.modFb_canSealed (f s) : (State.modFb f s).canSealed = s.canSealed := rfl
@[simp] theorem State.modFb_upd (f s) : (State.modFb f s).upd = s.upd := rfl
@[simp] theorem State.modFb_bist (f s) : (State.modFb f s).bist = s.bist := rfl
@[simp] theorem State.modFb_events (f s) : (State.modFb f s).events = s.events := rfl
@[simp] theorem State.modFb_store (f s) : (State.modFb f s).store = s.store := rfl
@[simp] theorem State.modFb_freeCounter (f s) : (State.modFb f s).freeCounter = s.freeCounter := rfl
@[simp] theorem State.modFb_pending (f s) : (State.modFb f s).pending = s.pending := rfl

/-- `State.modCan` changes can alone. -/
@[simp] theorem State.modCan_can (c f s) : (State.modCan c f s).can = vmod s.can c f := rfl
@[simp] theorem State.modCan_mode (c f s) : (State.modCan c f s).mode = s.mode := rfl
@[simp] theorem State.modCan_role (c f s) : (State.modCan c f s).role = s.role := rfl
@[simp] theorem State.modCan_supply (c f s) : (State.modCan c f s).supply = s.supply := rfl
@[simp] theorem State.modCan_resetReq (c f s) : (State.modCan c f s).resetReq = s.resetReq := rfl
@[simp] theorem State.modCan_ret (c f s) : (State.modCan c f s).ret = s.ret := rfl
@[simp] theorem State.modCan_fuses (c f s) : (State.modCan c f s).fuses = s.fuses := rfl
@[simp] theorem State.modCan_layup (c f s) : (State.modCan c f s).layup = s.layup := rfl
@[simp] theorem State.modCan_start (c f s) : (State.modCan c f s).start = s.start := rfl
@[simp] theorem State.modCan_plat (c f s) : (State.modCan c f s).plat = s.plat := rfl
@[simp] theorem State.modCan_grid (c f s) : (State.modCan c f s).grid = s.grid := rfl
@[simp] theorem State.modCan_time (c f s) : (State.modCan c f s).time = s.time := rfl
@[simp] theorem State.modCan_win (c f s) : (State.modCan c f s).win = s.win := rfl
@[simp] theorem State.modCan_base (c f s) : (State.modCan c f s).base = s.base := rfl
@[simp] theorem State.modCan_fb (c f s) : (State.modCan c f s).fb = s.fb := rfl
@[simp] theorem State.modCan_lat (c f s) : (State.modCan c f s).lat = s.lat := rfl
@[simp] theorem State.modCan_fld (c f s) : (State.modCan c f s).fld = s.fld := rfl
@[simp] theorem State.modCan_sf (c f s) : (State.modCan c f s).sf = s.sf := rfl
@[simp] theorem State.modCan_ring (c f s) : (State.modCan c f s).ring = s.ring := rfl
@[simp] theorem State.modCan_diag (c f s) : (State.modCan c f s).diag = s.diag := rfl
@[simp] theorem State.modCan_sdiag (c f s) : (State.modCan c f s).sdiag = s.sdiag := rfl
@[simp] theorem State.modCan_cells (c f s) : (State.modCan c f s).cells = s.cells := rfl
@[simp] theorem State.modCan_temps (c f s) : (State.modCan c f s).temps = s.temps := rfl
@[simp] theorem State.modCan_balEnable (c f s) : (State.modCan c f s).balEnable = s.balEnable := rfl
@[simp] theorem State.modCan_est (c f s) : (State.modCan c f s).est = s.est := rfl
@[simp] theorem State.modCan_eleg (c f s) : (State.modCan c f s).eleg = s.eleg := rfl
@[simp] theorem State.modCan_probe (c f s) : (State.modCan c f s).probe = s.probe := rfl
@[simp] theorem State.modCan_stringSoc (c f s) : (State.modCan c f s).stringSoc = s.stringSoc := rfl
@[simp] theorem State.modCan_probeEnable (c f s) : (State.modCan c f s).probeEnable = s.probeEnable := rfl
@[simp] theorem State.modCan_natEnable (c f s) : (State.modCan c f s).natEnable = s.natEnable := rfl
@[simp] theorem State.modCan_llim (c f s) : (State.modCan c f s).llim = s.llim := rfl
@[simp] theorem State.modCan_slim (c f s) : (State.modCan c f s).slim = s.slim := rfl
@[simp] theorem State.modCan_learn (c f s) : (State.modCan c f s).learn = s.learn := rfl
@[simp] theorem State.modCan_conv (c f s) : (State.modCan c f s).conv = s.conv := rfl
@[simp] theorem State.modCan_pwm (c f s) : (State.modCan c f s).pwm = s.pwm := rfl
@[simp] theorem State.modCan_cle (c f s) : (State.modCan c f s).cle = s.cle := rfl
@[simp] theorem State.modCan_str (c f s) : (State.modCan c f s).str = s.str := rfl
@[simp] theorem State.modCan_therm (c f s) : (State.modCan c f s).therm = s.therm := rfl
@[simp] theorem State.modCan_mdOffset (c f s) : (State.modCan c f s).mdOffset = s.mdOffset := rfl
@[simp] theorem State.modCan_mdOffsetDue (c f s) : (State.modCan c f s).mdOffsetDue = s.mdOffsetDue := rfl
@[simp] theorem State.modCan_axis (c f s) : (State.modCan c f s).axis = s.axis := rfl
@[simp] theorem State.modCan_twin (c f s) : (State.modCan c f s).twin = s.twin := rfl
@[simp] theorem State.modCan_su (c f s) : (State.modCan c f s).su = s.su := rfl
@[simp] theorem State.modCan_net (c f s) : (State.modCan c f s).net = s.net := rfl
@[simp] theorem State.modCan_host (c f s) : (State.modCan c f s).host = s.host := rfl
@[simp] theorem State.modCan_signal (c f s) : (State.modCan c f s).signal = s.signal := rfl
@[simp] theorem State.modCan_signalValid (c f s) : (State.modCan c f s).signalValid = s.signalValid := rfl
@[simp] theorem State.modCan_canSealed (c f s) : (State.modCan c f s).canSealed = s.canSealed := rfl
@[simp] theorem State.modCan_upd (c f s) : (State.modCan c f s).upd = s.upd := rfl
@[simp] theorem State.modCan_bist (c f s) : (State.modCan c f s).bist = s.bist := rfl
@[simp] theorem State.modCan_events (c f s) : (State.modCan c f s).events = s.events := rfl
@[simp] theorem State.modCan_store (c f s) : (State.modCan c f s).store = s.store := rfl
@[simp] theorem State.modCan_freeCounter (c f s) : (State.modCan c f s).freeCounter = s.freeCounter := rfl
@[simp] theorem State.modCan_pending (c f s) : (State.modCan c f s).pending = s.pending := rfl

/-- `State.modSf` changes sf alone. -/
@[simp] theorem State.modSf_sf (f s) : (State.modSf f s).sf = f s.sf := rfl
@[simp] theorem State.modSf_mode (f s) : (State.modSf f s).mode = s.mode := rfl
@[simp] theorem State.modSf_role (f s) : (State.modSf f s).role = s.role := rfl
@[simp] theorem State.modSf_supply (f s) : (State.modSf f s).supply = s.supply := rfl
@[simp] theorem State.modSf_resetReq (f s) : (State.modSf f s).resetReq = s.resetReq := rfl
@[simp] theorem State.modSf_ret (f s) : (State.modSf f s).ret = s.ret := rfl
@[simp] theorem State.modSf_fuses (f s) : (State.modSf f s).fuses = s.fuses := rfl
@[simp] theorem State.modSf_layup (f s) : (State.modSf f s).layup = s.layup := rfl
@[simp] theorem State.modSf_start (f s) : (State.modSf f s).start = s.start := rfl
@[simp] theorem State.modSf_plat (f s) : (State.modSf f s).plat = s.plat := rfl
@[simp] theorem State.modSf_grid (f s) : (State.modSf f s).grid = s.grid := rfl
@[simp] theorem State.modSf_time (f s) : (State.modSf f s).time = s.time := rfl
@[simp] theorem State.modSf_win (f s) : (State.modSf f s).win = s.win := rfl
@[simp] theorem State.modSf_base (f s) : (State.modSf f s).base = s.base := rfl
@[simp] theorem State.modSf_fb (f s) : (State.modSf f s).fb = s.fb := rfl
@[simp] theorem State.modSf_lat (f s) : (State.modSf f s).lat = s.lat := rfl
@[simp] theorem State.modSf_fld (f s) : (State.modSf f s).fld = s.fld := rfl
@[simp] theorem State.modSf_ring (f s) : (State.modSf f s).ring = s.ring := rfl
@[simp] theorem State.modSf_diag (f s) : (State.modSf f s).diag = s.diag := rfl
@[simp] theorem State.modSf_sdiag (f s) : (State.modSf f s).sdiag = s.sdiag := rfl
@[simp] theorem State.modSf_cells (f s) : (State.modSf f s).cells = s.cells := rfl
@[simp] theorem State.modSf_temps (f s) : (State.modSf f s).temps = s.temps := rfl
@[simp] theorem State.modSf_balEnable (f s) : (State.modSf f s).balEnable = s.balEnable := rfl
@[simp] theorem State.modSf_est (f s) : (State.modSf f s).est = s.est := rfl
@[simp] theorem State.modSf_eleg (f s) : (State.modSf f s).eleg = s.eleg := rfl
@[simp] theorem State.modSf_probe (f s) : (State.modSf f s).probe = s.probe := rfl
@[simp] theorem State.modSf_stringSoc (f s) : (State.modSf f s).stringSoc = s.stringSoc := rfl
@[simp] theorem State.modSf_probeEnable (f s) : (State.modSf f s).probeEnable = s.probeEnable := rfl
@[simp] theorem State.modSf_natEnable (f s) : (State.modSf f s).natEnable = s.natEnable := rfl
@[simp] theorem State.modSf_llim (f s) : (State.modSf f s).llim = s.llim := rfl
@[simp] theorem State.modSf_slim (f s) : (State.modSf f s).slim = s.slim := rfl
@[simp] theorem State.modSf_learn (f s) : (State.modSf f s).learn = s.learn := rfl
@[simp] theorem State.modSf_conv (f s) : (State.modSf f s).conv = s.conv := rfl
@[simp] theorem State.modSf_pwm (f s) : (State.modSf f s).pwm = s.pwm := rfl
@[simp] theorem State.modSf_cle (f s) : (State.modSf f s).cle = s.cle := rfl
@[simp] theorem State.modSf_str (f s) : (State.modSf f s).str = s.str := rfl
@[simp] theorem State.modSf_therm (f s) : (State.modSf f s).therm = s.therm := rfl
@[simp] theorem State.modSf_mdOffset (f s) : (State.modSf f s).mdOffset = s.mdOffset := rfl
@[simp] theorem State.modSf_mdOffsetDue (f s) : (State.modSf f s).mdOffsetDue = s.mdOffsetDue := rfl
@[simp] theorem State.modSf_axis (f s) : (State.modSf f s).axis = s.axis := rfl
@[simp] theorem State.modSf_twin (f s) : (State.modSf f s).twin = s.twin := rfl
@[simp] theorem State.modSf_su (f s) : (State.modSf f s).su = s.su := rfl
@[simp] theorem State.modSf_net (f s) : (State.modSf f s).net = s.net := rfl
@[simp] theorem State.modSf_host (f s) : (State.modSf f s).host = s.host := rfl
@[simp] theorem State.modSf_can (f s) : (State.modSf f s).can = s.can := rfl
@[simp] theorem State.modSf_signal (f s) : (State.modSf f s).signal = s.signal := rfl
@[simp] theorem State.modSf_signalValid (f s) : (State.modSf f s).signalValid = s.signalValid := rfl
@[simp] theorem State.modSf_canSealed (f s) : (State.modSf f s).canSealed = s.canSealed := rfl
@[simp] theorem State.modSf_upd (f s) : (State.modSf f s).upd = s.upd := rfl
@[simp] theorem State.modSf_bist (f s) : (State.modSf f s).bist = s.bist := rfl
@[simp] theorem State.modSf_events (f s) : (State.modSf f s).events = s.events := rfl
@[simp] theorem State.modSf_store (f s) : (State.modSf f s).store = s.store := rfl
@[simp] theorem State.modSf_freeCounter (f s) : (State.modSf f s).freeCounter = s.freeCounter := rfl
@[simp] theorem State.modSf_pending (f s) : (State.modSf f s).pending = s.pending := rfl

/-- `State.modGroup` changes sf alone. -/
@[simp] theorem State.modGroup_sf (g f s) : (State.modGroup g f s).sf = { s.sf with group := vmod s.sf.group g f } := rfl
@[simp] theorem State.modGroup_mode (g f s) : (State.modGroup g f s).mode = s.mode := rfl
@[simp] theorem State.modGroup_role (g f s) : (State.modGroup g f s).role = s.role := rfl
@[simp] theorem State.modGroup_supply (g f s) : (State.modGroup g f s).supply = s.supply := rfl
@[simp] theorem State.modGroup_resetReq (g f s) : (State.modGroup g f s).resetReq = s.resetReq := rfl
@[simp] theorem State.modGroup_ret (g f s) : (State.modGroup g f s).ret = s.ret := rfl
@[simp] theorem State.modGroup_fuses (g f s) : (State.modGroup g f s).fuses = s.fuses := rfl
@[simp] theorem State.modGroup_layup (g f s) : (State.modGroup g f s).layup = s.layup := rfl
@[simp] theorem State.modGroup_start (g f s) : (State.modGroup g f s).start = s.start := rfl
@[simp] theorem State.modGroup_plat (g f s) : (State.modGroup g f s).plat = s.plat := rfl
@[simp] theorem State.modGroup_grid (g f s) : (State.modGroup g f s).grid = s.grid := rfl
@[simp] theorem State.modGroup_time (g f s) : (State.modGroup g f s).time = s.time := rfl
@[simp] theorem State.modGroup_win (g f s) : (State.modGroup g f s).win = s.win := rfl
@[simp] theorem State.modGroup_base (g f s) : (State.modGroup g f s).base = s.base := rfl
@[simp] theorem State.modGroup_fb (g f s) : (State.modGroup g f s).fb = s.fb := rfl
@[simp] theorem State.modGroup_lat (g f s) : (State.modGroup g f s).lat = s.lat := rfl
@[simp] theorem State.modGroup_fld (g f s) : (State.modGroup g f s).fld = s.fld := rfl
@[simp] theorem State.modGroup_ring (g f s) : (State.modGroup g f s).ring = s.ring := rfl
@[simp] theorem State.modGroup_diag (g f s) : (State.modGroup g f s).diag = s.diag := rfl
@[simp] theorem State.modGroup_sdiag (g f s) : (State.modGroup g f s).sdiag = s.sdiag := rfl
@[simp] theorem State.modGroup_cells (g f s) : (State.modGroup g f s).cells = s.cells := rfl
@[simp] theorem State.modGroup_temps (g f s) : (State.modGroup g f s).temps = s.temps := rfl
@[simp] theorem State.modGroup_balEnable (g f s) : (State.modGroup g f s).balEnable = s.balEnable := rfl
@[simp] theorem State.modGroup_est (g f s) : (State.modGroup g f s).est = s.est := rfl
@[simp] theorem State.modGroup_eleg (g f s) : (State.modGroup g f s).eleg = s.eleg := rfl
@[simp] theorem State.modGroup_probe (g f s) : (State.modGroup g f s).probe = s.probe := rfl
@[simp] theorem State.modGroup_stringSoc (g f s) : (State.modGroup g f s).stringSoc = s.stringSoc := rfl
@[simp] theorem State.modGroup_probeEnable (g f s) : (State.modGroup g f s).probeEnable = s.probeEnable := rfl
@[simp] theorem State.modGroup_natEnable (g f s) : (State.modGroup g f s).natEnable = s.natEnable := rfl
@[simp] theorem State.modGroup_llim (g f s) : (State.modGroup g f s).llim = s.llim := rfl
@[simp] theorem State.modGroup_slim (g f s) : (State.modGroup g f s).slim = s.slim := rfl
@[simp] theorem State.modGroup_learn (g f s) : (State.modGroup g f s).learn = s.learn := rfl
@[simp] theorem State.modGroup_conv (g f s) : (State.modGroup g f s).conv = s.conv := rfl
@[simp] theorem State.modGroup_pwm (g f s) : (State.modGroup g f s).pwm = s.pwm := rfl
@[simp] theorem State.modGroup_cle (g f s) : (State.modGroup g f s).cle = s.cle := rfl
@[simp] theorem State.modGroup_str (g f s) : (State.modGroup g f s).str = s.str := rfl
@[simp] theorem State.modGroup_therm (g f s) : (State.modGroup g f s).therm = s.therm := rfl
@[simp] theorem State.modGroup_mdOffset (g f s) : (State.modGroup g f s).mdOffset = s.mdOffset := rfl
@[simp] theorem State.modGroup_mdOffsetDue (g f s) : (State.modGroup g f s).mdOffsetDue = s.mdOffsetDue := rfl
@[simp] theorem State.modGroup_axis (g f s) : (State.modGroup g f s).axis = s.axis := rfl
@[simp] theorem State.modGroup_twin (g f s) : (State.modGroup g f s).twin = s.twin := rfl
@[simp] theorem State.modGroup_su (g f s) : (State.modGroup g f s).su = s.su := rfl
@[simp] theorem State.modGroup_net (g f s) : (State.modGroup g f s).net = s.net := rfl
@[simp] theorem State.modGroup_host (g f s) : (State.modGroup g f s).host = s.host := rfl
@[simp] theorem State.modGroup_can (g f s) : (State.modGroup g f s).can = s.can := rfl
@[simp] theorem State.modGroup_signal (g f s) : (State.modGroup g f s).signal = s.signal := rfl
@[simp] theorem State.modGroup_signalValid (g f s) : (State.modGroup g f s).signalValid = s.signalValid := rfl
@[simp] theorem State.modGroup_canSealed (g f s) : (State.modGroup g f s).canSealed = s.canSealed := rfl
@[simp] theorem State.modGroup_upd (g f s) : (State.modGroup g f s).upd = s.upd := rfl
@[simp] theorem State.modGroup_bist (g f s) : (State.modGroup g f s).bist = s.bist := rfl
@[simp] theorem State.modGroup_events (g f s) : (State.modGroup g f s).events = s.events := rfl
@[simp] theorem State.modGroup_store (g f s) : (State.modGroup g f s).store = s.store := rfl
@[simp] theorem State.modGroup_freeCounter (g f s) : (State.modGroup g f s).freeCounter = s.freeCounter := rfl
@[simp] theorem State.modGroup_pending (g f s) : (State.modGroup g f s).pending = s.pending := rfl

/-- `State.modOut` changes sf alone. -/
@[simp] theorem State.modOut_sf (c f s) : (State.modOut c f s).sf = { s.sf with output := vmod s.sf.output c f } := rfl
@[simp] theorem State.modOut_mode (c f s) : (State.modOut c f s).mode = s.mode := rfl
@[simp] theorem State.modOut_role (c f s) : (State.modOut c f s).role = s.role := rfl
@[simp] theorem State.modOut_supply (c f s) : (State.modOut c f s).supply = s.supply := rfl
@[simp] theorem State.modOut_resetReq (c f s) : (State.modOut c f s).resetReq = s.resetReq := rfl
@[simp] theorem State.modOut_ret (c f s) : (State.modOut c f s).ret = s.ret := rfl
@[simp] theorem State.modOut_fuses (c f s) : (State.modOut c f s).fuses = s.fuses := rfl
@[simp] theorem State.modOut_layup (c f s) : (State.modOut c f s).layup = s.layup := rfl
@[simp] theorem State.modOut_start (c f s) : (State.modOut c f s).start = s.start := rfl
@[simp] theorem State.modOut_plat (c f s) : (State.modOut c f s).plat = s.plat := rfl
@[simp] theorem State.modOut_grid (c f s) : (State.modOut c f s).grid = s.grid := rfl
@[simp] theorem State.modOut_time (c f s) : (State.modOut c f s).time = s.time := rfl
@[simp] theorem State.modOut_win (c f s) : (State.modOut c f s).win = s.win := rfl
@[simp] theorem State.modOut_base (c f s) : (State.modOut c f s).base = s.base := rfl
@[simp] theorem State.modOut_fb (c f s) : (State.modOut c f s).fb = s.fb := rfl
@[simp] theorem State.modOut_lat (c f s) : (State.modOut c f s).lat = s.lat := rfl
@[simp] theorem State.modOut_fld (c f s) : (State.modOut c f s).fld = s.fld := rfl
@[simp] theorem State.modOut_ring (c f s) : (State.modOut c f s).ring = s.ring := rfl
@[simp] theorem State.modOut_diag (c f s) : (State.modOut c f s).diag = s.diag := rfl
@[simp] theorem State.modOut_sdiag (c f s) : (State.modOut c f s).sdiag = s.sdiag := rfl
@[simp] theorem State.modOut_cells (c f s) : (State.modOut c f s).cells = s.cells := rfl
@[simp] theorem State.modOut_temps (c f s) : (State.modOut c f s).temps = s.temps := rfl
@[simp] theorem State.modOut_balEnable (c f s) : (State.modOut c f s).balEnable = s.balEnable := rfl
@[simp] theorem State.modOut_est (c f s) : (State.modOut c f s).est = s.est := rfl
@[simp] theorem State.modOut_eleg (c f s) : (State.modOut c f s).eleg = s.eleg := rfl
@[simp] theorem State.modOut_probe (c f s) : (State.modOut c f s).probe = s.probe := rfl
@[simp] theorem State.modOut_stringSoc (c f s) : (State.modOut c f s).stringSoc = s.stringSoc := rfl
@[simp] theorem State.modOut_probeEnable (c f s) : (State.modOut c f s).probeEnable = s.probeEnable := rfl
@[simp] theorem State.modOut_natEnable (c f s) : (State.modOut c f s).natEnable = s.natEnable := rfl
@[simp] theorem State.modOut_llim (c f s) : (State.modOut c f s).llim = s.llim := rfl
@[simp] theorem State.modOut_slim (c f s) : (State.modOut c f s).slim = s.slim := rfl
@[simp] theorem State.modOut_learn (c f s) : (State.modOut c f s).learn = s.learn := rfl
@[simp] theorem State.modOut_conv (c f s) : (State.modOut c f s).conv = s.conv := rfl
@[simp] theorem State.modOut_pwm (c f s) : (State.modOut c f s).pwm = s.pwm := rfl
@[simp] theorem State.modOut_cle (c f s) : (State.modOut c f s).cle = s.cle := rfl
@[simp] theorem State.modOut_str (c f s) : (State.modOut c f s).str = s.str := rfl
@[simp] theorem State.modOut_therm (c f s) : (State.modOut c f s).therm = s.therm := rfl
@[simp] theorem State.modOut_mdOffset (c f s) : (State.modOut c f s).mdOffset = s.mdOffset := rfl
@[simp] theorem State.modOut_mdOffsetDue (c f s) : (State.modOut c f s).mdOffsetDue = s.mdOffsetDue := rfl
@[simp] theorem State.modOut_axis (c f s) : (State.modOut c f s).axis = s.axis := rfl
@[simp] theorem State.modOut_twin (c f s) : (State.modOut c f s).twin = s.twin := rfl
@[simp] theorem State.modOut_su (c f s) : (State.modOut c f s).su = s.su := rfl
@[simp] theorem State.modOut_net (c f s) : (State.modOut c f s).net = s.net := rfl
@[simp] theorem State.modOut_host (c f s) : (State.modOut c f s).host = s.host := rfl
@[simp] theorem State.modOut_can (c f s) : (State.modOut c f s).can = s.can := rfl
@[simp] theorem State.modOut_signal (c f s) : (State.modOut c f s).signal = s.signal := rfl
@[simp] theorem State.modOut_signalValid (c f s) : (State.modOut c f s).signalValid = s.signalValid := rfl
@[simp] theorem State.modOut_canSealed (c f s) : (State.modOut c f s).canSealed = s.canSealed := rfl
@[simp] theorem State.modOut_upd (c f s) : (State.modOut c f s).upd = s.upd := rfl
@[simp] theorem State.modOut_bist (c f s) : (State.modOut c f s).bist = s.bist := rfl
@[simp] theorem State.modOut_events (c f s) : (State.modOut c f s).events = s.events := rfl
@[simp] theorem State.modOut_store (c f s) : (State.modOut c f s).store = s.store := rfl
@[simp] theorem State.modOut_freeCounter (c f s) : (State.modOut c f s).freeCounter = s.freeCounter := rfl
@[simp] theorem State.modOut_pending (c f s) : (State.modOut c f s).pending = s.pending := rfl

/-- `State.modPair` changes sf alone. -/
@[simp] theorem State.modPair_sf (k f s) : (State.modPair k f s).sf = { s.sf with pair := vmod s.sf.pair k f } := rfl
@[simp] theorem State.modPair_mode (k f s) : (State.modPair k f s).mode = s.mode := rfl
@[simp] theorem State.modPair_role (k f s) : (State.modPair k f s).role = s.role := rfl
@[simp] theorem State.modPair_supply (k f s) : (State.modPair k f s).supply = s.supply := rfl
@[simp] theorem State.modPair_resetReq (k f s) : (State.modPair k f s).resetReq = s.resetReq := rfl
@[simp] theorem State.modPair_ret (k f s) : (State.modPair k f s).ret = s.ret := rfl
@[simp] theorem State.modPair_fuses (k f s) : (State.modPair k f s).fuses = s.fuses := rfl
@[simp] theorem State.modPair_layup (k f s) : (State.modPair k f s).layup = s.layup := rfl
@[simp] theorem State.modPair_start (k f s) : (State.modPair k f s).start = s.start := rfl
@[simp] theorem State.modPair_plat (k f s) : (State.modPair k f s).plat = s.plat := rfl
@[simp] theorem State.modPair_grid (k f s) : (State.modPair k f s).grid = s.grid := rfl
@[simp] theorem State.modPair_time (k f s) : (State.modPair k f s).time = s.time := rfl
@[simp] theorem State.modPair_win (k f s) : (State.modPair k f s).win = s.win := rfl
@[simp] theorem State.modPair_base (k f s) : (State.modPair k f s).base = s.base := rfl
@[simp] theorem State.modPair_fb (k f s) : (State.modPair k f s).fb = s.fb := rfl
@[simp] theorem State.modPair_lat (k f s) : (State.modPair k f s).lat = s.lat := rfl
@[simp] theorem State.modPair_fld (k f s) : (State.modPair k f s).fld = s.fld := rfl
@[simp] theorem State.modPair_ring (k f s) : (State.modPair k f s).ring = s.ring := rfl
@[simp] theorem State.modPair_diag (k f s) : (State.modPair k f s).diag = s.diag := rfl
@[simp] theorem State.modPair_sdiag (k f s) : (State.modPair k f s).sdiag = s.sdiag := rfl
@[simp] theorem State.modPair_cells (k f s) : (State.modPair k f s).cells = s.cells := rfl
@[simp] theorem State.modPair_temps (k f s) : (State.modPair k f s).temps = s.temps := rfl
@[simp] theorem State.modPair_balEnable (k f s) : (State.modPair k f s).balEnable = s.balEnable := rfl
@[simp] theorem State.modPair_est (k f s) : (State.modPair k f s).est = s.est := rfl
@[simp] theorem State.modPair_eleg (k f s) : (State.modPair k f s).eleg = s.eleg := rfl
@[simp] theorem State.modPair_probe (k f s) : (State.modPair k f s).probe = s.probe := rfl
@[simp] theorem State.modPair_stringSoc (k f s) : (State.modPair k f s).stringSoc = s.stringSoc := rfl
@[simp] theorem State.modPair_probeEnable (k f s) : (State.modPair k f s).probeEnable = s.probeEnable := rfl
@[simp] theorem State.modPair_natEnable (k f s) : (State.modPair k f s).natEnable = s.natEnable := rfl
@[simp] theorem State.modPair_llim (k f s) : (State.modPair k f s).llim = s.llim := rfl
@[simp] theorem State.modPair_slim (k f s) : (State.modPair k f s).slim = s.slim := rfl
@[simp] theorem State.modPair_learn (k f s) : (State.modPair k f s).learn = s.learn := rfl
@[simp] theorem State.modPair_conv (k f s) : (State.modPair k f s).conv = s.conv := rfl
@[simp] theorem State.modPair_pwm (k f s) : (State.modPair k f s).pwm = s.pwm := rfl
@[simp] theorem State.modPair_cle (k f s) : (State.modPair k f s).cle = s.cle := rfl
@[simp] theorem State.modPair_str (k f s) : (State.modPair k f s).str = s.str := rfl
@[simp] theorem State.modPair_therm (k f s) : (State.modPair k f s).therm = s.therm := rfl
@[simp] theorem State.modPair_mdOffset (k f s) : (State.modPair k f s).mdOffset = s.mdOffset := rfl
@[simp] theorem State.modPair_mdOffsetDue (k f s) : (State.modPair k f s).mdOffsetDue = s.mdOffsetDue := rfl
@[simp] theorem State.modPair_axis (k f s) : (State.modPair k f s).axis = s.axis := rfl
@[simp] theorem State.modPair_twin (k f s) : (State.modPair k f s).twin = s.twin := rfl
@[simp] theorem State.modPair_su (k f s) : (State.modPair k f s).su = s.su := rfl
@[simp] theorem State.modPair_net (k f s) : (State.modPair k f s).net = s.net := rfl
@[simp] theorem State.modPair_host (k f s) : (State.modPair k f s).host = s.host := rfl
@[simp] theorem State.modPair_can (k f s) : (State.modPair k f s).can = s.can := rfl
@[simp] theorem State.modPair_signal (k f s) : (State.modPair k f s).signal = s.signal := rfl
@[simp] theorem State.modPair_signalValid (k f s) : (State.modPair k f s).signalValid = s.signalValid := rfl
@[simp] theorem State.modPair_canSealed (k f s) : (State.modPair k f s).canSealed = s.canSealed := rfl
@[simp] theorem State.modPair_upd (k f s) : (State.modPair k f s).upd = s.upd := rfl
@[simp] theorem State.modPair_bist (k f s) : (State.modPair k f s).bist = s.bist := rfl
@[simp] theorem State.modPair_events (k f s) : (State.modPair k f s).events = s.events := rfl
@[simp] theorem State.modPair_store (k f s) : (State.modPair k f s).store = s.store := rfl
@[simp] theorem State.modPair_freeCounter (k f s) : (State.modPair k f s).freeCounter = s.freeCounter := rfl
@[simp] theorem State.modPair_pending (k f s) : (State.modPair k f s).pending = s.pending := rfl

/-- `State.modInput` changes sf alone. -/
@[simp] theorem State.modInput_mode (ch f s) : (State.modInput ch f s).mode = s.mode := rfl
@[simp] theorem State.modInput_role (ch f s) : (State.modInput ch f s).role = s.role := rfl
@[simp] theorem State.modInput_supply (ch f s) : (State.modInput ch f s).supply = s.supply := rfl
@[simp] theorem State.modInput_resetReq (ch f s) : (State.modInput ch f s).resetReq = s.resetReq := rfl
@[simp] theorem State.modInput_ret (ch f s) : (State.modInput ch f s).ret = s.ret := rfl
@[simp] theorem State.modInput_fuses (ch f s) : (State.modInput ch f s).fuses = s.fuses := rfl
@[simp] theorem State.modInput_layup (ch f s) : (State.modInput ch f s).layup = s.layup := rfl
@[simp] theorem State.modInput_start (ch f s) : (State.modInput ch f s).start = s.start := rfl
@[simp] theorem State.modInput_plat (ch f s) : (State.modInput ch f s).plat = s.plat := rfl
@[simp] theorem State.modInput_grid (ch f s) : (State.modInput ch f s).grid = s.grid := rfl
@[simp] theorem State.modInput_time (ch f s) : (State.modInput ch f s).time = s.time := rfl
@[simp] theorem State.modInput_win (ch f s) : (State.modInput ch f s).win = s.win := rfl
@[simp] theorem State.modInput_base (ch f s) : (State.modInput ch f s).base = s.base := rfl
@[simp] theorem State.modInput_fb (ch f s) : (State.modInput ch f s).fb = s.fb := rfl
@[simp] theorem State.modInput_lat (ch f s) : (State.modInput ch f s).lat = s.lat := rfl
@[simp] theorem State.modInput_fld (ch f s) : (State.modInput ch f s).fld = s.fld := rfl
@[simp] theorem State.modInput_ring (ch f s) : (State.modInput ch f s).ring = s.ring := rfl
@[simp] theorem State.modInput_diag (ch f s) : (State.modInput ch f s).diag = s.diag := rfl
@[simp] theorem State.modInput_sdiag (ch f s) : (State.modInput ch f s).sdiag = s.sdiag := rfl
@[simp] theorem State.modInput_cells (ch f s) : (State.modInput ch f s).cells = s.cells := rfl
@[simp] theorem State.modInput_temps (ch f s) : (State.modInput ch f s).temps = s.temps := rfl
@[simp] theorem State.modInput_balEnable (ch f s) : (State.modInput ch f s).balEnable = s.balEnable := rfl
@[simp] theorem State.modInput_est (ch f s) : (State.modInput ch f s).est = s.est := rfl
@[simp] theorem State.modInput_eleg (ch f s) : (State.modInput ch f s).eleg = s.eleg := rfl
@[simp] theorem State.modInput_probe (ch f s) : (State.modInput ch f s).probe = s.probe := rfl
@[simp] theorem State.modInput_stringSoc (ch f s) : (State.modInput ch f s).stringSoc = s.stringSoc := rfl
@[simp] theorem State.modInput_probeEnable (ch f s) : (State.modInput ch f s).probeEnable = s.probeEnable := rfl
@[simp] theorem State.modInput_natEnable (ch f s) : (State.modInput ch f s).natEnable = s.natEnable := rfl
@[simp] theorem State.modInput_llim (ch f s) : (State.modInput ch f s).llim = s.llim := rfl
@[simp] theorem State.modInput_slim (ch f s) : (State.modInput ch f s).slim = s.slim := rfl
@[simp] theorem State.modInput_learn (ch f s) : (State.modInput ch f s).learn = s.learn := rfl
@[simp] theorem State.modInput_conv (ch f s) : (State.modInput ch f s).conv = s.conv := rfl
@[simp] theorem State.modInput_pwm (ch f s) : (State.modInput ch f s).pwm = s.pwm := rfl
@[simp] theorem State.modInput_cle (ch f s) : (State.modInput ch f s).cle = s.cle := rfl
@[simp] theorem State.modInput_str (ch f s) : (State.modInput ch f s).str = s.str := rfl
@[simp] theorem State.modInput_therm (ch f s) : (State.modInput ch f s).therm = s.therm := rfl
@[simp] theorem State.modInput_mdOffset (ch f s) : (State.modInput ch f s).mdOffset = s.mdOffset := rfl
@[simp] theorem State.modInput_mdOffsetDue (ch f s) : (State.modInput ch f s).mdOffsetDue = s.mdOffsetDue := rfl
@[simp] theorem State.modInput_axis (ch f s) : (State.modInput ch f s).axis = s.axis := rfl
@[simp] theorem State.modInput_twin (ch f s) : (State.modInput ch f s).twin = s.twin := rfl
@[simp] theorem State.modInput_su (ch f s) : (State.modInput ch f s).su = s.su := rfl
@[simp] theorem State.modInput_net (ch f s) : (State.modInput ch f s).net = s.net := rfl
@[simp] theorem State.modInput_host (ch f s) : (State.modInput ch f s).host = s.host := rfl
@[simp] theorem State.modInput_can (ch f s) : (State.modInput ch f s).can = s.can := rfl
@[simp] theorem State.modInput_signal (ch f s) : (State.modInput ch f s).signal = s.signal := rfl
@[simp] theorem State.modInput_signalValid (ch f s) : (State.modInput ch f s).signalValid = s.signalValid := rfl
@[simp] theorem State.modInput_canSealed (ch f s) : (State.modInput ch f s).canSealed = s.canSealed := rfl
@[simp] theorem State.modInput_upd (ch f s) : (State.modInput ch f s).upd = s.upd := rfl
@[simp] theorem State.modInput_bist (ch f s) : (State.modInput ch f s).bist = s.bist := rfl
@[simp] theorem State.modInput_events (ch f s) : (State.modInput ch f s).events = s.events := rfl
@[simp] theorem State.modInput_store (ch f s) : (State.modInput ch f s).store = s.store := rfl
@[simp] theorem State.modInput_freeCounter (ch f s) : (State.modInput ch f s).freeCounter = s.freeCounter := rfl
@[simp] theorem State.modInput_pending (ch f s) : (State.modInput ch f s).pending = s.pending := rfl

/-- `State.modHost` changes host alone. -/
@[simp] theorem State.modHost_host (f s) : (State.modHost f s).host = f s.host := rfl
@[simp] theorem State.modHost_mode (f s) : (State.modHost f s).mode = s.mode := rfl
@[simp] theorem State.modHost_role (f s) : (State.modHost f s).role = s.role := rfl
@[simp] theorem State.modHost_supply (f s) : (State.modHost f s).supply = s.supply := rfl
@[simp] theorem State.modHost_resetReq (f s) : (State.modHost f s).resetReq = s.resetReq := rfl
@[simp] theorem State.modHost_ret (f s) : (State.modHost f s).ret = s.ret := rfl
@[simp] theorem State.modHost_fuses (f s) : (State.modHost f s).fuses = s.fuses := rfl
@[simp] theorem State.modHost_layup (f s) : (State.modHost f s).layup = s.layup := rfl
@[simp] theorem State.modHost_start (f s) : (State.modHost f s).start = s.start := rfl
@[simp] theorem State.modHost_plat (f s) : (State.modHost f s).plat = s.plat := rfl
@[simp] theorem State.modHost_grid (f s) : (State.modHost f s).grid = s.grid := rfl
@[simp] theorem State.modHost_time (f s) : (State.modHost f s).time = s.time := rfl
@[simp] theorem State.modHost_win (f s) : (State.modHost f s).win = s.win := rfl
@[simp] theorem State.modHost_base (f s) : (State.modHost f s).base = s.base := rfl
@[simp] theorem State.modHost_fb (f s) : (State.modHost f s).fb = s.fb := rfl
@[simp] theorem State.modHost_lat (f s) : (State.modHost f s).lat = s.lat := rfl
@[simp] theorem State.modHost_fld (f s) : (State.modHost f s).fld = s.fld := rfl
@[simp] theorem State.modHost_sf (f s) : (State.modHost f s).sf = s.sf := rfl
@[simp] theorem State.modHost_ring (f s) : (State.modHost f s).ring = s.ring := rfl
@[simp] theorem State.modHost_diag (f s) : (State.modHost f s).diag = s.diag := rfl
@[simp] theorem State.modHost_sdiag (f s) : (State.modHost f s).sdiag = s.sdiag := rfl
@[simp] theorem State.modHost_cells (f s) : (State.modHost f s).cells = s.cells := rfl
@[simp] theorem State.modHost_temps (f s) : (State.modHost f s).temps = s.temps := rfl
@[simp] theorem State.modHost_balEnable (f s) : (State.modHost f s).balEnable = s.balEnable := rfl
@[simp] theorem State.modHost_est (f s) : (State.modHost f s).est = s.est := rfl
@[simp] theorem State.modHost_eleg (f s) : (State.modHost f s).eleg = s.eleg := rfl
@[simp] theorem State.modHost_probe (f s) : (State.modHost f s).probe = s.probe := rfl
@[simp] theorem State.modHost_stringSoc (f s) : (State.modHost f s).stringSoc = s.stringSoc := rfl
@[simp] theorem State.modHost_probeEnable (f s) : (State.modHost f s).probeEnable = s.probeEnable := rfl
@[simp] theorem State.modHost_natEnable (f s) : (State.modHost f s).natEnable = s.natEnable := rfl
@[simp] theorem State.modHost_llim (f s) : (State.modHost f s).llim = s.llim := rfl
@[simp] theorem State.modHost_slim (f s) : (State.modHost f s).slim = s.slim := rfl
@[simp] theorem State.modHost_learn (f s) : (State.modHost f s).learn = s.learn := rfl
@[simp] theorem State.modHost_conv (f s) : (State.modHost f s).conv = s.conv := rfl
@[simp] theorem State.modHost_pwm (f s) : (State.modHost f s).pwm = s.pwm := rfl
@[simp] theorem State.modHost_cle (f s) : (State.modHost f s).cle = s.cle := rfl
@[simp] theorem State.modHost_str (f s) : (State.modHost f s).str = s.str := rfl
@[simp] theorem State.modHost_therm (f s) : (State.modHost f s).therm = s.therm := rfl
@[simp] theorem State.modHost_mdOffset (f s) : (State.modHost f s).mdOffset = s.mdOffset := rfl
@[simp] theorem State.modHost_mdOffsetDue (f s) : (State.modHost f s).mdOffsetDue = s.mdOffsetDue := rfl
@[simp] theorem State.modHost_axis (f s) : (State.modHost f s).axis = s.axis := rfl
@[simp] theorem State.modHost_twin (f s) : (State.modHost f s).twin = s.twin := rfl
@[simp] theorem State.modHost_su (f s) : (State.modHost f s).su = s.su := rfl
@[simp] theorem State.modHost_net (f s) : (State.modHost f s).net = s.net := rfl
@[simp] theorem State.modHost_can (f s) : (State.modHost f s).can = s.can := rfl
@[simp] theorem State.modHost_signal (f s) : (State.modHost f s).signal = s.signal := rfl
@[simp] theorem State.modHost_signalValid (f s) : (State.modHost f s).signalValid = s.signalValid := rfl
@[simp] theorem State.modHost_canSealed (f s) : (State.modHost f s).canSealed = s.canSealed := rfl
@[simp] theorem State.modHost_upd (f s) : (State.modHost f s).upd = s.upd := rfl
@[simp] theorem State.modHost_bist (f s) : (State.modHost f s).bist = s.bist := rfl
@[simp] theorem State.modHost_events (f s) : (State.modHost f s).events = s.events := rfl
@[simp] theorem State.modHost_store (f s) : (State.modHost f s).store = s.store := rfl
@[simp] theorem State.modHost_freeCounter (f s) : (State.modHost f s).freeCounter = s.freeCounter := rfl
@[simp] theorem State.modHost_pending (f s) : (State.modHost f s).pending = s.pending := rfl

/-- `State.modSlot` changes host alone. -/
@[simp] theorem State.modSlot_mode (key f s) : (State.modSlot key f s).mode = s.mode := rfl
@[simp] theorem State.modSlot_role (key f s) : (State.modSlot key f s).role = s.role := rfl
@[simp] theorem State.modSlot_supply (key f s) : (State.modSlot key f s).supply = s.supply := rfl
@[simp] theorem State.modSlot_resetReq (key f s) : (State.modSlot key f s).resetReq = s.resetReq := rfl
@[simp] theorem State.modSlot_ret (key f s) : (State.modSlot key f s).ret = s.ret := rfl
@[simp] theorem State.modSlot_fuses (key f s) : (State.modSlot key f s).fuses = s.fuses := rfl
@[simp] theorem State.modSlot_layup (key f s) : (State.modSlot key f s).layup = s.layup := rfl
@[simp] theorem State.modSlot_start (key f s) : (State.modSlot key f s).start = s.start := rfl
@[simp] theorem State.modSlot_plat (key f s) : (State.modSlot key f s).plat = s.plat := rfl
@[simp] theorem State.modSlot_grid (key f s) : (State.modSlot key f s).grid = s.grid := rfl
@[simp] theorem State.modSlot_time (key f s) : (State.modSlot key f s).time = s.time := rfl
@[simp] theorem State.modSlot_win (key f s) : (State.modSlot key f s).win = s.win := rfl
@[simp] theorem State.modSlot_base (key f s) : (State.modSlot key f s).base = s.base := rfl
@[simp] theorem State.modSlot_fb (key f s) : (State.modSlot key f s).fb = s.fb := rfl
@[simp] theorem State.modSlot_lat (key f s) : (State.modSlot key f s).lat = s.lat := rfl
@[simp] theorem State.modSlot_fld (key f s) : (State.modSlot key f s).fld = s.fld := rfl
@[simp] theorem State.modSlot_sf (key f s) : (State.modSlot key f s).sf = s.sf := rfl
@[simp] theorem State.modSlot_ring (key f s) : (State.modSlot key f s).ring = s.ring := rfl
@[simp] theorem State.modSlot_diag (key f s) : (State.modSlot key f s).diag = s.diag := rfl
@[simp] theorem State.modSlot_sdiag (key f s) : (State.modSlot key f s).sdiag = s.sdiag := rfl
@[simp] theorem State.modSlot_cells (key f s) : (State.modSlot key f s).cells = s.cells := rfl
@[simp] theorem State.modSlot_temps (key f s) : (State.modSlot key f s).temps = s.temps := rfl
@[simp] theorem State.modSlot_balEnable (key f s) : (State.modSlot key f s).balEnable = s.balEnable := rfl
@[simp] theorem State.modSlot_est (key f s) : (State.modSlot key f s).est = s.est := rfl
@[simp] theorem State.modSlot_eleg (key f s) : (State.modSlot key f s).eleg = s.eleg := rfl
@[simp] theorem State.modSlot_probe (key f s) : (State.modSlot key f s).probe = s.probe := rfl
@[simp] theorem State.modSlot_stringSoc (key f s) : (State.modSlot key f s).stringSoc = s.stringSoc := rfl
@[simp] theorem State.modSlot_probeEnable (key f s) : (State.modSlot key f s).probeEnable = s.probeEnable := rfl
@[simp] theorem State.modSlot_natEnable (key f s) : (State.modSlot key f s).natEnable = s.natEnable := rfl
@[simp] theorem State.modSlot_llim (key f s) : (State.modSlot key f s).llim = s.llim := rfl
@[simp] theorem State.modSlot_slim (key f s) : (State.modSlot key f s).slim = s.slim := rfl
@[simp] theorem State.modSlot_learn (key f s) : (State.modSlot key f s).learn = s.learn := rfl
@[simp] theorem State.modSlot_conv (key f s) : (State.modSlot key f s).conv = s.conv := rfl
@[simp] theorem State.modSlot_pwm (key f s) : (State.modSlot key f s).pwm = s.pwm := rfl
@[simp] theorem State.modSlot_cle (key f s) : (State.modSlot key f s).cle = s.cle := rfl
@[simp] theorem State.modSlot_str (key f s) : (State.modSlot key f s).str = s.str := rfl
@[simp] theorem State.modSlot_therm (key f s) : (State.modSlot key f s).therm = s.therm := rfl
@[simp] theorem State.modSlot_mdOffset (key f s) : (State.modSlot key f s).mdOffset = s.mdOffset := rfl
@[simp] theorem State.modSlot_mdOffsetDue (key f s) : (State.modSlot key f s).mdOffsetDue = s.mdOffsetDue := rfl
@[simp] theorem State.modSlot_axis (key f s) : (State.modSlot key f s).axis = s.axis := rfl
@[simp] theorem State.modSlot_twin (key f s) : (State.modSlot key f s).twin = s.twin := rfl
@[simp] theorem State.modSlot_su (key f s) : (State.modSlot key f s).su = s.su := rfl
@[simp] theorem State.modSlot_net (key f s) : (State.modSlot key f s).net = s.net := rfl
@[simp] theorem State.modSlot_can (key f s) : (State.modSlot key f s).can = s.can := rfl
@[simp] theorem State.modSlot_signal (key f s) : (State.modSlot key f s).signal = s.signal := rfl
@[simp] theorem State.modSlot_signalValid (key f s) : (State.modSlot key f s).signalValid = s.signalValid := rfl
@[simp] theorem State.modSlot_canSealed (key f s) : (State.modSlot key f s).canSealed = s.canSealed := rfl
@[simp] theorem State.modSlot_upd (key f s) : (State.modSlot key f s).upd = s.upd := rfl
@[simp] theorem State.modSlot_bist (key f s) : (State.modSlot key f s).bist = s.bist := rfl
@[simp] theorem State.modSlot_events (key f s) : (State.modSlot key f s).events = s.events := rfl
@[simp] theorem State.modSlot_store (key f s) : (State.modSlot key f s).store = s.store := rfl
@[simp] theorem State.modSlot_freeCounter (key f s) : (State.modSlot key f s).freeCounter = s.freeCounter := rfl
@[simp] theorem State.modSlot_pending (key f s) : (State.modSlot key f s).pending = s.pending := rfl

/-- `State.modWin` changes su alone. -/
@[simp] theorem State.modWin_su (w f s) : (State.modWin w f s).su = { s.su with win := vmod s.su.win w f } := rfl
@[simp] theorem State.modWin_mode (w f s) : (State.modWin w f s).mode = s.mode := rfl
@[simp] theorem State.modWin_role (w f s) : (State.modWin w f s).role = s.role := rfl
@[simp] theorem State.modWin_supply (w f s) : (State.modWin w f s).supply = s.supply := rfl
@[simp] theorem State.modWin_resetReq (w f s) : (State.modWin w f s).resetReq = s.resetReq := rfl
@[simp] theorem State.modWin_ret (w f s) : (State.modWin w f s).ret = s.ret := rfl
@[simp] theorem State.modWin_fuses (w f s) : (State.modWin w f s).fuses = s.fuses := rfl
@[simp] theorem State.modWin_layup (w f s) : (State.modWin w f s).layup = s.layup := rfl
@[simp] theorem State.modWin_start (w f s) : (State.modWin w f s).start = s.start := rfl
@[simp] theorem State.modWin_plat (w f s) : (State.modWin w f s).plat = s.plat := rfl
@[simp] theorem State.modWin_grid (w f s) : (State.modWin w f s).grid = s.grid := rfl
@[simp] theorem State.modWin_time (w f s) : (State.modWin w f s).time = s.time := rfl
@[simp] theorem State.modWin_win (w f s) : (State.modWin w f s).win = s.win := rfl
@[simp] theorem State.modWin_base (w f s) : (State.modWin w f s).base = s.base := rfl
@[simp] theorem State.modWin_fb (w f s) : (State.modWin w f s).fb = s.fb := rfl
@[simp] theorem State.modWin_lat (w f s) : (State.modWin w f s).lat = s.lat := rfl
@[simp] theorem State.modWin_fld (w f s) : (State.modWin w f s).fld = s.fld := rfl
@[simp] theorem State.modWin_sf (w f s) : (State.modWin w f s).sf = s.sf := rfl
@[simp] theorem State.modWin_ring (w f s) : (State.modWin w f s).ring = s.ring := rfl
@[simp] theorem State.modWin_diag (w f s) : (State.modWin w f s).diag = s.diag := rfl
@[simp] theorem State.modWin_sdiag (w f s) : (State.modWin w f s).sdiag = s.sdiag := rfl
@[simp] theorem State.modWin_cells (w f s) : (State.modWin w f s).cells = s.cells := rfl
@[simp] theorem State.modWin_temps (w f s) : (State.modWin w f s).temps = s.temps := rfl
@[simp] theorem State.modWin_balEnable (w f s) : (State.modWin w f s).balEnable = s.balEnable := rfl
@[simp] theorem State.modWin_est (w f s) : (State.modWin w f s).est = s.est := rfl
@[simp] theorem State.modWin_eleg (w f s) : (State.modWin w f s).eleg = s.eleg := rfl
@[simp] theorem State.modWin_probe (w f s) : (State.modWin w f s).probe = s.probe := rfl
@[simp] theorem State.modWin_stringSoc (w f s) : (State.modWin w f s).stringSoc = s.stringSoc := rfl
@[simp] theorem State.modWin_probeEnable (w f s) : (State.modWin w f s).probeEnable = s.probeEnable := rfl
@[simp] theorem State.modWin_natEnable (w f s) : (State.modWin w f s).natEnable = s.natEnable := rfl
@[simp] theorem State.modWin_llim (w f s) : (State.modWin w f s).llim = s.llim := rfl
@[simp] theorem State.modWin_slim (w f s) : (State.modWin w f s).slim = s.slim := rfl
@[simp] theorem State.modWin_learn (w f s) : (State.modWin w f s).learn = s.learn := rfl
@[simp] theorem State.modWin_conv (w f s) : (State.modWin w f s).conv = s.conv := rfl
@[simp] theorem State.modWin_pwm (w f s) : (State.modWin w f s).pwm = s.pwm := rfl
@[simp] theorem State.modWin_cle (w f s) : (State.modWin w f s).cle = s.cle := rfl
@[simp] theorem State.modWin_str (w f s) : (State.modWin w f s).str = s.str := rfl
@[simp] theorem State.modWin_therm (w f s) : (State.modWin w f s).therm = s.therm := rfl
@[simp] theorem State.modWin_mdOffset (w f s) : (State.modWin w f s).mdOffset = s.mdOffset := rfl
@[simp] theorem State.modWin_mdOffsetDue (w f s) : (State.modWin w f s).mdOffsetDue = s.mdOffsetDue := rfl
@[simp] theorem State.modWin_axis (w f s) : (State.modWin w f s).axis = s.axis := rfl
@[simp] theorem State.modWin_twin (w f s) : (State.modWin w f s).twin = s.twin := rfl
@[simp] theorem State.modWin_net (w f s) : (State.modWin w f s).net = s.net := rfl
@[simp] theorem State.modWin_host (w f s) : (State.modWin w f s).host = s.host := rfl
@[simp] theorem State.modWin_can (w f s) : (State.modWin w f s).can = s.can := rfl
@[simp] theorem State.modWin_signal (w f s) : (State.modWin w f s).signal = s.signal := rfl
@[simp] theorem State.modWin_signalValid (w f s) : (State.modWin w f s).signalValid = s.signalValid := rfl
@[simp] theorem State.modWin_canSealed (w f s) : (State.modWin w f s).canSealed = s.canSealed := rfl
@[simp] theorem State.modWin_upd (w f s) : (State.modWin w f s).upd = s.upd := rfl
@[simp] theorem State.modWin_bist (w f s) : (State.modWin w f s).bist = s.bist := rfl
@[simp] theorem State.modWin_events (w f s) : (State.modWin w f s).events = s.events := rfl
@[simp] theorem State.modWin_store (w f s) : (State.modWin w f s).store = s.store := rfl
@[simp] theorem State.modWin_freeCounter (w f s) : (State.modWin w f s).freeCounter = s.freeCounter := rfl
@[simp] theorem State.modWin_pending (w f s) : (State.modWin w f s).pending = s.pending := rfl

/-- `State.modUpd` changes upd alone. -/
@[simp] theorem State.modUpd_upd (f s) : (State.modUpd f s).upd = f s.upd := rfl
@[simp] theorem State.modUpd_mode (f s) : (State.modUpd f s).mode = s.mode := rfl
@[simp] theorem State.modUpd_role (f s) : (State.modUpd f s).role = s.role := rfl
@[simp] theorem State.modUpd_supply (f s) : (State.modUpd f s).supply = s.supply := rfl
@[simp] theorem State.modUpd_resetReq (f s) : (State.modUpd f s).resetReq = s.resetReq := rfl
@[simp] theorem State.modUpd_ret (f s) : (State.modUpd f s).ret = s.ret := rfl
@[simp] theorem State.modUpd_fuses (f s) : (State.modUpd f s).fuses = s.fuses := rfl
@[simp] theorem State.modUpd_layup (f s) : (State.modUpd f s).layup = s.layup := rfl
@[simp] theorem State.modUpd_start (f s) : (State.modUpd f s).start = s.start := rfl
@[simp] theorem State.modUpd_plat (f s) : (State.modUpd f s).plat = s.plat := rfl
@[simp] theorem State.modUpd_grid (f s) : (State.modUpd f s).grid = s.grid := rfl
@[simp] theorem State.modUpd_time (f s) : (State.modUpd f s).time = s.time := rfl
@[simp] theorem State.modUpd_win (f s) : (State.modUpd f s).win = s.win := rfl
@[simp] theorem State.modUpd_base (f s) : (State.modUpd f s).base = s.base := rfl
@[simp] theorem State.modUpd_fb (f s) : (State.modUpd f s).fb = s.fb := rfl
@[simp] theorem State.modUpd_lat (f s) : (State.modUpd f s).lat = s.lat := rfl
@[simp] theorem State.modUpd_fld (f s) : (State.modUpd f s).fld = s.fld := rfl
@[simp] theorem State.modUpd_sf (f s) : (State.modUpd f s).sf = s.sf := rfl
@[simp] theorem State.modUpd_ring (f s) : (State.modUpd f s).ring = s.ring := rfl
@[simp] theorem State.modUpd_diag (f s) : (State.modUpd f s).diag = s.diag := rfl
@[simp] theorem State.modUpd_sdiag (f s) : (State.modUpd f s).sdiag = s.sdiag := rfl
@[simp] theorem State.modUpd_cells (f s) : (State.modUpd f s).cells = s.cells := rfl
@[simp] theorem State.modUpd_temps (f s) : (State.modUpd f s).temps = s.temps := rfl
@[simp] theorem State.modUpd_balEnable (f s) : (State.modUpd f s).balEnable = s.balEnable := rfl
@[simp] theorem State.modUpd_est (f s) : (State.modUpd f s).est = s.est := rfl
@[simp] theorem State.modUpd_eleg (f s) : (State.modUpd f s).eleg = s.eleg := rfl
@[simp] theorem State.modUpd_probe (f s) : (State.modUpd f s).probe = s.probe := rfl
@[simp] theorem State.modUpd_stringSoc (f s) : (State.modUpd f s).stringSoc = s.stringSoc := rfl
@[simp] theorem State.modUpd_probeEnable (f s) : (State.modUpd f s).probeEnable = s.probeEnable := rfl
@[simp] theorem State.modUpd_natEnable (f s) : (State.modUpd f s).natEnable = s.natEnable := rfl
@[simp] theorem State.modUpd_llim (f s) : (State.modUpd f s).llim = s.llim := rfl
@[simp] theorem State.modUpd_slim (f s) : (State.modUpd f s).slim = s.slim := rfl
@[simp] theorem State.modUpd_learn (f s) : (State.modUpd f s).learn = s.learn := rfl
@[simp] theorem State.modUpd_conv (f s) : (State.modUpd f s).conv = s.conv := rfl
@[simp] theorem State.modUpd_pwm (f s) : (State.modUpd f s).pwm = s.pwm := rfl
@[simp] theorem State.modUpd_cle (f s) : (State.modUpd f s).cle = s.cle := rfl
@[simp] theorem State.modUpd_str (f s) : (State.modUpd f s).str = s.str := rfl
@[simp] theorem State.modUpd_therm (f s) : (State.modUpd f s).therm = s.therm := rfl
@[simp] theorem State.modUpd_mdOffset (f s) : (State.modUpd f s).mdOffset = s.mdOffset := rfl
@[simp] theorem State.modUpd_mdOffsetDue (f s) : (State.modUpd f s).mdOffsetDue = s.mdOffsetDue := rfl
@[simp] theorem State.modUpd_axis (f s) : (State.modUpd f s).axis = s.axis := rfl
@[simp] theorem State.modUpd_twin (f s) : (State.modUpd f s).twin = s.twin := rfl
@[simp] theorem State.modUpd_su (f s) : (State.modUpd f s).su = s.su := rfl
@[simp] theorem State.modUpd_net (f s) : (State.modUpd f s).net = s.net := rfl
@[simp] theorem State.modUpd_host (f s) : (State.modUpd f s).host = s.host := rfl
@[simp] theorem State.modUpd_can (f s) : (State.modUpd f s).can = s.can := rfl
@[simp] theorem State.modUpd_signal (f s) : (State.modUpd f s).signal = s.signal := rfl
@[simp] theorem State.modUpd_signalValid (f s) : (State.modUpd f s).signalValid = s.signalValid := rfl
@[simp] theorem State.modUpd_canSealed (f s) : (State.modUpd f s).canSealed = s.canSealed := rfl
@[simp] theorem State.modUpd_bist (f s) : (State.modUpd f s).bist = s.bist := rfl
@[simp] theorem State.modUpd_events (f s) : (State.modUpd f s).events = s.events := rfl
@[simp] theorem State.modUpd_store (f s) : (State.modUpd f s).store = s.store := rfl
@[simp] theorem State.modUpd_freeCounter (f s) : (State.modUpd f s).freeCounter = s.freeCounter := rfl
@[simp] theorem State.modUpd_pending (f s) : (State.modUpd f s).pending = s.pending := rfl

/-- `State.modDir` changes base alone. -/
@[simp] theorem State.modDir_mode (d f s) : (State.modDir d f s).mode = s.mode := by cases d <;> rfl
@[simp] theorem State.modDir_role (d f s) : (State.modDir d f s).role = s.role := by cases d <;> rfl
@[simp] theorem State.modDir_supply (d f s) : (State.modDir d f s).supply = s.supply := by cases d <;> rfl
@[simp] theorem State.modDir_resetReq (d f s) : (State.modDir d f s).resetReq = s.resetReq := by cases d <;> rfl
@[simp] theorem State.modDir_ret (d f s) : (State.modDir d f s).ret = s.ret := by cases d <;> rfl
@[simp] theorem State.modDir_fuses (d f s) : (State.modDir d f s).fuses = s.fuses := by cases d <;> rfl
@[simp] theorem State.modDir_layup (d f s) : (State.modDir d f s).layup = s.layup := by cases d <;> rfl
@[simp] theorem State.modDir_start (d f s) : (State.modDir d f s).start = s.start := by cases d <;> rfl
@[simp] theorem State.modDir_plat (d f s) : (State.modDir d f s).plat = s.plat := by cases d <;> rfl
@[simp] theorem State.modDir_grid (d f s) : (State.modDir d f s).grid = s.grid := by cases d <;> rfl
@[simp] theorem State.modDir_time (d f s) : (State.modDir d f s).time = s.time := by cases d <;> rfl
@[simp] theorem State.modDir_win (d f s) : (State.modDir d f s).win = s.win := by cases d <;> rfl
@[simp] theorem State.modDir_fb (d f s) : (State.modDir d f s).fb = s.fb := by cases d <;> rfl
@[simp] theorem State.modDir_lat (d f s) : (State.modDir d f s).lat = s.lat := by cases d <;> rfl
@[simp] theorem State.modDir_fld (d f s) : (State.modDir d f s).fld = s.fld := by cases d <;> rfl
@[simp] theorem State.modDir_sf (d f s) : (State.modDir d f s).sf = s.sf := by cases d <;> rfl
@[simp] theorem State.modDir_ring (d f s) : (State.modDir d f s).ring = s.ring := by cases d <;> rfl
@[simp] theorem State.modDir_diag (d f s) : (State.modDir d f s).diag = s.diag := by cases d <;> rfl
@[simp] theorem State.modDir_sdiag (d f s) : (State.modDir d f s).sdiag = s.sdiag := by cases d <;> rfl
@[simp] theorem State.modDir_cells (d f s) : (State.modDir d f s).cells = s.cells := by cases d <;> rfl
@[simp] theorem State.modDir_temps (d f s) : (State.modDir d f s).temps = s.temps := by cases d <;> rfl
@[simp] theorem State.modDir_balEnable (d f s) : (State.modDir d f s).balEnable = s.balEnable := by cases d <;> rfl
@[simp] theorem State.modDir_est (d f s) : (State.modDir d f s).est = s.est := by cases d <;> rfl
@[simp] theorem State.modDir_eleg (d f s) : (State.modDir d f s).eleg = s.eleg := by cases d <;> rfl
@[simp] theorem State.modDir_probe (d f s) : (State.modDir d f s).probe = s.probe := by cases d <;> rfl
@[simp] theorem State.modDir_stringSoc (d f s) : (State.modDir d f s).stringSoc = s.stringSoc := by cases d <;> rfl
@[simp] theorem State.modDir_probeEnable (d f s) : (State.modDir d f s).probeEnable = s.probeEnable := by cases d <;> rfl
@[simp] theorem State.modDir_natEnable (d f s) : (State.modDir d f s).natEnable = s.natEnable := by cases d <;> rfl
@[simp] theorem State.modDir_llim (d f s) : (State.modDir d f s).llim = s.llim := by cases d <;> rfl
@[simp] theorem State.modDir_slim (d f s) : (State.modDir d f s).slim = s.slim := by cases d <;> rfl
@[simp] theorem State.modDir_learn (d f s) : (State.modDir d f s).learn = s.learn := by cases d <;> rfl
@[simp] theorem State.modDir_conv (d f s) : (State.modDir d f s).conv = s.conv := by cases d <;> rfl
@[simp] theorem State.modDir_pwm (d f s) : (State.modDir d f s).pwm = s.pwm := by cases d <;> rfl
@[simp] theorem State.modDir_cle (d f s) : (State.modDir d f s).cle = s.cle := by cases d <;> rfl
@[simp] theorem State.modDir_str (d f s) : (State.modDir d f s).str = s.str := by cases d <;> rfl
@[simp] theorem State.modDir_therm (d f s) : (State.modDir d f s).therm = s.therm := by cases d <;> rfl
@[simp] theorem State.modDir_mdOffset (d f s) : (State.modDir d f s).mdOffset = s.mdOffset := by cases d <;> rfl
@[simp] theorem State.modDir_mdOffsetDue (d f s) : (State.modDir d f s).mdOffsetDue = s.mdOffsetDue := by cases d <;> rfl
@[simp] theorem State.modDir_axis (d f s) : (State.modDir d f s).axis = s.axis := by cases d <;> rfl
@[simp] theorem State.modDir_twin (d f s) : (State.modDir d f s).twin = s.twin := by cases d <;> rfl
@[simp] theorem State.modDir_su (d f s) : (State.modDir d f s).su = s.su := by cases d <;> rfl
@[simp] theorem State.modDir_net (d f s) : (State.modDir d f s).net = s.net := by cases d <;> rfl
@[simp] theorem State.modDir_host (d f s) : (State.modDir d f s).host = s.host := by cases d <;> rfl
@[simp] theorem State.modDir_can (d f s) : (State.modDir d f s).can = s.can := by cases d <;> rfl
@[simp] theorem State.modDir_signal (d f s) : (State.modDir d f s).signal = s.signal := by cases d <;> rfl
@[simp] theorem State.modDir_signalValid (d f s) : (State.modDir d f s).signalValid = s.signalValid := by cases d <;> rfl
@[simp] theorem State.modDir_canSealed (d f s) : (State.modDir d f s).canSealed = s.canSealed := by cases d <;> rfl
@[simp] theorem State.modDir_upd (d f s) : (State.modDir d f s).upd = s.upd := by cases d <;> rfl
@[simp] theorem State.modDir_bist (d f s) : (State.modDir d f s).bist = s.bist := by cases d <;> rfl
@[simp] theorem State.modDir_events (d f s) : (State.modDir d f s).events = s.events := by cases d <;> rfl
@[simp] theorem State.modDir_store (d f s) : (State.modDir d f s).store = s.store := by cases d <;> rfl
@[simp] theorem State.modDir_freeCounter (d f s) : (State.modDir d f s).freeCounter = s.freeCounter := by cases d <;> rfl
@[simp] theorem State.modDir_pending (d f s) : (State.modDir d f s).pending = s.pending := by cases d <;> rfl

/-- `State.modNet` changes net alone. -/
@[simp] theorem State.modNet_net (f s) : (State.modNet f s).net = f s.net := rfl
@[simp] theorem State.modNet_mode (f s) : (State.modNet f s).mode = s.mode := rfl
@[simp] theorem State.modNet_role (f s) : (State.modNet f s).role = s.role := rfl
@[simp] theorem State.modNet_supply (f s) : (State.modNet f s).supply = s.supply := rfl
@[simp] theorem State.modNet_resetReq (f s) : (State.modNet f s).resetReq = s.resetReq := rfl
@[simp] theorem State.modNet_ret (f s) : (State.modNet f s).ret = s.ret := rfl
@[simp] theorem State.modNet_fuses (f s) : (State.modNet f s).fuses = s.fuses := rfl
@[simp] theorem State.modNet_layup (f s) : (State.modNet f s).layup = s.layup := rfl
@[simp] theorem State.modNet_start (f s) : (State.modNet f s).start = s.start := rfl
@[simp] theorem State.modNet_plat (f s) : (State.modNet f s).plat = s.plat := rfl
@[simp] theorem State.modNet_grid (f s) : (State.modNet f s).grid = s.grid := rfl
@[simp] theorem State.modNet_time (f s) : (State.modNet f s).time = s.time := rfl
@[simp] theorem State.modNet_win (f s) : (State.modNet f s).win = s.win := rfl
@[simp] theorem State.modNet_base (f s) : (State.modNet f s).base = s.base := rfl
@[simp] theorem State.modNet_fb (f s) : (State.modNet f s).fb = s.fb := rfl
@[simp] theorem State.modNet_lat (f s) : (State.modNet f s).lat = s.lat := rfl
@[simp] theorem State.modNet_fld (f s) : (State.modNet f s).fld = s.fld := rfl
@[simp] theorem State.modNet_sf (f s) : (State.modNet f s).sf = s.sf := rfl
@[simp] theorem State.modNet_ring (f s) : (State.modNet f s).ring = s.ring := rfl
@[simp] theorem State.modNet_diag (f s) : (State.modNet f s).diag = s.diag := rfl
@[simp] theorem State.modNet_sdiag (f s) : (State.modNet f s).sdiag = s.sdiag := rfl
@[simp] theorem State.modNet_cells (f s) : (State.modNet f s).cells = s.cells := rfl
@[simp] theorem State.modNet_temps (f s) : (State.modNet f s).temps = s.temps := rfl
@[simp] theorem State.modNet_balEnable (f s) : (State.modNet f s).balEnable = s.balEnable := rfl
@[simp] theorem State.modNet_est (f s) : (State.modNet f s).est = s.est := rfl
@[simp] theorem State.modNet_eleg (f s) : (State.modNet f s).eleg = s.eleg := rfl
@[simp] theorem State.modNet_probe (f s) : (State.modNet f s).probe = s.probe := rfl
@[simp] theorem State.modNet_stringSoc (f s) : (State.modNet f s).stringSoc = s.stringSoc := rfl
@[simp] theorem State.modNet_probeEnable (f s) : (State.modNet f s).probeEnable = s.probeEnable := rfl
@[simp] theorem State.modNet_natEnable (f s) : (State.modNet f s).natEnable = s.natEnable := rfl
@[simp] theorem State.modNet_llim (f s) : (State.modNet f s).llim = s.llim := rfl
@[simp] theorem State.modNet_slim (f s) : (State.modNet f s).slim = s.slim := rfl
@[simp] theorem State.modNet_learn (f s) : (State.modNet f s).learn = s.learn := rfl
@[simp] theorem State.modNet_conv (f s) : (State.modNet f s).conv = s.conv := rfl
@[simp] theorem State.modNet_pwm (f s) : (State.modNet f s).pwm = s.pwm := rfl
@[simp] theorem State.modNet_cle (f s) : (State.modNet f s).cle = s.cle := rfl
@[simp] theorem State.modNet_str (f s) : (State.modNet f s).str = s.str := rfl
@[simp] theorem State.modNet_therm (f s) : (State.modNet f s).therm = s.therm := rfl
@[simp] theorem State.modNet_mdOffset (f s) : (State.modNet f s).mdOffset = s.mdOffset := rfl
@[simp] theorem State.modNet_mdOffsetDue (f s) : (State.modNet f s).mdOffsetDue = s.mdOffsetDue := rfl
@[simp] theorem State.modNet_axis (f s) : (State.modNet f s).axis = s.axis := rfl
@[simp] theorem State.modNet_twin (f s) : (State.modNet f s).twin = s.twin := rfl
@[simp] theorem State.modNet_su (f s) : (State.modNet f s).su = s.su := rfl
@[simp] theorem State.modNet_host (f s) : (State.modNet f s).host = s.host := rfl
@[simp] theorem State.modNet_can (f s) : (State.modNet f s).can = s.can := rfl
@[simp] theorem State.modNet_signal (f s) : (State.modNet f s).signal = s.signal := rfl
@[simp] theorem State.modNet_signalValid (f s) : (State.modNet f s).signalValid = s.signalValid := rfl
@[simp] theorem State.modNet_canSealed (f s) : (State.modNet f s).canSealed = s.canSealed := rfl
@[simp] theorem State.modNet_upd (f s) : (State.modNet f s).upd = s.upd := rfl
@[simp] theorem State.modNet_bist (f s) : (State.modNet f s).bist = s.bist := rfl
@[simp] theorem State.modNet_events (f s) : (State.modNet f s).events = s.events := rfl
@[simp] theorem State.modNet_store (f s) : (State.modNet f s).store = s.store := rfl
@[simp] theorem State.modNet_freeCounter (f s) : (State.modNet f s).freeCounter = s.freeCounter := rfl
@[simp] theorem State.modNet_pending (f s) : (State.modNet f s).pending = s.pending := rfl

/-- `State.modLan` changes net alone. -/
@[simp] theorem State.modLan_net (i f s) : (State.modLan i f s).net = { s.net with lan := vmod s.net.lan i f } := rfl
@[simp] theorem State.modLan_mode (i f s) : (State.modLan i f s).mode = s.mode := rfl
@[simp] theorem State.modLan_role (i f s) : (State.modLan i f s).role = s.role := rfl
@[simp] theorem State.modLan_supply (i f s) : (State.modLan i f s).supply = s.supply := rfl
@[simp] theorem State.modLan_resetReq (i f s) : (State.modLan i f s).resetReq = s.resetReq := rfl
@[simp] theorem State.modLan_ret (i f s) : (State.modLan i f s).ret = s.ret := rfl
@[simp] theorem State.modLan_fuses (i f s) : (State.modLan i f s).fuses = s.fuses := rfl
@[simp] theorem State.modLan_layup (i f s) : (State.modLan i f s).layup = s.layup := rfl
@[simp] theorem State.modLan_start (i f s) : (State.modLan i f s).start = s.start := rfl
@[simp] theorem State.modLan_plat (i f s) : (State.modLan i f s).plat = s.plat := rfl
@[simp] theorem State.modLan_grid (i f s) : (State.modLan i f s).grid = s.grid := rfl
@[simp] theorem State.modLan_time (i f s) : (State.modLan i f s).time = s.time := rfl
@[simp] theorem State.modLan_win (i f s) : (State.modLan i f s).win = s.win := rfl
@[simp] theorem State.modLan_base (i f s) : (State.modLan i f s).base = s.base := rfl
@[simp] theorem State.modLan_fb (i f s) : (State.modLan i f s).fb = s.fb := rfl
@[simp] theorem State.modLan_lat (i f s) : (State.modLan i f s).lat = s.lat := rfl
@[simp] theorem State.modLan_fld (i f s) : (State.modLan i f s).fld = s.fld := rfl
@[simp] theorem State.modLan_sf (i f s) : (State.modLan i f s).sf = s.sf := rfl
@[simp] theorem State.modLan_ring (i f s) : (State.modLan i f s).ring = s.ring := rfl
@[simp] theorem State.modLan_diag (i f s) : (State.modLan i f s).diag = s.diag := rfl
@[simp] theorem State.modLan_sdiag (i f s) : (State.modLan i f s).sdiag = s.sdiag := rfl
@[simp] theorem State.modLan_cells (i f s) : (State.modLan i f s).cells = s.cells := rfl
@[simp] theorem State.modLan_temps (i f s) : (State.modLan i f s).temps = s.temps := rfl
@[simp] theorem State.modLan_balEnable (i f s) : (State.modLan i f s).balEnable = s.balEnable := rfl
@[simp] theorem State.modLan_est (i f s) : (State.modLan i f s).est = s.est := rfl
@[simp] theorem State.modLan_eleg (i f s) : (State.modLan i f s).eleg = s.eleg := rfl
@[simp] theorem State.modLan_probe (i f s) : (State.modLan i f s).probe = s.probe := rfl
@[simp] theorem State.modLan_stringSoc (i f s) : (State.modLan i f s).stringSoc = s.stringSoc := rfl
@[simp] theorem State.modLan_probeEnable (i f s) : (State.modLan i f s).probeEnable = s.probeEnable := rfl
@[simp] theorem State.modLan_natEnable (i f s) : (State.modLan i f s).natEnable = s.natEnable := rfl
@[simp] theorem State.modLan_llim (i f s) : (State.modLan i f s).llim = s.llim := rfl
@[simp] theorem State.modLan_slim (i f s) : (State.modLan i f s).slim = s.slim := rfl
@[simp] theorem State.modLan_learn (i f s) : (State.modLan i f s).learn = s.learn := rfl
@[simp] theorem State.modLan_conv (i f s) : (State.modLan i f s).conv = s.conv := rfl
@[simp] theorem State.modLan_pwm (i f s) : (State.modLan i f s).pwm = s.pwm := rfl
@[simp] theorem State.modLan_cle (i f s) : (State.modLan i f s).cle = s.cle := rfl
@[simp] theorem State.modLan_str (i f s) : (State.modLan i f s).str = s.str := rfl
@[simp] theorem State.modLan_therm (i f s) : (State.modLan i f s).therm = s.therm := rfl
@[simp] theorem State.modLan_mdOffset (i f s) : (State.modLan i f s).mdOffset = s.mdOffset := rfl
@[simp] theorem State.modLan_mdOffsetDue (i f s) : (State.modLan i f s).mdOffsetDue = s.mdOffsetDue := rfl
@[simp] theorem State.modLan_axis (i f s) : (State.modLan i f s).axis = s.axis := rfl
@[simp] theorem State.modLan_twin (i f s) : (State.modLan i f s).twin = s.twin := rfl
@[simp] theorem State.modLan_su (i f s) : (State.modLan i f s).su = s.su := rfl
@[simp] theorem State.modLan_host (i f s) : (State.modLan i f s).host = s.host := rfl
@[simp] theorem State.modLan_can (i f s) : (State.modLan i f s).can = s.can := rfl
@[simp] theorem State.modLan_signal (i f s) : (State.modLan i f s).signal = s.signal := rfl
@[simp] theorem State.modLan_signalValid (i f s) : (State.modLan i f s).signalValid = s.signalValid := rfl
@[simp] theorem State.modLan_canSealed (i f s) : (State.modLan i f s).canSealed = s.canSealed := rfl
@[simp] theorem State.modLan_upd (i f s) : (State.modLan i f s).upd = s.upd := rfl
@[simp] theorem State.modLan_bist (i f s) : (State.modLan i f s).bist = s.bist := rfl
@[simp] theorem State.modLan_events (i f s) : (State.modLan i f s).events = s.events := rfl
@[simp] theorem State.modLan_store (i f s) : (State.modLan i f s).store = s.store := rfl
@[simp] theorem State.modLan_freeCounter (i f s) : (State.modLan i f s).freeCounter = s.freeCounter := rfl
@[simp] theorem State.modLan_pending (i f s) : (State.modLan i f s).pending = s.pending := rfl

/-- `State.modSupply` changes supply alone. -/
@[simp] theorem State.modSupply_supply (f s) : (State.modSupply f s).supply = f s.supply := rfl
@[simp] theorem State.modSupply_mode (f s) : (State.modSupply f s).mode = s.mode := rfl
@[simp] theorem State.modSupply_role (f s) : (State.modSupply f s).role = s.role := rfl
@[simp] theorem State.modSupply_resetReq (f s) : (State.modSupply f s).resetReq = s.resetReq := rfl
@[simp] theorem State.modSupply_ret (f s) : (State.modSupply f s).ret = s.ret := rfl
@[simp] theorem State.modSupply_fuses (f s) : (State.modSupply f s).fuses = s.fuses := rfl
@[simp] theorem State.modSupply_layup (f s) : (State.modSupply f s).layup = s.layup := rfl
@[simp] theorem State.modSupply_start (f s) : (State.modSupply f s).start = s.start := rfl
@[simp] theorem State.modSupply_plat (f s) : (State.modSupply f s).plat = s.plat := rfl
@[simp] theorem State.modSupply_grid (f s) : (State.modSupply f s).grid = s.grid := rfl
@[simp] theorem State.modSupply_time (f s) : (State.modSupply f s).time = s.time := rfl
@[simp] theorem State.modSupply_win (f s) : (State.modSupply f s).win = s.win := rfl
@[simp] theorem State.modSupply_base (f s) : (State.modSupply f s).base = s.base := rfl
@[simp] theorem State.modSupply_fb (f s) : (State.modSupply f s).fb = s.fb := rfl
@[simp] theorem State.modSupply_lat (f s) : (State.modSupply f s).lat = s.lat := rfl
@[simp] theorem State.modSupply_fld (f s) : (State.modSupply f s).fld = s.fld := rfl
@[simp] theorem State.modSupply_sf (f s) : (State.modSupply f s).sf = s.sf := rfl
@[simp] theorem State.modSupply_ring (f s) : (State.modSupply f s).ring = s.ring := rfl
@[simp] theorem State.modSupply_diag (f s) : (State.modSupply f s).diag = s.diag := rfl
@[simp] theorem State.modSupply_sdiag (f s) : (State.modSupply f s).sdiag = s.sdiag := rfl
@[simp] theorem State.modSupply_cells (f s) : (State.modSupply f s).cells = s.cells := rfl
@[simp] theorem State.modSupply_temps (f s) : (State.modSupply f s).temps = s.temps := rfl
@[simp] theorem State.modSupply_balEnable (f s) : (State.modSupply f s).balEnable = s.balEnable := rfl
@[simp] theorem State.modSupply_est (f s) : (State.modSupply f s).est = s.est := rfl
@[simp] theorem State.modSupply_eleg (f s) : (State.modSupply f s).eleg = s.eleg := rfl
@[simp] theorem State.modSupply_probe (f s) : (State.modSupply f s).probe = s.probe := rfl
@[simp] theorem State.modSupply_stringSoc (f s) : (State.modSupply f s).stringSoc = s.stringSoc := rfl
@[simp] theorem State.modSupply_probeEnable (f s) : (State.modSupply f s).probeEnable = s.probeEnable := rfl
@[simp] theorem State.modSupply_natEnable (f s) : (State.modSupply f s).natEnable = s.natEnable := rfl
@[simp] theorem State.modSupply_llim (f s) : (State.modSupply f s).llim = s.llim := rfl
@[simp] theorem State.modSupply_slim (f s) : (State.modSupply f s).slim = s.slim := rfl
@[simp] theorem State.modSupply_learn (f s) : (State.modSupply f s).learn = s.learn := rfl
@[simp] theorem State.modSupply_conv (f s) : (State.modSupply f s).conv = s.conv := rfl
@[simp] theorem State.modSupply_pwm (f s) : (State.modSupply f s).pwm = s.pwm := rfl
@[simp] theorem State.modSupply_cle (f s) : (State.modSupply f s).cle = s.cle := rfl
@[simp] theorem State.modSupply_str (f s) : (State.modSupply f s).str = s.str := rfl
@[simp] theorem State.modSupply_therm (f s) : (State.modSupply f s).therm = s.therm := rfl
@[simp] theorem State.modSupply_mdOffset (f s) : (State.modSupply f s).mdOffset = s.mdOffset := rfl
@[simp] theorem State.modSupply_mdOffsetDue (f s) : (State.modSupply f s).mdOffsetDue = s.mdOffsetDue := rfl
@[simp] theorem State.modSupply_axis (f s) : (State.modSupply f s).axis = s.axis := rfl
@[simp] theorem State.modSupply_twin (f s) : (State.modSupply f s).twin = s.twin := rfl
@[simp] theorem State.modSupply_su (f s) : (State.modSupply f s).su = s.su := rfl
@[simp] theorem State.modSupply_net (f s) : (State.modSupply f s).net = s.net := rfl
@[simp] theorem State.modSupply_host (f s) : (State.modSupply f s).host = s.host := rfl
@[simp] theorem State.modSupply_can (f s) : (State.modSupply f s).can = s.can := rfl
@[simp] theorem State.modSupply_signal (f s) : (State.modSupply f s).signal = s.signal := rfl
@[simp] theorem State.modSupply_signalValid (f s) : (State.modSupply f s).signalValid = s.signalValid := rfl
@[simp] theorem State.modSupply_canSealed (f s) : (State.modSupply f s).canSealed = s.canSealed := rfl
@[simp] theorem State.modSupply_upd (f s) : (State.modSupply f s).upd = s.upd := rfl
@[simp] theorem State.modSupply_bist (f s) : (State.modSupply f s).bist = s.bist := rfl
@[simp] theorem State.modSupply_events (f s) : (State.modSupply f s).events = s.events := rfl
@[simp] theorem State.modSupply_store (f s) : (State.modSupply f s).store = s.store := rfl
@[simp] theorem State.modSupply_freeCounter (f s) : (State.modSupply f s).freeCounter = s.freeCounter := rfl
@[simp] theorem State.modSupply_pending (f s) : (State.modSupply f s).pending = s.pending := rfl

/-- `State.modReq` changes resetReq alone. -/
@[simp] theorem State.modReq_resetReq (f s) : (State.modReq f s).resetReq = f s.resetReq := rfl
@[simp] theorem State.modReq_mode (f s) : (State.modReq f s).mode = s.mode := rfl
@[simp] theorem State.modReq_role (f s) : (State.modReq f s).role = s.role := rfl
@[simp] theorem State.modReq_supply (f s) : (State.modReq f s).supply = s.supply := rfl
@[simp] theorem State.modReq_ret (f s) : (State.modReq f s).ret = s.ret := rfl
@[simp] theorem State.modReq_fuses (f s) : (State.modReq f s).fuses = s.fuses := rfl
@[simp] theorem State.modReq_layup (f s) : (State.modReq f s).layup = s.layup := rfl
@[simp] theorem State.modReq_start (f s) : (State.modReq f s).start = s.start := rfl
@[simp] theorem State.modReq_plat (f s) : (State.modReq f s).plat = s.plat := rfl
@[simp] theorem State.modReq_grid (f s) : (State.modReq f s).grid = s.grid := rfl
@[simp] theorem State.modReq_time (f s) : (State.modReq f s).time = s.time := rfl
@[simp] theorem State.modReq_win (f s) : (State.modReq f s).win = s.win := rfl
@[simp] theorem State.modReq_base (f s) : (State.modReq f s).base = s.base := rfl
@[simp] theorem State.modReq_fb (f s) : (State.modReq f s).fb = s.fb := rfl
@[simp] theorem State.modReq_lat (f s) : (State.modReq f s).lat = s.lat := rfl
@[simp] theorem State.modReq_fld (f s) : (State.modReq f s).fld = s.fld := rfl
@[simp] theorem State.modReq_sf (f s) : (State.modReq f s).sf = s.sf := rfl
@[simp] theorem State.modReq_ring (f s) : (State.modReq f s).ring = s.ring := rfl
@[simp] theorem State.modReq_diag (f s) : (State.modReq f s).diag = s.diag := rfl
@[simp] theorem State.modReq_sdiag (f s) : (State.modReq f s).sdiag = s.sdiag := rfl
@[simp] theorem State.modReq_cells (f s) : (State.modReq f s).cells = s.cells := rfl
@[simp] theorem State.modReq_temps (f s) : (State.modReq f s).temps = s.temps := rfl
@[simp] theorem State.modReq_balEnable (f s) : (State.modReq f s).balEnable = s.balEnable := rfl
@[simp] theorem State.modReq_est (f s) : (State.modReq f s).est = s.est := rfl
@[simp] theorem State.modReq_eleg (f s) : (State.modReq f s).eleg = s.eleg := rfl
@[simp] theorem State.modReq_probe (f s) : (State.modReq f s).probe = s.probe := rfl
@[simp] theorem State.modReq_stringSoc (f s) : (State.modReq f s).stringSoc = s.stringSoc := rfl
@[simp] theorem State.modReq_probeEnable (f s) : (State.modReq f s).probeEnable = s.probeEnable := rfl
@[simp] theorem State.modReq_natEnable (f s) : (State.modReq f s).natEnable = s.natEnable := rfl
@[simp] theorem State.modReq_llim (f s) : (State.modReq f s).llim = s.llim := rfl
@[simp] theorem State.modReq_slim (f s) : (State.modReq f s).slim = s.slim := rfl
@[simp] theorem State.modReq_learn (f s) : (State.modReq f s).learn = s.learn := rfl
@[simp] theorem State.modReq_conv (f s) : (State.modReq f s).conv = s.conv := rfl
@[simp] theorem State.modReq_pwm (f s) : (State.modReq f s).pwm = s.pwm := rfl
@[simp] theorem State.modReq_cle (f s) : (State.modReq f s).cle = s.cle := rfl
@[simp] theorem State.modReq_str (f s) : (State.modReq f s).str = s.str := rfl
@[simp] theorem State.modReq_therm (f s) : (State.modReq f s).therm = s.therm := rfl
@[simp] theorem State.modReq_mdOffset (f s) : (State.modReq f s).mdOffset = s.mdOffset := rfl
@[simp] theorem State.modReq_mdOffsetDue (f s) : (State.modReq f s).mdOffsetDue = s.mdOffsetDue := rfl
@[simp] theorem State.modReq_axis (f s) : (State.modReq f s).axis = s.axis := rfl
@[simp] theorem State.modReq_twin (f s) : (State.modReq f s).twin = s.twin := rfl
@[simp] theorem State.modReq_su (f s) : (State.modReq f s).su = s.su := rfl
@[simp] theorem State.modReq_net (f s) : (State.modReq f s).net = s.net := rfl
@[simp] theorem State.modReq_host (f s) : (State.modReq f s).host = s.host := rfl
@[simp] theorem State.modReq_can (f s) : (State.modReq f s).can = s.can := rfl
@[simp] theorem State.modReq_signal (f s) : (State.modReq f s).signal = s.signal := rfl
@[simp] theorem State.modReq_signalValid (f s) : (State.modReq f s).signalValid = s.signalValid := rfl
@[simp] theorem State.modReq_canSealed (f s) : (State.modReq f s).canSealed = s.canSealed := rfl
@[simp] theorem State.modReq_upd (f s) : (State.modReq f s).upd = s.upd := rfl
@[simp] theorem State.modReq_bist (f s) : (State.modReq f s).bist = s.bist := rfl
@[simp] theorem State.modReq_events (f s) : (State.modReq f s).events = s.events := rfl
@[simp] theorem State.modReq_store (f s) : (State.modReq f s).store = s.store := rfl
@[simp] theorem State.modReq_freeCounter (f s) : (State.modReq f s).freeCounter = s.freeCounter := rfl
@[simp] theorem State.modReq_pending (f s) : (State.modReq f s).pending = s.pending := rfl

/-- `State.modRing` changes ring alone. -/
@[simp] theorem State.modRing_ring (leg f s) : (State.modRing leg f s).ring = vmod s.ring leg f := rfl
@[simp] theorem State.modRing_mode (leg f s) : (State.modRing leg f s).mode = s.mode := rfl
@[simp] theorem State.modRing_role (leg f s) : (State.modRing leg f s).role = s.role := rfl
@[simp] theorem State.modRing_supply (leg f s) : (State.modRing leg f s).supply = s.supply := rfl
@[simp] theorem State.modRing_resetReq (leg f s) : (State.modRing leg f s).resetReq = s.resetReq := rfl
@[simp] theorem State.modRing_ret (leg f s) : (State.modRing leg f s).ret = s.ret := rfl
@[simp] theorem State.modRing_fuses (leg f s) : (State.modRing leg f s).fuses = s.fuses := rfl
@[simp] theorem State.modRing_layup (leg f s) : (State.modRing leg f s).layup = s.layup := rfl
@[simp] theorem State.modRing_start (leg f s) : (State.modRing leg f s).start = s.start := rfl
@[simp] theorem State.modRing_plat (leg f s) : (State.modRing leg f s).plat = s.plat := rfl
@[simp] theorem State.modRing_grid (leg f s) : (State.modRing leg f s).grid = s.grid := rfl
@[simp] theorem State.modRing_time (leg f s) : (State.modRing leg f s).time = s.time := rfl
@[simp] theorem State.modRing_win (leg f s) : (State.modRing leg f s).win = s.win := rfl
@[simp] theorem State.modRing_base (leg f s) : (State.modRing leg f s).base = s.base := rfl
@[simp] theorem State.modRing_fb (leg f s) : (State.modRing leg f s).fb = s.fb := rfl
@[simp] theorem State.modRing_lat (leg f s) : (State.modRing leg f s).lat = s.lat := rfl
@[simp] theorem State.modRing_fld (leg f s) : (State.modRing leg f s).fld = s.fld := rfl
@[simp] theorem State.modRing_sf (leg f s) : (State.modRing leg f s).sf = s.sf := rfl
@[simp] theorem State.modRing_diag (leg f s) : (State.modRing leg f s).diag = s.diag := rfl
@[simp] theorem State.modRing_sdiag (leg f s) : (State.modRing leg f s).sdiag = s.sdiag := rfl
@[simp] theorem State.modRing_cells (leg f s) : (State.modRing leg f s).cells = s.cells := rfl
@[simp] theorem State.modRing_temps (leg f s) : (State.modRing leg f s).temps = s.temps := rfl
@[simp] theorem State.modRing_balEnable (leg f s) : (State.modRing leg f s).balEnable = s.balEnable := rfl
@[simp] theorem State.modRing_est (leg f s) : (State.modRing leg f s).est = s.est := rfl
@[simp] theorem State.modRing_eleg (leg f s) : (State.modRing leg f s).eleg = s.eleg := rfl
@[simp] theorem State.modRing_probe (leg f s) : (State.modRing leg f s).probe = s.probe := rfl
@[simp] theorem State.modRing_stringSoc (leg f s) : (State.modRing leg f s).stringSoc = s.stringSoc := rfl
@[simp] theorem State.modRing_probeEnable (leg f s) : (State.modRing leg f s).probeEnable = s.probeEnable := rfl
@[simp] theorem State.modRing_natEnable (leg f s) : (State.modRing leg f s).natEnable = s.natEnable := rfl
@[simp] theorem State.modRing_llim (leg f s) : (State.modRing leg f s).llim = s.llim := rfl
@[simp] theorem State.modRing_slim (leg f s) : (State.modRing leg f s).slim = s.slim := rfl
@[simp] theorem State.modRing_learn (leg f s) : (State.modRing leg f s).learn = s.learn := rfl
@[simp] theorem State.modRing_conv (leg f s) : (State.modRing leg f s).conv = s.conv := rfl
@[simp] theorem State.modRing_pwm (leg f s) : (State.modRing leg f s).pwm = s.pwm := rfl
@[simp] theorem State.modRing_cle (leg f s) : (State.modRing leg f s).cle = s.cle := rfl
@[simp] theorem State.modRing_str (leg f s) : (State.modRing leg f s).str = s.str := rfl
@[simp] theorem State.modRing_therm (leg f s) : (State.modRing leg f s).therm = s.therm := rfl
@[simp] theorem State.modRing_mdOffset (leg f s) : (State.modRing leg f s).mdOffset = s.mdOffset := rfl
@[simp] theorem State.modRing_mdOffsetDue (leg f s) : (State.modRing leg f s).mdOffsetDue = s.mdOffsetDue := rfl
@[simp] theorem State.modRing_axis (leg f s) : (State.modRing leg f s).axis = s.axis := rfl
@[simp] theorem State.modRing_twin (leg f s) : (State.modRing leg f s).twin = s.twin := rfl
@[simp] theorem State.modRing_su (leg f s) : (State.modRing leg f s).su = s.su := rfl
@[simp] theorem State.modRing_net (leg f s) : (State.modRing leg f s).net = s.net := rfl
@[simp] theorem State.modRing_host (leg f s) : (State.modRing leg f s).host = s.host := rfl
@[simp] theorem State.modRing_can (leg f s) : (State.modRing leg f s).can = s.can := rfl
@[simp] theorem State.modRing_signal (leg f s) : (State.modRing leg f s).signal = s.signal := rfl
@[simp] theorem State.modRing_signalValid (leg f s) : (State.modRing leg f s).signalValid = s.signalValid := rfl
@[simp] theorem State.modRing_canSealed (leg f s) : (State.modRing leg f s).canSealed = s.canSealed := rfl
@[simp] theorem State.modRing_upd (leg f s) : (State.modRing leg f s).upd = s.upd := rfl
@[simp] theorem State.modRing_bist (leg f s) : (State.modRing leg f s).bist = s.bist := rfl
@[simp] theorem State.modRing_events (leg f s) : (State.modRing leg f s).events = s.events := rfl
@[simp] theorem State.modRing_store (leg f s) : (State.modRing leg f s).store = s.store := rfl
@[simp] theorem State.modRing_freeCounter (leg f s) : (State.modRing leg f s).freeCounter = s.freeCounter := rfl
@[simp] theorem State.modRing_pending (leg f s) : (State.modRing leg f s).pending = s.pending := rfl

/-- `State.modDiag` changes diag alone. -/
@[simp] theorem State.modDiag_diag (leg f s) : (State.modDiag leg f s).diag = vmod s.diag leg f := rfl
@[simp] theorem State.modDiag_mode (leg f s) : (State.modDiag leg f s).mode = s.mode := rfl
@[simp] theorem State.modDiag_role (leg f s) : (State.modDiag leg f s).role = s.role := rfl
@[simp] theorem State.modDiag_supply (leg f s) : (State.modDiag leg f s).supply = s.supply := rfl
@[simp] theorem State.modDiag_resetReq (leg f s) : (State.modDiag leg f s).resetReq = s.resetReq := rfl
@[simp] theorem State.modDiag_ret (leg f s) : (State.modDiag leg f s).ret = s.ret := rfl
@[simp] theorem State.modDiag_fuses (leg f s) : (State.modDiag leg f s).fuses = s.fuses := rfl
@[simp] theorem State.modDiag_layup (leg f s) : (State.modDiag leg f s).layup = s.layup := rfl
@[simp] theorem State.modDiag_start (leg f s) : (State.modDiag leg f s).start = s.start := rfl
@[simp] theorem State.modDiag_plat (leg f s) : (State.modDiag leg f s).plat = s.plat := rfl
@[simp] theorem State.modDiag_grid (leg f s) : (State.modDiag leg f s).grid = s.grid := rfl
@[simp] theorem State.modDiag_time (leg f s) : (State.modDiag leg f s).time = s.time := rfl
@[simp] theorem State.modDiag_win (leg f s) : (State.modDiag leg f s).win = s.win := rfl
@[simp] theorem State.modDiag_base (leg f s) : (State.modDiag leg f s).base = s.base := rfl
@[simp] theorem State.modDiag_fb (leg f s) : (State.modDiag leg f s).fb = s.fb := rfl
@[simp] theorem State.modDiag_lat (leg f s) : (State.modDiag leg f s).lat = s.lat := rfl
@[simp] theorem State.modDiag_fld (leg f s) : (State.modDiag leg f s).fld = s.fld := rfl
@[simp] theorem State.modDiag_sf (leg f s) : (State.modDiag leg f s).sf = s.sf := rfl
@[simp] theorem State.modDiag_ring (leg f s) : (State.modDiag leg f s).ring = s.ring := rfl
@[simp] theorem State.modDiag_sdiag (leg f s) : (State.modDiag leg f s).sdiag = s.sdiag := rfl
@[simp] theorem State.modDiag_cells (leg f s) : (State.modDiag leg f s).cells = s.cells := rfl
@[simp] theorem State.modDiag_temps (leg f s) : (State.modDiag leg f s).temps = s.temps := rfl
@[simp] theorem State.modDiag_balEnable (leg f s) : (State.modDiag leg f s).balEnable = s.balEnable := rfl
@[simp] theorem State.modDiag_est (leg f s) : (State.modDiag leg f s).est = s.est := rfl
@[simp] theorem State.modDiag_eleg (leg f s) : (State.modDiag leg f s).eleg = s.eleg := rfl
@[simp] theorem State.modDiag_probe (leg f s) : (State.modDiag leg f s).probe = s.probe := rfl
@[simp] theorem State.modDiag_stringSoc (leg f s) : (State.modDiag leg f s).stringSoc = s.stringSoc := rfl
@[simp] theorem State.modDiag_probeEnable (leg f s) : (State.modDiag leg f s).probeEnable = s.probeEnable := rfl
@[simp] theorem State.modDiag_natEnable (leg f s) : (State.modDiag leg f s).natEnable = s.natEnable := rfl
@[simp] theorem State.modDiag_llim (leg f s) : (State.modDiag leg f s).llim = s.llim := rfl
@[simp] theorem State.modDiag_slim (leg f s) : (State.modDiag leg f s).slim = s.slim := rfl
@[simp] theorem State.modDiag_learn (leg f s) : (State.modDiag leg f s).learn = s.learn := rfl
@[simp] theorem State.modDiag_conv (leg f s) : (State.modDiag leg f s).conv = s.conv := rfl
@[simp] theorem State.modDiag_pwm (leg f s) : (State.modDiag leg f s).pwm = s.pwm := rfl
@[simp] theorem State.modDiag_cle (leg f s) : (State.modDiag leg f s).cle = s.cle := rfl
@[simp] theorem State.modDiag_str (leg f s) : (State.modDiag leg f s).str = s.str := rfl
@[simp] theorem State.modDiag_therm (leg f s) : (State.modDiag leg f s).therm = s.therm := rfl
@[simp] theorem State.modDiag_mdOffset (leg f s) : (State.modDiag leg f s).mdOffset = s.mdOffset := rfl
@[simp] theorem State.modDiag_mdOffsetDue (leg f s) : (State.modDiag leg f s).mdOffsetDue = s.mdOffsetDue := rfl
@[simp] theorem State.modDiag_axis (leg f s) : (State.modDiag leg f s).axis = s.axis := rfl
@[simp] theorem State.modDiag_twin (leg f s) : (State.modDiag leg f s).twin = s.twin := rfl
@[simp] theorem State.modDiag_su (leg f s) : (State.modDiag leg f s).su = s.su := rfl
@[simp] theorem State.modDiag_net (leg f s) : (State.modDiag leg f s).net = s.net := rfl
@[simp] theorem State.modDiag_host (leg f s) : (State.modDiag leg f s).host = s.host := rfl
@[simp] theorem State.modDiag_can (leg f s) : (State.modDiag leg f s).can = s.can := rfl
@[simp] theorem State.modDiag_signal (leg f s) : (State.modDiag leg f s).signal = s.signal := rfl
@[simp] theorem State.modDiag_signalValid (leg f s) : (State.modDiag leg f s).signalValid = s.signalValid := rfl
@[simp] theorem State.modDiag_canSealed (leg f s) : (State.modDiag leg f s).canSealed = s.canSealed := rfl
@[simp] theorem State.modDiag_upd (leg f s) : (State.modDiag leg f s).upd = s.upd := rfl
@[simp] theorem State.modDiag_bist (leg f s) : (State.modDiag leg f s).bist = s.bist := rfl
@[simp] theorem State.modDiag_events (leg f s) : (State.modDiag leg f s).events = s.events := rfl
@[simp] theorem State.modDiag_store (leg f s) : (State.modDiag leg f s).store = s.store := rfl
@[simp] theorem State.modDiag_freeCounter (leg f s) : (State.modDiag leg f s).freeCounter = s.freeCounter := rfl
@[simp] theorem State.modDiag_pending (leg f s) : (State.modDiag leg f s).pending = s.pending := rfl

/-- `State.modStation` changes sdiag alone. -/
@[simp] theorem State.modStation_mode (leg stake f s) : (State.modStation leg stake f s).mode = s.mode := rfl
@[simp] theorem State.modStation_role (leg stake f s) : (State.modStation leg stake f s).role = s.role := rfl
@[simp] theorem State.modStation_supply (leg stake f s) : (State.modStation leg stake f s).supply = s.supply := rfl
@[simp] theorem State.modStation_resetReq (leg stake f s) : (State.modStation leg stake f s).resetReq = s.resetReq := rfl
@[simp] theorem State.modStation_ret (leg stake f s) : (State.modStation leg stake f s).ret = s.ret := rfl
@[simp] theorem State.modStation_fuses (leg stake f s) : (State.modStation leg stake f s).fuses = s.fuses := rfl
@[simp] theorem State.modStation_layup (leg stake f s) : (State.modStation leg stake f s).layup = s.layup := rfl
@[simp] theorem State.modStation_start (leg stake f s) : (State.modStation leg stake f s).start = s.start := rfl
@[simp] theorem State.modStation_plat (leg stake f s) : (State.modStation leg stake f s).plat = s.plat := rfl
@[simp] theorem State.modStation_grid (leg stake f s) : (State.modStation leg stake f s).grid = s.grid := rfl
@[simp] theorem State.modStation_time (leg stake f s) : (State.modStation leg stake f s).time = s.time := rfl
@[simp] theorem State.modStation_win (leg stake f s) : (State.modStation leg stake f s).win = s.win := rfl
@[simp] theorem State.modStation_base (leg stake f s) : (State.modStation leg stake f s).base = s.base := rfl
@[simp] theorem State.modStation_fb (leg stake f s) : (State.modStation leg stake f s).fb = s.fb := rfl
@[simp] theorem State.modStation_lat (leg stake f s) : (State.modStation leg stake f s).lat = s.lat := rfl
@[simp] theorem State.modStation_fld (leg stake f s) : (State.modStation leg stake f s).fld = s.fld := rfl
@[simp] theorem State.modStation_sf (leg stake f s) : (State.modStation leg stake f s).sf = s.sf := rfl
@[simp] theorem State.modStation_ring (leg stake f s) : (State.modStation leg stake f s).ring = s.ring := rfl
@[simp] theorem State.modStation_diag (leg stake f s) : (State.modStation leg stake f s).diag = s.diag := rfl
@[simp] theorem State.modStation_cells (leg stake f s) : (State.modStation leg stake f s).cells = s.cells := rfl
@[simp] theorem State.modStation_temps (leg stake f s) : (State.modStation leg stake f s).temps = s.temps := rfl
@[simp] theorem State.modStation_balEnable (leg stake f s) : (State.modStation leg stake f s).balEnable = s.balEnable := rfl
@[simp] theorem State.modStation_est (leg stake f s) : (State.modStation leg stake f s).est = s.est := rfl
@[simp] theorem State.modStation_eleg (leg stake f s) : (State.modStation leg stake f s).eleg = s.eleg := rfl
@[simp] theorem State.modStation_probe (leg stake f s) : (State.modStation leg stake f s).probe = s.probe := rfl
@[simp] theorem State.modStation_stringSoc (leg stake f s) : (State.modStation leg stake f s).stringSoc = s.stringSoc := rfl
@[simp] theorem State.modStation_probeEnable (leg stake f s) : (State.modStation leg stake f s).probeEnable = s.probeEnable := rfl
@[simp] theorem State.modStation_natEnable (leg stake f s) : (State.modStation leg stake f s).natEnable = s.natEnable := rfl
@[simp] theorem State.modStation_llim (leg stake f s) : (State.modStation leg stake f s).llim = s.llim := rfl
@[simp] theorem State.modStation_slim (leg stake f s) : (State.modStation leg stake f s).slim = s.slim := rfl
@[simp] theorem State.modStation_learn (leg stake f s) : (State.modStation leg stake f s).learn = s.learn := rfl
@[simp] theorem State.modStation_conv (leg stake f s) : (State.modStation leg stake f s).conv = s.conv := rfl
@[simp] theorem State.modStation_pwm (leg stake f s) : (State.modStation leg stake f s).pwm = s.pwm := rfl
@[simp] theorem State.modStation_cle (leg stake f s) : (State.modStation leg stake f s).cle = s.cle := rfl
@[simp] theorem State.modStation_str (leg stake f s) : (State.modStation leg stake f s).str = s.str := rfl
@[simp] theorem State.modStation_therm (leg stake f s) : (State.modStation leg stake f s).therm = s.therm := rfl
@[simp] theorem State.modStation_mdOffset (leg stake f s) : (State.modStation leg stake f s).mdOffset = s.mdOffset := rfl
@[simp] theorem State.modStation_mdOffsetDue (leg stake f s) : (State.modStation leg stake f s).mdOffsetDue = s.mdOffsetDue := rfl
@[simp] theorem State.modStation_axis (leg stake f s) : (State.modStation leg stake f s).axis = s.axis := rfl
@[simp] theorem State.modStation_twin (leg stake f s) : (State.modStation leg stake f s).twin = s.twin := rfl
@[simp] theorem State.modStation_su (leg stake f s) : (State.modStation leg stake f s).su = s.su := rfl
@[simp] theorem State.modStation_net (leg stake f s) : (State.modStation leg stake f s).net = s.net := rfl
@[simp] theorem State.modStation_host (leg stake f s) : (State.modStation leg stake f s).host = s.host := rfl
@[simp] theorem State.modStation_can (leg stake f s) : (State.modStation leg stake f s).can = s.can := rfl
@[simp] theorem State.modStation_signal (leg stake f s) : (State.modStation leg stake f s).signal = s.signal := rfl
@[simp] theorem State.modStation_signalValid (leg stake f s) : (State.modStation leg stake f s).signalValid = s.signalValid := rfl
@[simp] theorem State.modStation_canSealed (leg stake f s) : (State.modStation leg stake f s).canSealed = s.canSealed := rfl
@[simp] theorem State.modStation_upd (leg stake f s) : (State.modStation leg stake f s).upd = s.upd := rfl
@[simp] theorem State.modStation_bist (leg stake f s) : (State.modStation leg stake f s).bist = s.bist := rfl
@[simp] theorem State.modStation_events (leg stake f s) : (State.modStation leg stake f s).events = s.events := rfl
@[simp] theorem State.modStation_store (leg stake f s) : (State.modStation leg stake f s).store = s.store := rfl
@[simp] theorem State.modStation_freeCounter (leg stake f s) : (State.modStation leg stake f s).freeCounter = s.freeCounter := rfl
@[simp] theorem State.modStation_pending (leg stake f s) : (State.modStation leg stake f s).pending = s.pending := rfl

/-- `State.modCell` changes cells alone. -/
@[simp] theorem State.modCell_cells (i f s) : (State.modCell i f s).cells = modKey {} i f s.cells := rfl
@[simp] theorem State.modCell_mode (i f s) : (State.modCell i f s).mode = s.mode := rfl
@[simp] theorem State.modCell_role (i f s) : (State.modCell i f s).role = s.role := rfl
@[simp] theorem State.modCell_supply (i f s) : (State.modCell i f s).supply = s.supply := rfl
@[simp] theorem State.modCell_resetReq (i f s) : (State.modCell i f s).resetReq = s.resetReq := rfl
@[simp] theorem State.modCell_ret (i f s) : (State.modCell i f s).ret = s.ret := rfl
@[simp] theorem State.modCell_fuses (i f s) : (State.modCell i f s).fuses = s.fuses := rfl
@[simp] theorem State.modCell_layup (i f s) : (State.modCell i f s).layup = s.layup := rfl
@[simp] theorem State.modCell_start (i f s) : (State.modCell i f s).start = s.start := rfl
@[simp] theorem State.modCell_plat (i f s) : (State.modCell i f s).plat = s.plat := rfl
@[simp] theorem State.modCell_grid (i f s) : (State.modCell i f s).grid = s.grid := rfl
@[simp] theorem State.modCell_time (i f s) : (State.modCell i f s).time = s.time := rfl
@[simp] theorem State.modCell_win (i f s) : (State.modCell i f s).win = s.win := rfl
@[simp] theorem State.modCell_base (i f s) : (State.modCell i f s).base = s.base := rfl
@[simp] theorem State.modCell_fb (i f s) : (State.modCell i f s).fb = s.fb := rfl
@[simp] theorem State.modCell_lat (i f s) : (State.modCell i f s).lat = s.lat := rfl
@[simp] theorem State.modCell_fld (i f s) : (State.modCell i f s).fld = s.fld := rfl
@[simp] theorem State.modCell_sf (i f s) : (State.modCell i f s).sf = s.sf := rfl
@[simp] theorem State.modCell_ring (i f s) : (State.modCell i f s).ring = s.ring := rfl
@[simp] theorem State.modCell_diag (i f s) : (State.modCell i f s).diag = s.diag := rfl
@[simp] theorem State.modCell_sdiag (i f s) : (State.modCell i f s).sdiag = s.sdiag := rfl
@[simp] theorem State.modCell_temps (i f s) : (State.modCell i f s).temps = s.temps := rfl
@[simp] theorem State.modCell_balEnable (i f s) : (State.modCell i f s).balEnable = s.balEnable := rfl
@[simp] theorem State.modCell_est (i f s) : (State.modCell i f s).est = s.est := rfl
@[simp] theorem State.modCell_eleg (i f s) : (State.modCell i f s).eleg = s.eleg := rfl
@[simp] theorem State.modCell_probe (i f s) : (State.modCell i f s).probe = s.probe := rfl
@[simp] theorem State.modCell_stringSoc (i f s) : (State.modCell i f s).stringSoc = s.stringSoc := rfl
@[simp] theorem State.modCell_probeEnable (i f s) : (State.modCell i f s).probeEnable = s.probeEnable := rfl
@[simp] theorem State.modCell_natEnable (i f s) : (State.modCell i f s).natEnable = s.natEnable := rfl
@[simp] theorem State.modCell_llim (i f s) : (State.modCell i f s).llim = s.llim := rfl
@[simp] theorem State.modCell_slim (i f s) : (State.modCell i f s).slim = s.slim := rfl
@[simp] theorem State.modCell_learn (i f s) : (State.modCell i f s).learn = s.learn := rfl
@[simp] theorem State.modCell_conv (i f s) : (State.modCell i f s).conv = s.conv := rfl
@[simp] theorem State.modCell_pwm (i f s) : (State.modCell i f s).pwm = s.pwm := rfl
@[simp] theorem State.modCell_cle (i f s) : (State.modCell i f s).cle = s.cle := rfl
@[simp] theorem State.modCell_str (i f s) : (State.modCell i f s).str = s.str := rfl
@[simp] theorem State.modCell_therm (i f s) : (State.modCell i f s).therm = s.therm := rfl
@[simp] theorem State.modCell_mdOffset (i f s) : (State.modCell i f s).mdOffset = s.mdOffset := rfl
@[simp] theorem State.modCell_mdOffsetDue (i f s) : (State.modCell i f s).mdOffsetDue = s.mdOffsetDue := rfl
@[simp] theorem State.modCell_axis (i f s) : (State.modCell i f s).axis = s.axis := rfl
@[simp] theorem State.modCell_twin (i f s) : (State.modCell i f s).twin = s.twin := rfl
@[simp] theorem State.modCell_su (i f s) : (State.modCell i f s).su = s.su := rfl
@[simp] theorem State.modCell_net (i f s) : (State.modCell i f s).net = s.net := rfl
@[simp] theorem State.modCell_host (i f s) : (State.modCell i f s).host = s.host := rfl
@[simp] theorem State.modCell_can (i f s) : (State.modCell i f s).can = s.can := rfl
@[simp] theorem State.modCell_signal (i f s) : (State.modCell i f s).signal = s.signal := rfl
@[simp] theorem State.modCell_signalValid (i f s) : (State.modCell i f s).signalValid = s.signalValid := rfl
@[simp] theorem State.modCell_canSealed (i f s) : (State.modCell i f s).canSealed = s.canSealed := rfl
@[simp] theorem State.modCell_upd (i f s) : (State.modCell i f s).upd = s.upd := rfl
@[simp] theorem State.modCell_bist (i f s) : (State.modCell i f s).bist = s.bist := rfl
@[simp] theorem State.modCell_events (i f s) : (State.modCell i f s).events = s.events := rfl
@[simp] theorem State.modCell_store (i f s) : (State.modCell i f s).store = s.store := rfl
@[simp] theorem State.modCell_freeCounter (i f s) : (State.modCell i f s).freeCounter = s.freeCounter := rfl
@[simp] theorem State.modCell_pending (i f s) : (State.modCell i f s).pending = s.pending := rfl

/-- `State.modBist` changes bist alone. -/
@[simp] theorem State.modBist_bist (f s) : (State.modBist f s).bist = f s.bist := rfl
@[simp] theorem State.modBist_mode (f s) : (State.modBist f s).mode = s.mode := rfl
@[simp] theorem State.modBist_role (f s) : (State.modBist f s).role = s.role := rfl
@[simp] theorem State.modBist_supply (f s) : (State.modBist f s).supply = s.supply := rfl
@[simp] theorem State.modBist_resetReq (f s) : (State.modBist f s).resetReq = s.resetReq := rfl
@[simp] theorem State.modBist_ret (f s) : (State.modBist f s).ret = s.ret := rfl
@[simp] theorem State.modBist_fuses (f s) : (State.modBist f s).fuses = s.fuses := rfl
@[simp] theorem State.modBist_layup (f s) : (State.modBist f s).layup = s.layup := rfl
@[simp] theorem State.modBist_start (f s) : (State.modBist f s).start = s.start := rfl
@[simp] theorem State.modBist_plat (f s) : (State.modBist f s).plat = s.plat := rfl
@[simp] theorem State.modBist_grid (f s) : (State.modBist f s).grid = s.grid := rfl
@[simp] theorem State.modBist_time (f s) : (State.modBist f s).time = s.time := rfl
@[simp] theorem State.modBist_win (f s) : (State.modBist f s).win = s.win := rfl
@[simp] theorem State.modBist_base (f s) : (State.modBist f s).base = s.base := rfl
@[simp] theorem State.modBist_fb (f s) : (State.modBist f s).fb = s.fb := rfl
@[simp] theorem State.modBist_lat (f s) : (State.modBist f s).lat = s.lat := rfl
@[simp] theorem State.modBist_fld (f s) : (State.modBist f s).fld = s.fld := rfl
@[simp] theorem State.modBist_sf (f s) : (State.modBist f s).sf = s.sf := rfl
@[simp] theorem State.modBist_ring (f s) : (State.modBist f s).ring = s.ring := rfl
@[simp] theorem State.modBist_diag (f s) : (State.modBist f s).diag = s.diag := rfl
@[simp] theorem State.modBist_sdiag (f s) : (State.modBist f s).sdiag = s.sdiag := rfl
@[simp] theorem State.modBist_cells (f s) : (State.modBist f s).cells = s.cells := rfl
@[simp] theorem State.modBist_temps (f s) : (State.modBist f s).temps = s.temps := rfl
@[simp] theorem State.modBist_balEnable (f s) : (State.modBist f s).balEnable = s.balEnable := rfl
@[simp] theorem State.modBist_est (f s) : (State.modBist f s).est = s.est := rfl
@[simp] theorem State.modBist_eleg (f s) : (State.modBist f s).eleg = s.eleg := rfl
@[simp] theorem State.modBist_probe (f s) : (State.modBist f s).probe = s.probe := rfl
@[simp] theorem State.modBist_stringSoc (f s) : (State.modBist f s).stringSoc = s.stringSoc := rfl
@[simp] theorem State.modBist_probeEnable (f s) : (State.modBist f s).probeEnable = s.probeEnable := rfl
@[simp] theorem State.modBist_natEnable (f s) : (State.modBist f s).natEnable = s.natEnable := rfl
@[simp] theorem State.modBist_llim (f s) : (State.modBist f s).llim = s.llim := rfl
@[simp] theorem State.modBist_slim (f s) : (State.modBist f s).slim = s.slim := rfl
@[simp] theorem State.modBist_learn (f s) : (State.modBist f s).learn = s.learn := rfl
@[simp] theorem State.modBist_conv (f s) : (State.modBist f s).conv = s.conv := rfl
@[simp] theorem State.modBist_pwm (f s) : (State.modBist f s).pwm = s.pwm := rfl
@[simp] theorem State.modBist_cle (f s) : (State.modBist f s).cle = s.cle := rfl
@[simp] theorem State.modBist_str (f s) : (State.modBist f s).str = s.str := rfl
@[simp] theorem State.modBist_therm (f s) : (State.modBist f s).therm = s.therm := rfl
@[simp] theorem State.modBist_mdOffset (f s) : (State.modBist f s).mdOffset = s.mdOffset := rfl
@[simp] theorem State.modBist_mdOffsetDue (f s) : (State.modBist f s).mdOffsetDue = s.mdOffsetDue := rfl
@[simp] theorem State.modBist_axis (f s) : (State.modBist f s).axis = s.axis := rfl
@[simp] theorem State.modBist_twin (f s) : (State.modBist f s).twin = s.twin := rfl
@[simp] theorem State.modBist_su (f s) : (State.modBist f s).su = s.su := rfl
@[simp] theorem State.modBist_net (f s) : (State.modBist f s).net = s.net := rfl
@[simp] theorem State.modBist_host (f s) : (State.modBist f s).host = s.host := rfl
@[simp] theorem State.modBist_can (f s) : (State.modBist f s).can = s.can := rfl
@[simp] theorem State.modBist_signal (f s) : (State.modBist f s).signal = s.signal := rfl
@[simp] theorem State.modBist_signalValid (f s) : (State.modBist f s).signalValid = s.signalValid := rfl
@[simp] theorem State.modBist_canSealed (f s) : (State.modBist f s).canSealed = s.canSealed := rfl
@[simp] theorem State.modBist_upd (f s) : (State.modBist f s).upd = s.upd := rfl
@[simp] theorem State.modBist_events (f s) : (State.modBist f s).events = s.events := rfl
@[simp] theorem State.modBist_store (f s) : (State.modBist f s).store = s.store := rfl
@[simp] theorem State.modBist_freeCounter (f s) : (State.modBist f s).freeCounter = s.freeCounter := rfl
@[simp] theorem State.modBist_pending (f s) : (State.modBist f s).pending = s.pending := rfl

/-- `State.modSu` changes su alone. -/
@[simp] theorem State.modSu_su (f s) : (State.modSu f s).su = f s.su := rfl
@[simp] theorem State.modSu_mode (f s) : (State.modSu f s).mode = s.mode := rfl
@[simp] theorem State.modSu_role (f s) : (State.modSu f s).role = s.role := rfl
@[simp] theorem State.modSu_supply (f s) : (State.modSu f s).supply = s.supply := rfl
@[simp] theorem State.modSu_resetReq (f s) : (State.modSu f s).resetReq = s.resetReq := rfl
@[simp] theorem State.modSu_ret (f s) : (State.modSu f s).ret = s.ret := rfl
@[simp] theorem State.modSu_fuses (f s) : (State.modSu f s).fuses = s.fuses := rfl
@[simp] theorem State.modSu_layup (f s) : (State.modSu f s).layup = s.layup := rfl
@[simp] theorem State.modSu_start (f s) : (State.modSu f s).start = s.start := rfl
@[simp] theorem State.modSu_plat (f s) : (State.modSu f s).plat = s.plat := rfl
@[simp] theorem State.modSu_grid (f s) : (State.modSu f s).grid = s.grid := rfl
@[simp] theorem State.modSu_time (f s) : (State.modSu f s).time = s.time := rfl
@[simp] theorem State.modSu_win (f s) : (State.modSu f s).win = s.win := rfl
@[simp] theorem State.modSu_base (f s) : (State.modSu f s).base = s.base := rfl
@[simp] theorem State.modSu_fb (f s) : (State.modSu f s).fb = s.fb := rfl
@[simp] theorem State.modSu_lat (f s) : (State.modSu f s).lat = s.lat := rfl
@[simp] theorem State.modSu_fld (f s) : (State.modSu f s).fld = s.fld := rfl
@[simp] theorem State.modSu_sf (f s) : (State.modSu f s).sf = s.sf := rfl
@[simp] theorem State.modSu_ring (f s) : (State.modSu f s).ring = s.ring := rfl
@[simp] theorem State.modSu_diag (f s) : (State.modSu f s).diag = s.diag := rfl
@[simp] theorem State.modSu_sdiag (f s) : (State.modSu f s).sdiag = s.sdiag := rfl
@[simp] theorem State.modSu_cells (f s) : (State.modSu f s).cells = s.cells := rfl
@[simp] theorem State.modSu_temps (f s) : (State.modSu f s).temps = s.temps := rfl
@[simp] theorem State.modSu_balEnable (f s) : (State.modSu f s).balEnable = s.balEnable := rfl
@[simp] theorem State.modSu_est (f s) : (State.modSu f s).est = s.est := rfl
@[simp] theorem State.modSu_eleg (f s) : (State.modSu f s).eleg = s.eleg := rfl
@[simp] theorem State.modSu_probe (f s) : (State.modSu f s).probe = s.probe := rfl
@[simp] theorem State.modSu_stringSoc (f s) : (State.modSu f s).stringSoc = s.stringSoc := rfl
@[simp] theorem State.modSu_probeEnable (f s) : (State.modSu f s).probeEnable = s.probeEnable := rfl
@[simp] theorem State.modSu_natEnable (f s) : (State.modSu f s).natEnable = s.natEnable := rfl
@[simp] theorem State.modSu_llim (f s) : (State.modSu f s).llim = s.llim := rfl
@[simp] theorem State.modSu_slim (f s) : (State.modSu f s).slim = s.slim := rfl
@[simp] theorem State.modSu_learn (f s) : (State.modSu f s).learn = s.learn := rfl
@[simp] theorem State.modSu_conv (f s) : (State.modSu f s).conv = s.conv := rfl
@[simp] theorem State.modSu_pwm (f s) : (State.modSu f s).pwm = s.pwm := rfl
@[simp] theorem State.modSu_cle (f s) : (State.modSu f s).cle = s.cle := rfl
@[simp] theorem State.modSu_str (f s) : (State.modSu f s).str = s.str := rfl
@[simp] theorem State.modSu_therm (f s) : (State.modSu f s).therm = s.therm := rfl
@[simp] theorem State.modSu_mdOffset (f s) : (State.modSu f s).mdOffset = s.mdOffset := rfl
@[simp] theorem State.modSu_mdOffsetDue (f s) : (State.modSu f s).mdOffsetDue = s.mdOffsetDue := rfl
@[simp] theorem State.modSu_axis (f s) : (State.modSu f s).axis = s.axis := rfl
@[simp] theorem State.modSu_twin (f s) : (State.modSu f s).twin = s.twin := rfl
@[simp] theorem State.modSu_net (f s) : (State.modSu f s).net = s.net := rfl
@[simp] theorem State.modSu_host (f s) : (State.modSu f s).host = s.host := rfl
@[simp] theorem State.modSu_can (f s) : (State.modSu f s).can = s.can := rfl
@[simp] theorem State.modSu_signal (f s) : (State.modSu f s).signal = s.signal := rfl
@[simp] theorem State.modSu_signalValid (f s) : (State.modSu f s).signalValid = s.signalValid := rfl
@[simp] theorem State.modSu_canSealed (f s) : (State.modSu f s).canSealed = s.canSealed := rfl
@[simp] theorem State.modSu_upd (f s) : (State.modSu f s).upd = s.upd := rfl
@[simp] theorem State.modSu_bist (f s) : (State.modSu f s).bist = s.bist := rfl
@[simp] theorem State.modSu_events (f s) : (State.modSu f s).events = s.events := rfl
@[simp] theorem State.modSu_store (f s) : (State.modSu f s).store = s.store := rfl
@[simp] theorem State.modSu_freeCounter (f s) : (State.modSu f s).freeCounter = s.freeCounter := rfl
@[simp] theorem State.modSu_pending (f s) : (State.modSu f s).pending = s.pending := rfl

/-- `State.modPort` changes su alone. -/
@[simp] theorem State.modPort_su (p f s) : (State.modPort p f s).su = { s.su with port := vmod s.su.port p f } := rfl
@[simp] theorem State.modPort_mode (p f s) : (State.modPort p f s).mode = s.mode := rfl
@[simp] theorem State.modPort_role (p f s) : (State.modPort p f s).role = s.role := rfl
@[simp] theorem State.modPort_supply (p f s) : (State.modPort p f s).supply = s.supply := rfl
@[simp] theorem State.modPort_resetReq (p f s) : (State.modPort p f s).resetReq = s.resetReq := rfl
@[simp] theorem State.modPort_ret (p f s) : (State.modPort p f s).ret = s.ret := rfl
@[simp] theorem State.modPort_fuses (p f s) : (State.modPort p f s).fuses = s.fuses := rfl
@[simp] theorem State.modPort_layup (p f s) : (State.modPort p f s).layup = s.layup := rfl
@[simp] theorem State.modPort_start (p f s) : (State.modPort p f s).start = s.start := rfl
@[simp] theorem State.modPort_plat (p f s) : (State.modPort p f s).plat = s.plat := rfl
@[simp] theorem State.modPort_grid (p f s) : (State.modPort p f s).grid = s.grid := rfl
@[simp] theorem State.modPort_time (p f s) : (State.modPort p f s).time = s.time := rfl
@[simp] theorem State.modPort_win (p f s) : (State.modPort p f s).win = s.win := rfl
@[simp] theorem State.modPort_base (p f s) : (State.modPort p f s).base = s.base := rfl
@[simp] theorem State.modPort_fb (p f s) : (State.modPort p f s).fb = s.fb := rfl
@[simp] theorem State.modPort_lat (p f s) : (State.modPort p f s).lat = s.lat := rfl
@[simp] theorem State.modPort_fld (p f s) : (State.modPort p f s).fld = s.fld := rfl
@[simp] theorem State.modPort_sf (p f s) : (State.modPort p f s).sf = s.sf := rfl
@[simp] theorem State.modPort_ring (p f s) : (State.modPort p f s).ring = s.ring := rfl
@[simp] theorem State.modPort_diag (p f s) : (State.modPort p f s).diag = s.diag := rfl
@[simp] theorem State.modPort_sdiag (p f s) : (State.modPort p f s).sdiag = s.sdiag := rfl
@[simp] theorem State.modPort_cells (p f s) : (State.modPort p f s).cells = s.cells := rfl
@[simp] theorem State.modPort_temps (p f s) : (State.modPort p f s).temps = s.temps := rfl
@[simp] theorem State.modPort_balEnable (p f s) : (State.modPort p f s).balEnable = s.balEnable := rfl
@[simp] theorem State.modPort_est (p f s) : (State.modPort p f s).est = s.est := rfl
@[simp] theorem State.modPort_eleg (p f s) : (State.modPort p f s).eleg = s.eleg := rfl
@[simp] theorem State.modPort_probe (p f s) : (State.modPort p f s).probe = s.probe := rfl
@[simp] theorem State.modPort_stringSoc (p f s) : (State.modPort p f s).stringSoc = s.stringSoc := rfl
@[simp] theorem State.modPort_probeEnable (p f s) : (State.modPort p f s).probeEnable = s.probeEnable := rfl
@[simp] theorem State.modPort_natEnable (p f s) : (State.modPort p f s).natEnable = s.natEnable := rfl
@[simp] theorem State.modPort_llim (p f s) : (State.modPort p f s).llim = s.llim := rfl
@[simp] theorem State.modPort_slim (p f s) : (State.modPort p f s).slim = s.slim := rfl
@[simp] theorem State.modPort_learn (p f s) : (State.modPort p f s).learn = s.learn := rfl
@[simp] theorem State.modPort_conv (p f s) : (State.modPort p f s).conv = s.conv := rfl
@[simp] theorem State.modPort_pwm (p f s) : (State.modPort p f s).pwm = s.pwm := rfl
@[simp] theorem State.modPort_cle (p f s) : (State.modPort p f s).cle = s.cle := rfl
@[simp] theorem State.modPort_str (p f s) : (State.modPort p f s).str = s.str := rfl
@[simp] theorem State.modPort_therm (p f s) : (State.modPort p f s).therm = s.therm := rfl
@[simp] theorem State.modPort_mdOffset (p f s) : (State.modPort p f s).mdOffset = s.mdOffset := rfl
@[simp] theorem State.modPort_mdOffsetDue (p f s) : (State.modPort p f s).mdOffsetDue = s.mdOffsetDue := rfl
@[simp] theorem State.modPort_axis (p f s) : (State.modPort p f s).axis = s.axis := rfl
@[simp] theorem State.modPort_twin (p f s) : (State.modPort p f s).twin = s.twin := rfl
@[simp] theorem State.modPort_net (p f s) : (State.modPort p f s).net = s.net := rfl
@[simp] theorem State.modPort_host (p f s) : (State.modPort p f s).host = s.host := rfl
@[simp] theorem State.modPort_can (p f s) : (State.modPort p f s).can = s.can := rfl
@[simp] theorem State.modPort_signal (p f s) : (State.modPort p f s).signal = s.signal := rfl
@[simp] theorem State.modPort_signalValid (p f s) : (State.modPort p f s).signalValid = s.signalValid := rfl
@[simp] theorem State.modPort_canSealed (p f s) : (State.modPort p f s).canSealed = s.canSealed := rfl
@[simp] theorem State.modPort_upd (p f s) : (State.modPort p f s).upd = s.upd := rfl
@[simp] theorem State.modPort_bist (p f s) : (State.modPort p f s).bist = s.bist := rfl
@[simp] theorem State.modPort_events (p f s) : (State.modPort p f s).events = s.events := rfl
@[simp] theorem State.modPort_store (p f s) : (State.modPort p f s).store = s.store := rfl
@[simp] theorem State.modPort_freeCounter (p f s) : (State.modPort p f s).freeCounter = s.freeCounter := rfl
@[simp] theorem State.modPort_pending (p f s) : (State.modPort p f s).pending = s.pending := rfl

/-- `State.modCh` changes su alone. -/
@[simp] theorem State.modCh_su (c f s) : (State.modCh c f s).su = { s.su with ch := vmod s.su.ch c f } := rfl
@[simp] theorem State.modCh_mode (c f s) : (State.modCh c f s).mode = s.mode := rfl
@[simp] theorem State.modCh_role (c f s) : (State.modCh c f s).role = s.role := rfl
@[simp] theorem State.modCh_supply (c f s) : (State.modCh c f s).supply = s.supply := rfl
@[simp] theorem State.modCh_resetReq (c f s) : (State.modCh c f s).resetReq = s.resetReq := rfl
@[simp] theorem State.modCh_ret (c f s) : (State.modCh c f s).ret = s.ret := rfl
@[simp] theorem State.modCh_fuses (c f s) : (State.modCh c f s).fuses = s.fuses := rfl
@[simp] theorem State.modCh_layup (c f s) : (State.modCh c f s).layup = s.layup := rfl
@[simp] theorem State.modCh_start (c f s) : (State.modCh c f s).start = s.start := rfl
@[simp] theorem State.modCh_plat (c f s) : (State.modCh c f s).plat = s.plat := rfl
@[simp] theorem State.modCh_grid (c f s) : (State.modCh c f s).grid = s.grid := rfl
@[simp] theorem State.modCh_time (c f s) : (State.modCh c f s).time = s.time := rfl
@[simp] theorem State.modCh_win (c f s) : (State.modCh c f s).win = s.win := rfl
@[simp] theorem State.modCh_base (c f s) : (State.modCh c f s).base = s.base := rfl
@[simp] theorem State.modCh_fb (c f s) : (State.modCh c f s).fb = s.fb := rfl
@[simp] theorem State.modCh_lat (c f s) : (State.modCh c f s).lat = s.lat := rfl
@[simp] theorem State.modCh_fld (c f s) : (State.modCh c f s).fld = s.fld := rfl
@[simp] theorem State.modCh_sf (c f s) : (State.modCh c f s).sf = s.sf := rfl
@[simp] theorem State.modCh_ring (c f s) : (State.modCh c f s).ring = s.ring := rfl
@[simp] theorem State.modCh_diag (c f s) : (State.modCh c f s).diag = s.diag := rfl
@[simp] theorem State.modCh_sdiag (c f s) : (State.modCh c f s).sdiag = s.sdiag := rfl
@[simp] theorem State.modCh_cells (c f s) : (State.modCh c f s).cells = s.cells := rfl
@[simp] theorem State.modCh_temps (c f s) : (State.modCh c f s).temps = s.temps := rfl
@[simp] theorem State.modCh_balEnable (c f s) : (State.modCh c f s).balEnable = s.balEnable := rfl
@[simp] theorem State.modCh_est (c f s) : (State.modCh c f s).est = s.est := rfl
@[simp] theorem State.modCh_eleg (c f s) : (State.modCh c f s).eleg = s.eleg := rfl
@[simp] theorem State.modCh_probe (c f s) : (State.modCh c f s).probe = s.probe := rfl
@[simp] theorem State.modCh_stringSoc (c f s) : (State.modCh c f s).stringSoc = s.stringSoc := rfl
@[simp] theorem State.modCh_probeEnable (c f s) : (State.modCh c f s).probeEnable = s.probeEnable := rfl
@[simp] theorem State.modCh_natEnable (c f s) : (State.modCh c f s).natEnable = s.natEnable := rfl
@[simp] theorem State.modCh_llim (c f s) : (State.modCh c f s).llim = s.llim := rfl
@[simp] theorem State.modCh_slim (c f s) : (State.modCh c f s).slim = s.slim := rfl
@[simp] theorem State.modCh_learn (c f s) : (State.modCh c f s).learn = s.learn := rfl
@[simp] theorem State.modCh_conv (c f s) : (State.modCh c f s).conv = s.conv := rfl
@[simp] theorem State.modCh_pwm (c f s) : (State.modCh c f s).pwm = s.pwm := rfl
@[simp] theorem State.modCh_cle (c f s) : (State.modCh c f s).cle = s.cle := rfl
@[simp] theorem State.modCh_str (c f s) : (State.modCh c f s).str = s.str := rfl
@[simp] theorem State.modCh_therm (c f s) : (State.modCh c f s).therm = s.therm := rfl
@[simp] theorem State.modCh_mdOffset (c f s) : (State.modCh c f s).mdOffset = s.mdOffset := rfl
@[simp] theorem State.modCh_mdOffsetDue (c f s) : (State.modCh c f s).mdOffsetDue = s.mdOffsetDue := rfl
@[simp] theorem State.modCh_axis (c f s) : (State.modCh c f s).axis = s.axis := rfl
@[simp] theorem State.modCh_twin (c f s) : (State.modCh c f s).twin = s.twin := rfl
@[simp] theorem State.modCh_net (c f s) : (State.modCh c f s).net = s.net := rfl
@[simp] theorem State.modCh_host (c f s) : (State.modCh c f s).host = s.host := rfl
@[simp] theorem State.modCh_can (c f s) : (State.modCh c f s).can = s.can := rfl
@[simp] theorem State.modCh_signal (c f s) : (State.modCh c f s).signal = s.signal := rfl
@[simp] theorem State.modCh_signalValid (c f s) : (State.modCh c f s).signalValid = s.signalValid := rfl
@[simp] theorem State.modCh_canSealed (c f s) : (State.modCh c f s).canSealed = s.canSealed := rfl
@[simp] theorem State.modCh_upd (c f s) : (State.modCh c f s).upd = s.upd := rfl
@[simp] theorem State.modCh_bist (c f s) : (State.modCh c f s).bist = s.bist := rfl
@[simp] theorem State.modCh_events (c f s) : (State.modCh c f s).events = s.events := rfl
@[simp] theorem State.modCh_store (c f s) : (State.modCh c f s).store = s.store := rfl
@[simp] theorem State.modCh_freeCounter (c f s) : (State.modCh c f s).freeCounter = s.freeCounter := rfl
@[simp] theorem State.modCh_pending (c f s) : (State.modCh c f s).pending = s.pending := rfl

/-- `State.modGrid` changes grid alone. -/
@[simp] theorem State.modGrid_grid (f s) : (State.modGrid f s).grid = f s.grid := rfl
@[simp] theorem State.modGrid_mode (f s) : (State.modGrid f s).mode = s.mode := rfl
@[simp] theorem State.modGrid_role (f s) : (State.modGrid f s).role = s.role := rfl
@[simp] theorem State.modGrid_supply (f s) : (State.modGrid f s).supply = s.supply := rfl
@[simp] theorem State.modGrid_resetReq (f s) : (State.modGrid f s).resetReq = s.resetReq := rfl
@[simp] theorem State.modGrid_ret (f s) : (State.modGrid f s).ret = s.ret := rfl
@[simp] theorem State.modGrid_fuses (f s) : (State.modGrid f s).fuses = s.fuses := rfl
@[simp] theorem State.modGrid_layup (f s) : (State.modGrid f s).layup = s.layup := rfl
@[simp] theorem State.modGrid_start (f s) : (State.modGrid f s).start = s.start := rfl
@[simp] theorem State.modGrid_plat (f s) : (State.modGrid f s).plat = s.plat := rfl
@[simp] theorem State.modGrid_time (f s) : (State.modGrid f s).time = s.time := rfl
@[simp] theorem State.modGrid_win (f s) : (State.modGrid f s).win = s.win := rfl
@[simp] theorem State.modGrid_base (f s) : (State.modGrid f s).base = s.base := rfl
@[simp] theorem State.modGrid_fb (f s) : (State.modGrid f s).fb = s.fb := rfl
@[simp] theorem State.modGrid_lat (f s) : (State.modGrid f s).lat = s.lat := rfl
@[simp] theorem State.modGrid_fld (f s) : (State.modGrid f s).fld = s.fld := rfl
@[simp] theorem State.modGrid_sf (f s) : (State.modGrid f s).sf = s.sf := rfl
@[simp] theorem State.modGrid_ring (f s) : (State.modGrid f s).ring = s.ring := rfl
@[simp] theorem State.modGrid_diag (f s) : (State.modGrid f s).diag = s.diag := rfl
@[simp] theorem State.modGrid_sdiag (f s) : (State.modGrid f s).sdiag = s.sdiag := rfl
@[simp] theorem State.modGrid_cells (f s) : (State.modGrid f s).cells = s.cells := rfl
@[simp] theorem State.modGrid_temps (f s) : (State.modGrid f s).temps = s.temps := rfl
@[simp] theorem State.modGrid_balEnable (f s) : (State.modGrid f s).balEnable = s.balEnable := rfl
@[simp] theorem State.modGrid_est (f s) : (State.modGrid f s).est = s.est := rfl
@[simp] theorem State.modGrid_eleg (f s) : (State.modGrid f s).eleg = s.eleg := rfl
@[simp] theorem State.modGrid_probe (f s) : (State.modGrid f s).probe = s.probe := rfl
@[simp] theorem State.modGrid_stringSoc (f s) : (State.modGrid f s).stringSoc = s.stringSoc := rfl
@[simp] theorem State.modGrid_probeEnable (f s) : (State.modGrid f s).probeEnable = s.probeEnable := rfl
@[simp] theorem State.modGrid_natEnable (f s) : (State.modGrid f s).natEnable = s.natEnable := rfl
@[simp] theorem State.modGrid_llim (f s) : (State.modGrid f s).llim = s.llim := rfl
@[simp] theorem State.modGrid_slim (f s) : (State.modGrid f s).slim = s.slim := rfl
@[simp] theorem State.modGrid_learn (f s) : (State.modGrid f s).learn = s.learn := rfl
@[simp] theorem State.modGrid_conv (f s) : (State.modGrid f s).conv = s.conv := rfl
@[simp] theorem State.modGrid_pwm (f s) : (State.modGrid f s).pwm = s.pwm := rfl
@[simp] theorem State.modGrid_cle (f s) : (State.modGrid f s).cle = s.cle := rfl
@[simp] theorem State.modGrid_str (f s) : (State.modGrid f s).str = s.str := rfl
@[simp] theorem State.modGrid_therm (f s) : (State.modGrid f s).therm = s.therm := rfl
@[simp] theorem State.modGrid_mdOffset (f s) : (State.modGrid f s).mdOffset = s.mdOffset := rfl
@[simp] theorem State.modGrid_mdOffsetDue (f s) : (State.modGrid f s).mdOffsetDue = s.mdOffsetDue := rfl
@[simp] theorem State.modGrid_axis (f s) : (State.modGrid f s).axis = s.axis := rfl
@[simp] theorem State.modGrid_twin (f s) : (State.modGrid f s).twin = s.twin := rfl
@[simp] theorem State.modGrid_su (f s) : (State.modGrid f s).su = s.su := rfl
@[simp] theorem State.modGrid_net (f s) : (State.modGrid f s).net = s.net := rfl
@[simp] theorem State.modGrid_host (f s) : (State.modGrid f s).host = s.host := rfl
@[simp] theorem State.modGrid_can (f s) : (State.modGrid f s).can = s.can := rfl
@[simp] theorem State.modGrid_signal (f s) : (State.modGrid f s).signal = s.signal := rfl
@[simp] theorem State.modGrid_signalValid (f s) : (State.modGrid f s).signalValid = s.signalValid := rfl
@[simp] theorem State.modGrid_canSealed (f s) : (State.modGrid f s).canSealed = s.canSealed := rfl
@[simp] theorem State.modGrid_upd (f s) : (State.modGrid f s).upd = s.upd := rfl
@[simp] theorem State.modGrid_bist (f s) : (State.modGrid f s).bist = s.bist := rfl
@[simp] theorem State.modGrid_events (f s) : (State.modGrid f s).events = s.events := rfl
@[simp] theorem State.modGrid_store (f s) : (State.modGrid f s).store = s.store := rfl
@[simp] theorem State.modGrid_freeCounter (f s) : (State.modGrid f s).freeCounter = s.freeCounter := rfl
@[simp] theorem State.modGrid_pending (f s) : (State.modGrid f s).pending = s.pending := rfl

/-- `State.modTime` changes time alone. -/
@[simp] theorem State.modTime_time (f s) : (State.modTime f s).time = f s.time := rfl
@[simp] theorem State.modTime_mode (f s) : (State.modTime f s).mode = s.mode := rfl
@[simp] theorem State.modTime_role (f s) : (State.modTime f s).role = s.role := rfl
@[simp] theorem State.modTime_supply (f s) : (State.modTime f s).supply = s.supply := rfl
@[simp] theorem State.modTime_resetReq (f s) : (State.modTime f s).resetReq = s.resetReq := rfl
@[simp] theorem State.modTime_ret (f s) : (State.modTime f s).ret = s.ret := rfl
@[simp] theorem State.modTime_fuses (f s) : (State.modTime f s).fuses = s.fuses := rfl
@[simp] theorem State.modTime_layup (f s) : (State.modTime f s).layup = s.layup := rfl
@[simp] theorem State.modTime_start (f s) : (State.modTime f s).start = s.start := rfl
@[simp] theorem State.modTime_plat (f s) : (State.modTime f s).plat = s.plat := rfl
@[simp] theorem State.modTime_grid (f s) : (State.modTime f s).grid = s.grid := rfl
@[simp] theorem State.modTime_win (f s) : (State.modTime f s).win = s.win := rfl
@[simp] theorem State.modTime_base (f s) : (State.modTime f s).base = s.base := rfl
@[simp] theorem State.modTime_fb (f s) : (State.modTime f s).fb = s.fb := rfl
@[simp] theorem State.modTime_lat (f s) : (State.modTime f s).lat = s.lat := rfl
@[simp] theorem State.modTime_fld (f s) : (State.modTime f s).fld = s.fld := rfl
@[simp] theorem State.modTime_sf (f s) : (State.modTime f s).sf = s.sf := rfl
@[simp] theorem State.modTime_ring (f s) : (State.modTime f s).ring = s.ring := rfl
@[simp] theorem State.modTime_diag (f s) : (State.modTime f s).diag = s.diag := rfl
@[simp] theorem State.modTime_sdiag (f s) : (State.modTime f s).sdiag = s.sdiag := rfl
@[simp] theorem State.modTime_cells (f s) : (State.modTime f s).cells = s.cells := rfl
@[simp] theorem State.modTime_temps (f s) : (State.modTime f s).temps = s.temps := rfl
@[simp] theorem State.modTime_balEnable (f s) : (State.modTime f s).balEnable = s.balEnable := rfl
@[simp] theorem State.modTime_est (f s) : (State.modTime f s).est = s.est := rfl
@[simp] theorem State.modTime_eleg (f s) : (State.modTime f s).eleg = s.eleg := rfl
@[simp] theorem State.modTime_probe (f s) : (State.modTime f s).probe = s.probe := rfl
@[simp] theorem State.modTime_stringSoc (f s) : (State.modTime f s).stringSoc = s.stringSoc := rfl
@[simp] theorem State.modTime_probeEnable (f s) : (State.modTime f s).probeEnable = s.probeEnable := rfl
@[simp] theorem State.modTime_natEnable (f s) : (State.modTime f s).natEnable = s.natEnable := rfl
@[simp] theorem State.modTime_llim (f s) : (State.modTime f s).llim = s.llim := rfl
@[simp] theorem State.modTime_slim (f s) : (State.modTime f s).slim = s.slim := rfl
@[simp] theorem State.modTime_learn (f s) : (State.modTime f s).learn = s.learn := rfl
@[simp] theorem State.modTime_conv (f s) : (State.modTime f s).conv = s.conv := rfl
@[simp] theorem State.modTime_pwm (f s) : (State.modTime f s).pwm = s.pwm := rfl
@[simp] theorem State.modTime_cle (f s) : (State.modTime f s).cle = s.cle := rfl
@[simp] theorem State.modTime_str (f s) : (State.modTime f s).str = s.str := rfl
@[simp] theorem State.modTime_therm (f s) : (State.modTime f s).therm = s.therm := rfl
@[simp] theorem State.modTime_mdOffset (f s) : (State.modTime f s).mdOffset = s.mdOffset := rfl
@[simp] theorem State.modTime_mdOffsetDue (f s) : (State.modTime f s).mdOffsetDue = s.mdOffsetDue := rfl
@[simp] theorem State.modTime_axis (f s) : (State.modTime f s).axis = s.axis := rfl
@[simp] theorem State.modTime_twin (f s) : (State.modTime f s).twin = s.twin := rfl
@[simp] theorem State.modTime_su (f s) : (State.modTime f s).su = s.su := rfl
@[simp] theorem State.modTime_net (f s) : (State.modTime f s).net = s.net := rfl
@[simp] theorem State.modTime_host (f s) : (State.modTime f s).host = s.host := rfl
@[simp] theorem State.modTime_can (f s) : (State.modTime f s).can = s.can := rfl
@[simp] theorem State.modTime_signal (f s) : (State.modTime f s).signal = s.signal := rfl
@[simp] theorem State.modTime_signalValid (f s) : (State.modTime f s).signalValid = s.signalValid := rfl
@[simp] theorem State.modTime_canSealed (f s) : (State.modTime f s).canSealed = s.canSealed := rfl
@[simp] theorem State.modTime_upd (f s) : (State.modTime f s).upd = s.upd := rfl
@[simp] theorem State.modTime_bist (f s) : (State.modTime f s).bist = s.bist := rfl
@[simp] theorem State.modTime_events (f s) : (State.modTime f s).events = s.events := rfl
@[simp] theorem State.modTime_store (f s) : (State.modTime f s).store = s.store := rfl
@[simp] theorem State.modTime_freeCounter (f s) : (State.modTime f s).freeCounter = s.freeCounter := rfl
@[simp] theorem State.modTime_pending (f s) : (State.modTime f s).pending = s.pending := rfl

/-- `State.modPtp` changes net alone. -/
@[simp] theorem State.modPtp_net (f s) : (State.modPtp f s).net = { s.net with ptp := f s.net.ptp } := rfl
@[simp] theorem State.modPtp_mode (f s) : (State.modPtp f s).mode = s.mode := rfl
@[simp] theorem State.modPtp_role (f s) : (State.modPtp f s).role = s.role := rfl
@[simp] theorem State.modPtp_supply (f s) : (State.modPtp f s).supply = s.supply := rfl
@[simp] theorem State.modPtp_resetReq (f s) : (State.modPtp f s).resetReq = s.resetReq := rfl
@[simp] theorem State.modPtp_ret (f s) : (State.modPtp f s).ret = s.ret := rfl
@[simp] theorem State.modPtp_fuses (f s) : (State.modPtp f s).fuses = s.fuses := rfl
@[simp] theorem State.modPtp_layup (f s) : (State.modPtp f s).layup = s.layup := rfl
@[simp] theorem State.modPtp_start (f s) : (State.modPtp f s).start = s.start := rfl
@[simp] theorem State.modPtp_plat (f s) : (State.modPtp f s).plat = s.plat := rfl
@[simp] theorem State.modPtp_grid (f s) : (State.modPtp f s).grid = s.grid := rfl
@[simp] theorem State.modPtp_time (f s) : (State.modPtp f s).time = s.time := rfl
@[simp] theorem State.modPtp_win (f s) : (State.modPtp f s).win = s.win := rfl
@[simp] theorem State.modPtp_base (f s) : (State.modPtp f s).base = s.base := rfl
@[simp] theorem State.modPtp_fb (f s) : (State.modPtp f s).fb = s.fb := rfl
@[simp] theorem State.modPtp_lat (f s) : (State.modPtp f s).lat = s.lat := rfl
@[simp] theorem State.modPtp_fld (f s) : (State.modPtp f s).fld = s.fld := rfl
@[simp] theorem State.modPtp_sf (f s) : (State.modPtp f s).sf = s.sf := rfl
@[simp] theorem State.modPtp_ring (f s) : (State.modPtp f s).ring = s.ring := rfl
@[simp] theorem State.modPtp_diag (f s) : (State.modPtp f s).diag = s.diag := rfl
@[simp] theorem State.modPtp_sdiag (f s) : (State.modPtp f s).sdiag = s.sdiag := rfl
@[simp] theorem State.modPtp_cells (f s) : (State.modPtp f s).cells = s.cells := rfl
@[simp] theorem State.modPtp_temps (f s) : (State.modPtp f s).temps = s.temps := rfl
@[simp] theorem State.modPtp_balEnable (f s) : (State.modPtp f s).balEnable = s.balEnable := rfl
@[simp] theorem State.modPtp_est (f s) : (State.modPtp f s).est = s.est := rfl
@[simp] theorem State.modPtp_eleg (f s) : (State.modPtp f s).eleg = s.eleg := rfl
@[simp] theorem State.modPtp_probe (f s) : (State.modPtp f s).probe = s.probe := rfl
@[simp] theorem State.modPtp_stringSoc (f s) : (State.modPtp f s).stringSoc = s.stringSoc := rfl
@[simp] theorem State.modPtp_probeEnable (f s) : (State.modPtp f s).probeEnable = s.probeEnable := rfl
@[simp] theorem State.modPtp_natEnable (f s) : (State.modPtp f s).natEnable = s.natEnable := rfl
@[simp] theorem State.modPtp_llim (f s) : (State.modPtp f s).llim = s.llim := rfl
@[simp] theorem State.modPtp_slim (f s) : (State.modPtp f s).slim = s.slim := rfl
@[simp] theorem State.modPtp_learn (f s) : (State.modPtp f s).learn = s.learn := rfl
@[simp] theorem State.modPtp_conv (f s) : (State.modPtp f s).conv = s.conv := rfl
@[simp] theorem State.modPtp_pwm (f s) : (State.modPtp f s).pwm = s.pwm := rfl
@[simp] theorem State.modPtp_cle (f s) : (State.modPtp f s).cle = s.cle := rfl
@[simp] theorem State.modPtp_str (f s) : (State.modPtp f s).str = s.str := rfl
@[simp] theorem State.modPtp_therm (f s) : (State.modPtp f s).therm = s.therm := rfl
@[simp] theorem State.modPtp_mdOffset (f s) : (State.modPtp f s).mdOffset = s.mdOffset := rfl
@[simp] theorem State.modPtp_mdOffsetDue (f s) : (State.modPtp f s).mdOffsetDue = s.mdOffsetDue := rfl
@[simp] theorem State.modPtp_axis (f s) : (State.modPtp f s).axis = s.axis := rfl
@[simp] theorem State.modPtp_twin (f s) : (State.modPtp f s).twin = s.twin := rfl
@[simp] theorem State.modPtp_su (f s) : (State.modPtp f s).su = s.su := rfl
@[simp] theorem State.modPtp_host (f s) : (State.modPtp f s).host = s.host := rfl
@[simp] theorem State.modPtp_can (f s) : (State.modPtp f s).can = s.can := rfl
@[simp] theorem State.modPtp_signal (f s) : (State.modPtp f s).signal = s.signal := rfl
@[simp] theorem State.modPtp_signalValid (f s) : (State.modPtp f s).signalValid = s.signalValid := rfl
@[simp] theorem State.modPtp_canSealed (f s) : (State.modPtp f s).canSealed = s.canSealed := rfl
@[simp] theorem State.modPtp_upd (f s) : (State.modPtp f s).upd = s.upd := rfl
@[simp] theorem State.modPtp_bist (f s) : (State.modPtp f s).bist = s.bist := rfl
@[simp] theorem State.modPtp_events (f s) : (State.modPtp f s).events = s.events := rfl
@[simp] theorem State.modPtp_store (f s) : (State.modPtp f s).store = s.store := rfl
@[simp] theorem State.modPtp_freeCounter (f s) : (State.modPtp f s).freeCounter = s.freeCounter := rfl
@[simp] theorem State.modPtp_pending (f s) : (State.modPtp f s).pending = s.pending := rfl

/-- `State.modChain` changes ring alone. -/
@[simp] theorem State.modChain_mode (leg pos f s) : (State.modChain leg pos f s).mode = s.mode := rfl
@[simp] theorem State.modChain_role (leg pos f s) : (State.modChain leg pos f s).role = s.role := rfl
@[simp] theorem State.modChain_supply (leg pos f s) : (State.modChain leg pos f s).supply = s.supply := rfl
@[simp] theorem State.modChain_resetReq (leg pos f s) : (State.modChain leg pos f s).resetReq = s.resetReq := rfl
@[simp] theorem State.modChain_ret (leg pos f s) : (State.modChain leg pos f s).ret = s.ret := rfl
@[simp] theorem State.modChain_fuses (leg pos f s) : (State.modChain leg pos f s).fuses = s.fuses := rfl
@[simp] theorem State.modChain_layup (leg pos f s) : (State.modChain leg pos f s).layup = s.layup := rfl
@[simp] theorem State.modChain_start (leg pos f s) : (State.modChain leg pos f s).start = s.start := rfl
@[simp] theorem State.modChain_plat (leg pos f s) : (State.modChain leg pos f s).plat = s.plat := rfl
@[simp] theorem State.modChain_grid (leg pos f s) : (State.modChain leg pos f s).grid = s.grid := rfl
@[simp] theorem State.modChain_time (leg pos f s) : (State.modChain leg pos f s).time = s.time := rfl
@[simp] theorem State.modChain_win (leg pos f s) : (State.modChain leg pos f s).win = s.win := rfl
@[simp] theorem State.modChain_base (leg pos f s) : (State.modChain leg pos f s).base = s.base := rfl
@[simp] theorem State.modChain_fb (leg pos f s) : (State.modChain leg pos f s).fb = s.fb := rfl
@[simp] theorem State.modChain_lat (leg pos f s) : (State.modChain leg pos f s).lat = s.lat := rfl
@[simp] theorem State.modChain_fld (leg pos f s) : (State.modChain leg pos f s).fld = s.fld := rfl
@[simp] theorem State.modChain_sf (leg pos f s) : (State.modChain leg pos f s).sf = s.sf := rfl
@[simp] theorem State.modChain_diag (leg pos f s) : (State.modChain leg pos f s).diag = s.diag := rfl
@[simp] theorem State.modChain_sdiag (leg pos f s) : (State.modChain leg pos f s).sdiag = s.sdiag := rfl
@[simp] theorem State.modChain_cells (leg pos f s) : (State.modChain leg pos f s).cells = s.cells := rfl
@[simp] theorem State.modChain_temps (leg pos f s) : (State.modChain leg pos f s).temps = s.temps := rfl
@[simp] theorem State.modChain_balEnable (leg pos f s) : (State.modChain leg pos f s).balEnable = s.balEnable := rfl
@[simp] theorem State.modChain_est (leg pos f s) : (State.modChain leg pos f s).est = s.est := rfl
@[simp] theorem State.modChain_eleg (leg pos f s) : (State.modChain leg pos f s).eleg = s.eleg := rfl
@[simp] theorem State.modChain_probe (leg pos f s) : (State.modChain leg pos f s).probe = s.probe := rfl
@[simp] theorem State.modChain_stringSoc (leg pos f s) : (State.modChain leg pos f s).stringSoc = s.stringSoc := rfl
@[simp] theorem State.modChain_probeEnable (leg pos f s) : (State.modChain leg pos f s).probeEnable = s.probeEnable := rfl
@[simp] theorem State.modChain_natEnable (leg pos f s) : (State.modChain leg pos f s).natEnable = s.natEnable := rfl
@[simp] theorem State.modChain_llim (leg pos f s) : (State.modChain leg pos f s).llim = s.llim := rfl
@[simp] theorem State.modChain_slim (leg pos f s) : (State.modChain leg pos f s).slim = s.slim := rfl
@[simp] theorem State.modChain_learn (leg pos f s) : (State.modChain leg pos f s).learn = s.learn := rfl
@[simp] theorem State.modChain_conv (leg pos f s) : (State.modChain leg pos f s).conv = s.conv := rfl
@[simp] theorem State.modChain_pwm (leg pos f s) : (State.modChain leg pos f s).pwm = s.pwm := rfl
@[simp] theorem State.modChain_cle (leg pos f s) : (State.modChain leg pos f s).cle = s.cle := rfl
@[simp] theorem State.modChain_str (leg pos f s) : (State.modChain leg pos f s).str = s.str := rfl
@[simp] theorem State.modChain_therm (leg pos f s) : (State.modChain leg pos f s).therm = s.therm := rfl
@[simp] theorem State.modChain_mdOffset (leg pos f s) : (State.modChain leg pos f s).mdOffset = s.mdOffset := rfl
@[simp] theorem State.modChain_mdOffsetDue (leg pos f s) : (State.modChain leg pos f s).mdOffsetDue = s.mdOffsetDue := rfl
@[simp] theorem State.modChain_axis (leg pos f s) : (State.modChain leg pos f s).axis = s.axis := rfl
@[simp] theorem State.modChain_twin (leg pos f s) : (State.modChain leg pos f s).twin = s.twin := rfl
@[simp] theorem State.modChain_su (leg pos f s) : (State.modChain leg pos f s).su = s.su := rfl
@[simp] theorem State.modChain_net (leg pos f s) : (State.modChain leg pos f s).net = s.net := rfl
@[simp] theorem State.modChain_host (leg pos f s) : (State.modChain leg pos f s).host = s.host := rfl
@[simp] theorem State.modChain_can (leg pos f s) : (State.modChain leg pos f s).can = s.can := rfl
@[simp] theorem State.modChain_signal (leg pos f s) : (State.modChain leg pos f s).signal = s.signal := rfl
@[simp] theorem State.modChain_signalValid (leg pos f s) : (State.modChain leg pos f s).signalValid = s.signalValid := rfl
@[simp] theorem State.modChain_canSealed (leg pos f s) : (State.modChain leg pos f s).canSealed = s.canSealed := rfl
@[simp] theorem State.modChain_upd (leg pos f s) : (State.modChain leg pos f s).upd = s.upd := rfl
@[simp] theorem State.modChain_bist (leg pos f s) : (State.modChain leg pos f s).bist = s.bist := rfl
@[simp] theorem State.modChain_events (leg pos f s) : (State.modChain leg pos f s).events = s.events := rfl
@[simp] theorem State.modChain_store (leg pos f s) : (State.modChain leg pos f s).store = s.store := rfl
@[simp] theorem State.modChain_freeCounter (leg pos f s) : (State.modChain leg pos f s).freeCounter = s.freeCounter := rfl
@[simp] theorem State.modChain_pending (leg pos f s) : (State.modChain leg pos f s).pending = s.pending := rfl

/-- `State.modTwin` changes twin alone. -/
@[simp] theorem State.modTwin_twin (f s) : (State.modTwin f s).twin = f s.twin := rfl
@[simp] theorem State.modTwin_mode (f s) : (State.modTwin f s).mode = s.mode := rfl
@[simp] theorem State.modTwin_role (f s) : (State.modTwin f s).role = s.role := rfl
@[simp] theorem State.modTwin_supply (f s) : (State.modTwin f s).supply = s.supply := rfl
@[simp] theorem State.modTwin_resetReq (f s) : (State.modTwin f s).resetReq = s.resetReq := rfl
@[simp] theorem State.modTwin_ret (f s) : (State.modTwin f s).ret = s.ret := rfl
@[simp] theorem State.modTwin_fuses (f s) : (State.modTwin f s).fuses = s.fuses := rfl
@[simp] theorem State.modTwin_layup (f s) : (State.modTwin f s).layup = s.layup := rfl
@[simp] theorem State.modTwin_start (f s) : (State.modTwin f s).start = s.start := rfl
@[simp] theorem State.modTwin_plat (f s) : (State.modTwin f s).plat = s.plat := rfl
@[simp] theorem State.modTwin_grid (f s) : (State.modTwin f s).grid = s.grid := rfl
@[simp] theorem State.modTwin_time (f s) : (State.modTwin f s).time = s.time := rfl
@[simp] theorem State.modTwin_win (f s) : (State.modTwin f s).win = s.win := rfl
@[simp] theorem State.modTwin_base (f s) : (State.modTwin f s).base = s.base := rfl
@[simp] theorem State.modTwin_fb (f s) : (State.modTwin f s).fb = s.fb := rfl
@[simp] theorem State.modTwin_lat (f s) : (State.modTwin f s).lat = s.lat := rfl
@[simp] theorem State.modTwin_fld (f s) : (State.modTwin f s).fld = s.fld := rfl
@[simp] theorem State.modTwin_sf (f s) : (State.modTwin f s).sf = s.sf := rfl
@[simp] theorem State.modTwin_ring (f s) : (State.modTwin f s).ring = s.ring := rfl
@[simp] theorem State.modTwin_diag (f s) : (State.modTwin f s).diag = s.diag := rfl
@[simp] theorem State.modTwin_sdiag (f s) : (State.modTwin f s).sdiag = s.sdiag := rfl
@[simp] theorem State.modTwin_cells (f s) : (State.modTwin f s).cells = s.cells := rfl
@[simp] theorem State.modTwin_temps (f s) : (State.modTwin f s).temps = s.temps := rfl
@[simp] theorem State.modTwin_balEnable (f s) : (State.modTwin f s).balEnable = s.balEnable := rfl
@[simp] theorem State.modTwin_est (f s) : (State.modTwin f s).est = s.est := rfl
@[simp] theorem State.modTwin_eleg (f s) : (State.modTwin f s).eleg = s.eleg := rfl
@[simp] theorem State.modTwin_probe (f s) : (State.modTwin f s).probe = s.probe := rfl
@[simp] theorem State.modTwin_stringSoc (f s) : (State.modTwin f s).stringSoc = s.stringSoc := rfl
@[simp] theorem State.modTwin_probeEnable (f s) : (State.modTwin f s).probeEnable = s.probeEnable := rfl
@[simp] theorem State.modTwin_natEnable (f s) : (State.modTwin f s).natEnable = s.natEnable := rfl
@[simp] theorem State.modTwin_llim (f s) : (State.modTwin f s).llim = s.llim := rfl
@[simp] theorem State.modTwin_slim (f s) : (State.modTwin f s).slim = s.slim := rfl
@[simp] theorem State.modTwin_learn (f s) : (State.modTwin f s).learn = s.learn := rfl
@[simp] theorem State.modTwin_conv (f s) : (State.modTwin f s).conv = s.conv := rfl
@[simp] theorem State.modTwin_pwm (f s) : (State.modTwin f s).pwm = s.pwm := rfl
@[simp] theorem State.modTwin_cle (f s) : (State.modTwin f s).cle = s.cle := rfl
@[simp] theorem State.modTwin_str (f s) : (State.modTwin f s).str = s.str := rfl
@[simp] theorem State.modTwin_therm (f s) : (State.modTwin f s).therm = s.therm := rfl
@[simp] theorem State.modTwin_mdOffset (f s) : (State.modTwin f s).mdOffset = s.mdOffset := rfl
@[simp] theorem State.modTwin_mdOffsetDue (f s) : (State.modTwin f s).mdOffsetDue = s.mdOffsetDue := rfl
@[simp] theorem State.modTwin_axis (f s) : (State.modTwin f s).axis = s.axis := rfl
@[simp] theorem State.modTwin_su (f s) : (State.modTwin f s).su = s.su := rfl
@[simp] theorem State.modTwin_net (f s) : (State.modTwin f s).net = s.net := rfl
@[simp] theorem State.modTwin_host (f s) : (State.modTwin f s).host = s.host := rfl
@[simp] theorem State.modTwin_can (f s) : (State.modTwin f s).can = s.can := rfl
@[simp] theorem State.modTwin_signal (f s) : (State.modTwin f s).signal = s.signal := rfl
@[simp] theorem State.modTwin_signalValid (f s) : (State.modTwin f s).signalValid = s.signalValid := rfl
@[simp] theorem State.modTwin_canSealed (f s) : (State.modTwin f s).canSealed = s.canSealed := rfl
@[simp] theorem State.modTwin_upd (f s) : (State.modTwin f s).upd = s.upd := rfl
@[simp] theorem State.modTwin_bist (f s) : (State.modTwin f s).bist = s.bist := rfl
@[simp] theorem State.modTwin_events (f s) : (State.modTwin f s).events = s.events := rfl
@[simp] theorem State.modTwin_store (f s) : (State.modTwin f s).store = s.store := rfl
@[simp] theorem State.modTwin_freeCounter (f s) : (State.modTwin f s).freeCounter = s.freeCounter := rfl
@[simp] theorem State.modTwin_pending (f s) : (State.modTwin f s).pending = s.pending := rfl

/-- `State.formAt` changes fb alone. -/
@[simp] theorem State.formAt_mode (type code source index a b stamp ext deferred s) : (State.formAt type code source index a b stamp ext deferred s).mode = s.mode := rfl
@[simp] theorem State.formAt_role (type code source index a b stamp ext deferred s) : (State.formAt type code source index a b stamp ext deferred s).role = s.role := rfl
@[simp] theorem State.formAt_supply (type code source index a b stamp ext deferred s) : (State.formAt type code source index a b stamp ext deferred s).supply = s.supply := rfl
@[simp] theorem State.formAt_resetReq (type code source index a b stamp ext deferred s) : (State.formAt type code source index a b stamp ext deferred s).resetReq = s.resetReq := rfl
@[simp] theorem State.formAt_ret (type code source index a b stamp ext deferred s) : (State.formAt type code source index a b stamp ext deferred s).ret = s.ret := rfl
@[simp] theorem State.formAt_fuses (type code source index a b stamp ext deferred s) : (State.formAt type code source index a b stamp ext deferred s).fuses = s.fuses := rfl
@[simp] theorem State.formAt_layup (type code source index a b stamp ext deferred s) : (State.formAt type code source index a b stamp ext deferred s).layup = s.layup := rfl
@[simp] theorem State.formAt_start (type code source index a b stamp ext deferred s) : (State.formAt type code source index a b stamp ext deferred s).start = s.start := rfl
@[simp] theorem State.formAt_plat (type code source index a b stamp ext deferred s) : (State.formAt type code source index a b stamp ext deferred s).plat = s.plat := rfl
@[simp] theorem State.formAt_grid (type code source index a b stamp ext deferred s) : (State.formAt type code source index a b stamp ext deferred s).grid = s.grid := rfl
@[simp] theorem State.formAt_time (type code source index a b stamp ext deferred s) : (State.formAt type code source index a b stamp ext deferred s).time = s.time := rfl
@[simp] theorem State.formAt_win (type code source index a b stamp ext deferred s) : (State.formAt type code source index a b stamp ext deferred s).win = s.win := rfl
@[simp] theorem State.formAt_base (type code source index a b stamp ext deferred s) : (State.formAt type code source index a b stamp ext deferred s).base = s.base := rfl
@[simp] theorem State.formAt_lat (type code source index a b stamp ext deferred s) : (State.formAt type code source index a b stamp ext deferred s).lat = s.lat := rfl
@[simp] theorem State.formAt_fld (type code source index a b stamp ext deferred s) : (State.formAt type code source index a b stamp ext deferred s).fld = s.fld := rfl
@[simp] theorem State.formAt_sf (type code source index a b stamp ext deferred s) : (State.formAt type code source index a b stamp ext deferred s).sf = s.sf := rfl
@[simp] theorem State.formAt_ring (type code source index a b stamp ext deferred s) : (State.formAt type code source index a b stamp ext deferred s).ring = s.ring := rfl
@[simp] theorem State.formAt_diag (type code source index a b stamp ext deferred s) : (State.formAt type code source index a b stamp ext deferred s).diag = s.diag := rfl
@[simp] theorem State.formAt_sdiag (type code source index a b stamp ext deferred s) : (State.formAt type code source index a b stamp ext deferred s).sdiag = s.sdiag := rfl
@[simp] theorem State.formAt_cells (type code source index a b stamp ext deferred s) : (State.formAt type code source index a b stamp ext deferred s).cells = s.cells := rfl
@[simp] theorem State.formAt_temps (type code source index a b stamp ext deferred s) : (State.formAt type code source index a b stamp ext deferred s).temps = s.temps := rfl
@[simp] theorem State.formAt_balEnable (type code source index a b stamp ext deferred s) : (State.formAt type code source index a b stamp ext deferred s).balEnable = s.balEnable := rfl
@[simp] theorem State.formAt_est (type code source index a b stamp ext deferred s) : (State.formAt type code source index a b stamp ext deferred s).est = s.est := rfl
@[simp] theorem State.formAt_eleg (type code source index a b stamp ext deferred s) : (State.formAt type code source index a b stamp ext deferred s).eleg = s.eleg := rfl
@[simp] theorem State.formAt_probe (type code source index a b stamp ext deferred s) : (State.formAt type code source index a b stamp ext deferred s).probe = s.probe := rfl
@[simp] theorem State.formAt_stringSoc (type code source index a b stamp ext deferred s) : (State.formAt type code source index a b stamp ext deferred s).stringSoc = s.stringSoc := rfl
@[simp] theorem State.formAt_probeEnable (type code source index a b stamp ext deferred s) : (State.formAt type code source index a b stamp ext deferred s).probeEnable = s.probeEnable := rfl
@[simp] theorem State.formAt_natEnable (type code source index a b stamp ext deferred s) : (State.formAt type code source index a b stamp ext deferred s).natEnable = s.natEnable := rfl
@[simp] theorem State.formAt_llim (type code source index a b stamp ext deferred s) : (State.formAt type code source index a b stamp ext deferred s).llim = s.llim := rfl
@[simp] theorem State.formAt_slim (type code source index a b stamp ext deferred s) : (State.formAt type code source index a b stamp ext deferred s).slim = s.slim := rfl
@[simp] theorem State.formAt_learn (type code source index a b stamp ext deferred s) : (State.formAt type code source index a b stamp ext deferred s).learn = s.learn := rfl
@[simp] theorem State.formAt_conv (type code source index a b stamp ext deferred s) : (State.formAt type code source index a b stamp ext deferred s).conv = s.conv := rfl
@[simp] theorem State.formAt_pwm (type code source index a b stamp ext deferred s) : (State.formAt type code source index a b stamp ext deferred s).pwm = s.pwm := rfl
@[simp] theorem State.formAt_cle (type code source index a b stamp ext deferred s) : (State.formAt type code source index a b stamp ext deferred s).cle = s.cle := rfl
@[simp] theorem State.formAt_str (type code source index a b stamp ext deferred s) : (State.formAt type code source index a b stamp ext deferred s).str = s.str := rfl
@[simp] theorem State.formAt_therm (type code source index a b stamp ext deferred s) : (State.formAt type code source index a b stamp ext deferred s).therm = s.therm := rfl
@[simp] theorem State.formAt_mdOffset (type code source index a b stamp ext deferred s) : (State.formAt type code source index a b stamp ext deferred s).mdOffset = s.mdOffset := rfl
@[simp] theorem State.formAt_mdOffsetDue (type code source index a b stamp ext deferred s) : (State.formAt type code source index a b stamp ext deferred s).mdOffsetDue = s.mdOffsetDue := rfl
@[simp] theorem State.formAt_axis (type code source index a b stamp ext deferred s) : (State.formAt type code source index a b stamp ext deferred s).axis = s.axis := rfl
@[simp] theorem State.formAt_twin (type code source index a b stamp ext deferred s) : (State.formAt type code source index a b stamp ext deferred s).twin = s.twin := rfl
@[simp] theorem State.formAt_su (type code source index a b stamp ext deferred s) : (State.formAt type code source index a b stamp ext deferred s).su = s.su := rfl
@[simp] theorem State.formAt_net (type code source index a b stamp ext deferred s) : (State.formAt type code source index a b stamp ext deferred s).net = s.net := rfl
@[simp] theorem State.formAt_host (type code source index a b stamp ext deferred s) : (State.formAt type code source index a b stamp ext deferred s).host = s.host := rfl
@[simp] theorem State.formAt_can (type code source index a b stamp ext deferred s) : (State.formAt type code source index a b stamp ext deferred s).can = s.can := rfl
@[simp] theorem State.formAt_signal (type code source index a b stamp ext deferred s) : (State.formAt type code source index a b stamp ext deferred s).signal = s.signal := rfl
@[simp] theorem State.formAt_signalValid (type code source index a b stamp ext deferred s) : (State.formAt type code source index a b stamp ext deferred s).signalValid = s.signalValid := rfl
@[simp] theorem State.formAt_canSealed (type code source index a b stamp ext deferred s) : (State.formAt type code source index a b stamp ext deferred s).canSealed = s.canSealed := rfl
@[simp] theorem State.formAt_upd (type code source index a b stamp ext deferred s) : (State.formAt type code source index a b stamp ext deferred s).upd = s.upd := rfl
@[simp] theorem State.formAt_bist (type code source index a b stamp ext deferred s) : (State.formAt type code source index a b stamp ext deferred s).bist = s.bist := rfl
@[simp] theorem State.formAt_events (type code source index a b stamp ext deferred s) : (State.formAt type code source index a b stamp ext deferred s).events = s.events := rfl
@[simp] theorem State.formAt_store (type code source index a b stamp ext deferred s) : (State.formAt type code source index a b stamp ext deferred s).store = s.store := rfl
@[simp] theorem State.formAt_freeCounter (type code source index a b stamp ext deferred s) : (State.formAt type code source index a b stamp ext deferred s).freeCounter = s.freeCounter := rfl
@[simp] theorem State.formAt_pending (type code source index a b stamp ext deferred s) : (State.formAt type code source index a b stamp ext deferred s).pending = s.pending := rfl

/-- `State.form` changes fb alone. -/
@[simp] theorem State.form_mode (type code source index a b s) : (State.form type code source index a b s).mode = s.mode := rfl
@[simp] theorem State.form_role (type code source index a b s) : (State.form type code source index a b s).role = s.role := rfl
@[simp] theorem State.form_supply (type code source index a b s) : (State.form type code source index a b s).supply = s.supply := rfl
@[simp] theorem State.form_resetReq (type code source index a b s) : (State.form type code source index a b s).resetReq = s.resetReq := rfl
@[simp] theorem State.form_ret (type code source index a b s) : (State.form type code source index a b s).ret = s.ret := rfl
@[simp] theorem State.form_fuses (type code source index a b s) : (State.form type code source index a b s).fuses = s.fuses := rfl
@[simp] theorem State.form_layup (type code source index a b s) : (State.form type code source index a b s).layup = s.layup := rfl
@[simp] theorem State.form_start (type code source index a b s) : (State.form type code source index a b s).start = s.start := rfl
@[simp] theorem State.form_plat (type code source index a b s) : (State.form type code source index a b s).plat = s.plat := rfl
@[simp] theorem State.form_grid (type code source index a b s) : (State.form type code source index a b s).grid = s.grid := rfl
@[simp] theorem State.form_time (type code source index a b s) : (State.form type code source index a b s).time = s.time := rfl
@[simp] theorem State.form_win (type code source index a b s) : (State.form type code source index a b s).win = s.win := rfl
@[simp] theorem State.form_base (type code source index a b s) : (State.form type code source index a b s).base = s.base := rfl
@[simp] theorem State.form_lat (type code source index a b s) : (State.form type code source index a b s).lat = s.lat := rfl
@[simp] theorem State.form_fld (type code source index a b s) : (State.form type code source index a b s).fld = s.fld := rfl
@[simp] theorem State.form_sf (type code source index a b s) : (State.form type code source index a b s).sf = s.sf := rfl
@[simp] theorem State.form_ring (type code source index a b s) : (State.form type code source index a b s).ring = s.ring := rfl
@[simp] theorem State.form_diag (type code source index a b s) : (State.form type code source index a b s).diag = s.diag := rfl
@[simp] theorem State.form_sdiag (type code source index a b s) : (State.form type code source index a b s).sdiag = s.sdiag := rfl
@[simp] theorem State.form_cells (type code source index a b s) : (State.form type code source index a b s).cells = s.cells := rfl
@[simp] theorem State.form_temps (type code source index a b s) : (State.form type code source index a b s).temps = s.temps := rfl
@[simp] theorem State.form_balEnable (type code source index a b s) : (State.form type code source index a b s).balEnable = s.balEnable := rfl
@[simp] theorem State.form_est (type code source index a b s) : (State.form type code source index a b s).est = s.est := rfl
@[simp] theorem State.form_eleg (type code source index a b s) : (State.form type code source index a b s).eleg = s.eleg := rfl
@[simp] theorem State.form_probe (type code source index a b s) : (State.form type code source index a b s).probe = s.probe := rfl
@[simp] theorem State.form_stringSoc (type code source index a b s) : (State.form type code source index a b s).stringSoc = s.stringSoc := rfl
@[simp] theorem State.form_probeEnable (type code source index a b s) : (State.form type code source index a b s).probeEnable = s.probeEnable := rfl
@[simp] theorem State.form_natEnable (type code source index a b s) : (State.form type code source index a b s).natEnable = s.natEnable := rfl
@[simp] theorem State.form_llim (type code source index a b s) : (State.form type code source index a b s).llim = s.llim := rfl
@[simp] theorem State.form_slim (type code source index a b s) : (State.form type code source index a b s).slim = s.slim := rfl
@[simp] theorem State.form_learn (type code source index a b s) : (State.form type code source index a b s).learn = s.learn := rfl
@[simp] theorem State.form_conv (type code source index a b s) : (State.form type code source index a b s).conv = s.conv := rfl
@[simp] theorem State.form_pwm (type code source index a b s) : (State.form type code source index a b s).pwm = s.pwm := rfl
@[simp] theorem State.form_cle (type code source index a b s) : (State.form type code source index a b s).cle = s.cle := rfl
@[simp] theorem State.form_str (type code source index a b s) : (State.form type code source index a b s).str = s.str := rfl
@[simp] theorem State.form_therm (type code source index a b s) : (State.form type code source index a b s).therm = s.therm := rfl
@[simp] theorem State.form_mdOffset (type code source index a b s) : (State.form type code source index a b s).mdOffset = s.mdOffset := rfl
@[simp] theorem State.form_mdOffsetDue (type code source index a b s) : (State.form type code source index a b s).mdOffsetDue = s.mdOffsetDue := rfl
@[simp] theorem State.form_axis (type code source index a b s) : (State.form type code source index a b s).axis = s.axis := rfl
@[simp] theorem State.form_twin (type code source index a b s) : (State.form type code source index a b s).twin = s.twin := rfl
@[simp] theorem State.form_su (type code source index a b s) : (State.form type code source index a b s).su = s.su := rfl
@[simp] theorem State.form_net (type code source index a b s) : (State.form type code source index a b s).net = s.net := rfl
@[simp] theorem State.form_host (type code source index a b s) : (State.form type code source index a b s).host = s.host := rfl
@[simp] theorem State.form_can (type code source index a b s) : (State.form type code source index a b s).can = s.can := rfl
@[simp] theorem State.form_signal (type code source index a b s) : (State.form type code source index a b s).signal = s.signal := rfl
@[simp] theorem State.form_signalValid (type code source index a b s) : (State.form type code source index a b s).signalValid = s.signalValid := rfl
@[simp] theorem State.form_canSealed (type code source index a b s) : (State.form type code source index a b s).canSealed = s.canSealed := rfl
@[simp] theorem State.form_upd (type code source index a b s) : (State.form type code source index a b s).upd = s.upd := rfl
@[simp] theorem State.form_bist (type code source index a b s) : (State.form type code source index a b s).bist = s.bist := rfl
@[simp] theorem State.form_events (type code source index a b s) : (State.form type code source index a b s).events = s.events := rfl
@[simp] theorem State.form_store (type code source index a b s) : (State.form type code source index a b s).store = s.store := rfl
@[simp] theorem State.form_freeCounter (type code source index a b s) : (State.form type code source index a b s).freeCounter = s.freeCounter := rfl
@[simp] theorem State.form_pending (type code source index a b s) : (State.form type code source index a b s).pending = s.pending := rfl

/-- `State.event` changes events alone. -/
@[simp] theorem State.event_mode (type code source index a b s) : (State.event type code source index a b s).mode = s.mode := rfl
@[simp] theorem State.event_role (type code source index a b s) : (State.event type code source index a b s).role = s.role := rfl
@[simp] theorem State.event_supply (type code source index a b s) : (State.event type code source index a b s).supply = s.supply := rfl
@[simp] theorem State.event_resetReq (type code source index a b s) : (State.event type code source index a b s).resetReq = s.resetReq := rfl
@[simp] theorem State.event_ret (type code source index a b s) : (State.event type code source index a b s).ret = s.ret := rfl
@[simp] theorem State.event_fuses (type code source index a b s) : (State.event type code source index a b s).fuses = s.fuses := rfl
@[simp] theorem State.event_layup (type code source index a b s) : (State.event type code source index a b s).layup = s.layup := rfl
@[simp] theorem State.event_start (type code source index a b s) : (State.event type code source index a b s).start = s.start := rfl
@[simp] theorem State.event_plat (type code source index a b s) : (State.event type code source index a b s).plat = s.plat := rfl
@[simp] theorem State.event_grid (type code source index a b s) : (State.event type code source index a b s).grid = s.grid := rfl
@[simp] theorem State.event_time (type code source index a b s) : (State.event type code source index a b s).time = s.time := rfl
@[simp] theorem State.event_win (type code source index a b s) : (State.event type code source index a b s).win = s.win := rfl
@[simp] theorem State.event_base (type code source index a b s) : (State.event type code source index a b s).base = s.base := rfl
@[simp] theorem State.event_fb (type code source index a b s) : (State.event type code source index a b s).fb = s.fb := rfl
@[simp] theorem State.event_lat (type code source index a b s) : (State.event type code source index a b s).lat = s.lat := rfl
@[simp] theorem State.event_fld (type code source index a b s) : (State.event type code source index a b s).fld = s.fld := rfl
@[simp] theorem State.event_sf (type code source index a b s) : (State.event type code source index a b s).sf = s.sf := rfl
@[simp] theorem State.event_ring (type code source index a b s) : (State.event type code source index a b s).ring = s.ring := rfl
@[simp] theorem State.event_diag (type code source index a b s) : (State.event type code source index a b s).diag = s.diag := rfl
@[simp] theorem State.event_sdiag (type code source index a b s) : (State.event type code source index a b s).sdiag = s.sdiag := rfl
@[simp] theorem State.event_cells (type code source index a b s) : (State.event type code source index a b s).cells = s.cells := rfl
@[simp] theorem State.event_temps (type code source index a b s) : (State.event type code source index a b s).temps = s.temps := rfl
@[simp] theorem State.event_balEnable (type code source index a b s) : (State.event type code source index a b s).balEnable = s.balEnable := rfl
@[simp] theorem State.event_est (type code source index a b s) : (State.event type code source index a b s).est = s.est := rfl
@[simp] theorem State.event_eleg (type code source index a b s) : (State.event type code source index a b s).eleg = s.eleg := rfl
@[simp] theorem State.event_probe (type code source index a b s) : (State.event type code source index a b s).probe = s.probe := rfl
@[simp] theorem State.event_stringSoc (type code source index a b s) : (State.event type code source index a b s).stringSoc = s.stringSoc := rfl
@[simp] theorem State.event_probeEnable (type code source index a b s) : (State.event type code source index a b s).probeEnable = s.probeEnable := rfl
@[simp] theorem State.event_natEnable (type code source index a b s) : (State.event type code source index a b s).natEnable = s.natEnable := rfl
@[simp] theorem State.event_llim (type code source index a b s) : (State.event type code source index a b s).llim = s.llim := rfl
@[simp] theorem State.event_slim (type code source index a b s) : (State.event type code source index a b s).slim = s.slim := rfl
@[simp] theorem State.event_learn (type code source index a b s) : (State.event type code source index a b s).learn = s.learn := rfl
@[simp] theorem State.event_conv (type code source index a b s) : (State.event type code source index a b s).conv = s.conv := rfl
@[simp] theorem State.event_pwm (type code source index a b s) : (State.event type code source index a b s).pwm = s.pwm := rfl
@[simp] theorem State.event_cle (type code source index a b s) : (State.event type code source index a b s).cle = s.cle := rfl
@[simp] theorem State.event_str (type code source index a b s) : (State.event type code source index a b s).str = s.str := rfl
@[simp] theorem State.event_therm (type code source index a b s) : (State.event type code source index a b s).therm = s.therm := rfl
@[simp] theorem State.event_mdOffset (type code source index a b s) : (State.event type code source index a b s).mdOffset = s.mdOffset := rfl
@[simp] theorem State.event_mdOffsetDue (type code source index a b s) : (State.event type code source index a b s).mdOffsetDue = s.mdOffsetDue := rfl
@[simp] theorem State.event_axis (type code source index a b s) : (State.event type code source index a b s).axis = s.axis := rfl
@[simp] theorem State.event_twin (type code source index a b s) : (State.event type code source index a b s).twin = s.twin := rfl
@[simp] theorem State.event_su (type code source index a b s) : (State.event type code source index a b s).su = s.su := rfl
@[simp] theorem State.event_net (type code source index a b s) : (State.event type code source index a b s).net = s.net := rfl
@[simp] theorem State.event_host (type code source index a b s) : (State.event type code source index a b s).host = s.host := rfl
@[simp] theorem State.event_can (type code source index a b s) : (State.event type code source index a b s).can = s.can := rfl
@[simp] theorem State.event_signal (type code source index a b s) : (State.event type code source index a b s).signal = s.signal := rfl
@[simp] theorem State.event_signalValid (type code source index a b s) : (State.event type code source index a b s).signalValid = s.signalValid := rfl
@[simp] theorem State.event_canSealed (type code source index a b s) : (State.event type code source index a b s).canSealed = s.canSealed := rfl
@[simp] theorem State.event_upd (type code source index a b s) : (State.event type code source index a b s).upd = s.upd := rfl
@[simp] theorem State.event_bist (type code source index a b s) : (State.event type code source index a b s).bist = s.bist := rfl
@[simp] theorem State.event_store (type code source index a b s) : (State.event type code source index a b s).store = s.store := rfl
@[simp] theorem State.event_freeCounter (type code source index a b s) : (State.event type code source index a b s).freeCounter = s.freeCounter := rfl
@[simp] theorem State.event_pending (type code source index a b s) : (State.event type code source index a b s).pending = s.pending := rfl

/-- `State.formEvent` changes fb, events alone. -/
@[simp] theorem State.formEvent_mode (type code source index a b s) : (State.formEvent type code source index a b s).mode = s.mode := rfl
@[simp] theorem State.formEvent_role (type code source index a b s) : (State.formEvent type code source index a b s).role = s.role := rfl
@[simp] theorem State.formEvent_supply (type code source index a b s) : (State.formEvent type code source index a b s).supply = s.supply := rfl
@[simp] theorem State.formEvent_resetReq (type code source index a b s) : (State.formEvent type code source index a b s).resetReq = s.resetReq := rfl
@[simp] theorem State.formEvent_ret (type code source index a b s) : (State.formEvent type code source index a b s).ret = s.ret := rfl
@[simp] theorem State.formEvent_fuses (type code source index a b s) : (State.formEvent type code source index a b s).fuses = s.fuses := rfl
@[simp] theorem State.formEvent_layup (type code source index a b s) : (State.formEvent type code source index a b s).layup = s.layup := rfl
@[simp] theorem State.formEvent_start (type code source index a b s) : (State.formEvent type code source index a b s).start = s.start := rfl
@[simp] theorem State.formEvent_plat (type code source index a b s) : (State.formEvent type code source index a b s).plat = s.plat := rfl
@[simp] theorem State.formEvent_grid (type code source index a b s) : (State.formEvent type code source index a b s).grid = s.grid := rfl
@[simp] theorem State.formEvent_time (type code source index a b s) : (State.formEvent type code source index a b s).time = s.time := rfl
@[simp] theorem State.formEvent_win (type code source index a b s) : (State.formEvent type code source index a b s).win = s.win := rfl
@[simp] theorem State.formEvent_base (type code source index a b s) : (State.formEvent type code source index a b s).base = s.base := rfl
@[simp] theorem State.formEvent_lat (type code source index a b s) : (State.formEvent type code source index a b s).lat = s.lat := rfl
@[simp] theorem State.formEvent_fld (type code source index a b s) : (State.formEvent type code source index a b s).fld = s.fld := rfl
@[simp] theorem State.formEvent_sf (type code source index a b s) : (State.formEvent type code source index a b s).sf = s.sf := rfl
@[simp] theorem State.formEvent_ring (type code source index a b s) : (State.formEvent type code source index a b s).ring = s.ring := rfl
@[simp] theorem State.formEvent_diag (type code source index a b s) : (State.formEvent type code source index a b s).diag = s.diag := rfl
@[simp] theorem State.formEvent_sdiag (type code source index a b s) : (State.formEvent type code source index a b s).sdiag = s.sdiag := rfl
@[simp] theorem State.formEvent_cells (type code source index a b s) : (State.formEvent type code source index a b s).cells = s.cells := rfl
@[simp] theorem State.formEvent_temps (type code source index a b s) : (State.formEvent type code source index a b s).temps = s.temps := rfl
@[simp] theorem State.formEvent_balEnable (type code source index a b s) : (State.formEvent type code source index a b s).balEnable = s.balEnable := rfl
@[simp] theorem State.formEvent_est (type code source index a b s) : (State.formEvent type code source index a b s).est = s.est := rfl
@[simp] theorem State.formEvent_eleg (type code source index a b s) : (State.formEvent type code source index a b s).eleg = s.eleg := rfl
@[simp] theorem State.formEvent_probe (type code source index a b s) : (State.formEvent type code source index a b s).probe = s.probe := rfl
@[simp] theorem State.formEvent_stringSoc (type code source index a b s) : (State.formEvent type code source index a b s).stringSoc = s.stringSoc := rfl
@[simp] theorem State.formEvent_probeEnable (type code source index a b s) : (State.formEvent type code source index a b s).probeEnable = s.probeEnable := rfl
@[simp] theorem State.formEvent_natEnable (type code source index a b s) : (State.formEvent type code source index a b s).natEnable = s.natEnable := rfl
@[simp] theorem State.formEvent_llim (type code source index a b s) : (State.formEvent type code source index a b s).llim = s.llim := rfl
@[simp] theorem State.formEvent_slim (type code source index a b s) : (State.formEvent type code source index a b s).slim = s.slim := rfl
@[simp] theorem State.formEvent_learn (type code source index a b s) : (State.formEvent type code source index a b s).learn = s.learn := rfl
@[simp] theorem State.formEvent_conv (type code source index a b s) : (State.formEvent type code source index a b s).conv = s.conv := rfl
@[simp] theorem State.formEvent_pwm (type code source index a b s) : (State.formEvent type code source index a b s).pwm = s.pwm := rfl
@[simp] theorem State.formEvent_cle (type code source index a b s) : (State.formEvent type code source index a b s).cle = s.cle := rfl
@[simp] theorem State.formEvent_str (type code source index a b s) : (State.formEvent type code source index a b s).str = s.str := rfl
@[simp] theorem State.formEvent_therm (type code source index a b s) : (State.formEvent type code source index a b s).therm = s.therm := rfl
@[simp] theorem State.formEvent_mdOffset (type code source index a b s) : (State.formEvent type code source index a b s).mdOffset = s.mdOffset := rfl
@[simp] theorem State.formEvent_mdOffsetDue (type code source index a b s) : (State.formEvent type code source index a b s).mdOffsetDue = s.mdOffsetDue := rfl
@[simp] theorem State.formEvent_axis (type code source index a b s) : (State.formEvent type code source index a b s).axis = s.axis := rfl
@[simp] theorem State.formEvent_twin (type code source index a b s) : (State.formEvent type code source index a b s).twin = s.twin := rfl
@[simp] theorem State.formEvent_su (type code source index a b s) : (State.formEvent type code source index a b s).su = s.su := rfl
@[simp] theorem State.formEvent_net (type code source index a b s) : (State.formEvent type code source index a b s).net = s.net := rfl
@[simp] theorem State.formEvent_host (type code source index a b s) : (State.formEvent type code source index a b s).host = s.host := rfl
@[simp] theorem State.formEvent_can (type code source index a b s) : (State.formEvent type code source index a b s).can = s.can := rfl
@[simp] theorem State.formEvent_signal (type code source index a b s) : (State.formEvent type code source index a b s).signal = s.signal := rfl
@[simp] theorem State.formEvent_signalValid (type code source index a b s) : (State.formEvent type code source index a b s).signalValid = s.signalValid := rfl
@[simp] theorem State.formEvent_canSealed (type code source index a b s) : (State.formEvent type code source index a b s).canSealed = s.canSealed := rfl
@[simp] theorem State.formEvent_upd (type code source index a b s) : (State.formEvent type code source index a b s).upd = s.upd := rfl
@[simp] theorem State.formEvent_bist (type code source index a b s) : (State.formEvent type code source index a b s).bist = s.bist := rfl
@[simp] theorem State.formEvent_store (type code source index a b s) : (State.formEvent type code source index a b s).store = s.store := rfl
@[simp] theorem State.formEvent_freeCounter (type code source index a b s) : (State.formEvent type code source index a b s).freeCounter = s.freeCounter := rfl
@[simp] theorem State.formEvent_pending (type code source index a b s) : (State.formEvent type code source index a b s).pending = s.pending := rfl

/-- `State.startDesc` changes su alone. -/
@[simp] theorem State.startDesc_mode (c op addr len data s) : (State.startDesc c op addr len data s).mode = s.mode := rfl
@[simp] theorem State.startDesc_role (c op addr len data s) : (State.startDesc c op addr len data s).role = s.role := rfl
@[simp] theorem State.startDesc_supply (c op addr len data s) : (State.startDesc c op addr len data s).supply = s.supply := rfl
@[simp] theorem State.startDesc_resetReq (c op addr len data s) : (State.startDesc c op addr len data s).resetReq = s.resetReq := rfl
@[simp] theorem State.startDesc_ret (c op addr len data s) : (State.startDesc c op addr len data s).ret = s.ret := rfl
@[simp] theorem State.startDesc_fuses (c op addr len data s) : (State.startDesc c op addr len data s).fuses = s.fuses := rfl
@[simp] theorem State.startDesc_layup (c op addr len data s) : (State.startDesc c op addr len data s).layup = s.layup := rfl
@[simp] theorem State.startDesc_start (c op addr len data s) : (State.startDesc c op addr len data s).start = s.start := rfl
@[simp] theorem State.startDesc_plat (c op addr len data s) : (State.startDesc c op addr len data s).plat = s.plat := rfl
@[simp] theorem State.startDesc_grid (c op addr len data s) : (State.startDesc c op addr len data s).grid = s.grid := rfl
@[simp] theorem State.startDesc_time (c op addr len data s) : (State.startDesc c op addr len data s).time = s.time := rfl
@[simp] theorem State.startDesc_win (c op addr len data s) : (State.startDesc c op addr len data s).win = s.win := rfl
@[simp] theorem State.startDesc_base (c op addr len data s) : (State.startDesc c op addr len data s).base = s.base := rfl
@[simp] theorem State.startDesc_fb (c op addr len data s) : (State.startDesc c op addr len data s).fb = s.fb := rfl
@[simp] theorem State.startDesc_lat (c op addr len data s) : (State.startDesc c op addr len data s).lat = s.lat := rfl
@[simp] theorem State.startDesc_fld (c op addr len data s) : (State.startDesc c op addr len data s).fld = s.fld := rfl
@[simp] theorem State.startDesc_sf (c op addr len data s) : (State.startDesc c op addr len data s).sf = s.sf := rfl
@[simp] theorem State.startDesc_ring (c op addr len data s) : (State.startDesc c op addr len data s).ring = s.ring := rfl
@[simp] theorem State.startDesc_diag (c op addr len data s) : (State.startDesc c op addr len data s).diag = s.diag := rfl
@[simp] theorem State.startDesc_sdiag (c op addr len data s) : (State.startDesc c op addr len data s).sdiag = s.sdiag := rfl
@[simp] theorem State.startDesc_cells (c op addr len data s) : (State.startDesc c op addr len data s).cells = s.cells := rfl
@[simp] theorem State.startDesc_temps (c op addr len data s) : (State.startDesc c op addr len data s).temps = s.temps := rfl
@[simp] theorem State.startDesc_balEnable (c op addr len data s) : (State.startDesc c op addr len data s).balEnable = s.balEnable := rfl
@[simp] theorem State.startDesc_est (c op addr len data s) : (State.startDesc c op addr len data s).est = s.est := rfl
@[simp] theorem State.startDesc_eleg (c op addr len data s) : (State.startDesc c op addr len data s).eleg = s.eleg := rfl
@[simp] theorem State.startDesc_probe (c op addr len data s) : (State.startDesc c op addr len data s).probe = s.probe := rfl
@[simp] theorem State.startDesc_stringSoc (c op addr len data s) : (State.startDesc c op addr len data s).stringSoc = s.stringSoc := rfl
@[simp] theorem State.startDesc_probeEnable (c op addr len data s) : (State.startDesc c op addr len data s).probeEnable = s.probeEnable := rfl
@[simp] theorem State.startDesc_natEnable (c op addr len data s) : (State.startDesc c op addr len data s).natEnable = s.natEnable := rfl
@[simp] theorem State.startDesc_llim (c op addr len data s) : (State.startDesc c op addr len data s).llim = s.llim := rfl
@[simp] theorem State.startDesc_slim (c op addr len data s) : (State.startDesc c op addr len data s).slim = s.slim := rfl
@[simp] theorem State.startDesc_learn (c op addr len data s) : (State.startDesc c op addr len data s).learn = s.learn := rfl
@[simp] theorem State.startDesc_conv (c op addr len data s) : (State.startDesc c op addr len data s).conv = s.conv := rfl
@[simp] theorem State.startDesc_pwm (c op addr len data s) : (State.startDesc c op addr len data s).pwm = s.pwm := rfl
@[simp] theorem State.startDesc_cle (c op addr len data s) : (State.startDesc c op addr len data s).cle = s.cle := rfl
@[simp] theorem State.startDesc_str (c op addr len data s) : (State.startDesc c op addr len data s).str = s.str := rfl
@[simp] theorem State.startDesc_therm (c op addr len data s) : (State.startDesc c op addr len data s).therm = s.therm := rfl
@[simp] theorem State.startDesc_mdOffset (c op addr len data s) : (State.startDesc c op addr len data s).mdOffset = s.mdOffset := rfl
@[simp] theorem State.startDesc_mdOffsetDue (c op addr len data s) : (State.startDesc c op addr len data s).mdOffsetDue = s.mdOffsetDue := rfl
@[simp] theorem State.startDesc_axis (c op addr len data s) : (State.startDesc c op addr len data s).axis = s.axis := rfl
@[simp] theorem State.startDesc_twin (c op addr len data s) : (State.startDesc c op addr len data s).twin = s.twin := rfl
@[simp] theorem State.startDesc_net (c op addr len data s) : (State.startDesc c op addr len data s).net = s.net := rfl
@[simp] theorem State.startDesc_host (c op addr len data s) : (State.startDesc c op addr len data s).host = s.host := rfl
@[simp] theorem State.startDesc_can (c op addr len data s) : (State.startDesc c op addr len data s).can = s.can := rfl
@[simp] theorem State.startDesc_signal (c op addr len data s) : (State.startDesc c op addr len data s).signal = s.signal := rfl
@[simp] theorem State.startDesc_signalValid (c op addr len data s) : (State.startDesc c op addr len data s).signalValid = s.signalValid := rfl
@[simp] theorem State.startDesc_canSealed (c op addr len data s) : (State.startDesc c op addr len data s).canSealed = s.canSealed := rfl
@[simp] theorem State.startDesc_upd (c op addr len data s) : (State.startDesc c op addr len data s).upd = s.upd := rfl
@[simp] theorem State.startDesc_bist (c op addr len data s) : (State.startDesc c op addr len data s).bist = s.bist := rfl
@[simp] theorem State.startDesc_events (c op addr len data s) : (State.startDesc c op addr len data s).events = s.events := rfl
@[simp] theorem State.startDesc_store (c op addr len data s) : (State.startDesc c op addr len data s).store = s.store := rfl
@[simp] theorem State.startDesc_freeCounter (c op addr len data s) : (State.startDesc c op addr len data s).freeCounter = s.freeCounter := rfl
@[simp] theorem State.startDesc_pending (c op addr len data s) : (State.startDesc c op addr len data s).pending = s.pending := rfl

/-- `State.respond` changes host alone. -/
@[simp] theorem State.respond_mode (c status payload s) : (State.respond c status payload s).mode = s.mode := rfl
@[simp] theorem State.respond_role (c status payload s) : (State.respond c status payload s).role = s.role := rfl
@[simp] theorem State.respond_supply (c status payload s) : (State.respond c status payload s).supply = s.supply := rfl
@[simp] theorem State.respond_resetReq (c status payload s) : (State.respond c status payload s).resetReq = s.resetReq := rfl
@[simp] theorem State.respond_ret (c status payload s) : (State.respond c status payload s).ret = s.ret := rfl
@[simp] theorem State.respond_fuses (c status payload s) : (State.respond c status payload s).fuses = s.fuses := rfl
@[simp] theorem State.respond_layup (c status payload s) : (State.respond c status payload s).layup = s.layup := rfl
@[simp] theorem State.respond_start (c status payload s) : (State.respond c status payload s).start = s.start := rfl
@[simp] theorem State.respond_plat (c status payload s) : (State.respond c status payload s).plat = s.plat := rfl
@[simp] theorem State.respond_grid (c status payload s) : (State.respond c status payload s).grid = s.grid := rfl
@[simp] theorem State.respond_time (c status payload s) : (State.respond c status payload s).time = s.time := rfl
@[simp] theorem State.respond_win (c status payload s) : (State.respond c status payload s).win = s.win := rfl
@[simp] theorem State.respond_base (c status payload s) : (State.respond c status payload s).base = s.base := rfl
@[simp] theorem State.respond_fb (c status payload s) : (State.respond c status payload s).fb = s.fb := rfl
@[simp] theorem State.respond_lat (c status payload s) : (State.respond c status payload s).lat = s.lat := rfl
@[simp] theorem State.respond_fld (c status payload s) : (State.respond c status payload s).fld = s.fld := rfl
@[simp] theorem State.respond_sf (c status payload s) : (State.respond c status payload s).sf = s.sf := rfl
@[simp] theorem State.respond_ring (c status payload s) : (State.respond c status payload s).ring = s.ring := rfl
@[simp] theorem State.respond_diag (c status payload s) : (State.respond c status payload s).diag = s.diag := rfl
@[simp] theorem State.respond_sdiag (c status payload s) : (State.respond c status payload s).sdiag = s.sdiag := rfl
@[simp] theorem State.respond_cells (c status payload s) : (State.respond c status payload s).cells = s.cells := rfl
@[simp] theorem State.respond_temps (c status payload s) : (State.respond c status payload s).temps = s.temps := rfl
@[simp] theorem State.respond_balEnable (c status payload s) : (State.respond c status payload s).balEnable = s.balEnable := rfl
@[simp] theorem State.respond_est (c status payload s) : (State.respond c status payload s).est = s.est := rfl
@[simp] theorem State.respond_eleg (c status payload s) : (State.respond c status payload s).eleg = s.eleg := rfl
@[simp] theorem State.respond_probe (c status payload s) : (State.respond c status payload s).probe = s.probe := rfl
@[simp] theorem State.respond_stringSoc (c status payload s) : (State.respond c status payload s).stringSoc = s.stringSoc := rfl
@[simp] theorem State.respond_probeEnable (c status payload s) : (State.respond c status payload s).probeEnable = s.probeEnable := rfl
@[simp] theorem State.respond_natEnable (c status payload s) : (State.respond c status payload s).natEnable = s.natEnable := rfl
@[simp] theorem State.respond_llim (c status payload s) : (State.respond c status payload s).llim = s.llim := rfl
@[simp] theorem State.respond_slim (c status payload s) : (State.respond c status payload s).slim = s.slim := rfl
@[simp] theorem State.respond_learn (c status payload s) : (State.respond c status payload s).learn = s.learn := rfl
@[simp] theorem State.respond_conv (c status payload s) : (State.respond c status payload s).conv = s.conv := rfl
@[simp] theorem State.respond_pwm (c status payload s) : (State.respond c status payload s).pwm = s.pwm := rfl
@[simp] theorem State.respond_cle (c status payload s) : (State.respond c status payload s).cle = s.cle := rfl
@[simp] theorem State.respond_str (c status payload s) : (State.respond c status payload s).str = s.str := rfl
@[simp] theorem State.respond_therm (c status payload s) : (State.respond c status payload s).therm = s.therm := rfl
@[simp] theorem State.respond_mdOffset (c status payload s) : (State.respond c status payload s).mdOffset = s.mdOffset := rfl
@[simp] theorem State.respond_mdOffsetDue (c status payload s) : (State.respond c status payload s).mdOffsetDue = s.mdOffsetDue := rfl
@[simp] theorem State.respond_axis (c status payload s) : (State.respond c status payload s).axis = s.axis := rfl
@[simp] theorem State.respond_twin (c status payload s) : (State.respond c status payload s).twin = s.twin := rfl
@[simp] theorem State.respond_su (c status payload s) : (State.respond c status payload s).su = s.su := rfl
@[simp] theorem State.respond_net (c status payload s) : (State.respond c status payload s).net = s.net := rfl
@[simp] theorem State.respond_can (c status payload s) : (State.respond c status payload s).can = s.can := rfl
@[simp] theorem State.respond_signal (c status payload s) : (State.respond c status payload s).signal = s.signal := rfl
@[simp] theorem State.respond_signalValid (c status payload s) : (State.respond c status payload s).signalValid = s.signalValid := rfl
@[simp] theorem State.respond_canSealed (c status payload s) : (State.respond c status payload s).canSealed = s.canSealed := rfl
@[simp] theorem State.respond_upd (c status payload s) : (State.respond c status payload s).upd = s.upd := rfl
@[simp] theorem State.respond_bist (c status payload s) : (State.respond c status payload s).bist = s.bist := rfl
@[simp] theorem State.respond_events (c status payload s) : (State.respond c status payload s).events = s.events := rfl
@[simp] theorem State.respond_store (c status payload s) : (State.respond c status payload s).store = s.store := rfl
@[simp] theorem State.respond_freeCounter (c status payload s) : (State.respond c status payload s).freeCounter = s.freeCounter := rfl
@[simp] theorem State.respond_pending (c status payload s) : (State.respond c status payload s).pending = s.pending := rfl

/-- `State.answer` changes host alone. -/
@[simp] theorem State.answer_mode (op r status payload s) : (State.answer op r status payload s).mode = s.mode := by unfold State.answer; split <;> rfl
@[simp] theorem State.answer_role (op r status payload s) : (State.answer op r status payload s).role = s.role := by unfold State.answer; split <;> rfl
@[simp] theorem State.answer_supply (op r status payload s) : (State.answer op r status payload s).supply = s.supply := by unfold State.answer; split <;> rfl
@[simp] theorem State.answer_resetReq (op r status payload s) : (State.answer op r status payload s).resetReq = s.resetReq := by unfold State.answer; split <;> rfl
@[simp] theorem State.answer_ret (op r status payload s) : (State.answer op r status payload s).ret = s.ret := by unfold State.answer; split <;> rfl
@[simp] theorem State.answer_fuses (op r status payload s) : (State.answer op r status payload s).fuses = s.fuses := by unfold State.answer; split <;> rfl
@[simp] theorem State.answer_layup (op r status payload s) : (State.answer op r status payload s).layup = s.layup := by unfold State.answer; split <;> rfl
@[simp] theorem State.answer_start (op r status payload s) : (State.answer op r status payload s).start = s.start := by unfold State.answer; split <;> rfl
@[simp] theorem State.answer_plat (op r status payload s) : (State.answer op r status payload s).plat = s.plat := by unfold State.answer; split <;> rfl
@[simp] theorem State.answer_grid (op r status payload s) : (State.answer op r status payload s).grid = s.grid := by unfold State.answer; split <;> rfl
@[simp] theorem State.answer_time (op r status payload s) : (State.answer op r status payload s).time = s.time := by unfold State.answer; split <;> rfl
@[simp] theorem State.answer_win (op r status payload s) : (State.answer op r status payload s).win = s.win := by unfold State.answer; split <;> rfl
@[simp] theorem State.answer_base (op r status payload s) : (State.answer op r status payload s).base = s.base := by unfold State.answer; split <;> rfl
@[simp] theorem State.answer_fb (op r status payload s) : (State.answer op r status payload s).fb = s.fb := by unfold State.answer; split <;> rfl
@[simp] theorem State.answer_lat (op r status payload s) : (State.answer op r status payload s).lat = s.lat := by unfold State.answer; split <;> rfl
@[simp] theorem State.answer_fld (op r status payload s) : (State.answer op r status payload s).fld = s.fld := by unfold State.answer; split <;> rfl
@[simp] theorem State.answer_sf (op r status payload s) : (State.answer op r status payload s).sf = s.sf := by unfold State.answer; split <;> rfl
@[simp] theorem State.answer_ring (op r status payload s) : (State.answer op r status payload s).ring = s.ring := by unfold State.answer; split <;> rfl
@[simp] theorem State.answer_diag (op r status payload s) : (State.answer op r status payload s).diag = s.diag := by unfold State.answer; split <;> rfl
@[simp] theorem State.answer_sdiag (op r status payload s) : (State.answer op r status payload s).sdiag = s.sdiag := by unfold State.answer; split <;> rfl
@[simp] theorem State.answer_cells (op r status payload s) : (State.answer op r status payload s).cells = s.cells := by unfold State.answer; split <;> rfl
@[simp] theorem State.answer_temps (op r status payload s) : (State.answer op r status payload s).temps = s.temps := by unfold State.answer; split <;> rfl
@[simp] theorem State.answer_balEnable (op r status payload s) : (State.answer op r status payload s).balEnable = s.balEnable := by unfold State.answer; split <;> rfl
@[simp] theorem State.answer_est (op r status payload s) : (State.answer op r status payload s).est = s.est := by unfold State.answer; split <;> rfl
@[simp] theorem State.answer_eleg (op r status payload s) : (State.answer op r status payload s).eleg = s.eleg := by unfold State.answer; split <;> rfl
@[simp] theorem State.answer_probe (op r status payload s) : (State.answer op r status payload s).probe = s.probe := by unfold State.answer; split <;> rfl
@[simp] theorem State.answer_stringSoc (op r status payload s) : (State.answer op r status payload s).stringSoc = s.stringSoc := by unfold State.answer; split <;> rfl
@[simp] theorem State.answer_probeEnable (op r status payload s) : (State.answer op r status payload s).probeEnable = s.probeEnable := by unfold State.answer; split <;> rfl
@[simp] theorem State.answer_natEnable (op r status payload s) : (State.answer op r status payload s).natEnable = s.natEnable := by unfold State.answer; split <;> rfl
@[simp] theorem State.answer_llim (op r status payload s) : (State.answer op r status payload s).llim = s.llim := by unfold State.answer; split <;> rfl
@[simp] theorem State.answer_slim (op r status payload s) : (State.answer op r status payload s).slim = s.slim := by unfold State.answer; split <;> rfl
@[simp] theorem State.answer_learn (op r status payload s) : (State.answer op r status payload s).learn = s.learn := by unfold State.answer; split <;> rfl
@[simp] theorem State.answer_conv (op r status payload s) : (State.answer op r status payload s).conv = s.conv := by unfold State.answer; split <;> rfl
@[simp] theorem State.answer_pwm (op r status payload s) : (State.answer op r status payload s).pwm = s.pwm := by unfold State.answer; split <;> rfl
@[simp] theorem State.answer_cle (op r status payload s) : (State.answer op r status payload s).cle = s.cle := by unfold State.answer; split <;> rfl
@[simp] theorem State.answer_str (op r status payload s) : (State.answer op r status payload s).str = s.str := by unfold State.answer; split <;> rfl
@[simp] theorem State.answer_therm (op r status payload s) : (State.answer op r status payload s).therm = s.therm := by unfold State.answer; split <;> rfl
@[simp] theorem State.answer_mdOffset (op r status payload s) : (State.answer op r status payload s).mdOffset = s.mdOffset := by unfold State.answer; split <;> rfl
@[simp] theorem State.answer_mdOffsetDue (op r status payload s) : (State.answer op r status payload s).mdOffsetDue = s.mdOffsetDue := by unfold State.answer; split <;> rfl
@[simp] theorem State.answer_axis (op r status payload s) : (State.answer op r status payload s).axis = s.axis := by unfold State.answer; split <;> rfl
@[simp] theorem State.answer_twin (op r status payload s) : (State.answer op r status payload s).twin = s.twin := by unfold State.answer; split <;> rfl
@[simp] theorem State.answer_su (op r status payload s) : (State.answer op r status payload s).su = s.su := by unfold State.answer; split <;> rfl
@[simp] theorem State.answer_net (op r status payload s) : (State.answer op r status payload s).net = s.net := by unfold State.answer; split <;> rfl
@[simp] theorem State.answer_can (op r status payload s) : (State.answer op r status payload s).can = s.can := by unfold State.answer; split <;> rfl
@[simp] theorem State.answer_signal (op r status payload s) : (State.answer op r status payload s).signal = s.signal := by unfold State.answer; split <;> rfl
@[simp] theorem State.answer_signalValid (op r status payload s) : (State.answer op r status payload s).signalValid = s.signalValid := by unfold State.answer; split <;> rfl
@[simp] theorem State.answer_canSealed (op r status payload s) : (State.answer op r status payload s).canSealed = s.canSealed := by unfold State.answer; split <;> rfl
@[simp] theorem State.answer_upd (op r status payload s) : (State.answer op r status payload s).upd = s.upd := by unfold State.answer; split <;> rfl
@[simp] theorem State.answer_bist (op r status payload s) : (State.answer op r status payload s).bist = s.bist := by unfold State.answer; split <;> rfl
@[simp] theorem State.answer_events (op r status payload s) : (State.answer op r status payload s).events = s.events := by unfold State.answer; split <;> rfl
@[simp] theorem State.answer_store (op r status payload s) : (State.answer op r status payload s).store = s.store := by unfold State.answer; split <;> rfl
@[simp] theorem State.answer_freeCounter (op r status payload s) : (State.answer op r status payload s).freeCounter = s.freeCounter := by unfold State.answer; split <;> rfl
@[simp] theorem State.answer_pending (op r status payload s) : (State.answer op r status payload s).pending = s.pending := by unfold State.answer; split <;> rfl

end Sys2Proof.Machine
end

