-- ==== Sys2Proof/Machine/Package.lean ====
section
/-! DEFINITION. The package: signals, their classes, directions, balls and internal pulls (R477, R479, R493 to R500). -/
namespace Sys2Proof.Machine

/-- The pin classes of R477. -/
inductive PinClass
  | field | core | analogue | traverse | backsight | crystal
  deriving DecidableEq, Repr
/-- The direction codes of R494. -/
inductive PinDir
  | input | output | both | openDrain | analogueIn
  deriving DecidableEq, Repr
/-- The signals of R495 and R496. Indices are those of R9; a Boolean picks the second of a pair of names. -/
inductive Pin
  /-- TVn_HTX, TVn_HRX, TVn_TTX and TVn_TRX, each _P and _N. -/
  | tv (leg : Fin 4) (tail rx neg : Bool)
  | md (k : Fin 20)
  | mck (n : Fin 4)
  | syncin | syncout | ppsIn | ppsOut
  | pwm (p : Fin 8) (low : Bool)
  | desat (p : Fin 8)
  | pwmen (leg : Fin 4)
  | sfi (i : Fin 16)
  | sfo (j : Fin 8)
  | fbk (j : Fin 8)
  | tps (s : Fin 4)
  | fan (n : Fin 4)
  | tach (n : Fin 4)
  | can (n : Fin 4) (rx : Bool)
  /-- AXn_A1, A2, B1, B2. -/
  | axis (n k : Fin 4)
  | home (n : Fin 4)
  | limp (n : Fin 4)
  | limn (n : Fin 4)
  | vmot (n : Fin 4)
  | ntc (k : Fin 12)
  | activeN | takeoverN | forceoffN | peerAliveIn | peerAliveOut
  | resetreqN | wakeIn | wakeOut | alertN
  /-- TCK, TMS, TDI, TDO, TRST_N. -/
  | jtag (k : Fin 5)
  /-- TXC, TX_CTL, TXD0 to TXD3, RXC, RX_CTL, RXD0 to RXD3 of ETHA_ or ETHB_. -/
  | eth (b : Bool) (k : Fin 12)
  | mdc | mdio | xtalIn | xtalOut
  | bks (rx : Bool) (lane : Fin 2) (neg : Bool)
  /-- CS_N, CLK, IO0 to IO3. -/
  | plt (k : Fin 6)
  /-- CS_N, CLK, DQS, IO0 to IO7, RESET_N of SA_ or SB_. -/
  | store (b : Bool) (k : Fin 12)
  deriving DecidableEq, Repr

/-- R477: the class of a signal. -/
def Pin.cls : Pin → PinClass
  | .tv .. => .traverse
  | .vmot _ | .ntc _ => .analogue
  | .eth .. | .mdc | .mdio | .plt _ | .store .. => .core
  | .xtalIn | .xtalOut => .crystal
  | .bks .. => .backsight
  | _ => .field
/-- R495, R496: the direction of a signal. -/
def Pin.dir : Pin → PinDir
  | .tv _ _ rx _ | .can _ rx | .bks rx _ _ => if rx then .input else .output
  | .md _ | .syncin | .ppsIn | .desat _ | .sfi _ | .fbk _ | .tach _ | .home _ | .limp _ | .limn _ => .input
  | .forceoffN | .peerAliveIn | .resetreqN | .wakeIn | .xtalIn => .input
  | .vmot _ | .ntc _ => .analogueIn
  | .activeN | .alertN => .openDrain
  | .jtag k => if k = 3 then .output else .input
  | .eth _ k => if k.val < 6 then .output else .input
  | .mdio => .both
  | .plt k => if k.val < 2 then .output else .both
  | .store _ k => if k.val < 2 ∨ k.val = 11 then .output else .both
  | _ => .output
/-- R477: signals that the always-on domain supplies: they work in LAID-UP. -/
def Pin.alwaysOn : Pin → Bool
  | .resetreqN | .wakeIn | .wakeOut => true
  | .tv _ _ rx _ => rx
  | _ => false
/-- R73: the row of the table of pin states that an output belongs to; none of an input, and of MDC, MDIO, JTAG and the
crystal, which have no row. -/
def Pin.signal : Pin → Option Signal
  | .pwm .. => some .pwm
  | .pwmen _ => some .pwmen
  | .sfo _ => some .sfo
  | .axis .. => some .axis
  | .fan _ => some .fan
  | .syncout => some .syncout
  | .tps _ => some .tps
  | .mck _ => some .mck
  | .tv _ _ rx _ => if rx then none else some .ring
  | .can _ rx => if rx then none else some .can
  | .eth _ k => if k.val < 6 then some .eth else none
  | .activeN | .takeoverN | .peerAliveOut => some .twin
  | .bks rx _ _ => if rx then none else some .twin
  | .ppsOut => some .pps
  | .alertN => some .alert
  | .wakeOut => some .wakeOut
  | .plt _ => some .plat
  | .store .. => some .store
  | _ => none

/-- An internal pull resistor of R479: to the bank's supply or to GND, in kΩ. -/
structure Pull where
  up : Bool
  kilohm : Nat
  deriving DecidableEq, Repr
/-- R479: the internal pull of a signal. -/
def Pin.pull : Pin → Option Pull
  | .wakeIn => some { up := false, kilohm := 100 }
  | .jtag k => if k = 1 ∨ k = 2 then some { up := true, kilohm := 50 } else if k = 3 then none else some { up := false, kilohm := 50 }
  | _ => none
/-- R479, R480: the internal pull of a signal in a state: disconnected in OFF; only WAKE_IN keeps its own in LAID-UP. -/
def Pin.pullIn (p : Pin) (m : Mode) : Option Pull :=
  if m = .off ∨ (m = .laidUp ∧ p ≠ .wakeIn) then none else p.pull

/-- A ball (R494): row index and column, each from 1 to 26. -/
structure Ball where
  row : Nat
  col : Nat
  deriving DecidableEq, Repr
/-- R494: the row letters in order. -/
def rowNames : List String :=
  ["A", "B", "C", "D", "E", "F", "G", "H", "J", "K", "L", "M", "N", "P", "T", "U", "V", "W", "Y", "AA", "AB", "AC", "AD", "AE", "AF", "AG"]
/-- R494: the name of a ball. -/
def Ball.name (b : Ball) : String := rowNames.getD (b.row - 1) "" ++ toString b.col
/-- R495, R496: the ball of a signal. -/
def Pin.ball : Pin → Ball
  | .tv n tail rx neg => ⟨if tail then 2 else 1, 4 * n.val + 1 + 2 * rx.toNat + neg.toNat⟩
  | .md k => if k.val < 10 then ⟨1, k.val + 17⟩ else ⟨2, k.val + 7⟩
  | .mck n => ⟨3, n.val + 17⟩
  | .syncin => ⟨3, 21⟩
  | .syncout => ⟨3, 22⟩
  | .ppsIn => ⟨3, 23⟩
  | .ppsOut => ⟨3, 24⟩
  | .pwm p low => ⟨4, 2 * p.val + 1 + low.toNat⟩
  | .desat p => ⟨5, p.val + 1⟩
  | .pwmen n => ⟨5, n.val + 9⟩
  | .sfi i => ⟨6, i.val + 1⟩
  | .sfo j => ⟨7, j.val + 1⟩
  | .fbk j => ⟨7, j.val + 9⟩
  | .tps s => ⟨8, s.val + 1⟩
  | .fan n => ⟨8, n.val + 5⟩
  | .tach n => ⟨8, n.val + 9⟩
  | .can n rx => ⟨if n.val < 2 then 8 else 9, 13 + 2 * (n.val % 2) + rx.toNat⟩
  | .axis n k => if n.val < 2 then ⟨4, 17 + 4 * n.val + k.val⟩ else ⟨5, 17 + 4 * (n.val - 2) + k.val⟩
  | .home n => ⟨6, n.val + 17⟩
  | .limp n => ⟨6, n.val + 21⟩
  | .limn n => ⟨7, n.val + 17⟩
  | .vmot n => ⟨7, n.val + 21⟩
  | .ntc k => if k.val < 8 then ⟨8, k.val + 17⟩ else ⟨9, k.val + 9⟩
  | .activeN => ⟨9, 1⟩
  | .takeoverN => ⟨9, 2⟩
  | .forceoffN => ⟨9, 3⟩
  | .peerAliveIn => ⟨9, 4⟩
  | .peerAliveOut => ⟨9, 5⟩
  | .resetreqN => ⟨9, 6⟩
  | .wakeIn => ⟨9, 7⟩
  | .wakeOut => ⟨9, 8⟩
  | .alertN => ⟨9, 9⟩
  | .jtag k => ⟨10, k.val + 1⟩
  | .eth b k => ⟨if b then 25 else 26, k.val + 1⟩
  | .mdc => ⟨24, 1⟩
  | .mdio => ⟨24, 2⟩
  | .xtalIn => ⟨22, 1⟩
  | .xtalOut => ⟨22, 2⟩
  | .bks rx lane neg => ⟨if rx then 25 else 26, 14 + 3 * lane.val + neg.toNat⟩
  | .plt k => ⟨26, 20 + k.val⟩
  | .store false k => if k.val < 7 then ⟨25, 20 + k.val⟩ else if k.val < 11 then ⟨24, 16 + k.val⟩ else ⟨24, 22⟩
  | .store true k => ⟨23, 15 + k.val⟩
/-- The two values of a Boolean index. -/
def bools : List Bool := [false, true]
/-- R495: the field-die signals with an index. -/
def indexedPins : List (List Pin) :=
  [(List.finRange 4).flatMap (fun n => bools.flatMap (fun t => bools.flatMap (fun r => bools.map (fun g => Pin.tv n t r g)))),
   (List.finRange 20).map Pin.md, (List.finRange 4).map Pin.mck,
   (List.finRange 8).flatMap (fun p => bools.map (fun l => Pin.pwm p l)), (List.finRange 8).map Pin.desat, (List.finRange 4).map Pin.pwmen,
   (List.finRange 16).map Pin.sfi, (List.finRange 8).map Pin.sfo, (List.finRange 8).map Pin.fbk, (List.finRange 4).map Pin.tps,
   (List.finRange 4).map Pin.fan, (List.finRange 4).map Pin.tach, (List.finRange 4).flatMap (fun n => bools.map (fun r => Pin.can n r)),
   (List.finRange 4).flatMap (fun n => (List.finRange 4).map (fun k => Pin.axis n k)),
   (List.finRange 4).flatMap (fun n => [Pin.home n, Pin.limp n, Pin.limn n, Pin.vmot n]), (List.finRange 12).map Pin.ntc,
   (List.finRange 5).map Pin.jtag]
/-- R495: the field-die signals. -/
def fieldPins : List Pin :=
  [.syncin, .syncout, .ppsIn, .ppsOut, .activeN, .takeoverN, .forceoffN, .peerAliveIn, .peerAliveOut, .resetreqN, .wakeIn, .wakeOut,
   .alertN] ++ indexedPins.flatten
/-- R496: the core-die signals. -/
def corePins : List Pin :=
  [.mdc, .mdio, .xtalIn, .xtalOut] ++ List.flatten
    [bools.flatMap (fun b => (List.finRange 12).map (fun k => Pin.eth b k)),
     bools.flatMap (fun r => (List.finRange 2).flatMap (fun l => bools.map (fun g => Pin.bks r l g))), (List.finRange 6).map Pin.plt,
     bools.flatMap (fun b => (List.finRange 12).map (fun k => Pin.store b k))]
/-- R495, R496: every signal. -/
def allPins : List Pin := fieldPins ++ corePins
/-- The net of a ball that carries no signal, or of one that does (R497, R498). -/
inductive BallNet
  | signal (p : Pin)
  | vmain | vback | vio33Out | vio18Out | agnd | gnd
  | dnc (k : Nat)
  deriving DecidableEq, Repr
/-- R497, R498: the net of a ball without a signal. -/
def supplyNet (b : Ball) : BallNet :=
  if (b.row = 11 ∨ b.row = 12) ∧ 7 ≤ b.col ∧ b.col ≤ 12 then .vmain
  else if (b.row = 11 ∨ b.row = 12) ∧ 15 ≤ b.col ∧ b.col ≤ 20 then .vback
  else if b.row = 10 ∧ (b.col = 21 ∨ b.col = 22) then .vio33Out
  else if b.row = 24 ∧ (b.col = 20 ∨ b.col = 21) then .vio18Out
  else if (6 ≤ b.row ∧ b.row ≤ 8 ∧ 25 ≤ b.col) ∨ (b.row = 9 ∧ 21 ≤ b.col) ∨ (b.row = 10 ∧ 17 ≤ b.col ∧ b.col ≤ 20) then .agnd
  else if b.row = 22 ∧ 23 ≤ b.col then .dnc (b.col - 23)
  else .gnd
/-- R495 to R498: the net of a ball. -/
def Ball.net (b : Ball) : BallNet := match allPins.find? (fun p => p.ball == b) with
  | some p => .signal p
  | none => supplyNet b
/-- R493: the balls of the matrix. -/
def allBalls : List Ball := (List.range 26).flatMap (fun r => (List.range 26).map (fun c => { row := r + 1, col := c + 1 }))
/-- R500: the pin of the peer that a twin-control output runs to; the other nets of R315 join balls of one name. -/
def Pin.peer : Pin → Pin
  | .takeoverN => .forceoffN
  | .forceoffN => .takeoverN
  | .peerAliveOut => .peerAliveIn
  | .peerAliveIn => .peerAliveOut
  | p => p
/-- R493: the outline, in µm, and the mass in g. -/
structure Outline where
  body : Nat := 35000
  bodyTolerance : Nat := 150
  seatedHeight : Nat := 3400
  matrix : Nat := 26
  pitch : Nat := 1270
  ballDiameter : Nat := 750
  standoff : Nat := 500
  coplanarity : Nat := 200
  massTenths : Nat := 95
  deriving DecidableEq, Repr
/-- R493: the span of the matrix, and the distance from the body's edge to the outer ball centres, in µm. -/
def Outline.span (o : Outline) : Nat := (o.matrix - 1) * o.pitch
/-- R493. -/
def Outline.edge (o : Outline) : Nat := (o.body - o.span) / 2

end Sys2Proof.Machine
end

