-- ==== Sys2Proof/Machine/Electrical.lean ====
section
/-! DEFINITION. Electrical characteristics (R473 to R491): ratings, operating conditions, power, levels, port timing and
thermal data, in mV, mA, mW, ns and 0.1 °C. -/
namespace Sys2Proof.Machine

/-- A closed range. -/
structure Limits where
  lo : Int
  hi : Int
  deriving DecidableEq, Repr
/-- A value lies within a range. -/
def Limits.holds (l : Limits) (x : Int) : Bool := decide (l.lo ≤ x) && decide (x ≤ l.hi)
/-- R473: the absolute limits of a pin's voltage, mV. -/
def PinClass.rating : PinClass → Limits
  | .field | .analogue | .traverse => ⟨-500, 4000⟩
  | .core | .crystal => ⟨-500, 2300⟩
  | .backsight => ⟨-300, 1500⟩
/-- R473: the absolute limits of VMAIN and VBACK, mV; of the current into a signal pin, mA; of the junction and storage
temperatures, 0.1 °C. -/
def inputRating : Limits := ⟨-500, 6500⟩
/-- R473. -/
def pinCurrentRating : Limits := ⟨-20, 20⟩
/-- R473. -/
def junctionRating : Limits := ⟨-550, 1500⟩
/-- R473. -/
def storageRating : Limits := ⟨-550, 1250⟩
/-- The conditions under which the integrator operates the module (R474). -/
structure Conditions where
  /-- The selected input, mV. -/
  input : Int
  /-- Ripple and noise on it, mV peak-to-peak. -/
  ripple : Int
  /-- Rise time of the input, ms. -/
  rise : Int
  /-- Case and junction temperatures, 0.1 °C. -/
  case : Int
  junction : Int
  /-- REFCLK error, ppm. -/
  refclk : Int
  deriving DecidableEq, Repr
/-- R474: the operating conditions hold. -/
def Conditions.met (c : Conditions) : Bool :=
  (Limits.mk 4500 5500).holds c.input && decide (c.ripple ≤ 100) && decide (c.rise ≤ 50) && (Limits.mk (-400) 1050).holds c.case &&
  (Limits.mk (-400) 1250).holds c.junction && (Limits.mk (-50) 50).holds c.refclk
/-- R475: typical and maximum power of the module by state, mW, without the exported loads; none in OFF. Last-gasp has a
maximum only (R63). -/
def modulePower (m : Mode) (standby : Bool) : Option (Nat × Nat) :=
  if m = .off then none
  else if m = .laidUp then some (40, 60)
  else if standby then some (7000, 9500)
  else match m with
    | .boot => some (3200, 4000)
    | .plat | .load | .staking => some (5000, 6500)
    | .surveyed | .armed | .faultHold => some (6000, 8000)
    | _ => some (7000, 9500)
/-- R63, R475: the power of the last-gasp, mW. -/
def lastGaspPower : Nat := 2500
/-- R63, R475: input power with an exported load, mW, rounded. -/
def inputPower (own exported : Nat) : Nat := own + (exported * 100 + 42) / 85
/-- R475: input current, mA, rounded, at an input voltage in mV. -/
def inputCurrent (power mv : Nat) : Nat := (power * 1000 + mv / 2) / mv
/-- R476: a rail is held within 3 % of its nominal level, mV. -/
def railLimits (nominal : Nat) : Limits := ⟨nominal * 97 / 100, nominal * 103 / 100⟩
/-- R478: the thresholds and output levels of a bank, mV. -/
structure BankLevels where
  vil : Int
  vih : Int
  hysteresis : Int
  vol : Int
  voh : Int
  deriving DecidableEq, Repr
/-- R478. -/
def fieldBank : BankLevels := { vil := 800, vih := 2000, hysteresis := 150, vol := 400, voh := 2400 }
/-- R478. -/
def coreBank : BankLevels := { vil := 630, vih := 1170, hysteresis := 100, vol := 450, voh := 1350 }
/-- R478: what an input reads at a level; none between the thresholds, where the specification states no reading. -/
def BankLevels.reads (b : BankLevels) (mv : Int) : Option Bool :=
  if mv ≤ b.vil then some false else if b.vih ≤ mv then some true else none
/-- R480: the level up to which an unpowered pin of a class sources or sinks no more than 10 µA, mV. -/
def PinClass.nominal : PinClass → Int
  | .field | .analogue | .traverse => 3300
  | .core | .crystal => 1800
  | .backsight => 1200
/-- R484: timing at the balls, ns; in the order of the table: PWM edge delay and skew (0.1 ns), dead-time error, shortest
level of DESATn, of SYNCIN and PPS_IN, stamp resolution and uncertainty, SYNCOUT delay, PPS_OUT error, shortest TACH pulse. -/
structure PinTiming where
  pwmDelay : Nat := 8
  pwmSkewTenths : Nat := 15
  deadTimeError : Nat := 2
  desatMin : Nat := 20
  syncMin : Nat := 200
  stampResolution : Nat := 4
  stampError : Nat := 8
  syncoutDelay : Nat := 20
  ppsError : Nat := 8
  tachMin : Nat := 10000
  deriving DecidableEq, Repr
/-- R484: an input level of this length, in ns, is long enough to be seen. -/
def PinTiming.seen (t : PinTiming) (p : Pin) (ns : Nat) : Bool := match p with
  | .desat _ => decide (t.desatMin ≤ ns)
  | .syncin | .ppsIn => decide (t.syncMin ≤ ns)
  | .tach _ => decide (t.tachMin ≤ ns)
  | _ => true
/-- R485: a differential level on a Traverse receiver, mV: always detected, never detected, or unstated between the two. -/
def tvDetected (mv : Nat) : Option Bool := if 200 ≤ mv then some true else if mv ≤ 50 then some false else none
/-- R485: the limits of a port: output amplitude, receive bias and common mode in mV, output edges in ns, termination in Ω. -/
def tvAmplitude : Limits := ⟨2400, 3300⟩
/-- R485. -/
def tvBias : Limits := ⟨1550, 1750⟩
/-- R485. -/
def tvCommonMode : Limits := ⟨300, 3000⟩
/-- R485. -/
def tvEdge : Limits := ⟨5, 15⟩
/-- R485. -/
def tvTermination : Limits := ⟨90, 110⟩
/-- R486: swing and sensitivity of a Backsight lane, mV peak-to-peak. -/
def bksSwing : Limits := ⟨600, 1000⟩
/-- R486. -/
def bksSensitivity : Nat := 150
/-- R487: the delay of TXC and RXC inside the module and the data-valid window of MDIO, 0.1 ns. -/
def rgmiiDelay : Limits := ⟨15, 25⟩
/-- R487. -/
def mdioValid : Limits := ⟨100, 3000⟩
/-- R488: a flash's clock-to-output delay and the trace's round trip, ns, suit the plat port: at 50 MHz the sum is at most
14 ns. -/
def pltDelayOk (clockToOut roundTrip : Nat) : Bool := decide (clockToOut + roundTrip ≤ 14)
/-- R489: a source of REFCLK: a crystal with its load in pF, ESR in Ω and rated drive in µW, or an oscillator with its
phase jitter in 0.1 ps rms. -/
inductive RefSource
  | crystal (load esr drive : Nat)
  | oscillator (jitterTenths : Nat)
  deriving DecidableEq, Repr
/-- R489: the source is suitable. -/
def RefSource.ok : RefSource → Bool
  | .crystal load esr drive => decide (load = 10) && decide (esr ≤ 50) && decide (100 ≤ drive)
  | .oscillator j => decide (j ≤ 10)
/-- R490: the codes that the 12-bit converter can give at an input: the ratio to VIO33_OUT, within the offset and the
non-linearity. -/
def adcCodes (mv vio : Nat) : Limits := ⟨(4096 * mv / vio : Nat) - 5, (4096 * mv / vio : Nat) + 5⟩
/-- R491: the maximum power, mW, and the resistance from junction to lid, 0.1 K/W, of the core die or the field die. -/
def dieHeat (field : Bool) : Nat × Nat := if field then (3500, 25) else (6000, 20)
/-- R491: the junction temperature of a die, 0.1 °C, at a case temperature and its power. -/
def junctionTemp (field : Bool) (case : Int) (power : Nat) : Int := case + power * (dieHeat field).2 / 1000
/-- R491: the case-to-ambient resistance that the cooling must not exceed, 0.01 K/W, at an ambient temperature in 0.1 °C. -/
def coolingNeed (ambient : Int) : Int := (1050 - ambient) * 10000 / 9500

end Sys2Proof.Machine
end

