-- ==== Sys2Proof/WellFormed.lean ====
section
/-! DEFINITION. Which commands can come at all: every operand fits the field, the wire or the range the spec gives it. -/
namespace Sys2Proof

/-- A number that fits k bits. -/
def fits (k n : Nat) : Bool := decide (n < 2 ^ k)
/-- A number that fits a signed 16-bit field. -/
def fitsI16 (x : Int) : Bool := decide (-32768 ≤ x) && decide (x ≤ 32767)
/-- A number that fits a signed 32-bit field. -/
def fitsI32 (x : Int) : Bool := decide (-2147483648 ≤ x) && decide (x ≤ 2147483647)
/-- R80: both voltages are 16-bit numbers of mV. -/
def SupplyMv.wf (v : SupplyMv) : Bool := fits 16 v.vmain && fits 16 v.vback
/-- R355: kind 0 (absent), 1 (NOR) or 2 (NAND); an absent device has no capacity and no bad blocks. -/
def PortProbe.wf (p : PortProbe) : Bool := decide (p.kind < 3) && (p.kind != 0 || (p.mb == 0 && p.bad.isEmpty)) && fits 16 p.mb
/-- R21, R324, R348: the codes of a latch fit their converters. -/
def FieldLatch.wf (l : FieldLatch) : Bool :=
  l.ntc.toList.all (fits 12) && l.vmot.toList.all (fits 16) && fits 8 l.fbk && fits 8 l.readback && l.die.toList.all fitsI16
/-- R112, R117: the STAKE field is 0 (all), 1 to 24, or 255 (unstaked); at most 24 stations. -/
def RingTx.wf (x : RingTx) : Bool := (decide (x.stake ≤ 24) || x.stake == 255) && decide (x.reach ≤ 24) && decide (x.sense.length ≤ 24)
/-- R166: what one check converts. -/
def SleepReading.wf (r : SleepReading) : Bool := decide (r.cells.length ≤ 16) && r.cells.all (fits 16) && decide (r.temps.length ≤ 8) && r.temps.all fitsI16
/-- R142: T_P lies between the two filter outputs. -/
def PlumbCap.wf (c : PlumbCap) : Bool := decide (0 < c.den) && decide (c.num ≤ c.den)
/-- R402: the fields of an Announce. -/
def Announce.wf (a : Announce) : Bool :=
  decide (a.lan < 2) && fits 8 a.domain && decide (a.identity.length = 10) && fits 8 a.prio1 && fits 8 a.clockClass && fits 8 a.accuracy &&
  fits 16 a.variance && fits 8 a.prio2 && decide (a.grandmaster.length = 8) && fits 16 a.steps
/-- R396, R398: the fields of an Ethernet frame. -/
def EthFrame.wf (f : EthFrame) : Bool :=
  fits 48 f.src &&
  (match f.vlan with
    | some v => fits 12 v
    | none => true) &&
  (match f.prp with
    | some p => fits 16 p.1 && fits 4 p.2
    | none => true)
/-- R423: the identifier fits its format and the length is one of CAN or CAN FD. -/
def CanFrame.wf (f : CanFrame) : Bool :=
  (if f.ide then fits 29 f.id else fits 11 f.id) && (f.fd || !f.brs) &&
  (decide (f.data.length ≤ 8) || (f.fd && [12, 16, 20, 24, 32, 48, 64].contains f.data.length))
/-- R407: the header fields of a host message, its payload and its MAC. -/
def HostReq.wf (r : HostReq) : Bool :=
  fits 8 r.version && fits 8 r.flags && fits 16 r.keyId && fits 16 r.len && fits 32 r.epoch && fits 64 r.nonce && fits 32 r.tag &&
  decide (r.payload.length ≤ 1426) && decide (r.mac.length = 16) && fits 32 r.ip && fits 16 r.port && fits 64 r.stamp

/-- The command's operands lie in the ranges the spec gives them. -/
def Instr.wf (i : Instr) : Bool :=
  match i with
  | .powerOnRelease v => v.wf
  | .brownOut v => v.wf
  | .supplySwitchToVback v => v.wf
  | .vmainReturn v => v.wf
  | .vbackFailReturn v => v.wf
  | .railOverload _ => true
  | .lastGaspStart v => v.wf
  | .lastGaspComplete => true
  | .watchdogExpiry => true
  | .resetreqArm => true
  | .resetreqFallingEdge => true
  | .resetreqReset => true
  | .resetreqStuck => true
  | .resetreqStuckRearm => true
  | .refclkLoss => true
  | .refclkReturn => true
  | .bootSlotSelect saProbe sbProbe readFault => saProbe.wf && sbProbe.wf && decide (readFault < 4)
  | .startupBistComplete failed => decide (failed < 32)
  | .platInstallProgram readBack => decide (readBack.length ≤ 2097152)
  | .platHeaderRead jedec _ _ => fits 24 jedec.first && fits 24 jedec.again
  | .platBodyCheck _ => true
  | .stateLimitExpiry => true
  | .mckPhaseTraining busy => busy.toList.all (fits 16)
  | .twinRoleDecision _ _ => true
  | .twinStartWaitExpiry _ => true
  | .loadComplete => true
  | .learnedValuesRead => true
  | .offsetCalibrationComplete _ _ _ means => means.all (fun m => decide (m.1 < 20))
  | .offsetCalibrationStart _ => true
  | .surveyedEntry => true
  | .baselineFlitSend _ => true
  | .baselineFlitReceived _ _ => true
  | .baselineFlitRelease _ _ => true
  | .baselineNakReceived _ ack => fits 8 ack
  | .baselineUp => true
  | .baselineLossField => true
  | .autonomyPermitDrop => true
  | .baselineLossCore => true
  | .baselineLossHoldExpiry => true
  | .memoryEccCorrected _ => true
  | .memoryEccUncorrectable _ => true
  | .lockstepMismatch => true
  | .frameBoundary l => l.wf
  | .sampleBoundary => true
  | .windowW0Seal => true
  | .windowW1Safety => true
  | .windowW2Estimation => true
  | .windowW3Dispatch => true
  | .windowW4Outputs => true
  | .windowW5Store => true
  | .windowOverrun _ engineUs => fits 32 engineUs
  | .functionDrainComplete _ => true
  | .syncinEdge stamp => fits 64 stamp
  | .syncinLoss => true
  | .ppsOutSecond => true
  | .ppsInEdge stamp => fits 64 stamp
  | .ptpAnnounceReceived a => a.wf
  | .ptpSyncReceived _ identity seqId t2 _ => decide (identity.length = 10) && fits 16 seqId && fits 64 t2
  | .ptpFollowUpReceived _ identity seqId _ _ => decide (identity.length = 10) && fits 16 seqId
  | .ptpDelayReqSend t3 => fits 64 t3
  | .ptpDelayRespReceived _ identity seqId _ _ => decide (identity.length = 10) && fits 16 seqId
  | .ptpSyncTimeout => true
  | .ptpMasterTimeout _ identity => decide (identity.length = 10)
  | .ptpPortFailover => true
  | .commandLayUp r => r.wf
  | .layupPersistDone => true
  | .wakeInEdge => true
  | .wakeTone _ => true
  | .wakeTimerExpiry => true
  | .traverseStake x next dir => x.wf && decide (next ≤ 24) && decide (dir < 2)
  | .traverseUnstakeAll x => x.wf
  | .traversePing x _ => x.wf
  | .traverseSampleAt x round tag wait => x.wf && fits 8 round && fits 8 tag && wait.all (fits 16) && decide (wait.length ≤ 24)
  | .traverseReadCells x round => x.wf && fits 8 round
  | .traverseReadTemps x => x.wf
  | .traverseReadHousekeeping x => x.wf
  | .traverseBalanceSet x duration mask => x.wf && fits 16 duration && mask.all (fits 16) && decide (mask.length ≤ 24)
  | .traverseQuiet x start length => x.wf && fits 16 start && fits 16 length
  | .traverseOpenWireTest x wires => x.wf && fits 17 wires
  | .traverseBalSwitchTest x mask => x.wf && fits 16 mask
  | .traverseSetSleepThresholds x ov uv ot ut period => x.wf && fits 16 ov && fits 16 uv && fitsI16 ot && fitsI16 ut && fits 16 period
  | .traverseSleep x key => x.wf && fits 16 key
  | .traverseCodeLoad x addr data => x.wf && fits 32 addr && decide (1 ≤ data.length) && decide (data.length ≤ 48)
  | .traverseCodeRun x length crc version => x.wf && fits 32 length && fits 32 crc && fits 32 version
  | .traverseReadReg x addr count => x.wf && fits 8 addr && fits 8 count
  | .traverseWriteReg x addr values => x.wf && fits 8 addr && values.all (fits 16)
  | .trainReturned _ _ back => back.badRecords.all (fun k => decide (k < 24))
  | .trainReturnTimeout _ _ => true
  | .stationConversion _ pos cells stackV _ _ => decide (pos < 24) && decide (cells.length ≤ 16) && cells.all (fits 16) && fits 16 stackV
  | .stationTestEnd _ pos _ _ values => decide (pos < 24) && decide (values.length ≤ 17) && values.all fitsI16
  | .stationBalanceExpiry _ pos => decide (pos < 24)
  | .stationCodeEccError _ pos _ => decide (pos < 24)
  | .stationFrameTimeout _ pos => decide (pos < 24)
  | .stationSleepCheck _ pos first second => decide (pos < 24) && first.wf && second.wf
  | .toneLoss _ => true
  | .splitModeEntry _ => true
  | .splitReflectWait _ => true
  | .loopModeReturn _ => true
  | .voltageRound _ tp _ => fits 64 tp
  | .plumbCapture tp caps => fits 64 tp && caps.all PlumbCap.wf && decide (caps.length ≤ 4)
  | .closureHoldExpiry _ => true
  | .openWireRetest _ stake line => decide (1 ≤ stake) && decide (stake ≤ 24) && decide (line ≤ 16)
  | .balSwitchTestSchedule _ retest => (match retest with
    | some k => decide (1 ≤ k) && decide (k ≤ 24)
    | none => true)
  | .tempSlowRound => true
  | .fastListRound => true
  | .fastListLeave _ stake => decide (1 ≤ stake) && decide (stake ≤ 24)
  | .tempStaleTimeout index => decide (index < 768)
  | .balancePhaseBoundary => true
  | .probeDue _ => true
  | .probeLeadingEdge _ => true
  | .probeTrailingEdge _ => true
  | .restTimerExpiry _ => true
  | .learnPeriodExpiry => true
  | .learnedSnapshot => true
  | .learnedWriteComplete fault => decide (fault < 16)
  | .commandDispatch r => r.wf
  | .modeChangeBankSwitch => true
  | .dispatchWatchdogExpiry => true
  | .wdHoldExpiry => true
  | .legWaitBusReady _ => true
  | .startIntoShort => true
  | .retrySpacingExpiry _ => true
  | .sampleLatch _ => true
  | .compareWrite => true
  | .pwmCarrierStart _ => true
  | .fastLimitTrip _ _ => true
  | .desatTrip _ => true
  | .overloadTrip _ => true
  | .loadStepTurnOff _ => true
  | .loadStepReentry _ => true
  | .loadStepTimeout _ => true
  | .legDrainComplete _ => true
  | .legHeadroomLoss _ => true
  | .safetyInputDemand _ => true
  | .safetyInputClear _ => true
  | .safetyPairDiscrepancy _ => true
  | .testPulseStart _ levelsBefore => fits 16 levelsBefore
  | .testPulseCheck _ levels => fits 16 levels
  | .testPulseEnd _ => true
  | .stopTMaxExpiry => true
  | .stoppingExit => true
  | .cellInvalidTimeout cell => decide (cell < 1536)
  | .tempPointsInvalidTimeout _ stake => decide (1 ≤ stake) && decide (stake ≤ 24)
  | .contactorSequenceStep => true
  | .prechargeTimeout => true
  | .outputReadbackMismatch _ _ => true
  | .darkTestStart => true
  | .darkTestOffCheck _ => true
  | .darkTestRecoveryCheck _ => true
  | .darkTestIntervalEnd _ => true
  | .contactorOperateTimeout _ levels => fits 8 levels
  | .contactorFeedbackChange _ levels => fits 8 levels
  | .weldPeerHoldExpiry _ levels => fits 8 levels
  | .inhibitCurrentViolation _ _ => true
  | .permitReceived bytes => decide (bytes.length = 56)
  | .permitTimeout => true
  | .forceoffAssert => true
  | .safeTelegramReceived _ bytes stamp => decide (bytes.length ≤ 1500) && fits 64 stamp
  | .telegramWatchdogExpiry => true
  | .statusTelegramSend => true
  | .backsightFlitReceived cls seq ack _ _ _ => decide (cls < 8) && fits 8 seq && fits 8 ack
  | .backsightUp peerStamp delay _ _ => fits 64 peerStamp && fits 64 delay
  | .backsightSilence => true
  | .peerAliveLost => true
  | .standbyCleStart => true
  | .sealBundleReceived bundle => fits 32 bundle.frame && fits 64 bundle.stamp && fits 16 bundle.sfi && bundle.latch.wf
  | .sealBundleLate => true
  | .twinSampleCompare => true
  | .twinFrameCompare => true
  | .twinRecomputeComplete _ => true
  | .twinVerdictReceived _ => true
  | .twinVerdictTimeout => true
  | .takeoverSwitch => true
  | .joinRequest => true
  | .joinBlockReceived _ data => decide (data.length = 56)
  | .joinConverged => true
  | .joinComplete j => fits 32 j.frame
  | .joinTimeout => true
  | .commandSwap r => r.wf
  | .swapBoundary => true
  | .twinGraceExpiry => true
  | .stageThermalTrip _ code => fits 12 code
  | .stageThermalRelease _ => true
  | .ntcFault _ code => fits 12 code
  | .ntcFaultClear _ => true
  | .dieThermalShutdown _ _ => true
  | .dieShutdownRelease => true
  | .valveLoop => true
  | .fanFault _ => true
  | .fanFaultClear _ => true
  | .axisPwmPeriod vmot => vmot.toList.all (fits 16)
  | .axisHomeEdge _ _ stamp => fits 64 stamp
  | .axisChatterClear _ => true
  | .axisLimit _ _ _ => true
  | .axisStandstill _ => true
  | .axisVmotFault _ => true
  | .axisVmotRecover _ => true
  | .axTargetWrite _ v => fitsI32 v
  | .axCommandHome _ => true
  | .axCommandStop _ => true
  | .axEnableWrite _ v => decide (v < 2)
  | .dmaBurst _ cond => decide (cond < 16)
  | .flashProgramComplete _ _ => true
  | .flashEraseComplete _ _ => true
  | .dmaResume _ unit => fits 29 unit
  | .dmaAbandon _ => true
  | .portTimeout _ => true
  | .portRecovery _ _ => true
  | .windowHaltTimeout _ => true
  | .fieldBookReplay => true
  | .fbTimeRecord => true
  | .fbSecondEnd => true
  | .fbNandFlush => true
  | .phyPoll _ => true
  | .ethernetFrameReceived _ frame stamp => frame.wf && fits 64 stamp
  | .arpRequest ip mac target => fits 32 ip && fits 48 mac && fits 32 target
  | .arpCacheExpiry ip => fits 32 ip
  | .icmpEcho target => fits 32 target
  | .prpSupervisionSend => true
  | .prpNodeForget mac => fits 48 mac
  | .lanDegraded _ _ => true
  | .hostAuthFailRecord => true
  | .hostRead r => r.wf
  | .hostWrite r => r.wf
  | .objectWrite obj _ _ => fits 32 obj
  | .hostSubscribe r => r.wf
  | .subscriptionPublish _ => true
  | .subscriptionLeaseExpiry _ _ => true
  | .eventsRead r => r.wf
  | .eventsFollow r => r.wf
  | .eventsUnfollow r => r.wf
  | .commandArm r => r.wf
  | .commandDisarm r => r.wf
  | .commandRelease r => r.wf
  | .commandReset r => r.wf
  | .commandPlatStage r => r.wf
  | .commandPlatInstall r => r.wf
  | .commandKeyRevoke r => r.wf
  | .windowRead r => r.wf
  | .windowWrite r => r.wf
  | .windowErase r => r.wf
  | .windowFlush r => r.wf
  | .windowStatus r => r.wf
  | .windowResume r => r.wf
  | .windowAbandon r => r.wf
  | .updateHeader r => r.wf
  | .updateBody r => r.wf
  | .updateApply r => r.wf
  | .applyBlockComplete fault => decide (fault < 16)
  | .updateStart r => r.wf
  | .updateReject r => r.wf
  | .updateAbort r => r.wf
  | .updateStatus r => r.wf
  | .trialTimerExpiry => true
  | .canTxLoad r => r.wf
  | .canTxAbort r => r.wf
  | .canTxStatus r => r.wf
  | .canRxRead r => r.wf
  | .canRxAck r => r.wf
  | .canControllerStatus r => r.wf
  | .canFrameReceived _ frame _ stamp => frame.wf && fits 64 stamp
  | .canArbitrationStart _ => true
  | .canTxComplete _ stamp => fits 64 stamp
  | .canTxError _ _ => true
  | .canBusOffRecovery _ => true
  | .canRateDwellExpiry _ => true
  | .canMapTimeout _ entry => decide (entry < 32)
  | .canTxMapSend _ entry => decide (entry < 32)
  | .canStatusSetSend _ => true
  | .canEnableWrite _ v => decide (v < 2)
  | .bistSlice _ _ => true
  | .keyRederivationComplete _ => true
  | .bistPassLate => true
  | .debugUnlock sig => decide (sig.length = 64)
  | .syncPhaseWrite v => fits 16 v
  | .syncinEnableWrite v => decide (v < 2)
  | .balEnableWrite v => fits 8 v
  | .probeEnableWrite v => fits 8 v
  | .bankSelectWrite _ v => decide (v < 2)
  | .updateEnableWrite v => decide (v < 2)
  | .bistEnableWrite v => decide (v < 2)
  | .contactLostClear _ v => fits 32 v
  | .telegramDegradedClear v => fits 32 v
  | .baselineLostClear v => fits 32 v
  | .timeOverrunClear v => fits 32 v
  | .supplySwitchedClear v => fits 32 v
  | .resetreqStuckClear v => fits 32 v
  | .warnLatchedClear v => fits 32 v
  | .learnWriteFailClear v => fits 32 v
  | .fbQueueFullClear v => fits 32 v
  | .canStatusClear _ v => fits 32 v
  | .baselineLaneLock _ _ _ => true
  | .backsightFlitSend => true
  | .toneReturn _ => true
  | .stationToneLost _ pos _ => decide (pos < 24)
  | .stationToneQualified _ pos _ => decide (pos < 24)
  | .stationPowerUp _ pos uid hwId romVersion => decide (pos < 24) && fits 64 uid && fits 16 hwId && fits 16 romVersion
  | .stationQuietWindowEnd _ pos => decide (pos < 24)
  | .resetreqRisingEdge => true
  | .forceoffRelease => true
  | .railOverloadEnd _ => true
  | .supplyLowExit v => v.wf
  | .canRxError _ _ => true
  | .fanPwmPeriod _ => true
  | .tachEdge _ => true
  | .shutdownPersistTimeout => true

end Sys2Proof
end

