-- ==== Sys2Proof/Tests/Slice0.lean ====
section
/-! SUPPORT. Tests: every premise of the statements is met by a state and operands (a witness theorem per statement, one
conjunct per clause that has premises); each check of WellFormed refuses an ill-formed command; and the worked examples of
the spec. Four witnesses are conditional, and say on what: a signature or a challenge is an opaque value of Config (logs 6
and 7), and a plat copy that passes every check is too long to write out here. -/
set_option Elab.async false
open Sys2Proof Sys2Proof.Machine
namespace Sys2Proof.Tests
abbrev z : State := State.reset
/-- An expert record of the plat that carries some parameters: field, element, value. -/
def parRec (basic inst : Nat) (vals : List (Nat × Nat × Int)) : PlatRec :=
  match schema basic with
  | none => ⟨basic + 0x80, inst, false, []⟩
  | some fs =>
    let present := (List.range (mapBytes fs)).map (fun b =>
      BitVec.ofNat 8 (vals.foldl (fun m v => if v.1 / 8 = b then m ||| 2 ^ (v.1 % 8) else m) 0))
    let body := (List.range fs.length).flatMap (fun i => match fs[i]? with
      | none => []
      | some f => (List.range f.n).flatMap (fun e => match vals.find? (fun v => v.1 == i && v.2.1 == e) with
        | some v => leInt f.ty.size v.2.2
        | none => leBytes f.ty.size 0))
    ⟨basic + 0x80, inst, false, present ++ body⟩
/-! Small operands. -/
abbrev tx0 : RingTx := ⟨0, false, 1, 24, none, false, []⟩
abbrev flit0 : Flit := ⟨0, 0, 0, 0, false, 0, .bytes []⟩
abbrev sp0 : SetPoint := ⟨0, 0, 0, 0, 0, 0⟩
abbrev latch0 : FieldLatch := ⟨.replicate 4 0, .replicate 4 0, .replicate 20 0, .replicate 12 2048, .replicate 2 250, .replicate 4 0, 0xFF, 0⟩
abbrev back0 : TrainBack := ⟨false, [], false, 0⟩
abbrev cap0 : PlumbCap := ⟨0, 0, 0, 0, 0, 1, 0, 0⟩
abbrev round0 : RoundInfo := { round := 0, regular := true, tp := 0, v := 0, i := 0, acc := 0, n := 0, probe := none }
abbrev heard0 : Heard := ⟨0, 1, 0, [], false, 0⟩
abbrev rec0 : RingRec := ⟨1, 2, []⟩
abbrev flight0 : Flight := ⟨0, 1, 0, [], [], none, 0, 0, 0, 0⟩
abbrev arr0 : Arrival := ⟨0, false, flight0, .good, [], [], false, 0, false⟩
abbrev announce0 : Announce := ⟨0, 0, [], 0, 0, 0, 0, 0, [], 0⟩
abbrev sw0 : SampleWords := ⟨[], 0, 0, 0⟩
abbrev fw0 : FrameWords := ⟨[], [], [], 0⟩
abbrev bundle0 : SealBundle := ⟨0, 0, 0, latch0, (true, true), [], [], true⟩
abbrev frame0 : CanFrame := ⟨false, false, false, 0, []⟩
abbrev req0 : HostReq := ⟨1, 0, 0, 0, 0, 1, 0, [], [], 0, 0, 0, false⟩
abbrev eth0 : EthFrame := ⟨0, none, none, .other, true⟩
abbrev phy0 : PhyRead := ⟨true, true, true, 0⟩
abbrev fbRec0 : FbRecord := ⟨0, 0, 0, 0, 0, 0, [], 0, 0, 0, 0, 0, .active, .off, 0⟩
abbrev learn0 : LearnSet := ⟨1, 0, 0, 0, 0, 0, false, [], []⟩
abbrev change0 : ModeChange := ⟨0, 0, 0, 0, 0⟩
abbrev ramp0 : Ramp := ⟨0, false, false⟩
abbrev copy0 : TelegramCopy := ⟨0, 0, [], false⟩
abbrev rx0 : CanRx := ⟨0, frame0, 0, false⟩
abbrev header0 : PlatHeader := ⟨0, 0, 0, false, false, 0, 0, 0, [], 0, []⟩
abbrev probe0 : PortProbe := ⟨0, 0, []⟩
abbrev join0 : JoinState :=
  ⟨0, .surveyed, [], [], [], z.diag, z.ring, [], z.eleg, 0xFFFF, z.mdOffset, [], z.probe, z.llim, z.slim, z.str, z.conv, z.cle, z.therm, z.axis, z.sf⟩
/-- Bytes with the safety CRC of R96 behind them. -/
def sealed (b : List Byte) : List Byte := b ++ leBytes 4 (safetyCrc b)
def key0 : List Byte := List.replicate 32 0
/-- A request with its MAC under the key of slot 0. -/
def signedAs (op : Nat) (q : HostReq) : HostReq := { q with mac := (hmacSha256 key0 (requestBytes op q)).take 16 }
theorem signedAs_mac (op : Nat) (q : HostReq) : macOk key0 op (signedAs op q) = true := by
  simp only [macOk, signedAs, beq_iff_eq]; rfl
/-- A request of slot 0 with FLAGS and a payload, signed for a state. -/
def signed (op fl : Nat) (p : List Byte) (s : State) : HostReq :=
  signedAs op { req0 with flags := fl, epoch := s.epoch, len := p.length, payload := p }
/-- The state once such a request is accepted. -/
def checked (s : State) : State := (s.modSlot 0 (HostSlot.accept 1)).modHost (fun h => { h with admitted := h.admitted + 1 })
/-- What a state must hold for such a request to be accepted; the MAC and EPOCH it has by its making. -/
def fit (op fl : Nat) (p : List Byte) (s : State) : Bool :=
  s.hostServed && !s.bist.keyFault && s.bist.keysValid && s.hostKey 0 == some (3, key0) && decide (p.length ≤ 1426) &&
  (s.host.slot[0]).fresh 1 && !bitAt fl 4 && decide (roleFor op p ≤ 3) && decide (s.host.admitted < s.parN P.hostMaxPerFrame) &&
  (checked s).scopeStatus op { req0 with flags := fl, payload := p } == 0 && !s.twin.up
/-- A state with a maintenance key in slot 0. -/
abbrev keyed (m : Mode) : State :=
  { State.reset with mode := m, bist.keysValid := true, fuses.hostKeys := vmod State.reset.fuses.hostKeys 0 (fun _ => some (3, key0)) }
theorem signed_accepts (op fl : Nat) (p : List Byte) (s : State) (h : fit op fl p s = true) :
    s.accepts op (signed op fl p s) (checked s) := by
  simp only [fit, Bool.and_eq_true, Bool.not_eq_true', beq_iff_eq, decide_eq_true_eq] at h
  obtain ⟨⟨⟨⟨⟨⟨⟨⟨⟨⟨h1, h2⟩, h3⟩, h4⟩, h5⟩, h6⟩, h7⟩, h8⟩, h9⟩, h10⟩, h11⟩ := h
  refine ⟨?_, h10⟩
  have hk : s.hostKey (signed op fl p s).keyId = some (3, key0) := h4
  have hm : macOk key0 op (signed op fl p s) = true := signedAs_mac _ _
  have hl : lengthOk (signed op fl p s) = true := by
    simp only [lengthOk, signed, signedAs, Bool.and_eq_true, beq_iff_eq, true_and]; exact decide_eq_true h5
  have hf : (s.host.slot[(slotIndex (signed op fl p s).keyId).val]).fresh (signed op fl p s).nonce = true := h6
  have he : (signed op fl p s).epoch = s.epoch := rfl
  have hv : (signed op fl p s).version = 1 := rfl
  have hw : (signed op fl p s).forwarded = false := rfl
  have hl2 : s.letIn op 3 (signed op fl p s) = (checked s, true) := by
    have hr : (s.modSlot (signed op fl p s).keyId (HostSlot.accept (signed op fl p s).nonce)).retried (signed op fl p s) = none := by
      have : bitAt (signed op fl p s).flags 4 = false := h7
      simp only [State.retried, this]; rfl
    have h8' : ¬ 3 < roleFor op (signed op fl p s).payload := by show ¬ 3 < roleFor op p; omega
    have h9' : ¬ (s.modSlot (signed op fl p s).keyId (HostSlot.accept (signed op fl p s).nonce)).parN P.hostMaxPerFrame ≤
        (s.modSlot (signed op fl p s).keyId (HostSlot.accept (signed op fl p s).nonce)).host.admitted := Nat.not_le.2 h9
    have hu : (checked s).twin.up = false := h11
    have hf : (checked s).forwardMessage op (signed op fl p s) = checked s := by
      simp only [State.forwardMessage, State.twinSend, hu, Bool.and_false, Bool.false_eq_true, if_false, ite_self]
    simp only [State.letIn, hr, if_neg h8', if_neg h9']; exact congrArg (fun t => (t, true)) hf
  simp only [State.hostCheck, hw, h1, h2, h3, hk, hv, hm, hl, hf, he, hl2, Bool.not_true, Bool.false_eq_true, if_false, ne_eq, not_true_eq_false,
    decide_false, Bool.or_false]
/-- Bytes with their CRC-32 behind them. -/
def withCrc (b : List Byte) : List Byte := b ++ leBytes 4 (crc32 b)

/-! WellFormed: for each check a command that fails it, which the check refuses; and the operands it is cut from pass. -/
/-- A request that fits its fields. -/
abbrev reqW : HostReq := { req0 with mac := .replicate 16 0 }
/-- An Announce that fits its fields. -/
abbrev annW : Announce := ⟨0, 0, .replicate 10 0, 0, 0, 0, 0, 0, .replicate 8 0, 0⟩
/-- The commands that a check refuses, all of them. -/
def refusesAll (xs : List Instr) : Bool := xs.all (fun i => !i.wf)
theorem smoke_wellFormed : [Instr.hostRead reqW, .ptpAnnounceReceived annW, .frameBoundary latch0, .canFrameReceived 0 frame0 false 0,
    .ethernetFrameReceived 0 eth0 0, .traverseStake tx0 1 0, .plumbCapture 0 [cap0], .bootSlotSelect ⟨1, 16, [3]⟩ ⟨0, 0, []⟩ 0,
    .powerOnRelease ⟨4500, 65535⟩, .stationSleepCheck 0 23 ⟨[65535], [-400]⟩ ⟨[], []⟩].all Instr.wf = true := by decide +kernel
theorem smoke_supply : refusesAll [.powerOnRelease ⟨65536, 0⟩, .brownOut ⟨0, 65536⟩, .supplySwitchToVback ⟨65536, 0⟩, .vmainReturn ⟨65536, 0⟩,
    .vbackFailReturn ⟨0, 65536⟩, .lastGaspStart ⟨65536, 0⟩, .supplyLowExit ⟨0, 65536⟩] = true := by decide +kernel
theorem smoke_start : refusesAll [.bootSlotSelect ⟨3, 0, []⟩ ⟨0, 0, []⟩ 0, .bootSlotSelect ⟨0, 16, []⟩ ⟨0, 0, []⟩ 0,
    .bootSlotSelect ⟨0, 0, []⟩ ⟨0, 0, [1]⟩ 0, .bootSlotSelect ⟨1, 65536, []⟩ ⟨0, 0, []⟩ 0, .bootSlotSelect ⟨0, 0, []⟩ ⟨0, 0, []⟩ 4,
    .startupBistComplete 32, .platHeaderRead ⟨2 ^ 24, 0⟩ ⟨false, false⟩ ⟨false, false⟩, .mckPhaseTraining (.replicate 20 65536),
    .offsetCalibrationComplete 0 0 0 [(20, 0)]] = true := by decide +kernel
theorem smoke_platInstallProgram (b : List Byte) (h : 2097152 < b.length) : (Instr.platInstallProgram b).wf = false := by
  simp only [Instr.wf, decide_eq_false_iff_not]; omega
theorem smoke_frame : refusesAll [.baselineNakReceived .f2c 256, .frameBoundary { latch0 with ntc := .replicate 12 4096 },
    .frameBoundary { latch0 with vmot := .replicate 4 65536 }, .frameBoundary { latch0 with fbk := 256 },
    .frameBoundary { latch0 with readback := 256 }, .frameBoundary { latch0 with die := .replicate 2 40000 },
    .frameBoundary { latch0 with die := .replicate 2 (-40000) }, .windowOverrun 0 (2 ^ 32), .syncinEdge (2 ^ 64), .ppsInEdge (2 ^ 64)] = true := by
  decide +kernel
theorem smoke_ptp : refusesAll [.ptpAnnounceReceived { annW with lan := 2 }, .ptpAnnounceReceived { annW with domain := 256 },
    .ptpAnnounceReceived { annW with identity := [] }, .ptpAnnounceReceived { annW with prio1 := 256 },
    .ptpAnnounceReceived { annW with clockClass := 256 }, .ptpAnnounceReceived { annW with accuracy := 256 },
    .ptpAnnounceReceived { annW with variance := 65536 }, .ptpAnnounceReceived { annW with prio2 := 256 },
    .ptpAnnounceReceived { annW with grandmaster := [] }, .ptpAnnounceReceived { annW with steps := 65536 },
    .ptpSyncReceived 0 [] 0 0 0, .ptpSyncReceived 0 annW.identity 65536 0 0, .ptpSyncReceived 0 annW.identity 0 (2 ^ 64) 0,
    .ptpFollowUpReceived 0 [] 0 0 0, .ptpFollowUpReceived 0 annW.identity 65536 0 0, .ptpDelayReqSend (2 ^ 64),
    .ptpDelayRespReceived 0 [] 0 0 0, .ptpDelayRespReceived 0 annW.identity 65536 0 0, .ptpMasterTimeout 0 []] = true := by decide +kernel
theorem smoke_traverse : refusesAll [.traverseStake { tx0 with stake := 25 } 1 0, .traverseStake { tx0 with reach := 25 } 1 0,
    .traverseStake { tx0 with sense := .replicate 25 {} } 1 0, .traverseStake tx0 25 0, .traverseStake tx0 1 2,
    .traverseUnstakeAll { tx0 with stake := 254 }, .traversePing { tx0 with stake := 25 } false, .traverseSampleAt tx0 256 0 [],
    .traverseSampleAt tx0 0 256 [], .traverseSampleAt tx0 0 0 [65536], .traverseSampleAt tx0 0 0 (.replicate 25 0), .traverseReadCells tx0 256,
    .traverseReadTemps { tx0 with reach := 25 }, .traverseReadHousekeeping { tx0 with reach := 25 }, .traverseBalanceSet tx0 65536 [],
    .traverseBalanceSet tx0 0 [65536], .traverseBalanceSet tx0 0 (.replicate 25 0), .traverseQuiet tx0 65536 0, .traverseQuiet tx0 0 65536,
    .traverseOpenWireTest tx0 (2 ^ 17), .traverseBalSwitchTest tx0 65536, .traverseSetSleepThresholds tx0 65536 0 0 0 0,
    .traverseSetSleepThresholds tx0 0 65536 0 0 0, .traverseSetSleepThresholds tx0 0 0 32768 0 0, .traverseSetSleepThresholds tx0 0 0 0 (-32769) 0,
    .traverseSetSleepThresholds tx0 0 0 0 0 65536, .traverseSleep tx0 65536, .traverseCodeLoad tx0 (2 ^ 32) [0], .traverseCodeLoad tx0 0 [],
    .traverseCodeLoad tx0 0 (.replicate 49 0), .traverseCodeRun tx0 (2 ^ 32) 0 0, .traverseCodeRun tx0 0 (2 ^ 32) 0, .traverseCodeRun tx0 0 0 (2 ^ 32),
    .traverseReadReg tx0 256 0, .traverseReadReg tx0 0 256, .traverseWriteReg tx0 256 [], .traverseWriteReg tx0 0 [65536]] = true := by decide +kernel
theorem smoke_station : refusesAll [.trainReturned 0 false { back0 with badRecords := [24] }, .stationConversion 0 24 [] 0 false false,
    .stationConversion 0 0 (.replicate 17 0) 0 false false, .stationConversion 0 0 [65536] 0 false false, .stationConversion 0 0 [] 65536 false false,
    .stationTestEnd 0 24 true false [], .stationTestEnd 0 0 true false (.replicate 18 0), .stationTestEnd 0 0 true false [32768],
    .stationBalanceExpiry 0 24, .stationCodeEccError 0 24 false, .stationFrameTimeout 0 24, .stationSleepCheck 0 24 ⟨[], []⟩ ⟨[], []⟩,
    .stationSleepCheck 0 0 ⟨.replicate 17 0, []⟩ ⟨[], []⟩, .stationSleepCheck 0 0 ⟨[], []⟩ ⟨[65536], []⟩,
    .stationSleepCheck 0 0 ⟨[], .replicate 9 0⟩ ⟨[], []⟩, .stationSleepCheck 0 0 ⟨[], []⟩ ⟨[], [32768]⟩, .stationToneLost 0 24 ⟨true, true⟩,
    .stationToneQualified 0 24 true, .stationPowerUp 0 24 0 0 0, .stationPowerUp 0 0 (2 ^ 64) 0 0, .stationPowerUp 0 0 0 65536 0,
    .stationPowerUp 0 0 0 0 65536, .stationQuietWindowEnd 0 24] = true := by decide +kernel
theorem smoke_measure : refusesAll [.voltageRound ⟨true, none⟩ (2 ^ 64) [], .plumbCapture (2 ^ 64) [], .plumbCapture 0 [{ cap0 with den := 0 }],
    .plumbCapture 0 [{ cap0 with num := 2 }], .plumbCapture 0 (.replicate 5 cap0), .openWireRetest 0 0 0, .openWireRetest 0 25 0,
    .openWireRetest 0 1 17, .balSwitchTestSchedule 0 (some 0), .balSwitchTestSchedule 0 (some 25), .fastListLeave 0 0, .fastListLeave 0 25,
    .tempStaleTimeout 768, .learnedWriteComplete 16, .cellInvalidTimeout 1536, .tempPointsInvalidTimeout 0 0,
    .tempPointsInvalidTimeout 0 25] = true := by decide +kernel
theorem smoke_safety : refusesAll [.testPulseStart 0 65536, .testPulseCheck 0 65536, .contactorOperateTimeout 0 256, .contactorFeedbackChange 0 256,
    .weldPeerHoldExpiry 0 256, .permitReceived [], .safeTelegramReceived 0 (.replicate 1501 0) 0, .safeTelegramReceived 0 [] (2 ^ 64)] = true := by
  decide +kernel
theorem smoke_twin : refusesAll [.backsightFlitReceived 8 0 0 false true .idle, .backsightFlitReceived 0 256 0 false true .idle,
    .backsightFlitReceived 0 0 256 false true .idle, .backsightUp (2 ^ 64) 0 false false, .backsightUp 0 (2 ^ 64) false false,
    .sealBundleReceived { bundle0 with frame := 2 ^ 32 }, .sealBundleReceived { bundle0 with stamp := 2 ^ 64 },
    .sealBundleReceived { bundle0 with sfi := 65536 }, .sealBundleReceived { bundle0 with latch := { latch0 with fbk := 256 } },
    .joinBlockReceived 0 [], .joinComplete { join0 with frame := 2 ^ 32 }] = true := by decide +kernel
theorem smoke_field : refusesAll [.stageThermalTrip 0 4096, .ntcFault 0 4096, .axisPwmPeriod (.replicate 4 65536), .axisHomeEdge 0 true (2 ^ 64),
    .axTargetWrite 0 (2 ^ 31), .axTargetWrite 0 (-2 ^ 31 - 1), .axEnableWrite 0 2, .dmaBurst 0 16, .dmaResume 0 (2 ^ 29), .applyBlockComplete 16,
    .debugUnlock []] = true := by decide +kernel
theorem smoke_network : refusesAll [.ethernetFrameReceived 0 { eth0 with src := 2 ^ 48 } 0, .ethernetFrameReceived 0 { eth0 with vlan := some 4096 } 0,
    .ethernetFrameReceived 0 { eth0 with prp := some (65536, 0) } 0, .ethernetFrameReceived 0 { eth0 with prp := some (0, 16) } 0,
    .ethernetFrameReceived 0 eth0 (2 ^ 64), .arpRequest (2 ^ 32) 0 0, .arpRequest 0 (2 ^ 48) 0, .arpRequest 0 0 (2 ^ 32), .arpCacheExpiry (2 ^ 32),
    .icmpEcho (2 ^ 32), .prpNodeForget (2 ^ 48)] = true := by decide +kernel
/-- Every check of a request's fields refuses, and every host command makes them. -/
theorem smoke_host : refusesAll ([{ reqW with version := 256 }, { reqW with flags := 256 }, { reqW with keyId := 65536 }, { reqW with len := 65536 },
    { reqW with epoch := 2 ^ 32 }, { reqW with nonce := 2 ^ 64 }, { reqW with tag := 2 ^ 32 }, { reqW with payload := .replicate 1427 0 },
    { reqW with mac := [] }, { reqW with ip := 2 ^ 32 }, { reqW with port := 65536 }, { reqW with stamp := 2 ^ 64 }].map Instr.hostRead) = true ∧
    refusesAll ([Instr.hostWrite, .hostSubscribe, .eventsRead, .eventsFollow, .eventsUnfollow, .commandArm, .commandDisarm, .commandRelease,
      .commandReset, .commandLayUp, .commandDispatch, .commandSwap, .commandPlatStage, .commandPlatInstall, .commandKeyRevoke, .windowRead,
      .windowWrite, .windowErase, .windowFlush, .windowStatus, .windowResume, .windowAbandon, .updateHeader, .updateBody, .updateApply, .updateStart,
      .updateReject, .updateAbort, .updateStatus, .canTxLoad, .canTxAbort, .canTxStatus, .canRxRead, .canRxAck, .canControllerStatus].map
      (fun f => f req0)) = true := by decide +kernel
theorem smoke_can : refusesAll [.canFrameReceived 0 { frame0 with id := 2048 } false 0, .canFrameReceived 0 { frame0 with ide := true, id := 2 ^ 29 } false 0,
    .canFrameReceived 0 { frame0 with brs := true } false 0, .canFrameReceived 0 { frame0 with data := .replicate 12 0 } false 0,
    .canFrameReceived 0 { frame0 with fd := true, data := .replicate 9 0 } false 0, .canFrameReceived 0 frame0 false (2 ^ 64),
    .canTxComplete 0 (2 ^ 64), .canMapTimeout 0 32, .canTxMapSend 0 32, .canEnableWrite 0 2] = true := by decide +kernel
theorem smoke_writes : refusesAll [.objectWrite (2 ^ 32) 0 0, .syncPhaseWrite 65536, .syncinEnableWrite 2, .balEnableWrite 256, .probeEnableWrite 256,
    .bankSelectWrite 0 2, .updateEnableWrite 2, .bistEnableWrite 2, .contactLostClear 0 (2 ^ 32), .telegramDegradedClear (2 ^ 32),
    .baselineLostClear (2 ^ 32), .timeOverrunClear (2 ^ 32), .supplySwitchedClear (2 ^ 32), .resetreqStuckClear (2 ^ 32), .warnLatchedClear (2 ^ 32),
    .learnWriteFailClear (2 ^ 32), .fbQueueFullClear (2 ^ 32), .canStatusClear 0 (2 ^ 32)] = true := by decide +kernel

/-! The spec's worked examples. -/
/-- The ASCII string of the check values. -/
def check9 : List Byte := [0x31, 0x32, 0x33, 0x34, 0x35, 0x36, 0x37, 0x38, 0x39]
/-- R86, R113: check values. -/
theorem test_crcs : crc32 check9 = 0xCBF43926 ∧ crc16 check9 = 0x29B1 := by decide +kernel
/-- SHA-256 of "abc" (FIPS 180-4). -/
theorem test_sha256 : sha256 [0x61, 0x62, 0x63] = beBytes 32 0xBA7816BF8F01CFEA414140DE5DAE2223B00361A396177A9CB410FF61F20015AD := by decide +kernel
/-- R5: 3.27345 V and 6.6 V in steps of 100 µV. -/
theorem test_rounding : satU16 (roundDiv 327345 10) = 0x7FDF ∧ satU16 66000 = 0xFFFE ∧ roundDiv (-327345) 10 = -32735 := by decide +kernel
/-- R33, R39: at 20 kHz the boundary lies 3,210 cycles late: the module shortens, at most 50 cycles a period. -/
theorem test_slew : z.shorter (-3210) = -3210 ∧ z.shorter 6790 = -3210 ∧ z.maxAdjust = 50 := by decide +kernel
/-- R38: 45.0° at 16 kHz. -/
theorem test_phaseOffset : ({ z with grid.freq := 0 } : State).offsetCycles 450 = 1563 := by decide +kernel
/-- R233: the offsets at 16 kHz and at 32 kHz. -/
theorem test_carriers : allPhases.map (fun p => ({ z with grid.freq := 0 } : State).carrierOffset p) = [0, 6250, 1563, 7813, 3125, 9375, 4688, 10938] ∧
    allPhases.map (fun p => ({ z with grid.freq := 3 } : State).carrierOffset p) = [0, 3125, 781, 3906, 1563, 4688, 2344, 5469] := by decide +kernel
/-- R64: 14.54 mF for 60 mA and 100 mA; 14,541 µF is too little and 14,542 µF enough. -/
theorem test_holdup :
    let s (uf : Int) : State := { z with plat.recs := [parRec 0x0401 0xFF [(P.holdupUf.idx, 0, uf), (P.vio33LoadMa.idx, 0, 60), (P.vio18LoadMa.idx, 0, 100)]] }
    ((s 14541).checkHoldup == s 14541) = false ∧ ((s 14542).checkHoldup == s 14542) = true := by decide +kernel
/-- R482: MD5 busy in the intervals 10 to 13: phase 4. -/
theorem test_mckPhase : phaseFor 0b0011110000000000 = 4 := by decide +kernel
/-- R263: a code of +131,071 is 2^30. -/
theorem test_engineValue : engineValue 131071 = 2 ^ 30 ∧ engineValue (-131072) = -1073750016 := by decide +kernel
/-- R274: the derived coefficients of the example's phase loop. -/
theorem test_derived :
    let s : State := { z with plat.recs := [parRec 0x3801 0 [(P.fcPhase.idx, 0, 2000), (P.lPhase.idx, 0, 150), (P.vLegDesign.idx, 0, 1200000), (P.phaseIFs.idx, 0, 400000)]] }
    s.period = 10000 ∧ (List.range 7).map (s.coef 0 0 1) = [173961675, -163364268, 0, 0, 268435456, 0, 0] := by decide +kernel
/-- R274: the example's sample. -/
theorem test_compensator :
    let r := compensate [173961675, -163364268, 0, 0, 268435456, 0, 0] (2 ^ 23) 0 1052266988 { e1 := 2 ^ 22, u1 := 805306368 }
    r.2 = 808190104 ∧ r.1.e1 = 2 ^ 23 ∧ r.1.u1 = 808190104 ∧ z.compareOf 0 r.2 = 7527 := by decide +kernel
/-- R274: beyond the bound with a positive error the e-history takes 0. -/
theorem test_antiWindup : (compensate [173961675, -163364268, 0, 0, 268435456, 0, 0] (2 ^ 30) 0 1052266988 { e1 := 0, u1 := 1000000000 }).1.e1 = 0 ∧
    (compensate [173961675, -163364268, 0, 0, 268435456, 0, 0] (2 ^ 30) 0 1052266988 { e1 := 0, u1 := 1000000000 }).2 = 1052266988 := by decide +kernel
/-- R241: 600 A of discharge over four legs, L0 limited to 156 A. -/
theorem test_division :
    divide (fun l => F64.ofRatio (nth [2750, 2500, 2375, 2375] l.val 0) 10000) (fun l => nth [156000, 210000, 210000, 210000] l.val 0) allLegs (-600000) =
      ([(0, -156000), (1, -153104), (2, -145448), (3, -145448)], false) := by decide +kernel
/-- R382: the transfer record of the example, but for its type, code, RCRC and MARK. -/
theorem test_recordBytes :
    (FbRecord.headBody ⟨0x0401, 1, 0, 0xFFFF, 4312, 5020, [], 1, 0x064F2A9C13E07D40, 1234, 3, 15000000250, .active, .running, 0xD687⟩) =
      [0x10, 0x00, 0x01, 0x04, 0x00, 0x01, 0xD2, 0x04, 0x00, 0x03, 0xFA, 0x00, 0x87, 0x93, 0x03, 0x00, 0x40, 0x7D, 0xE0, 0x13, 0x9C, 0x2A, 0x4F, 0x06,
       0x01, 0x00, 0xFF, 0xFF, 0xD8, 0x10, 0x00, 0x00, 0x9C, 0x13, 0x00, 0x00, 0x07, 0x00, 0x87, 0xD6] := by decide +kernel
/-- R418: the payload of a request for 600 A of discharge, and a payload of a wrong length. The example writes C0 for the first
byte of the target; by R3 -600,000 is 0xFFF6D840 (log 250). -/
theorem test_dispatchPayload :
    leSigned (slice 8 4 [0x10, 0, 0, 0, 0, 0x0F, 0, 0, 0x40, 0xD8, 0xF6, 0xFF, 0, 0, 0, 0]) = -600000 ∧
    (z.dispatchCommand [0x10, 0, 0, 0, 0, 0x0F, 0, 0, 0xC0, 0xD8, 0xF6, 0xFF, 0, 0, 0]).1 = 8 := by decide +kernel
/-- A controller whose three buffers are PENDING. -/
def threeFrames (b0 : Nat) : Can :=
  { tx := #v[{ st := 1, frame := ⟨true, false, false, b0, []⟩ }, { st := 1, frame := ⟨false, false, false, 0x246, []⟩ },
             { st := 1, frame := ⟨false, false, false, 0x123, []⟩ }] }
/-- R427: base 0x123 wins against base 0x246, extended 0x18FF5040 and extended 0x048D1234; by number buffer 0 goes first. -/
theorem test_arbitration : (threeFrames 0x18FF5040).choice false = some 2 ∧ (threeFrames 0x18FF5040).choice true = some 0 ∧
    (threeFrames 0x048D1234).choice false = some 2 ∧ arbKey ⟨true, false, false, 0x048D1234, []⟩ < arbKey ⟨false, false, false, 0x246, []⟩ ∧
    arbKey ⟨false, false, false, 0x246, []⟩ < arbKey ⟨true, false, false, 0x18FF5040, []⟩ := by decide +kernel
/-- R448: ADD of D0 07 00 00 to 10 27 00 00 and INSERT of AA 55, on a small image; COPY under FULL is malformed. -/
theorem test_blockOperations :
    let s : State := { z with store := Memory.program [] (slotBase 0) [0x10, 0x27, 0x00, 0x00] }
    let b : List Byte := [2, 0, 0, 0, 0, 4, 0, 0xD0, 0x07, 0, 0, 3, 2, 0, 0xAA, 0x55] ++ List.replicate 4080 0
    s.runOps false 4 6 b 4096 0 0 = some [0xE0, 0x2E, 0x00, 0x00, 0xAA, 0x55] ∧ s.runOps true 4 6 b 4096 0 0 = none ∧
    s.runOps false 4 5 b 4096 0 0 = none := by decide +kernel
/-- The first commands after reset: POWER_ON_RELEASE enters BOOT on VMAIN; a brown-out returns to OFF. -/
theorem test_powerOn : (match step { z with pending := [.powerOnRelease ⟨5000, 0⟩, .brownOut ⟨3000, 0⟩] } with
    | .next t => t.mode == .boot && t.supply.sel == 0 && t.pending == [.brownOut ⟨3000, 0⟩] && (match step t with
      | .next u => u.mode == .off && u.pending.isEmpty
      | _ => false)
    | _ => false) = true := by decide +kernel
/-- R57: 4.49 V on the higher input releases nothing. -/
theorem test_powerOnLow : (match step { z with pending := [.powerOnRelease ⟨4490, 4490⟩] } with
    | .next t => t.mode == .off
    | _ => false) = true := by decide +kernel
/-- R475: the example under it. -/
theorem test_rail_power : inputPower 9500 600 = 10206 ∧ inputCurrent 10206 4500 = 2268 := by decide
/-- R491: 117 °C at the lid's limit, and 3.68 K/W at 70 °C. -/
theorem test_cooling : junctionTemp false 1050 6000 = 1170 ∧ coolingNeed 700 = 368 := by decide
/-- R495: the balls of leg L2. -/
theorem test_leg2_balls : [Pin.tv 2 false false false, .tv 2 true true true, .pwm 4 false, .desat 5, .pwmen 2, .md 8, .md 11, .mck 2, .ntc 4].map
    (fun p => p.ball.name) = ["A9", "B12", "D9", "E6", "E11", "A25", "B18", "C19", "H21"] := by decide +kernel
/-- R497: 198 field-die and 66 core-die signals, each on a ball of its own that no supply net holds. -/
theorem test_signal_balls : fieldPins.length = 198 ∧ corePins.length = 66 ∧ (allPins.map (fun p => p.ball.row * 32 + p.ball.col)).Nodup ∧
    allPins.all (fun p => supplyNet p.ball == .gnd) = true := by decide +kernel

/-! Witnesses that no evaluation gives: opaque values of Config, and sets too long to compute. -/
theorem ones_and (b : Byte) : Memory.erased &&& b = b := by
  show 255#8 &&& b = b
  exact BitVec.allOnes_and
theorem readBytes_program (bs : List Byte) (a : Nat) : Memory.readBytes (Memory.program [] a bs) a bs.length = bs := by
  have g : ∀ n k : Nat, n + k = bs.length → Memory.readBytes (Memory.program [] a bs) (a + k) n = bs.drop k := by
    intro n
    induction n with
    | zero => intro k h; rw [List.drop_eq_nil_of_le (by omega)]; rfl
    | succ n ih =>
      intro k h
      have hk : k < bs.length := by omega
      rw [Memory.readBytes, Nat.add_assoc, ih (k + 1) (by omega), Memory.read_program_in bs [] a k hk rfl, List.drop_eq_getElem_cons hk]
      congr 1
      exact ones_and _
  simpa using g bs.length 0 (by omega)
theorem readBytes_beyond (bs : List Byte) (a b : Nat) (h : a + bs.length ≤ b) : ∀ n : Nat, ∀ c : Nat, b ≤ c →
    Memory.readBytes (Memory.program [] a bs) c n = List.replicate n 0xFF
  | 0, _, _ => rfl
  | n + 1, c, hc => by
    rw [Memory.readBytes, Memory.read_program_other bs [] a c rfl (by omega), readBytes_beyond bs a b h n (c + 1) (by omega)]; rfl
theorem crc32Bits_lt : ∀ k c : Nat, c < 2 ^ 32 → crc32Bits k c < 2 ^ 32
  | 0, _, h => h
  | k + 1, c, h => by
    rw [crc32Bits]
    refine crc32Bits_lt k _ ?_
    split
    · exact Nat.xor_lt_two_pow (by omega) (by decide)
    · omega
theorem crc32_lt (bs : List Byte) : crc32 bs < 2 ^ 32 := by
  have g : ∀ (bs : List Byte) (c : Nat), c < 2 ^ 32 → bs.foldl (fun c b => crc32Bits 8 (c ^^^ b.toNat)) c < 2 ^ 32 := by
    intro bs
    induction bs with
    | nil => exact fun c h => h
    | cons b t ih => exact fun c h => ih _ (crc32Bits_lt 8 _ (Nat.xor_lt_two_pow h (by have := b.isLt; omega)))
  exact Nat.xor_lt_two_pow (g bs _ (by decide)) (by decide)
theorem leNat_leBytes : ∀ k n : Nat, leNat (leBytes k n) = n % 256 ^ k
  | 0, n => by simp [leBytes, leNat]; omega
  | k + 1, n => by
    rw [leBytes, leNat, leNat_leBytes k, BitVec.toNat_ofNat, show 256 ^ (k + 1) = 256 * 256 ^ k by rw [Nat.pow_succ, Nat.mul_comm], Nat.mod_mul]
theorem leBytes_length : ∀ k n : Nat, (leBytes k n).length = k
  | 0, _ => rfl
  | k + 1, n => by rw [leBytes, List.length_cons, leBytes_length k]
/-- A field that lies behind a known prefix. -/
theorem fieldAt_behind (a t : List Byte) (n v : Nat) (h : v < 256 ^ n) : fieldAt a.length n (a ++ leBytes n v ++ t) = v := by
  rw [fieldAt, slice, List.append_assoc, List.drop_left, List.take_left' (leBytes_length n v), leNat_leBytes, Nat.mod_eq_of_lt h]
theorem withCrc_take (a : List Byte) (n : Nat) (h : a.length = n) : (withCrc a).take n = a := by rw [withCrc, ← h, List.take_left]
theorem withCrc_crc (a : List Byte) (n : Nat) (h : a.length = n) : fieldAt n 4 (withCrc a) = crc32 ((withCrc a).take n) := by
  rw [withCrc_take a n h]
  have := fieldAt_behind a [] 4 (crc32 a) (crc32_lt a)
  rw [List.append_nil, h] at this
  exact this
/-- The body of a full set of learned values with all its fields 0. -/
def setBody : List Byte := [0x4C, 0x45, 0x52, 0x4E, 1, 0, 0, 0] ++ List.replicate (fullLen - 16) 0
def setBytes : List Byte := withCrc setBody ++ learnMark
theorem setBody_length : setBody.length = fullLen - 8 := by
  rw [setBody, List.length_append, List.length_replicate]; rfl
theorem setBytes_length : setBytes.length = fullLen := by
  rw [setBytes, withCrc, List.length_append, List.length_append, setBody_length, leBytes_length]; rfl
theorem setBytes_valid : validSet (Memory.program [] (fullBase 0) setBytes) (fullBase 0) 0 fullLen = some setBytes := by
  have h : Memory.readBytes (Memory.program [] (fullBase 0) setBytes) (fullBase 0) fullLen = setBytes := by
    have := readBytes_program setBytes (fullBase 0)
    rwa [setBytes_length] at this
  have ht : setBytes.take (fullLen - 8) = setBody := by
    rw [setBytes, withCrc, List.append_assoc, List.take_left' setBody_length]
  have hc : fieldAt (fullLen - 8) 4 setBytes = crc32 setBody := by
    rw [← setBody_length]; exact fieldAt_behind setBody learnMark 4 _ (crc32_lt _)
  have hm : slice (fullLen - 4) 4 setBytes = learnMark := by
    have : (withCrc setBody).length = fullLen - 4 := by rw [withCrc, List.length_append, setBody_length, leBytes_length]; rfl
    rw [slice, setBytes, ← this, List.drop_left]; rfl
  have hf : fieldAt 0 4 setBytes = 0x4E52454C ∧ fieldAt 4 2 setBytes = 1 ∧ fieldAt 6 1 setBytes = 0 := by
    rw [setBytes, withCrc]; generalize crc32 setBody = c; rw [setBody]; generalize List.replicate (fullLen - 16) (0 : Byte) = t
    simp [fieldAt, slice, leNat]
  simp only [validSet, h, ht, hc, hm, hf, and_self, if_true]
theorem erased_invalid (kind len b : Nat) (h : fullBase 0 + setBytes.length ≤ b) (hl : 4 ≤ len) :
    validSet (Memory.program [] (fullBase 0) setBytes) b kind len = none := by
  obtain ⟨n, rfl⟩ : ∃ n, len = n + 4 := ⟨len - 4, by omega⟩
  have e : fieldAt 0 4 (Memory.readBytes (Memory.program [] (fullBase 0) setBytes) b (n + 4)) = 0xFFFFFFFF := by
    rw [readBytes_beyond setBytes (fullBase 0) b h (n + 4) b (Nat.le_refl _)]
    simp [fieldAt, slice, List.take_replicate, leNat]
  simp only [validSet, e]
  exact if_neg (fun h => by exact absurd h.1 (by decide))
theorem learnedSet_of (s : State) (hs : s.store = Memory.program [] (fullBase 0) setBytes) (hr : s.plat.recs = []) :
    s.fullSet 0 = some setBytes ∧ s.fullSet 1 = none ∧ s.shortSet (genOf setBytes) = none := by
  have hb : ∀ b, fullBase 0 + 448 * 4096 ≤ b → fullBase 0 + setBytes.length ≤ b := by
    intro b h
    have : setBytes.length ≤ 448 * 4096 := by rw [setBytes_length]; decide +kernel
    exact Nat.le_trans (Nat.add_le_add_left this _) h
  refine ⟨?_, ?_, ?_⟩
  · have hk : fieldAt 32 4 setBytes = modelKey [] := by
      have : fieldAt 32 4 setBytes = 0 := by
        have hr : List.replicate (fullLen - 16) (0 : Byte) = List.replicate 28 0 ++ List.replicate (fullLen - 44) 0 := by
          rw [List.replicate_append_replicate]; exact congrArg (fun n => List.replicate n (0 : Byte)) (by decide +kernel : fullLen - 16 = 28 + (fullLen - 44))
        rw [setBytes, withCrc]; generalize crc32 setBody = c; rw [setBody, hr]; generalize List.replicate (fullLen - 44) (0 : Byte) = t
        simp [fieldAt, slice, leNat, List.replicate]
      rw [this]; decide +kernel
    rw [State.fullSet, hs, setBytes_valid, hr]
    exact if_pos hk
  · rw [State.fullSet, hs, erased_invalid 0 fullLen (fullBase 1) (hb _ (by decide +kernel)) (by decide +kernel)]
  · simp only [State.shortSet, hs, erased_invalid 1 shortLen (shortBase 0) (hb _ (by decide +kernel)) (by decide +kernel),
      erased_invalid 1 shortLen (shortBase 1) (hb _ (by decide +kernel)) (by decide +kernel)]
theorem witness_LearnedSet : ∃ (a : List Byte) (s : State), s.mode = .staking ∧ s.start.learnedRead = false ∧ s.fullSet 0 = some a ∧
    s.fullSet 1 = none ∧ s.shortSet (genOf a) = none :=
  have h (m : List Host.Cell) : ({ z with mode := .staking, store := m } : State).store = m ∧ ({ z with mode := .staking, store := m } : State).plat.recs = [] ∧
      ({ z with mode := .staking, store := m } : State).mode = .staking ∧ ({ z with mode := .staking, store := m } : State).start.learnedRead = false :=
    ⟨rfl, rfl, rfl, rfl⟩
  have k := h (Memory.program [] (fullBase 0) setBytes)
  ⟨setBytes, _, k.2.2.1, k.2.2.2, learnedSet_of _ k.1 k.2.1⟩
/-- A staged block that holds no operation, with its CRC. -/
def emptyBlock : List Byte := withCrc (List.replicate 4092 0)
theorem emptyBlock_length : emptyBlock.length = 4096 := by rw [emptyBlock, withCrc, List.length_append, List.length_replicate, leBytes_length]
theorem emptyBlock_runs (s : State) (full : Bool) (a b c : Nat) : s.runOps full a b emptyBlock 4096 0 c = some [] := by
  have h0 : fieldAt 0 1 emptyBlock = 0 := by
    rw [emptyBlock, withCrc]; generalize crc32 _ = c
    rw [show List.replicate 4092 (0 : Byte) = [0] ++ List.replicate 4091 0 from rfl]; generalize List.replicate 4091 (0 : Byte) = t
    simp [fieldAt, slice, leNat]
  have h1 : slice 0 4092 emptyBlock = List.replicate 4092 0 := by
    rw [slice, List.drop_zero]; exact withCrc_take _ 4092 List.length_replicate
  have h2 : (List.replicate 4092 (0 : Byte)).all (fun x => x == 0) = true := by rw [List.all_replicate]; rfl
  rw [show 4096 = 4095 + 1 from rfl, State.runOps, if_neg (by decide)]
  simp only [h0, if_true, Nat.sub_zero, h1, h2]
theorem emptyBlock_staged (s : State) (hs : s.store = Memory.program [] (stagingBase + 4096) emptyBlock) (hb : s.upd.block = 0) :
    s.stagedBlock s.upd.block = emptyBlock := by
  have := readBytes_program emptyBlock (stagingBase + 4096)
  rw [emptyBlock_length] at this
  rw [State.stagedBlock, hs, hb, Nat.zero_mul, Nat.add_zero, this]
theorem witness_ApplyBlock : ∃ (out : List Byte) (s : State), s.upd.session = 3 ∧ blockOk (s.stagedBlock s.upd.block) = true ∧
    s.runOps (fieldAt 33 1 s.upd.header == 1) (fieldAt 24 4 (s.headerCopy s.upd.slot)) s.resultLen (s.stagedBlock s.upd.block) 4096 0 s.upd.applied = some out ∧
    s.upd.abortDue = false ∧ 4096 * (s.upd.block + 1) < s.bodyLen ∧ s.upd.enable = true := by
  have h (m : List Host.Cell) : ∃ s : State, s.store = m ∧ s.upd.block = 0 ∧ s.upd.session = 3 ∧ s.upd.abortDue = false ∧ 4096 * (s.upd.block + 1) < s.bodyLen ∧
      s.upd.enable = true :=
    ⟨{ z with upd.session := 3, upd.header := List.replicate 20 0 ++ [0, 32, 0, 0], store := m }, rfl, rfl, rfl, rfl, (by decide +kernel : 4096 < 8192), rfl⟩
  obtain ⟨s, h1, h2, h3, h4, h5, h6⟩ := h (Memory.program [] (stagingBase + 4096) emptyBlock)
  have hb := emptyBlock_staged s h1 h2
  refine ⟨[], s, h3, ?_, ?_, h4, h5, h6⟩
  · rw [hb, blockOk, beq_iff_eq]
    exact withCrc_crc _ 4092 List.length_replicate
  · rw [hb]
    exact emptyBlock_runs _ _ _ _ _
/-! Conditional witnesses: what they need of an opaque value of Config, or of a whole plat copy, is a premise. -/
theorem witness_PlatBody (h : PlatHeader) (body : List Byte) (hl : body.length = h.bodyLen)
    (hb : (bodyResult (fun id => (State.reset.object id).isSome) h body).code = 0) :
    ∃ (c : Nat) (rest : List Nat) (g : PlatHeader) (s : State), s.mode = .plat ∧ s.plat.candidates = c :: rest ∧ s.plat.headers.toList.getD c none = some g ∧
      (bodyResult (fun id => (State.reset.object id).isSome) g (Memory.readBytes s.plat.flash (platBase c + 96) g.bodyLen)).code = 0 := by
  have k (m : List Host.Cell) : ∃ s : State, s.mode = .plat ∧ s.plat.candidates = [0] ∧ s.plat.headers.toList.getD 0 none = some h ∧ s.plat.flash = m :=
    ⟨{ z with mode := .plat, plat.candidates := [0], plat.headers := #v[some h, none], plat.flash := m }, rfl, rfl, rfl, rfl⟩
  obtain ⟨s, h1, h2, h3, h4⟩ := k (Memory.program [] (platBase 0 + 96) body)
  exact ⟨0, [], h, s, h1, h2, h3, by rw [h4, ← hl, readBytes_program]; exact hb⟩
theorem witness_DebugUnlock (h : Config.ed25519 key0 (Config.challenge 0 0 ++ leBytes 4 0) [] = true) :
    ∃ (sig : List Byte) (s : State), s.fuses.lifecycle = 2 ∧ s.bist.attempts < 3 ∧ s.bist.debugOpen = false ∧ s.mode = .surveyed ∧
      s.par P.debugAllowed = 1 ∧ s.unlockOk sig = true := by
  have k : ∃ s : State, s.fuses.lifecycle = 2 ∧ s.bist.attempts < 3 ∧ s.bist.debugOpen = false ∧ s.mode = .surveyed ∧ s.par P.debugAllowed = 1 ∧
      s.updateKey 0 = some key0 ∧ s.start.powerCycles = 0 ∧ s.bist.challenges = 0 ∧ s.fuses.serial = 0 :=
    ⟨{ z with mode := .surveyed, fuses.lifecycle := 2, fuses.updateKeys := vmod z.fuses.updateKeys 0 (fun _ => some key0),
              plat.recs := [parRec P.debugAllowed.basic 0xFF [(P.debugAllowed.idx, 0, 1)]] }, by decide +kernel⟩
  obtain ⟨s, h1, h2, h3, h4, h5, h6, h7, h8, h9⟩ := k
  exact ⟨[], s, h1, h2, h3, h4, h5, by simp [State.unlockOk, h6, h7, h8, h9, h]⟩
/-- A full update header of one body block, but for its signature. -/
def updHead : List Byte :=
  leBytes 4 0x544C4455 ++ leBytes 2 1 ++ leBytes 2 256 ++ leBytes 2 0x9640 ++ leBytes 2 1 ++ leBytes 4 0xFFFFFFFF ++ leBytes 4 0 ++ leBytes 4 4096 ++
  leBytes 4 4096 ++ leBytes 2 0 ++ leBytes 2 0 ++ [1, 1] ++ List.replicate 158 0
def updSig : List Byte := List.replicate 64 0
abbrev updState : State :=
  { keyed .surveyed with fuses.updateKeys := vmod z.fuses.updateKeys 0 (fun _ => some key0)
                         su.port := vmod z.su.port 0 (fun q => { q with kind := 1, mb := 64, up := true }) }
theorem witness_UpdateHeader (h : Config.ed25519 key0 updHead updSig = true) :
    ∃ (r : HostReq) (s u : State), s.accepts 6 r u ∧ fieldAt 0 1 r.payload = 0 ∧ 8 ≤ r.payload.length ∧ u.inStates runtimeStates = true ∧
      u.upd.session ≠ 3 ∧ u.upd.session ≠ 4 ∧ u.upd.reply = none ∧ (u.portOf 8192).isSome = true ∧ fieldAt 4 4 r.payload = 0 ∧
      u.updHeaderResult (r.payload.drop 8) = 0 := by
  refine ⟨signed 6 0 (List.replicate 8 0 ++ updHead ++ updSig) updState, updState, checked updState, signed_accepts _ _ _ _ (by decide +kernel),
    by decide +kernel, by decide +kernel, by decide +kernel, by decide +kernel, by decide +kernel, by decide +kernel, by decide +kernel, by decide +kernel, ?_⟩
  have hp : (signed 6 0 (List.replicate 8 0 ++ updHead ++ updSig) updState).payload.drop 8 = updHead ++ updSig := by decide +kernel
  have hc : (checked updState).headerCheck (updHead ++ updSig) = 0 := by
    have e1 : headerFieldsBad (updHead ++ updSig) = false := by decide +kernel
    have e2 : ¬ (fieldAt 8 2 (updHead ++ updSig) ≠ 0x9640 ∨ fieldAt 10 2 (updHead ++ updSig) ≠ 1) := by decide +kernel
    have e3 : (checked updState).updateKey (fieldAt 28 2 (updHead ++ updSig)) = some key0 := by decide +kernel
    have e4 : (updHead ++ updSig).take 192 = updHead := by decide +kernel
    have e5 : slice 192 64 (updHead ++ updSig) = updSig := by decide +kernel
    rw [State.headerCheck, e1, if_neg (by decide), if_neg e2, e3, e4, e5]
    exact if_pos h
  have d : (fieldAt 33 1 (updHead ++ updSig) == 1) = true ∧ ¬ fieldAt 12 4 (updHead ++ updSig) < (match (checked updState).plat.header with
      | some p => p.imageMin
      | none => 0) ∧ ¬ ((checked updState).par P.updAllowDowngrade = 0 ∧ fieldAt 12 4 (updHead ++ updSig) < (checked updState).start.imageVersion) ∧
      (checked updState).upd.trial = false := by decide +kernel
  obtain ⟨d1, d2, d3, d4⟩ := d
  rw [hp, State.updHeaderResult, hc]
  simp only [d1, d4, if_neg d3]
  decide
theorem witness_StagedPlat (b : State) (hb : b.stagedResult = 0) :
    ∃ (r : HostReq) (s u : State), s.accepts 4 r u ∧ fieldAt 0 1 r.payload = 0x31 ∧ u.mode = .surveyed ∧ u.plat.recovery = false ∧
      u.par P.platInstallEnable = 1 ∧ u.stagedResult = 0 ∧ u.start.learnedRead = false := by
  have k (m : List Host.Cell) (v : Nat) (hs : Vector (Option Nat) 2) : ∃ s : State, fit 4 0 [0x31, 0, 0, 0] s = true ∧ (checked s).mode = .surveyed ∧
      (checked s).plat.recovery = false ∧ (checked s).par P.platInstallEnable = 1 ∧ (checked s).start.learnedRead = false ∧
      (checked s).store = m ∧ (checked s).start.imageVersion = v ∧ (checked s).plat.serials = hs :=
    ⟨{ keyed .surveyed with store := m, start.imageVersion := v, plat.serials := hs,
                            plat.recs := [parRec P.platInstallEnable.basic 0xFF [(P.platInstallEnable.idx, 0, 1)]] },
      rfl, rfl, rfl, rfl, rfl, rfl, rfl, rfl⟩
  obtain ⟨s, h1, h2, h3, h4, h5, h6, h7, h8⟩ := k b.store b.start.imageVersion b.plat.serials
  refine ⟨signed 4 0 [0x31, 0, 0, 0] s, s, checked s, signed_accepts _ _ _ _ h1, rfl, h2, h3, h4, ?_, h5⟩
  simp only [State.stagedResult, State.stagedHeader, h6, h7, h8] at hb ⊢
  exact hb

/-! The premises of each statement, clause by clause. -/
theorem witness_StepRunsFront :
    (∃ (s : State), s.pending = []) :=
  ⟨{ z with pending := [] }, by decide +kernel⟩
theorem witness_ResetsEnterBoot :
    (∃ (v : SupplyMv) (s : State), s.mode = .off ∧ s.ret.dieHold = false ∧ s.supply.refclkLost = false ∧ 4500 ≤ max v.vmain v.vback) ∧
    (∃ (s : State), s.mode ≠ .off ∧ s.mode ≠ .laidUp ∧ s.start.lastGasp = false) ∧
    (∃ (s : State), s.start.lastGasp = true) ∧
    (∃ (s : State), s.resetReq.qualifying = true ∧ s.resetReq.high = false ∧ s.resetReq.armed = true ∧ s.mode ≠ .off ∧ s.mode ≠ .laidUp ∧ s.layup.step = 0
      ∧ s.start.lastGasp = false) ∧
    (∃ (s : State), s.start.lastGasp = true) ∧
    (∃ (s : State), s.supply.refclkLost = true) ∧
    (∃ (s : State), s.mode = .laidUp) ∧
    (∃ (leg : Leg) (s : State), s.mode = .laidUp) ∧
    (∃ (s : State), s.mode = .laidUp ∧ s.ret.timer ≠ 0) ∧
    (∃ (s : State), s.mode = .laidUp ∧ s.ret.timer = 0) :=
  ⟨⟨(⟨4500, 0⟩ : SupplyMv), { z with mode := .off, ret := { z.ret with dieHold := false }, supply := { z.supply with refclkLost := false } }, by
     decide +kernel⟩,
   ⟨{ z with mode := .surveyed, start := { z.start with lastGasp := false } }, by decide +kernel⟩,
   ⟨{ z with start := { z.start with lastGasp := true } }, by decide +kernel⟩,
   ⟨{ z with resetReq := { z.resetReq with qualifying := true, high := false, armed := true }, mode := .surveyed, layup := { z.layup with step := 0 }, start := { z.start with lastGasp := false } },
     by decide +kernel⟩,
   ⟨{ z with start := { z.start with lastGasp := true } }, by decide +kernel⟩,
   ⟨{ z with supply := { z.supply with refclkLost := true } }, by decide +kernel⟩,
   ⟨{ z with mode := .laidUp }, by decide +kernel⟩,
   ⟨(0 : Leg), { z with mode := .laidUp }, by decide +kernel⟩,
   ⟨{ z with mode := .laidUp, ret := { z.ret with timer := 1 } }, by decide +kernel⟩,
   ⟨{ z with mode := .laidUp, ret := { z.ret with timer := 0 } }, by decide +kernel⟩⟩
theorem witness_PowerFailures :
    (∃ (v : SupplyMv) (s : State), max v.vmain v.vback < 3900 ∧ (s.mode ≠ .off ∨ s.supply.refclkLost = true ∨ s.ret.dieHold = true)) ∧
    (∃ (s : State), s.mode ≠ .off ∧ s.mode ≠ .laidUp) ∧
    (∃ (v : SupplyMv) (s : State), s.mode ≠ .off ∧ s.mode ≠ .laidUp ∧ s.start.lastGasp = false ∧ v.vmain < 4200 ∧ v.vback < 4200) ∧
    (∃ (v : SupplyMv) (s : State), (4200 ≤ v.vmain ∨ 4200 ≤ v.vback ∨ s.mode = .off ∨ s.mode = .laidUp ∨ s.start.lastGasp = true)) ∧
    (∃ (s : State), s.mode = .surveyed ∧ s.layup.step = 2) :=
  ⟨⟨(⟨3899, 0⟩ : SupplyMv), { z with mode := .surveyed }, by decide +kernel⟩,
   ⟨{ z with mode := .surveyed }, by decide +kernel⟩,
   ⟨(⟨4199, 4199⟩ : SupplyMv), { z with mode := .surveyed, start := { z.start with lastGasp := false } }, by decide +kernel⟩,
   ⟨(⟨5000, 5000⟩ : SupplyMv), z, by decide +kernel⟩,
   ⟨{ z with mode := .surveyed, layup := { z.layup with step := 2 } }, by decide +kernel⟩⟩
theorem witness_SupplySelection :
    (∃ (v : SupplyMv) (s : State), s.mode ≠ .off ∧ s.mode ≠ .laidUp ∧ s.supply.sel = 0 ∧ v.vmain < 4350) ∧
    (∃ (v : SupplyMv) (s : State), s.mode ≠ .off ∧ s.mode ≠ .laidUp ∧ s.supply.sel = 1 ∧ 4600 ≤ v.vmain) ∧
    (∃ (v : SupplyMv) (s : State), s.mode ≠ .off ∧ s.mode ≠ .laidUp ∧ s.supply.sel = 1 ∧ v.vback < 4350) ∧
    (∃ (v : SupplyMv) (s : State), s.mode ≠ .off ∧ s.mode ≠ .laidUp ∧ s.supply.sel = 2) ∧
    (∃ (v : SupplyMv) (s : State), s.mode = .off ∧ (s.supply.refclkLost = true ∨ s.ret.dieHold = true) ∧ s.supply.sel = 2 ∧ 4350 ≤ v.vmain) :=
  ⟨⟨(⟨4349, 5000⟩ : SupplyMv), { z with mode := .surveyed, supply := { z.supply with sel := 0 } }, by decide +kernel⟩,
   ⟨(⟨4600, 5000⟩ : SupplyMv), { z with mode := .surveyed, supply := { z.supply with sel := 1 } }, by decide +kernel⟩,
   ⟨(⟨0, 4349⟩ : SupplyMv), { z with mode := .surveyed, supply := { z.supply with sel := 1 } }, by decide +kernel⟩,
   ⟨(⟨4350, 0⟩ : SupplyMv), { z with mode := .surveyed, supply := { z.supply with sel := 2 } }, by decide +kernel⟩,
   ⟨(⟨4400, 0⟩ : SupplyMv), { z with mode := .off, supply := { z.supply with refclkLost := true, sel := 2 } }, by decide +kernel⟩⟩
theorem witness_RailsAndResetPin :
    (∃ (s : State), s.alwaysOn = true ∧ s.resetReq.high = true ∧ s.resetReq.episode = false) ∧
    (∃ (s : State), s.resetReq.episode = true) ∧
    (∃ (s : State), s.alwaysOn = true ∧ s.resetReq.high = false ∧ s.resetReq.episode = false) ∧
    (∃ (s : State), s.resetReq.episode = true) ∧
    (∃ (s : State), s.mode ≠ .off ∧ s.mode ≠ .laidUp ∧ s.resetReq.high = true ∧ s.resetReq.episode = true) ∧
    (∃ (s : State), s.alwaysOn = true ∧ (s.mode = .off ∨ s.mode = .laidUp) ∧ s.resetReq.high = true ∧ s.resetReq.episode = true) :=
  ⟨⟨{ z with resetReq := { z.resetReq with high := true, episode := false }, mode := .surveyed }, by decide +kernel⟩,
   ⟨{ z with resetReq := { z.resetReq with episode := true } }, by decide +kernel⟩,
   ⟨{ z with resetReq := { z.resetReq with high := false, episode := false }, mode := .surveyed }, by decide +kernel⟩,
   ⟨{ z with resetReq := { z.resetReq with episode := true } }, by decide +kernel⟩,
   ⟨{ z with mode := .surveyed, resetReq := { z.resetReq with high := true, episode := true } }, by decide +kernel⟩,
   ⟨{ z with mode := .laidUp, resetReq := { z.resetReq with high := true, episode := true } }, by decide +kernel⟩⟩
theorem witness_StartupSteps :
    (∃ (failed : Nat) (s : State), s.mode = .boot ∧ s.start.imageOk = true ∧ s.start.bistPassed = false ∧ s.start.bistFailed = 0 ∧ failed < 32) ∧
    (∃ (jedec : Nat) (again : Nat) (a : ReadTry) (b : ReadTry) (s : State), s.mode = .plat ∧ s.installReady = false ∧ s.plat.candidates = [] ∧ (badJedec
      jedec = true ∧ badJedec again = true ∨ readLost a = true ∧ readLost b = true)) ∧
    (∃ (jedec : Nat) (again : Nat) (a : ReadTry) (b : ReadTry) (s : State), s.mode = .plat ∧ s.installReady = false ∧ s.plat.candidates = [] ∧ (badJedec
      jedec = false ∨ badJedec again = false) ∧ readLost a = false ∧ readLost b = true ∧ headerResult s.start.imageVersion (Memory.readBytes s.plat.flash
      0 96) = 0) ∧
    (∃ (s : State), (s.mode = .plat ∨ s.mode = .load ∨ s.mode = .staking ∨ (s.mode = .boot ∧ s.start.noImage = false))) ∧
    (∃ (busy : Vector Nat 20) (s : State), s.mode = .load) ∧
    (∃ (s : State), s.mode = .load ∧ s.linkUp = true ∧ s.base.enginesLoaded = true ∧ s.phasesTrained = true ∧ (∀ l : Leg, s.populated l = true → s.role ≠
      .standby → s.ring[l.val].available = true → s.ring[l.val].loaded = true)) ∧
    (∃ (s : State), s.mode = .staking ∧ (∀ l : Leg, s.legResolved l = true ∧ s.legReady l = true) ∧ (∃ l : Leg, s.ring[l.val].available = true) ∧
      s.start.learnedRead = true) ∧
    (∃ (s : State), s.mode = .staking ∧ (∀ l : Leg, s.legResolved l = true) ∧ (∀ l : Leg, s.ring[l.val].available = false)) ∧
    (∃ (s : State) (l : Leg), s.mode = .load ∧ s.linkUp = true ∧ s.base.enginesLoaded = true ∧ s.phasesTrained = true ∧ (∀ l : Leg, s.populated l = true →
      s.role ≠ .standby → s.ring[l.val].available = true → s.ring[l.val].loaded = true) ∧ s.role ≠ .standby ∧ s.populated l = true ∧
      s.ring[l.val].available = true) :=
  ⟨⟨0, { z with mode := .boot, start := { z.start with imageOk := true, bistPassed := false, bistFailed := 0 } }, by decide +kernel⟩,
   ⟨0, 0, (⟨false, false⟩ : ReadTry), (⟨false, false⟩ : ReadTry), { z with mode := .plat, plat := { z.plat with candidates := [] } }, by decide +kernel⟩,
   ⟨1, 1, (⟨false, false⟩ : ReadTry), (⟨true, true⟩ : ReadTry),
     { z with mode := .plat, plat := { z.plat with candidates := [], flash := Memory.writeBytes [] 0 (withCrc (leBytes 4 0x54414C50 ++ [1, 0, 96, 0, 0x40, 0x96, 1, 0] ++ leBytes 4 1 ++ leBytes 4 16 ++ leBytes 4 1 ++ leBytes 4 0 ++ leBytes 4 1 ++ List.replicate 60 0)) }, start := { z.start with imageVersion := 1 } },
     by decide +kernel⟩,
   ⟨{ z with mode := .plat }, by decide +kernel⟩,
   ⟨(Vector.replicate 20 0 : Vector Nat 20), { z with mode := .load }, by decide +kernel⟩,
   ⟨{ z with mode := .load, base := { z.base with laneF2c := 15, laneC2f := 15, enginesLoaded := true }, start := { z.start with mckPhase := Vector.replicate 20 3 } },
     by decide +kernel⟩,
   ⟨{ z with mode := .staking, start := { z.start with learnedRead := true, firstTemps := Vector.replicate 4 true, firstClosure := Vector.replicate 4 true, offsetsDone := Vector.replicate 4 true }, ring := (vmod (z.ring) 0 (fun x0 => { x0 with available := true })) },
     by decide +kernel⟩,
   ⟨{ z with mode := .staking }, by decide +kernel⟩,
   ⟨{ z with mode := .load, base := { z.base with laneF2c := 15, laneC2f := 15, enginesLoaded := true }, role := .active, ring := (vmod (vmod (z.ring) ((0 : Leg)) (fun x0 => { x0 with available := true })) 0 (fun x0 => { x0 with available := true, loaded := true })), start := { z.start with mckPhase := Vector.replicate 20 3 }, plat := { z.plat with recs := [⟨0x1001 + 0x100 * ((0 : Leg)).val, 0xFF, false, []⟩, ⟨0x1001, 0xFF, false, []⟩] } },
     (0 : Leg), by decide +kernel⟩⟩
theorem witness_PlatAndImage :
    (∃ (back : List Byte) (s : State) (e : InstallEntry), s.mode = .plat ∧ s.governing = some e ∧ e.ready = true ∧ s.stagedHeader.serial = e.serial ∧
      s.stagedHeader.bodyHash.take 12 = e.hash) ∧
    (∃ (back : List Byte) (s : State) (e : InstallEntry), s.mode = .plat ∧ s.governing = some e ∧ e.ready = true ∧ s.stagedHeader.serial ≠ e.serial) ∧
    (∃ (c : Nat) (rest : List Nat) (h : PlatHeader) (read : ReadTry) (s : State), s.mode = .plat ∧ s.plat.candidates = c :: rest ∧
      s.plat.headers.toList.getD c none = some h ∧ readLost read = true ∧ (rest = [] ∨ h.noFallback = true)) ∧
    (∃ (pa : PortProbe) (pb : PortProbe) (fault : Nat) (s : State), s.mode = .boot ∧ s.start.imageOk = false ∧ s.start.noImage = false) :=
  ⟨⟨([] : List Byte),
     { z with mode := .plat, store := Memory.writeBytes [] (13304 * 4096) (withCrc (leBytes 4 0x4C4E5449 ++ [1, 0, 0, 0, 1, 0, 0, 0] ++ leBytes 4 0xFFFFFFFF ++ List.replicate 12 0xFF)) },
     (⟨13304, 1, true, 0, 0, 0xFFFFFFFF, List.replicate 12 0xFF⟩ : InstallEntry), by decide +kernel⟩,
   ⟨([] : List Byte),
     { z with mode := .plat, store := Memory.writeBytes [] (13304 * 4096) (withCrc (leBytes 4 0x4C4E5449 ++ [1, 0, 0, 0, 1, 0, 0, 0] ++ leBytes 4 7 ++ List.replicate 12 0xFF)) },
     (⟨13304, 1, true, 0, 0, 7, List.replicate 12 0xFF⟩ : InstallEntry), by decide +kernel⟩,
   ⟨0, ([] : List Nat), (header0 : PlatHeader), (⟨true, true⟩ : ReadTry),
     { z with mode := .plat, plat := { z.plat with candidates := [0], headers := #v[some header0, none] } }, by decide +kernel⟩,
   ⟨(probe0 : PortProbe), (probe0 : PortProbe), 0, { z with mode := .boot, start := { z.start with imageOk := false, noImage := false } }, by
     decide +kernel⟩⟩
theorem witness_SelfTestRuns :
    (∃ (s : State), s.bistRuns = true ∧ s.time.frame % 20 = 13 ∧ s.bist.inSlice = false ∧ s.slotSkipped false = false ∧ s.bist.slice ≠ 511) ∧
    (∃ (s : State), s.bistRuns = true ∧ s.time.frame % 20 = 13 ∧ s.bist.inSlice = false ∧ s.slotSkipped false = false ∧ s.bist.slice = 511) ∧
    (∃ (s : State), s.bistRuns = true ∧ s.time.frame % 20 = 13 ∧ s.bist.inSlice = false ∧ s.slotSkipped false = false ∧ s.bist.retest = false) ∧
    (∃ (s : State) (ok : Bool), s.bistRuns = true ∧ s.time.frame % 20 = 13 ∧ s.bist.inSlice = false) ∧
    (∃ (s : State), s.bist.keysValid = false ∧ s.bist.keyFault = false ∧ s.bist.debugOpen = false ∧ s.host.held = []) ∧
    (∃ (s : State), s.bist.keysValid = false ∧ s.bist.keyFault = false ∧ s.bist.debugOpen = false ∧ s.host.held = [] ∧ s.bist.rederiveFailed = false) ∧
    (∃ (s : State), s.bist.keysValid = false ∧ s.bist.keyFault = false ∧ s.bist.debugOpen = false ∧ s.host.held = [] ∧ s.bist.rederiveFailed = true) ∧
    (∃ (s : State), s.bist.run = 1 ∧ s.bist.late = false ∧ s.parN P.passLimit * 1000 < s.fb.opMs - s.bist.passStart) ∧
    (∃ (sig : List Byte) (s : State), s.fuses.lifecycle = 2 ∧ s.bist.attempts < 3 ∧ s.bist.debugOpen = false ∧ (s.mode = .staking ∨ s.mode = .load ∨
      s.mode = .armed ∨ s.mode = .running ∨ s.mode = .stopping)) ∧
    (∃ (sig : List Byte) (s : State), (s.fuses.lifecycle ≠ 2 ∨ 3 ≤ s.bist.attempts)) :=
  ⟨⟨{ z with mode := .surveyed, bist := { z.bist with inSlice := false }, time := { z.time with frame := 13 } }, by decide +kernel⟩,
   ⟨{ z with mode := .surveyed, bist := { z.bist with inSlice := false, slice := 511 }, time := { z.time with frame := 13 } }, by decide +kernel⟩,
   ⟨{ z with mode := .surveyed, bist := { z.bist with inSlice := false, retest := false }, time := { z.time with frame := 13 } }, by decide +kernel⟩,
   ⟨{ z with mode := .surveyed, bist := { z.bist with inSlice := false }, time := { z.time with frame := 13 } }, false, by decide +kernel⟩,
   ⟨{ z with bist := { z.bist with keysValid := false, keyFault := false, debugOpen := false }, host := { z.host with held := [] } }, by decide +kernel⟩,
   ⟨{ z with bist := { z.bist with keysValid := false, keyFault := false, debugOpen := false, rederiveFailed := false }, host := { z.host with held := [] } },
     by decide +kernel⟩,
   ⟨{ z with bist := { z.bist with keysValid := false, keyFault := false, debugOpen := false, rederiveFailed := true }, host := { z.host with held := [] } },
     by decide +kernel⟩,
   ⟨{ z with bist := { z.bist with run := 1, late := false }, fb := { z.fb with opMs := 100000000 } }, by decide +kernel⟩,
   ⟨([] : List Byte), { z with fuses := { z.fuses with lifecycle := 2 }, bist := { z.bist with debugOpen := false }, mode := .staking }, by
     decide +kernel⟩,
   ⟨([] : List Byte), z, by decide +kernel⟩⟩
theorem witness_BaselineFlits :
    (∃ (dir : BaseDir) (s : State), s.linkRuns = true) ∧
    (∃ (f : Flit) (s : State), s.base.f2c.onWire = some f ∧ f.cls ≤ 4 ∧ f.seq = (s.base.f2c.lastRx + 1) % 256 ∧ s.base.laneF2c = 15) ∧
    (∃ (f : Flit) (s : State), s.base.c2f.onWire = some f ∧ f.cls ≤ 4 ∧ f.seq = (s.base.c2f.lastRx + 1) % 256 ∧ s.base.laneC2f = 15) ∧
    (∃ (f : Flit) (whole : Bool) (s : State), s.base.c2f.onWire = some f ∧ (whole = false ∨ s.base.laneC2f ≠ 15)) ∧
    (∃ (f : Flit) (rest : List Flit) (leg : Leg) (frame : Nat) (sample : Nat) (sp : SetPoint) (s : State), s.base.c2f.received = f :: rest ∧ f.payload =
      .setPoint leg frame sample sp ∧ f.cls = 1 ∧ s.base.fieldLost = false ∧ s.latchPassed f.tag = false) ∧
    (∃ (f : Flit) (rest : List Flit) (r : ReleaseAt) (s : State), s.base.c2f.received = f :: rest ∧ f.cls = 1 ∧ s.latchPassed f.tag = true) ∧
    (∃ (tag : Nat) (f : Nat) (k : Nat) (s : State), s.grid.latched = some (f, k) ∧ tag / 64 = f % 1024) ∧
    (∃ (dir : BaseDir) (s : State), s.linkRuns = true ∧ (s.dirOf dir).replaying = [] ∧ (s.dirOf dir).pending = []) ∧
    (∃ (dir : BaseDir) (s : State) (f : Flit), s.linkRuns = true ∧ (s.dirOf dir).replaying = [] ∧ (s.dirOf dir).pending = [f] ∧ f.cls ≤ 4) :=
  ⟨⟨(.f2c : BaseDir), { z with mode := .surveyed }, by decide +kernel⟩,
   ⟨(flit0 : Flit), { z with base := { z.base with f2c := { z.base.f2c with onWire := some ((flit0 : Flit)), lastRx := 255 }, laneF2c := 15 } }, by
     decide +kernel⟩,
   ⟨(flit0 : Flit), { z with base := { z.base with c2f := { z.base.c2f with onWire := some ((flit0 : Flit)), lastRx := 255 }, laneC2f := 15 } }, by
     decide +kernel⟩,
   ⟨(flit0 : Flit), false, { z with base := { z.base with c2f := { z.base.c2f with onWire := some ((flit0 : Flit)) } } }, by decide +kernel⟩,
   ⟨({ flit0 with cls := 1, payload := .setPoint 0 0 0 sp0 } : Flit), ([] : List Flit), (0 : Leg), 0, 0, (sp0 : SetPoint),
     { z with base := { z.base with c2f := { z.base.c2f with received := (({ flit0 with cls := 1, payload := .setPoint 0 0 0 sp0 } : Flit)) :: (([] : List Flit)) }, fieldLost := false } },
     by decide +kernel⟩,
   ⟨({ flit0 with cls := 1 } : Flit), ([] : List Flit), (.later : ReleaseAt),
     { z with base := { z.base with c2f := { z.base.c2f with received := [{ flit0 with cls := 1 }] } }, grid := { z.grid with latched := some (0, 0) } },
     by decide +kernel⟩,
   ⟨0, 0, 0, { z with grid := { z.grid with latched := some (0, 0) } }, by decide +kernel⟩,
   ⟨(.f2c : BaseDir), { z with mode := .surveyed }, by decide +kernel⟩,
   ⟨(.f2c : BaseDir), { z with mode := .surveyed, base := { z.base with f2c := { z.base.f2c with pending := [flit0] } } }, (flit0 : Flit), by
     decide +kernel⟩⟩
theorem witness_BaselineState :
    (∃ (s : State), s.linkRuns = true ∧ s.linkUp = true ∧ s.base.supervised = false) ∧
    (∃ (s : State), s.base.supervised = true ∧ s.base.fieldLost = false ∧ s.mode = .running) ∧
    (∃ (s : State), s.base.supervised = true ∧ s.base.fieldLost = false ∧ (s.mode = .surveyed ∨ s.mode = .armed ∨ s.mode = .faultHold)) ∧
    (∃ (s : State), s.base.ramping = true) ∧
    (∃ (s : State), s.base.supervised = true ∧ s.base.coreLost = false ∧ s.mode = .surveyed ∧ s.twinMember = false) ∧
    (∃ (s : State), s.base.coreLost = true ∧ s.mode = .stopping) ∧
    (∃ (s : State), s.mode = .surveyed ∧ s.twinMember = false) :=
  ⟨⟨{ z with mode := .surveyed, base := { z.base with laneF2c := 15, laneC2f := 15, supervised := false } }, by decide +kernel⟩,
   ⟨{ z with base := { z.base with supervised := true, fieldLost := false }, mode := .running }, by decide +kernel⟩,
   ⟨{ z with base := { z.base with supervised := true, fieldLost := false }, mode := .surveyed }, by decide +kernel⟩,
   ⟨{ z with base := { z.base with ramping := true } }, by decide +kernel⟩,
   ⟨{ z with base := { z.base with supervised := true, coreLost := false }, mode := .surveyed }, by decide +kernel⟩,
   ⟨{ z with base := { z.base with coreLost := true }, mode := .stopping }, by decide +kernel⟩,
   ⟨{ z with mode := .surveyed }, by decide +kernel⟩⟩
theorem witness_SampleGrid :
    (∃ (s : State), s.mode ≠ .off ∧ s.mode ≠ .laidUp ∧ s.grid.sample + 1 < s.nSamples) ∧
    (∃ (at' : Nat) (last : Nat) (s : State), (s.mode = .load ∨ s.mode = .staking ∨ s.mode = .surveyed ∨ s.mode = .armed ∨ s.mode = .running) ∧ s.role =
      .active ∧ s.grid.syncinLast = some last ∧ s.grid.syncinValid = false ∧ s.grid.syncinGood < 63) ∧
    (∃ (s : State), (s.mode = .load ∨ s.mode = .staking ∨ s.mode = .surveyed ∨ s.mode = .armed ∨ s.mode = .running ∨ s.mode = .stopping ∨ s.mode =
      .faultHold) ∧ s.secondNear = true) ∧
    (∃ (s : State), s.mode ≠ .off ∧ s.mode ≠ .laidUp ∧ s.grid.sample + 1 < s.nSamples ∧ s.grid.source = 2) :=
  ⟨⟨{ z with mode := .surveyed }, by decide +kernel⟩,
   ⟨0, 0, { z with mode := .load, role := .active, grid := { z.grid with syncinLast := some 0, syncinValid := false } }, by decide +kernel⟩,
   ⟨{ z with mode := .surveyed, time := { z.time with meridian := 249999999 }, grid := { z.grid with stamp := 249999999 } }, by decide +kernel⟩,
   ⟨{ z with mode := .surveyed, grid := { z.grid with source := 2 } }, by decide +kernel⟩⟩
theorem witness_PtpMessages :
    (∃ (a : Announce) (s : State), s.ptpRuns = true ∧ (a.domain : Int) = s.par P.ptpDomain ∧ a.steps < 255) ∧
    (∃ (lan : Fin 2) (m : List Byte) (q : Nat) (t2 : Nat) (c : Int) (s : State), s.ptpRuns = true ∧ s.net.ptp.lan = lan.val ∧ s.net.ptp.selected = some m) ∧
    (∃ (lan : Fin 2) (m : List Byte) (q : Nat) (t1 : Int) (c : Int) (t2 : Int) (c2 : Int) (s : State), s.ptpRuns = true ∧ s.net.ptp.lan = lan.val ∧
      s.net.ptp.selected = some m ∧ s.net.ptp.sync = some (q, t2, c2) ∧ s.net.ptp.upPath = none) ∧
    (∃ (lan : Fin 2) (m : List Byte) (q : Nat) (t1 : Int) (c : Int) (t2 : Int) (c2 : Int) (s : State) (up : Int), s.ptpRuns = true ∧ s.net.ptp.lan =
      lan.val ∧ s.net.ptp.selected = some m ∧ s.net.ptp.sync = some (q, t2, c2) ∧ s.net.ptp.upPath = some up ∧ s.net.ptp.upAge < 16) ∧
    (∃ (t3 : Nat) (s : State), s.ptpRuns = true ∧ s.net.ptp.selected.isSome = true) ∧
    (∃ (lan : Fin 2) (m : List Byte) (q : Nat) (t4 : Int) (c : Int) (t3 : Int) (s : State), s.ptpRuns = true ∧ s.net.ptp.lan = lan.val ∧
      s.net.ptp.selected = some m ∧ s.net.ptp.delayReq = some (q, t3)) ∧
    (∃ (s : State), s.ptpRuns = true) ∧
    (∃ (s : State), s.ptpRuns = true ∧ s.par P.ptpLan = 2 ∧ (bestMaster (1 - s.net.ptp.lan) s.net.ptp.masters).isSome = true) :=
  ⟨⟨(announce0 : Announce), { z with mode := .surveyed }, by decide +kernel⟩,
   ⟨(0 : Fin 2), ([] : List Byte), 0, 0, (0 : Int),
     { z with mode := .surveyed, net := { z.net with ptp := { z.net.ptp with lan := ((0 : Fin 2)).val, selected := some (([] : List Byte)) } } }, by
     decide +kernel⟩,
   ⟨(0 : Fin 2), ([] : List Byte), 0, (0 : Int), (0 : Int), (0 : Int), (0 : Int),
     { z with mode := .surveyed, net := { z.net with ptp := { z.net.ptp with lan := ((0 : Fin 2)).val, selected := some (([] : List Byte)), sync := some (0, ((0 : Int)), ((0 : Int))), upPath := none } } },
     by decide +kernel⟩,
   ⟨(0 : Fin 2), ([] : List Byte), 0, (0 : Int), (0 : Int), (0 : Int), (0 : Int),
     { z with mode := .surveyed, net := { z.net with ptp := { z.net.ptp with lan := ((0 : Fin 2)).val, selected := some (([] : List Byte)), sync := some (0, ((0 : Int)), ((0 : Int))), upPath := some 0 } } },
     0, by decide +kernel⟩,
   ⟨0, { z with mode := .surveyed, net := { z.net with ptp := { z.net.ptp with selected := some [] } } }, by decide +kernel⟩,
   ⟨(0 : Fin 2), ([] : List Byte), 0, (0 : Int), (0 : Int), (0 : Int),
     { z with mode := .surveyed, net := { z.net with ptp := { z.net.ptp with lan := ((0 : Fin 2)).val, selected := some (([] : List Byte)), delayReq := some (0, ((0 : Int))) } } },
     by decide +kernel⟩,
   ⟨{ z with mode := .surveyed }, by decide +kernel⟩,
   ⟨{ z with mode := .surveyed, net := { z.net with ptp := { z.net.ptp with masters := [{ announce0 with lan := 1 }] } }, plat := { z.plat with recs := [parRec P.ptpLan.basic 0xFF [(P.ptpLan.idx, 0, 2)]] } },
     by decide +kernel⟩⟩
theorem witness_FrameBegins :
    (∃ (s : State), s.grid.sample < s.nSamples) ∧
    (∃ (l : FieldLatch) (s : State), s.mode ≠ .off ∧ s.mode ≠ .laidUp ∧ s.start.lastGasp = true) ∧
    (∃ (l : FieldLatch) (s : State), s.mode ≠ .off ∧ s.mode ≠ .laidUp ∧ s.start.lastGasp = false) ∧
    (∃ (l : FieldLatch) (s : State), (s.mode = .off ∨ s.mode = .laidUp)) :=
  ⟨⟨z, by decide +kernel⟩,
   ⟨(latch0 : FieldLatch), { z with mode := .surveyed, start := { z.start with lastGasp := true } }, by decide +kernel⟩,
   ⟨(latch0 : FieldLatch), { z with mode := .surveyed, start := { z.start with lastGasp := false } }, by decide +kernel⟩,
   ⟨(latch0 : FieldLatch), { z with mode := .off }, by decide +kernel⟩⟩
theorem witness_WindowWork :
    (∃ (s : State), s.windowed = true) ∧
    (∃ (s : State), s.windowed = true ∧ s.base.coreLost = false ∧ s.role = .active ∧ s.base.inbox = []) ∧
    (∃ (s : State), s.safetyRuns = true) ∧
    (∃ (s : State), s.enginesRun = true ∧ s.win.now[2] = false ∧ s.twin.step.paired = false) ∧
    (∃ (s : State), s.windowed = true ∧ s.canMapApply.enginesRun = false) ∧
    (∃ (s : State), s.windowed = true ∧ s.canMapApply.enginesRun = true) ∧
    (∃ (s : State), s.windowed = true ∧ s.enginesRun = true) ∧
    (∃ (s : State), s.windowed = true ∧ s.enginesRun = false) ∧
    (∃ (s : State), s.windowed = true) :=
  ⟨⟨{ z with mode := .surveyed }, by decide +kernel⟩,
   ⟨{ z with mode := .surveyed, base := { z.base with coreLost := false, inbox := [] }, role := .active }, by decide +kernel⟩,
   ⟨{ z with mode := .surveyed }, by decide +kernel⟩,
   ⟨{ z with mode := .surveyed, win := { z.win with now := (vmod (z.win.now) 2 (fun x0 => false)) } }, by decide +kernel⟩,
   ⟨{ z with mode := .surveyed, base := { z.base with coreLost := true } }, by decide +kernel⟩,
   ⟨{ z with mode := .surveyed }, by decide +kernel⟩,
   ⟨{ z with mode := .surveyed }, by decide +kernel⟩,
   ⟨{ z with mode := .surveyed, base := { z.base with coreLost := true } }, by decide +kernel⟩,
   ⟨{ z with mode := .surveyed }, by decide +kernel⟩⟩
theorem witness_OverrunsAndDrains :
    (∃ (w : Fin 6) (us : Nat) (s : State), s.windowed = true ∧ s.win.now[w.val] = true) ∧
    (∃ (w : Fin 6) (us : Nat) (s : State), s.windowed = true ∧ s.win.now[w.val] = false ∧ 3 ≤ w.val ∧ s.win.since[w.val] < 10) ∧
    (∃ (w : Fin 6) (us : Nat) (s : State), s.windowed = true ∧ s.win.now[w.val] = false ∧ 3 ≤ w.val ∧ 10 ≤ s.win.since[w.val]) ∧
    (∃ (us : Nat) (s : State), s.windowed = true ∧ s.win.now[2] = false ∧ s.enginesRun = true ∧ s.win.since[2] < 10 ∧ s.win.w2Run < 8 ∧ s.twin.step.paired
      = false ∧ s.twinMember = false) ∧
    (∃ (us : Nat) (s : State), s.windowed = true ∧ s.win.now[0] = false ∧ s.win.now[1] = false ∧ s.win.safetyRun = 0 ∧ s.win.since[1] < 10) ∧
    (∃ (l : Leg) (s : State), (s.ring[l.val].due.any (fun d => d.cmd == 0x20)) = false) ∧
    (∃ (s : State), s.upd.session = 3 ∧ s.upd.enable = false) ∧
    (∃ (s : State), s.bist.run = 2 ∧ s.bist.inSlice = false) ∧
    (∃ (p : Fin 2) (s : State), s.probe[p.val].phase = .idle) ∧
    (∃ (i : Fin 4) (s : State), s.axis[i.val].st = .stopping ∧ s.axis[i.val].enable = false ∧ s.axis[i.val].v = 0) :=
  ⟨⟨(0 : Fin 6), 0, { z with mode := .surveyed, win := { z.win with now := (vmod (z.win.now) ((0 : Fin 6)) (fun x0 => true)) } }, by decide +kernel⟩,
   ⟨(3 : Fin 6), 0,
     { z with mode := .surveyed, win := { z.win with now := (vmod (z.win.now) ((3 : Fin 6)) (fun x0 => false)), since := (vmod (z.win.since) 3 (fun x0 => 9)) } },
     by decide +kernel⟩,
   ⟨(3 : Fin 6), 0,
     { z with mode := .surveyed, win := { z.win with now := (vmod (z.win.now) ((3 : Fin 6)) (fun x0 => false)), since := (vmod (z.win.since) 3 (fun x0 => 10)) } },
     by decide +kernel⟩,
   ⟨0,
     { z with mode := .surveyed, win := { z.win with now := (vmod (z.win.now) 2 (fun x0 => false)), since := (vmod (z.win.since) 2 (fun x0 => 9)), w2Run := 7 } },
     by decide +kernel⟩,
   ⟨0,
     { z with mode := .surveyed, win := { z.win with now := (vmod (vmod (z.win.now) 0 (fun x0 => false)) 1 (fun x0 => false)), safetyRun := 0, since := (vmod (z.win.since) 1 (fun x0 => 9)) } },
     by decide +kernel⟩,
   ⟨(0 : Leg), z, by decide +kernel⟩,
   ⟨{ z with upd := { z.upd with session := 3, enable := false } }, by decide +kernel⟩,
   ⟨{ z with bist := { z.bist with run := 2, inSlice := false } }, by decide +kernel⟩,
   ⟨(0 : Fin 2), { z with probe := (vmod (z.probe) ((0 : Fin 2)) (fun x0 => { x0 with phase := .idle })) }, by decide +kernel⟩,
   ⟨(0 : Fin 4), { z with axis := (vmod (z.axis) ((0 : Fin 4)) (fun x0 => { x0 with st := .stopping, enable := false, v := 0 })) }, by decide +kernel⟩⟩
theorem witness_VoltageRounds :
    (∃ (k : RoundKind) (tp : Nat) (ph : List Nat) (s : State), k.probe = none ∧ k.regular = true ∧ s.overlapsExtra tp = false) ∧
    (∃ (i : Fin 4) (e : Nat) (tp : Nat) (ph : List Nat) (s : State), s.edgeFor i tp = some e) ∧
    (∃ (tp : Nat) (ph : List Nat) (s : State), (s.overlapsExtra tp = true ∨ ∀ l : Leg, s.regularAt l tp = false)) ∧
    (∃ (i : Fin 4) (tp : Nat) (ph : List Nat) (s : State), s.edgeFor i tp = none) ∧
    (∃ (tp : Nat) (c : PlumbCap) (u : RoundInfo) (s : State), s.ring[0].unread = [u] ∧ u.tp = tp ∧ u.captured = false ∧ u.probe = none) ∧
    (∃ (k : RoundKind) (tp : Nat) (ph : List Nat) (s : State) (l : Leg), k.probe = none ∧ k.regular = true ∧ s.overlapsExtra tp = false ∧ s.measurable l =
      true ∧ s.regularAt l tp = true ∧ s.ring[l.val].unreadCount < 4) ∧
    (∃ (i : Fin 4) (e : Nat) (tp : Nat) (ph : List Nat) (s : State) (l : Leg), s.edgeFor i tp = some e ∧ s.measurable l = true ∧ s.ring[l.val].unreadCount
      < 4) :=
  ⟨⟨(⟨true, none⟩ : RoundKind), 0, ([] : List Nat), z, by decide +kernel⟩,
   ⟨(0 : Fin 4), z.plannedEdge 0, (z.plannedEdge 0 - 250000), ([] : List Nat),
     { z with probe := (vmod (z.probe) 0 (fun x0 => { x0 with phase := .committed })) }, by decide +kernel⟩,
   ⟨1000000, ([] : List Nat), { z with plat := { z.plat with recs := [parRec P.roundMs.basic 0xFF [(P.roundMs.idx, 0, 10)]] } }, by decide +kernel⟩,
   ⟨(0 : Fin 4), 0, ([] : List Nat), z, by decide +kernel⟩,
   ⟨0, (cap0 : PlumbCap), (round0 : RoundInfo), { z with ring := (vmod (z.ring) 0 (fun x0 => { x0 with unread := [round0] })) }, by decide +kernel⟩,
   ⟨(⟨true, none⟩ : RoundKind), 126250, ([] : List Nat),
     { z with ring := (vmod (z.ring) 0 (fun x0 => { x0 with mode := 0 })), mode := .surveyed, plat := { z.plat with recs := [⟨0x1001, 0xFF, false, []⟩] } },
     (0 : Leg), by decide +kernel⟩,
   ⟨(0 : Fin 4), z.plannedEdge 0, (z.plannedEdge 0 - 250000), ([] : List Nat),
     { z with probe := (vmod (z.probe) 0 (fun x0 => { x0 with phase := .committed })), ring := (vmod (z.ring) 0 (fun x0 => { x0 with mode := 0 })), mode := .surveyed, plat := { z.plat with recs := [⟨0x1001, 0xFF, false, []⟩] } },
     (0 : Leg), by decide +kernel⟩⟩
theorem witness_MeasurementTimers :
    (∃ (l : Leg) (s : State), s.diag[l.val].closureFail = true ∧ s.diag[l.val].holdExpired = false) ∧
    (∃ (l : Leg) (k : Nat) (line : Nat) (b : Bool) (s : State), bitAt (s.sdiagAt l k).openWires line = true ∧ s.role ≠ .standby ∧ s.endsInUse l = [b]) ∧
    (∃ (l : Leg) (k : Nat) (line : Nat) (s : State), bitAt (s.sdiagAt l k).openWires line = false) ∧
    (∃ (l : Leg) (b : Bool) (s : State), s.measurable l = true ∧ s.mode = .surveyed ∧ s.role ≠ .standby ∧ s.endsInUse l = [b]) ∧
    (∃ (s : State), s.role ≠ .standby) ∧
    (∃ (s : State), s.role ≠ .standby) ∧
    (∃ (l : Leg) (k : Nat) (s : State), (s.validTemps l k).any (fun t => s.nearThreshold l t) = false) ∧
    (∃ (s : State), (∀ l : Leg, s.mayBalance l = false ∧ s.diag[l.val].balancing = false)) ∧
    (∃ (b : Bool) (s : State), s.mayBalance 0 = true ∧ s.diag[0].draining = false ∧ s.phaseOver 0 = true ∧ s.endsInUse 0 = [b] ∧ s.role ≠ .standby ∧ (∀ l
      : Leg, l ≠ 0 → s.populated l = false ∧ s.diag[l.val].balancing = false)) ∧
    (∃ (l : Leg) (s : State), s.mayCalibrate l = true) ∧
    (∃ (l : Leg) (sum : Int) (n : Nat) (s : State), s.eleg[l.val].calRunning = true ∧ 0 < n ∧ s.eleg[l.val].offsetKnown = false) ∧
    (∃ (l : Leg) (s : State), s.eleg[l.val].rest = false ∧ (s.eleg[l.val].mean.abs).lt ((s.parF P.restC 0xFF 0 3).mul (s.oneC l)) = true) ∧
    (∃ (s : State) (l : Leg), s.role ≠ .standby ∧ s.measurable l = true ∧ s.endsInUse l ≠ []) ∧
    (∃ (s : State) (l : Leg) (k : Nat) (b : Bool), s.role ≠ .standby ∧ s.measurable l = true ∧ s.fastList l = [k] ∧ s.endsInUse l = [b] ∧ s.reaches l b k
      = true) :=
  ⟨⟨(0 : Leg), { z with diag := (vmod (z.diag) ((0 : Leg)) (fun x0 => { x0 with closureFail := true, holdExpired := false })) }, by decide +kernel⟩,
   ⟨(0 : Leg), 1, 0, false, { z with role := .active, sdiag := [(0, { openWires := 1 })] }, by decide +kernel⟩,
   ⟨(0 : Leg), 1, 0, z, by decide +kernel⟩,
   ⟨(0 : Leg), false,
     { z with mode := .surveyed, role := .active, ring := (vmod (z.ring) 0 (fun x0 => { x0 with mode := 0 })), plat := { z.plat with recs := [⟨0x1001, 0xFF, false, []⟩] } },
     by decide +kernel⟩,
   ⟨{ z with role := .active }, by decide +kernel⟩,
   ⟨{ z with role := .active }, by decide +kernel⟩,
   ⟨(0 : Leg), 0, z, by decide +kernel⟩,
   ⟨z, by decide +kernel⟩,
   ⟨false,
     { z with diag := (vmod (z.diag) 0 (fun x0 => { x0 with draining := false })), role := .active, mode := .surveyed, balEnable := 15, plat := { z.plat with recs := [⟨0x1001, 0xFF, false, []⟩, parRec P.balMode.basic 0 [(P.balMode.idx, 0, 1)]] } },
     by decide +kernel⟩,
   ⟨(0 : Leg), { z with mode := .surveyed, eleg := (vmod (z.eleg) 0 (fun x0 => { x0 with calNeeded := true })) }, by decide +kernel⟩,
   ⟨(0 : Leg), (0 : Int), 1, { z with eleg := (vmod (z.eleg) ((0 : Leg)) (fun x0 => { x0 with calRunning := true, offsetKnown := false })) }, by
     decide +kernel⟩,
   ⟨(0 : Leg),
     { z with eleg := (vmod (z.eleg) ((0 : Leg)) (fun x0 => { x0 with rest := false })), plat := { z.plat with recs := [parRec P.restC.basic 0xFF [(P.restC.idx, 0, 20)], parRec P.capNom.basic 0 [(P.capNom.idx, 0, 1000)]] } },
     by decide +kernel⟩,
   ⟨{ z with role := .active, ring := (vmod (z.ring) 0 (fun x0 => { x0 with mode := 0 })), mode := .surveyed, plat := { z.plat with recs := [⟨0x1001, 0xFF, false, []⟩] } },
     (0 : Leg), by decide +kernel⟩,
   ⟨{ z with role := .active, mode := .surveyed, ring := (vmod (z.ring) 0 (fun x0 => { x0 with mode := 0 })), sdiag := [(0, { fast := true })], plat := { z.plat with recs := [⟨0x1001, 0xFF, false, []⟩, parRec (P.stationCount 0).basic 0 [((P.stationCount 0).idx, 0, 1)]] } },
     (0 : Leg), 1, false, by decide +kernel⟩⟩
theorem witness_TraverseFramesSent :
    (∃ (x : RingTx) (next : Nat) (dir : Nat) (s : State), s.launches x 0x01 (leBytes 1 next ++ leBytes 1 dir)) ∧
    (∃ (x : RingTx) (s : State), s.launches x 0x02 []) ∧
    (∃ (x : RingTx) (turn : Bool) (s : State), s.launches x 0x03 (leBytes 1 (b2n turn))) ∧
    (∃ (x : RingTx) (round : Nat) (tag : Nat) (wait : List Nat) (s : State), s.launches x 0x10 (leBytes 1 round ++ [0] ++ leBytes 4 tag ++ (List.range
      24).flatMap (fun k => leBytes 2 (nth wait k 0)))) ∧
    (∃ (x : RingTx) (round : Nat) (s : State), s.launches x 0x11 (leBytes 1 round)) ∧
    (∃ (x : RingTx) (s : State), s.launches x 0x12 []) ∧
    (∃ (x : RingTx) (s : State), s.launches x 0x13 []) ∧
    (∃ (x : RingTx) (duration : Nat) (mask : List Nat) (s : State), s.launches x 0x20 (leBytes 2 duration ++ (List.range 24).flatMap (fun k => leBytes 2
      (nth mask k 0)))) ∧
    (∃ (x : RingTx) (start : Nat) (length : Nat) (s : State), s.launches x 0x21 (leBytes 2 start ++ leBytes 2 length)) ∧
    (∃ (x : RingTx) (wires : Nat) (s : State), s.launches x 0x30 (leBytes 4 wires)) ∧
    (∃ (x : RingTx) (mask : Nat) (s : State), s.launches x 0x31 (leBytes 2 mask)) ∧
    (∃ (x : RingTx) (ov : Nat) (uv : Nat) (ot : Int) (ut : Int) (period : Nat) (s : State), s.launches x 0x40 (leBytes 2 ov ++ leBytes 2 uv ++ leInt 2 ot
      ++ leInt 2 ut ++ leBytes 2 period)) ∧
    (∃ (x : RingTx) (key : Nat) (s : State), s.launches x 0x41 (leBytes 2 key)) ∧
    (∃ (x : RingTx) (addr : Nat) (data : List Byte) (s : State), s.launches x 0x50 (leBytes 4 addr ++ data) ∧ data.length ≤ 48) ∧
    (∃ (x : RingTx) (length : Nat) (crc : Nat) (version : Nat) (s : State), s.launches x 0x51 (leBytes 4 length ++ leBytes 4 crc ++ leBytes 4 version)) ∧
    (∃ (x : RingTx) (addr : Nat) (count : Nat) (s : State), s.launches x 0x60 (leBytes 2 addr ++ leBytes 1 count)) ∧
    (∃ (x : RingTx) (addr : Nat) (values : List Nat) (s : State), s.launches x 0x61 (leBytes 2 addr ++ leBytes 1 values.length ++ values.flatMap (leBytes
      2))) ∧
    (∃ (x : RingTx) (next : Nat) (dir : Nat) (s : State), s.mayLaunch x 0x01 (leBytes 1 next ++ leBytes 1 dir) = false) ∧
    (∃ (x : RingTx) (round : Nat) (s : State), s.mayLaunch x 0x11 (leBytes 1 round) = false) ∧
    (∃ (x : RingTx) (duration : Nat) (mask : List Nat) (s : State), s.mayLaunch x 0x20 (leBytes 2 duration ++ (List.range 24).flatMap (fun k => leBytes 2
      (nth mask k 0))) = false) ∧
    (∃ (x : RingTx) (length : Nat) (crc : Nat) (version : Nat) (s : State), s.mayLaunch x 0x51 (leBytes 4 length ++ leBytes 4 crc ++ leBytes 4 version) =
      false) ∧
    (∃ (x : RingTx) (addr : Nat) (values : List Nat) (s : State), s.mayLaunch x 0x61 (leBytes 2 addr ++ leBytes 1 values.length ++ values.flatMap (leBytes
      2)) = false) :=
  ⟨⟨({ tx0 with stake := 255 } : RingTx), 1, 0, { z with mode := .surveyed, plat := { z.plat with recs := [⟨0x1001, 0xFF, false, []⟩] } },
     by unfold State.launches; decide +kernel⟩,
   ⟨({ tx0 with stake := 0 } : RingTx), { z with mode := .surveyed, plat := { z.plat with recs := [⟨0x1001, 0xFF, false, []⟩] } },
     by unfold State.launches; decide +kernel⟩,
   ⟨({ tx0 with stake := 0 } : RingTx), false, { z with mode := .surveyed, plat := { z.plat with recs := [⟨0x1001, 0xFF, false, []⟩] } },
     by unfold State.launches; decide +kernel⟩,
   ⟨({ tx0 with stake := 0 } : RingTx), 0, 0, ([] : List Nat), { z with mode := .surveyed, plat := { z.plat with recs := [⟨0x1001, 0xFF, false, []⟩] } },
     by unfold State.launches; decide +kernel⟩,
   ⟨({ tx0 with stake := 0 } : RingTx), 0, { z with mode := .surveyed, plat := { z.plat with recs := [⟨0x1001, 0xFF, false, []⟩] } },
     by unfold State.launches; decide +kernel⟩,
   ⟨({ tx0 with stake := 0 } : RingTx), { z with mode := .surveyed, plat := { z.plat with recs := [⟨0x1001, 0xFF, false, []⟩] } },
     by unfold State.launches; decide +kernel⟩,
   ⟨({ tx0 with stake := 0 } : RingTx), { z with mode := .surveyed, plat := { z.plat with recs := [⟨0x1001, 0xFF, false, []⟩] } },
     by unfold State.launches; decide +kernel⟩,
   ⟨({ tx0 with stake := 0 } : RingTx), 0, ([] : List Nat), { z with mode := .surveyed, plat := { z.plat with recs := [⟨0x1001, 0xFF, false, []⟩] } },
     by unfold State.launches; decide +kernel⟩,
   ⟨({ tx0 with stake := 0 } : RingTx), 0, 0, { z with mode := .surveyed, plat := { z.plat with recs := [⟨0x1001, 0xFF, false, []⟩] } },
     by unfold State.launches; decide +kernel⟩,
   ⟨({ tx0 with stake := 1 } : RingTx), 0, { z with mode := .surveyed, plat := { z.plat with recs := [⟨0x1001, 0xFF, false, []⟩] } },
     by unfold State.launches; decide +kernel⟩,
   ⟨({ tx0 with stake := 1 } : RingTx), 0, { z with mode := .surveyed, plat := { z.plat with recs := [⟨0x1001, 0xFF, false, []⟩] } },
     by unfold State.launches; decide +kernel⟩,
   ⟨({ tx0 with stake := 1 } : RingTx), 0, 0, (0 : Int), (0 : Int), 1,
     { z with mode := .surveyed, plat := { z.plat with recs := [⟨0x1001, 0xFF, false, []⟩] } }, by unfold State.launches; decide +kernel⟩,
   ⟨({ tx0 with stake := 0 } : RingTx), 0xA55A, { z with mode := .surveyed, plat := { z.plat with recs := [⟨0x1001, 0xFF, false, []⟩] } },
     by unfold State.launches; decide +kernel⟩,
   ⟨({ tx0 with stake := 0 } : RingTx), 0, ([0] : List Byte), { z with mode := .surveyed, plat := { z.plat with recs := [⟨0x1001, 0xFF, false, []⟩] } },
     by unfold State.launches; decide +kernel⟩,
   ⟨({ tx0 with stake := 0 } : RingTx), 0, 0, 0, { z with mode := .surveyed, plat := { z.plat with recs := [⟨0x1001, 0xFF, false, []⟩] } },
     by unfold State.launches; decide +kernel⟩,
   ⟨({ tx0 with stake := 1 } : RingTx), 0, 1, { z with mode := .surveyed, plat := { z.plat with recs := [⟨0x1001, 0xFF, false, []⟩] } },
     by unfold State.launches; decide +kernel⟩,
   ⟨({ tx0 with stake := 1 } : RingTx), 0x10, ([0] : List Nat), { z with mode := .surveyed, plat := { z.plat with recs := [⟨0x1001, 0xFF, false, []⟩] } },
     by unfold State.launches; decide +kernel⟩,
   ⟨(tx0 : RingTx), 0, 0, z, by decide +kernel⟩,
   ⟨(tx0 : RingTx), 0, z, by decide +kernel⟩,
   ⟨(tx0 : RingTx), 0, ([] : List Nat), z, by decide +kernel⟩,
   ⟨(tx0 : RingTx), 0, 0, 0, z, by decide +kernel⟩,
   ⟨(tx0 : RingTx), 0, ([] : List Nat), z, by decide +kernel⟩⟩
theorem witness_TraverseStations :
    (∃ (st : Station) (h : Heard) (e : StationSense) (next : Nat), st.rxValid < 0xFFFF ∧ h.cmd ≠ 0x60 ∧ h.cmd ≠ 0x51 ∧ h.cmd ≠ 0x41) ∧
    (∃ (st : Station) (h : Heard) (e : StationSense) (next : Nat), st.rxValid < 0xFFFF ∧ h.cmd ≠ 0x60 ∧ h.cmd ≠ 0x51 ∧ h.cmd ≠ 0x41) ∧
    (∃ (st : Station) (h : Heard) (e : StationSense) (next : Nat), st.rxValid < 0xFFFF ∧ h.cmd ≠ 0x60 ∧ h.cmd ≠ 0x51 ∧ h.cmd ≠ 0x41) ∧
    (∃ (st : Station) (dir : Nat) (seq : Nat) (now : Nat) (fromB : Bool) (next : Nat) (e : StationSense), st.mode = 2 ∧ st.stake = 0xFF ∧ 1 ≤ next ∧ next
      ≤ 24 ∧ dir ≤ 1) ∧
    (∃ (st : Station) (h : Heard) (e : StationSense) (next : Nat), st.mode = 2 ∧ st.stake ≠ 0xFF ∧ h.cmd = 0x20 ∧ fieldAt 0 2 h.payload ≠ 0) ∧
    (∃ (st : Station) (h : Heard) (e : StationSense) (next : Nat) (t : Nat) (r : RingRec), st.mode = 2 ∧ st.stake ≠ 0xFF ∧ h.stake = st.stake ∧ withEffect
      h.cmd = true ∧ stakeFieldOk h.cmd h.stake = true ∧ payloadOk h.cmd h.stake h.payload = true ∧ st.lastCmd = some (h.cmd, h.seq, some r, t) ∧ h.now ≤
      t + 25000000) ∧
    (∃ (st : Station) (h : Heard) (e : StationSense) (next : Nat), st.mode = 2 ∧ st.stake ≠ 0xFF ∧ h.stake = st.stake ∧ h.cmd ≠ 0x01 ∧ (knownCmd h.cmd =
      false ∨ stakeFieldOk h.cmd h.stake = false ∨ payloadOk h.cmd h.stake h.payload = false)) ∧
    (∃ (st : Station) (h : Heard) (e : StationSense) (next : Nat), st.mode = 2 ∧ st.stake ≠ 0xFF ∧ h.cmd = 0x02) ∧
    (∃ (st : Station) (h : Heard) (e : StationSense) (next : Nat), st.mode = 2 ∧ st.stake ≠ 0xFF ∧ h.cmd = 0x02) ∧
    (∃ (st : Station) (h : Heard) (e : StationSense) (next : Nat), st.mode = 2 ∧ st.stake ≠ 0xFF ∧ h.cmd = 0x10) ∧
    (∃ (st : Station) (h : Heard) (e : StationSense) (next : Nat), st.mode = 2 ∧ st.stake ≠ 0xFF ∧ h.cmd = 0x21) ∧
    (∃ (st : Station) (h : Heard) (e : StationSense) (next : Nat), st.mode = 2 ∧ st.stake ≠ 0xFF ∧ h.cmd = 0x40) ∧
    (∃ (st : Station) (h : Heard) (e : StationSense) (next : Nat), st.mode = 2 ∧ st.stake ≠ 0xFF ∧ h.cmd = 0x40) ∧
    (∃ (st : Station) (h : Heard) (e : StationSense) (next : Nat), st.mode = 2 ∧ st.stake ≠ 0xFF ∧ h.cmd = 0x41) ∧
    (∃ (st : Station) (h : Heard) (e : StationSense) (next : Nat), st.mode = 2 ∧ st.stake ≠ 0xFF ∧ h.cmd = 0x30 ∧ st.testing = true) ∧
    (∃ (st : Station) (h : Heard) (e : StationSense) (next : Nat), st.mode = 2 ∧ st.stake ≠ 0xFF ∧ h.cmd = 0x11) ∧
    (∃ (st : Station) (h : Heard) (e : StationSense) (next : Nat), st.mode = 2 ∧ st.stake ≠ 0xFF ∧ h.cmd = 0x11) ∧
    (∃ (st : Station) (now : Nat), st.switchTest.running = none ∧ (st.openWire.running.isSome = true ∨ st.sleeping = true ∨ ∃ q, q ∈ st.quiets ∧ q.1 ≤ now
      ∧ now < q.2)) ∧
    (∃ (st : Station) (h : Heard), st.mode ≠ 2 ∧ fieldAt 0 4 h.payload ≠ 0) :=
  ⟨⟨({ rxValid := 0xFFFE } : Station), (heard0 : Heard), (({} : StationSense) : StationSense), 0, by decide +kernel⟩,
   ⟨({ rxValid := 0xFFFE } : Station), (heard0 : Heard), (({} : StationSense) : StationSense), 0, by decide +kernel⟩,
   ⟨({ rxValid := 0xFFFE } : Station), (heard0 : Heard), (({} : StationSense) : StationSense), 0, by decide +kernel⟩,
   ⟨({ mode := 2, stake := 0xFF } : Station), 1, 0, 0, false, 24, (({} : StationSense) : StationSense), by decide +kernel⟩,
   ⟨({ mode := 2, stake := 1 } : Station), ({ heard0 with cmd := 32, payload := [1, 0] } : Heard), (({} : StationSense) : StationSense), 0, by
     decide +kernel⟩,
   ⟨({ mode := 2, stake := 1, lastCmd := some (0x31, 0, some rec0, 0) } : Station), ({ heard0 with cmd := 0x31, payload := [0, 0], now := 25000000 } :
     Heard), (({} : StationSense) : StationSense), 0, 0, (rec0 : RingRec), by decide +kernel⟩,
   ⟨({ mode := 2, stake := 1 } : Station), ({ heard0 with cmd := 0x31 } : Heard), (({} : StationSense) : StationSense), 0, by decide +kernel⟩,
   ⟨({ mode := 2, stake := 1 } : Station), ({ heard0 with cmd := 2, payload := [] } : Heard), (({} : StationSense) : StationSense), 0, by decide +kernel⟩,
   ⟨({ mode := 2, stake := 1 } : Station), ({ heard0 with cmd := 2, payload := [] } : Heard), (({} : StationSense) : StationSense), 0, by decide +kernel⟩,
   ⟨({ mode := 2, stake := 1 } : Station), ({ heard0 with cmd := 0x10 } : Heard), (({} : StationSense) : StationSense), 0, by decide +kernel⟩,
   ⟨({ mode := 2, stake := 1 } : Station), ({ heard0 with cmd := 0x21 } : Heard), (({} : StationSense) : StationSense), 0, by decide +kernel⟩,
   ⟨({ mode := 2, stake := 1 } : Station), ({ heard0 with cmd := 64, payload := [] } : Heard), (({} : StationSense) : StationSense), 0, by decide +kernel⟩,
   ⟨({ mode := 2, stake := 1 } : Station), ({ heard0 with cmd := 64, payload := [] } : Heard), (({} : StationSense) : StationSense), 0, by decide +kernel⟩,
   ⟨({ mode := 2, stake := 1 } : Station), ({ heard0 with cmd := 65, payload := [] } : Heard), (({} : StationSense) : StationSense), 0, by decide +kernel⟩,
   ⟨({ mode := 2, stake := 1, openWire := { running := some 1 } } : Station), ({ heard0 with cmd := 0x30 } : Heard), (({} : StationSense) : StationSense),
     0, by decide +kernel⟩,
   ⟨({ mode := 2, stake := 1 } : Station), ({ heard0 with cmd := 17, payload := [] } : Heard), (({} : StationSense) : StationSense), 0, by decide +kernel⟩,
   ⟨({ mode := 2, stake := 1 } : Station), ({ heard0 with cmd := 17, payload := [] } : Heard), (({} : StationSense) : StationSense), 0, by decide +kernel⟩,
   ⟨({ sleeping := true } : Station), 0, by decide +kernel⟩,
   ⟨(({} : Station) : Station), ({ heard0 with payload := [1, 0, 0, 0] } : Heard), by decide +kernel⟩⟩
theorem witness_TrainsReturned :
    (∃ (leg : Leg) (b : Bool) (back : TrainBack) (s : State), s.role ≠ .standby ∧ s.ring[leg.val].flight[(endIx b).val] = none) ∧
    (∃ (leg : Leg) (b : Bool) (f : Flight) (r : RingRec) (back : TrainBack) (s : State), s.takesTrains leg ∧ s.ring[leg.val].flight[(endIx b).val] = some
      f ∧ back.badCommand = false ∧ back.badRecords = [] ∧ (f.cmd = 0x60 ∨ f.cmd = 0x61) ∧ 1 ≤ f.stake ∧ f.stake ≤ 24 ∧ f.records = [r] ∧ r.stake =
      f.stake ∧ r.status % 4 = 2 ∧ bitAt r.status 6 = false) ∧
    (∃ (leg : Leg) (b : Bool) (f : Flight) (back : TrainBack) (s : State), s.takesTrains leg ∧ s.ring[leg.val].flight[(endIx b).val] = some f ∧
      back.badCommand = true ∧ f.cmd = 0x60) ∧
    (∃ (leg : Leg) (b : Bool) (f : Flight) (back : TrainBack) (s : State), s.takesTrains leg ∧ s.ring[leg.val].flight[(endIx b).val] = some f ∧
      back.badCommand = true ∧ withEffect f.cmd = true ∧ f.cmd ≠ 0x40 ∧ f.retries < s.parN (P.retries leg.val)) ∧
    (∃ (leg : Leg) (b : Bool) (f : Flight) (s : State), s.takesTrains leg ∧ s.ring[leg.val].flight[(endIx b).val] = some f ∧ f.cmd = 0x12) ∧
    (∃ (leg : Leg) (b : Bool) (f : Flight) (back : TrainBack) (s : State), s.twinMember = false ∧ s.role ≠ .standby ∧ s.base.coreLost = true ∧
      s.ring[leg.val].flight[(endIx b).val] = some f) ∧
    (∃ (leg : Leg) (a : Arrival) (r : RingRec) (s : State), (a.flight.cmd = 0x60 ∨ a.flight.cmd = 0x61) ∧ a.taken = [(a.flight.stake, r)]) ∧
    (∃ (leg : Leg) (b : Bool) (f : Flight) (s : State), s.takesTrains leg ∧ s.ring[leg.val].flight[(endIx b).val] = some f ∧ f.cmd = 0x12 ∧
      s.ring[leg.val].mode = 0 ∧ 1 ≤ s.ring[leg.val].missRun[(endIx b).val]) :=
  ⟨⟨(0 : Leg), false, (back0 : TrainBack),
     { z with role := .active, ring := (vmod (z.ring) ((0 : Leg)) (fun x0 => { x0 with flight := (vmod (x0.flight) ((endIx false)) (fun x1 => none)) })) },
     by decide +kernel⟩,
   ⟨(0 : Leg), false, ({ flight0 with cmd := 0x60, stake := 24, records := [{ rec0 with stake := 24 }] } : Flight), ({ rec0 with stake := 24 } : RingRec),
     ({ back0 with badCommand := false, badRecords := [] } : TrainBack),
     { z with ring := (vmod (vmod (z.ring) ((0 : Leg)) (fun x0 => { x0 with flight := (vmod (x0.flight) ((endIx false)) (fun x1 => some (({ flight0 with cmd := 0x60, stake := 24, records := [{ rec0 with stake := 24 }] } : Flight)))) })) 0 (fun x0 => { x0 with flight := (vmod (x0.flight) 0 (fun x1 => some { flight0 with cmd := 0x60, stake := 24, records := [{ rec0 with stake := 24 }] })) })) },
     by unfold State.takesTrains; decide +kernel⟩,
   ⟨(0 : Leg), false, ({ flight0 with cmd := 0x60 } : Flight), ({ back0 with badCommand := true } : TrainBack),
     { z with ring := (vmod (z.ring) ((0 : Leg)) (fun x0 => { x0 with flight := (vmod (x0.flight) ((endIx false)) (fun x1 => some (({ flight0 with cmd := 0x60 } : Flight)))) })) },
     by unfold State.takesTrains; decide +kernel⟩,
   ⟨(0 : Leg), false, ({ flight0 with cmd := 0x61, retries := 1 } : Flight), ({ back0 with badCommand := true } : TrainBack),
     { z with ring := (vmod (vmod (z.ring) ((0 : Leg)) (fun x0 => { x0 with flight := (vmod (x0.flight) ((endIx false)) (fun x1 => some (({ flight0 with cmd := 0x61, retries := 1 } : Flight)))) })) 0 (fun x0 => { x0 with flight := (vmod (x0.flight) 0 (fun x1 => some { flight0 with cmd := 0x61, retries := 1 })) })), plat := { z.plat with recs := [parRec (P.retries 0).basic 0 [((P.retries 0).idx, 0, 2)]] } },
     by unfold State.takesTrains; decide +kernel⟩,
   ⟨(0 : Leg), false, ({ flight0 with cmd := 0x12 } : Flight),
     { z with ring := (vmod (z.ring) ((0 : Leg)) (fun x0 => { x0 with flight := (vmod (x0.flight) ((endIx false)) (fun x1 => some (({ flight0 with cmd := 0x12 } : Flight)))) })) },
     by unfold State.takesTrains; decide +kernel⟩,
   ⟨(0 : Leg), false, (flight0 : Flight), (back0 : TrainBack),
     { z with role := .active, base := { z.base with coreLost := true }, ring := (vmod (z.ring) ((0 : Leg)) (fun x0 => { x0 with flight := (vmod (x0.flight) ((endIx false)) (fun x1 => some ((flight0 : Flight)))) })) },
     by decide +kernel⟩,
   ⟨(0 : Leg), ({ arr0 with flight := { flight0 with cmd := 0x60 }, taken := [(1, rec0)] } : Arrival), (rec0 : RingRec), z, by decide +kernel⟩,
   ⟨(0 : Leg), false, ({ flight0 with cmd := 0x12 } : Flight),
     { z with ring := (vmod (vmod (z.ring) ((0 : Leg)) (fun x0 => { x0 with flight := (vmod (x0.flight) ((endIx false)) (fun x1 => some (({ flight0 with cmd := 0x12 } : Flight)))), mode := 0 })) 0 (fun x0 => { x0 with missRun := (vmod (x0.missRun) ((endIx false)) (fun x1 => 1)) })) },
     by unfold State.takesTrains; decide +kernel⟩⟩
theorem witness_StationEvents :
    (∃ (st : Station) (cells : List Nat) (v : Nat) (round : Nat) (tag : Nat) (wait : Nat) (late : Bool) (near : Bool), st.sampling = some (round, tag,
      wait)) ∧
    (∃ (x : StationTest) (sel : Nat) (aborted : Bool) (openWire : Bool) (values : List Int), x.running = some sel) ∧
    (∃ (st : Station) (a : Nat × Nat) (b : Nat × Nat), st.quiets = [a, b] ∧ a.2 < b.2) ∧
    (∃ (leg : Leg) (pos : Nat) (uid : Nat) (hw : Nat) (rom : Nat) (s : State), pos < s.ring[leg.val].chain.length) :=
  ⟨⟨({ sampling := some (0, 0, 0) } : Station), ([] : List Nat), 0, 0, 0, 0, false, false, by decide +kernel⟩,
   ⟨({ running := some 0 } : StationTest), 0, false, false, ([] : List Int), by decide +kernel⟩,
   ⟨({ quiets := [(0, 1), (0, 2)] } : Station), ((0, 1) : Nat × Nat), ((0, 2) : Nat × Nat), by decide +kernel⟩,
   ⟨(0 : Leg), 0, 0, 0, 0, { z with ring := (vmod (z.ring) 0 (fun x0 => { x0 with chain := [{}] })) }, by decide +kernel⟩⟩
theorem witness_RingModes :
    (∃ (leg : Leg) (s : State), s.ring[leg.val].mode = 0 ∧ s.ring[leg.val].toneGone = false ∧ s.role ≠ .standby) ∧
    (∃ (leg : Leg) (s : State), (s.ring[leg.val].mode ≠ 0 ∨ s.ring[leg.val].toneGone = true)) ∧
    (∃ (leg : Leg) (s : State), s.ring[leg.val].splitDue = true) ∧
    (∃ (x : RingTx) (cmd : Nat) (p : List Byte) (s : State), s.ring[x.leg.val].splitWait = true) ∧
    (∃ (leg : Leg) (s : State), s.ring[leg.val].mode = 1 ∧ s.ring[leg.val].splitWait = true ∧ s.twinMember = false ∧ s.role ≠ .standby ∧
      s.ring[leg.val].chain.any (fun st => st.turnsFrom false) = true ∧ s.ring[leg.val].chain.any (fun st => st.turnsFrom true) = true) ∧
    (∃ (leg : Leg) (s : State), s.ring[leg.val].mode = 1 ∧ s.ring[leg.val].splitWait = true ∧ s.twinMember = false ∧ s.role ≠ .standby ∧
      s.ring[leg.val].chain.any (fun st => st.turnsFrom false) = false ∧ s.ring[leg.val].chain.any (fun st => st.turnsFrom true) = false) ∧
    (∃ (leg : Leg) (k : Nat) (s : State), s.ring[leg.val].mode = 1 ∧ 0 < k ∧ s.ring[leg.val].seek[0] = k + 1 ∧ s.role ≠ .standby) ∧
    (∃ (leg : Leg) (k : Nat) (s : State), s.ring[leg.val].mode = 1 ∧ 0 < k ∧ k < s.stations leg ∧ s.ring[leg.val].seek[1] = k ∧ s.role ≠ .standby) ∧
    (∃ (leg : Leg) (a : Arrival) (s : State), a.flight.cmd = 0x03 ∧ a.fate = .missing ∧ a.taken = [] ∧ s.ring[leg.val].stakeStep = 0 ∧ (s.seekReflect leg
      a.fromB a.flight.stake false).ring[leg.val].stakeStep = 0) ∧
    (∃ (leg : Leg) (s : State), s.ring[leg.val].mode = 1 ∧ 3 ≤ s.ring[leg.val].sightings ∧ s.role ≠ .standby) :=
  ⟨⟨(0 : Leg), { z with ring := (vmod (z.ring) ((0 : Leg)) (fun x0 => { x0 with mode := 0, toneGone := false })), role := .active }, by decide +kernel⟩,
   ⟨(0 : Leg), { z with ring := (vmod (z.ring) ((0 : Leg)) (fun x0 => { x0 with mode := 1 })) }, by decide +kernel⟩,
   ⟨(0 : Leg), { z with ring := (vmod (z.ring) ((0 : Leg)) (fun x0 => { x0 with splitDue := true })) }, by decide +kernel⟩,
   ⟨(tx0 : RingTx), 0, ([] : List Byte), { z with ring := (vmod (z.ring) (((tx0 : RingTx)).leg) (fun x0 => { x0 with splitWait := true })) }, by
     decide +kernel⟩,
   ⟨(0 : Leg),
     { z with ring := (vmod (vmod (z.ring) ((0 : Leg)) (fun x0 => { x0 with mode := 1, splitWait := true })) 0 (fun x0 => { x0 with mode := 1, splitWait := true, chain := [{ reflect := 1 }, { reflect := 2 }] })), role := .active },
     by decide +kernel⟩,
   ⟨(0 : Leg),
     { z with ring := (vmod (vmod (z.ring) ((0 : Leg)) (fun x0 => { x0 with mode := 1, splitWait := true })) 0 (fun x0 => { x0 with mode := 1, splitWait := true })), role := .active },
     by decide +kernel⟩,
   ⟨(0 : Leg), 1,
     { z with ring := (vmod (vmod (z.ring) ((0 : Leg)) (fun x0 => { x0 with mode := 1, seek := (vmod (x0.seek) 0 (fun x1 => 1 + 1)) })) 0 (fun x0 => { x0 with mode := 1, seek := (vmod (x0.seek) 0 (fun x1 => 2)) })), role := .active },
     by decide +kernel⟩,
   ⟨(0 : Leg), 1,
     { z with ring := (vmod (vmod (z.ring) ((0 : Leg)) (fun x0 => { x0 with mode := 1, seek := (vmod (x0.seek) 1 (fun x1 => 1)) })) 0 (fun x0 => { x0 with mode := 1, seek := (vmod (x0.seek) 1 (fun x1 => 1)) })), role := .active, plat := { z.plat with recs := [parRec (P.stationCount 0).basic 0 [((P.stationCount 0).idx, 0, 2)]] } },
     by decide +kernel⟩,
   ⟨(0 : Leg), ({ arr0 with flight := { flight0 with cmd := 3 }, fate := .missing } : Arrival),
     { z with ring := (vmod (z.ring) ((0 : Leg)) (fun x0 => { x0 with stakeStep := 0 })) }, by decide +kernel⟩,
   ⟨(0 : Leg),
     { z with ring := (vmod (vmod (z.ring) ((0 : Leg)) (fun x0 => { x0 with mode := 1 })) 0 (fun x0 => { x0 with mode := 1, sightings := 3 })), role := .active },
     by decide +kernel⟩⟩
theorem witness_PinsAndTones :
    (∃ (g : Signal) (s : State), g.plant = true ∧ s.mode ≠ .surveyed ∧ s.mode ≠ .armed ∧ s.mode ≠ .running ∧ s.mode ≠ .stopping ∧ s.mode ≠ .faultHold ∧
      s.start.lastGasp = false) ∧
    (∃ (g : Signal) (s : State), g.plant = true ∧ s.sf.forceoff = true) ∧
    (∃ (g : Signal) (s : State), g.plant = true ∧ g ≠ .sfo ∧ s.role = .standby) ∧
    (∃ (s : State), s.mode = .boot ∧ s.start.noImage = true) ∧
    (∃ (s : State), s.mode = .faultHold) ∧
    (∃ (s : State), (s.mode = .plat ∨ s.mode = .load ∨ s.mode = .staking ∨ s.mode = .surveyed ∨ s.mode = .armed ∨ s.mode = .running ∨ s.mode = .stopping)) ∧
    (∃ (forward : Bool) (here : Bool) (now : Nat) (xs : List (Station × Bool)), (∀ x ∈ xs, x.1.sleeping = false ∧ x.1.withholds = false ∧ x.1.turnsFrom
      forward = false)) ∧
    (∃ (st : Station) (here : Bool) (back : Bool) (now : Nat) (xs : List (Station × Bool)), st.sleeping = false ∧ (st.frameLost = true ∨ st.faults ≠ 0) ∧
      st.turnsFrom true = false) ∧
    (∃ (st : Station) (forward : Bool) (here : Bool) (now : Nat) (xs : List (Station × Bool)), st.sleeping = false ∧ st.turnsFrom forward = true) :=
  ⟨⟨(.pwm : Signal), { z with mode := .load, start := { z.start with lastGasp := false } }, by decide +kernel⟩,
   ⟨(.pwm : Signal), { z with sf := { z.sf with forceoff := true } }, by decide +kernel⟩,
   ⟨(.pwm : Signal), { z with role := .standby }, by decide +kernel⟩,
   ⟨{ z with mode := .boot, start := { z.start with noImage := true } }, by decide +kernel⟩,
   ⟨{ z with mode := .faultHold }, by decide +kernel⟩,
   ⟨{ z with mode := .plat }, by decide +kernel⟩,
   ⟨false, false, 0, ([({}, false)] : List (Station × Bool)), by decide +kernel⟩,
   ⟨({ frameLost := true } : Station), false, false, 0, ([({}, false)] : List (Station × Bool)), by decide +kernel⟩,
   ⟨({ reflect := 1 } : Station), false, false, 0, ([({}, false)] : List (Station × Bool)), by decide +kernel⟩⟩
theorem witness_ProbeEdges :
    (∃ (p : Fin 2) (s : State), s.probe[p.val].phase = .idle ∧ s.probe[p.val].due = false) ∧
    (∃ (p : Fin 2) (s : State), s.probe[p.val].phase ≠ .idle) ∧
    (∃ (p : Fin 2) (s : State), s.probe[p.val].phase = .committed) ∧
    (∃ (p : Fin 2) (s : State), s.probe[p.val].phase ≠ .committed) ∧
    (∃ (p : Fin 2) (s : State), (s.probe[p.val].phase = .observed ∨ (s.probe[p.val].phase = .running ∧ s.probe[p.val].spoilt.isSome = true))) ∧
    (∃ (p : Fin 2) (s : State), s.probe[p.val].phase = .running ∧ s.probe[p.val].spoilt = none) :=
  ⟨⟨(0 : Fin 2), { z with probe := (vmod (z.probe) ((0 : Fin 2)) (fun x0 => { x0 with phase := .idle, due := false })) }, by decide +kernel⟩,
   ⟨(0 : Fin 2), { z with probe := (vmod (z.probe) 0 (fun x0 => { x0 with phase := .committed })) }, by decide +kernel⟩,
   ⟨(0 : Fin 2), { z with probe := (vmod (z.probe) ((0 : Fin 2)) (fun x0 => { x0 with phase := .committed })) }, by decide +kernel⟩,
   ⟨(0 : Fin 2), z, by decide +kernel⟩,
   ⟨(0 : Fin 2), { z with probe := (vmod (z.probe) ((0 : Fin 2)) (fun x0 => { x0 with phase := .observed })) }, by decide +kernel⟩,
   ⟨(0 : Fin 2), { z with probe := (vmod (z.probe) ((0 : Fin 2)) (fun x0 => { x0 with phase := .running, spoilt := none })) }, by decide +kernel⟩⟩
theorem witness_LearnedValues :
    (∃ (s : State), s.start.learnedRead = true) ∧
    (∃ (s : State), s.start.learnedRead = false) ∧
    (∃ (s : State), s.learn.due = none) ∧
    (∃ (code : Nat) (s : State), s.learn.due = some code ∧ s.learn.writing = none) ∧
    (∃ (code : Nat) (w : LearnSet) (v : LearnSet) (s : State), s.learn.due = some code ∧ s.learn.writing = some w ∧ s.learn.waiting = some v) ∧
    (∃ (fault : Nat) (s : State), s.learn.writing = none) ∧
    (∃ (w : LearnSet) (s : State), s.learn.writing = some w ∧ w.trigger ≠ 6) ∧
    (∃ (fault : Nat) (w : LearnSet) (s : State), s.learn.writing = some w ∧ fault ≠ 0) ∧
    (∃ (s : State), (s.learn.shutdown = 2 ∨ s.learn.shutdown = 3)) ∧
    (∃ (s : State), s.learn.shutdown = 0) ∧
    (∃ (s : State), s.mode = .staking ∧ s.start.learnedRead = false ∧ s.fullSet 0 = none ∧ s.fullSet 1 = none) :=
  ⟨⟨{ z with start := { z.start with learnedRead := true } }, by decide +kernel⟩,
   ⟨{ z with start := { z.start with learnedRead := false } }, by decide +kernel⟩,
   ⟨{ z with learn := { z.learn with due := none } }, by decide +kernel⟩,
   ⟨0, { z with learn := { z.learn with due := some 0, writing := none } }, by decide +kernel⟩,
   ⟨0, (learn0 : LearnSet), (learn0 : LearnSet),
     { z with learn := { z.learn with due := some 0, writing := some ((learn0 : LearnSet)), waiting := some ((learn0 : LearnSet)) } }, by decide +kernel⟩,
   ⟨0, { z with learn := { z.learn with writing := none } }, by decide +kernel⟩,
   ⟨(learn0 : LearnSet), { z with learn := { z.learn with writing := some ((learn0 : LearnSet)) } }, by decide +kernel⟩,
   ⟨4, (learn0 : LearnSet), { z with learn := { z.learn with writing := some ((learn0 : LearnSet)) } }, by decide +kernel⟩,
   ⟨{ z with learn := { z.learn with shutdown := 2 } }, by decide +kernel⟩,
   ⟨{ z with learn := { z.learn with shutdown := 0 } }, by decide +kernel⟩,
   ⟨{ z with mode := .staking, start := { z.start with learnedRead := false } }, by decide +kernel⟩⟩
theorem witness_DispatchAndWatchdog :
    (∃ (r : HostReq) (s : State) (u : State), s.accepts 4 r u ∧ fieldAt 0 1 r.payload = 0x10 ∧ r.payload.length = 16 ∧ fieldAt 5 1 r.payload ≤ 15 ∧
      u.dispatchStatus (fieldAt 4 1 r.payload) (fieldAt 6 1 r.payload) (leSigned (slice 8 4 r.payload)) = 0 ∧ u.mode ≠ .boot) ∧
    (∃ (r : HostReq) (s : State) (u : State), s.accepts 4 r u ∧ fieldAt 0 1 r.payload = 0x10 ∧ r.payload.length = 16 ∧ u.dispatchStatus (fieldAt 4 1
      r.payload) (fieldAt 6 1 r.payload) (leSigned (slice 8 4 r.payload)) ≠ 0 ∧ u.mode ≠ .boot) ∧
    (∃ (mask : Nat) (kind : Nat) (rate : Nat) (target : Int) (s : State), s.str.modeChange = none ∧ s.str.wdHold = false ∧ (∀ l : Leg, s.populated l =
      false) ∧ s.mode = .armed ∧ (∀ l : Leg, s.conv[l.val].enabled = false)) ∧
    (∃ (mode : Nat) (mask : Nat) (kind : Nat) (rate : Nat) (target : Int) (s : State), mode ≠ s.str.running ∧ s.str.modeChange = none ∧ (∀ l : Leg,
      s.conv[l.val].enabled = false)) ∧
    (∃ (m : ModeChange) (s : State), s.str.modeChange = some m ∧ (∃ l : Leg, s.conv[l.val].st.live = true)) ∧
    (∃ (m : ModeChange) (s : State), s.str.modeChange = some m ∧ (∀ l : Leg, s.conv[l.val].st.live = false) ∧ s.mode = .surveyed ∧ s.str.wdHold = false) ∧
    (∃ (s : State), s.str.kind ≠ 3 ∧ s.str.wdHold = false ∧ (s.mode = .armed ∨ s.mode = .running)) ∧
    (∃ (s : State), s.str.wdHold = true ∧ s.str.wdExpired = false ∧ s.str.running = 0) ∧
    (∃ (s : State), s.str.running = 1) :=
  ⟨⟨(signed 4 0 ([16, 0, 0, 0, 0, 0, 0, 0, 0, 0, 0, 0, 0, 0, 0, 0]) ((keyed .armed))), (keyed .armed), (checked ((keyed .armed))), signed_accepts _ _ _ _
     (by decide +kernel), by decide +kernel⟩,
   ⟨(signed 4 0 ([16, 0, 0, 0, 0, 0, 0, 0, 0, 0, 0, 0, 0, 0, 0, 0]) ((keyed .surveyed))), (keyed .surveyed), (checked ((keyed .surveyed))), signed_accepts
     _ _ _ _ (by decide +kernel), by decide +kernel⟩,
   ⟨0, 0, 0, (0 : Int), { z with str := { z.str with modeChange := none, wdHold := false }, mode := .armed }, by decide +kernel⟩,
   ⟨1, 0, 0, 0, (0 : Int), { z with str := { z.str with modeChange := none } }, by decide +kernel⟩,
   ⟨(change0 : ModeChange),
     { z with str := { z.str with modeChange := some ((change0 : ModeChange)) }, conv := (vmod (z.conv) 0 (fun x0 => { x0 with st := .running })) }, by
     decide +kernel⟩,
   ⟨(change0 : ModeChange), { z with str := { z.str with modeChange := some ((change0 : ModeChange)), wdHold := false }, mode := .surveyed }, by
     decide +kernel⟩,
   ⟨{ z with str := { z.str with wdHold := false, kind := 0 }, mode := .armed }, by decide +kernel⟩,
   ⟨{ z with str := { z.str with wdHold := true, wdExpired := false, running := 0 } }, by decide +kernel⟩,
   ⟨{ z with str := { z.str with running := 1 } }, by decide +kernel⟩⟩
theorem witness_LegStarts :
    (∃ (leg : Leg) (s : State), s.conv[leg.val].st = .waitBus ∧ s.conv[leg.val].enabled = true ∧ s.mode = .running ∧ s.busReady leg = true ∧ s.sf.seqStep
      = 5 ∧ s.therm.stageTrip[leg.val] = false ∧ s.str.running = 0) ∧
    (∃ (leg : Leg) (s : State), (s.conv[leg.val].st ≠ .waitBus ∨ s.mode ≠ .running ∨ s.busReady leg = false ∨ s.sf.seqStep ≠ 5)) ∧
    (∃ (leg : Leg) (s : State), s.conv[leg.val].st = .softStart ∧ s.conv[leg.val].pulsed = true ∧ (∀ l : Leg, l ≠ leg → s.conv[l.val].st ≠ .softStart) ∧
      s.str.retries < s.parN P.startRetries) ∧
    (∃ (leg : Leg) (s : State), s.conv[leg.val].st = .softStart ∧ s.conv[leg.val].pulsed = true ∧ (∀ l : Leg, l ≠ leg → s.conv[l.val].st ≠ .softStart) ∧
      s.parN P.startRetries ≤ s.str.retries) ∧
    (∃ (s : State), (∀ l : Leg, s.conv[l.val].st ≠ .softStart)) ∧
    (∃ (leg : Leg) (s : State), s.conv[leg.val].st = .retryWait) ∧
    (∃ (leg : Leg) (s : State), s.conv[leg.val].st = .loadStepOff ∧ 2 ≤ s.conv[leg.val].reenterRun ∧ s.mode = .running) :=
  ⟨⟨(0 : Leg),
     { z with conv := (vmod (z.conv) ((0 : Leg)) (fun x0 => { x0 with st := .waitBus, enabled := true })), mode := .running, sf := { z.sf with seqStep := 5 }, therm := { z.therm with stageTrip := (vmod (z.therm.stageTrip) ((0 : Leg)) (fun x0 => false)) }, str := { z.str with running := 0 }, plat := { z.plat with recs := [parRec P.busLive.basic 0xFF [(P.busLive.idx, 0, 0), (P.headroom.idx, 0, 0)]] } },
     by decide +kernel⟩,
   ⟨(0 : Leg), z, by decide +kernel⟩,
   ⟨(0 : Leg), { z with conv := (vmod (z.conv) ((0 : Leg)) (fun x0 => { x0 with st := .softStart, pulsed := true })) }, by decide +kernel⟩,
   ⟨(0 : Leg),
     { z with conv := (vmod (z.conv) ((0 : Leg)) (fun x0 => { x0 with st := .softStart, pulsed := true })), str := { z.str with retries := 3 } }, by
     decide +kernel⟩,
   ⟨z, by decide +kernel⟩,
   ⟨(0 : Leg), { z with conv := (vmod (z.conv) ((0 : Leg)) (fun x0 => { x0 with st := .retryWait })) }, by decide +kernel⟩,
   ⟨(0 : Leg),
     { z with conv := (vmod (vmod (z.conv) ((0 : Leg)) (fun x0 => { x0 with st := .loadStepOff })) 0 (fun x0 => { x0 with reenterRun := 2 })), mode := .running },
     by decide +kernel⟩⟩
theorem witness_LegProtection :
    (∃ (leg : Leg) (s : State), s.conv[leg.val].overload = true ∧ s.conv[leg.val].st = .running ∧ s.conv[leg.val].ramp = none ∧ s.str.running = 0) ∧
    (∃ (leg : Leg) (s : State), s.conv[leg.val].overload = false) ∧
    (∃ (leg : Leg) (s : State), s.discharging leg = true ∧ s.conv[leg.val].st = .running) ∧
    (∃ (leg : Leg) (s : State), s.discharging leg = false) ∧
    (∃ (leg : Leg) (s : State), s.conv[leg.val].st = .loadStepOff) ∧
    (∃ (leg : Leg) (rp : Ramp) (s : State), s.conv[leg.val].st = .draining ∧ s.conv[leg.val].ramp = some rp ∧ rp.ref = 0 ∧ rp.stop = false ∧ 2 ≤
      s.conv[leg.val].lowRun ∧ s.conv[leg.val].drainEnd = .disabled) ∧
    (∃ (leg : Leg) (rp : Ramp) (s : State), s.conv[leg.val].ramp = some rp ∧ rp.ref ≠ 0) ∧
    (∃ (leg : Leg) (s : State), s.conv[leg.val].st = .running ∧ 2000 * s.vLegMean leg < s.vBusMean * (2000 + s.par P.headroom) ∧ s.conv[leg.val].ramp =
      none ∧ s.str.running = 0) :=
  ⟨⟨(0 : Leg),
     { z with conv := (vmod (z.conv) ((0 : Leg)) (fun x0 => { x0 with overload := true, st := .running, ramp := none })), str := { z.str with running := 0 } },
     by decide +kernel⟩,
   ⟨(0 : Leg), { z with conv := (vmod (z.conv) ((0 : Leg)) (fun x0 => { x0 with overload := false })) }, by decide +kernel⟩,
   ⟨(0 : Leg),
     { z with conv := (vmod (vmod (z.conv) ((0 : Leg)) (fun x0 => { x0 with st := .running })) 0 (fun x0 => { x0 with setpoint := -1000000000 })) }, by
     decide +kernel⟩,
   ⟨(0 : Leg), z, by decide +kernel⟩,
   ⟨(0 : Leg), { z with conv := (vmod (z.conv) ((0 : Leg)) (fun x0 => { x0 with st := .loadStepOff })) }, by decide +kernel⟩,
   ⟨(0 : Leg), (ramp0 : Ramp),
     { z with conv := (vmod (vmod (z.conv) ((0 : Leg)) (fun x0 => { x0 with st := .draining, ramp := some ((ramp0 : Ramp)), drainEnd := .disabled })) 0 (fun x0 => { x0 with lowRun := 2, ramp := some ramp0 })) },
     by decide +kernel⟩,
   ⟨(0 : Leg), ({ ramp0 with ref := 1 } : Ramp),
     { z with conv := (vmod (z.conv) ((0 : Leg)) (fun x0 => { x0 with ramp := some (({ ramp0 with ref := 1 } : Ramp)) })) }, by decide +kernel⟩,
   ⟨(0 : Leg),
     { z with conv := (vmod (z.conv) ((0 : Leg)) (fun x0 => { x0 with st := .running, ramp := none })), str := { z.str with running := 0 }, lat := { z.lat with md := (Vector.replicate 20 0).set 16 1 } },
     by decide +kernel⟩⟩
theorem witness_SamplesAndPwm :
    (∃ (codes : Vector Int 20) (s : State), s.role = .standby ∧ s.twin.decided = none) ∧
    (∃ (codes : Vector Int 20) (s : State), s.role = .active) ∧
    (∃ (s : State), (∀ l : Leg, s.cle[l.val].running = false) ∧ s.twin.step.paired = false) ∧
    (∃ (leg : Leg) (s : State), s.cle[leg.val].running = true ∧ (∀ l : Leg, l ≠ leg → s.cle[l.val].running = false) ∧ s.twin.step.paired = false) ∧
    (∃ (leg : Leg) (u : Int) (s : State), 0 ≤ s.cMin leg ∧ s.cMin leg ≤ s.cMax leg) ∧
    (∃ (p : Phase) (s : State), (s.conv[(legOf p).val].st = .disabled ∨ s.pwm[p.val].fast = false ∧ s.pwm[p.val].desat = false ∧ 0 < s.parN P.fastLatch
      (legOf p).val)) ∧
    (∃ (p : Phase) (i : Int) (s : State), s.pwm[p.val].on = true ∧ s.par P.fastLim (legOf p).val < i.natAbs) ∧
    (∃ (p : Phase) (i : Int) (s : State), (i.natAbs : Int) ≤ s.par P.fastLim (legOf p).val) ∧
    (∃ (p : Phase) (s : State), s.pwm[p.val].on = true) ∧
    (∃ (p : Phase) (s : State), (s.conv[(legOf p).val].st = .disabled ∨ s.pwm[p.val].fast = false ∧ s.pwm[p.val].desat = false ∧ 0 < s.parN P.fastLatch
      (legOf p).val) ∧ s.conv[(legOf p).val].pwmen = false) :=
  ⟨⟨(Vector.replicate 20 0 : Vector Int 20), { z with role := .standby, twin := { z.twin with decided := none } }, by decide +kernel⟩,
   ⟨(Vector.replicate 20 0 : Vector Int 20), { z with role := .active }, by decide +kernel⟩,
   ⟨z, by decide +kernel⟩,
   ⟨(0 : Leg), { z with cle := (vmod (z.cle) ((0 : Leg)) (fun x0 => { x0 with running := true })) }, by decide +kernel⟩,
   ⟨(0 : Leg), (0 : Int), z, by decide +kernel⟩,
   ⟨(0 : Phase), { z with conv := (vmod (z.conv) ((legOf ((0 : Phase)))) (fun x0 => { x0 with st := .disabled })) }, by decide +kernel⟩,
   ⟨(0 : Phase), (1000000000 : Int), { z with pwm := (vmod (z.pwm) ((0 : Phase)) (fun x0 => { x0 with on := true })) }, by decide +kernel⟩,
   ⟨(0 : Phase), (0 : Int), z, by decide +kernel⟩,
   ⟨(0 : Phase), { z with pwm := (vmod (z.pwm) ((0 : Phase)) (fun x0 => { x0 with on := true })) }, by decide +kernel⟩,
   ⟨(0 : Phase), { z with conv := (vmod (z.conv) ((legOf ((0 : Phase)))) (fun x0 => { x0 with st := .disabled, pwmen := false })) }, by decide +kernel⟩⟩
theorem witness_SafetyInputs :
    (∃ (ch : Fin 16) (s : State), s.sf.input[ch.val].filtered = true ∧ s.pairFunc (pairOfInput ch) = 0) ∧
    (∃ (ch : Fin 16) (s : State), s.sf.input[ch.val].filtered = true ∧ s.pairFunc (pairOfInput ch) ≠ 0 ∧ s.pairFunc (pairOfInput ch) ≠ 4 ∧ s.pairLow
      (pairOfInput ch) = false) ∧
    (∃ (ch : Fin 16) (s : State), s.sf.input[ch.val].filtered = false) ∧
    (∃ (ch : Fin 16) (s : State), s.sf.input[ch.val].filtered = true) ∧
    (∃ (ch : Fin 16) (s : State), s.sf.input[ch.val].filtered = false ∧ s.pairFunc (pairOfInput ch) ≠ 4) ∧
    (∃ (k : Fin 8) (s : State), s.pairFunc k = 1 ∧ s.sf.pair[k.val].discrepancy = false ∧ s.sf.input[2 * k.val].filtered ≠ s.sf.input[2 * k.val +
      1].filtered) ∧
    (∃ (k : Fin 8) (s : State), s.pairFunc k = 2 ∧ s.sf.pair[k.val].discrepancy = false ∧ s.sf.input[2 * k.val].filtered ≠ s.sf.input[2 * k.val +
      1].filtered) ∧
    (∃ (k : Fin 8) (s : State), s.sf.input[2 * k.val].filtered = s.sf.input[2 * k.val + 1].filtered) ∧
    (∃ (src : Fin 4) (levels : Nat) (s : State), s.pulseFrame src = false) ∧
    (∃ (src : Fin 4) (levels : Nat) (s : State), src ≠ 0 ∧ s.pulseFrame src = true) ∧
    (∃ (levels : Nat) (s : State), s.pulseFrame 0 = true) ∧
    (∃ (p : SafetyPair), p.fault = true ∧ 2 ≤ p.goodCycles ∧ p.cycleBad = false) ∧
    (∃ (p : SafetyPair), p.fault = true ∧ 2 ≤ p.goodCycles ∧ p.cycleBad = false) ∧
    (∃ (p : SafetyPair), p.fault = true ∧ 2 ≤ p.goodCycles ∧ p.cycleBad = false) ∧
    (∃ (src : Fin 4) (levels : Nat) (s : State), (∀ k : Fin 8, s.pairFunc k = 0)) :=
  ⟨⟨(0 : Fin 16),
     { z with sf := { z.sf with input := (vmod (z.sf.input) ((0 : Fin 16)) (fun x0 => { x0 with filtered := true })) }, plat := { z.plat with recs := [parRec P.pairFunc.basic 0xFF [(P.pairFunc.idx, 0, 0)]] } },
     by decide +kernel⟩,
   ⟨(0 : Fin 16),
     { z with sf := { z.sf with input := (vmod (vmod (z.sf.input) ((0 : Fin 16)) (fun x0 => { x0 with filtered := true })) 1 (fun x0 => { x0 with filtered := true })) }, plat := { z.plat with recs := [parRec P.pairFunc.basic 0xFF [(P.pairFunc.idx, 0, 1)]] } },
     by decide +kernel⟩,
   ⟨(0 : Fin 16), { z with sf := { z.sf with input := (vmod (z.sf.input) ((0 : Fin 16)) (fun x0 => { x0 with filtered := false })) } }, by decide +kernel⟩,
   ⟨(0 : Fin 16), { z with sf := { z.sf with input := (vmod (z.sf.input) ((0 : Fin 16)) (fun x0 => { x0 with filtered := true })) } }, by decide +kernel⟩,
   ⟨(0 : Fin 16), { z with sf := { z.sf with input := (vmod (z.sf.input) ((0 : Fin 16)) (fun x0 => { x0 with filtered := false })) } }, by decide +kernel⟩,
   ⟨(0 : Fin 8),
     { z with sf := { z.sf with pair := (vmod (z.sf.pair) ((0 : Fin 8)) (fun x0 => { x0 with discrepancy := false })), input := (vmod (vmod (z.sf.input) 0 (fun x0 => { x0 with filtered := true })) 1 (fun x0 => { x0 with filtered := false })) }, plat := { z.plat with recs := [parRec P.pairFunc.basic 0xFF [(P.pairFunc.idx, 0, 1)]] } },
     by decide +kernel⟩,
   ⟨(0 : Fin 8),
     { z with sf := { z.sf with pair := (vmod (z.sf.pair) ((0 : Fin 8)) (fun x0 => { x0 with discrepancy := false })), input := (vmod (vmod (z.sf.input) 0 (fun x0 => { x0 with filtered := true })) 1 (fun x0 => { x0 with filtered := false })) }, plat := { z.plat with recs := [parRec P.pairFunc.basic 0xFF [(P.pairFunc.idx, 0, 2)]] } },
     by decide +kernel⟩,
   ⟨(0 : Fin 8), z, by decide +kernel⟩,
   ⟨(1 : Fin 4), 0, z, by decide +kernel⟩,
   ⟨(1 : Fin 4), 0, { z with time := { z.time with frame := 62 } }, by decide +kernel⟩,
   ⟨0, z, by decide +kernel⟩,
   ⟨({ discrepancy := true, goodCycles := 2 } : SafetyPair), by decide +kernel⟩,
   ⟨({ discrepancy := true, goodCycles := 2 } : SafetyPair), by decide +kernel⟩,
   ⟨({ discrepancy := true, goodCycles := 2 } : SafetyPair), by decide +kernel⟩,
   ⟨(0 : Fin 4), 0,
     { z with plat := { z.plat with recs := [parRec P.pairFunc.basic 0xFF [(P.pairFunc.idx, 0, 0), (P.pairFunc.idx, 1, 0), (P.pairFunc.idx, 2, 0), (P.pairFunc.idx, 3, 0), (P.pairFunc.idx, 4, 0), (P.pairFunc.idx, 5, 0), (P.pairFunc.idx, 6, 0), (P.pairFunc.idx, 7, 0)]] } },
     by decide +kernel⟩⟩
theorem witness_StopDemands :
    (∃ (i : Nat) (s : State), (s.legKeys (legOfCell i)).any (fun k => k.2.2 == i) = true ∧ (s.cell i).invalid = true ∧ s.conv[(legOfCell i).val].st ≠
      .disabled ∧ s.sf.cellInvalid.contains i = false) ∧
    (∃ (i : Nat) (s : State), (s.cell i).invalid = false) ∧
    (∃ (leg : Leg) (k : Nat) (s : State), 1 ≤ k ∧ k ≤ s.stations leg ∧ s.sf.stationInvalid.contains (stationKey leg k) = false ∧ (∀ j : Nat, j < 8 →
      (s.temp (8 * stationKey leg k + j)).t = tInvalid)) ∧
    (∃ (s : State), s.sf.seqStep = 2) ∧
    (∃ (s : State), s.sf.seqStep ≠ 2) ∧
    (∃ (leg : Leg) (chg : Bool) (s : State), s.inhibited chg = true) ∧
    (∃ (leg : Leg) (chg : Bool) (s : State), s.inhibited chg = false) ∧
    (∃ (s : State), s.mode = .stopping ∧ 2 ≤ s.sf.stopCat ∧ s.sf.opened = false) ∧
    (∃ (s : State), s.mode = .stopping ∧ s.sf.opened = true ∧ s.allOpen = true ∧ s.start.lastGasp = false ∧ s.base.coreLost = false ∧ s.upd.endDue = 0 ∧
      s.welded = false ∧ s.sf.stopLatching = false) ∧
    (∃ (s : State), s.mode = .stopping ∧ s.sf.opened = true ∧ s.allOpen = true ∧ s.start.lastGasp = false ∧ s.base.coreLost = false ∧ s.upd.endDue = 0 ∧
      (s.welded = true ∨ s.sf.stopLatching = true)) ∧
    (∃ (s : State), (s.mode ≠ .stopping ∨ s.allOpen = false)) ∧
    (∃ (s : State) (g : Fin 4), s.mode = .stopping ∧ 2 ≤ s.sf.stopCat ∧ s.sf.opened = false ∧ s.sf.group[g.val].on = true ∧ s.sf.group[g.val].st ≠
      .welded) :=
  ⟨⟨0,
     { z with cells := [(0, { invalid := true })], conv := (vmod (z.conv) 0 (fun x0 => { x0 with st := .running })), plat := { z.plat with recs := [⟨0x1001, 0xFF, false, []⟩, parRec (P.stationCount 0).basic 0 [((P.stationCount 0).idx, 0, 1)], parRec P.cellMask.basic 0 [(P.cellMask.idx, 0, 1), (P.tempMask.idx, 0, 0xFF)]] } },
     by decide +kernel⟩,
   ⟨0, { z with cells := [(0, { invalid := false })] }, by decide +kernel⟩,
   ⟨(0 : Leg), 1, { z with plat := { z.plat with recs := [parRec (P.stationCount 0).basic 0 [((P.stationCount 0).idx, 0, 1)]] } }, by decide +kernel⟩,
   ⟨{ z with sf := { z.sf with seqStep := 2 } }, by decide +kernel⟩,
   ⟨z, by decide +kernel⟩,
   ⟨(0 : Leg), false, { z with sf := { z.sf with tgDischargeInhibit := true } }, by decide +kernel⟩,
   ⟨(0 : Leg), false, z, by decide +kernel⟩,
   ⟨{ z with mode := .stopping, sf := { z.sf with opened := false, stopCat := 2 } }, by decide +kernel⟩,
   ⟨{ z with mode := .stopping, sf := { z.sf with opened := true, stopLatching := false }, start := { z.start with lastGasp := false }, base := { z.base with coreLost := false }, upd := { z.upd with endDue := 0 } },
     by decide +kernel⟩,
   ⟨{ z with mode := .stopping, sf := { z.sf with opened := true, stopLatching := true }, start := { z.start with lastGasp := false }, base := { z.base with coreLost := false }, upd := { z.upd with endDue := 0 } },
     by decide +kernel⟩,
   ⟨{ z with mode := .surveyed }, by decide +kernel⟩,
   ⟨{ z with mode := .stopping, sf := { z.sf with opened := false, group := (vmod (vmod (z.sf.group) ((0 : Fin 4)) (fun x0 => { x0 with on := true })) 0 (fun x0 => { x0 with on := true })), stopCat := 2 } },
     (0 : Fin 4), by decide +kernel⟩⟩
theorem witness_Contactors :
    (∃ (s : State), (s.mode = .armed ∨ s.mode = .running) ∧ s.sf.seqStep = 1 ∧ s.closed 1 = true ∧ s.sf.group[2].on = false ∧ s.sf.group[2].st ≠ .welded) ∧
    (∃ (s : State), (s.mode = .armed ∨ s.mode = .running) ∧ s.sf.seqStep = 2 ∧ 100 ≤ s.sf.stepFrames ∧ s.busSettled = true ∧ s.sf.group[0].on = false) ∧
    (∃ (s : State), (s.mode = .armed ∨ s.mode = .running) ∧ s.sf.seqStep = 3 ∧ s.closed 0 = true ∧ s.closed 3 = true) ∧
    (∃ (s : State), (s.mode = .armed ∨ s.mode = .running) ∧ s.sf.seqStep = 4 ∧ s.sf.group[2].on = true ∧ s.parN P.prechargeOverlap ≤ s.sf.stepFrames) ∧
    (∃ (s : State), (s.mode = .armed ∨ s.mode = .running) ∧ s.sf.seqStep = 4 ∧ s.sf.group[2].on = false ∧ s.standsOpen 2 = true) ∧
    (∃ (s : State), (s.mode = .armed ∨ s.mode = .running) ∧ s.sf.seqStep = 1 ∧ s.closed 1 = false) ∧
    (∃ (g : Fin 4) (levels : Nat) (s : State), s.groupUnused g = false ∧ s.sf.group[g.val].st ≠ .welded ∧ s.fbkUse g = 0) ∧
    (∃ (g : Fin 4) (s : State), s.groupUnused g = false ∧ s.sf.group[g.val].st ≠ .welded ∧ s.fbkUse g = 2 ∧ s.sf.group[g.val].on = true) ∧
    (∃ (g : Fin 4) (s : State), s.groupUnused g = false ∧ s.sf.group[g.val].st ≠ .welded ∧ s.fbkUse g = 2 ∧ s.sf.group[g.val].on = false ∧ s.peerHolds g =
      false) ∧
    (∃ (g : Fin 4) (s : State), s.groupUnused g = false ∧ s.fbkUse g = 2 ∧ s.sf.group[g.val].on = true ∧ s.sf.group[g.val].st = .closed ∧ s.base.coreLost
      = false) ∧
    (∃ (g : Fin 4) (s : State), s.groupUnused g = false ∧ s.fbkUse g = 2 ∧ s.sf.group[g.val].on = true ∧ s.sf.group[g.val].st = .closing ∧ s.base.coreLost
      = false) ∧
    (∃ (g : Fin 4) (s : State), s.sf.group[g.val].peerHold = true ∧ s.fbkUse g = 2) ∧
    (∃ (g : Fin 4) (s : State), s.sf.group[g.val].peerHold = true ∧ s.fbkUse g = 2) ∧
    (∃ (g : Fin 4) (levels : Nat) (s : State), s.sf.group[g.val].peerHold = false) :=
  ⟨⟨{ z with mode := .armed, sf := { z.sf with seqStep := 1, group := (vmod (vmod (z.sf.group) 2 (fun x0 => { x0 with on := false })) 1 (fun x0 => { x0 with st := .closed })) } },
     by decide +kernel⟩,
   ⟨{ z with mode := .armed, sf := { z.sf with seqStep := 2, group := (vmod (z.sf.group) 0 (fun x0 => { x0 with on := false })), stepFrames := 100, busHistory := List.replicate 21 0 } },
     by decide +kernel⟩,
   ⟨{ z with mode := .armed, sf := { z.sf with seqStep := 3, group := (vmod (vmod (z.sf.group) 0 (fun x0 => { x0 with st := .closed })) 3 (fun x0 => { x0 with st := .closed })) } },
     by decide +kernel⟩,
   ⟨{ z with mode := .armed, sf := { z.sf with seqStep := 4, group := (vmod (z.sf.group) 2 (fun x0 => { x0 with on := true })), stepFrames := 100000 } },
     by decide +kernel⟩,
   ⟨{ z with mode := .armed, sf := { z.sf with seqStep := 4, group := (vmod (z.sf.group) 2 (fun x0 => { x0 with on := false })) } }, by decide +kernel⟩,
   ⟨{ z with mode := .armed, sf := { z.sf with seqStep := 1 } }, by decide +kernel⟩,
   ⟨(0 : Fin 4), 0, { z with plat := { z.plat with recs := [parRec P.fbkUse.basic 0xFF [(P.fbkUse.idx, 0, 0), (P.auxMode.idx, 0, 0)]] } }, by
     decide +kernel⟩,
   ⟨(0 : Fin 4),
     { z with sf := { z.sf with group := (vmod (z.sf.group) ((0 : Fin 4)) (fun x0 => { x0 with on := true })) }, plat := { z.plat with recs := [parRec P.fbkUse.basic 0xFF [(P.fbkUse.idx, 0, 2), (P.auxMode.idx, 0, 0)]] } },
     by decide +kernel⟩,
   ⟨(0 : Fin 4),
     { z with sf := { z.sf with group := (vmod (z.sf.group) ((0 : Fin 4)) (fun x0 => { x0 with on := false })) }, plat := { z.plat with recs := [parRec P.fbkUse.basic 0xFF [(P.fbkUse.idx, 0, 2), (P.auxMode.idx, 0, 0)]] } },
     by decide +kernel⟩,
   ⟨(0 : Fin 4),
     { z with sf := { z.sf with group := (vmod (z.sf.group) ((0 : Fin 4)) (fun x0 => { x0 with on := true, st := .closed })) }, base := { z.base with coreLost := false }, plat := { z.plat with recs := [parRec P.fbkUse.basic 0xFF [(P.fbkUse.idx, 0, 2), (P.auxMode.idx, 0, 0)]] } },
     by decide +kernel⟩,
   ⟨(0 : Fin 4),
     { z with sf := { z.sf with group := (vmod (z.sf.group) ((0 : Fin 4)) (fun x0 => { x0 with on := true, st := .closing })) }, base := { z.base with coreLost := false }, plat := { z.plat with recs := [parRec P.fbkUse.basic 0xFF [(P.fbkUse.idx, 0, 2), (P.auxMode.idx, 0, 0)]] } },
     by decide +kernel⟩,
   ⟨(0 : Fin 4),
     { z with sf := { z.sf with group := (vmod (z.sf.group) ((0 : Fin 4)) (fun x0 => { x0 with peerHold := true })) }, plat := { z.plat with recs := [parRec P.fbkUse.basic 0xFF [(P.fbkUse.idx, 0, 2), (P.auxMode.idx, 0, 0)]] } },
     by decide +kernel⟩,
   ⟨(0 : Fin 4),
     { z with sf := { z.sf with group := (vmod (z.sf.group) ((0 : Fin 4)) (fun x0 => { x0 with peerHold := true })) }, plat := { z.plat with recs := [parRec P.fbkUse.basic 0xFF [(P.fbkUse.idx, 0, 2), (P.auxMode.idx, 0, 0)]] } },
     by decide +kernel⟩,
   ⟨(0 : Fin 4), 0, { z with sf := { z.sf with group := (vmod (z.sf.group) ((0 : Fin 4)) (fun x0 => { x0 with peerHold := false })) } }, by
     decide +kernel⟩⟩
theorem witness_OutputTests :
    (∃ (c : Fin 8) (on : Bool) (s : State), s.sf.output[c.val].driven = on) ∧
    (∃ (c : Fin 8) (s : State), s.sf.output[c.val].driven = true ∧ s.sf.dark = none ∧ s.sf.output[c.val].stuckOff = false ∧ s.twinMember = false ∧ s.mode
      = .running) ∧
    (∃ (c : Fin 8) (s : State), s.sf.output[c.val].driven = false ∧ s.sf.dark = none ∧ s.sf.output[c.val].stuckOn = false ∧ s.twinMember = false ∧ s.mode
      = .running) ∧
    (∃ (c : Fin 8) (s : State), s.sf.darkNext = some c.val ∧ s.sf.dark = none) ∧
    (∃ (s : State), s.sf.darkNext = none) ∧
    (∃ (c : Fin 8) (s : State), s.sf.dark = some (c.val, none)) ∧
    (∃ (c : Fin 8) (s : State), s.sf.dark = some (c.val, some true) ∧ s.sf.darkOn = true ∧ s.sf.output[c.val].driven = true) ∧
    (∃ (c : Fin 8) (s : State), s.sf.output[c.val].goodNow = true) ∧
    (∃ (c : Fin 8) (s : State), s.sf.output[c.val].goodNow = false ∧ s.darkTested c = true ∧ s.sf.output[c.val].missed < 2) ∧
    (∃ (c : Fin 8) (s : State), s.sf.output[c.val].goodNow = false ∧ s.darkTested c = true ∧ s.sf.output[c.val].missed = 2 ∧ s.sf.output[c.val].diagFault
      = false ∧ s.twinMember = false) :=
  ⟨⟨(0 : Fin 8), false, { z with sf := { z.sf with output := (vmod (z.sf.output) ((0 : Fin 8)) (fun x0 => { x0 with driven := false })) } }, by
     decide +kernel⟩,
   ⟨(0 : Fin 8),
     { z with sf := { z.sf with output := (vmod (z.sf.output) ((0 : Fin 8)) (fun x0 => { x0 with driven := true, stuckOff := false })), dark := none }, mode := .running },
     by decide +kernel⟩,
   ⟨(0 : Fin 8),
     { z with sf := { z.sf with output := (vmod (z.sf.output) ((0 : Fin 8)) (fun x0 => { x0 with driven := false, stuckOn := false })), dark := none }, mode := .running },
     by decide +kernel⟩,
   ⟨(0 : Fin 8), { z with sf := { z.sf with darkNext := some ((0 : Fin 8)).val, dark := none } }, by decide +kernel⟩,
   ⟨{ z with sf := { z.sf with darkNext := none } }, by decide +kernel⟩,
   ⟨(0 : Fin 8), { z with sf := { z.sf with dark := some (((0 : Fin 8)).val, none) } }, by decide +kernel⟩,
   ⟨(0 : Fin 8),
     { z with sf := { z.sf with dark := some (((0 : Fin 8)).val, some true), darkOn := true, output := (vmod (z.sf.output) ((0 : Fin 8)) (fun x0 => { x0 with driven := true })) } },
     by decide +kernel⟩,
   ⟨(0 : Fin 8), { z with sf := { z.sf with output := (vmod (z.sf.output) ((0 : Fin 8)) (fun x0 => { x0 with goodNow := true })) } }, by decide +kernel⟩,
   ⟨(0 : Fin 8), { z with sf := { z.sf with output := (vmod (z.sf.output) ((0 : Fin 8)) (fun x0 => { x0 with goodNow := false })) }, mode := .running },
     by decide +kernel⟩,
   ⟨(0 : Fin 8),
     { z with sf := { z.sf with output := (vmod (z.sf.output) ((0 : Fin 8)) (fun x0 => { x0 with goodNow := false, missed := 2, diagFault := false })) }, mode := .running },
     by decide +kernel⟩⟩
theorem witness_Permits :
    (∃ (b : List Byte) (s : State), (b.length ≠ 56 ∨ fieldAt 52 4 b ≠ safetyCrc (b.take 52) ∨ fieldAt 4 4 b ≠ s.time.frame ∨ s.sf.permitTimeout = true ∨
      s.base.fieldLost = true ∨ s.start.lastGasp = true)) ∧
    (∃ (b : List Byte) (s : State), s.permitFresh b = true) ∧
    (∃ (s : State), s.sf.permitTimeout = false ∧ s.base.fieldLost = false ∧ s.start.reduced = false ∧ s.mode = .running ∧ s.sf.lockstep = false) ∧
    (∃ (s : State), s.sf.permitTimeout = false ∧ s.base.fieldLost = false ∧ s.start.reduced = false ∧ s.mode = .running ∧ s.sf.lockstep = true) ∧
    (∃ (s : State), s.sf.permitTimeout = true) ∧
    (∃ (s : State), s.sf.lockstep = false ∧ s.mode ≠ .off ∧ s.mode ≠ .laidUp ∧ s.twinMember = false) ∧
    (∃ (s : State), s.sf.lockstep = true) ∧
    (∃ (b : List Byte) (s : State) (l : Leg), s.permitFresh b = true ∧ bitAt (fieldAt 1 1 b) l.val = false) ∧
    (∃ (b : List Byte) (s : State), s.permitFresh b = true ∧ fieldAt 2 1 b % 4 = 1) :=
  ⟨⟨([] : List Byte), z, by decide +kernel⟩,
   ⟨(sealed (List.replicate 52 0) : List Byte), { z with mode := .running }, by decide +kernel⟩,
   ⟨{ z with sf := { z.sf with permitTimeout := false, lockstep := false }, base := { z.base with fieldLost := false }, start := { z.start with reduced := false }, mode := .running },
     by decide +kernel⟩,
   ⟨{ z with sf := { z.sf with permitTimeout := false, lockstep := true }, base := { z.base with fieldLost := false }, start := { z.start with reduced := false }, mode := .running },
     by decide +kernel⟩,
   ⟨{ z with sf := { z.sf with permitTimeout := true } }, by decide +kernel⟩,
   ⟨{ z with sf := { z.sf with lockstep := false }, mode := .surveyed }, by decide +kernel⟩,
   ⟨{ z with sf := { z.sf with lockstep := true } }, by decide +kernel⟩,
   ⟨(sealed (List.replicate 52 0) : List Byte), { z with mode := .running }, (0 : Leg), by decide +kernel⟩,
   ⟨(sealed ([0, 0, 1] ++ List.replicate 49 0) : List Byte), { z with mode := .running }, by decide +kernel⟩⟩
theorem witness_Telegrams :
    (∃ (lan : Fin 2) (b : List Byte) (stamp : Nat) (s : State), (s.mode = .surveyed ∨ s.mode = .armed ∨ s.mode = .running) ∧ b.length = 46 ∧
      (s.sf.tgCopies.any (fun c => c.lan == lan.val && tgSource c.body == tgSource b && tgSeqOf c.body == tgSeqOf b)) = false) ∧
    (∃ (lan : Fin 2) (b : List Byte) (stamp : Nat) (s : State), (s.mode = .surveyed ∨ s.mode = .armed ∨ s.mode = .running) ∧ b.length = 46 ∧
      (s.sf.tgCopies.any (fun c => c.lan == lan.val && tgSource c.body == tgSource b && tgSeqOf c.body == tgSeqOf b)) = true) ∧
    (∃ (lan : Fin 2) (b : List Byte) (stamp : Nat) (s : State), b.length ≠ 46) ∧
    (∃ (a : TelegramCopy) (b : TelegramCopy) (s : State), a.body = b.body ∧ s.tgValid a.body = true ∧ tgType a.body = 1 ∧ fieldAt 18 1 a.body % 4 = 0) ∧
    (∃ (a : TelegramCopy) (b : TelegramCopy) (s : State), a.body ≠ b.body) ∧
    (∃ (a : TelegramCopy) (b : TelegramCopy) (s : State), a.body = b.body ∧ s.tgValid a.body = false) ∧
    (∃ (b : List Byte) (s : State), s.tgValid b = true) ∧
    (∃ (s : State), s.par P.telegramRequired = 1) ∧
    (∃ (s : State), s.par P.telegramRequired = 0) ∧
    (∃ (s : State), s.role = .active ∧ s.mode = .running ∧ s.sf.lockstep = false ∧ s.parN P.telegramSource ≠ 0 ∧ s.parN P.tripDest = 0) ∧
    (∃ (s : State), s.role ≠ .active) :=
  ⟨⟨(0 : Fin 2), (List.replicate 46 0 : List Byte), 0, { z with mode := .surveyed }, by decide +kernel⟩,
   ⟨(0 : Fin 2), (List.replicate 46 0 : List Byte), 0, { z with mode := .surveyed, sf := { z.sf with tgCopies := [⟨0, 0, List.replicate 46 0, false⟩] } },
     by decide +kernel⟩,
   ⟨(0 : Fin 2), ([] : List Byte), 0, z, by decide +kernel⟩,
   ⟨(⟨0, 0, sealed ([1, 1, 7, 0, 5, 0] ++ List.replicate 36 0), true⟩ : TelegramCopy), (⟨1, 9, sealed ([1, 1, 7, 0, 5, 0] ++ List.replicate 36 0), true⟩ :
     TelegramCopy), { z with plat := { z.plat with recs := [parRec P.safeId.basic 0xFF [(P.safeId.idx, 0, 5), (P.telegramSource.idx, 0, 7)]] } }, by
     decide +kernel⟩,
   ⟨(⟨0, 0, [1], false⟩ : TelegramCopy), (copy0 : TelegramCopy), z, by decide +kernel⟩,
   ⟨(copy0 : TelegramCopy), (copy0 : TelegramCopy), z, by decide +kernel⟩,
   ⟨(sealed ([1, 1, 7, 0, 5, 0] ++ List.replicate 36 0) : List Byte),
     { z with plat := { z.plat with recs := [parRec P.safeId.basic 0xFF [(P.safeId.idx, 0, 5), (P.telegramSource.idx, 0, 7)]] } }, by decide +kernel⟩,
   ⟨{ z with plat := { z.plat with recs := [parRec P.telegramRequired.basic 0xFF [(P.telegramRequired.idx, 0, 1)]] } }, by decide +kernel⟩,
   ⟨{ z with plat := { z.plat with recs := [parRec P.telegramRequired.basic 0xFF [(P.telegramRequired.idx, 0, 0)]] } }, by decide +kernel⟩,
   ⟨{ z with role := .active, mode := .running, sf := { z.sf with lockstep := false }, plat := { z.plat with recs := [parRec P.tripDest.basic 0xFF [(P.tripDest.idx, 0, 0), (P.safeId.idx, 0, 5), (P.telegramSource.idx, 0, 7)]] } },
     by decide +kernel⟩,
   ⟨{ z with role := .standby }, by decide +kernel⟩⟩
theorem witness_TwinRolesAndPins :
    (∃ (alive : Bool) (s : State), s.twinMember = true ∧ s.mode = .load ∧ s.twin.aliveOut = false) ∧
    (∃ (alive : Bool) (s : State), s.twinMember = true ∧ s.mode = .load ∧ s.twin.aliveOut = false) ∧
    (∃ (s : State), s.twin.waiting = true ∧ s.unitB = true ∧ s.sf.forceoff = false ∧ s.twin.incompatible = false) ∧
    (∃ (s : State), s.twin.waiting = true ∧ s.unitB = true ∧ s.twin.up = false) ∧
    (∃ (s : State), s.sf.forceoff = false ∧ s.twinMember = false) ∧
    (∃ (s : State), s.sf.forceoff = false ∧ s.twinMember = true ∧ s.role = .active ∧ s.mode = .running ∧ s.twin.takeoverOut = false) ∧
    (∃ (s : State), s.role ≠ .estranged ∧ s.twin.waiting = false) ∧
    (∃ (s : State), s.role = .estranged) ∧
    (∃ (stamp : Nat) (delay : Nat) (tai : Bool) (stepped : Bool) (s : State), s.twinMember = true ∧ s.mode = .surveyed ∧ s.role = .active) ∧
    (∃ (stamp : Nat) (delay : Nat) (tai : Bool) (stepped : Bool) (s : State), s.twinMember = true ∧ s.mode = .surveyed ∧ s.role = .standby ∧ s.twin.everUp
      = false) ∧
    (∃ (s : State), s.twin.up = true ∧ s.canTakeOver = true) ∧
    (∃ (s : State), s.twin.peerAlive = true ∧ s.canTakeOver = true) ∧
    (∃ (s : State), s.twin.up = false) ∧
    (∃ (s : State), s.twin.peerAlive = false) ∧
    (∃ (s : State), s.twinMember = true ∧ s.role = .active ∧ s.twin.degraded = true ∧ s.par P.twinRequired = 1) ∧
    (∃ (s : State), s.twin.waiting = true ∧ s.unitB = true ∧ s.twin.incompatible = true) ∧
    (∃ (alive : Bool) (s : State), s.twinMember = true ∧ s.mode = .load ∧ s.twin.aliveOut = false ∧ s.unitB = false ∧ s.sf.forceoff = false) ∧
    (∃ (alive : Bool) (s : State), s.twinMember = true ∧ s.mode = .load ∧ s.twin.aliveOut = false ∧ s.unitB = true) :=
  ⟨⟨false, { z with mode := .load, twin := { z.twin with aliveOut := false }, plat := { z.plat with recs := [⟨0x4801, 0xFF, false, []⟩] } }, by
     decide +kernel⟩,
   ⟨false, { z with mode := .load, twin := { z.twin with aliveOut := false }, plat := { z.plat with recs := [⟨0x4801, 0xFF, false, []⟩] } }, by
     decide +kernel⟩,
   ⟨{ z with twin := { z.twin with waiting := true, incompatible := false }, sf := { z.sf with forceoff := false }, plat := { z.plat with recs := [parRec P.unit.basic 0xFF [(P.unit.idx, 0, 1)]] } },
     by decide +kernel⟩,
   ⟨{ z with twin := { z.twin with waiting := true, up := false }, plat := { z.plat with recs := [parRec P.unit.basic 0xFF [(P.unit.idx, 0, 1)]] } }, by
     decide +kernel⟩,
   ⟨{ z with sf := { z.sf with forceoff := false } }, by decide +kernel⟩,
   ⟨{ z with sf := { z.sf with forceoff := false }, role := .active, mode := .running, twin := { z.twin with takeoverOut := false }, plat := { z.plat with recs := [⟨0x4801, 0xFF, false, []⟩] } },
     by decide +kernel⟩,
   ⟨{ z with role := .active, twin := { z.twin with waiting := false } }, by decide +kernel⟩,
   ⟨{ z with role := .estranged }, by decide +kernel⟩,
   ⟨0, 0, false, false, { z with mode := .surveyed, role := .active, plat := { z.plat with recs := [⟨0x4801, 0xFF, false, []⟩] } }, by decide +kernel⟩,
   ⟨0, 0, false, false,
     { z with mode := .surveyed, role := .standby, twin := { z.twin with everUp := false }, plat := { z.plat with recs := [⟨0x4801, 0xFF, false, []⟩] } },
     by decide +kernel⟩,
   ⟨{ z with twin := { z.twin with up := true, step := .inStep, eligibleFrom := some 0 }, role := .standby }, by decide +kernel⟩,
   ⟨{ z with twin := { z.twin with peerAlive := true, step := .inStep, eligibleFrom := some 0 }, role := .standby }, by decide +kernel⟩,
   ⟨{ z with twin := { z.twin with up := false } }, by decide +kernel⟩,
   ⟨{ z with twin := { z.twin with peerAlive := false } }, by decide +kernel⟩,
   ⟨{ z with role := .active, twin := { z.twin with degraded := true }, plat := { z.plat with recs := [⟨0x4801, 0xFF, false, []⟩, parRec P.twinRequired.basic 0xFF [(P.twinRequired.idx, 0, 1)]] } },
     by decide +kernel⟩,
   ⟨{ z with twin := { z.twin with waiting := true, incompatible := true }, plat := { z.plat with recs := [parRec P.unit.basic 0xFF [(P.unit.idx, 0, 1)]] } },
     by decide +kernel⟩,
   ⟨false,
     { z with mode := .load, twin := { z.twin with aliveOut := false }, sf := { z.sf with forceoff := false }, plat := { z.plat with recs := [⟨0x4801, 0xFF, false, []⟩] } },
     by decide +kernel⟩,
   ⟨false,
     { z with mode := .load, twin := { z.twin with aliveOut := false }, plat := { z.plat with recs := [⟨0x4801, 0xFF, false, []⟩, parRec P.unit.basic 0xFF [(P.unit.idx, 0, 1)]] } },
     by decide +kernel⟩⟩
theorem witness_BacksightTraffic :
    (∃ (s : State), s.twinMember = true ∧ s.twin.up = true ∧ s.twin.tx.replaying = [] ∧ s.twin.tx.pending = []) ∧
    (∃ (m : TwinMsg) (s : State), s.twinMember = true ∧ s.twin.up = true ∧ s.twin.tx.replaying = [] ∧ s.twin.tx.pending = [(3, m)] ∧
      s.twin.tx.replay.length < 16) ∧
    (∃ (seq : Nat) (ack : Nat) (nak : Bool) (m : TwinMsg) (s : State), s.twinMember = true ∧ s.twin.up = true) ∧
    (∃ (seq : Nat) (ack : Nat) (b : List Byte) (s : State), s.twinMember = true ∧ s.twin.up = true ∧ s.twin.rx.discarding = false ∧ s.twin.rx.owed = 0) ∧
    (∃ (seq : Nat) (ack : Nat) (m : TwinMsg) (s : State), s.twinMember = true ∧ s.twin.up = true ∧ s.twin.step.paired = true ∧ s.role = .active) ∧
    (∃ (cls : Nat) (seq : Nat) (ack : Nat) (nak : Bool) (ok : Bool) (m : TwinMsg) (s : State), s.twin.up = false) ∧
    (∃ (b : SealBundle) (s : State), s.role = .standby ∧ b.crcOk = true ∧ b.frame = s.time.frame) ∧
    (∃ (b : SealBundle) (s : State), (s.role ≠ .standby ∨ b.crcOk = false ∨ b.frame ≠ s.time.frame)) ∧
    (∃ (s : State), s.role = .standby ∧ s.twin.step = .inStep ∧ s.twin.sealed ≠ s.time.frame ∧ s.twin.divergeAt = []) ∧
    (∃ (s : State), s.twin.sealed = s.time.frame) ∧
    (∃ (s : State), s.role = .standby ∧ s.twin.step = .inStep ∧ s.twin.decided = none ∧ s.twin.codes = none) ∧
    (∃ (c : Vector Int 18) (s : State), s.role = .standby ∧ s.twin.step = .inStep ∧ s.twin.decided = none ∧ s.twin.codes = some c ∧ (∀ i : Fin 18,
      s.twin.diffRun[i.val] + 1 < s.parN P.plausSamples)) :=
  ⟨⟨{ z with twin := { z.twin with up := true, tx := { z.twin.tx with replaying := [], pending := [] } }, plat := { z.plat with recs := [⟨0x4801, 0xFF, false, []⟩] } },
     by decide +kernel⟩,
   ⟨(.idle : TwinMsg),
     { z with twin := { z.twin with up := true, tx := { z.twin.tx with replaying := [], pending := [(3, ((.idle : TwinMsg)))] } }, plat := { z.plat with recs := [⟨0x4801, 0xFF, false, []⟩] } },
     by decide +kernel⟩,
   ⟨0, 0, false, (.idle : TwinMsg), { z with twin := { z.twin with up := true }, plat := { z.plat with recs := [⟨0x4801, 0xFF, false, []⟩] } }, by
     decide +kernel⟩,
   ⟨0, 0, ([] : List Byte),
     { z with twin := { z.twin with up := true, rx := { z.twin.rx with discarding := false, owed := 0 } }, plat := { z.plat with recs := [⟨0x4801, 0xFF, false, []⟩] } },
     by decide +kernel⟩,
   ⟨0, 0, (.idle : TwinMsg),
     { z with twin := { z.twin with up := true, step := .inStep }, role := .active, plat := { z.plat with recs := [⟨0x4801, 0xFF, false, []⟩] } }, by
     decide +kernel⟩,
   ⟨0, 0, 0, false, false, (.idle : TwinMsg), { z with twin := { z.twin with up := false } }, by decide +kernel⟩,
   ⟨(bundle0 : SealBundle), { z with role := .standby }, by decide +kernel⟩,
   ⟨(bundle0 : SealBundle), { z with role := .active }, by decide +kernel⟩,
   ⟨{ z with role := .standby, twin := { z.twin with step := .inStep, divergeAt := [] }, time := { z.time with frame := 1 } }, by decide +kernel⟩,
   ⟨{ z with twin := { z.twin with sealed := 0 } }, by decide +kernel⟩,
   ⟨{ z with role := .standby, twin := { z.twin with step := .inStep, decided := none, codes := none } }, by decide +kernel⟩,
   ⟨(Vector.replicate 18 0 : Vector Int 18),
     { z with role := .standby, twin := { z.twin with step := .inStep, decided := none, codes := some ((Vector.replicate 18 0 : Vector Int 18)) } }, by
     decide +kernel⟩⟩
theorem witness_TwinComparison :
    (∃ (w : SampleWords) (s : State), w.held = 0 ∧ w.notComputed = 0 ∧ s.twin.ownWords = some w ∧ s.twin.peerWords = some w ∧ s.twin.step = .inStep) ∧
    (∃ (w : SampleWords) (s : State), w.held = 0 ∧ w.notComputed = 0 ∧ s.twin.ownWords = some w ∧ s.twin.peerWords = some w ∧ s.twin.step = .suspect) ∧
    (∃ (a : SampleWords) (b : SampleWords) (k : Nat) (s : State), a.held = 0 ∧ a.notComputed = 0 ∧ b.held = 0 ∧ b.notComputed = 0 ∧ s.twin.ownWords = some
      a ∧ s.twin.peerWords = some b ∧ firstDiff (sampleFlat a) (sampleFlat b) = some k ∧ s.twin.step = .inStep) ∧
    (∃ (a : SampleWords) (b : SampleWords) (k : Nat) (s : State), a.held = 0 ∧ a.notComputed = 0 ∧ b.held = 0 ∧ b.notComputed = 0 ∧ s.twin.ownWords = some
      a ∧ s.twin.peerWords = some b ∧ firstDiff (sampleFlat a) (sampleFlat b) = some k ∧ s.twin.step = .suspect) ∧
    (∃ (a : SampleWords) (b : SampleWords) (s : State), s.twin.step = .inStep ∧ s.role = .active ∧ a.held ≠ 0 ∧ s.twin.ownWords = some a ∧
      s.twin.peerWords = some b) ∧
    (∃ (s : State), s.twin.step = .inStep ∧ s.twin.peerPermit = some s.sf.permit ∧ s.twin.peerFrame = none) ∧
    (∃ (p : FrameWords) (o : FrameWords) (k : Nat) (s : State), s.twin.step = .inStep ∧ s.twin.peerPermit = none ∧ s.twin.peerFrame = some p ∧
      s.twin.ownFrame = some o ∧ firstDiff (frameFlat o) (frameFlat p) = some k) ∧
    (∃ (ok : Bool) (s : State), s.twin.step = .dispute ∧ s.twin.own = none ∧ s.twin.peer = none ∧ 9 ≤ s.twin.disputeWord) ∧
    (∃ (ok : Bool) (s : State), s.twin.step = .dispute ∧ s.twin.peer = none ∧ s.twin.own = none) ∧
    (∃ (s : State), s.twin.step = .dispute ∧ s.twin.peer = none ∧ s.twin.own = some false ∧ s.role = .active) ∧
    (∃ (s : State), s.twin.step = .dispute ∧ s.twin.peer = none ∧ s.twin.own = some true ∧ s.role = .active) ∧
    (∃ (s : State), s.twin.step = .dispute ∧ s.twin.peer = none ∧ s.twin.own = some false ∧ s.role = .standby) ∧
    (∃ (s : State), s.twin.step = .dispute ∧ s.twin.own = none ∧ s.twin.peer = none ∧ s.role = .active) ∧
    (∃ (s : State), s.twin.step ≠ .dispute) :=
  ⟨⟨({ sw0 with held := 0, notComputed := 0 } : SampleWords),
     { z with twin := { z.twin with ownWords := some (({ sw0 with held := 0, notComputed := 0 } : SampleWords)), peerWords := some (({ sw0 with held := 0, notComputed := 0 } : SampleWords)), step := .inStep } },
     by decide +kernel⟩,
   ⟨({ sw0 with held := 0, notComputed := 0 } : SampleWords),
     { z with twin := { z.twin with ownWords := some (({ sw0 with held := 0, notComputed := 0 } : SampleWords)), peerWords := some (({ sw0 with held := 0, notComputed := 0 } : SampleWords)), step := .suspect } },
     by decide +kernel⟩,
   ⟨(sw0 : SampleWords), ({ sw0 with pwmen := 1 } : SampleWords), 0,
     { z with twin := { z.twin with ownWords := some ((sw0 : SampleWords)), peerWords := some (({ sw0 with pwmen := 1 } : SampleWords)), step := .inStep } },
     by decide +kernel⟩,
   ⟨(sw0 : SampleWords), ({ sw0 with pwmen := 1 } : SampleWords), 0,
     { z with twin := { z.twin with ownWords := some ((sw0 : SampleWords)), peerWords := some (({ sw0 with pwmen := 1 } : SampleWords)), step := .suspect } },
     by decide +kernel⟩,
   ⟨({ sw0 with held := 1 } : SampleWords), (sw0 : SampleWords),
     { z with twin := { z.twin with step := .inStep, ownWords := some (({ sw0 with held := 1 } : SampleWords)), peerWords := some ((sw0 : SampleWords)) }, role := .active },
     by decide +kernel⟩,
   ⟨{ z with twin := { z.twin with step := .inStep, peerPermit := some z.sf.permit, peerFrame := none } }, by decide +kernel⟩,
   ⟨(fw0 : FrameWords), ({ fw0 with mode := 1 } : FrameWords), 0,
     { z with twin := { z.twin with step := .inStep, peerPermit := none, peerFrame := some ((fw0 : FrameWords)), ownFrame := some (({ fw0 with mode := 1 } : FrameWords)) } },
     by decide +kernel⟩,
   ⟨false, { z with twin := { z.twin with step := .dispute, own := none, peer := none, disputeWord := 9 } }, by decide +kernel⟩,
   ⟨false, { z with twin := { z.twin with step := .dispute, peer := none, own := none } }, by decide +kernel⟩,
   ⟨{ z with twin := { z.twin with step := .dispute, peer := none, own := some false }, role := .active }, by decide +kernel⟩,
   ⟨{ z with twin := { z.twin with step := .dispute, peer := none, own := some true }, role := .active }, by decide +kernel⟩,
   ⟨{ z with twin := { z.twin with step := .dispute, peer := none, own := some false }, role := .standby }, by decide +kernel⟩,
   ⟨{ z with twin := { z.twin with step := .dispute, own := none, peer := none }, role := .active }, by decide +kernel⟩,
   ⟨z, by decide +kernel⟩⟩
theorem witness_JoinTakeoverSwap :
    (∃ (s : State), s.twinMember = true ∧ s.twin.up = true ∧ s.twin.incompatible = false ∧ s.twin.step = .none ∧ s.role = .standby) ∧
    (∃ (s : State), s.twinMember = true ∧ s.twin.up = true ∧ s.twin.incompatible = false ∧ s.twin.step = .none ∧ s.role = .active ∧ s.acceptsJoin = true) ∧
    (∃ (s : State), s.twin.step.paired = true) ∧
    (∃ (i : Nat) (d : List Byte) (s : State), s.role = .standby ∧ s.twin.step = .joining ∧ s.twinMember = true ∧ s.twin.up = true) ∧
    (∃ (s : State), s.twin.step = .joining ∧ s.role = .standby) ∧
    (∃ (j : JoinState) (s : State), s.twin.step = .joining ∧ s.twin.final = true ∧ s.role = .active ∧ s.acceptsJoin = true) ∧
    (∃ (j : JoinState) (s : State), s.twin.step = .joining ∧ s.twin.final = true ∧ s.role = .standby) ∧
    (∃ (j : JoinState) (s : State), s.twin.final = false) ∧
    (∃ (s : State), s.twin.step = .joining ∧ s.role = .active) ∧
    (∃ (d : Nat) (s : State), s.twin.decided = some d ∧ s.role = .standby) ∧
    (∃ (s : State), s.role = .active) ∧
    (∃ (r : HostReq) (s : State) (u : State), s.accepts 4 r u ∧ fieldAt 0 1 r.payload = 0x20 ∧ u.role = .active ∧ u.swapReady = true ∧ u.mode ≠ .boot) ∧
    (∃ (r : HostReq) (s : State) (u : State), s.accepts 4 r u ∧ fieldAt 0 1 r.payload = 0x20 ∧ u.swapReady = false ∧ u.mode ≠ .boot) ∧
    (∃ (s : State), s.twin.swapAt = some s.time.frame ∧ s.twin.step = .inStep ∧ s.twin.ownFault = false ∧ s.role = .active) ∧
    (∃ (s : State), s.twin.swapAt = some s.time.frame ∧ s.twin.step = .inStep ∧ s.twin.ownFault = false ∧ s.role = .standby) ∧
    (∃ (s : State), s.twin.swapAt ≠ some s.time.frame) ∧
    (∃ (j : JoinState) (s : State), s.twin.step = .joining ∧ s.twin.final = true ∧ s.role = .active ∧ s.acceptsJoin = false) :=
  ⟨⟨{ z with twin := { z.twin with up := true, incompatible := false, step := .none }, role := .standby, plat := { z.plat with recs := [⟨0x4801, 0xFF, false, []⟩] } },
     by decide +kernel⟩,
   ⟨{ z with twin := { z.twin with up := true, incompatible := false, step := .none }, role := .active, mode := .armed, plat := { z.plat with recs := [⟨0x4801, 0xFF, false, []⟩] } },
     by decide +kernel⟩,
   ⟨{ z with twin := { z.twin with step := .inStep } }, by decide +kernel⟩,
   ⟨0, ([] : List Byte),
     { z with role := .standby, twin := { z.twin with step := .joining, up := true }, plat := { z.plat with recs := [⟨0x4801, 0xFF, false, []⟩] } }, by
     decide +kernel⟩,
   ⟨{ z with twin := { z.twin with step := .joining }, role := .standby }, by decide +kernel⟩,
   ⟨(join0 : JoinState), { z with twin := { z.twin with step := .joining, final := true }, role := .active, mode := .armed }, by decide +kernel⟩,
   ⟨(join0 : JoinState), { z with twin := { z.twin with step := .joining, final := true }, role := .standby }, by decide +kernel⟩,
   ⟨(join0 : JoinState), { z with twin := { z.twin with final := false } }, by decide +kernel⟩,
   ⟨{ z with twin := { z.twin with step := .joining }, role := .active }, by decide +kernel⟩,
   ⟨0, { z with twin := { z.twin with decided := some 0 }, role := .standby }, by decide +kernel⟩,
   ⟨{ z with role := .active }, by decide +kernel⟩,
   ⟨(signed 4 0 ([32])
     ({ (keyed .armed) with role := .active, twin := { (keyed .armed).twin with step := .inStep, eligibleFrom := some 0 }, time := { (keyed .armed).time with meridian := 10 ^ 15 } })),
     { (keyed .armed) with role := .active, twin := { (keyed .armed).twin with step := .inStep, eligibleFrom := some 0 }, time := { (keyed .armed).time with meridian := 10 ^ 15 } },
     (checked
     ({ (keyed .armed) with role := .active, twin := { (keyed .armed).twin with step := .inStep, eligibleFrom := some 0 }, time := { (keyed .armed).time with meridian := 10 ^ 15 } })),
     signed_accepts _ _ _ _ (by decide +kernel), by decide +kernel⟩,
   ⟨(signed 4 0 ([32]) ((keyed .surveyed))), (keyed .surveyed), (checked ((keyed .surveyed))), signed_accepts _ _ _ _ (by decide +kernel), by
     decide +kernel⟩,
   ⟨{ z with twin := { z.twin with swapAt := some 0, step := .inStep, ownFault := false }, role := .active }, by decide +kernel⟩,
   ⟨{ z with twin := { z.twin with swapAt := some 0, step := .inStep, ownFault := false }, role := .standby }, by decide +kernel⟩,
   ⟨z, by decide +kernel⟩,
   ⟨(join0 : JoinState), { z with twin := { z.twin with step := .joining, final := true }, role := .active }, by decide +kernel⟩⟩
theorem witness_ThermalProtection :
    (∃ (ch : Fin 12) (code : Nat) (s : State), (code ≤ 40 ∨ 4055 ≤ code) ∧ s.therm.ntcFault[ch.val] = false) ∧
    (∃ (ch : Fin 12) (code : Nat) (s : State), 40 < code ∧ code < 4055) ∧
    (∃ (ntc : Fin 8) (code : Nat) (s : State), code ≤ s.therm.tripCode[ntc.val] ∧ s.therm.stageTrip[(legOf ntc).val] = false ∧ s.conv[(legOf ntc).val].st
      = .running) ∧
    (∃ (ntc : Fin 8) (code : Nat) (s : State), s.therm.tripCode[ntc.val] < code) ∧
    (∃ (leg : Leg) (s : State), s.therm.stageTrip[leg.val] = true ∧ s.therm.restart[leg.val] = true ∧ s.conv[leg.val].st = .fault ∧
      s.conv[leg.val].enabled = true ∧ s.mode = .armed) ∧
    (∃ (leg : Leg) (s : State), s.therm.stageTrip[leg.val] = false) ∧
    (∃ (die : Fin 2) (temp : Int) (s : State), 1300 ≤ temp ∧ s.mode ≠ .off) ∧
    (∃ (die : Fin 2) (temp : Int) (s : State), temp < 1300) ∧
    (∃ (s : State), s.mode = .off ∧ s.ret.dieHold = true) ∧
    (∃ (s : State), s.time.frame % (max 1 (s.parN P.valvePeriod)) ≠ 0) ∧
    (∃ (s : State), s.time.frame % (max 1 (s.parN P.valvePeriod)) = 0 ∧ s.axesRun = true ∧ s.base.coreLost = false ∧ s.base.fieldLost = false ∧ s.par
      P.valveMode 0xFF 0 = 1 ∧ (∀ v : Fin 4, v ≠ 0 → s.par P.valveMode 0xFF v.val = 0) ∧ s.valveTemp 0 = none ∧ s.axis[0].homed = false ∧
      s.therm.valveHold[0] = true) ∧
    (∃ (f : Fin 4) (s : State), s.parN P.tachMinRpm 0xFF f.val ≠ 0 ∧ s.therm.fanRpm[f.val] < s.parN P.tachMinRpm 0xFF f.val ∧ s.parN P.tachMinDuty ≤
      s.therm.fanDuty[f.val] ∧ s.therm.fanFault[f.val] = false) ∧
    (∃ (f : Fin 4) (s : State), s.parN P.tachMinRpm 0xFF f.val ≤ s.therm.fanRpm[f.val]) ∧
    (∃ (f : Fin 4) (s : State), s.drive .fan = .active) ∧
    (∃ (f : Fin 4) (s : State), s.drive .fan = .high) ∧
    (∃ (f : Fin 4) (s : State), s.drive .fan = .low) :=
  ⟨⟨(0 : Fin 12), 40, { z with therm := { z.therm with ntcFault := (vmod (z.therm.ntcFault) ((0 : Fin 12)) (fun x0 => false)) } }, by decide +kernel⟩,
   ⟨(0 : Fin 12), 41, z, by decide +kernel⟩,
   ⟨(0 : Fin 8), 0,
     { z with therm := { z.therm with stageTrip := (vmod (z.therm.stageTrip) ((legOf ((0 : Fin 8)))) (fun x0 => false)) }, conv := (vmod (z.conv) ((legOf ((0 : Fin 8)))) (fun x0 => { x0 with st := .running })) },
     by decide +kernel⟩,
   ⟨(0 : Fin 8), 4095, { z with therm := { z.therm with tripCode := (vmod (z.therm.tripCode) 0 (fun x0 => 4094)) } }, by decide +kernel⟩,
   ⟨(0 : Leg),
     { z with therm := { z.therm with stageTrip := (vmod (z.therm.stageTrip) ((0 : Leg)) (fun x0 => true)), restart := (vmod (z.therm.restart) ((0 : Leg)) (fun x0 => true)) }, conv := (vmod (z.conv) ((0 : Leg)) (fun x0 => { x0 with st := .fault, enabled := true })), mode := .armed },
     by decide +kernel⟩,
   ⟨(0 : Leg), { z with therm := { z.therm with stageTrip := (vmod (z.therm.stageTrip) ((0 : Leg)) (fun x0 => false)) } }, by decide +kernel⟩,
   ⟨(0 : Fin 2), (1300 : Int), { z with mode := .surveyed }, by decide +kernel⟩,
   ⟨(0 : Fin 2), (1299 : Int), z, by decide +kernel⟩,
   ⟨{ z with mode := .off, ret := { z.ret with dieHold := true } }, by decide +kernel⟩,
   ⟨{ z with time := { z.time with frame := 1 } }, by decide +kernel⟩,
   ⟨{ z with base := { z.base with coreLost := false, fieldLost := false }, axis := (vmod (z.axis) 0 (fun x0 => { x0 with homed := false })), therm := { z.therm with valveHold := (vmod (z.therm.valveHold) 0 (fun x0 => true)) }, mode := .armed, plat := { z.plat with recs := [parRec P.valveMode.basic 0xFF [(P.valveMode.idx, 0, 1), (P.valveMode.idx, 0, 1)]] } },
     by decide +kernel⟩,
   ⟨(0 : Fin 4), { z with therm := { z.therm with fanFault := (vmod (z.therm.fanFault) ((0 : Fin 4)) (fun x0 => false)) } }, by decide +kernel⟩,
   ⟨(0 : Fin 4), { z with therm := { z.therm with fanRpm := (vmod (z.therm.fanRpm) 0 (fun x0 => 100000)) } }, by decide +kernel⟩,
   ⟨(0 : Fin 4), { z with mode := .armed }, by decide +kernel⟩,
   ⟨(0 : Fin 4), { z with mode := .faultHold, start := { z.start with reduced := true } }, by decide +kernel⟩,
   ⟨(0 : Fin 4), { z with mode := .running, start := { z.start with lastGasp := true, lastGaspFrom := .running } }, by decide +kernel⟩⟩
theorem witness_AxisMotion :
    (∃ (v : Vector Nat 4) (s : State), s.axesRun = false) ∧
    (∃ (v : Vector Nat 4) (s : State), s.axesDriven = true ∧ (∀ i : Fin 4, s.axis[i.val].st = .holding ∧ s.axis[i.val].edge = none ∧ s.axis[i.val].lead =
      0)) ∧
    (∃ (ax : Fin 4) (stamp : Nat) (s : State), s.axPar ax P.homePol = 1 ∧ s.axis[ax.val].homeLevel = false ∧ s.axis[ax.val].homeQual = false ∧
      s.axis[ax.val].edge = none ∧ s.axis[ax.val].limitNow = false) ∧
    (∃ (ax : Fin 4) (stamp : Nat) (e : Int × Nat × Bool) (s : State), s.axPar ax P.homePol = 1 ∧ s.axis[ax.val].homeLevel = true ∧ s.axis[ax.val].edge =
      some e ∧ s.axis[ax.val].chatterAt = []) ∧
    (∃ (ax : Fin 4) (s : State), bitAt (s.axPar ax P.limitsFitted).toNat 0 = true ∧ s.axPar ax P.limPol = 1 ∧ s.axis[ax.val].st = .moving ∧ 0 <
      s.axis[ax.val].v) ∧
    (∃ (ax : Fin 4) (level : Bool) (s : State), bitAt (s.axPar ax P.limitsFitted).toNat 1 = false) ∧
    (∃ (ax : Fin 4) (s : State), s.axis[ax.val].st = .holding) ∧
    (∃ (ax : Fin 4) (s : State), (s.axis[ax.val].vmot : Int) < s.axPar ax P.vmotMin ∧ s.axPar ax P.axFitted = 1 ∧ s.axis[ax.val].st ≠ .fault) ∧
    (∃ (ax : Fin 4) (s : State), s.axPar ax P.vmotMin ≤ s.axis[ax.val].vmot) ∧
    (∃ (ax : Fin 4) (s : State), s.axis[ax.val].st = .fault ∧ s.axis[ax.val].cause = 1 ∧ s.axPar ax P.vmotMin ≤ s.axis[ax.val].vmot ∧ s.axPar ax
      P.autoHome = 0) ∧
    (∃ (ax : Fin 4) (s : State), s.axis[ax.val].st ≠ .fault) :=
  ⟨⟨(Vector.replicate 4 0 : Vector Nat 4), z, by decide +kernel⟩,
   ⟨(Vector.replicate 4 0 : Vector Nat 4), { z with mode := .armed, axis := Vector.replicate 4 { st := .holding } }, by decide +kernel⟩,
   ⟨(0 : Fin 4), 0,
     { z with axis := (vmod (z.axis) ((0 : Fin 4)) (fun x0 => { x0 with homeLevel := false, homeQual := false, edge := none, limitNow := false })), plat := { z.plat with recs := [parRec P.homePol.basic 0 [(P.homePol.idx, 0, 1)]] } },
     by decide +kernel⟩,
   ⟨(0 : Fin 4), 0, ((0, 0, false) : Int × Nat × Bool),
     { z with axis := (vmod (z.axis) ((0 : Fin 4)) (fun x0 => { x0 with homeLevel := true, edge := some (((0, 0, false) : Int × Nat × Bool)), chatterAt := [] })), plat := { z.plat with recs := [parRec P.homePol.basic 0 [(P.homePol.idx, 0, 1)]] } },
     by decide +kernel⟩,
   ⟨(0 : Fin 4),
     { z with axis := (vmod (vmod (z.axis) ((0 : Fin 4)) (fun x0 => { x0 with st := .moving })) 0 (fun x0 => { x0 with st := .moving, v := 1 })), plat := { z.plat with recs := [parRec P.limitsFitted.basic 0 [(P.limitsFitted.idx, 0, 1), (P.limPol.idx, 0, 1)]] } },
     by decide +kernel⟩,
   ⟨(0 : Fin 4), false, { z with plat := { z.plat with recs := [parRec P.limitsFitted.basic 0 [(P.limitsFitted.idx, 0, 0)]] } }, by decide +kernel⟩,
   ⟨(0 : Fin 4), { z with axis := (vmod (z.axis) ((0 : Fin 4)) (fun x0 => { x0 with st := .holding })) }, by decide +kernel⟩,
   ⟨(0 : Fin 4),
     { z with axis := (vmod (z.axis) 0 (fun x0 => { x0 with vmot := 11999 })), plat := { z.plat with recs := [parRec P.vmotMin.basic 0 [(P.vmotMin.idx, 0, 12000), (P.axFitted.idx, 0, 1)]] } },
     by decide +kernel⟩,
   ⟨(0 : Fin 4),
     { z with axis := (vmod (z.axis) 0 (fun x0 => { x0 with vmot := 12000 })), plat := { z.plat with recs := [parRec P.vmotMin.basic 0 [(P.vmotMin.idx, 0, 12000)]] } },
     by decide +kernel⟩,
   ⟨(0 : Fin 4),
     { z with axis := (vmod (vmod (z.axis) ((0 : Fin 4)) (fun x0 => { x0 with st := .fault, cause := 1 })) 0 (fun x0 => { x0 with vmot := 12000, st := .fault, cause := 1 })), plat := { z.plat with recs := [parRec P.vmotMin.basic 0 [(P.vmotMin.idx, 0, 12000), (P.autoHome.idx, 0, 0)]] } },
     by decide +kernel⟩,
   ⟨(0 : Fin 4), z, by decide +kernel⟩⟩
theorem witness_AxisTargets :
    (∃ (i : Fin 4) (v : Int) (s : State), s.inStates runtimeStates = true) ∧
    (∃ (i : Fin 4) (v : Int) (s : State), (s.axis[i.val].homed = false ∨ s.axis[i.val].st = .homing)) ∧
    (∃ (i : Fin 4) (s : State), s.axis[i.val].step = .found ∧ s.axis[i.val].v = 0 ∧ s.axis[i.val].held = true) ∧
    (∃ (i : Fin 4) (s : State), s.axis[i.val].step = .found ∧ s.axis[i.val].v = 0 ∧ s.axis[i.val].held = false) ∧
    (∃ (i : Fin 4) (s : State) (x : Int), s.axis[i.val].step = .found ∧ s.axis[i.val].v = 0 ∧ s.axis[i.val].held = true ∧ x = (s.axis[i.val].position -
      s.axis[i.val].latch + s.axPar i P.homeOffset) * axU ∧ s.axis[i.val].target * axU ≠ x ∧
      ({ s.axis[i.val] with x := x, homed := true, st := .holding, held := false } : Axis).mayMove = true) :=
  ⟨⟨(0 : Fin 4), (0 : Int), { z with mode := .surveyed }, by decide +kernel⟩,
   ⟨(0 : Fin 4), (0 : Int), { z with axis := (vmod (z.axis) ((0 : Fin 4)) (fun x0 => { x0 with homed := false })) }, by decide +kernel⟩,
   ⟨(0 : Fin 4), { z with axis := (vmod (z.axis) ((0 : Fin 4)) (fun x0 => { x0 with step := .found, v := 0, held := true })) }, by decide +kernel⟩,
   ⟨(0 : Fin 4), { z with axis := (vmod (z.axis) ((0 : Fin 4)) (fun x0 => { x0 with step := .found, v := 0, held := false })) }, by decide +kernel⟩,
   ⟨(0 : Fin 4),
     { z with axis := (vmod (vmod (z.axis) ((0 : Fin 4)) (fun x0 => { x0 with step := .found, v := 0, held := true })) 0 (fun x0 => { x0 with target := 1 })) },
     (0 : Int), by decide +kernel⟩⟩
theorem witness_StoreBursts :
    (∃ (path : Nat) (last : Nat) (may : Fin 16 → Bool) (c : Fin 16) (s : State), s.grant path last may = some c) ∧
    (∃ (p : Fin 2) (c : Fin 16) (cond : Nat) (s : State), s.su.port[p.val].recovering = false ∧ s.su.port[p.val].busy = none ∧ s.grant p.val
      s.su.port[p.val].last (fun d => s.maySuspend p d) = some c ∧ s.touchFault c cond = 0 ∧ s.su.ch[c.val].op = .read ∧ (s.su.ch[c.val].len ≤
      s.su.ch[c.val].progress + burstLen (s.su.ch[c.val].addr + s.su.ch[c.val].progress) (s.su.ch[c.val].len - s.su.ch[c.val].progress) → c.val ∉
      ownedChannels)) ∧
    (∃ (p : Fin 2) (c : Fin 16) (cond : Nat) (s : State), s.su.port[p.val].recovering = false ∧ s.su.port[p.val].busy = none ∧ s.grant p.val
      s.su.port[p.val].last (fun d => s.maySuspend p d) = some c ∧ s.touchFault c cond = 0 ∧ s.su.ch[c.val].op = .write) ∧
    (∃ (p : Fin 2) (c : Fin 16) (cond : Nat) (s : State), s.su.port[p.val].recovering = false ∧ s.su.port[p.val].busy = none ∧ s.grant p.val
      s.su.port[p.val].last (fun d => s.maySuspend p d) = some c ∧ s.touchFault c cond = 0 ∧ s.su.ch[c.val].op = .erase) ∧
    (∃ (p : Fin 2) (c : Fin 16) (cond : Nat) (f : Nat) (s : State), s.su.port[p.val].recovering = false ∧ s.su.port[p.val].busy = none ∧ s.grant p.val
      s.su.port[p.val].last (fun d => s.maySuspend p d) = some c ∧ s.touchFault c cond = f ∧ f ≠ 0 ∧ c.val ∉ ownedChannels) ∧
    (∃ (p : Fin 2) (cond : Nat) (s : State), (s.su.port[p.val].recovering = true ∨ s.grant p.val s.su.port[p.val].last (fun d => s.maySuspend p d) =
      none)) ∧
    (∃ (p : Fin 2) (c : Fin 16) (s : State), s.su.port[p.val].busy = some c.val ∧ s.su.ch[c.val].op = .write ∧ (s.su.ch[c.val].len ≤
      s.su.ch[c.val].progress + s.su.ch[c.val].buffer.length → c.val ∉ ownedChannels)) ∧
    (∃ (p : Fin 2) (c : Fin 16) (s : State), s.su.port[p.val].busy = some c.val ∧ s.su.ch[c.val].op = .write ∧ c.val ∉ ownedChannels) ∧
    (∃ (p : Fin 2) (pass : Bool) (s : State), s.su.port[p.val].busy = none) ∧
    (∃ (p : Fin 2) (c : Fin 16) (s : State), s.su.port[p.val].busy = some c.val ∧ s.su.ch[c.val].op = .erase ∧ c.val ∉ ownedChannels) ∧
    (∃ (p : Fin 2) (c : Fin 16) (s : State), s.su.port[p.val].busy = some c.val ∧ s.su.ch[c.val].op = .erase ∧ c.val ∉ ownedChannels) :=
  ⟨⟨0, 15, ((fun _ => true) : Fin 16 → Bool), (4 : Fin 16),
     { z with su := { z.su with port := (vmod (z.su.port) 0 (fun x0 => { x0 with kind := 1, mb := 16, up := true })), ch := (vmod (z.su.ch) 4 (fun x0 => { x0 with st := .active, op := .read, len := 64 })) } },
     by decide +kernel⟩,
   ⟨(0 : Fin 2), (4 : Fin 16), 0,
     { z with su := { z.su with port := (vmod (vmod (z.su.port) ((0 : Fin 2)) (fun x0 => { x0 with recovering := false, busy := none })) 0 (fun x0 => { x0 with kind := 1, mb := 16, up := true })), ch := (vmod (vmod (z.su.ch) ((4 : Fin 16)) (fun x0 => { x0 with op := .read })) 4 (fun x0 => { x0 with st := .active, op := .read, len := 128 })) } },
     by decide +kernel⟩,
   ⟨(0 : Fin 2), (14 : Fin 16), 0,
     { z with su := { z.su with port := (vmod (vmod (z.su.port) ((0 : Fin 2)) (fun x0 => { x0 with recovering := false, busy := none })) 0 (fun x0 => { x0 with kind := 1, mb := 128, up := true })), ch := (vmod (vmod (z.su.ch) ((14 : Fin 16)) (fun x0 => { x0 with op := .write })) 14 (fun x0 => { x0 with st := .active, op := .write, len := 64, addr := 13320 * 4096 })) } },
     by decide +kernel⟩,
   ⟨(0 : Fin 2), (14 : Fin 16), 0,
     { z with su := { z.su with port := (vmod (vmod (z.su.port) ((0 : Fin 2)) (fun x0 => { x0 with recovering := false, busy := none })) 0 (fun x0 => { x0 with kind := 1, mb := 128, up := true })), ch := (vmod (vmod (z.su.ch) ((14 : Fin 16)) (fun x0 => { x0 with op := .erase })) 14 (fun x0 => { x0 with st := .active, op := .erase, len := 64, addr := 13320 * 4096 })) } },
     by decide +kernel⟩,
   ⟨(0 : Fin 2), (4 : Fin 16), 0, 2,
     { z with su := { z.su with port := (vmod (vmod (z.su.port) ((0 : Fin 2)) (fun x0 => { x0 with recovering := false, busy := none })) 0 (fun x0 => { x0 with kind := 1, mb := 16, up := true })), ch := (vmod (z.su.ch) 4 (fun x0 => { x0 with st := .active, op := .write, len := 64, addr := 0 })) } },
     by decide +kernel⟩,
   ⟨(0 : Fin 2), 0, { z with su := { z.su with port := (vmod (z.su.port) ((0 : Fin 2)) (fun x0 => { x0 with recovering := true })) } }, by decide +kernel⟩,
   ⟨(0 : Fin 2), (4 : Fin 16),
     { z with su := { z.su with port := (vmod (vmod (z.su.port) ((0 : Fin 2)) (fun x0 => { x0 with busy := some ((4 : Fin 16)).val })) 0 (fun x0 => { x0 with busy := some 4 })), ch := (vmod (vmod (z.su.ch) ((4 : Fin 16)) (fun x0 => { x0 with op := .write })) 4 (fun x0 => { x0 with op := .write, len := 1 })) } },
     by decide +kernel⟩,
   ⟨(0 : Fin 2), (4 : Fin 16),
     { z with su := { z.su with port := (vmod (vmod (z.su.port) ((0 : Fin 2)) (fun x0 => { x0 with busy := some ((4 : Fin 16)).val })) 0 (fun x0 => { x0 with busy := some 4 })), ch := (vmod (vmod (z.su.ch) ((4 : Fin 16)) (fun x0 => { x0 with op := .write })) 4 (fun x0 => { x0 with op := .write })) } },
     by decide +kernel⟩,
   ⟨(0 : Fin 2), false, { z with su := { z.su with port := (vmod (z.su.port) ((0 : Fin 2)) (fun x0 => { x0 with busy := none })) } }, by decide +kernel⟩,
   ⟨(0 : Fin 2), (4 : Fin 16),
     { z with su := { z.su with port := (vmod (vmod (z.su.port) ((0 : Fin 2)) (fun x0 => { x0 with busy := some ((4 : Fin 16)).val })) 0 (fun x0 => { x0 with busy := some 4 })), ch := (vmod (vmod (z.su.ch) ((4 : Fin 16)) (fun x0 => { x0 with op := .erase })) 4 (fun x0 => { x0 with op := .erase })) } },
     by decide +kernel⟩,
   ⟨(0 : Fin 2), (4 : Fin 16),
     { z with su := { z.su with port := (vmod (vmod (z.su.port) ((0 : Fin 2)) (fun x0 => { x0 with busy := some ((4 : Fin 16)).val })) 0 (fun x0 => { x0 with busy := some 4 })), ch := (vmod (vmod (z.su.ch) ((4 : Fin 16)) (fun x0 => { x0 with op := .erase })) 4 (fun x0 => { x0 with op := .erase })) } },
     by decide +kernel⟩⟩
theorem witness_StoreFaults :
    (∃ (c : Fin 16) (unit : Nat) (s : State), s.su.ch[c.val].st ≠ .halted) ∧
    (∃ (c : Fin 16) (unit : Nat) (s : State), s.su.ch[c.val].st = .halted ∧ s.su.ch[c.val].fault = 3) ∧
    (∃ (c : Fin 16) (p : Fin 2) (unit : Nat) (s : State), s.su.ch[c.val].st = .halted ∧ (s.su.ch[c.val].fault = 4 ∨ s.su.ch[c.val].fault = 5) ∧ s.portOf
      s.su.ch[c.val].faultPage = some p ∧ s.su.port[p.val].kind = 1) ∧
    (∃ (c : Fin 16) (p : Fin 2) (unit : Nat) (s : State), s.su.ch[c.val].st = .halted ∧ (s.su.ch[c.val].fault = 4 ∨ s.su.ch[c.val].fault = 5) ∧ s.portOf
      s.su.ch[c.val].faultPage = some p ∧ s.su.port[p.val].kind = 2 ∧ s.su.port[p.val].retired + 2 < s.reserveBlocks s.su.port[p.val]) ∧
    (∃ (c : Fin 16) (p : Fin 2) (unit : Nat) (s : State), s.su.ch[c.val].st = .halted ∧ (s.su.ch[c.val].fault = 4 ∨ s.su.ch[c.val].fault = 5) ∧ s.portOf
      s.su.ch[c.val].faultPage = some p ∧ s.su.port[p.val].kind = 2 ∧ s.reserveBlocks s.su.port[p.val] ≤ s.su.port[p.val].retired + 2) ∧
    (∃ (c : Fin 16) (p : Fin 2) (s : State), s.su.ch[c.val].st = .halted ∧ s.su.ch[c.val].fault = 6 ∧ s.portOf s.su.ch[c.val].faultPage = some p ∧
      s.su.port[p.val].up = true ∧ s.su.ch[c.val].op = .write ∧ s.su.ch[c.val].addr % s.su.port[p.val].unit = 0 ∧ s.su.ch[c.val].progress = 0 ∧
      s.su.port[p.val].unit < s.su.ch[c.val].len) ∧
    (∃ (c : Fin 16) (unit : Nat) (s : State), s.su.ch[c.val].st = .halted ∧ (s.su.ch[c.val].fault = 1 ∨ s.su.ch[c.val].fault = 2 ∨ s.su.ch[c.val].fault =
      7)) ∧
    (∃ (c : Fin 16) (s : State), s.su.ch[c.val].st = .halted) ∧
    (∃ (c : Fin 16) (s : State), s.su.ch[c.val].st ≠ .halted) ∧
    (∃ (p : Fin 2) (s : State), s.su.port[p.val].kind ≠ 0 ∧ s.su.port[p.val].down = false ∧ (∀ c : Fin 16, c ∈ s.onPort p → c.val ∉ ownedChannels)) ∧
    (∃ (p : Fin 2) (s : State), s.su.port[p.val].kind = 0) ∧
    (∃ (p : Fin 2) (s : State), s.su.port[p.val].recovering = true ∧ (∀ q : Fin 2, s.su.port[q.val].down = false)) ∧
    (∃ (p : Fin 2) (s : State), s.su.port[p.val].recovering = true ∧ (∀ q : Fin 2, s.su.port[q.val].down = false) ∧ s.su.port[p.val].failAt = []) ∧
    (∃ (p : Fin 2) (a : Nat) (b : Nat) (s : State), s.su.port[p.val].recovering = true ∧ s.su.port[p.val].failAt = [a, b] ∧ s.time.meridian < a + 10 *
      ticksPerSecond ∧ s.time.meridian < b + 10 * ticksPerSecond) ∧
    (∃ (w : Fin 2) (s : State), s.su.ch[(winCh w).val].st = .halted) ∧
    (∃ (w : Fin 2) (s : State), s.su.ch[(winCh w).val].st ≠ .halted) ∧
    (∃ (p : Fin 2) (s : State) (c : Fin 16), s.su.port[p.val].kind ≠ 0 ∧ s.su.port[p.val].down = false ∧ (∀ c : Fin 16, c ∈ s.onPort p → c.val ∉
      ownedChannels) ∧ c ∈ s.onPort p) ∧
    (∃ (p : Fin 2) (s : State) (c : Fin 16), s.su.port[p.val].kind ≠ 0 ∧ s.su.port[p.val].down = false ∧ (∀ c : Fin 16, c ∈ s.onPort p → c.val ∉
      ownedChannels) ∧ c ∉ s.onPort p) :=
  ⟨⟨(0 : Fin 16), 0, z, by decide +kernel⟩,
   ⟨(0 : Fin 16), 0, { z with su := { z.su with ch := (vmod (z.su.ch) ((0 : Fin 16)) (fun x0 => { x0 with st := .halted, fault := 3 })) } }, by
     decide +kernel⟩,
   ⟨(0 : Fin 16), (0 : Fin 2), 0,
     { z with su := { z.su with ch := (vmod (vmod (z.su.ch) ((0 : Fin 16)) (fun x0 => { x0 with st := .halted, fault := 4 })) 0 (fun x0 => { x0 with st := .halted, fault := 4, faultPage := 0 })), port := (vmod (vmod (z.su.port) ((0 : Fin 2)) (fun x0 => { x0 with kind := 1 })) 0 (fun x0 => { x0 with kind := 1, mb := 16, up := true })) } },
     by decide +kernel⟩,
   ⟨(0 : Fin 16), (0 : Fin 2), 0,
     { z with su := { z.su with ch := (vmod (vmod (z.su.ch) ((0 : Fin 16)) (fun x0 => { x0 with st := .halted, fault := 4 })) 0 (fun x0 => { x0 with st := .halted, fault := 4, faultPage := 0 })), port := (vmod (vmod (z.su.port) ((0 : Fin 2)) (fun x0 => { x0 with kind := 2 })) 0 (fun x0 => { x0 with kind := 2, mb := 16, up := true })) }, plat := { z.plat with recs := [parRec P.nandReserve.basic 0xFF [(P.nandReserve.idx, 0, 5)]] } },
     by decide +kernel⟩,
   ⟨(0 : Fin 16), (0 : Fin 2), 0,
     { z with su := { z.su with ch := (vmod (vmod (z.su.ch) ((0 : Fin 16)) (fun x0 => { x0 with st := .halted, fault := 4 })) 0 (fun x0 => { x0 with st := .halted, fault := 4, faultPage := 0 })), port := (vmod (vmod (z.su.port) ((0 : Fin 2)) (fun x0 => { x0 with kind := 2 })) 0 (fun x0 => { x0 with kind := 2, mb := 16, up := true, retired := 1 })) }, plat := { z.plat with recs := [parRec P.nandReserve.basic 0xFF [(P.nandReserve.idx, 0, 5)]] } },
     by decide +kernel⟩,
   ⟨(0 : Fin 16), (0 : Fin 2),
     { z with su := { z.su with ch := (vmod (vmod (z.su.ch) ((0 : Fin 16)) (fun x0 => { x0 with st := .halted, fault := 6, op := .write, progress := 0 })) 0 (fun x0 => { x0 with st := .halted, fault := 6, faultPage := 0, op := .write, len := 257 })), port := (vmod (vmod (z.su.port) ((0 : Fin 2)) (fun x0 => { x0 with up := true })) 0 (fun x0 => { x0 with kind := 1, mb := 16, up := true })) } },
     by decide +kernel⟩,
   ⟨(0 : Fin 16), 0, { z with su := { z.su with ch := (vmod (z.su.ch) ((0 : Fin 16)) (fun x0 => { x0 with st := .halted, fault := 1 })) } }, by
     decide +kernel⟩,
   ⟨(0 : Fin 16), { z with su := { z.su with ch := (vmod (z.su.ch) ((0 : Fin 16)) (fun x0 => { x0 with st := .halted })) } }, by decide +kernel⟩,
   ⟨(0 : Fin 16), z, by decide +kernel⟩,
   ⟨(0 : Fin 2), { z with su := { z.su with port := (vmod (z.su.port) ((0 : Fin 2)) (fun x0 => { x0 with kind := 1, down := false })) } }, by
     decide +kernel⟩,
   ⟨(0 : Fin 2), { z with su := { z.su with port := (vmod (z.su.port) ((0 : Fin 2)) (fun x0 => { x0 with kind := 0 })) } }, by decide +kernel⟩,
   ⟨(0 : Fin 2), { z with su := { z.su with port := (vmod (z.su.port) ((0 : Fin 2)) (fun x0 => { x0 with recovering := true })) } }, by decide +kernel⟩,
   ⟨(0 : Fin 2), { z with su := { z.su with port := (vmod (z.su.port) ((0 : Fin 2)) (fun x0 => { x0 with recovering := true, failAt := [] })) } }, by
     decide +kernel⟩,
   ⟨(0 : Fin 2), 0, 0,
     { z with su := { z.su with port := (vmod (z.su.port) ((0 : Fin 2)) (fun x0 => { x0 with recovering := true, failAt := [0, 0] })) } }, by
     decide +kernel⟩,
   ⟨(0 : Fin 2), { z with su := { z.su with ch := (vmod (z.su.ch) ((winCh ((0 : Fin 2)))) (fun x0 => { x0 with st := .halted })) } }, by decide +kernel⟩,
   ⟨(0 : Fin 2), z, by decide +kernel⟩,
   ⟨(0 : Fin 2),
     { z with su := { z.su with port := (vmod (vmod (z.su.port) ((0 : Fin 2)) (fun x0 => { x0 with kind := 1, down := false })) 0 (fun x0 => { x0 with mb := 16, up := true })), ch := (vmod (z.su.ch) 4 (fun x0 => { x0 with st := .active, op := .read, len := 64 })) } },
     (4 : Fin 16), by decide +kernel⟩,
   ⟨(0 : Fin 2), { z with su := { z.su with port := (vmod (z.su.port) ((0 : Fin 2)) (fun x0 => { x0 with kind := 1, down := false })) } }, (7 : Fin 16),
     by decide +kernel⟩⟩
theorem witness_AbandonedDescriptor :
    (∃ (c : Fin 16) (s : State), s.su.ch[c.val].st = .halted) :=
  ⟨(0 : Fin 16), { z with su := { z.su with ch := (vmod (z.su.ch) ((0 : Fin 16)) (fun x0 => { x0 with st := .halted })) } }, by decide +kernel⟩
theorem witness_FieldBookRows :
    (∃ (s : State), (s.fb.isOpen = true ∨ s.fb.closed = true ∨ s.mode = .boot ∨ s.mode = .plat ∨ s.mode = .off ∨ s.mode = .laidUp)) ∧
    (∃ (s : State), s.fb.isOpen = false ∧ s.fb.closed = false ∧ s.mode = .load ∧ s.su.short = false ∧ s.store = [] ∧ s.plat.recovery = false ∧
      s.plat.header.isSome = true) ∧
    (∃ (p : Nat) (seq : Nat) (s : State), s.fb.isOpen = false ∧ s.fb.closed = false ∧ s.mode = .load ∧ s.su.short = false ∧ s.plat.recovery = false ∧
      s.plat.header.isSome = true ∧ s.bookHeaders s.fbPages = [(p, seq, s.parN P.fbMb)]) ∧
    (∃ (s : State), s.mode ≠ .off ∧ s.mode ≠ .laidUp) ∧
    (∃ (s : State), (s.mode = .off ∨ s.mode = .laidUp)) ∧
    (∃ (s : State), s.time.meridian / ticksPerSecond ≤ s.fb.second) ∧
    (∃ (s : State), s.fb.second < s.time.meridian / ticksPerSecond) ∧
    (∃ (s : State), s.bookReady = true ∧ s.bookNand = true ∧ s.fb.inProgram = none ∧ s.fb.nandBuffer ≠ [] ∧ s.fb.erasedAhead ≠ 0) ∧
    (∃ (s : State), (s.bookNand = false ∨ s.bookReady = false ∨ s.fb.nandBuffer = [])) ∧
    (∃ (fbRate : Nat) (r : FbRecord) (fb : FieldBook), fb.closed = false ∧ (r.source < 32 ∨ (rateOf fb r.source).1 < fbRate)) ∧
    (∃ (fbRate : Nat) (r : FbRecord) (fb : FieldBook), fb.closed = false ∧ (r.source < 32 ∨ (rateOf fb r.source).1 < fbRate)) ∧
    (∃ (fbRate : Nat) (r : FbRecord) (fb : FieldBook), fb.closed = false ∧ 32 ≤ r.source ∧ fbRate ≤ (rateOf fb r.source).1) ∧
    (∃ (fbRate : Nat) (r : FbRecord) (fb : FieldBook), fb.closed = false ∧ 32 ≤ r.source ∧ fbRate ≤ (rateOf fb r.source).1) ∧
    (∃ (fbRate : Nat) (r : FbRecord) (fb : FieldBook), fb.closed = true) ∧
    (∃ (r : FbRecord) (l : List FbRecord), (List.Pairwise (fun a b => a.stamp < b.stamp ∨ (a.stamp = b.stamp ∧ a.source ≤ b.source)) l)) ∧
    (∃ (s : State), s.fb.second < s.time.meridian / ticksPerSecond ∧ (∀ e : Nat × Nat × Nat, e ∈ s.fb.rate → e.2.2 = 0)) :=
  ⟨⟨{ z with fb := { z.fb with isOpen := true } }, by decide +kernel⟩,
   ⟨{ z with fb := { z.fb with isOpen := false, closed := false }, mode := .load, su := { z.su with short := false }, store := [], plat := { z.plat with recovery := false, header := some header0 } },
     by decide +kernel⟩,
   ⟨fbStart, 5,
     { z with fb := { z.fb with isOpen := false, closed := false }, mode := .load, su := { z.su with short := false, port := (vmod (z.su.port) 0 (fun x0 => { x0 with kind := 1, mb := 128, up := true })) }, plat := { z.plat with recovery := false, header := some header0 }, store := Memory.writeBytes [] (fbStart * 4096) (pageHeader 5 64) },
     by decide +kernel⟩,
   ⟨{ z with mode := .surveyed }, by decide +kernel⟩,
   ⟨{ z with mode := .off }, by decide +kernel⟩,
   ⟨z, by decide +kernel⟩,
   ⟨{ z with time := { z.time with meridian := 250000000 } }, by decide +kernel⟩,
   ⟨{ z with fb := { z.fb with inProgram := none, erasedAhead := 1, isOpen := true, nandBuffer := [0] }, su := { z.su with port := (vmod (z.su.port) 0 (fun x0 => { x0 with kind := 2, mb := 128, up := true })) } },
     by decide +kernel⟩,
   ⟨z, by decide +kernel⟩,
   ⟨0, (fbRec0 : FbRecord), ({ ({} : FieldBook) with closed := false } : FieldBook), by decide +kernel⟩,
   ⟨0, (fbRec0 : FbRecord), ({ ({} : FieldBook) with closed := false } : FieldBook), by decide +kernel⟩,
   ⟨0, ({ fbRec0 with source := 32 } : FbRecord), ({ ({} : FieldBook) with closed := false } : FieldBook), by decide +kernel⟩,
   ⟨0, ({ fbRec0 with source := 32 } : FbRecord), ({ ({} : FieldBook) with closed := false } : FieldBook), by decide +kernel⟩,
   ⟨0, (fbRec0 : FbRecord), ({ ({} : FieldBook) with closed := true } : FieldBook), by decide +kernel⟩,
   ⟨(fbRec0 : FbRecord), ([] : List FbRecord), by decide +kernel⟩,
   ⟨{ z with time := { z.time with meridian := 250000000 }, fb := { z.fb with rate := [] } }, by decide +kernel⟩⟩
theorem witness_RecordWriting :
    (∃ (r : FbRecord) (rest : List FbRecord) (s : State), s.fb.writeHalted = false ∧ s.bookReady = true ∧ s.fb.inProgram = none ∧ s.bookNand = false ∧
      s.fb.queue = r :: rest ∧ s.recordFits r.bytes = true ∧ s.fb.offset ≠ 0) ∧
    (∃ (p : Fin 2) (b : List Byte) (s : State), s.su.port[p.val].busy = some 2 ∧ s.su.ch[2].op = .write ∧ s.su.ch[2].st = .active ∧ s.su.ch[2].len ≤
      s.su.ch[2].progress + s.su.ch[2].buffer.length ∧ s.fb.inProgram = some b ∧ s.bookNand = false ∧ s.fb.marking = false ∧ s.fb.offset ≠ 0) ∧
    (∃ (p : Fin 2) (s : State), s.su.port[p.val].busy = some 2 ∧ s.su.ch[2].op = .write ∧ s.su.ch[2].st = .active ∧ s.su.ch[2].progress +
      s.su.ch[2].buffer.length < s.su.ch[2].len) ∧
    (∃ (page : List Byte) (n : Nat) (o : Nat) (f : Found), f ∈ scanPage page n o) ∧
    (∃ (p : Nat) (seq : Nat) (s : State), s.fb.isOpen = false ∧ s.fb.closed = false ∧ s.mode = .load ∧ s.su.short = false ∧ s.plat.recovery = false ∧
      s.plat.header.isSome = true ∧ s.bookHeaders s.fbPages = [(p, seq, s.parN P.fbMb)]) :=
  ⟨⟨(fbRec0 : FbRecord), ([] : List FbRecord),
     { z with fb := { z.fb with writeHalted := false, inProgram := none, queue := [fbRec0], offset := 16, isOpen := true } }, by decide +kernel⟩,
   ⟨(0 : Fin 2), ([] : List Byte),
     { z with su := { z.su with port := (vmod (z.su.port) ((0 : Fin 2)) (fun x0 => { x0 with busy := some 2 })), ch := (vmod (z.su.ch) 2 (fun x0 => { x0 with op := .write, st := .active })) }, fb := { z.fb with inProgram := some (([] : List Byte)), marking := false, offset := 1 } },
     by decide +kernel⟩,
   ⟨(0 : Fin 2),
     { z with su := { z.su with port := (vmod (vmod (z.su.port) ((0 : Fin 2)) (fun x0 => { x0 with busy := some 2 })) 0 (fun x0 => { x0 with busy := some 2 })), ch := (vmod (z.su.ch) 2 (fun x0 => { x0 with op := .write, st := .active, len := 1 })) } },
     by decide +kernel⟩,
   ⟨(List.replicate 16 0 ++ fbRec0.bytes ++ markBytes : List Byte), 1, 16, (⟨16, 48, true, true⟩ : Found), by decide +kernel⟩,
   ⟨fbStart, 5,
     { z with fb := { z.fb with isOpen := false, closed := false }, mode := .load, su := { z.su with short := false, port := (vmod (z.su.port) 0 (fun x0 => { x0 with kind := 1, mb := 128, up := true })) }, plat := { z.plat with recovery := false, header := some header0 }, store := Memory.writeBytes [] (fbStart * 4096) (pageHeader 5 64) },
     by decide +kernel⟩⟩
theorem witness_NetworkRows :
    (∃ (v : Vector PhyRead 2) (s : State), s.hostServed = false) ∧
    (∃ (v : Vector PhyRead 2) (s : State), s.hostServed = true) ∧
    (∃ (r : PhyRead) (l : Lan), r.present = true ∧ r.link = true ∧ r.aneg = true) ∧
    (∃ (r : PhyRead) (l : Lan), r.present = true ∧ r.link = false ∧ 1 ≤ l.misses) ∧
    (∃ (r : PhyRead) (l : Lan), r.present = true ∧ r.link = false ∧ 1 ≤ l.misses) ∧
    (∃ (r : PhyRead) (l : Lan), r.present = true ∧ r.link = false ∧ l.misses = 0) ∧
    (∃ (r : PhyRead) (l : Lan), r.present = true ∧ r.link = false ∧ l.misses = 0) ∧
    (∃ (lan : Fin 2) (f : EthFrame) (stamp : Nat) (s : State), s.hostServed = true ∧ s.net.lan[lan.val].link = true ∧ f.good = false) ∧
    (∃ (lan : Fin 2) (f : EthFrame) (stamp : Nat) (s : State), s.hostServed = true ∧ s.net.lan[lan.val].link = true ∧ f.good = true ∧ s.vlanOk f.vlan =
      false) ∧
    (∃ (lan : Fin 2) (f : EthFrame) (q : Nat) (n : PrpNode) (stamp : Nat) (s : State), s.hostServed = true ∧ s.net.lan[lan.val].link = true ∧ f.good =
      true ∧ s.vlanOk f.vlan = true ∧ f.prp = some (q, 10 + lan.val) ∧ bypasses f.kind = false ∧ n ∈ s.net.nodes ∧ n.mac = f.src ∧ n.duplicate lan.val q
      stamp = true) ∧
    (∃ (lan : Fin 2) (f : EthFrame) (stamp : Nat) (s : State), s.hostServed = false) ∧
    (∃ (ip : Nat) (mac : Nat) (target : Nat) (s : State), s.hostServed = true ∧ s.answersOn target = true) ∧
    (∃ (ip : Nat) (mac : Nat) (target : Nat) (s : State), s.answersOn target = false) ∧
    (∃ (target : Nat) (s : State), s.hostServed = true ∧ s.answersOn target = true ∧ s.net.icmpSecond ≠ s.time.meridian / ticksPerSecond) ∧
    (∃ (target : Nat) (s : State), s.net.icmpSecond = s.time.meridian / ticksPerSecond ∧ 10 ≤ s.net.icmpNow) ∧
    (∃ (s : State), s.hostServed = true) ∧
    (∃ (lan : Fin 2) (entered : Bool) (s : State), s.hostServed = true ∧ s.net.lan[lan.val].degraded ≠ entered) ∧
    (∃ (lan : Fin 2) (entered : Bool) (s : State), s.net.lan[lan.val].degraded = entered) ∧
    (∃ (s : State), s.host.failNow ≠ 0) ∧
    (∃ (s : State), s.host.failNow = 0) ∧
    (∃ (v : Vector PhyRead 2) (s : State), s.hostServed = true ∧ (Lan.poll v[0] s.net.lan[0]).link = s.net.lan[0].link ∧ (Lan.poll v[1] s.net.lan[1]).link
      = s.net.lan[1].link) :=
  ⟨⟨(Vector.replicate 2 phy0 : Vector PhyRead 2), z, by decide +kernel⟩,
   ⟨(Vector.replicate 2 phy0 : Vector PhyRead 2), { z with mode := .surveyed }, by decide +kernel⟩,
   ⟨({ phy0 with present := true, link := true, aneg := true } : PhyRead), (({} : Lan) : Lan), by decide +kernel⟩,
   ⟨({ phy0 with link := false } : PhyRead), ({ misses := 1 } : Lan), by decide +kernel⟩,
   ⟨({ phy0 with link := false } : PhyRead), ({ misses := 1 } : Lan), by decide +kernel⟩,
   ⟨({ phy0 with link := false } : PhyRead), ({} : Lan), by decide +kernel⟩,
   ⟨({ phy0 with link := false } : PhyRead), ({} : Lan), by decide +kernel⟩,
   ⟨(0 : Fin 2), ({ eth0 with good := false } : EthFrame), 0,
     { z with mode := .surveyed, net := { z.net with lan := (vmod (z.net.lan) ((0 : Fin 2)) (fun x0 => { x0 with link := true })) } }, by decide +kernel⟩,
   ⟨(0 : Fin 2), ({ eth0 with vlan := some 4000 } : EthFrame), 0,
     { z with mode := .surveyed, net := { z.net with lan := (vmod (z.net.lan) ((0 : Fin 2)) (fun x0 => { x0 with link := true })) } }, by decide +kernel⟩,
   ⟨(0 : Fin 2), ({ eth0 with src := 9, prp := some (0, 10) } : EthFrame), 0, (⟨9, [(0, 1, 0)]⟩ : PrpNode), 0,
     { z with mode := .surveyed, net := { z.net with lan := (vmod (vmod (z.net.lan) ((0 : Fin 2)) (fun x0 => { x0 with link := true })) 0 (fun x0 => { x0 with link := true })), nodes := [⟨9, [(0, 1, 0)]⟩] } },
     by decide +kernel⟩,
   ⟨(0 : Fin 2), (eth0 : EthFrame), 0, z, by decide +kernel⟩,
   ⟨0, 0, 0x0A000001, { z with mode := .surveyed, plat := { z.plat with recs := [parRec P.ipAddr.basic 0xFF [(P.ipAddr.idx, 0, 0x0A000001)]] } }, by
     decide +kernel⟩,
   ⟨0, 0, 0, z, by decide +kernel⟩,
   ⟨0x0A000001,
     { z with mode := .surveyed, net := { z.net with icmpSecond := 1 }, plat := { z.plat with recs := [parRec P.ipAddr.basic 0xFF [(P.ipAddr.idx, 0, 0x0A000001)]] } },
     by decide +kernel⟩,
   ⟨0, { z with net := { z.net with icmpSecond := 0, icmpNow := 10 } }, by decide +kernel⟩,
   ⟨{ z with mode := .surveyed }, by decide +kernel⟩,
   ⟨(0 : Fin 2), true, { z with mode := .surveyed }, by decide +kernel⟩,
   ⟨(0 : Fin 2), false, { z with net := { z.net with lan := (vmod (z.net.lan) ((0 : Fin 2)) (fun x0 => { x0 with degraded := false })) } }, by
     decide +kernel⟩,
   ⟨{ z with host := { z.host with failNow := 1 } }, by decide +kernel⟩,
   ⟨{ z with host := { z.host with failNow := 0 } }, by decide +kernel⟩,
   ⟨(Vector.replicate 2 { phy0 with link := false } : Vector PhyRead 2), { z with mode := .surveyed }, by decide +kernel⟩⟩
theorem witness_RequestChecks :
    (∃ (r : HostReq) (s : State), r.forwarded = false ∧ s.hostServed = false) ∧
    (∃ (r : HostReq) (s : State), r.forwarded = false ∧ s.hostServed = true ∧ s.bist.keyFault = false ∧ s.bist.keysValid = false) ∧
    (∃ (r : HostReq) (s : State), r.forwarded = false ∧ s.hostServed = true ∧ s.bist.keyFault = false ∧ s.bist.keysValid = true ∧ (s.hostKey r.keyId =
      none ∨ r.version ≠ 1 ∨ lengthOk r = false ∨ (∃ role key, s.hostKey r.keyId = some (role, key) ∧ macOk key 1 r = false))) ∧
    (∃ (r : HostReq) (role : Nat) (key : List Byte) (s : State), r.forwarded = false ∧ s.hostServed = true ∧ s.bist.keyFault = false ∧ s.bist.keysValid =
      true ∧ s.hostKey r.keyId = some (role, key) ∧ r.version = 1 ∧ lengthOk r = true ∧ macOk key 1 r = true ∧ r.epoch ≠ s.epoch) ∧
    (∃ (r : HostReq) (role : Nat) (key : List Byte) (s : State), r.forwarded = false ∧ s.hostServed = true ∧ s.bist.keyFault = false ∧ s.bist.keysValid =
      true ∧ s.hostKey r.keyId = some (role, key) ∧ r.version = 1 ∧ lengthOk r = true ∧ macOk key 1 r = true ∧ r.epoch = s.epoch ∧ (s.host.slot[(slotIndex
      r.keyId).val]).fresh r.nonce = false) ∧
    (∃ (r : HostReq) (role : Nat) (key : List Byte) (s : State), r.forwarded = false ∧ s.hostServed = true ∧ s.bist.keyFault = false ∧ s.bist.keysValid =
      true ∧ s.hostKey r.keyId = some (role, key) ∧ r.version = 1 ∧ lengthOk r = true ∧ macOk key 1 r = true ∧ r.epoch = s.epoch ∧ (s.host.slot[(slotIndex
      r.keyId).val]).fresh r.nonce = true ∧ bitAt r.flags 4 = false ∧ role < 1) ∧
    (∃ (r : HostReq) (role : Nat) (key : List Byte) (s : State), r.forwarded = false ∧ s.hostServed = true ∧ s.bist.keyFault = false ∧ s.bist.keysValid =
      true ∧ s.hostKey r.keyId = some (role, key) ∧ r.version = 1 ∧ lengthOk r = true ∧ macOk key 1 r = true ∧ r.epoch = s.epoch ∧ (s.host.slot[(slotIndex
      r.keyId).val]).fresh r.nonce = true ∧ bitAt r.flags 4 = false ∧ 1 ≤ role ∧ s.parN P.hostMaxPerFrame ≤ s.host.admitted) ∧
    (∃ (r : HostReq) (role : Nat) (key : List Byte) (s : State), r.forwarded = false ∧ s.hostServed = true ∧ s.bist.keyFault = false ∧ s.bist.keysValid =
      true ∧ s.hostKey r.keyId = some (role, key) ∧ r.version = 1 ∧ lengthOk r = true ∧ macOk key 1 r = true ∧ r.epoch = s.epoch ∧ (s.host.slot[(slotIndex
      r.keyId).val]).fresh r.nonce = true ∧ bitAt r.flags 4 = false ∧ 1 ≤ role ∧ s.host.admitted < s.parN P.hostMaxPerFrame) ∧
    (∃ (k : HostSlot) (n : Nat), k.fresh n = true) ∧
    (∃ (k : HostSlot) (n : Nat) (m : Nat), k.fresh n = true ∧ k.fresh m = false) ∧
    (∃ (r : HostReq) (s : State), r.forwarded = false ∧ s.hostServed = true ∧ s.bist.keyFault = false ∧ s.bist.keysValid = true ∧ (s.hostKey r.keyId =
      none ∨ r.version ≠ 1 ∨ lengthOk r = false ∨ (∃ role key, s.hostKey r.keyId = some (role, key) ∧ macOk key 1 r = false)) ∧ s.host.unauthSecond =
      s.time.meridian / ticksPerSecond ∧ 10 ≤ s.host.unauthNow) :=
  ⟨⟨({ req0 with forwarded := false } : HostReq), z, by decide +kernel⟩,
   ⟨({ req0 with forwarded := false } : HostReq), { z with mode := .surveyed, bist := { z.bist with keyFault := false, keysValid := false } }, by
     decide +kernel⟩,
   ⟨({ req0 with forwarded := false } : HostReq), { z with mode := .surveyed, bist := { z.bist with keyFault := false, keysValid := true } }, ⟨by
     decide +kernel, by decide +kernel, by decide +kernel, by decide +kernel, Or.inl (by decide +kernel)⟩⟩,
   ⟨signedAs 1 { req0 with epoch := (keyed .surveyed).epoch + 1, nonce := 1 }, 3, key0, keyed .surveyed, rfl, by decide +kernel, by decide +kernel, by
     decide +kernel, by decide +kernel, rfl, by decide +kernel, signedAs_mac 1 _, Nat.succ_ne_self _⟩,
   ⟨signedAs 1 { req0 with epoch := (keyed .surveyed).epoch, nonce := 0 }, 3, key0, keyed .surveyed, rfl, by decide +kernel, by decide +kernel, by
     decide +kernel, by decide +kernel, rfl, by decide +kernel, signedAs_mac 1 _, rfl, by decide +kernel⟩,
   ⟨signedAs 1 { req0 with epoch := ({ keyed .surveyed with fuses.hostKeys := vmod z.fuses.hostKeys 0 (fun _ => some (0, key0)) }).epoch, nonce := 1 }, 0,
     key0, { keyed .surveyed with fuses.hostKeys := vmod z.fuses.hostKeys 0 (fun _ => some (0, key0)) }, rfl, by decide +kernel, by decide +kernel, by
     decide +kernel, by decide +kernel, rfl, by decide +kernel, signedAs_mac 1 _, rfl, by decide +kernel, by decide +kernel, by decide +kernel⟩,
   ⟨signedAs 1 { req0 with epoch := ({ keyed .surveyed with host.admitted := 1000 }).epoch, nonce := 1 }, 3, key0,
     { keyed .surveyed with host.admitted := 1000 }, rfl, by decide +kernel, by decide +kernel, by decide +kernel, by decide +kernel, rfl, by
     decide +kernel, signedAs_mac 1 _, rfl, by decide +kernel, by decide +kernel, by decide +kernel, by decide +kernel⟩,
   ⟨signedAs 1 { req0 with epoch := (keyed .surveyed).epoch, nonce := 1 }, 3, key0, keyed .surveyed, rfl, by decide +kernel, by decide +kernel, by
     decide +kernel, by decide +kernel, rfl, by decide +kernel, signedAs_mac 1 _, rfl, by decide +kernel, by decide +kernel, by decide +kernel, by
     decide +kernel⟩,
   ⟨(({} : HostSlot) : HostSlot), 1, by decide +kernel⟩,
   ⟨(({} : HostSlot) : HostSlot), 1, 0, by decide +kernel⟩,
   ⟨({ req0 with forwarded := false } : HostReq),
     { z with mode := .surveyed, bist := { z.bist with keyFault := false, keysValid := true }, host := { z.host with unauthNow := 10 } }, ⟨by
     decide +kernel, by decide +kernel, by decide +kernel, by decide +kernel, Or.inl (by decide +kernel), by decide +kernel, by decide +kernel⟩⟩⟩
theorem witness_HostOperations :
    (∃ (r : HostReq) (is : List Item) (s : State) (u : State), s.accepts 1 r u ∧ itemList r.payload = some is ∧ u.readSize is ≤ 1426) ∧
    (∃ (r : HostReq) (is : List Item) (s : State) (u : State), s.accepts 1 r u ∧ itemList r.payload = some is ∧ 1426 < u.readSize is) ∧
    (∃ (r : HostReq) (s : State) (u : State), s.accepts 1 r u ∧ itemList r.payload = none) ∧
    (∃ (r : HostReq) (w : WriteItem) (s : State) (u : State), s.accepts 2 r u ∧ u.writeItems (fieldAt 0 1 r.payload) (r.payload.drop 1) = some [w] ∧
      u.itemStatus w = 0) ∧
    (∃ (r : HostReq) (ws : List WriteItem) (s : State) (u : State), s.accepts 2 r u ∧ u.writeItems (fieldAt 0 1 r.payload) (r.payload.drop 1) = some ws ∧
      bitAt r.flags 0 = true ∧ (∃ w, w ∈ ws ∧ u.itemStatus w ≠ 0)) ∧
    (∃ (r : HostReq) (s : State) (u : State), s.accepts 2 r u ∧ u.writeItems (fieldAt 0 1 r.payload) (r.payload.drop 1) = none) ∧
    (∃ (r : HostReq) (is : List Item) (s : State) (u : State), s.accepts 3 r u ∧ itemList (r.payload.drop 4) = some is ∧ fieldAt 0 1 r.payload ≤ 15 ∧
      fieldAt 2 2 r.payload ≠ 0 ∧ u.readSize is + 1 ≤ 1426 ∧ u.host.subs = [] ∧ u.readSize is + 1 ≤ u.parN P.pubBytes) ∧
    (∃ (r : HostReq) (is : List Item) (s : State) (u : State), s.accepts 3 r u ∧ itemList (r.payload.drop 4) = some is ∧ fieldAt 0 1 r.payload ≤ 15 ∧
      fieldAt 2 2 r.payload = 0) ∧
    (∃ (r : HostReq) (is : List Item) (s : State) (u : State), s.accepts 3 r u ∧ itemList (r.payload.drop 4) = some is ∧ 15 < fieldAt 0 1 r.payload) ∧
    (∃ (i : Nat) (x : Sub) (s : State), s.host.subs[i]? = some x ∧ s.hostServed = true ∧ x.due s.time.frame = true) ∧
    (∃ (i : Nat) (s : State), s.host.subs[i]? = none) ∧
    (∃ (i : Nat) (s : State), i < s.host.subs.length) ∧
    (∃ (i : Nat) (s : State), i < s.host.followers.length) ∧
    (∃ (r : HostReq) (s : State) (u : State), s.accepts 7 r u ∧ fieldAt 0 1 r.payload = 0 ∧ r.payload.length = 8) ∧
    (∃ (r : HostReq) (s : State) (u : State), s.accepts 7 r u ∧ fieldAt 0 1 r.payload = 1 ∧ (∀ f : Follower, f ∈ u.host.followers → f.is r = false) ∧
      u.host.followers.length < 8) ∧
    (∃ (r : HostReq) (s : State) (u : State), s.accepts 7 r u ∧ fieldAt 0 1 r.payload = 1 ∧ (∀ f : Follower, f ∈ u.host.followers → f.is r = false) ∧ 8 ≤
      u.host.followers.length) ∧
    (∃ (r : HostReq) (s : State) (u : State), s.accepts 7 r u ∧ fieldAt 0 1 r.payload = 2) :=
  ⟨⟨(signed 1 0 ([0]) ((keyed .surveyed))), ([] : List Item), (keyed .surveyed), (checked ((keyed .surveyed))), signed_accepts _ _ _ _ (by
     decide +kernel), by decide +kernel⟩,
   ⟨(signed 1 0 ([2, 1, 0, 0, 20, 0, 0, 0, 0, 1, 0, 0, 20, 0, 0, 0, 0]) ((keyed .surveyed))), ([(0x14000001, 0, 0), (0x14000001, 0, 0)] : List Item),
     (keyed .surveyed), (checked ((keyed .surveyed))), signed_accepts _ _ _ _ (by decide +kernel), by decide +kernel⟩,
   ⟨(signed 1 0 ([1]) ((keyed .surveyed))), (keyed .surveyed), (checked ((keyed .surveyed))), signed_accepts _ _ _ _ (by decide +kernel), by
     decide +kernel⟩,
   ⟨(signed 2 0 ([1, 9, 0, 0, 136, 0, 0, 0, 0, 1]) ((keyed .surveyed))), (⟨0x88000009, 0, [(0, 1)]⟩ : WriteItem), (keyed .surveyed), (checked ((keyed
     .surveyed))), signed_accepts _ _ _ _ (by decide +kernel), by decide +kernel⟩,
   ⟨(signed 2 1 ([1, 255, 255, 255, 255, 0, 0, 0, 0]) ((keyed .surveyed))), ([⟨0xFFFFFFFF, 1, []⟩] : List WriteItem), (keyed .surveyed), (checked ((keyed
     .surveyed))), signed_accepts _ _ _ _ (by decide +kernel), ⟨by decide +kernel, by decide +kernel, ⟨⟨0xFFFFFFFF, 1, []⟩, by decide +kernel⟩⟩⟩,
   ⟨(signed 2 0 ([1]) ((keyed .surveyed))), (keyed .surveyed), (checked ((keyed .surveyed))), signed_accepts _ _ _ _ (by decide +kernel), by
     decide +kernel⟩,
   ⟨(signed 3 0 ([15, 0, 1, 0, 0]) ({ (keyed .surveyed) with host := { (keyed .surveyed).host with subs := [] } })), ([] : List Item),
     { (keyed .surveyed) with host := { (keyed .surveyed).host with subs := [] } }, (checked
     ({ (keyed .surveyed) with host := { (keyed .surveyed).host with subs := [] } })), signed_accepts _ _ _ _ (by decide +kernel), by decide +kernel⟩,
   ⟨(signed 3 0 ([15, 0, 0, 0, 0]) ((keyed .surveyed))), ([] : List Item), (keyed .surveyed), (checked ((keyed .surveyed))), signed_accepts _ _ _ _ (by
     decide +kernel), by decide +kernel⟩,
   ⟨(signed 3 0 ([16, 0, 1, 0, 0]) ((keyed .surveyed))), ([] : List Item), (keyed .surveyed), (checked ((keyed .surveyed))), signed_accepts _ _ _ _ (by
     decide +kernel), by decide +kernel⟩,
   ⟨0, (⟨0, 0, 0, 0, 1, [], 0, 0, 0⟩ : Sub), { z with mode := .surveyed, host := { z.host with subs := [⟨0, 0, 0, 0, 1, [], 0, 0, 0⟩] } }, by
     decide +kernel⟩,
   ⟨0, z, by decide +kernel⟩,
   ⟨0, { z with host := { z.host with subs := [⟨0, 0, 0, 0, 1, [], 0, 0, 0⟩] } }, by decide +kernel⟩,
   ⟨0, { z with host := { z.host with followers := [⟨0, 0, 0, 0, 0⟩] } }, by decide +kernel⟩,
   ⟨(signed 7 0 ([0, 0, 0, 0, 0, 0, 0, 0]) ((keyed .surveyed))), (keyed .surveyed), (checked ((keyed .surveyed))), signed_accepts _ _ _ _ (by
     decide +kernel), by decide +kernel⟩,
   ⟨(signed 7 0 ([1]) ((keyed .surveyed))), (keyed .surveyed), (checked ((keyed .surveyed))), signed_accepts _ _ _ _ (by decide +kernel), by
     decide +kernel⟩,
   ⟨(signed 7 0 ([1]) ({ (keyed .surveyed) with host := { (keyed .surveyed).host with followers := List.replicate 8 ⟨1, 1, 1, 0, 0⟩ } })),
     { (keyed .surveyed) with host := { (keyed .surveyed).host with followers := List.replicate 8 ⟨1, 1, 1, 0, 0⟩ } }, (checked
     ({ (keyed .surveyed) with host := { (keyed .surveyed).host with followers := List.replicate 8 ⟨1, 1, 1, 0, 0⟩ } })), signed_accepts _ _ _ _ (by
     decide +kernel), by decide +kernel⟩,
   ⟨(signed 7 0 ([2]) ((keyed .surveyed))), (keyed .surveyed), (checked ((keyed .surveyed))), signed_accepts _ _ _ _ (by decide +kernel), by
     decide +kernel⟩⟩
theorem witness_ObjectWrites :
    (∃ (id : Nat) (elem : Nat) (v : Int) (s : State), s.hostWrites = true ∧ s.writeStatus id elem v = 0 ∧ s.clearOnes id v.toNat = none) ∧
    (∃ (id : Nat) (elem : Nat) (v : Int) (s : State), (s.hostWrites = false ∨ s.writeStatus id elem v ≠ 0)) ∧
    (∃ (v : Nat) (s : State), s.hostWrites = true ∧ s.writeStatus 0x02000004 0 v = 0) ∧
    (∃ (v : Nat) (s : State), s.hostWrites = true ∧ s.writeStatus 0x02000005 0 v = 0) ∧
    (∃ (v : Nat) (s : State), s.hostWrites = true ∧ s.writeStatus 0x14100001 0 v = 0) ∧
    (∃ (v : Nat) (s : State), s.hostWrites = true ∧ s.writeStatus 0x20100002 0 v = 0) ∧
    (∃ (leg : Leg) (v : Nat) (s : State), s.hostWrites = true ∧ s.writeStatus (0x38000006 + leg.val * 65536) 0 v = 0) ∧
    (∃ (a : Fin 4) (v : Int) (s : State), s.hostWrites = true ∧ s.writeStatus (0x58000004 + a.val * 65536) 0 v = 0) ∧
    (∃ (a : Fin 4) (s : State), s.hostWrites = true ∧ s.writeStatus (0x58000005 + a.val * 65536) 0 1 = 0) ∧
    (∃ (a : Fin 4) (s : State), s.hostWrites = true ∧ s.writeStatus (0x58000005 + a.val * 65536) 0 2 = 0) ∧
    (∃ (a : Fin 4) (v : Nat) (s : State), s.hostWrites = true ∧ s.writeStatus (0x58000006 + a.val * 65536) 0 v = 0) ∧
    (∃ (c : Fin 4) (v : Nat) (s : State), s.hostWrites = true ∧ s.writeStatus (0x78000002 + c.val * 65536) 0 v = 0) ∧
    (∃ (v : Nat) (s : State), s.hostWrites = true ∧ s.writeStatus 0x8000000B 0 v = 0) ∧
    (∃ (v : Nat) (s : State), s.hostWrites = true ∧ s.writeStatus 0x88000009 0 v = 0) ∧
    (∃ (v : Nat) (leg : Leg) (s : State), s.hostWrites = false) ∧
    (∃ (v : Int) (s : State), s.inStates runtimeStates = true) ∧
    (∃ (v : Int) (s : State), s.inStates runtimeStates = false) ∧
    (∃ (s : State), s.host.writes = []) ∧
    (∃ (id : Nat) (elem : Nat) (v : Int) (s : State), s.host.writes = [(id, elem, v)]) ∧
    (∃ (id : Nat) (elem : Nat) (u : Int) (v : Int) (s : State), s.host.writes = [(id, elem, u), (id, elem, v)]) ∧
    (∃ (s : State), s.upd.session = 4) ∧
    (∃ (s : State), s.bist.inSlice = true) ∧
    (∃ (s : State), s.bist.inSlice = false) :=
  ⟨⟨0x14100001, 0, (0 : Int), { z with mode := .surveyed }, by decide +kernel⟩,
   ⟨0, 0, (0 : Int), z, by decide +kernel⟩,
   ⟨0, { z with mode := .surveyed }, by decide +kernel⟩,
   ⟨0, { z with mode := .surveyed }, by decide +kernel⟩,
   ⟨0, { z with mode := .surveyed }, by decide +kernel⟩,
   ⟨0, { z with mode := .surveyed }, by decide +kernel⟩,
   ⟨(0 : Leg), 0, { z with mode := .surveyed }, by decide +kernel⟩,
   ⟨(0 : Fin 4), (0 : Int), { z with mode := .surveyed }, by decide +kernel⟩,
   ⟨(0 : Fin 4), { z with mode := .surveyed }, by decide +kernel⟩,
   ⟨(0 : Fin 4), { z with mode := .surveyed }, by decide +kernel⟩,
   ⟨(0 : Fin 4), 0, { z with mode := .surveyed }, by decide +kernel⟩,
   ⟨(0 : Fin 4), 0, { z with mode := .surveyed }, by decide +kernel⟩,
   ⟨0, { z with mode := .surveyed }, by decide +kernel⟩,
   ⟨1, { z with mode := .surveyed }, by decide +kernel⟩,
   ⟨0, (0 : Leg), z, by decide +kernel⟩,
   ⟨(0 : Int), { z with mode := .surveyed }, by decide +kernel⟩,
   ⟨(0 : Int), z, by decide +kernel⟩,
   ⟨{ z with host := { z.host with writes := [] } }, by decide +kernel⟩,
   ⟨0, 0, (0 : Int), { z with host := { z.host with writes := [(0, 0, ((0 : Int)))] } }, by decide +kernel⟩,
   ⟨0, 0, (0 : Int), (0 : Int), { z with host := { z.host with writes := [(0, 0, ((0 : Int))), (0, 0, ((0 : Int)))] } }, by decide +kernel⟩,
   ⟨{ z with upd := { z.upd with session := 4 } }, by decide +kernel⟩,
   ⟨{ z with bist := { z.bist with inSlice := true } }, by decide +kernel⟩,
   ⟨{ z with bist := { z.bist with inSlice := false } }, by decide +kernel⟩⟩
theorem witness_LatchesCleared :
    (∃ (leg : Leg) (v : Nat) (s : State), s.hostWrites = true ∧ s.writeStatus (0x10000001 + leg.val * 2 ^ 24) 0 v = 0) ∧
    (∃ (v : Nat) (s : State), s.hostWrites = true ∧ s.writeStatus 0x40000001 0 v = 0) ∧
    (∃ (v : Nat) (s : State), s.hostWrites = true ∧ s.writeStatus 0x01000020 0 v = 0) ∧
    (∃ (v : Nat) (s : State), s.hostWrites = true ∧ s.writeStatus 0x02000003 0 v = 0) ∧
    (∃ (v : Nat) (s : State), s.hostWrites = true ∧ s.writeStatus 0x04000001 0 v = 0) ∧
    (∃ (v : Nat) (s : State), s.hostWrites = true ∧ s.writeStatus 0x04000010 0 v = 0) ∧
    (∃ (v : Nat) (s : State), s.hostWrites = true ∧ s.writeStatus 0x20100017 0 v = 0) ∧
    (∃ (v : Nat) (s : State), s.hostWrites = true ∧ s.writeStatus 0x20100018 0 v = 0) ∧
    (∃ (v : Nat) (s : State), s.hostWrites = true ∧ s.writeStatus 0x68000001 0 v = 0) ∧
    (∃ (c : Fin 4) (v : Nat) (s : State), s.hostWrites = true ∧ s.writeStatus (0x78000001 + c.val * 65536) 0 v = 0) ∧
    (∃ (v : Nat) (c : Fin 4) (s : State), s.hostWrites = false) :=
  ⟨⟨(0 : Leg), 0, { z with mode := .surveyed }, by decide +kernel⟩,
   ⟨0, { z with mode := .surveyed }, by decide +kernel⟩,
   ⟨0, { z with mode := .surveyed }, by decide +kernel⟩,
   ⟨0, { z with mode := .surveyed }, by decide +kernel⟩,
   ⟨0, { z with mode := .surveyed }, by decide +kernel⟩,
   ⟨0, { z with mode := .surveyed }, by decide +kernel⟩,
   ⟨0, { z with mode := .surveyed }, by decide +kernel⟩,
   ⟨0, { z with mode := .surveyed }, by decide +kernel⟩,
   ⟨0, { z with mode := .surveyed }, by decide +kernel⟩,
   ⟨(0 : Fin 4), 0, { z with mode := .surveyed }, by decide +kernel⟩,
   ⟨0, (0 : Fin 4), z, by decide +kernel⟩⟩
theorem witness_ModuleCommands :
    (∃ (r : HostReq) (s : State) (u : State), s.accepts 4 r u ∧ fieldAt 0 1 r.payload = 0x01 ∧ u.mode = .surveyed ∧ u.layup.step = 0 ∧ u.healthy = true ∧
      u.fuses.lifecycle = 2) ∧
    (∃ (r : HostReq) (s : State) (u : State), s.accepts 4 r u ∧ fieldAt 0 1 r.payload = 0x01 ∧ u.mode ≠ .surveyed ∧ u.mode ≠ .boot) ∧
    (∃ (r : HostReq) (s : State) (u : State), s.accepts 4 r u ∧ fieldAt 0 1 r.payload = 0x01 ∧ u.mode = .surveyed ∧ u.layup.step = 0 ∧ (u.healthy = false
      ∨ u.fuses.lifecycle ≠ 2)) ∧
    (∃ (r : HostReq) (s : State) (u : State), s.accepts 4 r u ∧ fieldAt 0 1 r.payload = 0x02 ∧ (u.mode = .armed ∨ u.mode = .running)) ∧
    (∃ (r : HostReq) (s : State) (u : State), s.accepts 4 r u ∧ fieldAt 0 1 r.payload = 0x02 ∧ u.mode ≠ .armed ∧ u.mode ≠ .running ∧ u.mode ≠ .boot) ∧
    (∃ (r : HostReq) (s : State) (u : State), s.accepts 4 r u ∧ fieldAt 0 1 r.payload = 0x03 ∧ 5 ≤ r.payload.length ∧ fieldAt 4 1 r.payload = 0 ∧ (u.mode
      = .surveyed ∨ (u.mode = .faultHold ∧ u.releasable = true)) ∧ u.persisting = 0 ∧ (u.sf.tripReq = true → u.feedbackOpen = true)) ∧
    (∃ (r : HostReq) (s : State) (u : State), s.accepts 4 r u ∧ fieldAt 0 1 r.payload = 0x03 ∧ 5 ≤ r.payload.length ∧ fieldAt 4 1 r.payload = 0 ∧ (u.mode
      = .surveyed ∨ u.mode = .faultHold) ∧ u.persisting ≠ 0) ∧
    (∃ (leg : Leg) (r : HostReq) (s : State) (u : State), s.accepts 4 r u ∧ fieldAt 0 1 r.payload = 0x03 ∧ 5 ≤ r.payload.length ∧ fieldAt 4 1 r.payload =
      2 ^ leg.val ∧ (u.mode = .surveyed ∨ u.mode = .armed ∨ u.mode = .running) ∧ u.conv[leg.val].st = .fault ∧ u.legPersists leg = false) ∧
    (∃ (r : HostReq) (s : State) (u : State), s.accepts 4 r u ∧ fieldAt 0 1 r.payload = 0x04 ∧ (u.mode = .surveyed ∨ u.mode = .faultHold) ∧
      u.start.learnedRead = false) ∧
    (∃ (r : HostReq) (s : State) (u : State), s.accepts 4 r u ∧ fieldAt 0 1 r.payload = 0x04 ∧ (u.mode = .surveyed ∨ u.mode = .faultHold) ∧
      u.start.learnedRead = true ∧ u.learn.due = none) ∧
    (∃ (r : HostReq) (s : State) (u : State), s.accepts 4 r u ∧ fieldAt 0 1 r.payload = 0x04 ∧ u.mode ≠ .surveyed ∧ u.mode ≠ .faultHold ∧ u.mode ≠ .boot) ∧
    (∃ (r : HostReq) (s : State) (u : State), s.accepts 4 r u ∧ fieldAt 0 1 r.payload = 0x05 ∧ u.mode = .surveyed ∧ u.layup.step = 0 ∧ u.layup.due =
      false) ∧
    (∃ (r : HostReq) (s : State) (u : State), s.accepts 4 r u ∧ fieldAt 0 1 r.payload = 0x05 ∧ (u.mode ≠ .surveyed ∨ u.layup.step ≠ 0 ∨ u.layup.due =
      true) ∧ u.mode ≠ .boot) ∧
    (∃ (s : State), s.layup.due = true ∧ s.mode = .surveyed ∧ s.start.learnedRead = true ∧ (∀ l : Leg, s.measurable l = false)) :=
  ⟨⟨(signed 4 0 ([1])
     ({ (keyed .surveyed) with layup := { (keyed .surveyed).layup with step := 0 }, fuses := { (keyed .surveyed).fuses with lifecycle := 2 }, start := { (keyed .surveyed).start with bistPassed := true }, sf := { (keyed .surveyed).sf with pair := z.sf.pair } })),
     { (keyed .surveyed) with layup := { (keyed .surveyed).layup with step := 0 }, fuses := { (keyed .surveyed).fuses with lifecycle := 2 }, start := { (keyed .surveyed).start with bistPassed := true }, sf := { (keyed .surveyed).sf with pair := z.sf.pair } },
     (checked
     ({ (keyed .surveyed) with layup := { (keyed .surveyed).layup with step := 0 }, fuses := { (keyed .surveyed).fuses with lifecycle := 2 }, start := { (keyed .surveyed).start with bistPassed := true }, sf := { (keyed .surveyed).sf with pair := z.sf.pair } })),
     signed_accepts _ _ _ _ (by decide +kernel), by decide +kernel⟩,
   ⟨(signed 4 0 ([1]) ((keyed .armed))), (keyed .armed), (checked ((keyed .armed))), signed_accepts _ _ _ _ (by decide +kernel), by decide +kernel⟩,
   ⟨(signed 4 0 ([1]) ({ (keyed .surveyed) with layup := { (keyed .surveyed).layup with step := 0 } })),
     { (keyed .surveyed) with layup := { (keyed .surveyed).layup with step := 0 } }, (checked
     ({ (keyed .surveyed) with layup := { (keyed .surveyed).layup with step := 0 } })), signed_accepts _ _ _ _ (by decide +kernel), by decide +kernel⟩,
   ⟨(signed 4 0 ([2]) ((keyed .armed))), (keyed .armed), (checked ((keyed .armed))), signed_accepts _ _ _ _ (by decide +kernel), by decide +kernel⟩,
   ⟨(signed 4 0 ([2]) ((keyed .surveyed))), (keyed .surveyed), (checked ((keyed .surveyed))), signed_accepts _ _ _ _ (by decide +kernel), by
     decide +kernel⟩,
   ⟨(signed 4 0 ([3, 0, 0, 0, 0])
     ({ (keyed .surveyed) with plat := { (keyed .surveyed).plat with recs := [parRec P.pairFunc.basic 0xFF [(P.pairFunc.idx, 0, 0), (P.pairFunc.idx, 1, 0), (P.pairFunc.idx, 2, 0), (P.pairFunc.idx, 3, 0), (P.pairFunc.idx, 4, 0), (P.pairFunc.idx, 5, 0), (P.pairFunc.idx, 6, 0), (P.pairFunc.idx, 7, 0)]] } })),
     { (keyed .surveyed) with plat := { (keyed .surveyed).plat with recs := [parRec P.pairFunc.basic 0xFF [(P.pairFunc.idx, 0, 0), (P.pairFunc.idx, 1, 0), (P.pairFunc.idx, 2, 0), (P.pairFunc.idx, 3, 0), (P.pairFunc.idx, 4, 0), (P.pairFunc.idx, 5, 0), (P.pairFunc.idx, 6, 0), (P.pairFunc.idx, 7, 0)]] } },
     (checked
     ({ (keyed .surveyed) with plat := { (keyed .surveyed).plat with recs := [parRec P.pairFunc.basic 0xFF [(P.pairFunc.idx, 0, 0), (P.pairFunc.idx, 1, 0), (P.pairFunc.idx, 2, 0), (P.pairFunc.idx, 3, 0), (P.pairFunc.idx, 4, 0), (P.pairFunc.idx, 5, 0), (P.pairFunc.idx, 6, 0), (P.pairFunc.idx, 7, 0)]] } })),
     signed_accepts _ _ _ _ (by decide +kernel), by decide +kernel⟩,
   ⟨(signed 4 0 ([3, 0, 0, 0, 0]) ({ (keyed .surveyed) with sf := { (keyed .surveyed).sf with latched := 2 ^ 17, lockstep := true } })),
     { (keyed .surveyed) with sf := { (keyed .surveyed).sf with latched := 2 ^ 17, lockstep := true } }, (checked
     ({ (keyed .surveyed) with sf := { (keyed .surveyed).sf with latched := 2 ^ 17, lockstep := true } })), signed_accepts _ _ _ _ (by decide +kernel), by
     decide +kernel⟩,
   ⟨(0 : Leg), (signed 4 0 ([3, 0, 0, 0, 1])
     ({ (keyed .surveyed) with conv := (vmod ((keyed .surveyed).conv) ((0 : Leg)) (fun x0 => { x0 with st := .fault })) })),
     { (keyed .surveyed) with conv := (vmod ((keyed .surveyed).conv) ((0 : Leg)) (fun x0 => { x0 with st := .fault })) }, (checked
     ({ (keyed .surveyed) with conv := (vmod ((keyed .surveyed).conv) ((0 : Leg)) (fun x0 => { x0 with st := .fault })) })), signed_accepts _ _ _ _ (by
     decide +kernel), by decide +kernel⟩,
   ⟨(signed 4 0 ([4]) ({ (keyed .surveyed) with start := { (keyed .surveyed).start with learnedRead := false } })),
     { (keyed .surveyed) with start := { (keyed .surveyed).start with learnedRead := false } }, (checked
     ({ (keyed .surveyed) with start := { (keyed .surveyed).start with learnedRead := false } })), signed_accepts _ _ _ _ (by decide +kernel), by
     decide +kernel⟩,
   ⟨(signed 4 0 ([4])
     ({ (keyed .surveyed) with start := { (keyed .surveyed).start with learnedRead := true }, learn := { (keyed .surveyed).learn with due := none } })),
     { (keyed .surveyed) with start := { (keyed .surveyed).start with learnedRead := true }, learn := { (keyed .surveyed).learn with due := none } },
     (checked
     ({ (keyed .surveyed) with start := { (keyed .surveyed).start with learnedRead := true }, learn := { (keyed .surveyed).learn with due := none } })),
     signed_accepts _ _ _ _ (by decide +kernel), by decide +kernel⟩,
   ⟨(signed 4 0 ([4]) ((keyed .armed))), (keyed .armed), (checked ((keyed .armed))), signed_accepts _ _ _ _ (by decide +kernel), by decide +kernel⟩,
   ⟨(signed 4 0 ([5]) ({ (keyed .surveyed) with layup := { (keyed .surveyed).layup with step := 0, due := false } })),
     { (keyed .surveyed) with layup := { (keyed .surveyed).layup with step := 0, due := false } }, (checked
     ({ (keyed .surveyed) with layup := { (keyed .surveyed).layup with step := 0, due := false } })), signed_accepts _ _ _ _ (by decide +kernel), by
     decide +kernel⟩,
   ⟨(signed 4 0 ([5]) ((keyed .armed))), (keyed .armed), (checked ((keyed .armed))), signed_accepts _ _ _ _ (by decide +kernel), by decide +kernel⟩,
   ⟨{ z with layup := { z.layup with due := true }, mode := .surveyed, start := { z.start with learnedRead := true } }, by decide +kernel⟩⟩
theorem witness_PlatAndKeyCommands :
    (∃ (r : HostReq) (s : State) (u : State), s.accepts 4 r u ∧ fieldAt 0 1 r.payload = 0x30 ∧ u.mode ≠ .boot) ∧
    (∃ (r : HostReq) (s : State) (u : State), s.accepts 4 r u ∧ fieldAt 0 1 r.payload = 0x31 ∧ u.mode = .surveyed ∧ (u.stagedResult ≠ 0 ∨ (u.plat.recovery
      = false ∧ u.par P.platInstallEnable = 0))) ∧
    (∃ (r : HostReq) (s : State) (u : State), s.accepts 4 r u ∧ fieldAt 0 1 r.payload = 0x31 ∧ u.mode ≠ .surveyed ∧ u.mode ≠ .faultHold ∧ u.mode ≠ .boot) ∧
    (∃ (r : HostReq) (s : State) (u : State), s.accepts 4 r u ∧ fieldAt 0 1 r.payload = 0x31 ∧ u.mode = .faultHold ∧ u.plat.recovery = false ∧ u.par
      P.installInFaultHold ≠ 1) ∧
    (∃ (k : Fin 8) (r : HostReq) (s : State) (u : State), s.accepts 4 r u ∧ fieldAt 0 1 r.payload = 0x40 ∧ 5 ≤ r.payload.length ∧ fieldAt 4 1 r.payload =
      k.val ∧ k.val ≠ r.keyId ∧ u.otherMaintenance k.val = true ∧ u.mode ≠ .boot) ∧
    (∃ (r : HostReq) (s : State) (u : State), s.accepts 4 r u ∧ fieldAt 0 1 r.payload = 0x40 ∧ 5 ≤ r.payload.length ∧ fieldAt 4 1 r.payload ≤ 7 ∧ u.mode ≠
      .boot ∧ (fieldAt 4 1 r.payload = r.keyId ∨ u.otherMaintenance (fieldAt 4 1 r.payload) = false)) :=
  ⟨⟨(signed 4 0 ([48]) ((keyed .surveyed))), (keyed .surveyed), (checked ((keyed .surveyed))), signed_accepts _ _ _ _ (by decide +kernel), by
     decide +kernel⟩,
   ⟨(signed 4 0 ([49]) ((keyed .surveyed))), (keyed .surveyed), (checked ((keyed .surveyed))), signed_accepts _ _ _ _ (by decide +kernel), by
     decide +kernel⟩,
   ⟨(signed 4 0 ([49]) ((keyed .armed))), (keyed .armed), (checked ((keyed .armed))), signed_accepts _ _ _ _ (by decide +kernel), by decide +kernel⟩,
   ⟨(signed 4 0 ([49])
     ({ (keyed .faultHold) with plat := { (keyed .faultHold).plat with recovery := false, recs := [parRec P.installInFaultHold.basic 0xFF [(P.installInFaultHold.idx, 0, 0)]] } })),
     { (keyed .faultHold) with plat := { (keyed .faultHold).plat with recovery := false, recs := [parRec P.installInFaultHold.basic 0xFF [(P.installInFaultHold.idx, 0, 0)]] } },
     (checked
     ({ (keyed .faultHold) with plat := { (keyed .faultHold).plat with recovery := false, recs := [parRec P.installInFaultHold.basic 0xFF [(P.installInFaultHold.idx, 0, 0)]] } })),
     signed_accepts _ _ _ _ (by decide +kernel), by decide +kernel⟩,
   ⟨(1 : Fin 8), (signed 4 0 ([64, 0, 0, 0, 1]) ((keyed .surveyed))), (keyed .surveyed), (checked ((keyed .surveyed))), signed_accepts _ _ _ _ (by
     decide +kernel), by decide +kernel⟩,
   ⟨(signed 4 0 ([64, 0, 0, 0, 0]) ((keyed .surveyed))), (keyed .surveyed), (checked ((keyed .surveyed))), signed_accepts _ _ _ _ (by decide +kernel), by
     decide +kernel⟩⟩
theorem witness_WindowOperations :
    (∃ (w : Fin 2) (r : HostReq) (s : State) (u : State), s.accepts 5 r u ∧ windowReq r w 0 ∧ fieldAt 8 2 r.payload ≤ 4095 ∧ fieldAt 10 2 r.payload ≠ 0 ∧
      u.windowFits (windowAddr r) (fieldAt 10 2 r.payload) = true ∧ u.windowFree w (windowAddr r / 4096) ((windowAddr r + fieldAt 10 2 r.payload - 1) /
      4096)) ∧
    (∃ (w : Fin 2) (sub : Nat) (r : HostReq) (s : State) (u : State), s.accepts 5 r u ∧ windowReq r w sub ∧ u.limited = false ∧ (u.su.ch[(winCh w).val].st
      = .halted ∨ u.su.ch[(winCh w).val].st = .active ∨ u.su.ch[(winCh w).val].st = .waiting) ∧ sub = 0) ∧
    (∃ (w : Fin 2) (sub : Nat) (r : HostReq) (s : State) (u : State), s.accepts 5 r u ∧ windowReq r w sub ∧ u.limited = false ∧ (u.su.ch[(winCh w).val].st
      = .halted ∨ u.su.ch[(winCh w).val].st = .active ∨ u.su.ch[(winCh w).val].st = .waiting) ∧ sub = 1) ∧
    (∃ (w : Fin 2) (sub : Nat) (r : HostReq) (s : State) (u : State), s.accepts 5 r u ∧ windowReq r w sub ∧ u.limited = false ∧ (u.su.ch[(winCh w).val].st
      = .halted ∨ u.su.ch[(winCh w).val].st = .active ∨ u.su.ch[(winCh w).val].st = .waiting) ∧ sub = 2) ∧
    (∃ (w : Fin 2) (sub : Nat) (r : HostReq) (s : State) (u : State), s.accepts 5 r u ∧ windowReq r w sub ∧ u.limited = false ∧ (u.su.ch[(winCh w).val].st
      = .halted ∨ u.su.ch[(winCh w).val].st = .active ∨ u.su.ch[(winCh w).val].st = .waiting) ∧ sub = 3) ∧
    (∃ (w : Fin 2) (r : HostReq) (s : State) (u : State), s.accepts 5 r u ∧ windowReq r w 2 ∧ fieldAt 8 2 r.payload ≤ 4095 ∧ u.windowFree w ((u.eraseUnit
      (fieldAt 4 4 r.payload * 4096)).1 / 4096) (((u.eraseUnit (fieldAt 4 4 r.payload * 4096)).1 + (u.eraseUnit (fieldAt 4 4 r.payload * 4096)).2 - 1) /
      4096)) ∧
    (∃ (w : Fin 2) (r : HostReq) (s : State) (u : State), s.accepts 5 r u ∧ windowReq r w 1 ∧ fieldAt 8 2 r.payload ≤ 4095 ∧ u.windowFits (windowAddr r)
      (fieldAt 10 2 r.payload) = true ∧ u.windowFree w (windowAddr r / 4096) ((windowAddr r + fieldAt 10 2 r.payload - 1) / 4096) ∧ u.su.win[w.val].held =
      [] ∧ fieldAt 10 2 r.payload ≠ 0 ∧ (windowAddr r + fieldAt 10 2 r.payload) % u.unitAt (windowAddr r + fieldAt 10 2 r.payload) = 0) ∧
    (∃ (w : Fin 2) (r : HostReq) (s : State) (u : State), s.accepts 5 r u ∧ windowReq r w 1 ∧ fieldAt 8 2 r.payload ≤ 4095 ∧ u.windowFits (windowAddr r)
      (fieldAt 10 2 r.payload) = true ∧ u.windowFree w (windowAddr r / 4096) ((windowAddr r + fieldAt 10 2 r.payload - 1) / 4096) ∧ u.su.win[w.val].held =
      [] ∧ fieldAt 10 2 r.payload ≠ 0 ∧ fieldAt 10 2 r.payload ≤ (windowAddr r + fieldAt 10 2 r.payload) % u.unitAt (windowAddr r + fieldAt 10 2
      r.payload)) ∧
    (∃ (w : Fin 2) (r : HostReq) (s : State) (u : State), s.accepts 5 r u ∧ windowReq r w 3 ∧ u.windowIdle w ∧ u.su.win[w.val].held = []) ∧
    (∃ (w : Fin 2) (r : HostReq) (s : State) (u : State), s.accepts 5 r u ∧ windowReq r w 3 ∧ u.windowIdle w ∧ u.su.win[w.val].held ≠ []) ∧
    (∃ (w : Fin 2) (r : HostReq) (s : State) (u : State), s.accepts 5 r u ∧ windowReq r w 4) ∧
    (∃ (w : Fin 2) (r : HostReq) (s : State) (u : State), s.accepts 5 r u ∧ windowReq r w 5 ∧ u.su.ch[(winCh w).val].st ≠ .halted) ∧
    (∃ (w : Fin 2) (r : HostReq) (s : State) (u : State), s.accepts 5 r u ∧ windowReq r w 5 ∧ u.su.ch[(winCh w).val].st = .halted ∧ u.su.ch[(winCh
      w).val].fault = 3) ∧
    (∃ (w : Fin 2) (r : HostReq) (s : State) (u : State), s.accepts 5 r u ∧ windowReq r w 6 ∧ u.su.ch[(winCh w).val].st = .halted) ∧
    (∃ (w : Fin 2) (r : HostReq) (s : State) (u : State), s.accepts 5 r u ∧ windowReq r w 6 ∧ (u.su.ch[(winCh w).val].st = .active ∨ u.su.ch[(winCh
      w).val].st = .waiting)) :=
  ⟨⟨(0 : Fin 2), (signed 5 0 ([0, 0, 0, 0, 0, 0, 0, 0, 0, 0, 1, 0]) ((keyed .surveyed))), (keyed .surveyed), (checked ((keyed .surveyed))), signed_accepts
     _ _ _ _ (by decide +kernel), by unfold windowReq State.windowFree State.windowIdle; decide +kernel⟩,
   ⟨(0 : Fin 2), 0, (signed 5 0 ([0, 0, 0, 0, 0, 0, 0, 0, 0, 0, 0, 0])
     ({ (keyed .surveyed) with su := { (keyed .surveyed).su with ch := (vmod ((keyed .surveyed).su.ch) ((winCh ((0 : Fin 2)))) (fun x0 => { x0 with st := .halted })) } })),
     { (keyed .surveyed) with su := { (keyed .surveyed).su with ch := (vmod ((keyed .surveyed).su.ch) ((winCh ((0 : Fin 2)))) (fun x0 => { x0 with st := .halted })) } },
     (checked
     ({ (keyed .surveyed) with su := { (keyed .surveyed).su with ch := (vmod ((keyed .surveyed).su.ch) ((winCh ((0 : Fin 2)))) (fun x0 => { x0 with st := .halted })) } })),
     signed_accepts _ _ _ _ (by decide +kernel), by unfold windowReq; decide +kernel⟩,
   ⟨(0 : Fin 2), 1, (signed 5 0 ([0, 1, 0, 0, 0, 0, 0, 0, 0, 0, 0, 0])
     ({ (keyed .surveyed) with su := { (keyed .surveyed).su with ch := (vmod ((keyed .surveyed).su.ch) ((winCh ((0 : Fin 2)))) (fun x0 => { x0 with st := .halted })) } })),
     { (keyed .surveyed) with su := { (keyed .surveyed).su with ch := (vmod ((keyed .surveyed).su.ch) ((winCh ((0 : Fin 2)))) (fun x0 => { x0 with st := .halted })) } },
     (checked
     ({ (keyed .surveyed) with su := { (keyed .surveyed).su with ch := (vmod ((keyed .surveyed).su.ch) ((winCh ((0 : Fin 2)))) (fun x0 => { x0 with st := .halted })) } })),
     signed_accepts _ _ _ _ (by decide +kernel), by unfold windowReq; decide +kernel⟩,
   ⟨(0 : Fin 2), 2, (signed 5 0 ([0, 2, 0, 0, 0, 0, 0, 0, 0, 0, 0, 0])
     ({ (keyed .surveyed) with su := { (keyed .surveyed).su with ch := (vmod ((keyed .surveyed).su.ch) ((winCh ((0 : Fin 2)))) (fun x0 => { x0 with st := .halted })) } })),
     { (keyed .surveyed) with su := { (keyed .surveyed).su with ch := (vmod ((keyed .surveyed).su.ch) ((winCh ((0 : Fin 2)))) (fun x0 => { x0 with st := .halted })) } },
     (checked
     ({ (keyed .surveyed) with su := { (keyed .surveyed).su with ch := (vmod ((keyed .surveyed).su.ch) ((winCh ((0 : Fin 2)))) (fun x0 => { x0 with st := .halted })) } })),
     signed_accepts _ _ _ _ (by decide +kernel), by unfold windowReq; decide +kernel⟩,
   ⟨(0 : Fin 2), 3, (signed 5 0 ([0, 3, 0, 0, 0, 0, 0, 0, 0, 0, 0, 0])
     ({ (keyed .surveyed) with su := { (keyed .surveyed).su with ch := (vmod ((keyed .surveyed).su.ch) ((winCh ((0 : Fin 2)))) (fun x0 => { x0 with st := .halted })) } })),
     { (keyed .surveyed) with su := { (keyed .surveyed).su with ch := (vmod ((keyed .surveyed).su.ch) ((winCh ((0 : Fin 2)))) (fun x0 => { x0 with st := .halted })) } },
     (checked
     ({ (keyed .surveyed) with su := { (keyed .surveyed).su with ch := (vmod ((keyed .surveyed).su.ch) ((winCh ((0 : Fin 2)))) (fun x0 => { x0 with st := .halted })) } })),
     signed_accepts _ _ _ _ (by decide +kernel), by unfold windowReq; decide +kernel⟩,
   ⟨(0 : Fin 2), (signed 5 0 ([0, 2, 0, 0, 0, 0, 0, 0, 0, 0, 0, 0]) ((keyed .surveyed))), (keyed .surveyed), (checked ((keyed .surveyed))), signed_accepts
     _ _ _ _ (by decide +kernel), by unfold windowReq State.windowFree State.windowIdle; decide +kernel⟩,
   ⟨(0 : Fin 2), (signed 5 0 ([0, 1, 0, 0, 0, 0, 0, 0, 0, 0, 0, 1] ++ List.replicate 256 0)
     ({ (keyed .surveyed) with su := { (keyed .surveyed).su with win := (vmod ((keyed .surveyed).su.win) ((0 : Fin 2)) (fun x0 => { x0 with held := [] })) } })),
     { (keyed .surveyed) with su := { (keyed .surveyed).su with win := (vmod ((keyed .surveyed).su.win) ((0 : Fin 2)) (fun x0 => { x0 with held := [] })) } },
     (checked
     ({ (keyed .surveyed) with su := { (keyed .surveyed).su with win := (vmod ((keyed .surveyed).su.win) ((0 : Fin 2)) (fun x0 => { x0 with held := [] })) } })),
     signed_accepts _ _ _ _ (by decide +kernel), by unfold windowReq State.windowFree State.windowIdle; decide +kernel⟩,
   ⟨(0 : Fin 2), (signed 5 0 ([0, 1, 0, 0, 0, 0, 0, 0, 0, 0, 1, 0, 7])
     ({ (keyed .surveyed) with su := { (keyed .surveyed).su with win := (vmod ((keyed .surveyed).su.win) ((0 : Fin 2)) (fun x0 => { x0 with held := [] })) } })),
     { (keyed .surveyed) with su := { (keyed .surveyed).su with win := (vmod ((keyed .surveyed).su.win) ((0 : Fin 2)) (fun x0 => { x0 with held := [] })) } },
     (checked
     ({ (keyed .surveyed) with su := { (keyed .surveyed).su with win := (vmod ((keyed .surveyed).su.win) ((0 : Fin 2)) (fun x0 => { x0 with held := [] })) } })),
     signed_accepts _ _ _ _ (by decide +kernel), by unfold windowReq State.windowFree State.windowIdle; decide +kernel⟩,
   ⟨(0 : Fin 2), (signed 5 0 ([0, 3, 0, 0, 0, 0, 0, 0, 0, 0, 0, 0])
     ({ (keyed .surveyed) with su := { (keyed .surveyed).su with win := (vmod ((keyed .surveyed).su.win) ((0 : Fin 2)) (fun x0 => { x0 with held := [] })) } })),
     { (keyed .surveyed) with su := { (keyed .surveyed).su with win := (vmod ((keyed .surveyed).su.win) ((0 : Fin 2)) (fun x0 => { x0 with held := [] })) } },
     (checked
     ({ (keyed .surveyed) with su := { (keyed .surveyed).su with win := (vmod ((keyed .surveyed).su.win) ((0 : Fin 2)) (fun x0 => { x0 with held := [] })) } })),
     signed_accepts _ _ _ _ (by decide +kernel), by unfold windowReq State.windowIdle; decide +kernel⟩,
   ⟨(0 : Fin 2), (signed 5 0 ([0, 3, 0, 0, 0, 0, 0, 0, 0, 0, 0, 0])
     ({ (keyed .surveyed) with su := { (keyed .surveyed).su with win := (vmod ((keyed .surveyed).su.win) 0 (fun x0 => { x0 with held := [7] })) } })),
     { (keyed .surveyed) with su := { (keyed .surveyed).su with win := (vmod ((keyed .surveyed).su.win) 0 (fun x0 => { x0 with held := [7] })) } },
     (checked
     ({ (keyed .surveyed) with su := { (keyed .surveyed).su with win := (vmod ((keyed .surveyed).su.win) 0 (fun x0 => { x0 with held := [7] })) } })),
     signed_accepts _ _ _ _ (by decide +kernel), by unfold windowReq State.windowIdle; decide +kernel⟩,
   ⟨(0 : Fin 2), (signed 5 0 ([0, 4, 0, 0, 0, 0, 0, 0, 0, 0, 0, 0]) ((keyed .surveyed))), (keyed .surveyed), (checked ((keyed .surveyed))), signed_accepts
     _ _ _ _ (by decide +kernel), by unfold windowReq; decide +kernel⟩,
   ⟨(0 : Fin 2), (signed 5 0 ([0, 5, 0, 0, 0, 0, 0, 0, 0, 0, 0, 0]) ((keyed .surveyed))), (keyed .surveyed), (checked ((keyed .surveyed))), signed_accepts
     _ _ _ _ (by decide +kernel), by unfold windowReq; decide +kernel⟩,
   ⟨(0 : Fin 2), (signed 5 0 ([0, 5, 0, 0, 0, 0, 0, 0, 0, 0, 0, 0])
     ({ (keyed .surveyed) with su := { (keyed .surveyed).su with ch := (vmod ((keyed .surveyed).su.ch) ((winCh ((0 : Fin 2)))) (fun x0 => { x0 with st := .halted, fault := 3 })) } })),
     { (keyed .surveyed) with su := { (keyed .surveyed).su with ch := (vmod ((keyed .surveyed).su.ch) ((winCh ((0 : Fin 2)))) (fun x0 => { x0 with st := .halted, fault := 3 })) } },
     (checked
     ({ (keyed .surveyed) with su := { (keyed .surveyed).su with ch := (vmod ((keyed .surveyed).su.ch) ((winCh ((0 : Fin 2)))) (fun x0 => { x0 with st := .halted, fault := 3 })) } })),
     signed_accepts _ _ _ _ (by decide +kernel), by unfold windowReq; decide +kernel⟩,
   ⟨(0 : Fin 2), (signed 5 0 ([0, 6, 0, 0, 0, 0, 0, 0, 0, 0, 0, 0])
     ({ (keyed .surveyed) with su := { (keyed .surveyed).su with ch := (vmod ((keyed .surveyed).su.ch) ((winCh ((0 : Fin 2)))) (fun x0 => { x0 with st := .halted })) } })),
     { (keyed .surveyed) with su := { (keyed .surveyed).su with ch := (vmod ((keyed .surveyed).su.ch) ((winCh ((0 : Fin 2)))) (fun x0 => { x0 with st := .halted })) } },
     (checked
     ({ (keyed .surveyed) with su := { (keyed .surveyed).su with ch := (vmod ((keyed .surveyed).su.ch) ((winCh ((0 : Fin 2)))) (fun x0 => { x0 with st := .halted })) } })),
     signed_accepts _ _ _ _ (by decide +kernel), by unfold windowReq; decide +kernel⟩,
   ⟨(0 : Fin 2), (signed 5 0 ([0, 6, 0, 0, 0, 0, 0, 0, 0, 0, 0, 0])
     ({ (keyed .surveyed) with su := { (keyed .surveyed).su with ch := (vmod ((keyed .surveyed).su.ch) ((winCh ((0 : Fin 2)))) (fun x0 => { x0 with st := .active })) } })),
     { (keyed .surveyed) with su := { (keyed .surveyed).su with ch := (vmod ((keyed .surveyed).su.ch) ((winCh ((0 : Fin 2)))) (fun x0 => { x0 with st := .active })) } },
     (checked
     ({ (keyed .surveyed) with su := { (keyed .surveyed).su with ch := (vmod ((keyed .surveyed).su.ch) ((winCh ((0 : Fin 2)))) (fun x0 => { x0 with st := .active })) } })),
     signed_accepts _ _ _ _ (by decide +kernel), by unfold windowReq; decide +kernel⟩⟩
theorem witness_UpdateOperations :
    (∃ (r : HostReq) (s : State) (u : State), s.accepts 6 r u ∧ fieldAt 0 1 r.payload = 0 ∧ 8 ≤ r.payload.length ∧ u.inStates runtimeStates = true ∧
      u.upd.session ≠ 3 ∧ u.upd.session ≠ 4 ∧ u.upd.reply = none ∧ fieldAt 4 4 r.payload = 0 ∧ u.updHeaderResult (r.payload.drop 8) ≠ 0) ∧
    (∃ (r : HostReq) (s : State) (u : State), s.accepts 6 r u ∧ fieldAt 0 1 r.payload = 1 ∧ 8 < r.payload.length ∧ r.payload.length ≤ 1032 ∧ u.inStates
      runtimeStates = true ∧ u.upd.session = 1 ∧ u.upd.reply = none ∧ fieldAt 4 4 r.payload = u.upd.received ∧ u.upd.received + (r.payload.length - 8) ≤
      u.bodyLen) ∧
    (∃ (r : HostReq) (s : State) (u : State), s.accepts 6 r u ∧ fieldAt 0 1 r.payload = 2 ∧ 8 ≤ r.payload.length ∧ u.inStates runtimeStates = true ∧
      u.upd.session = 2 ∧ u.upd.received = u.bodyLen ∧ sha256 (Memory.readBytes u.store (stagingBase + 4096) u.bodyLen) = slice 104 32 u.upd.header ∧
      (u.portOf (4096 * u.spareSlot)).isSome = true ∧ (u.portOf (4096 * u.spareSlot + 4095)).isSome = true) ∧
    (∃ (r : HostReq) (s : State) (u : State), s.accepts 6 r u ∧ fieldAt 0 1 r.payload = 2 ∧ 8 ≤ r.payload.length ∧ u.inStates runtimeStates = true ∧
      u.upd.session = 2 ∧ u.upd.received = u.bodyLen ∧ sha256 (Memory.readBytes u.store (stagingBase + 4096) u.bodyLen) ≠ slice 104 32 u.upd.header) ∧
    (∃ (fault : Nat) (s : State), s.upd.session ≠ 3) ∧
    (∃ (fault : Nat) (s : State), s.upd.session = 3 ∧ fault ≠ 0) ∧
    (∃ (r : HostReq) (s : State) (u : State), s.accepts 6 r u ∧ fieldAt 0 1 r.payload = 3 ∧ 8 ≤ r.payload.length ∧ u.upd.session ≠ 3 ∧ u.upd.session ≠ 4 ∧
      (u.mode = .surveyed ∨ u.mode = .faultHold) ∧ u.slotState u.spareSlot = 1) ∧
    (∃ (r : HostReq) (s : State) (u : State), s.accepts 6 r u ∧ fieldAt 0 1 r.payload = 3 ∧ 8 ≤ r.payload.length ∧ u.upd.session ≠ 3 ∧ u.upd.session ≠ 4 ∧
      (u.mode = .surveyed ∨ u.mode = .faultHold) ∧ u.slotState u.spareSlot ≠ 1) ∧
    (∃ (r : HostReq) (s : State) (u : State), s.accepts 6 r u ∧ fieldAt 0 1 r.payload = 4 ∧ 8 ≤ r.payload.length ∧ u.upd.session ≠ 3 ∧ u.upd.session ≠ 4 ∧
      u.upd.trial = true ∧ u.mode = .surveyed) ∧
    (∃ (r : HostReq) (s : State) (u : State), s.accepts 6 r u ∧ fieldAt 0 1 r.payload = 4 ∧ 8 ≤ r.payload.length ∧ u.upd.session ≠ 3 ∧ u.upd.session ≠ 4 ∧
      u.upd.trial = true ∧ (u.mode = .armed ∨ u.mode = .running)) ∧
    (∃ (r : HostReq) (s : State) (u : State), s.accepts 6 r u ∧ fieldAt 0 1 r.payload = 5 ∧ 8 ≤ r.payload.length ∧ u.inStates runtimeStates = true ∧
      u.upd.session = 3) ∧
    (∃ (r : HostReq) (s : State) (u : State), s.accepts 6 r u ∧ fieldAt 0 1 r.payload = 5 ∧ 8 ≤ r.payload.length ∧ u.inStates runtimeStates = true ∧
      u.upd.session ≠ 3) ∧
    (∃ (r : HostReq) (s : State) (u : State), s.accepts 6 r u ∧ fieldAt 0 1 r.payload = 6 ∧ 8 ≤ r.payload.length) ∧
    (∃ (s : State), s.upd.trial = false) ∧
    (∃ (s : State), s.upd.trial = true ∧ s.mode = .surveyed) :=
  ⟨⟨(signed 6 0 ([0, 0, 0, 0, 0, 0, 0, 0]) ({ (keyed .surveyed) with upd := { (keyed .surveyed).upd with reply := none } })),
     { (keyed .surveyed) with upd := { (keyed .surveyed).upd with reply := none } }, (checked
     ({ (keyed .surveyed) with upd := { (keyed .surveyed).upd with reply := none } })), signed_accepts _ _ _ _ (by decide +kernel), by decide +kernel⟩,
   ⟨(signed 6 0 ([1, 0, 0, 0, 0, 0, 0, 0, 0])
     ({ (keyed .surveyed) with upd := { (keyed .surveyed).upd with session := 1, reply := none, header := List.replicate 20 0 ++ [1, 0, 0, 0] } })),
     { (keyed .surveyed) with upd := { (keyed .surveyed).upd with session := 1, reply := none, header := List.replicate 20 0 ++ [1, 0, 0, 0] } }, (checked
     ({ (keyed .surveyed) with upd := { (keyed .surveyed).upd with session := 1, reply := none, header := List.replicate 20 0 ++ [1, 0, 0, 0] } })),
     signed_accepts _ _ _ _ (by decide +kernel), by decide +kernel⟩,
   ⟨(signed 6 0 ([2, 0, 0, 0, 0, 0, 0, 0])
     ({ (keyed .surveyed) with upd := { (keyed .surveyed).upd with session := 2, received := 0, header := List.replicate 104 0 ++ sha256 [] }, su := { (keyed .surveyed).su with port := (vmod ((keyed .surveyed).su.port) 0 (fun x0 => { x0 with kind := 1, mb := 128, up := true })) } })),
     { (keyed .surveyed) with upd := { (keyed .surveyed).upd with session := 2, received := 0, header := List.replicate 104 0 ++ sha256 [] }, su := { (keyed .surveyed).su with port := (vmod ((keyed .surveyed).su.port) 0 (fun x0 => { x0 with kind := 1, mb := 128, up := true })) } },
     (checked
     ({ (keyed .surveyed) with upd := { (keyed .surveyed).upd with session := 2, received := 0, header := List.replicate 104 0 ++ sha256 [] }, su := { (keyed .surveyed).su with port := (vmod ((keyed .surveyed).su.port) 0 (fun x0 => { x0 with kind := 1, mb := 128, up := true })) } })),
     signed_accepts _ _ _ _ (by decide +kernel), by decide +kernel⟩,
   ⟨(signed 6 0 ([2, 0, 0, 0, 0, 0, 0, 0]) ({ (keyed .surveyed) with upd := { (keyed .surveyed).upd with session := 2, received := 0 } })),
     { (keyed .surveyed) with upd := { (keyed .surveyed).upd with session := 2, received := 0 } }, (checked
     ({ (keyed .surveyed) with upd := { (keyed .surveyed).upd with session := 2, received := 0 } })), signed_accepts _ _ _ _ (by decide +kernel), by
     decide +kernel⟩,
   ⟨0, z, by decide +kernel⟩,
   ⟨4, { z with upd := { z.upd with session := 3 } }, by decide +kernel⟩,
   ⟨(signed 6 0 ([3, 0, 0, 0, 0, 0, 0, 0])
     ({ (keyed .surveyed) with store := Memory.writeBytes [] (slotBase 1 + 4089 * 4096) (withCrc (leBytes 4 0x544F4C53 ++ [1] ++ List.replicate 23 0)) })),
     { (keyed .surveyed) with store := Memory.writeBytes [] (slotBase 1 + 4089 * 4096) (withCrc (leBytes 4 0x544F4C53 ++ [1] ++ List.replicate 23 0)) },
     (checked
     ({ (keyed .surveyed) with store := Memory.writeBytes [] (slotBase 1 + 4089 * 4096) (withCrc (leBytes 4 0x544F4C53 ++ [1] ++ List.replicate 23 0)) })),
     signed_accepts _ _ _ _ (by decide +kernel), by decide +kernel⟩,
   ⟨(signed 6 0 ([3, 0, 0, 0, 0, 0, 0, 0]) ((keyed .surveyed))), (keyed .surveyed), (checked ((keyed .surveyed))), signed_accepts _ _ _ _ (by
     decide +kernel), by decide +kernel⟩,
   ⟨(signed 6 0 ([4, 0, 0, 0, 0, 0, 0, 0]) ({ (keyed .surveyed) with upd := { (keyed .surveyed).upd with trial := true } })),
     { (keyed .surveyed) with upd := { (keyed .surveyed).upd with trial := true } }, (checked
     ({ (keyed .surveyed) with upd := { (keyed .surveyed).upd with trial := true } })), signed_accepts _ _ _ _ (by decide +kernel), by decide +kernel⟩,
   ⟨(signed 6 0 ([4, 0, 0, 0, 0, 0, 0, 0]) ({ (keyed .armed) with upd := { (keyed .armed).upd with trial := true } })),
     { (keyed .armed) with upd := { (keyed .armed).upd with trial := true } }, (checked
     ({ (keyed .armed) with upd := { (keyed .armed).upd with trial := true } })), signed_accepts _ _ _ _ (by decide +kernel), by decide +kernel⟩,
   ⟨(signed 6 0 ([5, 0, 0, 0, 0, 0, 0, 0]) ({ (keyed .surveyed) with upd := { (keyed .surveyed).upd with session := 3 } })),
     { (keyed .surveyed) with upd := { (keyed .surveyed).upd with session := 3 } }, (checked
     ({ (keyed .surveyed) with upd := { (keyed .surveyed).upd with session := 3 } })), signed_accepts _ _ _ _ (by decide +kernel), by decide +kernel⟩,
   ⟨(signed 6 0 ([5, 0, 0, 0, 0, 0, 0, 0]) ((keyed .surveyed))), (keyed .surveyed), (checked ((keyed .surveyed))), signed_accepts _ _ _ _ (by
     decide +kernel), by decide +kernel⟩,
   ⟨(signed 6 0 ([6, 0, 0, 0, 0, 0, 0, 0]) ((keyed .surveyed))), (keyed .surveyed), (checked ((keyed .surveyed))), signed_accepts _ _ _ _ (by
     decide +kernel), by decide +kernel⟩,
   ⟨{ z with upd := { z.upd with trial := false } }, by decide +kernel⟩,
   ⟨{ z with upd := { z.upd with trial := true }, mode := .surveyed }, by decide +kernel⟩⟩
theorem witness_CanBus :
    (∃ (c : Fin 4) (f : CanFrame) (remote : Bool) (stamp : Nat) (s : State), (s.can[c.val].st = 1 ∨ s.can[c.val].st = 2) ∧ s.can[c.val].err = 0 ∧
      s.can[c.val].tec < 128 ∧ s.can[c.val].rxe < 128 ∧ s.can[c.val].detecting = false) ∧
    (∃ (c : Fin 4) (f : CanFrame) (stamp : Nat) (s : State), s.can[c.val].st = 2 ∧ s.can[c.val].err = 0 ∧ s.can[c.val].tec < 128 ∧ s.can[c.val].rxe < 128
      ∧ s.can[c.val].detecting = true ∧ s.can[c.val].good = 3) ∧
    (∃ (c : Fin 4) (f : CanFrame) (b : Bool) (stamp : Nat) (s : State), s.can[c.val].err = 2) ∧
    (∃ (c : Fin 4) (heavy : Bool) (s : State), s.can[c.val].st = 2 ∧ s.can[c.val].err ≠ 2 ∧ s.can[c.val].detecting = false) ∧
    (∃ (c : Fin 4) (heavy : Bool) (s : State), s.can[c.val].st = 2 ∧ s.can[c.val].err ≠ 2 ∧ s.can[c.val].detecting = true ∧ s.can[c.val].errors = 2) ∧
    (∃ (c : Fin 4) (p : Fin 3) (s : State), (s.can[c.val].st = 1 ∨ s.can[c.val].st = 2) ∧ s.can[c.val].err ≠ 2 ∧ s.can[c.val].listen = false ∧ (∀ b : Fin
      3, s.can[c.val].tx[b.val].st ≠ 2) ∧ s.can[c.val].tx[p.val].st = 1) ∧
    (∃ (f : CanFrame) (g : CanFrame), f.ide = false ∧ g.ide = true ∧ f.id = g.id / 2 ^ 18) ∧
    (∃ (c : Fin 4) (b : Fin 3) (stamp : Nat) (s : State), s.can[c.val].onWire = some b ∧ s.can[c.val].queue = []) ∧
    (∃ (c : Fin 4) (b : Fin 3) (lost : Bool) (s : State), s.can[c.val].onWire = some b ∧ s.can[c.val].queue = [] ∧ s.can[c.val].st = 2) ∧
    (∃ (c : Fin 4) (lost : Bool) (stamp : Nat) (s : State), s.can[c.val].onWire = none) ∧
    (∃ (c : Fin 4) (s : State), s.can[c.val].err = 2 ∧ s.par P.canBusOffAuto c.val = 1 ∧ (s.can[c.val].st = 1 ∨ s.can[c.val].st = 2)) ∧
    (∃ (c : Fin 4) (s : State), (s.can[c.val].err ≠ 2 ∨ s.par P.canBusOffAuto c.val = 0)) ∧
    (∃ (c : Fin 4) (s : State), s.can[c.val].detecting = true) ∧
    (∃ (c : Fin 4) (s : State), s.can[c.val].detecting = false) ∧
    (∃ (c : Fin 4) (k : Nat) (m : RxMap) (s : State), (s.rxMaps c)[k]? = some m ∧ m.timeout ≠ 0 ∧ s.can[c.val].timedOut.contains k = false ∧ s.canSealed =
      [] ∧ s.can[c.val].rxq = []) ∧
    (∃ (c : Fin 4) (k : Nat) (s : State), (s.rxMaps c)[k]? = none) ∧
    (∃ (c : Fin 4) (k : Nat) (m : RxMap) (f : CanFrame) (stamp : Nat) (s : State), (s.rxMaps c)[k]? = some m ∧ (c.val, f, stamp) ∈ s.canSealed ∧ m.hits f
      = true) ∧
    (∃ (c : Fin 4) (k : Nat) (b : List Byte) (s : State), (s.txMaps c)[k]? = some b ∧ (∀ e : List Byte, e ∈ (s.txMaps c).take k → fieldAt 0 4 e ≠ fieldAt
      0 4 b) ∧ s.time.frame % max 1 (fieldAt 6 2 b) = 0) ∧
    (∃ (c : Fin 4) (k : Nat) (s : State), (s.txMaps c)[k]? = none) ∧
    (∃ (c : Fin 4) (f : CanFrame) (s : State), (s.can[c.val].st = 1 ∨ s.can[c.val].st = 2) ∧ s.role = .active ∧ 32 ≤ s.can[c.val].queue.length) ∧
    (∃ (c : Fin 4) (f : CanFrame) (s : State), s.can[c.val].st = 2 ∧ s.role = .active ∧ s.can[c.val].queue.length < 32 ∧ (s.can[c.val].listen = true ∨ ∀ b
      : Fin 3, s.can[c.val].tx[b.val].loadable = false)) ∧
    (∃ (c : Fin 4) (k : Fin 5) (s : State), s.role = .active ∧ s.can[c.val].st = 2 ∧ s.statusDue c = true ∧ k ≠ 0 ∧ s.parN P.canStatusEnable c.val = 2 ^
      k.val) ∧
    (∃ (c : Fin 4) (s : State), (s.role ≠ .active ∨ s.statusDue c = false)) ∧
    (∃ (c : Fin 4) (f : CanFrame) (remote : Bool) (stamp : Nat) (s : State), (s.can[c.val].st = 1 ∨ s.can[c.val].st = 2) ∧ s.can[c.val].err = 0 ∧
      s.can[c.val].tec < 128 ∧ s.can[c.val].rxe < 128 ∧ s.can[c.val].detecting = false ∧ remote = false ∧ s.can[c.val].rxq.length < 64) ∧
    (∃ (c : Fin 4) (f : CanFrame) (remote : Bool) (stamp : Nat) (s : State), (s.can[c.val].st = 1 ∨ s.can[c.val].st = 2) ∧ s.can[c.val].err = 0 ∧
      s.can[c.val].tec < 128 ∧ s.can[c.val].rxe < 128 ∧ s.can[c.val].detecting = false ∧ remote = false ∧ 64 ≤ s.can[c.val].rxq.length) ∧
    (∃ (c : Fin 4) (f : CanFrame) (remote : Bool) (stamp : Nat) (s : State), (s.can[c.val].st = 1 ∨ s.can[c.val].st = 2) ∧ s.can[c.val].err = 0 ∧
      s.can[c.val].tec < 128 ∧ s.can[c.val].rxe < 128 ∧ s.can[c.val].detecting = false ∧ remote = true) ∧
    (∃ (c : Fin 4) (p : Fin 3) (s : State), (s.can[c.val].st = 1 ∨ s.can[c.val].st = 2) ∧ s.can[c.val].err ≠ 2 ∧ s.can[c.val].listen = false ∧ (∀ b : Fin
      3, s.can[c.val].tx[b.val].st ≠ 2) ∧ s.can[c.val].tx[p.val].st = 1 ∧ s.par P.canTxOrder c.val = 0) ∧
    (∃ (c : Fin 4) (p : Fin 3) (s : State), (s.can[c.val].st = 1 ∨ s.can[c.val].st = 2) ∧ s.can[c.val].err ≠ 2 ∧ s.can[c.val].listen = false ∧ (∀ b : Fin
      3, s.can[c.val].tx[b.val].st ≠ 2) ∧ s.can[c.val].tx[p.val].st = 1 ∧ s.par P.canTxOrder c.val = 1) ∧
    (∃ (c : Fin 4) (b : Fin 3) (lost : Bool) (s : State), s.can[c.val].onWire = some b ∧ s.can[c.val].queue = [] ∧ s.can[c.val].st = 2 ∧
      s.can[c.val].tx[b.val].abort = true) ∧
    (∃ (c : Fin 4) (b : Fin 3) (lost : Bool) (s : State), s.can[c.val].onWire = some b ∧ s.can[c.val].queue = [] ∧ s.can[c.val].st = 2 ∧
      s.can[c.val].tx[b.val].abort = false ∧ s.can[c.val].tx[b.val].oneShot = true) ∧
    (∃ (c : Fin 4) (b : Fin 3) (lost : Bool) (s : State), s.can[c.val].onWire = some b ∧ s.can[c.val].queue = [] ∧ s.can[c.val].st = 2 ∧
      s.can[c.val].tx[b.val].abort = false ∧ s.can[c.val].tx[b.val].oneShot = false) :=
  ⟨⟨(0 : Fin 4), (frame0 : CanFrame), false, 0,
     { z with can := (vmod (z.can) ((0 : Fin 4)) (fun x0 => { x0 with st := 1, err := 0, detecting := false })) }, by decide +kernel⟩,
   ⟨(0 : Fin 4), (frame0 : CanFrame), 0,
     { z with can := (vmod (z.can) ((0 : Fin 4)) (fun x0 => { x0 with st := 2, err := 0, detecting := true, good := 3 })) }, by decide +kernel⟩,
   ⟨(0 : Fin 4), (frame0 : CanFrame), false, 0, { z with can := (vmod (z.can) ((0 : Fin 4)) (fun x0 => { x0 with err := 2 })) }, by decide +kernel⟩,
   ⟨(0 : Fin 4), false, { z with can := (vmod (z.can) ((0 : Fin 4)) (fun x0 => { x0 with st := 2, detecting := false })) }, by decide +kernel⟩,
   ⟨(0 : Fin 4), false, { z with can := (vmod (z.can) ((0 : Fin 4)) (fun x0 => { x0 with st := 2, detecting := true, errors := 2 })) }, by decide +kernel⟩,
   ⟨(0 : Fin 4), (0 : Fin 3),
     { z with can := (vmod (z.can) ((0 : Fin 4)) (fun x0 => { x0 with st := 1, listen := false, tx := (vmod (x0.tx) ((0 : Fin 3)) (fun x1 => { x1 with st := 1 })) })) },
     by decide +kernel⟩,
   ⟨({ frame0 with ide := false } : CanFrame), ({ frame0 with ide := true } : CanFrame), by decide +kernel⟩,
   ⟨(0 : Fin 4), (0 : Fin 3), 0,
     { z with can := (vmod (vmod (z.can) ((0 : Fin 4)) (fun x0 => { x0 with queue := [] })) 0 (fun x0 => { x0 with tx := (vmod (x0.tx) 0 (fun x1 => { x1 with st := 2 })), st := 2 })) },
     by decide +kernel⟩,
   ⟨(0 : Fin 4), (0 : Fin 3), false,
     { z with can := (vmod (vmod (z.can) ((0 : Fin 4)) (fun x0 => { x0 with queue := [], st := 2 })) 0 (fun x0 => { x0 with tx := (vmod (x0.tx) 0 (fun x1 => { x1 with st := 2 })), st := 2 })) },
     by decide +kernel⟩,
   ⟨(0 : Fin 4), false, 0, z, by decide +kernel⟩,
   ⟨(0 : Fin 4),
     { z with can := (vmod (z.can) ((0 : Fin 4)) (fun x0 => { x0 with err := 2, st := 1 })), plat := { z.plat with recs := [parRec P.canBusOffAuto.basic ((0 : Fin 4)).val [(P.canBusOffAuto.idx, 0, 1)]] } },
     by decide +kernel⟩,
   ⟨(0 : Fin 4), z, by decide +kernel⟩,
   ⟨(0 : Fin 4), { z with can := (vmod (z.can) ((0 : Fin 4)) (fun x0 => { x0 with detecting := true })) }, by decide +kernel⟩,
   ⟨(0 : Fin 4), { z with can := (vmod (z.can) ((0 : Fin 4)) (fun x0 => { x0 with detecting := false })) }, by decide +kernel⟩,
   ⟨(0 : Fin 4), 0, (⟨0, 0, 1, 0, 0, false, false, 0, 0, 0, 0, 0, 0⟩ : RxMap),
     { z with canSealed := [], can := (vmod (z.can) ((0 : Fin 4)) (fun x0 => { x0 with rxq := [] })), plat := { z.plat with recs := [parRec P.canMapRxCount.basic 0 [(P.canMapRxCount.idx, 0, 1), (P.canMapRxMap.idx, 8, 1)]] } },
     by decide +kernel⟩,
   ⟨(0 : Fin 4), 0, z, by decide +kernel⟩,
   ⟨(0 : Fin 4), 0, (⟨0, 0, 0, 0, 0, false, false, 0, 0, 0, 0, 0, 0⟩ : RxMap), (frame0 : CanFrame), 0,
     { z with canSealed := [(0, frame0, 0)], plat := { z.plat with recs := [parRec P.canMapRxCount.basic 0 [(P.canMapRxCount.idx, 0, 1)]] } }, by
     decide +kernel⟩,
   ⟨(0 : Fin 4), 0, (List.replicate 32 0 : List Byte),
     { z with plat := { z.plat with recs := [parRec P.canMapTxCount.basic 0 [(P.canMapTxCount.idx, 0, 1)]] } }, by decide +kernel⟩,
   ⟨(0 : Fin 4), 0, z, by decide +kernel⟩,
   ⟨(0 : Fin 4), (frame0 : CanFrame),
     { z with can := (vmod (vmod (z.can) ((0 : Fin 4)) (fun x0 => { x0 with st := 1 })) 0 (fun x0 => { x0 with queue := List.replicate 32 frame0 })), role := .active },
     by decide +kernel⟩,
   ⟨(0 : Fin 4), (frame0 : CanFrame), { z with can := (vmod (z.can) ((0 : Fin 4)) (fun x0 => { x0 with st := 2, listen := true })), role := .active }, by
     decide +kernel⟩,
   ⟨(0 : Fin 4), (1 : Fin 5),
     { z with role := .active, can := (vmod (z.can) ((0 : Fin 4)) (fun x0 => { x0 with st := 2 })), plat := { z.plat with recs := [parRec P.canStatusEnable.basic 0 [(P.canStatusEnable.idx, 0, 2)]] } },
     by decide +kernel⟩,
   ⟨(0 : Fin 4), { z with role := .standby }, by decide +kernel⟩,
   ⟨(0 : Fin 4), (frame0 : CanFrame), false, 0,
     { z with can := (vmod (z.can) ((0 : Fin 4)) (fun x0 => { x0 with st := 1, err := 0, detecting := false })) }, by decide +kernel⟩,
   ⟨(0 : Fin 4), (frame0 : CanFrame), false, 0,
     { z with can := (vmod (vmod (z.can) ((0 : Fin 4)) (fun x0 => { x0 with st := 1, err := 0, detecting := false })) 0 (fun x0 => { x0 with rxq := List.replicate 64 rx0 })) },
     by decide +kernel⟩,
   ⟨(0 : Fin 4), (frame0 : CanFrame), true, 0,
     { z with can := (vmod (z.can) ((0 : Fin 4)) (fun x0 => { x0 with st := 1, err := 0, detecting := false })) }, by decide +kernel⟩,
   ⟨(0 : Fin 4), (0 : Fin 3),
     { z with can := (vmod (z.can) ((0 : Fin 4)) (fun x0 => { x0 with st := 1, listen := false, tx := (vmod (x0.tx) ((0 : Fin 3)) (fun x1 => { x1 with st := 1 })) })), plat := { z.plat with recs := [parRec P.canTxOrder.basic ((0 : Fin 4)).val [(P.canTxOrder.idx, 0, 0)]] } },
     by decide +kernel⟩,
   ⟨(0 : Fin 4), (0 : Fin 3),
     { z with can := (vmod (z.can) ((0 : Fin 4)) (fun x0 => { x0 with st := 1, listen := false, tx := (vmod (x0.tx) ((0 : Fin 3)) (fun x1 => { x1 with st := 1 })) })), plat := { z.plat with recs := [parRec P.canTxOrder.basic ((0 : Fin 4)).val [(P.canTxOrder.idx, 0, 1)]] } },
     by decide +kernel⟩,
   ⟨(0 : Fin 4), (0 : Fin 3), false,
     { z with can := (vmod (vmod (z.can) ((0 : Fin 4)) (fun x0 => { x0 with queue := [], st := 2, tx := (vmod (x0.tx) ((0 : Fin 3)) (fun x1 => { x1 with abort := true })) })) 0 (fun x0 => { x0 with tx := (vmod (x0.tx) 0 (fun x1 => { x1 with st := 2 })), st := 2 })) },
     by decide +kernel⟩,
   ⟨(0 : Fin 4), (0 : Fin 3), false,
     { z with can := (vmod (vmod (z.can) ((0 : Fin 4)) (fun x0 => { x0 with queue := [], st := 2, tx := (vmod (x0.tx) ((0 : Fin 3)) (fun x1 => { x1 with abort := false, oneShot := true })) })) 0 (fun x0 => { x0 with tx := (vmod (x0.tx) 0 (fun x1 => { x1 with st := 2, abort := false, oneShot := true })), st := 2 })) },
     by decide +kernel⟩,
   ⟨(0 : Fin 4), (0 : Fin 3), false,
     { z with can := (vmod (vmod (z.can) ((0 : Fin 4)) (fun x0 => { x0 with queue := [], st := 2, tx := (vmod (x0.tx) ((0 : Fin 3)) (fun x1 => { x1 with abort := false, oneShot := false })) })) 0 (fun x0 => { x0 with tx := (vmod (x0.tx) 0 (fun x1 => { x1 with st := 2 })), st := 2 })) },
     by decide +kernel⟩⟩
theorem witness_CanGateway :
    (∃ (c : Fin 4) (b : Fin 3) (r : HostReq) (s : State) (u : State), s.accepts 8 r u ∧ fieldAt 0 1 r.payload = 0 ∧ fieldAt 1 1 r.payload = c.val ∧
      fieldAt 4 1 r.payload = b.val ∧ 12 ≤ r.payload.length ∧ r.payload.length = 12 + fieldAt 6 1 r.payload ∧ u.gatewayOwns c b.val = true ∧
      u.can[c.val].detecting = false ∧ (u.can[c.val].st = 1 ∨ u.can[c.val].st = 2) ∧ canLenOk (bitAt (fieldAt 5 1 r.payload) 1) (fieldAt 6 1 r.payload) =
      true ∧ (bitAt (fieldAt 5 1 r.payload) 1 = true → u.can[c.val].dat ≠ 0) ∧ u.can[c.val].tx[b.val].loadable = true) ∧
    (∃ (c : Fin 4) (b : Fin 3) (r : HostReq) (s : State) (u : State), s.accepts 8 r u ∧ fieldAt 0 1 r.payload = 0 ∧ fieldAt 1 1 r.payload = c.val ∧
      fieldAt 4 1 r.payload = b.val ∧ 12 ≤ r.payload.length ∧ r.payload.length = 12 + fieldAt 6 1 r.payload ∧ u.gatewayOwns c b.val = true ∧
      u.can[c.val].detecting = false ∧ (u.can[c.val].st = 1 ∨ u.can[c.val].st = 2) ∧ canLenOk (bitAt (fieldAt 5 1 r.payload) 1) (fieldAt 6 1 r.payload) =
      true ∧ (bitAt (fieldAt 5 1 r.payload) 1 = true → u.can[c.val].dat ≠ 0) ∧ u.can[c.val].tx[b.val].loadable = false) ∧
    (∃ (c : Fin 4) (b : Fin 3) (r : HostReq) (s : State) (u : State), s.accepts 8 r u ∧ fieldAt 0 1 r.payload = 0 ∧ fieldAt 1 1 r.payload = c.val ∧
      fieldAt 4 1 r.payload = b.val ∧ 12 ≤ r.payload.length ∧ r.payload.length = 12 + fieldAt 6 1 r.payload ∧ u.gatewayOwns c b.val = false) ∧
    (∃ (c : Fin 4) (b : Fin 3) (r : HostReq) (s : State) (u : State), s.accepts 8 r u ∧ fieldAt 0 1 r.payload = 1 ∧ fieldAt 1 1 r.payload = c.val ∧
      fieldAt 4 1 r.payload = b.val ∧ 4 ≤ r.payload.length ∧ u.gatewayOwns c b.val = true) ∧
    (∃ (c : Fin 4) (r : HostReq) (s : State) (u : State), s.accepts 8 r u ∧ fieldAt 0 1 r.payload = 2 ∧ fieldAt 1 1 r.payload = c.val ∧ 4 ≤
      r.payload.length) ∧
    (∃ (c : Fin 4) (r : HostReq) (s : State) (u : State), s.accepts 8 r u ∧ fieldAt 0 1 r.payload = 3 ∧ fieldAt 1 1 r.payload = c.val ∧ 4 ≤
      r.payload.length ∧ u.gatewayReads c = true) ∧
    (∃ (c : Fin 4) (r : HostReq) (s : State) (u : State), s.accepts 8 r u ∧ fieldAt 0 1 r.payload = 3 ∧ fieldAt 1 1 r.payload = c.val ∧ 4 ≤
      r.payload.length ∧ u.gatewayReads c = false) ∧
    (∃ (c : Fin 4) (r : HostReq) (s : State) (u : State) (a : List CanRx) (z : List CanRx) (e : CanRx), s.accepts 8 r u ∧ fieldAt 0 1 r.payload = 4 ∧
      fieldAt 1 1 r.payload = c.val ∧ 4 ≤ r.payload.length ∧ u.gatewayReads c = true ∧ u.can[c.val].rxq = a ++ e :: z ∧ e.seq = fieldAt 4 2 r.payload ∧ (∀
      x : CanRx, x ∈ a → x.seq ≠ e.seq)) ∧
    (∃ (c : Fin 4) (r : HostReq) (s : State) (u : State), s.accepts 8 r u ∧ fieldAt 0 1 r.payload = 4 ∧ fieldAt 1 1 r.payload = c.val ∧ 4 ≤
      r.payload.length ∧ u.gatewayReads c = true ∧ (∀ x : CanRx, x ∈ u.can[c.val].rxq → x.seq ≠ fieldAt 4 2 r.payload)) ∧
    (∃ (c : Fin 4) (r : HostReq) (s : State) (u : State), s.accepts 8 r u ∧ fieldAt 0 1 r.payload = 4 ∧ fieldAt 1 1 r.payload = c.val ∧ 4 ≤
      r.payload.length ∧ u.gatewayReads c = false) ∧
    (∃ (c : Fin 4) (r : HostReq) (s : State) (u : State), s.accepts 8 r u ∧ fieldAt 0 1 r.payload = 5 ∧ fieldAt 1 1 r.payload = c.val ∧ 4 ≤
      r.payload.length) ∧
    (∃ (r : HostReq) (s : State) (u : State), s.accepts 8 r u ∧ fieldAt 0 1 r.payload = 5 ∧ 4 ≤ r.payload.length ∧ 3 < fieldAt 1 1 r.payload) ∧
    (∃ (c : Fin 4) (b : Fin 3) (r : HostReq) (s : State) (u : State), s.accepts 8 r u ∧ fieldAt 0 1 r.payload = 1 ∧ fieldAt 1 1 r.payload = c.val ∧
      fieldAt 4 1 r.payload = b.val ∧ 4 ≤ r.payload.length ∧ u.gatewayOwns c b.val = true ∧ u.can[c.val].tx[b.val].st = 1) ∧
    (∃ (c : Fin 4) (b : Fin 3) (r : HostReq) (s : State) (u : State), s.accepts 8 r u ∧ fieldAt 0 1 r.payload = 1 ∧ fieldAt 1 1 r.payload = c.val ∧
      fieldAt 4 1 r.payload = b.val ∧ 4 ≤ r.payload.length ∧ u.gatewayOwns c b.val = true ∧ u.can[c.val].tx[b.val].st = 2) ∧
    (∃ (c : Fin 4) (b : Fin 3) (r : HostReq) (s : State) (u : State), s.accepts 8 r u ∧ fieldAt 0 1 r.payload = 1 ∧ fieldAt 1 1 r.payload = c.val ∧
      fieldAt 4 1 r.payload = b.val ∧ 4 ≤ r.payload.length ∧ u.gatewayOwns c b.val = true ∧ u.can[c.val].tx[b.val].st ≠ 1 ∧ u.can[c.val].tx[b.val].st ≠ 2) :=
  ⟨⟨(0 : Fin 4), (0 : Fin 3), (signed 8 0 ([0, 0, 0, 0, 0, 0, 0, 0, 0, 0, 0, 0])
     ({ (keyed .surveyed) with can := (vmod ((keyed .surveyed).can) ((0 : Fin 4)) (fun x0 => { x0 with detecting := false, st := 1 })), plat := { (keyed .surveyed).plat with recs := [parRec P.canGatewayTx.basic 0 [(P.canGatewayTx.idx, 0, 7)]] } })),
     { (keyed .surveyed) with can := (vmod ((keyed .surveyed).can) ((0 : Fin 4)) (fun x0 => { x0 with detecting := false, st := 1 })), plat := { (keyed .surveyed).plat with recs := [parRec P.canGatewayTx.basic 0 [(P.canGatewayTx.idx, 0, 7)]] } },
     (checked
     ({ (keyed .surveyed) with can := (vmod ((keyed .surveyed).can) ((0 : Fin 4)) (fun x0 => { x0 with detecting := false, st := 1 })), plat := { (keyed .surveyed).plat with recs := [parRec P.canGatewayTx.basic 0 [(P.canGatewayTx.idx, 0, 7)]] } })),
     signed_accepts _ _ _ _ (by decide +kernel), by decide +kernel⟩,
   ⟨(0 : Fin 4), (0 : Fin 3), (signed 8 0 ([0, 0, 0, 0, 0, 0, 0, 0, 0, 0, 0, 0])
     ({ (keyed .surveyed) with can := (vmod (vmod ((keyed .surveyed).can) ((0 : Fin 4)) (fun x0 => { x0 with detecting := false, st := 1 })) 0 (fun x0 => { x0 with st := 1, tx := (vmod (x0.tx) 0 (fun x1 => { x1 with st := 1 })) })), plat := { (keyed .surveyed).plat with recs := [parRec P.canGatewayTx.basic 0 [(P.canGatewayTx.idx, 0, 7)]] } })),
     { (keyed .surveyed) with can := (vmod (vmod ((keyed .surveyed).can) ((0 : Fin 4)) (fun x0 => { x0 with detecting := false, st := 1 })) 0 (fun x0 => { x0 with st := 1, tx := (vmod (x0.tx) 0 (fun x1 => { x1 with st := 1 })) })), plat := { (keyed .surveyed).plat with recs := [parRec P.canGatewayTx.basic 0 [(P.canGatewayTx.idx, 0, 7)]] } },
     (checked
     ({ (keyed .surveyed) with can := (vmod (vmod ((keyed .surveyed).can) ((0 : Fin 4)) (fun x0 => { x0 with detecting := false, st := 1 })) 0 (fun x0 => { x0 with st := 1, tx := (vmod (x0.tx) 0 (fun x1 => { x1 with st := 1 })) })), plat := { (keyed .surveyed).plat with recs := [parRec P.canGatewayTx.basic 0 [(P.canGatewayTx.idx, 0, 7)]] } })),
     signed_accepts _ _ _ _ (by decide +kernel), by decide +kernel⟩,
   ⟨(0 : Fin 4), (0 : Fin 3), (signed 8 0 ([0, 0, 0, 0, 0, 0, 0, 0, 0, 0, 0, 0]) ((keyed .surveyed))), (keyed .surveyed), (checked ((keyed .surveyed))),
     signed_accepts _ _ _ _ (by decide +kernel), by decide +kernel⟩,
   ⟨(0 : Fin 4), (0 : Fin 3), (signed 8 0 ([1, 0, 0, 0, 0])
     ({ (keyed .surveyed) with plat := { (keyed .surveyed).plat with recs := [parRec P.canGatewayTx.basic 0 [(P.canGatewayTx.idx, 0, 7)]] } })),
     { (keyed .surveyed) with plat := { (keyed .surveyed).plat with recs := [parRec P.canGatewayTx.basic 0 [(P.canGatewayTx.idx, 0, 7)]] } }, (checked
     ({ (keyed .surveyed) with plat := { (keyed .surveyed).plat with recs := [parRec P.canGatewayTx.basic 0 [(P.canGatewayTx.idx, 0, 7)]] } })),
     signed_accepts _ _ _ _ (by decide +kernel), by decide +kernel⟩,
   ⟨(0 : Fin 4), (signed 8 0 ([2, 0, 0, 0]) ((keyed .surveyed))), (keyed .surveyed), (checked ((keyed .surveyed))), signed_accepts _ _ _ _ (by
     decide +kernel), by decide +kernel⟩,
   ⟨(0 : Fin 4), (signed 8 0 ([3, 0, 0, 0])
     ({ (keyed .surveyed) with plat := { (keyed .surveyed).plat with recs := [parRec P.canGatewayRx.basic 0 [(P.canGatewayRx.idx, 0, 1)]] } })),
     { (keyed .surveyed) with plat := { (keyed .surveyed).plat with recs := [parRec P.canGatewayRx.basic 0 [(P.canGatewayRx.idx, 0, 1)]] } }, (checked
     ({ (keyed .surveyed) with plat := { (keyed .surveyed).plat with recs := [parRec P.canGatewayRx.basic 0 [(P.canGatewayRx.idx, 0, 1)]] } })),
     signed_accepts _ _ _ _ (by decide +kernel), by decide +kernel⟩,
   ⟨(0 : Fin 4), (signed 8 0 ([3, 0, 0, 0]) ((keyed .surveyed))), (keyed .surveyed), (checked ((keyed .surveyed))), signed_accepts _ _ _ _ (by
     decide +kernel), by decide +kernel⟩,
   ⟨(0 : Fin 4), (signed 8 0 ([4, 0, 0, 0])
     ({ (keyed .surveyed) with can := (vmod (vmod ((keyed .surveyed).can) ((0 : Fin 4)) (fun x0 => { x0 with rxq := (([] : List CanRx)) ++ ((rx0 : CanRx)) :: (([] : List CanRx)) })) 0 (fun x0 => { x0 with rxq := [rx0] })), plat := { (keyed .surveyed).plat with recs := [parRec P.canGatewayRx.basic 0 [(P.canGatewayRx.idx, 0, 1)]] } })),
     { (keyed .surveyed) with can := (vmod (vmod ((keyed .surveyed).can) ((0 : Fin 4)) (fun x0 => { x0 with rxq := (([] : List CanRx)) ++ ((rx0 : CanRx)) :: (([] : List CanRx)) })) 0 (fun x0 => { x0 with rxq := [rx0] })), plat := { (keyed .surveyed).plat with recs := [parRec P.canGatewayRx.basic 0 [(P.canGatewayRx.idx, 0, 1)]] } },
     (checked
     ({ (keyed .surveyed) with can := (vmod (vmod ((keyed .surveyed).can) ((0 : Fin 4)) (fun x0 => { x0 with rxq := (([] : List CanRx)) ++ ((rx0 : CanRx)) :: (([] : List CanRx)) })) 0 (fun x0 => { x0 with rxq := [rx0] })), plat := { (keyed .surveyed).plat with recs := [parRec P.canGatewayRx.basic 0 [(P.canGatewayRx.idx, 0, 1)]] } })),
     ([] : List CanRx), ([] : List CanRx), (rx0 : CanRx), signed_accepts _ _ _ _ (by decide +kernel), by decide +kernel⟩,
   ⟨(0 : Fin 4), (signed 8 0 ([4, 0, 0, 0])
     ({ (keyed .surveyed) with plat := { (keyed .surveyed).plat with recs := [parRec P.canGatewayRx.basic 0 [(P.canGatewayRx.idx, 0, 1)]] } })),
     { (keyed .surveyed) with plat := { (keyed .surveyed).plat with recs := [parRec P.canGatewayRx.basic 0 [(P.canGatewayRx.idx, 0, 1)]] } }, (checked
     ({ (keyed .surveyed) with plat := { (keyed .surveyed).plat with recs := [parRec P.canGatewayRx.basic 0 [(P.canGatewayRx.idx, 0, 1)]] } })),
     signed_accepts _ _ _ _ (by decide +kernel), by decide +kernel⟩,
   ⟨(0 : Fin 4), (signed 8 0 ([4, 0, 0, 0]) ((keyed .surveyed))), (keyed .surveyed), (checked ((keyed .surveyed))), signed_accepts _ _ _ _ (by
     decide +kernel), by decide +kernel⟩,
   ⟨(0 : Fin 4), (signed 8 0 ([5, 0, 0, 0]) ((keyed .surveyed))), (keyed .surveyed), (checked ((keyed .surveyed))), signed_accepts _ _ _ _ (by
     decide +kernel), by decide +kernel⟩,
   ⟨(signed 8 0 ([5, 4, 0, 0]) ((keyed .surveyed))), (keyed .surveyed), (checked ((keyed .surveyed))), signed_accepts _ _ _ _ (by decide +kernel), by
     decide +kernel⟩,
   ⟨(0 : Fin 4), (0 : Fin 3), (signed 8 0 ([1, 0, 0, 0, 0])
     ({ (keyed .surveyed) with can := (vmod ((keyed .surveyed).can) ((0 : Fin 4)) (fun x0 => { x0 with tx := (vmod (x0.tx) ((0 : Fin 3)) (fun x1 => { x1 with st := 1 })) })), plat := { (keyed .surveyed).plat with recs := [parRec P.canGatewayTx.basic 0 [(P.canGatewayTx.idx, 0, 7)]] } })),
     { (keyed .surveyed) with can := (vmod ((keyed .surveyed).can) ((0 : Fin 4)) (fun x0 => { x0 with tx := (vmod (x0.tx) ((0 : Fin 3)) (fun x1 => { x1 with st := 1 })) })), plat := { (keyed .surveyed).plat with recs := [parRec P.canGatewayTx.basic 0 [(P.canGatewayTx.idx, 0, 7)]] } },
     (checked
     ({ (keyed .surveyed) with can := (vmod ((keyed .surveyed).can) ((0 : Fin 4)) (fun x0 => { x0 with tx := (vmod (x0.tx) ((0 : Fin 3)) (fun x1 => { x1 with st := 1 })) })), plat := { (keyed .surveyed).plat with recs := [parRec P.canGatewayTx.basic 0 [(P.canGatewayTx.idx, 0, 7)]] } })),
     signed_accepts _ _ _ _ (by decide +kernel), by decide +kernel⟩,
   ⟨(0 : Fin 4), (0 : Fin 3), (signed 8 0 ([1, 0, 0, 0, 0])
     ({ (keyed .surveyed) with can := (vmod ((keyed .surveyed).can) ((0 : Fin 4)) (fun x0 => { x0 with tx := (vmod (x0.tx) ((0 : Fin 3)) (fun x1 => { x1 with st := 2 })) })), plat := { (keyed .surveyed).plat with recs := [parRec P.canGatewayTx.basic 0 [(P.canGatewayTx.idx, 0, 7)]] } })),
     { (keyed .surveyed) with can := (vmod ((keyed .surveyed).can) ((0 : Fin 4)) (fun x0 => { x0 with tx := (vmod (x0.tx) ((0 : Fin 3)) (fun x1 => { x1 with st := 2 })) })), plat := { (keyed .surveyed).plat with recs := [parRec P.canGatewayTx.basic 0 [(P.canGatewayTx.idx, 0, 7)]] } },
     (checked
     ({ (keyed .surveyed) with can := (vmod ((keyed .surveyed).can) ((0 : Fin 4)) (fun x0 => { x0 with tx := (vmod (x0.tx) ((0 : Fin 3)) (fun x1 => { x1 with st := 2 })) })), plat := { (keyed .surveyed).plat with recs := [parRec P.canGatewayTx.basic 0 [(P.canGatewayTx.idx, 0, 7)]] } })),
     signed_accepts _ _ _ _ (by decide +kernel), by decide +kernel⟩,
   ⟨(0 : Fin 4), (0 : Fin 3), (signed 8 0 ([1, 0, 0, 0, 0])
     ({ (keyed .surveyed) with plat := { (keyed .surveyed).plat with recs := [parRec P.canGatewayTx.basic 0 [(P.canGatewayTx.idx, 0, 7)]] } })),
     { (keyed .surveyed) with plat := { (keyed .surveyed).plat with recs := [parRec P.canGatewayTx.basic 0 [(P.canGatewayTx.idx, 0, 7)]] } }, (checked
     ({ (keyed .surveyed) with plat := { (keyed .surveyed).plat with recs := [parRec P.canGatewayTx.basic 0 [(P.canGatewayTx.idx, 0, 7)]] } })),
     signed_accepts _ _ _ _ (by decide +kernel), by decide +kernel⟩⟩
theorem witness_EveryStepKeeps : ∃ s : State, s.memWf := ⟨z, rfl, rfl⟩
end Sys2Proof.Tests
end

section
/-! SUPPORT. Host writes of objects (R12, R30, R48, R103): what each command of a single object hands to the shared write, what
that write does with it, and what a waiting write makes of the state at the frame boundary. -/
namespace Sys2Proof.Machine

/-! The commands of single objects, each as the write of its object. -/
section WriteCommands
variable (s : State) (leg : Leg) (a c : Fin 4) (v : Nat)
@[simp] theorem exec_objectWrite (id elem : Nat) (x : Int) : exec (.objectWrite id elem x) s = .next (s.hostWrite id elem x) := rfl
@[simp] theorem exec_syncPhaseWrite : exec (.syncPhaseWrite v) s = .next (s.hostWrite 0x02000004 0 v) := rfl
@[simp] theorem exec_syncinEnableWrite : exec (.syncinEnableWrite v) s = .next (s.hostWrite 0x02000005 0 v) := rfl
@[simp] theorem exec_balEnableWrite : exec (.balEnableWrite v) s = .next (s.hostWrite 0x14100001 0 v) := rfl
@[simp] theorem exec_probeEnableWrite : exec (.probeEnableWrite v) s = .next (s.hostWrite 0x20100002 0 v) := rfl
@[simp] theorem exec_bankSelectWrite : exec (.bankSelectWrite leg v) s = .next (s.hostWrite (0x38000006 + leg.val * 65536) 0 v) := rfl
@[simp] theorem exec_axTargetWrite (x : Int) : exec (.axTargetWrite a x) s = .next (s.hostWrite (0x58000004 + a.val * 65536) 0 x) := rfl
@[simp] theorem exec_axCommandHome : exec (.axCommandHome a) s = .next (s.hostWrite (0x58000005 + a.val * 65536) 0 1) := rfl
@[simp] theorem exec_axCommandStop : exec (.axCommandStop a) s = .next (s.hostWrite (0x58000005 + a.val * 65536) 0 2) := rfl
@[simp] theorem exec_axEnableWrite : exec (.axEnableWrite a v) s = .next (s.hostWrite (0x58000006 + a.val * 65536) 0 v) := rfl
@[simp] theorem exec_canEnableWrite : exec (.canEnableWrite c v) s = .next (s.hostWrite (0x78000002 + c.val * 65536) 0 v) := rfl
@[simp] theorem exec_updateEnableWrite : exec (.updateEnableWrite v) s = .next (s.hostWrite 0x8000000B 0 v) := rfl
@[simp] theorem exec_bistEnableWrite : exec (.bistEnableWrite v) s = .next (s.hostWrite 0x88000009 0 v) := rfl
@[simp] theorem exec_contactLostClear : exec (.contactLostClear leg v) s = .next (s.hostWrite (0x10000001 + leg.val * 2 ^ 24) 0 v) := rfl
@[simp] theorem exec_telegramDegradedClear : exec (.telegramDegradedClear v) s = .next (s.hostWrite 0x40000001 0 v) := rfl
@[simp] theorem exec_baselineLostClear : exec (.baselineLostClear v) s = .next (s.hostWrite 0x01000020 0 v) := rfl
@[simp] theorem exec_timeOverrunClear : exec (.timeOverrunClear v) s = .next (s.hostWrite 0x02000003 0 v) := rfl
@[simp] theorem exec_supplySwitchedClear : exec (.supplySwitchedClear v) s = .next (s.hostWrite 0x04000001 0 v) := rfl
@[simp] theorem exec_resetreqStuckClear : exec (.resetreqStuckClear v) s = .next (s.hostWrite 0x04000010 0 v) := rfl
@[simp] theorem exec_warnLatchedClear : exec (.warnLatchedClear v) s = .next (s.hostWrite 0x20100017 0 v) := rfl
@[simp] theorem exec_learnWriteFailClear : exec (.learnWriteFailClear v) s = .next (s.hostWrite 0x20100018 0 v) := rfl
@[simp] theorem exec_fbQueueFullClear : exec (.fbQueueFullClear v) s = .next (s.hostWrite 0x68000001 0 v) := rfl
@[simp] theorem exec_canStatusClear : exec (.canStatusClear c v) s = .next (s.hostWrite (0x78000001 + c.val * 65536) 0 v) := rfl
end WriteCommands

/-- R12: the objects that hold a bit cleared by writing 1. -/
def hasW1c (id : Nat) : Bool :=
  id ∈ [0x01000020, 0x02000003, 0x04000001, 0x04000010, 0x20100017, 0x20100018, 0x40000001, 0x68000001] ∨
  (0x10 ≤ id / 2 ^ 24 ∧ id / 2 ^ 24 ≤ 0x13 ∧ id % 2 ^ 24 = 1) ∨
  (id / 2 ^ 24 = 0x78 ∧ id / 65536 % 256 < 4 ∧ id % 65536 = 1)

/-- Whether an object has a W1C bit depends neither on the value written nor on the state. -/
theorem clearOnes_eq_none_of_hasW1c_false {id : Nat} (h : hasW1c id = false) (v : Nat) (s : State) : s.clearOnes id v = none := by
  simp only [hasW1c, decide_eq_false_iff_not, List.mem_cons, List.not_mem_nil, or_false, not_or] at h
  obtain ⟨⟨h1, h2, h3, h4, h5, h6, h7, h8⟩, hring, hcan⟩ := h
  simp only [State.clearOnes, h1, h2, h3, h4, h5, h6, h7, h8, hring, hcan, if_false]

section HostWrite
variable {s t : State} {id elem : Nat} {v : Int}

/-- R12, R98: a write that is not accepted leaves everything as it was. -/
theorem hostWrite_eq_self_of_refused (h : s.hostWrites = false ∨ s.writeStatus id elem v ≠ 0) : s.hostWrite id elem v = s :=
  if_neg fun ⟨hw, hs⟩ => h.elim (fun hf => Bool.noConfusion (hw.symm.trans hf)) (fun hne => hne hs)

/-- R30, R48: an accepted write waits for the boundary of the frame. -/
theorem hostWrite_waits (hw : s.hostWrites = true) (hs : s.writeStatus id elem v = 0) (hc : s.clearOnes id v.toNat = none) :
    s.hostWrite id elem v = { s with host := { s.host with writes := s.host.writes ++ [(id, elem, v)] } } := by
  simp only [State.hostWrite, hw, hs, and_self, if_true, State.acceptWrite, hc]

/-- R12: an accepted write of an object with W1C bits clears them at once. -/
theorem hostWrite_clears (hw : s.hostWrites = true) (hs : s.writeStatus id elem v = 0) (hc : s.clearOnes id v.toNat = some t) :
    s.hostWrite id elem v = t := by
  simp only [State.hostWrite, hw, hs, and_self, if_true, State.acceptWrite, hc]

/-- The outcome of a refused write. -/
theorem next_hostWrite_refused (h : s.hostWrites = false ∨ s.writeStatus id elem v ≠ 0) :
    (.next (s.hostWrite id elem v) : Host.Outcome State Fault Refusal) = .next s :=
  congrArg _ (hostWrite_eq_self_of_refused h)

/-- The outcome of an accepted write that waits. -/
theorem next_hostWrite_waits (hid : hasW1c id = false) (hw : s.hostWrites = true) (hs : s.writeStatus id elem v = 0) :
    (.next (s.hostWrite id elem v) : Host.Outcome State Fault Refusal) =
      .next { s with host := { s.host with writes := s.host.writes ++ [(id, elem, v)] } } :=
  congrArg _ (hostWrite_waits hw hs (clearOnes_eq_none_of_hasW1c_false hid _ s))

/-- The outcome of an accepted write that clears bits. -/
theorem next_hostWrite_clears (hc : s.clearOnes id v.toNat = some t) (hw : s.hostWrites = true) (hs : s.writeStatus id elem v = 0) :
    (.next (s.hostWrite id elem v) : Host.Outcome State Fault Refusal) = .next t :=
  congrArg _ (hostWrite_clears hw hs hc)
end HostWrite

/-! The answer to a write of one element (R12, R103, R411). -/
section WriteStatus
variable {s : State} {id elem : Nat} {o : Obj} {b : Bounds} (v : Int)

/-- An element beyond the object's last is out of its bounds. -/
theorem writeStatus_of_count_le (ho : s.object id = some o) (he : o.count ≤ elem) : s.writeStatus id elem v = 3 := by
  simp only [State.writeStatus, ho, he, if_true]

/-- R12: a read-only object. -/
theorem writeStatus_of_readOnly (hid : hasW1c id = false) (ho : s.object id = some o) (he : elem < o.count) (hb : s.writable id elem = none) :
    s.writeStatus id elem v = 2 := by
  simp [State.writeStatus, ho, Nat.not_le.2 he, clearOnes_eq_none_of_hasW1c_false hid, hb]

/-- R12: an RW-runtime object outside the states in which it is writable. -/
theorem writeStatus_of_not_runtime (hid : hasW1c id = false) (ho : s.object id = some o) (he : elem < o.count) (hb : s.writable id elem = some b)
    (hm : s.inStates runtimeStates = false) : s.writeStatus id elem v = 4 := by
  simp [State.writeStatus, ho, Nat.not_le.2 he, clearOnes_eq_none_of_hasW1c_false hid, hb, hm]

/-- R103: an RW-runtime object whose chapter refuses nothing now: the bounds alone decide. -/
theorem writeStatus_of_runtime (hid : hasW1c id = false) (ho : s.object id = some o) (he : elem < o.count) (hb : s.writable id elem = some b)
    (hm : s.inStates runtimeStates = true) (hr : b.refuse = 0) : s.writeStatus id elem v = if v < b.lo ∨ b.hi < v then 3 else 0 := by
  simp [State.writeStatus, ho, Nat.not_le.2 he, clearOnes_eq_none_of_hasW1c_false hid, hb, hm, hr]
end WriteStatus

/-! The objects of which the answer is stated: BAL_ENABLE, PROBE_ENABLE, and the stamp of the frame, which is read-only. -/
section NamedObjects
variable (s : State)
theorem object_balEnable : s.object 0x14100001 = some (scalar 1 s.balEnable) := rfl
theorem object_probeEnable : s.object 0x20100002 = some (scalar 1 s.probeEnable) := rfl
theorem object_frameStamp : s.object 0x02000001 = some (scalar 8 s.time.frameStamp) := rfl
theorem writable_balEnable : s.writable 0x14100001 0 = within 0 15 := rfl
theorem writable_probeEnable : s.writable 0x20100002 0 = within 0 3 := rfl
theorem writable_frameStamp : s.writable 0x02000001 0 = none := rfl
end NamedObjects

section Boundary
variable (s : State)

/-! R48: which writes of a frame take effect. -/
theorem applyWrites_nil (h : s.host.writes = []) : s.applyWrites = s := by
  simp only [State.applyWrites, h, lastWrites, List.foldl_nil]
  rw [← h]

theorem applyWrites_singleton {id elem : Nat} {v : Int} (h : s.host.writes = [(id, elem, v)]) :
    s.applyWrites = ({ s with host := { s.host with writes := [] } } : State).applyWrite id elem v := by
  simp [State.applyWrites, h, lastWrites]

/-- R48: of two writes to one element the second takes effect. -/
theorem applyWrites_pair {id elem : Nat} {u v : Int} (h : s.host.writes = [(id, elem, u), (id, elem, v)]) :
    s.applyWrites = ({ s with host := { s.host with writes := [] } } : State).applyWrite id elem v := by
  simp [State.applyWrites, h, lastWrites]

/-! R30, R48: what a write makes of its object when it takes effect. -/
theorem applyWrite_layupTimer (v : Nat) : s.applyWrite 0x04000013 0 v = { s with layup := { s.layup with timer := v } } := rfl
theorem applyWrite_dispatchTimeout (v : Nat) : s.applyWrite 0x30100008 0 v = { s with str := { s.str with timeout := v } } := rfl
/-- R452: UPDATE_ENABLE 0 holds the application. -/
theorem applyWrite_updateEnable_zero : s.applyWrite 0x8000000B 0 0 = { s with upd := { s.upd with enable := false } } := rfl
/-- R452: UPDATE_ENABLE 1 resumes a held application. -/
theorem applyWrite_updateEnable_one_of_held (h : s.upd.session = 4) :
    s.applyWrite 0x8000000B 0 1 = { s with upd := { s.upd with enable := true, session := 3 } } := by
  change s.setUpdateEnable true = _
  simp [State.setUpdateEnable, State.modUpd, h]
/-- R463: BIST_ENABLE 0 lets a slice in progress complete. -/
theorem applyWrite_bistEnable_zero :
    s.applyWrite 0x88000009 0 0 = { s with bist := { s.bist with enable := false, run := if s.bist.inSlice then 2 else 3 } } := rfl
/-- R272: BANK_SELECT is taken over, and due. -/
theorem applyWrite_bankSelect (leg : Leg) (v : Nat) : s.applyWrite (0x38000006 + leg.val * 65536) 0 v =
    s.modCle leg (fun c => { c with bankSelect := v, bankDue := some v }) := by
  fin_cases leg <;> rfl
/-- R345: AX_COMMAND 1. -/
theorem applyWrite_axCommand_home (a : Fin 4) : s.applyWrite (0x58000005 + a.val * 65536) 0 1 = s.axisHome a := by
  fin_cases a <;> rfl
/-- R350: AX_COMMAND 2. -/
theorem applyWrite_axCommand_stop (a : Fin 4) : s.applyWrite (0x58000005 + a.val * 65536) 0 2 = s.axisStop a := by
  fin_cases a <;> rfl
end Boundary

/-! R12: the W1C bits of the objects that exist once per leg or controller. -/
theorem clearOnes_linkStatus (leg : Leg) (v : Nat) (s : State) : s.clearOnes (0x10000001 + leg.val * 2 ^ 24) v =
    some (s.modRing leg (fun r => { r with contactLost := r.contactLost && !bitAt v 4 })) := by
  fin_cases leg <;> rfl
theorem clearOnes_canStatus (c : Fin 4) (v : Nat) (s : State) : s.clearOnes (0x78000001 + c.val * 65536) v =
    some (s.modCan c (fun x => { x with ovf := x.ovf && !bitAt v 9, drop := x.drop && !bitAt v 8 })) := by
  fin_cases c <;> rfl

/-- Settles O52: each command is the write of its object, which has no W1C bit, so it waits or is refused as a whole; and the rules of
`writeStatus`, `applyWrites` and `applyWrite` above. -/
theorem objectWrites : Obligations.ObjectWrites := by
  unfold Obligations.ObjectWrites
  simp only [exec_objectWrite, exec_syncPhaseWrite, exec_syncinEnableWrite, exec_balEnableWrite, exec_probeEnableWrite,
    exec_bankSelectWrite, exec_axTargetWrite, exec_axCommandHome, exec_axCommandStop, exec_axEnableWrite, exec_canEnableWrite,
    exec_updateEnableWrite, exec_bistEnableWrite]
  refine ⟨fun id elem v s hw hs hc => ?objectWaits, fun id elem v s h => next_hostWrite_refused h,
    fun v s => next_hostWrite_waits (by decide), fun v s => next_hostWrite_waits (by decide), fun v s => next_hostWrite_waits (by decide),
    fun v s => next_hostWrite_waits (by decide), fun leg v s => next_hostWrite_waits (by decide +revert),
    fun a v s => next_hostWrite_waits (by decide +revert), fun a s => next_hostWrite_waits (by decide +revert),
    fun a s => next_hostWrite_waits (by decide +revert), fun a v s => next_hostWrite_waits (by decide +revert),
    fun c v s => next_hostWrite_waits (by decide +revert), fun v s => next_hostWrite_waits (by decide), fun v s => next_hostWrite_waits (by decide),
    fun v leg s h => ?refused, fun v s hm => ?inBounds, fun v s hm => ?wrongState, fun v s => ?readOnly,
    applyWrites_nil, fun id elem v s => applyWrites_singleton s, fun id elem u v s => applyWrites_pair s,
    applyWrite_updateEnable_zero, applyWrite_updateEnable_one_of_held, fun s h => ?sliceCompletes, fun s h => ?testStops,
    fun v s => applyWrite_layupTimer s v, fun v s => applyWrite_dispatchTimeout s v, fun leg v s => ?bankSelect,
    fun a s => ⟨applyWrite_axCommand_home s a, applyWrite_axCommand_stop s a⟩⟩
  case objectWaits => rw [hostWrite_waits hw hs hc]
  case refused => simp only [hostWrite_eq_self_of_refused (.inl h), and_self]
  case inBounds => exact writeStatus_of_runtime v (by decide) (object_probeEnable s) Nat.one_pos (writable_probeEnable s) hm rfl
  case wrongState => exact writeStatus_of_not_runtime v (by decide) (object_balEnable s) Nat.one_pos (writable_balEnable s) hm
  case readOnly =>
    exact ⟨writeStatus_of_readOnly v (by decide) (object_frameStamp s) Nat.one_pos (writable_frameStamp s),
      writeStatus_of_count_le v (object_balEnable s) le_rfl⟩
  case sliceCompletes => simp [applyWrite_bistEnable_zero, h]
  case testStops => simp [applyWrite_bistEnable_zero, h]
  case bankSelect =>
    rw [applyWrite_bankSelect]
    exact ⟨_, rfl, rfl, by simp, fun l hl => vmod_other _ _ _ _ hl⟩

/-- Settles O53: each command is the write of an object with W1C bits, which an accepted write clears at once. -/
theorem latchesCleared : Obligations.LatchesCleared := by
  unfold Obligations.LatchesCleared
  simp only [exec_contactLostClear, exec_telegramDegradedClear, exec_baselineLostClear, exec_timeOverrunClear,
    exec_supplySwitchedClear, exec_resetreqStuckClear, exec_warnLatchedClear, exec_learnWriteFailClear, exec_fbQueueFullClear,
    exec_canStatusClear]
  refine ⟨fun leg v s hw hs => ?contactLost, fun v s => next_hostWrite_clears rfl, fun v s => next_hostWrite_clears rfl,
    fun v s => next_hostWrite_clears rfl, fun v s => next_hostWrite_clears rfl, fun v s => next_hostWrite_clears rfl,
    fun v s => next_hostWrite_clears rfl, fun v s => next_hostWrite_clears rfl, fun v s => next_hostWrite_clears rfl,
    fun c v s hw hs => ?canStatus, fun v c s h => ?refused⟩
  case contactLost =>
    exact ⟨_, next_hostWrite_clears (clearOnes_linkStatus leg v s) hw hs, rfl, vmod_same _ _ _, fun l hl => vmod_other _ _ _ _ hl⟩
  case canStatus =>
    exact ⟨_, next_hostWrite_clears (clearOnes_canStatus c v s) hw hs, rfl, vmod_same _ _ _, fun d hd => vmod_other _ _ _ _ hd⟩
  case refused => simp only [hostWrite_eq_self_of_refused (.inl h), and_self]

end Sys2Proof.Machine
end

section
/-! SUPPORT. The checks of the wire (R20, R112, R114): a CRC-16 that stands behind the bytes it was computed over passes, and no
other value does. The rules of leBytes stand here for the proofs; those of the tests are the tests' own. -/
namespace Sys2Proof.Machine

theorem leNat_leBytes (k n : Nat) : leNat (leBytes k n) = n % 256 ^ k := by
  induction k generalizing n with
  | zero => simp [leBytes, leNat, Nat.mod_one]
  | succ k ih => simp [leBytes, leNat, ih, Nat.pow_succ', Nat.mod_mul]

theorem length_leBytes (k n : Nat) : (leBytes k n).length = k := by
  induction k generalizing n with
  | zero => rfl
  | succ k ih => simp [leBytes, ih]

/-- The number that stands behind some bytes. -/
theorem fieldAt_append_leBytes (a : List Byte) (k n : Nat) : fieldAt a.length k (a ++ leBytes k n) = n % 256 ^ k := by
  rw [fieldAt, slice, List.drop_left, List.take_of_length_le (length_leBytes k n).le, leNat_leBytes]

theorem crcMsbBits_lt {w poly c : Nat} (hp : poly < 2 ^ w) (k : Nat) (hc : c < 2 ^ w) : crcMsbBits w poly k c < 2 ^ w := by
  induction k generalizing c with
  | zero => exact hc
  | succ k ih =>
    have hd : 2 * c % 2 ^ w < 2 ^ w := Nat.mod_lt _ (Nat.two_pow_pos w)
    rw [crcMsbBits]
    split
    · exact ih (Nat.xor_lt_two_pow hd hp)
    · exact ih hd

theorem crc16_lt (bs : List Byte) : crc16 bs < 65536 := by
  suffices h : ∀ c < 2 ^ 16, crcMsb 16 0x1021 c bs < 2 ^ 16 from h _ (by decide)
  induction bs with
  | nil => exact fun c hc => hc
  | cons b bs ih =>
    intro c hc
    have hb : b.toNat * 2 ^ 8 < 2 ^ 16 := Nat.mul_lt_mul_of_pos_right b.isLt (by decide)
    exact ih _ (crcMsbBits_lt (by decide) 8 (Nat.xor_lt_two_pow hc hb))

/-- R112: the check of bytes that end in a 16-bit number. -/
theorem wireGood_append (b : List Byte) (n : Nat) : wireGood (b ++ leBytes 2 n) = (n % 2 ^ 16 == crc16 b) := by
  simp [wireGood, length_leBytes, fieldAt_append_leBytes]

/-- R119: a record that arrives as sent passes. -/
theorem RingRec.good_whole (r : RingRec) : r.good true = true := by
  simp [RingRec.good, RingRec.bytes, wireGood_append, crc16_lt]

theorem length_fitBytes (k : Nat) (bs : List Byte) : (fitBytes k bs).length = k := by
  simp [fitBytes]

theorem Payload.length_body (p : Payload) : p.body.length = 56 := by
  cases p <;> exact length_fitBytes 56 _

theorem Flit.length_head (f : Flit) : f.head.length = 62 := by
  simp [Flit.head, length_leBytes, f.payload.length_body]

/-- R20: a flit has 64 bytes. -/
theorem Flit.length_bytes (f : Flit) : f.bytes.length = 64 := by
  simp [Flit.bytes, length_leBytes, f.length_head]

/-- R20: the check of a flit's first 62 bytes with a 16-bit number behind them. -/
theorem flitGood_head_append (f : Flit) (n : Nat) : flitGood (f.head ++ leBytes 2 n) = (n % 2 ^ 16 == crc16 f.head) := by
  have h := fieldAt_append_leBytes f.head 2 n
  rw [f.length_head] at h
  simp [flitGood, length_leBytes, f.length_head, h, List.take_left' f.length_head]

/-- R20: the CRC tells a flit that arrived whole from a damaged one: no CRC is its own complement. -/
theorem flitGood_arrives (f : Flit) (whole : Bool) : flitGood (f.arrives whole) = whole := by
  have hlt := crc16_lt f.head
  cases whole with
  | true => simpa [Flit.arrives, Flit.bytes, flitGood_head_append] using hlt
  | false =>
    have : (65535 - crc16 f.head) % 2 ^ 16 ≠ crc16 f.head := by omega
    simpa [Flit.arrives, flitGood_head_append] using this

end Sys2Proof.Machine
end

section
/-! SUPPORT. Trains back at the module, and trains missed (R117 to R119, R131, R134): what the end's freeing, a train's loss and its
arrival make of their ring. They change that ring alone. -/
namespace Sys2Proof.Machine

/-! A ring changed leaves all else, and the other rings, as they were. -/
section RingOnly
variable {leg : Leg} {s t u : State}

theorem State.ringOnly.trans (h : s.ringOnly leg t) (k : t.ringOnly leg u) : s.ringOnly leg u := by
  obtain ⟨ht, hr⟩ := h
  obtain ⟨hu, kr⟩ := k
  exact ⟨by rw [hu, ht], fun l hl => (kr l hl).trans (hr l hl)⟩

theorem ringOnly_modRing (f : Ring → Ring) : s.ringOnly leg (s.modRing leg f) := ⟨rfl, fun _ hl => vmod_other _ _ _ _ hl⟩
end RingOnly

/-- R117: a ring with an end free again. -/
def Ring.freed (fromB : Bool) (now : Nat) (r : Ring) : Ring :=
  { r with
    flight := vmod r.flight (endIx fromB) (fun _ => none), freeAt := vmod r.freeAt (endIx fromB) (fun _ => now + 500)
    unread := r.unread.map (fun (u : RoundInfo) => match r.flight[(endIx fromB).val] with
      | some f => if f.cmd = 0x11 ∧ u.round = fieldAt 0 1 f.payload then { u with out := u.out.erase fromB } else u
      | none => u) }

theorem freeEnd_eq (leg : Leg) (b : Bool) (s : State) : s.freeEnd leg b = s.modRing leg (Ring.freed b s.time.meridian) := rfl
/-- R119, R134: a ring whose train has come back: its end free, its misses in a row over, its closed-ring sightings counted. -/
def Ring.returned (fromB : Bool) (back : TrainBack) (now : Nat) (r : Ring) : Ring :=
  { r.freed fromB now with
    missRun := vmod r.missRun (endIx fromB) (fun _ => 0)
    sightings := if r.mode = 1 ∧ back.atOther then r.sightings + 1 else 0 }

/-- R131, R133: a ring whose train did not come back in time. -/
def Ring.missed (fromB : Bool) (f : Flight) (now : Nat) (r : Ring) : Ring :=
  let lost := f.cmd == 0x03 && f.stake == 0
  { r.freed fromB now with
    trainMisses := incSat r.trainMisses
    missRun := vmod r.missRun (endIx fromB) (· + 1)
    contactPing := r.contactPing && !lost
    splitDue := r.splitDue || (r.mode != 1 && (decide (r.missRun[(endIx fromB).val] + 1 ≥ 2) || (r.contactPing && lost))) }

/-! The fields of such rings. -/
section RingFields
variable (b : Bool) (back : TrainBack) (f : Flight) (now : Nat) (r : Ring)
@[simp] theorem Ring.freed_flight : (r.freed b now).flight[(endIx b).val] = none := vmod_same _ _ _
@[simp] theorem Ring.freed_due : (r.freed b now).due = r.due := rfl
@[simp] theorem Ring.freed_arrived : (r.freed b now).arrived = r.arrived := rfl
@[simp] theorem Ring.returned_flight : (r.returned b back now).flight[(endIx b).val] = none := vmod_same _ _ _
@[simp] theorem Ring.returned_missRun : (r.returned b back now).missRun[(endIx b).val] = 0 := vmod_same _ _ _
@[simp] theorem Ring.returned_chain : (r.returned b back now).chain = r.chain := rfl
@[simp] theorem Ring.returned_due : (r.returned b back now).due = r.due := rfl
@[simp] theorem Ring.returned_arrived : (r.returned b back now).arrived = r.arrived := rfl
@[simp] theorem Ring.returned_load : (r.returned b back now).load = r.load := rfl
@[simp] theorem Ring.returned_recordErrors : (r.returned b back now).recordErrors = r.recordErrors := rfl
@[simp] theorem Ring.missed_flight : (r.missed b f now).flight[(endIx b).val] = none := vmod_same _ _ _
@[simp] theorem Ring.missed_missRun : (r.missed b f now).missRun[(endIx b).val] = r.missRun[(endIx b).val] + 1 := vmod_same _ _ _
@[simp] theorem Ring.missed_trainMisses : (r.missed b f now).trainMisses = incSat r.trainMisses := rfl
@[simp] theorem Ring.missed_due : (r.missed b f now).due = r.due := rfl
@[simp] theorem Ring.missed_arrived : (r.missed b f now).arrived = r.arrived := rfl
@[simp] theorem Ring.missed_load : (r.missed b f now).load = r.load := rfl
/-- R133: the second miss in a row in loop mode asks for split mode. -/
theorem Ring.missed_splitDue (hm : r.mode = 0) (h1 : 1 ≤ r.missRun[(endIx b).val]) : (r.missed b f now).splitDue = true := by
  simp [Ring.missed, hm, h1]
end RingFields

theorem modRing_modRing (leg : Leg) (f g : Ring → Ring) (s : State) : (s.modRing leg f).modRing leg g = s.modRing leg (g ∘ f) := by
  simp [State.modRing, vmod]

/-! The commands, in a unit that takes its own trains. -/
section Commands
variable {leg : Leg} {b : Bool} {f : Flight} {back : TrainBack} {s : State}

theorem trainBack_of_no_flight (hf : s.ring[leg.val].flight[(endIx b).val] = none) : s.trainBack leg b back = s := by
  simp only [State.trainBack, hf]

/-- R26: after the core die's declaration the end is freed and no more is done. -/
theorem trainBack_of_coreLost (hf : s.ring[leg.val].flight[(endIx b).val] = some f) (hc : s.base.coreLost = true) :
    s.trainBack leg b back = s.freeEnd leg b := by
  simp only [State.trainBack, hf, freeEnd_eq, State.modRing_base, hc, if_true]

theorem trainBack_of_flight (hf : s.ring[leg.val].flight[(endIx b).val] = some f) (hc : s.base.coreLost = false) :
    s.trainBack leg b back =
      let u := s.modRing leg (Ring.returned b back s.time.meridian)
      if back.badCommand then u.lostTrain leg b f .bad else u.goodTrain leg b f back := by
  simp only [State.trainBack, hf, freeEnd_eq, State.modRing_base, hc, modRing_modRing]
  rfl

theorem exec_trainReturned_eq : exec (.trainReturned leg b back) s = execTrainReturned leg b back s := rfl
theorem exec_trainReturnTimeout_eq : exec (.trainReturnTimeout leg b) s = execTrainReturnTimeout leg b s := rfl

theorem exec_trainReturned (ht : s.twinMember = false) (hr : s.role ≠ .standby) :
    exec (.trainReturned leg b back) s = .next (s.trainBack leg b back) := by
  simp [exec_trainReturned_eq, execTrainReturned, State.hears, ht, hr]

theorem exec_trainReturned_of_no_flight (hr : s.role ≠ .standby) (hf : s.ring[leg.val].flight[(endIx b).val] = none) :
    exec (.trainReturned leg b back) s = .next s := by
  simp [exec_trainReturned_eq, execTrainReturned, hr, trainBack_of_no_flight hf]

theorem exec_trainReturnTimeout_of_no_flight (hf : s.ring[leg.val].flight[(endIx b).val] = none) :
    exec (.trainReturnTimeout leg b) s = .next s := by
  simp only [exec_trainReturnTimeout_eq, execTrainReturnTimeout, hf]

theorem exec_trainReturnTimeout (hr : s.role ≠ .standby) (hc : s.base.coreLost = false)
    (hf : s.ring[leg.val].flight[(endIx b).val] = some f) :
    exec (.trainReturnTimeout leg b) s = .next ((s.modRing leg (Ring.missed b f s.time.meridian)).lostTrain leg b f .missing) := by
  simp only [exec_trainReturnTimeout_eq, execTrainReturnTimeout, hf, freeEnd_eq, State.modRing_base, State.modRing_role, hc, modRing_modRing,
    beq_eq_false_iff_ne.2 hr, Bool.or_self, Bool.false_eq_true, if_false]
  rfl
end Commands

/-! What a train leaves on a leg without a code load in progress. -/
section Outcome
variable {leg : Leg} {b : Bool} {f : Flight} {fate : Fate} {s : State}

theorem loadOn_of_no_load (h : s.ring[leg.val].load = none) : s.loadOn leg = s := by
  simp [State.loadOn, h]

/-- R42: a train that waits for its seal is the last of those that do; it changes nothing else of the ring but the next serial. -/
theorem arrive_spec (leg : Leg) (b : Bool) (f : Flight) (fate : Fate) (expected : List Nat) (taken : List Taken) (atOther : Bool) (rtt : Nat)
    (s : State) : ∃ a : Arrival, (s.arrive leg b f fate expected taken atOther rtt).ring[leg.val] =
        { s.ring[leg.val] with serial := s.ring[leg.val].serial + 1, arrived := s.ring[leg.val].arrived ++ [a] } ∧
      a.flight = f ∧ a.fate = fate ∧ a.taken = taken ∧ a.latched = false :=
  ⟨_, vmod_same _ _ _, rfl, rfl, rfl, rfl⟩

theorem arrive_load (leg : Leg) (b : Bool) (f : Flight) (fate : Fate) (expected : List Nat) (taken : List Taken) (atOther : Bool) (rtt : Nat)
    (s : State) : (s.arrive leg b f fate expected taken atOther rtt).ring[leg.val].load = s.ring[leg.val].load := by
  simp [State.arrive]

/-- R118: a command without effect is not repeated; its loss waits for the seal. -/
theorem lostTrain_of_no_effect (he : withEffect f.cmd = false) (hl : s.ring[leg.val].load = none) :
    s.lostTrain leg b f fate = s.arrive leg b f fate (s.expectedOf leg f b) [] false 0 := by
  have hrun : f.cmd ≠ 0x51 := fun h => by simp [h, withEffect] at he
  simp [State.lostTrain, State.retryFrame, State.repeats, he, hrun, loadOn_of_no_load, arrive_load, hl]

/-- R118: a command with effect is planned again with its SEQ, before the other frames; a CODE_RUN leaves it at that, any other waits
for the seal too. -/
theorem lostTrain_of_effect (he : withEffect f.cmd = true) (hs : f.cmd ≠ 0x40) (hn : f.retries < s.parN (P.retries leg.val))
    (hl : s.ring[leg.val].load = none) :
    ∃ t, s.lostTrain leg b f fate = t ∧ s.ringOnly leg t ∧ t.ring[leg.val].due = again f b f.stake :: s.ring[leg.val].due ∧
      t.ring[leg.val].flight = s.ring[leg.val].flight := by
  have hretry : s.retryFrame leg b f = s.modRing leg (fun r => { r with due := again f b f.stake :: r.due }) := by
    simp [State.retryFrame, he, hn]
  simp only [State.lostTrain, hs, if_false, hretry]
  split
  · exact ⟨_, rfl, ringOnly_modRing _, by simp, by simp⟩
  · exact ⟨_, loadOn_of_no_load (by simp [arrive_load, hl]), (ringOnly_modRing _).trans (ringOnly_modRing _), by simp [State.arrive],
      by simp [State.arrive]⟩

/-- R119: of a register command for one station that station's record is expected. -/
theorem expectedOf_register (hc : f.cmd = 0x60 ∨ f.cmd = 0x61) (h1 : 1 ≤ f.stake) (h24 : f.stake ≤ 24) : s.expectedOf leg f b = [f.stake] := by
  have h0 : f.stake ≠ 0 := by omega
  have hFF : f.stake ≠ 0xFF := by omega
  rcases hc with hc | hc <;> simp [State.expectedOf, State.expectedFrom, expectedStakes, hasRecord, hc, h0, hFF]

/-- R119: that record is let in, where its station operates. -/
theorem sortTrain_register {r : RingRec} (hc : f.cmd = 0x60 ∨ f.cmd = 0x61) (h24 : f.stake ≤ 24) (hr : f.records = [r])
    (hk : r.stake = f.stake) (hm : r.status % 4 = 2) (hres : bitAt r.status 6 = false) : sortTrain f [] [f.stake] = ([(f.stake, r)], 0, []) := by
  have hFF : f.stake ≠ 0xFF := by omega
  rcases hc with hc | hc <;> simp [sortTrain, sortRecords, hc, hr, hk, hm, hres, hFF, RingRec.good_whole]

theorem goodTrain_register {r : RingRec} {back : TrainBack} (hbad : back.badRecords = []) (hc : f.cmd = 0x60 ∨ f.cmd = 0x61) (h1 : 1 ≤ f.stake)
    (h24 : f.stake ≤ 24) (hr : f.records = [r]) (hk : r.stake = f.stake) (hm : r.status % 4 = 2) (hres : bitAt r.status 6 = false)
    (hl : s.ring[leg.val].load = none) :
    s.goodTrain leg b f back = (s.modRing leg (fun g => { g with recordErrors := addSat g.recordErrors 0 })).arrive leg b f .good
      [f.stake] [(f.stake, r)] back.atOther back.rtt := by
  simp only [State.goodTrain, expectedOf_register hc h1 h24, hbad, sortTrain_register hc h24 hr hk hm hres, State.markRestarted,
    List.filter_nil, List.isEmpty_nil, if_true]
  simp [loadOn_of_no_load, arrive_load, hl]

/-- R137: a register command's record enters its STATUS. -/
theorem takeArrival_register {a : Arrival} {r : RingRec} (hc : a.flight.cmd = 0x60 ∨ a.flight.cmd = 0x61) (ht : a.taken = [(a.flight.stake, r)]) :
    s.takeArrival leg a = s.modRing leg (fun g => { g with statuses := insertKey a.flight.stake r.status g.statuses }) := by
  rcases hc with hc | hc <;> simp [State.takeArrival, State.keepStatuses, hc, ht]
end Outcome

/-- Settles O22: a train changes its ring alone; what it leaves there is read off the rules of `goodTrain` and `lostTrain`. -/
theorem trainsReturned : Obligations.TrainsReturned := by
  unfold Obligations.TrainsReturned
  refine ⟨fun leg b back s hr hf => ⟨exec_trainReturned_of_no_flight hr hf, exec_trainReturnTimeout_of_no_flight hf⟩,
    ?good, ?badRead, ?badEffect, ?missed, ?coreLost, ?taken⟩
  case good =>
    intro leg b f r back s ⟨ht, hr, hc, hl⟩ hf hcmd hbad hreg h1 h24 hrec hk hm hres
    rw [exec_trainReturned ht hr, trainBack_of_flight hf hc]
    simp only [hcmd, Bool.false_eq_true, if_false]
    rw [goodTrain_register hbad hreg h1 h24 hrec hk hm hres (by simp [hl])]
    obtain ⟨a, ha, hflight, hfate, htaken, hlatched⟩ := arrive_spec leg b f .good [f.stake] [(f.stake, r)] back.atOther back.rtt _
    refine ⟨_, a, rfl, ((ringOnly_modRing _).trans (ringOnly_modRing _)).trans (ringOnly_modRing _), ?_⟩
    rw [ha]
    simp [hflight, hfate, htaken, hlatched]
  case badRead =>
    intro leg b f back s ⟨ht, hr, hc, hl⟩ hf hcmd hreg
    rw [exec_trainReturned ht hr, trainBack_of_flight hf hc]
    simp only [hcmd, if_true]
    rw [lostTrain_of_no_effect (by rw [hreg]; rfl) (by simp [hl])]
    obtain ⟨a, ha, -, hfate, htaken, -⟩ := arrive_spec leg b f .bad _ [] false 0 _
    refine ⟨_, a, rfl, (ringOnly_modRing _).trans (ringOnly_modRing _), ?_⟩
    rw [ha]
    simp [hfate, htaken]
  case badEffect =>
    intro leg b f back s ⟨ht, hr, hc, hl⟩ hf hcmd he h40 hn
    rw [exec_trainReturned ht hr, trainBack_of_flight hf hc]
    simp only [hcmd, if_true]
    obtain ⟨t, hlost, hring, hdue, hflight⟩ := lostTrain_of_effect (s := s.modRing leg (Ring.returned b back s.time.meridian)) (b := b) (fate := .bad)
      he h40 hn (by simp [hl])
    exact ⟨t, again f b f.stake, congrArg _ hlost, (ringOnly_modRing _).trans hring, by simp [hdue], rfl, rfl, rfl, rfl, rfl, by simp [hflight]⟩
  case missed =>
    intro leg b f s ⟨ht, hr, hc, hl⟩ hf hreg
    rw [exec_trainReturnTimeout hr hc hf, lostTrain_of_no_effect (by rw [hreg]; rfl) (by simp [hl])]
    obtain ⟨a, ha, -, hfate, htaken, -⟩ := arrive_spec leg b f .missing _ [] false 0 _
    refine ⟨_, a, rfl, (ringOnly_modRing _).trans (ringOnly_modRing _), ?_⟩
    rw [ha]
    simp +contextual [hfate, htaken, Ring.missed_splitDue]
  case coreLost =>
    intro leg b f back s ht hr hc hf
    rw [exec_trainReturned ht hr, trainBack_of_coreLost hf hc, freeEnd_eq]
    exact ⟨_, rfl, ringOnly_modRing _, by simp⟩
  case taken =>
    intro leg a r s hc ht
    exact ⟨_, takeArrival_register hc ht, ringOnly_modRing _, vmod_same _ _ _⟩

end Sys2Proof.Machine
end

section
/-! SUPPORT. The state after reset, and the flits of the Baseline (R20 to R22, R24, R25, R270): a flit slot, a flit that arrives, one that is
released, and a replay. -/
namespace Sys2Proof.Machine

/-- Settles O2: the fields of State.reset stand in its definition; a write of an object is refused, as the module in OFF serves no host. -/
theorem resetState : Obligations.ResetState := by
  unfold Obligations.ResetState
  refine ⟨rfl, rfl, ⟨rfl, rfl⟩, rfl, rfl, rfl, rfl, rfl, rfl, rfl, ?outputs, ?groups, ?legs, ?phases, ?can, ?writes⟩
  case outputs => exact fun k => congrArg SafetyOutput.driven (Vector.getElem_replicate k.isLt)
  case groups => exact fun g => congrArg Group.on (Vector.getElem_replicate g.isLt)
  case legs => decide
  case phases => decide
  case can => decide
  case writes => exact fun id elem v => hostWrite_eq_self_of_refused (.inl rfl)

/-! One direction of the Baseline changed. -/
section Directions
variable (d : BaseDir) (f : LinkDir → LinkDir) (s : State)
@[simp] theorem dirOf_modDir_same : (s.modDir d f).dirOf d = f (s.dirOf d) := by cases d <;> rfl
@[simp] theorem dirOf_modDir_otherDir : (s.modDir (otherDir d) f).dirOf d = s.dirOf d := by cases d <;> rfl
end Directions

/-! R20, R21: what a sender puts on the wire. -/
section Send
variable {ack : Nat} {nak : Bool} {d : LinkDir}

theorem LinkDir.send_onWire_isSome : (d.send ack nak).onWire.isSome = true := by
  unfold LinkDir.send
  split
  · rfl
  · split
    · rfl
    · dsimp only
      split <;> rfl

theorem LinkDir.send_idle (hr : d.replaying = []) (hp : d.pending = []) :
    ∃ f, (d.send ack nak).onWire = some f ∧ f.cls = 7 ∧ f.ack = ack := by
  simp [LinkDir.send, hr, hp, lowestFlit, sortBy]

theorem LinkDir.send_waiting {f : Flit} (hr : d.replaying = []) (hp : d.pending = [f]) (hc : f.cls ≤ 4) :
    ∃ g, (d.send ack nak).onWire = some g ∧ g.cls = f.cls ∧ g.payload = f.payload ∧ g.seq = d.nextSeq ∧
      (d.send ack nak).nextSeq = (d.nextSeq + 1) % 256 ∧ (d.send ack nak).pending = [] := by
  simp [LinkDir.send, hr, hp, lowestFlit, sortBy, insertBy, sequenced, hc]
end Send

section Commands
variable {dir : BaseDir} {s : State} {f : Flit}

theorem exec_baselineFlitSend_eq : exec (.baselineFlitSend dir) s = execBaselineFlitSend dir s := rfl
theorem exec_baselineFlitReceived_eq (crcOk : Bool) : exec (.baselineFlitReceived dir crcOk) s = execBaselineFlitReceived dir crcOk s := rfl
theorem exec_baselineFlitRelease_eq (at' : ReleaseAt) : exec (.baselineFlitRelease dir at') s = execBaselineFlitRelease dir at' s := rfl

theorem exec_baselineFlitSend (h : s.linkRuns = true) : exec (.baselineFlitSend dir) s = .next
    ((s.modDir dir (LinkDir.send (s.dirOf (otherDir dir)).lastRx (s.dirOf (otherDir dir)).nakDue)).modDir (otherDir dir)
      (fun d => { d with nakDue := false })) := by
  simp [exec_baselineFlitSend_eq, execBaselineFlitSend, h]

/-- R22: a good flit with the next SEQ, while every lane of its direction is in lock. -/
theorem exec_baselineFlitReceived_next (hw : (s.dirOf dir).onWire = some f) (hl : s.lanesLocked dir = true) (hc : f.cls ≤ 4)
    (hs : f.seq = ((s.dirOf dir).lastRx + 1) % 256) :
    exec (.baselineFlitReceived dir true) s = .next (s.modDir dir (fun d =>
      { d with onWire := none, discarding := false, lastRx := f.seq, received := d.received ++ [f] })) := by
  simp [exec_baselineFlitReceived_eq, execBaselineFlitReceived, hw, hl, flitGood_arrives, sequenced, hc, hs]

/-- R22, R23: a flit damaged on the wire, or by a lane out of lock. -/
theorem exec_baselineFlitReceived_damaged {whole : Bool} (hw : (s.dirOf dir).onWire = some f) (h : (whole && s.lanesLocked dir) = false) :
    exec (.baselineFlitReceived dir whole) s = .next (({ s with base := { s.base with crcErrors := incSat s.base.crcErrors } } : State).modDir dir
      (fun d => { d with onWire := none, discarding := true, nakDue := true })) := by
  simp [exec_baselineFlitReceived_eq, execBaselineFlitReceived, hw, flitGood_arrives, h]

theorem tooLate_modDir (d dir : BaseDir) (g : LinkDir → LinkDir) (s : State) (f : Flit) : (s.modDir d g).tooLate dir f = s.tooLate dir f := by
  simp [State.tooLate, State.latchPassed]

/-- R22: a set-point released in time reaches its consumer. -/
theorem exec_baselineFlitRelease_ns400 {rest : List Flit} (hr : s.base.c2f.received = f :: rest) (hl : s.latchPassed f.tag = false) :
    exec (.baselineFlitRelease .c2f .ns400) s = .next (State.deliver f
      { s with base := { s.base with lateNow := false, c2f := { s.base.c2f with received := rest } } }) := by
  have hdrop : s.tooLate .c2f f = false := by simp [State.tooLate, hl]
  simp only [exec_baselineFlitRelease_eq, execBaselineFlitRelease, State.dirOf, hr, tooLate_modDir, hdrop]
  rfl

/-- R22: one past its latch is dropped and counted, whenever it is released. -/
theorem exec_baselineFlitRelease_tooLate {rest : List Flit} {at' : ReleaseAt} (hr : s.base.c2f.received = f :: rest) (hc : f.cls = 1)
    (hl : s.latchPassed f.tag = true) :
    exec (.baselineFlitRelease .c2f at') s = .next { s with base := { s.base with
      lateNow := at' == .later, late := incSat s.base.late, c2f := { s.base.c2f with received := rest } } } := by
  have hdrop : s.tooLate .c2f f = true := by simp [State.tooLate, hl, hc]
  simp only [exec_baselineFlitRelease_eq, execBaselineFlitRelease, State.dirOf, hr, tooLate_modDir, hdrop, Bool.or_true, if_true]
  rfl

theorem deliver_setPoint {leg : Leg} {frame sample : Nat} {sp : SetPoint} (hp : f.payload = .setPoint leg frame sample sp)
    (hl : s.base.fieldLost = false) : s.deliver f = s.modCle leg (fun c => { c with words := c.words ++ [(frame % 1024, sample, sp)] }) := by
  simp [State.deliver, hp, hl]

/-- R22: of a TAG of the latched frame the samples up to the latched one have passed. -/
theorem latchPassed_iff {tag k : Nat} {frame : Nat} (hg : s.grid.latched = some (frame, k)) (ht : tag / 64 = frame % 1024) :
    s.latchPassed tag = true ↔ tag % 64 ≤ k := by
  simp [State.latchPassed, hg, ht]
end Commands

/-- Settles O11: each command is one of the rules above, for its direction. -/
theorem baselineFlits : Obligations.BaselineFlits := by
  unfold Obligations.BaselineFlits
  refine ⟨fun dir s h => ?send, fun f whole => ⟨f.length_bytes, flitGood_arrives f whole⟩,
    fun f s hw hc hs hl => exec_baselineFlitReceived_next (dir := .f2c) hw (beq_iff_eq.2 hl) hc hs,
    fun f s hw hc hs hl => exec_baselineFlitReceived_next (dir := .c2f) hw (beq_iff_eq.2 hl) hc hs,
    fun f whole s hw h => exec_baselineFlitReceived_damaged (dir := .c2f) hw ?damaged,
    fun f rest leg frame sample sp s hr hp hc hf hl => ?released, fun f rest r s hr hc hl => exec_baselineFlitRelease_tooLate hr hc hl,
    fun tag f k s hg ht => latchPassed_iff hg ht, fun ack s => rfl⟩
  case send =>
    refine ⟨_, exec_baselineFlitSend h, ?frame, ?sent, by simp, fun hr hp => ?idle, fun f hr hp hc => ?waiting⟩
    case frame => cases dir <;> rfl
    case sent => simpa using LinkDir.send_onWire_isSome
    case idle => simpa using LinkDir.send_idle hr hp
    case waiting => simpa using LinkDir.send_waiting hr hp hc
  case damaged =>
    obtain rfl | hl := h
    · rfl
    · simp [State.lanesLocked, hl]
  case released =>
    exact ⟨_, (exec_baselineFlitRelease_ns400 hr hl).trans (congrArg _ (deliver_setPoint hp hf)), by simp, rfl⟩

end Sys2Proof.Machine
end

section
/-! SUPPORT. Lanes, UP and loss of the Baseline, and errors of on-chip memory (R19, R23 to R27, R148): what the operations that these
commands share change, and what they leave alone. -/
namespace Sys2Proof.Machine

/-! The planning of frames (R146), and what rests on it: waiting frames of the rings, flits to the field die, the marks of balancing. -/
section Plans
variable {leg : Leg} {s t u : State}

/-- Only rings, the legs' diagnostics and the flits to the field die differ, and no frame in flight does. -/
def State.plans (s t : State) : Prop :=
  ∃ (ring : Vector Ring 4) (diag : Vector LegDiag 4) (c2f : LinkDir),
    t = { s with ring := ring, diag := diag, base := { s.base with c2f := c2f } } ∧ ∀ l : Leg, ring[l.val].flight = s.ring[l.val].flight

theorem State.plans.refl : s.plans s := ⟨_, _, _, rfl, fun _ => rfl⟩

theorem State.plans.trans (h : s.plans t) (k : t.plans u) : s.plans u := by
  obtain ⟨_, _, _, rfl, hf⟩ := h
  obtain ⟨_, _, _, rfl, kf⟩ := k
  exact ⟨_, _, _, rfl, fun l => (kf l).trans (hf l)⟩

theorem State.plans.conv_eq (h : s.plans t) : t.conv = s.conv := by
  obtain ⟨_, _, _, rfl, -⟩ := h
  rfl

theorem State.plans.flight_eq (h : s.plans t) (l : Leg) : t.ring[l.val].flight = s.ring[l.val].flight := by
  obtain ⟨_, _, _, rfl, hf⟩ := h
  exact hf l

theorem State.plans.fields (h : s.plans t) : t.sf = s.sf ∧ t.base.coreLost = s.base.coreLost ∧ t.base.lost = s.base.lost ∧ t.plat = s.plat ∧
    t.events = s.events := by
  obtain ⟨_, _, _, rfl, -⟩ := h
  exact ⟨rfl, rfl, rfl, rfl, rfl⟩

theorem plans_foldl {α : Type} {f : State → α → State} (h : ∀ (t : State) a, t.plans (f t a)) (l : List α) (s : State) : s.plans (l.foldl f s) :=
  List.foldlRecOn l f .refl fun t ht a _ => ht.trans (h t a)

theorem plans_modRing {f : Ring → Ring} (h : ∀ r, (f r).flight = r.flight) : s.plans (s.modRing leg f) := by
  refine ⟨_, _, _, rfl, fun l => ?_⟩
  by_cases hl : l = leg
  · subst hl
    simp [h]
  · rw [vmod_other _ _ _ _ hl]

theorem plans_modDiag (f : LegDiag → LegDiag) : s.plans (s.modDiag leg f) := ⟨_, _, _, rfl, fun _ => rfl⟩

theorem plans_planAt (first : Bool) (leg : Leg) (b : Bool) (cmd stake : Nat) (payload : List Byte) (s : State) :
    s.plans (s.planAt first leg b cmd stake payload) := by
  unfold State.planAt
  split
  · exact .refl
  · have hpush : s.plans (s.pushFlit .c2f (if cmd = 0x50 then 4 else 3) leg.val 0 (.ringFrame leg b cmd payload)) :=
      ⟨_, _, _, rfl, fun _ => rfl⟩
    exact hpush.trans (plans_modRing fun _ => rfl)

theorem plans_planFirst (leg : Leg) (cmd : Nat) (payload : List Byte) (s : State) : s.plans (s.planFirst leg cmd payload) :=
  plans_foldl (fun t b => plans_planAt true leg b cmd 0 payload t) _ s

theorem plans_planEach (leg : Leg) (cmd stake : Nat) (payload : List Byte) (s : State) : s.plans (s.planEach leg cmd stake payload) :=
  plans_foldl (fun t b => plans_planAt false leg b cmd stake payload t) _ s

theorem plans_stopBalancing (leg : Leg) (s : State) : s.plans (s.stopBalancing leg) := by
  unfold State.stopBalancing
  split
  · exact (plans_modDiag _).trans (plans_planFirst ..)
  · exact .refl

theorem plans_stopAllBalancing (s : State) : s.plans s.stopAllBalancing := plans_foldl (fun t l => plans_stopBalancing l t) _ s

theorem plans_planLoad (leg : Leg) (s : State) : s.plans (s.planLoad leg) := by
  unfold State.planLoad
  split
  · split
    all_goals
      refine .trans (plans_modRing ?_) (plans_planEach ..)
      exact fun _ => rfl
  · exact plans_modRing fun _ => rfl

theorem plans_loadOn (leg : Leg) (s : State) : s.plans (s.loadOn leg) := by
  unfold State.loadOn
  split
  · exact .refl
  · exact plans_planLoad leg s

theorem plans_retryFrame (leg : Leg) (b : Bool) (f : Flight) (s : State) : s.plans (s.retryFrame leg b f) := by
  unfold State.retryFrame
  split
  · exact plans_modRing fun _ => rfl
  · exact .refl

theorem plans_arrive (leg : Leg) (b : Bool) (f : Flight) (fate : Fate) (expected : List Nat) (taken : List Taken) (atOther : Bool) (rtt : Nat)
    (s : State) : s.plans (s.arrive leg b f fate expected taken atOther rtt) := plans_modRing fun _ => rfl

/-- R117, R118: a lost train is repeated, or waits for the seal. -/
theorem plans_lostTrain (leg : Leg) (b : Bool) (f : Flight) (fate : Fate) (s : State) : s.plans (s.lostTrain leg b f fate) := by
  have hretry : s.plans (if f.cmd = 0x40 then s else s.retryFrame leg b f) := by
    split
    · exact .refl
    · exact plans_retryFrame leg b f s
  unfold State.lostTrain
  dsimp only
  generalize (if f.cmd = 0x40 then s else s.retryFrame leg b f) = u at hretry ⊢
  split
  · exact hretry
  · exact (hretry.trans (plans_arrive ..)).trans (plans_loadOn leg _)
end Plans

/-! R19: the trains of a leg are discarded. -/
section Discard
variable {leg : Leg} {b : Bool} {s : State}

/-- The train in flight of one end is discarded. -/
def State.discardEnd (leg : Leg) (b : Bool) (s : State) : State :=
  match s.ring[leg.val].flight[(endIx b).val] with
  | none => s
  | some f => ((s.freeEnd leg b).modRing leg (fun r => { r with trainMisses := incSat r.trainMisses })).lostTrain leg b f .missing

theorem discardTrains_eq (leg : Leg) (s : State) : s.discardTrains leg = ((s.modRing leg (fun r =>
    { r with arrived := r.arrived.map (fun a => if a.latched then a else { a with fate := .missing, taken := [] }) })).discardEnd leg
      false).discardEnd leg true := rfl

theorem discardEnd_conv : (s.discardEnd leg b).conv = s.conv := by
  unfold State.discardEnd
  split
  · rfl
  · exact (plans_lostTrain ..).conv_eq

theorem discardEnd_flight :
    (s.discardEnd leg b).ring[leg.val].flight = vmod s.ring[leg.val].flight (endIx b) (fun _ => none) := by
  unfold State.discardEnd
  split
  next h => simp [vmod, ← h]
  next f h => rw [(plans_lostTrain ..).flight_eq]; simp [freeEnd_eq, Ring.freed]
end Discard

/-! R235, R292: what the stop of a leg changes. -/
section Switches
variable {leg : Leg} {s t u : State}

/-- Only phases, engines and converters differ. -/
def State.switches (s t : State) : Prop :=
  ∃ (pwm : Vector PhasePwm 8) (cle : Vector Cle 4) (conv : Vector LegConv 4), t = { s with pwm := pwm, cle := cle, conv := conv }

theorem State.switches.refl : s.switches s := ⟨_, _, _, rfl⟩

theorem State.switches.trans (h : s.switches t) (k : t.switches u) : s.switches u := by
  obtain ⟨_, _, _, rfl⟩ := h
  obtain ⟨_, _, _, rfl⟩ := k
  exact ⟨_, _, _, rfl⟩

theorem State.switches.fields (h : s.switches t) : t.sf = s.sf ∧ t.base = s.base ∧ t.plat = s.plat ∧ t.events = s.events := by
  obtain ⟨_, _, _, rfl⟩ := h
  exact ⟨rfl, rfl, rfl, rfl⟩

theorem State.switches.base_eq (h : s.switches t) : t.base = s.base := h.fields.2.1

theorem State.switches.mode_eq (h : s.switches t) : t.mode = s.mode := by
  obtain ⟨_, _, _, rfl⟩ := h
  rfl

theorem switches_ite {c : Prop} [Decidable c] (h : s.switches t) (k : s.switches u) : s.switches (if c then t else u) := by
  split
  · exact h
  · exact k

theorem switches_foldl {α : Type} {f : State → α → State} (h : ∀ (t : State) a, t.switches (f t a)) (l : List α) (s : State) :
    s.switches (l.foldl f s) :=
  List.foldlRecOn l f .refl fun t ht a _ => ht.trans (h t a)

theorem switches_modPwm (p : Phase) (f : PhasePwm → PhasePwm) (s : State) : s.switches (s.modPwm p f) := ⟨_, _, _, rfl⟩
theorem switches_modCle (leg : Leg) (f : Cle → Cle) (s : State) : s.switches (s.modCle leg f) := ⟨_, _, _, rfl⟩
theorem switches_modConv (leg : Leg) (f : LegConv → LegConv) (s : State) : s.switches (s.modConv leg f) := ⟨_, _, _, rfl⟩

theorem switches_brakeLeg (leg : Leg) (st : LegSt) (cause : Nat) (s : State) : s.switches (s.brakeLeg leg st cause) :=
  (((switches_modPwm ..).trans (switches_modPwm ..)).trans (switches_modCle ..)).trans (switches_modConv ..)

theorem switches_stopRamp (leg : Leg) (s : State) : s.switches (s.stopRamp leg) := by
  have hbrake : s.switches ((s.brakeLeg leg .disabled 0).modConv leg (fun c => { c with enabled := false, heldEnable := false })) :=
    (switches_brakeLeg ..).trans (switches_modConv ..)
  unfold State.stopRamp
  dsimp only
  split
  iterate 3 exact switches_ite .refl ((switches_modCle ..).trans (switches_modConv ..))
  iterate 3 exact hbrake
  iterate 2 exact .refl

theorem switches_stopLeg (leg : Leg) (s : State) : s.switches (s.stopLeg leg) := by
  exact switches_ite (switches_modConv ..) ((switches_brakeLeg ..).trans (switches_modConv ..))
end Switches

/-! R235, R250: a leg that brakes, and one that is latched with a cause. -/
section Latch
variable {leg : Leg} {s t u : State}

theorem brakeLeg_phases_off (leg : Leg) (st : LegSt) (cause : Nat) (s : State) :
    (s.brakeLeg leg st cause).pwm[(phaseA leg).val].on = false ∧ (s.brakeLeg leg st cause).pwm[(phaseB leg).val].on = false := by
  have hne : phaseA leg ≠ phaseB leg := by simp [phaseA, phaseB]
  simp [State.brakeLeg, vmod_other _ _ _ _ hne]

theorem brakeLeg_conv (leg : Leg) (st : LegSt) (cause : Nat) (s : State) :
    (s.brakeLeg leg st cause).conv[leg.val].st = st ∧ (s.brakeLeg leg st cause).conv[leg.val].cause = cause := by
  simp [State.brakeLeg]

/-- The phases, and the state and cause of each converter, stand. -/
def State.keepsLegs (s t : State) : Prop :=
  t.pwm = s.pwm ∧ ∀ l : Leg, t.conv[l.val].st = s.conv[l.val].st ∧ t.conv[l.val].cause = s.conv[l.val].cause

theorem State.keepsLegs.of_eq (hp : t.pwm = s.pwm) (hc : t.conv = s.conv) : s.keepsLegs t := ⟨hp, fun l => by simp [hc]⟩

theorem State.keepsLegs.refl : s.keepsLegs s := .of_eq rfl rfl

theorem State.keepsLegs.trans (h : s.keepsLegs t) (k : t.keepsLegs u) : s.keepsLegs u := by
  obtain ⟨hp, hc⟩ := h
  obtain ⟨kp, kc⟩ := k
  exact ⟨kp.trans hp, fun l => by simp [hc, kc]⟩

theorem keepsLegs_modConv (leg : Leg) {f : LegConv → LegConv} (h : ∀ c, (f c).st = c.st ∧ (f c).cause = c.cause) (s : State) :
    s.keepsLegs (s.modConv leg f) := by
  refine ⟨rfl, fun l => ?_⟩
  by_cases hl : l = leg
  · subst hl
    simp [h]
  · simp [vmod_other _ _ _ _ hl]

theorem keepsLegs_modProbe (p : Fin 2) (f : ProbePair → ProbePair) (s : State) : s.keepsLegs (s.modProbe p f) := .of_eq rfl rfl
theorem keepsLegs_modEleg (leg : Leg) (f : EstLeg → EstLeg) (s : State) : s.keepsLegs (s.modEleg leg f) := .of_eq rfl rfl

theorem keepsLegs_probeResult (p : Fin 2) (code : Nat) (s : State) : s.keepsLegs (s.probeResult p code) :=
  (keepsLegs_modEleg ..).trans (keepsLegs_modEleg ..)

/-- R190: only the marks of the probe offset leave the converters. -/
theorem keepsLegs_stripOffset (leg : Leg) (s : State) : s.keepsLegs (s.stripOffset leg) := by
  have h := keepsLegs_modConv leg (f := fun c => { c with probeOffset := false }) (fun _ => ⟨rfl, rfl⟩) s
  exact h.trans (.of_eq (by simp [State.stripOffset]) (by simp [State.stripOffset]))

theorem keepsLegs_removeOffsets (p : Fin 2) (s : State) : s.keepsLegs (s.removeOffsets p) :=
  ((keepsLegs_stripOffset ..).trans (keepsLegs_stripOffset ..)).trans (keepsLegs_modProbe ..)

theorem keepsLegs_spoilt (c : Prop) [Decidable c] (p : Fin 2) (code : Nat) (s : State) :
    s.keepsLegs (if c then s else s.probeResult p code) := by
  split
  · exact .refl
  · exact keepsLegs_probeResult ..

/-- R190: a probe that yields. -/
theorem keepsLegs_yieldPair (p : Fin 2) (y : YieldBy) (s : State) : s.keepsLegs (s.yieldPair p y) := by
  unfold State.yieldPair
  dsimp only
  split
  next => exact .refl
  next =>
    split
    · exact .refl
    · exact (keepsLegs_removeOffsets ..).trans (keepsLegs_modProbe ..)
  next => exact ((keepsLegs_probeResult ..).trans (keepsLegs_removeOffsets ..)).trans (keepsLegs_modProbe ..)
  next =>
    split
    next =>
      split
      · exact .refl
      · exact (keepsLegs_probeResult ..).trans (keepsLegs_modProbe ..)
    next => exact ((keepsLegs_spoilt ..).trans (keepsLegs_removeOffsets ..)).trans (keepsLegs_modProbe ..)
    next => exact ((keepsLegs_spoilt ..).trans (keepsLegs_removeOffsets ..)).trans (keepsLegs_modProbe ..)
    next => exact keepsLegs_modProbe ..

theorem keepsLegs_yieldLeg (leg : Leg) (y : YieldBy) (s : State) : s.keepsLegs (s.yieldLeg leg y) :=
  (keepsLegs_modEleg ..).trans (keepsLegs_yieldPair ..)

theorem keepsLegs_settleRunning (s : State) : s.keepsLegs s.settleRunning := by
  unfold State.settleRunning
  split
  · exact .of_eq rfl rfl
  · exact .refl

/-- R19, R250: a latched leg has braked, and stands in its fault with its cause. -/
theorem latchLeg_spec (leg : Leg) (cause : Nat) (current limit : Int) (s : State) :
    ∃ t, s.latchLeg leg cause current limit = t ∧ t.conv[leg.val].st = .fault ∧ t.conv[leg.val].cause = cause ∧
      t.pwm[(phaseA leg).val].on = false ∧ t.pwm[(phaseB leg).val].on = false := by
  have hform (u : State) : u.keepsLegs (u.form 0x3001 cause (36 + leg.val) leg.val current limit) := .of_eq (by simp) (by simp)
  have hkeep : (s.brakeLeg leg .fault cause).keepsLegs (s.latchLeg leg cause current limit) :=
    (((keepsLegs_yieldLeg ..).trans (keepsLegs_modConv leg (f := fun c => { c with enabled := false, heldEnable := false })
      (fun _ => ⟨rfl, rfl⟩) _)).trans (hform _)).trans (keepsLegs_settleRunning _)
  obtain ⟨hpwm, hconv⟩ := hkeep
  obtain ⟨hst, hcause⟩ := hconv leg
  obtain ⟨hbst, hbcause⟩ := brakeLeg_conv leg .fault cause s
  exact ⟨_, rfl, hst.trans hbst, hcause.trans hbcause, by rw [hpwm]; exact brakeLeg_phases_off leg .fault cause s⟩
end Latch

/-! The commands without an operand, each as the operation it runs. -/
theorem exec_baselineUp_eq (s : State) : exec .baselineUp s = execBaselineUp s := rfl
theorem exec_baselineLossField_eq (s : State) : exec .baselineLossField s = execBaselineLossField s := rfl
theorem exec_autonomyPermitDrop_eq (s : State) : exec .autonomyPermitDrop s = execAutonomyPermitDrop s := rfl
theorem exec_baselineLossCore_eq (s : State) : exec .baselineLossCore s = execBaselineLossCore s := rfl
theorem exec_baselineLossHoldExpiry_eq (s : State) : exec .baselineLossHoldExpiry s = execBaselineLossHoldExpiry s := rfl

/-! R25: the permit dropped by the field die. -/
section Permit
variable (s : State)

theorem dropPermit_base : s.dropPermit.base = s.base := by
  simp only [State.dropPermit, State.modSf_base]
  exact (switches_foldl (fun t l => switches_stopLeg l t) allLegs s).base_eq

/-- Every leg's PWM enable and every safety output is low, and the permit no longer fresh. -/
theorem dropPermit_low : (∀ k : Fin 4, s.dropPermit.sf.legPwm[k.val] = false) ∧ (∀ c : Fin 8, s.dropPermit.sf.output[c.val].driven = false) ∧
    s.dropPermit.sf.fresh = false := by
  simp [State.dropPermit]

theorem endAutonomy_base : s.endAutonomy.base = { s.base with ramping := false, autonomy := true } := by
  simp [State.endAutonomy, State.formField, dropPermit_base]

theorem endAutonomy_low : (∀ k : Fin 4, s.endAutonomy.sf.legPwm[k.val] = false) ∧ (∀ c : Fin 8, s.endAutonomy.sf.output[c.val].driven = false) := by
  simp [State.endAutonomy, State.formField, dropPermit_low]
end Permit

/-! R71, R291: a trigger in SURVEYED, and FAULT-HOLD. -/
section FaultHold
variable {s : State}

theorem bitAt_withBit (m k : Nat) : bitAt (withBit m k) k = true := by
  unfold bitAt withBit setBit
  split
  · assumption
  · next h => simp [Nat.add_comm m, Nat.testBit_two_pow_add_eq, h]

/-- R291: in SURVEYED a trigger enters its cause, and no stop begins. -/
theorem trigger_of_surveyed (h : s.mode = .surveyed) (cause cat : Nat) (latching : Bool) :
    ∃ t, s.trigger cause cat latching = t ∧ t.mode = .surveyed ∧ t.sf.stopCause = withBit s.sf.stopCause cause ∧ t.base = s.base ∧
      t.plat = s.plat ∧ t.events = s.events := by
  simp [State.trigger, h]

/-- R71, R73: what the entry into FAULT-HOLD leaves alone of the state that the rules below speak of. -/
theorem enterFaultHold_spec (s : State) : ∃ t, s.enterFaultHold = t ∧ t.mode = .faultHold ∧ t.sf.stopCause = s.sf.stopCause ∧
    t.base.coreLost = s.base.coreLost ∧ t.base.lost = s.base.lost ∧ t.plat = s.plat ∧ t.events = s.events := by
  obtain ⟨hsf, hcore, hlost, hplat, hevents⟩ := (plans_stopAllBalancing s).fields
  have hbrake := switches_foldl (fun t l => switches_brakeLeg l (if t.conv[l.val].st = .fault then .fault else .disabled) t.conv[l.val].cause t)
    allLegs s.stopAllBalancing
  simp only [State.enterFaultHold]
  generalize List.foldl _ s.stopAllBalancing allLegs = u at hbrake ⊢
  obtain ⟨ksf, kbase, kplat, kevents⟩ := hbrake.fields
  exact ⟨_, rfl, rfl, by simp only [ksf, hsf], by simp only [kbase, hcore], by simp only [kbase, hlost], by simp only [kplat, hplat],
    by simp only [kevents, hevents]⟩

theorem declareFault_of_single (h : s.twinMember = false) (f : State → State) : s.declareFault f = f s := by
  simp [State.declareFault, h]

theorem length_insertRecord (r : FbRecord) (l : List FbRecord) : (insertRecord r l).length = l.length + 1 := by
  induction l with
  | nil => rfl
  | cons x l ih =>
    unfold insertRecord
    split
    · rfl
    · simp [ih]

/-- R19: an error of core memory in SURVEYED. -/
theorem coreMemoryError_of_surveyed (h : s.mode = .surveyed) :
    ∃ t, s.coreMemoryError = t ∧ t.mode = .faultHold ∧ bitAt t.sf.stopCause 0 = true := by
  obtain ⟨u, htrigger, hmode, hcause, -⟩ := trigger_of_surveyed h 0 2 true
  obtain ⟨t, hhold, hfault, hstop, -⟩ := enterFaultHold_spec u
  refine ⟨t, by simp [State.coreMemoryError, htrigger, State.inStates, hmode, hhold], hfault, ?_⟩
  rw [hstop, hcause]
  exact bitAt_withBit _ _

/-- R26: the core die declares the loss in SURVEYED. -/
theorem exec_baselineLossCore_of_surveyed (hs : s.base.supervised = true) (hl : s.base.coreLost = false) (hm : s.mode = .surveyed)
    (ht : s.twinMember = false) : ∃ t, exec .baselineLossCore s = .next t ∧ t.base.coreLost = true ∧ t.base.lost = true ∧ t.mode = .faultHold ∧
      t.events.length = s.events.length + 1 := by
  have hrun : s.linkRuns = true := by simp [State.linkRuns, State.inStates, hm]
  simp only [exec_baselineLossCore_eq, execBaselineLossCore, hs, hl, hrun, Bool.not_true, Bool.false_eq_true, or_self, if_false]
  generalize hv : State.formEvent _ _ _ _ _ _ _ = v
  have hvmode : v.mode = .surveyed := by simp [← hv, hm]
  have hvplat : v.plat = s.plat := by simp [← hv]
  have hvbase : v.base = { s.base with coreLost := true, lost := true } := by simp [← hv, hs]
  have hvevents : v.events.length = s.events.length + 1 := by simp [← hv, State.formEvent, State.event, length_insertRecord]
  obtain ⟨u, htrigger, hmode, -, hbase, hplat, hevents⟩ := trigger_of_surveyed hvmode 11 2 true
  obtain ⟨t, hhold, hfault, -, hcore, hlost, hplat', hevents'⟩ := enterFaultHold_spec u
  have hsingle : t.twinMember = false := by
    rw [State.twinMember, hplat', hplat, hvplat]
    exact ht
  refine ⟨t, ?_, by simp only [hcore, hbase, hvbase], by simp only [hlost, hbase, hvbase], hfault, by rw [hevents', hevents, hvevents]⟩
  rw [htrigger, hhold, if_pos (by simp [State.inStates, hmode]), declareFault_of_single hsingle]
end FaultHold

/-- R21: flits handed to the core die's sender one after the other wait in that order. -/
theorem foldl_pushFlit {α : Type} (cls tag : Nat) (typ : α → Nat) (p : α → Payload) (xs : List α) (s : State) :
    xs.foldl (fun t x => t.pushFlit .c2f cls (typ x) tag (p x)) s = { s with base := { s.base with c2f := { s.base.c2f with
      pending := s.base.c2f.pending ++ xs.map (fun x =>
        { cls := cls, typ := typ x, seq := 0, ack := 0, nak := false, tag := tag, payload := p x }) } } } := by
  induction xs generalizing s with
  | nil => simp
  | cons x xs ih =>
    rw [List.foldl_cons, ih]
    simp [State.pushFlit, Baseline.push]

/-- R21, R24: the microcode of the four legs is handed to class 4. -/
theorem exec_baselineUp {s : State} (hr : s.linkRuns = true) (hu : s.linkUp = true) (hs : s.base.supervised = false) :
    ∃ t, exec .baselineUp s = .next t ∧ t = { s with base := { s.base with supervised := true, c2f := t.base.c2f } } ∧
      (t.base.c2f.pending.drop s.base.c2f.pending.length).map (fun f => (f.cls, f.payload)) =
        ([0, 1, 2, 3] : List Leg).map (fun l => (4, Payload.microcode l)) := by
  have hexec : exec .baselineUp s = .next (allLegs.foldl (fun t l => t.pushFlit .c2f 4 l.val 0 (.microcode l))
      { s with base := { s.base with supervised := true } }) := by
    simp [exec_baselineUp_eq, execBaselineUp, hr, hu, hs]
  exact ⟨_, hexec.trans (congrArg _ (foldl_pushFlit 4 0 (fun l : Leg => l.val) .microcode allLegs _)), rfl, by simp [allLegs]⟩

/-- R25: in RUNNING the field die ramps every leg on its own. -/
theorem exec_baselineLossField_of_running {s : State} (hs : s.base.supervised = true) (hl : s.base.fieldLost = false) (hm : s.mode = .running) :
    ∃ t, exec .baselineLossField s = .next t ∧
      t.base = { s.base with fieldLost := true, ramping := true, i0 := s.fld.legMa, frames := 0, zeroRun := 0 } ∧ t.mode = .running := by
  have hrun : s.linkRuns = true := by simp [State.linkRuns, State.inStates, hm]
  have hramp := switches_foldl (fun t l => switches_stopRamp l t) allLegs
    ({ s with base := { s.base with fieldLost := true, ramping := true, i0 := s.fld.legMa, frames := 0, zeroRun := 0 } } : State)
  refine ⟨_, ?_, hramp.base_eq, hramp.mode_eq.trans hm⟩
  simp [exec_baselineLossField_eq, execBaselineLossField, hs, hl, hrun, hm]

/-- R25: in a state without converter current the permit drops at once. -/
theorem exec_baselineLossField_of_idle {s : State} (hs : s.base.supervised = true) (hl : s.base.fieldLost = false)
    (hm : s.mode = .surveyed ∨ s.mode = .armed ∨ s.mode = .faultHold) :
    ∃ t, exec .baselineLossField s = .next t ∧ t.base = { s.base with fieldLost := true } ∧ (∀ k : Fin 4, t.sf.legPwm[k.val] = false) ∧
      (∀ c : Fin 8, t.sf.output[c.val].driven = false) ∧ t.sf.fresh = false := by
  have hexec : exec .baselineLossField s = .next ({ s with base := { s.base with fieldLost := true } } : State).dropPermit := by
    rcases hm with hm | hm | hm <;> simp [exec_baselineLossField_eq, execBaselineLossField, hs, hl, State.linkRuns, State.inStates, hm]
  have hbase := dropPermit_base { s with base := { s.base with fieldLost := true } }
  have hlow := dropPermit_low { s with base := { s.base with fieldLost := true } }
  generalize State.dropPermit _ = t at hexec hbase hlow
  exact ⟨t, hexec, hbase, hlow⟩

/-- R19, R148: no train of the leg stays in flight, and no converter changes. -/
theorem discardTrains_spec (leg : Leg) (s : State) : ∃ t, s.discardTrains leg = t ∧ t.ring[leg.val].flight[0] = none ∧
    t.ring[leg.val].flight[1] = none ∧ t.conv = s.conv := by
  refine ⟨_, rfl, ?_, ?_, by simp [discardTrains_eq, discardEnd_conv]⟩ <;> simp [discardTrains_eq, discardEnd_flight, endIx, vmod]

theorem exec_autonomyPermitDrop {s : State} (h : s.base.ramping = true) : exec .autonomyPermitDrop s = .next s.endAutonomy := by
  simp [exec_autonomyPermitDrop_eq, execAutonomyPermitDrop, h]

theorem exec_baselineLossHoldExpiry {s : State} (hc : s.base.coreLost = true) (hm : s.mode = .stopping) :
    exec .baselineLossHoldExpiry s = .next s.enterFaultHold := by
  simp [exec_baselineLossHoldExpiry_eq, execBaselineLossHoldExpiry, hc, hm]

/-- A command that keeps the queue, the fuses and the memories, by its answer. -/
theorem kept_of_next {o : Host.Outcome State Fault Refusal} {s t : State} (hk : Keeps o s) (h : o = .next t) : t.kept = s.kept := by
  subst h
  exact hk

/-- Settles O12: each command by the rule of the operation it runs; what it keeps is its lemma of Laws/Kept. -/
theorem baselineState : Obligations.BaselineState := by
  unfold Obligations.BaselineState
  refine ⟨fun lane on s => ⟨rfl, rfl⟩, fun s hr hu hs => exec_baselineUp hr hu hs, fun s hs hl hm => ?ramp, fun s hs hl hm => ?drop,
    fun s h => ?autonomy, fun s hs hl hm ht => ?core, fun s hc hm => exec_baselineLossHoldExpiry hc hm, fun r s => rfl,
    fun leg s => ?cle, fun leg s => ?ring, fun s hm ht => ?sram⟩
  case ramp =>
    obtain ⟨t, hexec, hbase, hmode⟩ := exec_baselineLossField_of_running hs hl hm
    exact ⟨t, hexec, hbase, hmode, kept_of_next (execBaselineLossField_kept s) hexec⟩
  case drop =>
    obtain ⟨t, hexec, hbase, hlegs, houtputs, hfresh⟩ := exec_baselineLossField_of_idle hs hl hm
    exact ⟨t, hexec, hbase, hlegs, houtputs, hfresh, kept_of_next (execBaselineLossField_kept s) hexec⟩
  case autonomy =>
    obtain ⟨hlegs, houtputs⟩ := endAutonomy_low s
    have hbase := endAutonomy_base s
    exact ⟨_, exec_autonomyPermitDrop h, congrArg Baseline.ramping hbase, congrArg Baseline.autonomy hbase, hlegs, houtputs,
      State.endAutonomy_kept s⟩
  case core =>
    obtain ⟨t, hexec, hcore, hlost, hmode, hevents⟩ := exec_baselineLossCore_of_surveyed hs hl hm ht
    exact ⟨t, hexec, hcore, hlost, hmode, hevents, kept_of_next (execBaselineLossCore_kept s) hexec⟩
  case cle =>
    obtain ⟨t, hlatch, hst, hcause, hA, hB⟩ := latchLeg_spec leg 9 (s.iLegMean leg) 0 s
    exact ⟨t, congrArg _ hlatch, hst, hcause, hA, hB, by simp [← hlatch]⟩
  case ring =>
    obtain ⟨t, hdiscard, h0, h1, hconv⟩ := discardTrains_spec leg s
    exact ⟨t, congrArg _ hdiscard, h0, h1, hconv, by simp [← hdiscard]⟩
  case sram =>
    obtain ⟨t, herror, hmode, hcause⟩ := coreMemoryError_of_surveyed hm
    exact ⟨t, congrArg _ ((declareFault_of_single ht _).trans herror), hmode, hcause, by simp [← herror]⟩

end Sys2Proof.Machine
end

section
/-! SUPPORT. The queue, the sample grid and the Meridian (R33 to R40, R51, R54): what a sample, an edge of SYNCIN and the choice of a
source make of the grid, and what they leave alone. -/
namespace Sys2Proof.Machine

/-- Settles O1: the two equations of `step`. -/
theorem stepRunsFront : Obligations.StepRunsFront := by
  unfold Obligations.StepRunsFront
  exact ⟨fun _ _ _ => rfl, fun s h => by simp only [step, h]⟩

/-! R51, R54: how far the Meridian has run. -/
section Meridian
variable (stamp : Nat) (s : State)
theorem at'_eq : s.at' stamp = { s with time := s.time.reach s.ppsDriven stamp } := rfl
@[simp] theorem at'_net : (s.at' stamp).net = s.net := rfl
@[simp] theorem at'_par (p : Par) (i e : Nat) : (s.at' stamp).par p i e = s.par p i e := rfl
@[simp] theorem at'_ptpRuns : (s.at' stamp).ptpRuns = s.ptpRuns := rfl

/-- R54: to the next whole second one pulse. -/
theorem reach_nextSecond : s.time.reach true s.nextSecond =
    { s.time with meridian := (s.time.meridian / ticksPerSecond + 1) * ticksPerSecond, ppsOut := s.time.ppsOut + 1 } := by
  have hlt : s.time.meridian < s.nextSecond := by
    have := Nat.lt_mul_div_succ s.time.meridian (b := ticksPerSecond) (by decide)
    rwa [Nat.mul_comm] at this
  have hsec : s.nextSecond / ticksPerSecond = s.time.meridian / ticksPerSecond + 1 := Nat.mul_div_cancel _ (by decide)
  simp only [TimeBase.reach, Nat.max_eq_right hlt.le, hsec, Nat.add_sub_cancel_left, if_true]
  rfl
end Meridian

/-! What leaves all but the grid, the time base and the core die's flits as it is. -/
section GridOnly
variable {s t u : State}

/-- Only the grid, the time base and the core die's flits differ, and neither the grid's frequency nor the frame number. -/
def State.runsGrid (s t : State) : Prop :=
  ∃ (grid : Grid) (time : TimeBase) (ahead : List Flit) (c2f : LinkDir),
    t = { s with grid := grid, time := time, base := { s.base with ahead := ahead, c2f := c2f } } ∧
      grid.freq = s.grid.freq ∧ time.frame = s.time.frame

theorem State.runsGrid.refl : s.runsGrid s := ⟨_, _, _, _, rfl, rfl, rfl⟩

theorem State.runsGrid.trans (h : s.runsGrid t) (k : t.runsGrid u) : s.runsGrid u := by
  obtain ⟨_, _, _, _, rfl, hf, hn⟩ := h
  obtain ⟨_, _, _, _, rfl, kf, kn⟩ := k
  exact ⟨_, _, _, _, rfl, kf.trans hf, kn.trans hn⟩

theorem State.runsGrid.nSamples_eq (h : s.runsGrid t) : t.nSamples = s.nSamples := by
  obtain ⟨_, _, _, _, rfl, hf, -⟩ := h
  exact congrArg samplesOf hf
end GridOnly

/-- R36: in Meridian-derived mode the slew is set, in any other nothing. -/
theorem holdMark_eq (s : State) :
    ∃ slew, s.holdMark = s.modGrid (fun g => { g with slew := slew }) ∧ (s.grid.source ≠ 1 → slew = s.grid.slew) := by
  unfold State.holdMark
  split
  next h => exact ⟨_, rfl, fun hn => absurd h hn⟩
  next => exact ⟨_, rfl, fun _ => rfl⟩

/-- R36: a source is selected, with a slew of its own; the grid is not moved. -/
theorem selectSource_eq (s : State) :
    ∃ source slew, s.selectSource = s.modGrid (fun g => { g with source := source, slew := slew }) := by
  unfold State.selectSource
  split
  · exact ⟨_, _, rfl⟩
  split
  · exact ⟨_, _, rfl⟩
  split
  · split <;> exact ⟨_, _, rfl⟩
  split <;> exact ⟨_, _, rfl⟩

/-- R36: without a qualified SYNCIN no active unit's source is SYNCIN. -/
theorem selectSource_source_ne_zero {s : State} (hr : s.role = .active) (hv : s.grid.syncinValid = false) : s.selectSource.grid.source ≠ 0 := by
  have hs : s.syncinUsable = false := by simp [State.syncinUsable, hv]
  simp only [State.selectSource, hr, hs, reduceCtorEq, if_false, Bool.false_eq_true]
  split
  next =>
    split
    next h => simp [h]
    next => simp
  next =>
    split
    next h => simp [h]
    next => simp

/-- R17: handing over moves flits of the core die alone. -/
theorem handOver_eq (frame sample : Nat) (s : State) : s.handOver frame sample = { s with base := { s.base with
    ahead := (s.handOver frame sample).base.ahead, c2f := (s.handOver frame sample).base.c2f } } := rfl

/-! R39, R40: the sample that follows. -/
section NextSample
variable (s : State)

/-- R33, R51: the stamp of the sample that follows, with its fraction. -/
def State.nextStamp (s : State) : Nat × Nat := s.stampAfter ((s.period : Int) + s.grid.adjust s.maxAdjust).toNat

theorem nextSample_eq : ∃ slew pulses ahead c2f, s.nextSample = { s with
      grid := { s.grid with
        slew := slew, cycles := s.grid.cycles + ((s.period : Int) + s.grid.adjust s.maxAdjust).toNat
        sample := (s.grid.sample + 1) % s.nSamples, stamp := s.nextStamp.1, syncoutPulses := pulses }
      time := { s.time.reach s.ppsDriven s.nextStamp.1 with frac := s.nextStamp.2 }
      base := { s.base with ahead := ahead, c2f := c2f } } ∧
    (s.grid.source = 2 → slew = s.grid.slew - s.grid.adjust s.maxAdjust) := by
  unfold State.nextSample
  dsimp only
  generalize hu : State.modGrid _ (State.modTime _ s) = u
  obtain ⟨slew, hmark, hslew⟩ := holdMark_eq u
  rw [hmark, handOver_eq]
  subst hu
  simp only [State.modGrid, State.modTime]
  refine ⟨slew, _, _, _, rfl, fun h => ?_⟩
  rw [hslew (by simp [h])]
  simp [h]

theorem nextSample_runsGrid : s.runsGrid s.nextSample := by
  obtain ⟨_, _, _, _, h, -⟩ := nextSample_eq s
  rw [h]
  exact ⟨_, _, _, _, rfl, rfl, rfl⟩

@[simp] theorem nextSample_sample : s.nextSample.grid.sample = (s.grid.sample + 1) % s.nSamples := by
  obtain ⟨_, _, _, _, h, -⟩ := nextSample_eq s
  rw [h]
end NextSample

/-! The commands. -/
section Commands
variable (s : State)
theorem exec_sampleBoundary_eq : exec .sampleBoundary s = execSampleBoundary s := rfl
theorem exec_syncinEdge_eq (at' : Nat) : exec (.syncinEdge at') s = execSyncinEdge at' s := rfl
theorem exec_syncinLoss_eq : exec .syncinLoss s = execSyncinLoss s := rfl
theorem exec_ppsOutSecond_eq : exec .ppsOutSecond s = execPpsOutSecond s := rfl

theorem exec_sampleBoundary {s : State} (ho : s.mode ≠ .off) (hl : s.mode ≠ .laidUp) (hk : s.grid.sample + 1 < s.nSamples) :
    exec .sampleBoundary s = .next s.nextSample := by
  simp [exec_sampleBoundary_eq, execSampleBoundary, State.inStates, ho, hl, hk]

/-- R37: an edge before the source is qualified. -/
theorem countSyncin_unqualified {s : State} {stamp last : Nat} (hl : s.grid.syncinLast = some last) (hv : s.grid.syncinValid = false)
    (hg : s.grid.syncinGood < 63) : ∃ bad dev, s.countSyncin stamp = s.modGrid (fun g => { g with
      syncinLast := some stamp, syncinBad := bad, syncinDev := dev
      syncinGood := if s.syncinInRange ((stamp : Int) - last) then g.syncinGood + 1 else 0 }) := by
  have hmin : min 64 (s.grid.syncinGood + 1) = s.grid.syncinGood + 1 := by omega
  have hlt : ¬ 64 ≤ s.grid.syncinGood + 1 := by omega
  refine ⟨if s.syncinInRange ((stamp : Int) - last) then 0 else s.grid.syncinBad + 1,
    if s.syncinInRange ((stamp : Int) - last) then roundDiv (4 * ((stamp : Int) - last)) 5 - s.period else s.grid.syncinDev, ?_⟩
  simp only [State.countSyncin, hl, State.modGrid, hmin, hv, hlt, decide_false, Bool.and_false, Bool.or_false]

theorem exec_syncinEdge_unqualified {s : State} {stamp last : Nat}
    (hm : s.mode = .load ∨ s.mode = .staking ∨ s.mode = .surveyed ∨ s.mode = .armed ∨ s.mode = .running) (hr : s.role = .active)
    (hl : s.grid.syncinLast = some last) (hv : s.grid.syncinValid = false) (hg : s.grid.syncinGood < 63) :
    exec (.syncinEdge stamp) s = .next ((s.at' stamp).countSyncin stamp).selectSource := by
  obtain ⟨bad, dev, hcount⟩ := countSyncin_unqualified (s := s.at' stamp) (stamp := stamp) hl hv hg
  have hrun : s.inStates [.off, .boot, .laidUp] = false := by rcases hm with h | h | h | h | h <;> simp [State.inStates, h]
  have hv' : ((s.at' stamp).countSyncin stamp).grid.syncinValid = false := by rw [hcount]; exact hv
  have hr' : ((s.at' stamp).countSyncin stamp).role = .active := by rw [hcount]; exact hr
  simp [exec_syncinEdge_eq, execSyncinEdge, hrun, hv', selectSource_source_ne_zero hr' hv']

/-- R37: SYNCIN is qualified no more, and nothing but the grid differs. -/
theorem exec_syncinLoss : ∃ t, exec .syncinLoss s = .next t ∧ t.grid.syncinValid = false ∧ t.grid.syncinLast = none ∧
    t.grid.syncinGood = 0 ∧ t = { s with grid := t.grid } := by
  rw [exec_syncinLoss_eq, execSyncinLoss]
  split
  next =>
    obtain ⟨_, _, h⟩ := selectSource_eq (s.modGrid (fun g => { g with syncinValid := false, syncinGood := 0, syncinBad := 0, syncinDev := 0 }))
    rw [State.loseSyncin, h]
    exact ⟨_, rfl, rfl, rfl, rfl, rfl⟩
  next h => exact ⟨_, rfl, by simpa using h, rfl, rfl, rfl⟩

theorem exec_ppsOutSecond {s : State} (hd : s.ppsDriven = true) (hn : s.secondNear = true) :
    exec .ppsOutSecond s = .next { s with time := s.time.reach true s.nextSecond } := by
  simp [exec_ppsOutSecond_eq, execPpsOutSecond, hd, hn, at'_eq]
end Commands

/-- Settles O13: a sample by `nextSample_eq`, the others each by its rule above. -/
theorem sampleGrid : Obligations.SampleGrid := by
  unfold Obligations.SampleGrid
  refine ⟨fun s ho hl hk => ?sample, fun stamp last s hm hr hlast hv hg => ?edge, exec_syncinLoss, fun s hm hn => ?second, fun at' s => rfl⟩
  case sample =>
    obtain ⟨_, _, _, _, h, hslew⟩ := nextSample_eq s
    rw [exec_sampleBoundary ho hl hk, h]
    refine ⟨_, rfl, Nat.mod_eq_of_lt hk, rfl, fun hs => ?_, rfl, rfl, rfl⟩
    exact (hslew hs).trans (by simp [Grid.adjust, State.maxAdjust, hs])
  case edge =>
    rw [exec_syncinEdge_unqualified hm hr hlast hv hg]
    obtain ⟨bad, dev, hcount⟩ := countSyncin_unqualified (s := s.at' stamp) (stamp := stamp) hlast hv hg
    obtain ⟨source, slew, hselect⟩ := selectSource_eq ((s.at' stamp).countSyncin stamp)
    rw [hselect, hcount]
    refine ⟨_, rfl, rfl, rfl, ?_, hv, rfl⟩
    simp [State.syncinInRange, State.period, at'_eq]
  case second =>
    have hd : s.ppsDriven = true := by rcases hm with h | h | h | h | h | h | h <;> simp [State.ppsDriven, State.inStates, h]
    rw [exec_ppsOutSecond hd hn, reach_nextSecond]

end Sys2Proof.Machine
end

section
/-! SUPPORT. PTP (R52 to R54, R402, R403): what the choice of a master, the judgement of the lock and the discipline of the Meridian
change, and the commands up to these operations. -/
namespace Sys2Proof.Machine

/-! Records of the Meridian and the choice of the grid's source. -/
section Selects
variable {s t u : State}

/-- Only the grid and the Field Book differ. -/
def State.selects (s t : State) : Prop := ∃ (grid : Grid) (fb : FieldBook), t = { s with grid := grid, fb := fb }

theorem State.selects.refl : s.selects s := ⟨_, _, rfl⟩

theorem State.selects.trans (h : s.selects t) (k : t.selects u) : s.selects u := by
  obtain ⟨_, _, rfl⟩ := h
  obtain ⟨_, _, rfl⟩ := k
  exact ⟨_, _, rfl⟩

theorem State.selects.eq (h : s.selects t) : t = { s with grid := t.grid, fb := t.fb } := by
  obtain ⟨_, _, rfl⟩ := h
  rfl

theorem selects_ite {c : Prop} [Decidable c] (h : s.selects t) (k : s.selects u) : s.selects (if c then t else u) := by
  split
  · exact h
  · exact k

theorem selects_timeRecord (code : Nat) (ext : List Byte) (s : State) : s.selects (s.timeRecord code ext) := ⟨_, _, rfl⟩

theorem selects_selectSource (s : State) : s.selects s.selectSource := by
  obtain ⟨_, _, h⟩ := selectSource_eq s
  exact ⟨_, _, h⟩
end Selects

/-! R52: the discipline of the Meridian. -/
section Discipline
variable (offset : Int) (s : State)

theorem judgeLock_spec : ∃ n locked, (s.modTime (fun t => { t with inLock := n, locked := locked, holdover := false })).selects
    (s.judgeLock offset) :=
  ⟨_, _, (selects_ite (selects_timeRecord ..) .refl).trans (selects_ite .refl (selects_selectSource _))⟩

/-- R52: a valid offset is taken, and ends the holdover. -/
theorem discipline_spec : ∃ t, s.discipline offset = t ∧ t.time.offset = satI32 offset ∧ t.time.holdover = false ∧ t.net = s.net := by
  refine ⟨_, rfl, ?_⟩
  rw [State.discipline]
  split
  next =>
    obtain ⟨_, _, hlock⟩ := judgeLock_spec offset (s.modTime (fun t => { t with offset := satI32 offset })).freeRate
    rw [hlock.eq]
    exact ⟨rfl, rfl, rfl⟩
  next => simp [State.stepToTai, State.timeRecord]
end Discipline

/-- R402: the choice of the master keeps the masters heard and the port. -/
theorem selectMaster_eq (s : State) : ∃ ptp fb, s.selectMaster = { s with net := { s.net with ptp := ptp }, fb := fb } ∧
    ptp.masters = s.net.ptp.masters ∧ ptp.lan = s.net.ptp.lan := by
  unfold State.selectMaster
  dsimp only
  split
  · exact ⟨_, _, rfl, rfl, rfl⟩
  · exact ⟨_, _, rfl, rfl, rfl⟩

/-! The commands, each as the operation it runs. -/
section Commands
variable (s : State) (lan : Fin 2) (m : List Byte) (q : Nat)
theorem exec_ptpAnnounceReceived_eq (a : Announce) : exec (.ptpAnnounceReceived a) s = execPtpAnnounceReceived a s := rfl
theorem exec_ptpSyncReceived_eq (t2 : Nat) (c : Int) : exec (.ptpSyncReceived lan m q t2 c) s = execPtpSyncReceived lan m q t2 c s := rfl
theorem exec_ptpFollowUpReceived_eq (t1 c : Int) : exec (.ptpFollowUpReceived lan m q t1 c) s = execPtpFollowUpReceived lan m q t1 c s := rfl
theorem exec_ptpDelayReqSend_eq (t3 : Nat) : exec (.ptpDelayReqSend t3) s = execPtpDelayReqSend t3 s := rfl
theorem exec_ptpDelayRespReceived_eq (t4 c : Int) : exec (.ptpDelayRespReceived lan m q t4 c) s = execPtpDelayRespReceived lan m q t4 c s := rfl
theorem exec_ptpSyncTimeout_eq : exec .ptpSyncTimeout s = execPtpSyncTimeout s := rfl
theorem exec_ptpMasterTimeout_eq : exec (.ptpMasterTimeout lan m) s = execPtpMasterTimeout lan m s := rfl
theorem exec_ptpPortFailover_eq : exec .ptpPortFailover s = execPtpPortFailover s := rfl
end Commands

/-! The commands in a unit that runs PTP, and from the selected master on its port. -/
section Runs
variable {s : State} {lan : Fin 2} {m : List Byte} {q : Nat}

theorem exec_ptpAnnounceReceived {a : Announce} (hr : s.ptpRuns = true) (hd : (a.domain : Int) = s.par P.ptpDomain) (hs : a.steps < 255) :
    exec (.ptpAnnounceReceived a) s = .next (s.modPtp (fun p =>
      { p with masters := p.masters.filter (fun b => !(b.lan == a.lan && b.identity == a.identity)) ++ [a] })).selectMaster := by
  simp [exec_ptpAnnounceReceived_eq, execPtpAnnounceReceived, hr, hd, hs]

theorem exec_ptpSyncReceived {t2 : Nat} {c : Int} (hr : s.ptpRuns = true) (hl : s.net.ptp.lan = lan.val) (hm : s.net.ptp.selected = some m) :
    exec (.ptpSyncReceived lan m q t2 c) s = .next ((s.at' t2).modPtp (fun p =>
      { p with sync := some (q, (t2 : Int) * 4 - s.par P.phyDelayRx 0xFF lan.val, c) })) := by
  simp [exec_ptpSyncReceived_eq, execPtpSyncReceived, hr, hl, hm]

/-- R402: a Follow_Up forms the downward path; what else it does waits for an upward path. -/
theorem exec_ptpFollowUpReceived_of_no_path {t1 t2 c c2 : Int} (hr : s.ptpRuns = true) (hl : s.net.ptp.lan = lan.val)
    (hm : s.net.ptp.selected = some m) (hs : s.net.ptp.sync = some (q, t2, c2)) (hu : s.net.ptp.upPath = none) :
    exec (.ptpFollowUpReceived lan m q t1 c) s = .next (s.modPtp (fun p =>
      { p with sync := none, down := some (t2 - t1 - c - c2), upAge := p.upAge + 1 })) := by
  simp [exec_ptpFollowUpReceived_eq, execPtpFollowUpReceived, hr, hl, hm, hs, hu]

theorem exec_ptpFollowUpReceived_of_path {t1 t2 c c2 up : Int} (hr : s.ptpRuns = true) (hl : s.net.ptp.lan = lan.val)
    (hm : s.net.ptp.selected = some m) (hs : s.net.ptp.sync = some (q, t2, c2)) (hu : s.net.ptp.upPath = some up) (ha : s.net.ptp.upAge < 16) :
    exec (.ptpFollowUpReceived lan m q t1 c) s = .next ((s.modPtp (fun p => { p with
      sync := none, down := some (t2 - t1 - c - c2), upAge := p.upAge + 1
      path := satI32 (roundDiv (t2 - t1 - c - c2 + up) 2) })).discipline (roundDiv (t2 - t1 - c - c2 - up) 2)) := by
  have hage : ¬ 16 < s.net.ptp.upAge + 1 := by omega
  simp [exec_ptpFollowUpReceived_eq, execPtpFollowUpReceived, hr, hl, hm, hs, hu, hage, State.modPtp]

theorem exec_ptpDelayReqSend {t3 : Nat} (hr : s.ptpRuns = true) (hm : s.net.ptp.selected.isSome = true) :
    exec (.ptpDelayReqSend t3) s = .next ((s.at' t3).modPtp (fun p =>
      { p with delayReq := some (p.reqSeq, (t3 : Int) * 4 + s.par P.phyDelayTx 0xFF p.lan), reqSeq := (p.reqSeq + 1) % 65536 })) := by
  obtain ⟨m, hm⟩ := Option.isSome_iff_exists.1 hm
  simp [exec_ptpDelayReqSend_eq, execPtpDelayReqSend, hr, hm]

theorem exec_ptpDelayRespReceived {t4 c t3 : Int} (hr : s.ptpRuns = true) (hl : s.net.ptp.lan = lan.val) (hm : s.net.ptp.selected = some m)
    (hs : s.net.ptp.delayReq = some (q, t3)) : ∃ path, exec (.ptpDelayRespReceived lan m q t4 c) s = .next (s.modPtp (fun p =>
      { p with delayReq := none, upPath := some (t4 - t3 - c), upAge := 0, path := path })) := by
  simp only [exec_ptpDelayRespReceived_eq, execPtpDelayRespReceived, hr, hl, hm, hs, Bool.not_true, Bool.false_eq_true, ne_eq,
    not_true_eq_false, or_self, if_false]
  exact ⟨_, rfl⟩

theorem exec_ptpPortFailover (hr : s.ptpRuns = true) (hp : s.par P.ptpLan = 2)
    (hb : (bestMaster (1 - s.net.ptp.lan) s.net.ptp.masters).isSome = true) :
    exec .ptpPortFailover s =
      .next ((s.modPtp (fun p => { p with lan := 1 - s.net.ptp.lan })).form 0x7001 5 83 (1 - s.net.ptp.lan) 0 0).selectMaster := by
  obtain ⟨a, ha⟩ := Option.isSome_iff_exists.1 hb
  simp [exec_ptpPortFailover_eq, execPtpPortFailover, hr, hp, ha]

/-- R53: holdover; the grid's source is selected anew. -/
theorem exec_ptpSyncTimeout (hr : s.ptpRuns = true) : ∃ t, exec .ptpSyncTimeout s = .next t ∧
    (s.modTime (fun t => { t with locked := false, holdover := true, inLock := 0 })).selects t := by
  simp only [exec_ptpSyncTimeout_eq, execPtpSyncTimeout, hr, Bool.not_true, Bool.false_eq_true, if_false]
  exact ⟨_, rfl, (selects_ite .refl (selects_timeRecord ..)).trans (selects_selectSource _)⟩
end Runs

/-- Settles O14: each command up to the choice of the master, the discipline of the Meridian or the choice of the grid's source, and these by
their rules above. -/
theorem ptpMessages : Obligations.PtpMessages := by
  unfold Obligations.PtpMessages
  refine ⟨fun a s hr hd hs => ?announce, fun lan m q t2 c s hr hl hm => exec_ptpSyncReceived hr hl hm,
    fun lan m q t1 c t2 c2 s hr hl hm hs => ⟨exec_ptpFollowUpReceived_of_no_path hr hl hm hs, fun up hu ha => ?followUp⟩,
    fun t3 s hr hm => exec_ptpDelayReqSend hr hm, fun lan m q t4 c t3 s hr hl hm hs => ?delayResp, fun s hr => ?syncTimeout,
    fun lan m s => ?masterTimeout, fun s hr hp hb => ?failover⟩
  case announce =>
    obtain ⟨ptp, fb, h, hmasters, -⟩ := selectMaster_eq (s.modPtp (fun p =>
      { p with masters := p.masters.filter (fun b => !(b.lan == a.lan && b.identity == a.identity)) ++ [a] }))
    exact ⟨_, (exec_ptpAnnounceReceived hr hd hs).trans (congrArg _ h), hmasters, rfl⟩
  case followUp =>
    have hexec := exec_ptpFollowUpReceived_of_path (t1 := t1) (c := c) hr hl hm hs hu ha
    obtain ⟨t, h, hoffset, hholdover, hnet⟩ := discipline_spec (roundDiv (t2 - t1 - c - c2 - up) 2) (s.modPtp (fun p => { p with
      sync := none, down := some (t2 - t1 - c - c2), upAge := p.upAge + 1, path := satI32 (roundDiv (t2 - t1 - c - c2 + up) 2) }))
    rw [h] at hexec
    exact ⟨t, hexec, congrArg (fun n => n.ptp.path) hnet, hoffset, hholdover,
      kept_of_next (execPtpFollowUpReceived_kept lan m q t1 c s) hexec⟩
  case delayResp =>
    obtain ⟨path, h⟩ := exec_ptpDelayRespReceived (t4 := t4) (c := c) hr hl hm hs
    exact ⟨_, h, rfl, rfl, rfl, rfl⟩
  case syncTimeout =>
    obtain ⟨t, h, grid, fb, rfl⟩ := exec_ptpSyncTimeout hr
    exact ⟨_, h, rfl, rfl, rfl, rfl⟩
  case masterTimeout =>
    obtain ⟨ptp, fb, h, hmasters, -⟩ := selectMaster_eq (s.modPtp (fun p =>
      { p with masters := p.masters.filter (fun b => !(b.lan == lan.val && b.identity == m)) }))
    exact ⟨_, (exec_ptpMasterTimeout_eq s lan m).trans (congrArg Host.Outcome.next h), hmasters, rfl⟩
  case failover =>
    obtain ⟨ptp, fb, h, -, hlan⟩ := selectMaster_eq
      ((s.modPtp (fun p => { p with lan := 1 - s.net.ptp.lan })).form 0x7001 5 83 (1 - s.net.ptp.lan) 0 0)
    exact ⟨_, (exec_ptpPortFailover hr hp hb).trans (congrArg _ h), hlan, rfl⟩

end Sys2Proof.Machine
end

section
/-! SUPPORT. Run-time self-test, key re-derivation and debug unlock (R49, R461 to R471). -/
namespace Sys2Proof.Machine

/-! The commands, each as the operation it runs. -/
section Commands
variable (s : State)
theorem exec_bistSlice_eq (busy sigOk : Bool) : exec (.bistSlice busy sigOk) s = execBistSlice busy sigOk s := rfl
theorem exec_keyRederivationComplete_eq (ok : Bool) : exec (.keyRederivationComplete ok) s = execKeyRederivationComplete ok s := rfl
theorem exec_bistPassLate_eq : exec .bistPassLate s = execBistPassLate s := rfl
theorem exec_debugUnlock_eq (sig : List Byte) : exec (.debugUnlock sig) s = execDebugUnlock sig s := rfl
end Commands

/-- R471: a record leaves all but the Field Book alone. -/
theorem bistRecord_eq (code index : Nat) (value : Int) (s : State) : ∃ fb, s.bistRecord code index value = { s with fb := fb } := ⟨_, rfl⟩

section Slices
variable {s : State}

/-- R463, R467: a slice that runs zeroises the keys. -/
theorem exec_bistSlice (hr : s.bistRuns = true) (hf : s.time.frame % 20 = 13) (hi : s.bist.inSlice = false) (hs : s.slotSkipped false = false)
    (sigOk : Bool) : exec (.bistSlice false sigOk) s =
      .next (if sigOk then (s.modBist (fun b => { b with run := 1, inSlice := true, keysValid := false })).slicePassed
        else (s.modBist (fun b => { b with run := 1, inSlice := true, keysValid := false })).sliceFailed) := by
  simp [exec_bistSlice_eq, execBistSlice, hr, hf, hi, hs]

theorem exec_bistSlice_busy (hr : s.bistRuns = true) (hf : s.time.frame % 20 = 13) (hi : s.bist.inSlice = false) (sigOk : Bool) :
    exec (.bistSlice true sigOk) s = .next (s.modBist (fun b => { b with skipped := incSat b.skipped })) := by
  simp [exec_bistSlice_eq, execBistSlice, hr, hf, hi, State.slotSkipped]

theorem slicePassed_of_ne (h : s.bist.slice ≠ 511) :
    s.slicePassed = s.modBist (fun b => { b with slice := (b.slice + 1) % 512, retest := false }) := by
  simp [State.slicePassed, State.modBist, h]

/-- R463: the last slice ends a pass. -/
theorem slicePassed_of_last (h : s.bist.slice = 511) : ∃ late, s.slicePassed = s.modBist (fun b => { b with
    slice := 0, retest := false, passes := incSat b.passes, lastPass := s.fb.opMs - b.passStart, passStart := s.fb.opMs, late := late }) := by
  simp only [State.slicePassed, State.modBist, h]
  exact ⟨_, rfl⟩

/-- R465: a first failure is counted, recorded, and the slice tested again. -/
theorem sliceFailed_of_first (h : s.bist.retest = false) : ∃ fb, s.sliceFailed =
    { s with bist := { s.bist with fails := incSat s.bist.fails, retest := true }, fb := fb } := by
  simp only [State.sliceFailed, h]
  exact ⟨_, rfl⟩
end Slices

/-! R467: the end of a re-derivation. -/
section Rederivation
variable {s : State}

theorem serveHeld_nil (h : s.host.held = []) : s.serveHeld = s := by
  simp only [State.serveHeld, h, List.foldl_nil, State.modHost]
  rw [← h]

theorem exec_keyRederivationComplete_good (hv : s.bist.keysValid = false) (hf : s.bist.keyFault = false) (hd : s.bist.debugOpen = false)
    (hh : s.host.held = []) : exec (.keyRederivationComplete true) s =
      .next (s.modBist (fun b => { b with keysValid := true, rederiveFailed := false })).endSlice := by
  rw [← serveHeld_nil (s := (s.modBist _).endSlice) hh]
  simp [exec_keyRederivationComplete_eq, execKeyRederivationComplete, hv, hf, hd]

theorem exec_keyRederivationComplete_first (hv : s.bist.keysValid = false) (hf : s.bist.keyFault = false) (hd : s.bist.debugOpen = false)
    (hn : s.bist.rederiveFailed = false) : exec (.keyRederivationComplete false) s =
      .next (s.modBist (fun b => { b with rederiveFailed := true })) := by
  simp [exec_keyRederivationComplete_eq, execKeyRederivationComplete, hv, hf, hd, hn]

theorem exec_keyRederivationComplete_again (hv : s.bist.keysValid = false) (hf : s.bist.keyFault = false) (hd : s.bist.debugOpen = false)
    (hh : s.host.held = []) (hn : s.bist.rederiveFailed = true) : exec (.keyRederivationComplete false) s =
      .next ((s.modBist (fun b =>
        { b with keyFault := true, inSlice := false, run := if b.run = 2 then 3 else b.run })).bistRecord 5 8 0) := by
  rw [← serveHeld_nil (s := (s.modBist _).bistRecord _ _ _) hh]
  simp [exec_keyRederivationComplete_eq, execKeyRederivationComplete, hv, hf, hd, hn, State.endSlice, State.modBist]
end Rederivation

theorem exec_bistPassLate {s : State} (hr : s.bist.run = 1) (hl : s.bist.late = false)
    (ht : s.parN P.passLimit * 1000 < s.fb.opMs - s.bist.passStart) : exec .bistPassLate s =
      .next (((s.modBist (fun b => { b with late := true })).event 0x8801 4 119 noIndex ((s.fb.opMs - s.bist.passStart : Nat) : Int) 0).bistRecord 4
        noIndex ((s.fb.opMs - s.bist.passStart : Nat) : Int)) := by
  simp only [exec_bistPassLate_eq, execBistPassLate, hr, hl, Nat.not_le.2 ht]
  rfl

/-! R469, R470: debug unlock. -/
section Unlock
variable {s : State} {sig : List Byte}

theorem exec_debugUnlock_of_closed (h : s.fuses.lifecycle ≠ 2 ∨ 3 ≤ s.bist.attempts) : exec (.debugUnlock sig) s = .next s := by
  rw [exec_debugUnlock_eq, execDebugUnlock, if_pos]
  rcases h with h | h <;> simp [h]

theorem exec_debugUnlock_failed (hc : s.fuses.lifecycle = 2) (ha : s.bist.attempts < 3) (hd : s.bist.debugOpen = false)
    (hm : s.mode = .staking ∨ s.mode = .load ∨ s.mode = .armed ∨ s.mode = .running ∨ s.mode = .stopping) :
    exec (.debugUnlock sig) s = .next ((s.modBist (fun b =>
      { b with challenges := b.challenges + 1, attempts := b.attempts + 1 })).bistRecord 7 8 0) := by
  have hrun : s.inStates [.off, .boot, .plat, .laidUp] = false := by rcases hm with h | h | h | h | h <;> simp [State.inStates, h]
  have hstate : (s.mode == .surveyed || s.mode == .faultHold) = false := by rcases hm with h | h | h | h | h <;> simp [h]
  simp [exec_debugUnlock_eq, execDebugUnlock, hc, ha, hd, hrun, hstate, State.modBist]

theorem exec_debugUnlock_good (hc : s.fuses.lifecycle = 2) (ha : s.bist.attempts < 3) (hd : s.bist.debugOpen = false) (hm : s.mode = .surveyed)
    (hp : s.par P.debugAllowed = 1) (hs : s.unlockOk sig = true) : exec (.debugUnlock sig) s = .next
      (((s.modBist (fun b => { b with challenges := b.challenges + 1 })).endSlice.modBist (fun b =>
        { b with keysValid := false, debugOpen := true })).bistRecord 6 8 0).enterFaultHold := by
  simp [exec_debugUnlock_eq, execDebugUnlock, hc, ha, hd, hm, hp, hs, State.inStates]
end Unlock

theorem State.plans.bist_eq {s t : State} (h : s.plans t) : t.bist = s.bist := by
  obtain ⟨_, _, _, rfl, -⟩ := h
  rfl

theorem State.switches.bist_eq {s t : State} (h : s.switches t) : t.bist = s.bist := by
  obtain ⟨_, _, _, rfl⟩ := h
  rfl

/-- R71: the entry into FAULT-HOLD leaves self-test and debug access alone. -/
theorem enterFaultHold_bist (s : State) : s.enterFaultHold.bist = s.bist := by
  have hbrake := switches_foldl (fun t l => switches_brakeLeg l (if t.conv[l.val].st = .fault then .fault else .disabled) t.conv[l.val].cause t)
    allLegs s.stopAllBalancing
  simp only [State.enterFaultHold, hbrake.bist_eq, (plans_stopAllBalancing s).bist_eq]

/-- Settles O10: each command is one of the rules above; FAULT-HOLD is entered by `enterFaultHold_spec`. -/
theorem selfTestRuns : Obligations.SelfTestRuns := by
  unfold Obligations.SelfTestRuns
  refine ⟨fun s hr hf hi hk hn => ?passed, fun s hr hf hi hk hn => ?last, fun s hr hf hi hk hn => ?failed,
    fun s hr hf hi ok => exec_bistSlice_busy hr hf hi ok, fun s hv hf hd hh => ⟨exec_keyRederivationComplete_good hv hf hd hh,
      exec_keyRederivationComplete_first hv hf hd, fun hn => ?again⟩, fun s hr hl ht => ?late,
    fun sig s hc ha hd hm => ⟨_, exec_debugUnlock_failed hc ha hd hm, rfl, rfl⟩, fun sig s hc ha hd hm hp hs => ?unlocked,
    fun sig s h => exec_debugUnlock_of_closed h⟩
  case passed => exact (exec_bistSlice hr hf hi hk true).trans (congrArg _ (slicePassed_of_ne hn))
  case last =>
    obtain ⟨late, h⟩ := slicePassed_of_last (s := s.modBist (fun b => { b with run := 1, inSlice := true, keysValid := false })) hn
    exact ⟨_, (exec_bistSlice hr hf hi hk true).trans (congrArg _ h), rfl, rfl, rfl, rfl, rfl⟩
  case failed =>
    obtain ⟨fb, h⟩ := sliceFailed_of_first (s := s.modBist (fun b => { b with run := 1, inSlice := true, keysValid := false })) hn
    exact ⟨_, (exec_bistSlice hr hf hi hk false).trans (congrArg _ h), rfl, rfl, rfl, rfl, rfl⟩
  case again =>
    have hexec := exec_keyRederivationComplete_again hv hf hd hh hn
    obtain ⟨fb, h⟩ := bistRecord_eq 5 8 0 (s.modBist (fun b =>
      { b with keyFault := true, inSlice := false, run := if b.run = 2 then 3 else b.run }))
    exact ⟨_, hexec.trans (congrArg _ h), rfl, hv, rfl⟩
  case late => exact ⟨_, exec_bistPassLate hr hl ht, rfl, length_insertRecord .., rfl⟩
  case unlocked =>
    have hexec := exec_debugUnlock_good hc ha hd hm hp hs
    obtain ⟨t, h, hmode, -⟩ := enterFaultHold_spec (((s.modBist (fun b => { b with challenges := b.challenges + 1 })).endSlice.modBist (fun b =>
      { b with keysValid := false, debugOpen := true })).bistRecord 6 8 0)
    have hbist := enterFaultHold_bist (((s.modBist (fun b => { b with challenges := b.challenges + 1 })).endSlice.modBist (fun b =>
      { b with keysValid := false, debugOpen := true })).bistRecord 6 8 0)
    rw [h] at hexec hbist
    exact ⟨t, hexec, hmode, by rw [hbist]; rfl, by rw [hbist]; rfl, kept_of_next (execDebugUnlock_kept sig s) hexec⟩

end Sys2Proof.Machine
end

section
/-! SUPPORT. The frame boundary (R33 to R35, R40, R44, R45, R62, R382): the step from frame to frame, the part of the twin in it, and what
of the field die's latch its work leaves alone. -/
namespace Sys2Proof.Machine

/-! R33: the samples that remain of a frame. -/
section FinishFrame
theorem finishFrame_runsGrid (n : Nat) (s : State) : s.runsGrid (State.finishFrame n s) := by
  induction n generalizing s with
  | zero => exact .refl
  | succ n ih => exact (nextSample_runsGrid s).trans (ih _)

theorem finishFrame_sample {n : Nat} {s : State} (h : s.grid.sample + n + 1 = s.nSamples) : (State.finishFrame (n + 1) s).grid.sample = 0 := by
  induction n generalizing s with
  | zero => simp [State.finishFrame, ← h]
  | succ n ih =>
    refine ih (s := s.nextSample) ?_
    rw [(nextSample_runsGrid s).nSamples_eq, nextSample_sample, Nat.mod_eq_of_lt (by omega)]
    omega
end FinishFrame

/-- R33, R38: the due change of the grid keeps its stamp, and a sample 0. -/
theorem takeGrid_eq (s : State) : ∃ grid, s.takeGrid = { s with grid := grid } ∧ grid.stamp = s.grid.stamp ∧
    (s.grid.sample = 0 → grid.sample = 0) := by
  unfold State.takeGrid
  split
  · exact ⟨_, rfl, rfl, id⟩
  · exact ⟨_, rfl, rfl, fun _ => rfl⟩

/-- R34, R35, R44, R382: what a boundary changes. -/
theorem beginFrame_eq (s : State) : ∃ grid time ahead c2f, s.beginFrame = { s with
      grid := grid, time := time, win := s.win.endFrame, fb := { s.fb with opMs := s.fb.opMs + 1 }
      base := { s.base with ahead := ahead, c2f := c2f } } ∧
    time.frame = (s.time.frame + 1) % 2 ^ 32 ∧ time.frameStamp = grid.stamp ∧ (s.grid.sample < s.nSamples → grid.sample = 0) := by
  unfold State.beginFrame
  dsimp only
  have hzero (h : s.grid.sample < s.nSamples) : (State.finishFrame (s.nSamples - s.grid.sample) s).grid.sample = 0 := by
    obtain ⟨n, hn⟩ := Nat.exists_eq_add_of_lt h
    rw [show s.nSamples - s.grid.sample = n + 1 by omega]
    exact finishFrame_sample hn.symm
  have hgrid := finishFrame_runsGrid (s.nSamples - s.grid.sample) s
  generalize State.finishFrame (s.nSamples - s.grid.sample) s = u at hzero hgrid ⊢
  generalize hv : u.modTime _ = v
  obtain ⟨grid, htake, hstamp, hsample⟩ := takeGrid_eq v
  rw [htake]
  subst hv
  obtain ⟨g, time, ahead, c2f, rfl, -, hframe⟩ := hgrid
  refine ⟨_, _, _, _, rfl, ?_, hstamp.symm, fun h => hsample (hzero h)⟩
  exact congrArg (fun n => (n + 1) % 2 ^ 32) hframe

theorem endFrame_now (w : Windows) : w.endFrame.now = Vector.replicate 6 false := rfl

/-! R303, R309, R316: the twin's part of a boundary. -/
section TwinOnly
variable {s t u : State}

/-- Only the twin part differs. -/
def State.twinOnly (s t : State) : Prop := ∃ twin, t = { s with twin := twin }

theorem State.twinOnly.refl : s.twinOnly s := ⟨_, rfl⟩

theorem State.twinOnly.trans (h : s.twinOnly t) (k : t.twinOnly u) : s.twinOnly u := by
  obtain ⟨_, rfl⟩ := h
  obtain ⟨_, rfl⟩ := k
  exact ⟨_, rfl⟩

theorem twinOnly_ite {c : Prop} [Decidable c] (h : s.twinOnly t) (k : s.twinOnly u) : s.twinOnly (if c then t else u) := by
  split
  · exact h
  · exact k

theorem twinOnly_modTwin (f : Twin → Twin) (s : State) : s.twinOnly (s.modTwin f) := ⟨_, rfl⟩
theorem twinOnly_twinSend (cls : Nat) (m : TwinMsg) (s : State) : s.twinOnly (s.twinSend cls m) := twinOnly_ite (twinOnly_modTwin ..) .refl
theorem twinOnly_abandonJoin (s : State) : s.twinOnly s.abandonJoin := twinOnly_ite (twinOnly_modTwin ..) .refl

theorem twinOnly_twinBoundary (s : State) : s.twinOnly s.twinBoundary := by
  refine twinOnly_ite .refl (.trans ?_ (twinOnly_twinSend ..))
  refine .trans ?_ (twinOnly_ite (twinOnly_twinSend ..) .refl)
  exact .trans (twinOnly_modTwin ..) (twinOnly_ite (twinOnly_abandonJoin _) .refl)
end TwinOnly

/-! What keeps the latches: the field die's own, the core die's, and the tach counts. -/
section Latches
variable {s t : State}

/-- What the field die has latched, what the core die has sealed of it, and the tach counts of the frame (R42). -/
def State.latches (s : State) : Latched × Latched × Vector Nat 4 := (s.fld, s.lat, s.therm.tachNow)

theorem latches_ite {c : Prop} [Decidable c] {u : State} (h : t.latches = s.latches) (k : u.latches = s.latches) :
    (if c then t else u).latches = s.latches := by
  split
  · exact h
  · exact k

theorem latches_foldl {α : Type} {f : State → α → State} (h : ∀ t a, (f t a).latches = t.latches) (l : List α) (s : State) :
    (l.foldl f s).latches = s.latches :=
  List.foldlRecOn (motive := fun t => t.latches = s.latches) l f rfl fun t ht a _ => (h t a).trans ht

theorem State.plans.latches_eq (h : s.plans t) : t.latches = s.latches := by
  obtain ⟨_, _, _, rfl, -⟩ := h
  rfl

theorem State.switches.latches_eq (h : s.switches t) : t.latches = s.latches := by
  obtain ⟨_, _, _, rfl⟩ := h
  rfl

section Updates
variable (leg : Leg) (p : Fin 2) (s : State)
theorem modConv_latches (f : LegConv → LegConv) : (s.modConv leg f).latches = s.latches := rfl
theorem modRing_latches (f : Ring → Ring) : (s.modRing leg f).latches = s.latches := rfl
theorem pushFlit_latches (d : BaseDir) (cls typ tag : Nat) (x : Payload) : (s.pushFlit d cls typ tag x).latches = s.latches := by
  simp [State.latches, State.pushFlit]
theorem modAxis_latches (i : Fin 4) (f : Axis → Axis) : (s.modAxis i f).latches = s.latches := rfl
theorem modCan_latches (c : Fin 4) (f : Can → Can) : (s.modCan c f).latches = s.latches := rfl
theorem withLayup_latches (x : Layup) : State.latches { s with layup := x } = s.latches := rfl
theorem withBist_latches (b : SelfTest) : State.latches { s with bist := b } = s.latches := rfl
theorem modSf_latches (f : Safety → Safety) : (s.modSf f).latches = s.latches := rfl
theorem modProbe_latches (f : ProbePair → ProbePair) : (s.modProbe p f).latches = s.latches := rfl
theorem removeOffsets_latches : (s.removeOffsets p).latches = s.latches := by
  simp [State.latches, State.removeOffsets, State.stripOffset]
theorem probeResult_latches (code : Nat) : (s.probeResult p code).latches = s.latches := by
  simp [State.latches, State.probeResult]
theorem formField_latches (type code source index : Nat) (a b : Int) : (s.formField type code source index a b).latches = s.latches := rfl
end Updates

/-! R25, R42: the field die's own work at a boundary. -/
theorem dropPermit_latches (s : State) : s.dropPermit.latches = s.latches := by
  simp only [State.dropPermit, modSf_latches]
  exact (switches_foldl (fun t l => switches_stopLeg l t) allLegs s).latches_eq

theorem endAutonomy_latches (s : State) : s.endAutonomy.latches = s.latches :=
  (formField_latches ..).trans (dropPermit_latches _)

theorem autonomyBoundary_latches (s : State) : s.autonomyBoundary.latches = s.latches := by
  refine latches_ite rfl ?_
  have hstop (u : State) : u.latches = s.latches → (allLegs.foldl (fun (u : State) l =>
      if u.outside l u.base.i0[l.val] u.fld.legMa[l.val] (s.base.frames + 1) then u.stopLeg l else u) u).latches = s.latches :=
    fun hu => (latches_foldl (fun t l => latches_ite (switches_stopLeg l t).latches_eq rfl) _ u).trans hu
  exact latches_ite ((endAutonomy_latches _).trans (hstop _ rfl)) (hstop _ rfl)

theorem latchTrains_latches (s : State) : s.latchTrains.latches = s.latches := by
  refine latches_foldl (fun t l => ?_) allLegs s
  simp only [modRing_latches]
  exact latches_foldl (fun _ _ => pushFlit_latches ..) _ t

/-- R42: of a boundary the field die's latch alone changes the latches. -/
theorem fieldBoundary_latches (l : FieldLatch) (s : State) : (s.fieldBoundary l).latches = (s.latchField l).latches :=
  latches_ite ((latchTrains_latches _).trans (autonomyBoundary_latches _)) (autonomyBoundary_latches _)

/-! R48: the writes of objects. -/
theorem selectSource_latches (s : State) : s.selectSource.latches = s.latches := by
  obtain ⟨_, _, h⟩ := selectSource_eq s
  rw [h]
  rfl

theorem setBalEnable_latches (v : Nat) (s : State) : (s.setBalEnable v).latches = s.latches :=
  latches_foldl (fun t l => latches_ite (plans_stopBalancing l t).latches_eq rfl) allLegs { s with balEnable := v }

theorem yieldPair_latches (p : Fin 2) (y : YieldBy) (s : State) : (s.yieldPair p y).latches = s.latches := by
  have hspoilt (c : Prop) [Decidable c] (code : Nat) (f : ProbePair → ProbePair) :
      (((if c then s else s.probeResult p code).removeOffsets p).modProbe p f).latches = s.latches :=
    (modProbe_latches ..).trans ((removeOffsets_latches ..).trans (latches_ite rfl (probeResult_latches ..)))
  unfold State.yieldPair
  dsimp only
  split
  next => rfl
  next => exact latches_ite rfl ((modProbe_latches ..).trans (removeOffsets_latches ..))
  next => exact (modProbe_latches ..).trans ((removeOffsets_latches ..).trans (probeResult_latches ..))
  next =>
    split
    · exact latches_ite rfl ((modProbe_latches ..).trans (probeResult_latches ..))
    · exact hspoilt ..
    · exact hspoilt ..
    · exact modProbe_latches ..

theorem setProbeEnable_latches (v : Nat) (s : State) : (s.setProbeEnable v).latches = s.latches :=
  latches_foldl (fun t p => latches_ite (yieldPair_latches p .enableCleared t) rfl) _ { s with probeEnable := v }

theorem canErrEnds_latches (c : Fin 4) (s : State) : (s.canErrEnds c).latches = s.latches := latches_ite rfl (latches_ite rfl rfl)

theorem canStart_latches (c : Fin 4) (s : State) : (s.canStart c).latches = s.latches := by
  simp only [State.canStart, modCan_latches, canErrEnds_latches]

theorem canEnable_latches (c : Fin 4) (on : Bool) (s : State) : (s.canEnable c on).latches = s.latches := by
  have hon := modCan_latches s c (fun x => { x with enable := on })
  refine latches_ite (latches_ite ?held (latches_ite hon ((canStart_latches ..).trans hon))) (latches_ite ?drains hon)
  case held => simp only [modCan_latches]
  case drains => simp only [State.canDrained, modCan_latches]

/-- R48: an object's write, by the chain of the objects in `applyWrite`. -/
theorem applyWrite_latches (id elem : Nat) (v : Int) (s : State) : (s.applyWrite id elem v).latches = s.latches := by
  refine latches_ite rfl <| latches_ite (selectSource_latches _) <| latches_ite rfl <| latches_ite (setBalEnable_latches ..) <|
    latches_ite (setProbeEnable_latches ..) <| latches_ite rfl <| latches_ite rfl <| latches_ite rfl <| latches_ite rfl <|
    latches_ite rfl <| latches_ite rfl <| latches_ite rfl <| latches_ite ?axis <| latches_ite (canEnable_latches ..) rfl
  case axis => exact latches_ite rfl <| latches_ite rfl <| latches_ite rfl <| latches_ite rfl rfl

theorem applyWrites_latches (s : State) : s.applyWrites.latches = s.latches :=
  latches_foldl (fun t (w : Nat × Nat × Int) => applyWrite_latches w.1 w.2.1 w.2.2 t) _ { s with host := { s.host with writes := [] } }

/-! R49, R50, R76: what else takes effect at the boundary. -/
theorem resumeLeg_latches (leg : Leg) (s : State) : (s.resumeLeg leg).latches = s.latches := latches_ite rfl (latches_ite rfl rfl)

theorem enterRunning_latches (s : State) : s.enterRunning.latches = s.latches := latches_ite rfl rfl

theorem canBoundary_latches (c : Fin 4) (s : State) : (s.canBoundary c).latches = s.latches :=
  latches_ite (canStart_latches c s) (latches_ite rfl (latches_ite rfl rfl))

theorem takeTarget_latches (i : Fin 4) (s : State) : (s.takeTarget i).latches = s.latches := by
  unfold State.takeTarget
  split <;> rfl

theorem planSleep_latches (leg : Leg) (s : State) : (s.planSleep leg).latches = s.latches :=
  latches_ite rfl (plans_foldl (fun t b => plans_planAt false leg b 0x40 0 (t.sleepPayload leg) t) _ s).latches_eq

theorem layupPersist_latches (s : State) : s.layupPersist.latches = s.latches :=
  latches_ite (latches_ite rfl rfl : (s.learnTrigger 6).latches = _) rfl

theorem beginLayup_latches (s : State) : s.beginLayup.latches = s.latches := by
  refine latches_ite rfl (latches_ite rfl ((layupPersist_latches _).trans ?_))
  exact (latches_foldl (fun t l => planSleep_latches l t) allLegs _).trans ((withLayup_latches ..).trans (plans_stopAllBalancing s).latches_eq)

theorem takeWrites_latches (s : State) : s.takeWrites.latches = s.latches := by
  have hlegs (u : State) := latches_foldl (fun t l => resumeLeg_latches l t) allLegs u
  have hcans (u : State) := latches_foldl (fun t c => canBoundary_latches c t) allCans u
  have haxes (u : State) := latches_foldl (f := fun t i => (t.modAxis i Axis.boundary).takeTarget i)
    (fun t i => (takeTarget_latches i _).trans (modAxis_latches ..)) allAxes u
  simp only [State.takeWrites, beginLayup_latches, withBist_latches, haxes, hcans, enterRunning_latches, hlegs, applyWrites_latches]

theorem takeOffsets_latches (s : State) : s.takeOffsets.latches = s.latches := rfl

theorem latchField_latches (l : FieldLatch) (s : State) :
    (s.latchField l).latches = (s.fld.latch l (s.trained l.md) s.therm.tachNow, s.lat, Vector.replicate 4 0) := rfl

/-- R143, R251: the legs at a boundary: the overload factor of each, and its distances. -/
def State.boundaryLegs (s : State) : State := allLegs.foldl (fun u g =>
  (u.modConv g (LegConv.derate (u.parN P.ovlStep g.val))).modRing g Ring.takeDistances) s

theorem boundaryLegs_latches (s : State) : s.boundaryLegs.latches = s.latches :=
  latches_foldl (fun _ _ => (modRing_latches ..).trans (modConv_latches ..)) allLegs s
end Latches

/-! The command. -/
section Command
variable {l : FieldLatch} {s : State}
theorem exec_frameBoundary_eq (l : FieldLatch) (s : State) : exec (.frameBoundary l) s = execFrameBoundary l s := rfl

theorem exec_frameBoundary_of_unframed (h : s.mode = .off ∨ s.mode = .laidUp) : exec (.frameBoundary l) s = .next s := by
  rcases h with h | h <;> simp [exec_frameBoundary_eq, execFrameBoundary, State.framed, State.inStates, h]

theorem start_twinBoundary_beginFrame (s : State) : s.twinBoundary.beginFrame.start = s.start := by
  obtain ⟨_, ht⟩ := twinOnly_twinBoundary s
  obtain ⟨_, _, _, _, hb, -⟩ := beginFrame_eq s.twinBoundary
  rw [hb, ht]

/-- R62: in last-gasp the boundary alone. -/
theorem exec_frameBoundary_of_lastGasp (ho : s.mode ≠ .off) (hl : s.mode ≠ .laidUp) (hg : s.start.lastGasp = true) :
    exec (.frameBoundary l) s = .next s.twinBoundary.beginFrame := by
  simp [exec_frameBoundary_eq, execFrameBoundary, State.framed, State.inStates, ho, hl, start_twinBoundary_beginFrame, hg]

theorem exec_frameBoundary (ho : s.mode ≠ .off) (hl : s.mode ≠ .laidUp) (hg : s.start.lastGasp = false) :
    exec (.frameBoundary l) s = .next (s.twinBoundary.beginFrame.fieldBoundary l).boundaryLegs.takeOffsets.takeWrites := by
  simp [State.boundaryLegs, exec_frameBoundary_eq, execFrameBoundary, State.framed, State.inStates, ho, hl, start_twinBoundary_beginFrame, hg]

/-- R42: the latches after the whole of a boundary. -/
theorem frameBoundary_latches (l : FieldLatch) (s : State) :
    (s.twinBoundary.beginFrame.fieldBoundary l).boundaryLegs.takeOffsets.takeWrites.latches =
      (s.fld.latch l (s.trained l.md) s.therm.tachNow, s.lat, Vector.replicate 4 0) := by
  obtain ⟨_, ht⟩ := twinOnly_twinBoundary s
  obtain ⟨_, _, _, _, hb, -⟩ := beginFrame_eq s.twinBoundary
  rw [takeWrites_latches, takeOffsets_latches, boundaryLegs_latches, fieldBoundary_latches, latchField_latches, hb, ht]
  rfl
end Command

/-- Settles O15: the boundary by `beginFrame_eq`, its work on the latches by `frameBoundary_latches`. -/
theorem frameBegins : Obligations.FrameBegins := by
  unfold Obligations.FrameBegins
  refine ⟨fun s hk => ?boundary, fun l s ho hl hg => exec_frameBoundary_of_lastGasp ho hl hg, fun l s ho hl hg => ?work,
    fun l s h => exec_frameBoundary_of_unframed h⟩
  case boundary =>
    obtain ⟨_, _, _, _, h, hframe, hstamp, hsample⟩ := beginFrame_eq s
    rw [h]
    exact ⟨hsample hk, hframe, rfl, endFrame_now _, hstamp, rfl⟩
  case work =>
    have hexec := exec_frameBoundary (l := l) ho hl hg
    obtain ⟨hfld, hrest⟩ := Prod.mk.inj (frameBoundary_latches l s)
    obtain ⟨hlat, htach⟩ := Prod.mk.inj hrest
    exact ⟨_, hexec, kept_of_next (execFrameBoundary_kept l s) hexec, hfld, hlat, htach, rfl⟩

end Sys2Proof.Machine
end

section
/-! SUPPORT. Resets and supplies (R57 to R79, R481): what a reset carries over, the power failures, the selection of the supply input,
the exported rails and the monitor of RESETREQ_N. -/
namespace Sys2Proof.Machine

/-! R67: a reset. -/
section Resets
variable {s : State} {v : SupplyMv}

/-- R51, R67: a module reset enters BOOT with its cause, and carries over what survives. -/
theorem moduleReset_restarts (cause : Nat) (s : State) : s.restarts cause (s.moduleReset cause) :=
  ⟨rfl, ⟨rfl, rfl, rfl, rfl, rfl, rfl⟩, rfl, rfl⟩

theorem exec_powerOnRelease_eq (v : SupplyMv) (s : State) : exec (.powerOnRelease v) s = execPowerOnRelease v s := rfl
theorem exec_watchdogExpiry_eq (s : State) : exec .watchdogExpiry s = execWatchdogExpiry s := rfl
theorem exec_resetreqReset_eq (s : State) : exec .resetreqReset s = execResetreqReset s := rfl
theorem exec_lastGaspComplete_eq (s : State) : exec .lastGaspComplete s = execLastGaspComplete s := rfl
theorem exec_refclkReturn_eq (s : State) : exec .refclkReturn s = execRefclkReturn s := rfl
theorem exec_wakeInEdge_eq (s : State) : exec .wakeInEdge s = .next (s.wakeBy 16 0) := rfl
theorem exec_wakeTone_eq (leg : Leg) (s : State) : exec (.wakeTone leg) s = .next (s.wakeBy (2 ^ leg.val) 0) := rfl
theorem exec_wakeTimerExpiry_eq (s : State) : exec .wakeTimerExpiry s = execWakeTimerExpiry s := rfl

/-- R57: the module starts on the input of `firstSel`. -/
theorem exec_powerOnRelease (ho : s.mode = .off) (hd : s.ret.dieHold = false) (hr : s.supply.refclkLost = false)
    (hv : 4500 ≤ max v.vmain v.vback) : exec (.powerOnRelease v) s = .next (((((s.setSupply v).modSupply (fun p =>
      { p with sel := firstSel v, low := decide (firstSel v = 2) })).modReq (fun q => { high := q.high }))).moduleReset cPor) := by
  simp [exec_powerOnRelease_eq, execPowerOnRelease, higher, ho, hd, hr, Nat.not_lt.2 hv]

theorem exec_watchdogExpiry (ho : s.mode ≠ .off) (hl : s.mode ≠ .laidUp) (hg : s.start.lastGasp = false) :
    exec .watchdogExpiry s = .next (s.moduleReset cWatchdog) := by
  simp [exec_watchdogExpiry_eq, execWatchdogExpiry, State.inStates, ho, hl, hg]

/-- R66: last-gasp runs to its end. -/
theorem exec_watchdogExpiry_of_lastGasp (hg : s.start.lastGasp = true) : exec .watchdogExpiry s = .next s := by
  simp [exec_watchdogExpiry_eq, execWatchdogExpiry, hg]

theorem exec_resetreqReset (hq : s.resetReq.qualifying = true) (hh : s.resetReq.high = false) (ha : s.resetReq.armed = true)
    (ho : s.mode ≠ .off) (hl : s.mode ≠ .laidUp) (hs : s.layup.step = 0) (hg : s.start.lastGasp = false) :
    exec .resetreqReset s = .next ((s.modReq (fun q => { q with armed := false, qualifying := false })).moduleReset cResetReq) := by
  simp [exec_resetreqReset_eq, execResetreqReset, hq, hh, ha, ho, hl, hs, hg]

theorem exec_lastGaspComplete (hg : s.start.lastGasp = true) :
    exec .lastGaspComplete s = .next (s.writeShort.moduleReset cLastGasp) := by
  simp [exec_lastGaspComplete_eq, execLastGaspComplete, hg]

theorem exec_refclkReturn (hr : s.supply.refclkLost = true) : exec .refclkReturn s = .next (s.moduleReset cWatchdog) := by
  simp [exec_refclkReturn_eq, execRefclkReturn, hr]

/-- R77: a wake event in LAID-UP. -/
theorem wakeBy_of_laidUp (h : s.mode = .laidUp) (bits : Nat) :
    s.wakeBy bits 0 = ({ s with ret := { s.ret with wake := bits } } : State).moduleReset cWake := by
  simp [State.wakeBy, h]

theorem exec_wakeTimerExpiry_of_zero (h : s.mode = .laidUp) (ht : s.ret.timer = 0) : exec .wakeTimerExpiry s = .next s := by
  simp [exec_wakeTimerExpiry_eq, execWakeTimerExpiry, h, ht]

theorem exec_wakeTimerExpiry_of_ne (ht : s.ret.timer ≠ 0) : exec .wakeTimerExpiry s = .next (s.wakeBy 32 0) := by
  simp [exec_wakeTimerExpiry_eq, execWakeTimerExpiry, ht]
end Resets

/-- Settles O4: each command is a module reset of the state its row names, and `moduleReset_restarts` says what that is. -/
theorem resetsEnterBoot : Obligations.ResetsEnterBoot := by
  unfold Obligations.ResetsEnterBoot
  have hwake {s : State} (h : s.mode = .laidUp) (bits : Nat) : ∃ t, (.next (s.wakeBy bits 0) : Host.Outcome State Fault Refusal) = .next t ∧
      ({ s with ret := { s.ret with wake := bits } } : State).restarts 512 t :=
    ⟨_, congrArg _ (wakeBy_of_laidUp h bits), moduleReset_restarts ..⟩
  refine ⟨fun v s ho hd hr hv => ⟨_, exec_powerOnRelease ho hd hr hv, moduleReset_restarts .., rfl⟩,
    fun s ho hl hg => ⟨_, exec_watchdogExpiry ho hl hg, moduleReset_restarts ..⟩, fun s hg => exec_watchdogExpiry_of_lastGasp hg,
    fun s hq hh ha ho hl hs hg => ⟨_, exec_resetreqReset hq hh ha ho hl hs hg, moduleReset_restarts ..⟩, fun s hg => ?lastGasp,
    fun s hr => ⟨_, exec_refclkReturn hr, moduleReset_restarts ..⟩, fun s h => hwake h 16, fun leg s h => hwake h (2 ^ leg.val),
    fun s h ht => ?timer, fun s h ht => exec_wakeTimerExpiry_of_zero h ht⟩
  case lastGasp =>
    refine ⟨_, exec_lastGaspComplete hg, moduleReset_restarts .., ?_⟩
    rw [State.moduleReset_kept]
    exact State.writeShort_goes s
  case timer =>
    rw [exec_wakeTimerExpiry_of_ne ht]
    exact hwake h 32

/-! R63, R380, R387: what the writing of the Field Book changes. -/
section Books
variable {s t u : State}

/-- Only the Field Book and the bytes of the store differ. -/
def State.books (s t : State) : Prop := ∃ (fb : FieldBook) (store : List Host.Cell), t = { s with fb := fb, store := store }

theorem State.books.refl : s.books s := ⟨_, _, rfl⟩

theorem State.books.trans (h : s.books t) (k : t.books u) : s.books u := by
  obtain ⟨_, _, rfl⟩ := h
  obtain ⟨_, _, rfl⟩ := k
  exact ⟨_, _, rfl⟩

theorem books_ite {c : Prop} [Decidable c] (h : s.books t) (k : s.books u) : s.books (if c then t else u) := by
  split
  · exact h
  · exact k

theorem books_modFb (f : FieldBook → FieldBook) (s : State) : s.books (s.modFb f) := ⟨_, _, rfl⟩

theorem books_form (type code source index : Nat) (a b : Int) (s : State) : s.books (s.form type code source index a b) := ⟨_, _, rfl⟩

theorem books_closePage (n : Nat) (s : State) : s.books (s.closePage n) := by
  induction n generalizing s with
  | zero => exact .refl
  | succ n ih => exact books_ite ((books_modFb ..).trans ((books_modFb ..).trans (ih _))) (books_modFb ..)

theorem books_bookPut (bytes : List Byte) (s : State) : s.books (s.bookPut bytes) := by
  unfold State.bookPut
  split
  · exact books_ite (books_modFb ..) (.trans ⟨_, _, rfl⟩ (books_closePage ..))
  · have hpage : s.books (if s.recordFits bytes then s else s.closePage s.ringPages) := books_ite .refl (books_closePage ..)
    exact hpage.trans (books_ite (books_modFb ..) ⟨_, _, rfl⟩)

theorem books_bookFinish (s : State) : s.books s.bookFinish := by
  unfold State.bookFinish
  split
  · exact .refl
  · exact books_ite (books_modFb ..) ((books_bookPut ..).trans (books_modFb ..))

theorem books_bookFlush (s : State) : s.books s.bookFlush := books_ite .refl ⟨_, _, rfl⟩

theorem books_bookClose (s : State) : s.books s.bookClose := by
  have hqueue (l : List FbRecord) (t : State) : t.books (l.foldl (fun t r => t.bookPut r.bytes) t) :=
    List.foldlRecOn l _ .refl fun u hu r _ => hu.trans (books_bookPut r.bytes u)
  refine .trans (books_modFb FieldBook.takeFormed s) (books_ite (books_modFb ..) ?_)
  exact ((((books_bookFinish _).trans (books_modFb ..)).trans (hqueue ..)).trans (books_bookFlush _)).trans (books_modFb ..)
end Books

/-! R190: what a probe that yields changes. -/
section Yields
variable {s t u : State}

/-- Only probes, the legs' estimation, converters, engines and flits of the core die differ. -/
def State.yields (s t : State) : Prop :=
  ∃ (probe : Vector ProbePair 2) (eleg : Vector EstLeg 4) (conv : Vector LegConv 4) (cle : Vector Cle 4) (ahead : List Flit) (c2f : LinkDir),
    t = { s with probe := probe, eleg := eleg, conv := conv, cle := cle, base := { s.base with ahead := ahead, c2f := c2f } }

theorem State.yields.refl : s.yields s := ⟨_, _, _, _, _, _, rfl⟩

theorem State.yields.trans (h : s.yields t) (k : t.yields u) : s.yields u := by
  obtain ⟨_, _, _, _, _, _, rfl⟩ := h
  obtain ⟨_, _, _, _, _, _, rfl⟩ := k
  exact ⟨_, _, _, _, _, _, rfl⟩

theorem yields_ite {c : Prop} [Decidable c] (h : s.yields t) (k : s.yields u) : s.yields (if c then t else u) := by
  split
  · exact h
  · exact k

theorem yields_modProbe (p : Fin 2) (f : ProbePair → ProbePair) (s : State) : s.yields (s.modProbe p f) := ⟨_, _, _, _, _, _, rfl⟩
theorem yields_modEleg (leg : Leg) (f : EstLeg → EstLeg) (s : State) : s.yields (s.modEleg leg f) := ⟨_, _, _, _, _, _, rfl⟩
theorem yields_probeResult (p : Fin 2) (code : Nat) (s : State) : s.yields (s.probeResult p code) := ⟨_, _, _, _, _, _, rfl⟩
theorem yields_stripOffset (leg : Leg) (s : State) : s.yields (s.stripOffset leg) := ⟨_, _, _, _, _, _, rfl⟩
theorem yields_removeOffsets (p : Fin 2) (s : State) : s.yields (s.removeOffsets p) :=
  ((yields_stripOffset ..).trans (yields_stripOffset ..)).trans (yields_modProbe ..)

theorem yields_yieldPair (p : Fin 2) (y : YieldBy) (s : State) : s.yields (s.yieldPair p y) := by
  have hended (u : State) (hu : s.yields u) (f : ProbePair → ProbePair) : s.yields ((u.removeOffsets p).modProbe p f) :=
    hu.trans ((yields_removeOffsets ..).trans (yields_modProbe ..))
  have hresult (code : Nat) (q : ProbePair) : s.yields (if q.spoilt.isSome then s else s.probeResult p code) :=
    yields_ite .refl (yields_probeResult ..)
  unfold State.yieldPair
  dsimp only
  split
  next => exact .refl
  next => exact yields_ite .refl (hended _ .refl _)
  next => exact hended _ (yields_probeResult ..) _
  next =>
    split
    · exact yields_ite .refl ((yields_probeResult ..).trans (yields_modProbe ..))
    · exact hended _ (hresult ..) _
    · exact hended _ (hresult ..) _
    · exact yields_modProbe ..

theorem yields_yieldLeg (leg : Leg) (y : YieldBy) (s : State) : s.yields (s.yieldLeg leg y) :=
  (yields_modEleg ..).trans (yields_yieldPair ..)

theorem yields_yieldAll (y : YieldBy) (s : State) : s.yields (s.yieldAll y) :=
  List.foldlRecOn allLegs _ .refl fun u hu l _ => hu.trans (yields_yieldLeg l y u)
end Yields

/-! R58, R60: the selection of the supply input. -/
section Select
variable {s t u : State} {v : SupplyMv}

/-- R60: what a transfer leaves of the supply: the input, SUPPLY_LOW, the voltages. -/
def Supply.input (p : Supply) : Nat × Bool × Nat × Nat := (p.sel, p.low, p.vmain, p.vback)

/-- Only supply, retained memory, records, events, the learned values' triggers and the laid-up sequence differ, and of the supply only the
count of its transfers. -/
def State.transfers (s t : State) : Prop :=
  ∃ (supply : Supply) (ret : Retained) (fb : FieldBook) (events : List FbRecord) (learn : Learn) (layup : Layup),
    t = { s with supply := supply, ret := ret, fb := fb, events := events, learn := learn, layup := layup } ∧ supply.input = s.supply.input

theorem State.transfers.refl : s.transfers s := ⟨_, _, _, _, _, _, rfl, rfl⟩

theorem State.transfers.trans (h : s.transfers t) (k : t.transfers u) : s.transfers u := by
  obtain ⟨_, _, _, _, _, _, rfl, hi⟩ := h
  obtain ⟨_, _, _, _, _, _, rfl, ki⟩ := k
  exact ⟨_, _, _, _, _, _, rfl, ki.trans hi⟩

theorem transfers_ite {c : Prop} [Decidable c] (h : s.transfers t) (k : s.transfers u) : s.transfers (if c then t else u) := by
  split
  · exact h
  · exact k

theorem transfers_form (type code source index : Nat) (a b : Int) (s : State) : s.transfers (s.form type code source index a b) :=
  ⟨_, _, _, _, _, _, rfl, rfl⟩
theorem transfers_event (type code source index : Nat) (a b : Int) (s : State) : s.transfers (s.event type code source index a b) :=
  ⟨_, _, _, _, _, _, rfl, rfl⟩
theorem transfers_learnTrigger (code : Nat) (s : State) : s.transfers (s.learnTrigger code) :=
  transfers_ite .refl ⟨_, _, _, _, _, _, rfl, rfl⟩
theorem transfers_abandonLayup (code index : Nat) (s : State) : s.transfers (s.abandonLayup code index) :=
  transfers_ite .refl ⟨_, _, _, _, _, _, rfl, rfl⟩

/-- R79: outside LAID-UP a wake event at most abandons the laid-up sequence. -/
theorem transfers_wakeBy (h : s.mode ≠ .laidUp) (bits cause : Nat) : s.transfers (s.wakeBy bits cause) := by
  rw [State.wakeBy, if_neg h]
  exact transfers_ite (transfers_abandonLayup ..) .refl

theorem transfers_noteTransfer (ho : s.mode ≠ .off) (hl : s.mode ≠ .laidUp) : s.transfers s.noteTransfer := by
  rw [State.noteTransfer, if_neg (by simp [ho, hl])]
  have hcount : s.transfers (s.modSupply (fun p => { p with switched := true, switchCount := incSat p.switchCount })) := ⟨_, _, _, _, _, _, rfl, rfl⟩
  have hrecord := hcount.trans (transfers_form 0x0401 s.supply.sel 0 noIndex s.supply.vmain s.supply.vback _)
  have hnote {u : State} : s.transfers u → s.transfers (if !u.onVback then u else
      let w := u.event 0x0401 u.supply.sel 0 noIndex s.supply.vmain s.supply.vback
      if w.inStates [.surveyed, .armed, .running, .stopping, .faultHold] then w.learnTrigger 5 else w) := fun h =>
    transfers_ite h (h.trans ((transfers_event ..).trans (transfers_ite (transfers_learnTrigger ..) .refl)))
  have hall := hnote hrecord
  refine transfers_ite (hall.trans (transfers_wakeBy ?_ ..)) hall
  obtain ⟨_, _, _, _, _, _, h, -⟩ := hall
  rw [h]
  exact hl

/-- R58: the input in use, with SUPPLY_LOW and the voltages. -/
def Supply.selected (sel : Nat) (v : SupplyMv) (p : Supply) : Supply :=
  { p with vmain := v.vmain, vback := v.vback, sel := sel, low := decide (sel = 2) }

theorem select_eq (sel : Nat) (v : SupplyMv) (s : State) : ∃ b : Bool, s.select sel v =
    if b then { s with supply := s.supply.selected sel v } else ({ s with supply := s.supply.selected sel v } : State).noteTransfer :=
  ⟨decide (s.onVback = ({ s with supply := s.supply.selected sel v } : State).onVback), by simp only [decide_eq_true_eq]; rfl⟩

/-- R58: a selection outside OFF and LAID-UP. -/
theorem transfers_select (ho : s.mode ≠ .off) (hl : s.mode ≠ .laidUp) (sel : Nat) (v : SupplyMv) :
    ({ s with supply := s.supply.selected sel v } : State).transfers (s.select sel v) := by
  obtain ⟨b, h⟩ := select_eq sel v s
  rw [h]
  exact transfers_ite .refl (transfers_noteTransfer ho hl)

/-- R58, R60: what a selection leaves alone. -/
theorem select_spec (ho : s.mode ≠ .off) (hl : s.mode ≠ .laidUp) (sel : Nat) (v : SupplyMv) :
    ∃ t, s.select sel v = t ∧ t.supply.sel = sel ∧ (t.supply.low ↔ t.supply.sel = 2) ∧ s.supplied v t := by
  obtain ⟨_, _, _, _, _, _, h, hin⟩ := transfers_select ho hl sel v
  simp only [Supply.input, Supply.selected, Prod.mk.injEq] at hin
  obtain ⟨hsel, hlow, hmain, hback⟩ := hin
  exact ⟨_, h, hsel, by rw [hlow, hsel]; exact decide_eq_true_iff, hmain, hback, rfl, rfl, rfl, rfl, rfl⟩

/-- R60, R77: in a reset that is held a transfer is kept in retained memory. -/
theorem select_of_off (ho : s.mode = .off) (sel : Nat) (v : SupplyMv) :
    ∃ t, s.select sel v = t ∧ t.supply = s.supply.selected sel v ∧ t = { s with supply := t.supply, ret := t.ret } := by
  obtain ⟨b, h⟩ := select_eq sel v s
  rw [h]
  cases b
  · simp [State.noteTransfer, ho]
  · exact ⟨_, rfl, rfl, rfl⟩

theorem alwaysOn_of_mode (ho : s.mode ≠ .off) : s.alwaysOn = true := by simp [State.alwaysOn, ho]

theorem exec_supplySwitchToVback_eq (v : SupplyMv) (s : State) : exec (.supplySwitchToVback v) s = execSupplySwitchToVback v s := rfl
theorem exec_vmainReturn_eq (v : SupplyMv) (s : State) : exec (.vmainReturn v) s = execVmainReturn v s := rfl
theorem exec_vbackFailReturn_eq (v : SupplyMv) (s : State) : exec (.vbackFailReturn v) s = execVbackFailReturn v s := rfl
theorem exec_supplyLowExit_eq (v : SupplyMv) (s : State) : exec (.supplyLowExit v) s = execSupplyLowExit v s := rfl

theorem exec_supplySwitchToVback (ha : s.alwaysOn = true) (hs : s.supply.sel = 0) (hv : v.vmain < 4350) :
    exec (.supplySwitchToVback v) s = .next (s.select (if 4500 ≤ v.vback ∧ s.par P.backupFitted = 1 then 1 else 2) v) := by
  simp [exec_supplySwitchToVback_eq, execSupplySwitchToVback, ha, hs, Nat.not_le.2 hv]

theorem exec_vmainReturn (ha : s.alwaysOn = true) (hs : s.supply.sel = 1) (hv : 4600 ≤ v.vmain) :
    exec (.vmainReturn v) s = .next (s.select 0 v) := by
  simp [exec_vmainReturn_eq, execVmainReturn, ha, hs, Nat.not_lt.2 hv]

theorem exec_vbackFailReturn (ha : s.alwaysOn = true) (hs : s.supply.sel = 1) (hv : v.vback < 4350) :
    exec (.vbackFailReturn v) s = .next (s.select (if 4500 ≤ v.vmain then 0 else 2) v) := by
  simp [exec_vbackFailReturn_eq, execVbackFailReturn, ha, hs, Nat.not_le.2 hv]

theorem exec_supplyLowExit (ha : s.alwaysOn = true) (hs : s.supply.sel = 2) : exec (.supplyLowExit v) s =
    .next (s.select (if 4350 ≤ v.vmain then 0 else if 4500 ≤ v.vback ∧ s.par P.backupFitted = 1 then 1 else 2) v) := by
  rw [exec_supplyLowExit_eq, execSupplyLowExit, if_neg (by simp [ha, hs])]
  split
  · rfl
  · split <;> rfl
end Select

/-- Settles O6: each row selects an input, by `select_spec`, in a held reset by `select_of_off`. -/
theorem supplySelection : Obligations.SupplySelection := by
  unfold Obligations.SupplySelection
  refine ⟨fun v s ho hl hs hv => ?toVback, fun v s ho hl hs hv => ?vmainReturns, fun v s ho hl hs hv => ?vbackFails, fun v s ho hl hs => ?lowExit,
    fun v s ho hheld hs hv => ?held⟩
  case toVback =>
    rw [exec_supplySwitchToVback (alwaysOn_of_mode ho) hs hv]
    obtain ⟨t, ht, hsel, hlow, hsupplied⟩ := select_spec ho hl (if 4500 ≤ v.vback ∧ s.par P.backupFitted = 1 then 1 else 2) v
    exact ⟨t, congrArg _ ht, hsel, hlow, hsupplied⟩
  case vmainReturns =>
    rw [exec_vmainReturn (alwaysOn_of_mode ho) hs hv]
    obtain ⟨t, ht, hsel, hlow, hsupplied⟩ := select_spec ho hl 0 v
    exact ⟨t, congrArg _ ht, hsel, by simpa [hsel] using hlow, hsupplied⟩
  case vbackFails =>
    rw [exec_vbackFailReturn (alwaysOn_of_mode ho) hs hv]
    obtain ⟨t, ht, hsel, hlow, hsupplied⟩ := select_spec ho hl (if 4500 ≤ v.vmain then 0 else 2) v
    exact ⟨t, congrArg _ ht, hsel, hlow, hsupplied⟩
  case lowExit =>
    rw [exec_supplyLowExit (alwaysOn_of_mode ho) hs]
    obtain ⟨t, ht, hsel, hlow, hsupplied⟩ :=
      select_spec ho hl (if 4350 ≤ v.vmain then 0 else if 4500 ≤ v.vback ∧ s.par P.backupFitted = 1 then 1 else 2) v
    exact ⟨t, congrArg _ ht, hlow, hsupplied, hsel⟩
  case held =>
    have ha : s.alwaysOn = true := by rcases hheld with h | h <;> simp [State.alwaysOn, h]
    obtain ⟨t, ht, hsupply, heq⟩ := select_of_off ho 0 v
    refine ⟨t, ?_, by rw [hsupply]; rfl, by rw [hsupply]; rfl, by rw [heq]; exact ho, heq⟩
    rw [exec_supplyLowExit ha hs, if_pos hv, ht]
/-! R62, R65, R66, R76, R481: power failures. -/
section PowerFailures
variable {s t u : State} {v : SupplyMv}

theorem fuses_of_kept (h : t.kept = s.kept) : t.fuses = s.fuses := congrArg (fun k => k.2.1) h

theorem exec_brownOut_eq (v : SupplyMv) (s : State) : exec (.brownOut v) s = execBrownOut v s := rfl
theorem exec_refclkLoss_eq (s : State) : exec .refclkLoss s = execRefclkLoss s := rfl
theorem exec_lastGaspStart_eq (v : SupplyMv) (s : State) : exec (.lastGaspStart v) s = execLastGaspStart v s := rfl
theorem exec_layupPersistDone_eq (s : State) : exec .layupPersistDone s = execLayupPersistDone s := rfl

theorem exec_brownOut (hv : max v.vmain v.vback < 3900) (ha : s.alwaysOn = true) :
    ∃ t, exec (.brownOut v) s = .next t ∧ t.mode = .off ∧ s.carries t ∧ t.ret.dieHold = false ∧ t.supply.refclkLost = false ∧
      t.ret.brownOut = true ∧ t.supply.vmain = v.vmain ∧ t.supply.vback = v.vback ∧
      t.ret.lastGaspCut = (s.ret.lastGaspCut || s.start.lastGasp) := by
  rw [exec_brownOut_eq, execBrownOut, if_neg (by simpa [higher, ha] using hv)]
  exact ⟨_, rfl, rfl, ⟨rfl, rfl, rfl, rfl, rfl, rfl⟩, rfl, rfl, rfl, rfl, rfl, rfl⟩

theorem exec_refclkLoss (ho : s.mode ≠ .off) (hl : s.mode ≠ .laidUp) :
    ∃ t, exec .refclkLoss s = .next t ∧ t.mode = .off ∧ t.supply.refclkLost = true ∧ s.carries t := by
  rw [exec_refclkLoss_eq, execRefclkLoss, if_neg (by simp [State.inStates, ho, hl])]
  exact ⟨_, rfl, rfl, rfl, rfl, rfl, rfl, rfl, rfl, rfl⟩

/-! R62: what last-gasp drops. -/
theorem dropPlant_low (s : State) : ∀ k : Fin 4, s.dropPlant.sf.legPwm[k.val] = false ∧ s.dropPlant.axis[k.val].off = true ∧
    s.dropPlant.therm.fanDuty[k.val] = 0 := by
  intro k
  obtain ⟨hlegs, -⟩ := dropPermit_low (s.yieldAll .stop)
  simp [State.dropPlant, hlegs]

theorem dropPlant_outputs (s : State) : ∀ c : Fin 8, s.dropPlant.sf.output[c.val].driven = false :=
  (dropPermit_low (s.yieldAll .stop)).2.1

theorem dropPlant_supply (s : State) : s.dropPlant.supply = s.supply := by
  obtain ⟨_, _, _, _, _, _, hyield⟩ := yields_yieldAll .stop s
  obtain ⟨_, _, _, hstop⟩ := switches_foldl (fun t l => switches_stopLeg l t) allLegs (s.yieldAll .stop)
  simp only [State.dropPlant, State.dropPermit, State.modSf_supply, hstop]
  rw [hyield]

theorem drainChannels_eq (l : List (Fin 16)) (s : State) : ∃ su, l.foldl State.drainCh s = { s with su := su } :=
  List.foldlRecOn (motive := fun t => ∃ su, t = { s with su := su }) l _ ⟨_, rfl⟩ fun t ht c _ => by
    obtain ⟨_, rfl⟩ := ht
    exact ⟨_, rfl⟩

/-- R62, R63, R387: after the supply-lost record no record waits; beside book and store only the count of the lost records changes. -/
theorem supplyLost_eq (s : State) : ∃ fb store ret, s.supplyLost = { s with fb := fb, store := store, ret := ret } ∧ fb.queue = [] ∧ fb.forming = [] := by
  have hbook (u : State) (b : List Byte) : u.books (u.bookPut b).bookFlush := (books_bookPut ..).trans (books_bookFlush _)
  obtain ⟨_, _, h⟩ : s.books (if s.fb.isOpen ∧ !s.fb.closed ∧ !s.fb.writeHalted then
      (s.bookFinish.bookPut (s.bookFinish.mkRecord 0x0402 0 1 noIndex s.bookFinish.supply.vmain s.bookFinish.supply.vback
        s.bookFinish.time.meridian [] false).bytes).bookFlush else s) :=
    books_ite ((books_bookFinish s).trans (hbook ..)) .refl
  rw [State.supplyLost]
  dsimp only
  rw [h]
  exact ⟨_, _, _, rfl, rfl, rfl⟩

/-- R62, R64, R66: last-gasp. -/
theorem exec_lastGaspStart (ho : s.mode ≠ .off) (hl : s.mode ≠ .laidUp) (hg : s.start.lastGasp = false) (hm : v.vmain < 4200) (hb : v.vback < 4200) :
    ∃ t, exec (.lastGaspStart v) s = .next t ∧ t.mode = .stopping ∧ t.start.lastGasp = true ∧ t.start.lastGaspFrom = s.mode ∧
      t.fb.queue = [] ∧ t.fb.forming = [] ∧ (∀ k : Fin 4, t.sf.legPwm[k.val] = false ∧ t.axis[k.val].off = true ∧ t.therm.fanDuty[k.val] = 0) ∧
      (∀ c : Fin 8, t.sf.output[c.val].driven = false) ∧ t.supply.sel = 2 ∧ t.fuses = s.fuses := by
  rw [exec_lastGaspStart_eq, execLastGaspStart, if_neg (by simp [State.inStates, ho, hl, hg, hm, hb])]
  dsimp only
  obtain ⟨u, hselect, hsel, -, -, -, hkept, -⟩ := select_spec ho hl 2 v
  have hfuses := fuses_of_kept ((State.dropPlant_kept u).trans hkept)
  have hlow := dropPlant_low u
  have houtputs := dropPlant_outputs u
  have hsupply : u.dropPlant.supply.sel = 2 := by rw [dropPlant_supply, hsel]
  rw [hselect]
  generalize u.dropPlant = w at hfuses hlow houtputs hsupply ⊢
  obtain ⟨_, hdrain⟩ := drainChannels_eq allChannels w
  rw [hdrain]
  obtain ⟨_, _, _, h, hqueue, hforming⟩ := supplyLost_eq _
  rw [h]
  exact ⟨_, rfl, rfl, rfl, rfl, hqueue, hforming, hlow, houtputs, hsupply, hfuses⟩

theorem exec_lastGaspStart_of_held (h : 4200 ≤ v.vmain ∨ 4200 ≤ v.vback ∨ s.mode = .off ∨ s.mode = .laidUp ∨ s.start.lastGasp = true) :
    exec (.lastGaspStart v) s = .next s := by
  rw [exec_lastGaspStart_eq, execLastGaspStart, if_pos]
  rcases h with h | h | h | h | h <;> simp [State.inStates, h]

/-! R76: the entry to LAID-UP. -/
theorem sendFrame_eq (x : RingTx) (cmd : Nat) (payload : List Byte) (s : State) : ∃ ring, s.sendFrame x cmd payload = { s with ring := ring } := by
  unfold State.sendFrame
  dsimp only
  split
  · exact ⟨_, rfl⟩
  · exact ⟨_, rfl⟩

theorem rings_foldl {α : Type} {f : State → α → State} (h : ∀ (t : State) a, ∃ ring, f t a = { t with ring := ring }) (l : List α) (s : State) :
    ∃ ring, l.foldl f s = { s with ring := ring } :=
  List.foldlRecOn (motive := fun t => ∃ ring, t = { s with ring := ring }) l f ⟨_, rfl⟩ fun t ht a _ => by
    obtain ⟨_, rfl⟩ := ht
    exact h _ a

theorem sendSleep_eq (leg : Leg) (s : State) : ∃ ring, s.sendSleep leg = { s with ring := ring } :=
  rings_foldl (fun t _ => sendFrame_eq _ _ _ t) _ (s.modRing leg (fun r => { r with flight := Vector.replicate 2 none }))

theorem enterLaidUp_spec (s : State) : s.enterLaidUp.mode = .laidUp ∧ s.enterLaidUp.ret.timer = s.layup.timer ∧
    s.enterLaidUp.plat.recs = s.plat.recs ∧ s.enterLaidUp.fresh := by
  obtain ⟨_, _, hclose⟩ := (books_form 0x0404 1 112 noIndex s.start.wakeCause 0 s).trans (books_bookClose _)
  have hsleep := rings_foldl (f := fun t l => if t.measurable l then t.sendSleep l else t) (fun t l => by
    split
    · exact sendSleep_eq l t
    · exact ⟨_, rfl⟩) allLegs
  unfold State.enterLaidUp
  dsimp only
  rw [hclose]
  obtain ⟨_, h⟩ := hsleep { s with fb := _, store := _ }
  rw [h]
  exact ⟨rfl, rfl, rfl, rfl⟩

theorem exec_layupPersistDone (hm : s.mode = .surveyed) (hs : s.layup.step = 2) : exec .layupPersistDone s = .next s.enterLaidUp := by
  simp [exec_layupPersistDone_eq, execLayupPersistDone, hm, hs]
end PowerFailures

/-- A command's answer goes as its law in Laws/Goes says. -/
theorem goes_of_next {o : Host.Outcome State Fault Refusal} {s t : State} (hk : OutGoes o s) (h : o = .next t) : Goes s.kept t.kept := by
  subst h
  exact hk

/-- Settles O5: each command by its rule above; what it keeps is its lemma of Laws/Goes. -/
theorem powerFailures : Obligations.PowerFailures := by
  unfold Obligations.PowerFailures
  refine ⟨fun v s hv h => exec_brownOut hv ?awake, fun s ho hl => exec_refclkLoss ho hl, fun v s ho hl hg hm hb => ?lastGasp,
    fun v s h => exec_lastGaspStart_of_held h, fun s hm hs => ?laidUp⟩
  case awake => rcases h with h | h | h <;> simp [State.alwaysOn, h]
  case lastGasp =>
    obtain ⟨t, hexec, hmode, hgasp, hfrom, hqueue, hforming, hlow, houtputs, hsel, hfuses⟩ := exec_lastGaspStart ho hl hg hm hb
    have hgoes := goes_of_next (execLastGaspStart_goes v s) hexec
    exact ⟨t, hexec, hmode, hgasp, hfrom, hqueue, hforming, hlow, houtputs, hsel, hfuses, hgoes⟩
  case laidUp =>
    obtain ⟨hmode, htimer, hrecs, hfresh⟩ := enterLaidUp_spec s
    exact ⟨_, exec_layupPersistDone hm hs, hmode, htimer, hrecs, hfresh, State.enterLaidUp_goes s⟩

/-! R61, R69, R70: the exported rails and the monitor of RESETREQ_N. -/
section Monitors
variable {s : State}

theorem exec_railOverload_eq (r : Rail) (s : State) : exec (.railOverload r) s = execRailOverload r s := rfl
theorem exec_railOverloadEnd_eq (r : Rail) (s : State) : exec (.railOverloadEnd r) s = execRailOverloadEnd r s := rfl
theorem exec_resetreqArm_eq (s : State) : exec .resetreqArm s = execResetreqArm s := rfl
theorem exec_resetreqStuck_eq (s : State) : exec .resetreqStuck s = execResetreqStuck s := rfl
theorem exec_resetreqStuckRearm_eq (s : State) : exec .resetreqStuckRearm s = execResetreqStuckRearm s := rfl

theorem exec_railOverload (r : Rail) (s : State) : exec (.railOverload r) s = .next { s with supply := { s.supply with
    ovl33 := s.supply.ovl33 || (r == .vio33 && s.supply.rail33), ovl18 := s.supply.ovl18 || (r == .vio18 && s.supply.rail18) } } := by
  cases r <;> simp [exec_railOverload_eq, execRailOverload, State.modSupply]

theorem exec_railOverloadEnd (r : Rail) (s : State) : exec (.railOverloadEnd r) s = .next { s with supply := { s.supply with
    ovl33 := s.supply.ovl33 && r != .vio33, ovl18 := s.supply.ovl18 && r != .vio18 } } := by
  cases r <;> simp [exec_railOverloadEnd_eq, execRailOverloadEnd, State.modSupply]

theorem exec_resetreqArm (ha : s.alwaysOn = true) (hh : s.resetReq.high = true) (he : s.resetReq.episode = false) :
    exec .resetreqArm s = .next { s with resetReq := { s.resetReq with armed := true } } := by
  simp [exec_resetreqArm_eq, execResetreqArm, State.modReq, ha, hh, he]

theorem exec_resetreqArm_of_episode (he : s.resetReq.episode = true) : exec .resetreqArm s = .next s := by
  simp [exec_resetreqArm_eq, execResetreqArm, he]

/-- R70: the record of an episode, or the mark that it is owed. -/
theorem exec_resetreqStuck (ha : s.alwaysOn = true) (hh : s.resetReq.high = false) (he : s.resetReq.episode = false) :
    exec .resetreqStuck s = .next { s with
      resetReq := { s.resetReq with stuck := true, episode := true, armed := false, qualifying := false, recordDue := s.resetReq.recordDue || !s.fb.isOpen }
      fb := if s.fb.isOpen then (s.form 0x0102 1 120 0xFFFF 5000 0).fb else s.fb } := by
  rw [exec_resetreqStuck_eq, execResetreqStuck, if_neg (by simp [ha, hh, he])]
  cases ho : s.fb.isOpen
  · simp [ho, State.modReq]
  · simp [ho, State.modReq]
    rfl

theorem exec_resetreqStuck_of_episode (he : s.resetReq.episode = true) : exec .resetreqStuck s = .next s := by
  simp [exec_resetreqStuck_eq, execResetreqStuck, he]

theorem exec_resetreqStuckRearm (ho : s.mode ≠ .off) (hl : s.mode ≠ .laidUp) (hh : s.resetReq.high = true) (he : s.resetReq.episode = true) :
    exec .resetreqStuckRearm s = .next { s with
      resetReq := { s.resetReq with episode := false, armed := true }, fb := (s.form 0x0102 2 120 0xFFFF 0 0).fb } := by
  rw [exec_resetreqStuckRearm_eq, execResetreqStuckRearm, if_neg (by simp [alwaysOn_of_mode ho, hh, he])]
  simp only [State.modReq_mode, ho, hl, or_self, if_false]
  rfl

theorem exec_resetreqStuckRearm_of_unbooked (ha : s.alwaysOn = true) (hm : s.mode = .off ∨ s.mode = .laidUp) (hh : s.resetReq.high = true)
    (he : s.resetReq.episode = true) :
    exec .resetreqStuckRearm s = .next { s with resetReq := { s.resetReq with episode := false, armed := true } } := by
  rw [exec_resetreqStuckRearm_eq, execResetreqStuckRearm, if_neg (by simp [ha, hh, he])]
  simp only [State.modReq_mode, hm.symm, if_true]
  rfl
end Monitors

/-- Settles O7: each row by its equation above. -/
theorem railsAndResetPin : Obligations.RailsAndResetPin := by
  unfold Obligations.RailsAndResetPin
  exact ⟨exec_railOverload, exec_railOverloadEnd, fun _ => rfl, fun _ => rfl, fun _ => exec_resetreqArm, fun _ => exec_resetreqArm_of_episode,
    fun _ ha hh he => ⟨_, exec_resetreqStuck ha hh he, rfl, rfl, rfl⟩, fun _ => exec_resetreqStuck_of_episode,
    fun _ ho hl hh he => ⟨_, exec_resetreqStuckRearm ho hl hh he, rfl, rfl, rfl⟩, fun _ => exec_resetreqStuckRearm_of_unbooked⟩

end Sys2Proof.Machine
end

section
/-! SUPPORT. The start (R74, R75, R84, R94 to R102, R461, R463, R482) and the choice of the image (R445): the steps from BOOT to SURVEYED,
the legs in FAULT-HOLD, the plat's installation and acceptance. -/
namespace Sys2Proof.Machine

/-! R71, R235: the legs in FAULT-HOLD. -/
section IdleLegs
variable {leg : Leg} {s t : State}

/-- What one step of a fold brings about and every step keeps holds after the fold. -/
theorem foldl_establishes {α : Type} {p : State → Prop} {f : State → α → State} {a : α} {l : List α} (ha : a ∈ l)
    (hdoes : ∀ t, p (f t a)) (hkeeps : ∀ t b, p t → p (f t b)) (s : State) : p (l.foldl f s) := by
  obtain ⟨l₁, l₂, rfl⟩ := List.append_of_mem ha
  rw [List.foldl_append, List.foldl_cons]
  exact List.foldlRecOn l₂ f (hdoes _) fun t ht b _ => hkeeps t b ht

theorem mem_allLegs (leg : Leg) : leg ∈ allLegs := by revert leg; decide

/-- No phase of the leg is on, its engine does not compute, its converter is not live. -/
def State.legIdle (leg : Leg) (s : State) : Prop :=
  (s.pwm[(phaseA leg).val].on = false ∧ s.pwm[(phaseB leg).val].on = false) ∧ s.cle[leg.val].running = false ∧
    s.conv[leg.val].st.live = false ∧ s.conv[leg.val].pwmen = false

theorem legIdle_brakeLeg_same {st : LegSt} (hst : st.live = false) (cause : Nat) (s : State) : (s.brakeLeg leg st cause).legIdle leg := by
  refine ⟨brakeLeg_phases_off leg st cause s, ?_, ?_, ?_⟩ <;> simp [State.brakeLeg, hst]

/-- A phase that is off stays off as another one, or itself, is switched off. -/
theorem phaseOff_modPwm {p q : Phase} (h : s.pwm[p.val].on = false) :
    (s.modPwm q (fun x => { x with on := false, run := 0 })).pwm[p.val].on = false := by
  by_cases hp : p = q
  · subst hp
    simp
  · simp [vmod_other _ _ _ _ hp, h]

theorem legIdle_brakeLeg {other : Leg} {st : LegSt} (hst : st.live = false) (cause : Nat) (h : s.legIdle leg) :
    (s.brakeLeg other st cause).legIdle leg := by
  by_cases hl : leg = other
  · subst hl
    exact legIdle_brakeLeg_same hst cause s
  · obtain ⟨⟨hA, hB⟩, hcle, hlive, hen⟩ := h
    refine ⟨⟨phaseOff_modPwm (phaseOff_modPwm hA), phaseOff_modPwm (phaseOff_modPwm hB)⟩, ?_, ?_, ?_⟩
    all_goals simp [State.brakeLeg, vmod_other _ _ _ _ hl, hcle, hlive, hen]

/-- R71, R73: in FAULT-HOLD every leg is idle. -/
theorem enterFaultHold_legIdle (leg : Leg) (s : State) : s.enterFaultHold.legIdle leg := by
  have hst (c : LegSt) : (if c = .fault then LegSt.fault else .disabled).live = false := by split <;> rfl
  have hidle := foldl_establishes (p := State.legIdle leg)
    (f := fun t l => t.brakeLeg l (if t.conv[l.val].st = .fault then .fault else .disabled) t.conv[l.val].cause) (mem_allLegs leg)
    (fun t => legIdle_brakeLeg_same (hst _) _ t) (fun t l h => legIdle_brakeLeg (hst _) _ h) s.stopAllBalancing
  simp only [State.enterFaultHold]
  generalize List.foldl _ s.stopAllBalancing allLegs = u at hidle ⊢
  exact hidle

theorem phaseA_or_phaseB (p : Phase) : p = phaseA (legOf p) ∨ p = phaseB (legOf p) := by revert p; decide

theorem enterFaultHold_phase_off (p : Phase) (s : State) : s.enterFaultHold.pwm[p.val].on = false := by
  obtain ⟨⟨hA, hB⟩, -⟩ := enterFaultHold_legIdle (legOf p) s
  rcases phaseA_or_phaseB p with h | h
  · rw [h]
    exact hA
  · rw [h]
    exact hB
end IdleLegs

/-! The commands, each as the operation it runs. -/
theorem exec_startupBistComplete_eq (n : Nat) (s : State) : exec (.startupBistComplete n) s = execStartupBistComplete n s := rfl
theorem exec_platHeaderRead_eq (j : JedecTry) (a b : ReadTry) (s : State) : exec (.platHeaderRead j a b) s = execPlatHeaderRead j a b s := rfl
theorem exec_stateLimitExpiry_eq (s : State) : exec .stateLimitExpiry s = execStateLimitExpiry s := rfl
theorem exec_mckPhaseTraining_eq (b : Vector Nat 20) (s : State) : exec (.mckPhaseTraining b) s = execMckPhaseTraining b s := rfl
theorem exec_loadComplete_eq (s : State) : exec .loadComplete s = execLoadComplete s := rfl
theorem exec_surveyedEntry_eq (s : State) : exec .surveyedEntry s = execSurveyedEntry s := rfl
theorem exec_platInstallProgram_eq (b : List Byte) (s : State) : exec (.platInstallProgram b) s = execPlatInstallProgram b s := rfl
theorem exec_platBodyCheck_eq (r : ReadTry) (s : State) : exec (.platBodyCheck r) s = execPlatBodyCheck r s := rfl
theorem exec_bootSlotSelect_eq (a b : PortProbe) (n : Nat) (s : State) : exec (.bootSlotSelect a b n) s = execBootSlotSelect a b n s := rfl

/-! R74, R126: STAKING begins. -/
section BeginStaking
variable {leg : Leg} {s : State}

/-- R126: a leg's ring as a pass begins, with UNSTAKE_ALL and STAKE planned from the unit's own end. -/
def State.passRing (s : State) (leg : Leg) (r : Ring) : Ring :=
  { r with
    passes := r.passes + 1, stakeStep := 1, uids := [], heard := [], stakedFar := [], staked := 0, stakeComplete := false
    unstable := [], distA := [], distB := [], distDue := [], rtt := Vector.replicate 2 none
    due := r.due ++
      [{ fromB := s.ownEnd, cmd := 0x02, stake := 0, payload := [], retry := 0, seq := 0 },
       { fromB := s.ownEnd, cmd := 0x01, stake := 0xFF, payload := s.stakePayload leg s.ownEnd, retry := 0, seq := 0 }] }

/-- R74, R126: as STAKING begins, only a populated, available leg begins its first pass. -/
def State.stakingRing (s : State) (leg : Leg) (r : Ring) : Ring :=
  if s.populated leg && r.available then s.passRing leg { r with passes := 0 } else r

theorem vmod_vmod {α : Type} {n : Nat} (v : Vector α n) (i : Fin n) (f g : α → α) : vmod (vmod v i f) i g = vmod v i (fun x => g (f x)) := by
  simp [vmod]

theorem plan_ring (hr : s.role ≠ .standby) (leg : Leg) (b : Bool) (cmd stake : Nat) (payload : List Byte) :
    (s.plan leg b cmd stake payload).ring = vmod s.ring leg (fun r => { r with due := r.due ++
      [{ fromB := b, cmd := cmd, stake := stake, payload := payload, retry := 0, seq := 0 }] }) := by
  simp [State.plan, State.planAt, hr, State.pushFlit]

/-- Only rings and the flits to the field die differ. -/
def State.ringWork (s t : State) : Prop := ∃ (ring : Vector Ring 4) (c2f : LinkDir), t = { s with ring := ring, base := { s.base with c2f := c2f } }

theorem State.ringWork.refl : s.ringWork s := ⟨_, _, rfl⟩

theorem State.ringWork.trans {t u : State} (h : s.ringWork t) (k : t.ringWork u) : s.ringWork u := by
  obtain ⟨_, _, rfl⟩ := h
  obtain ⟨_, _, rfl⟩ := k
  exact ⟨_, _, rfl⟩

theorem State.ringWork.eq {t : State} (h : s.ringWork t) : t = { s with ring := t.ring, base := { s.base with c2f := t.base.c2f } } := by
  obtain ⟨_, _, rfl⟩ := h
  rfl

theorem State.ringWork.role_eq {t : State} (h : s.ringWork t) : t.role = s.role := by rw [h.eq]

theorem ringWork_modRing (leg : Leg) (f : Ring → Ring) (s : State) : s.ringWork (s.modRing leg f) := ⟨_, _, rfl⟩

theorem ringWork_plan (leg : Leg) (b : Bool) (cmd stake : Nat) (payload : List Byte) (s : State) :
    s.ringWork (s.plan leg b cmd stake payload) := by
  rw [State.plan, State.planAt]
  split
  · exact .refl
  · exact ⟨_, _, rfl⟩

theorem ringWork_startPass (leg : Leg) (s : State) : s.ringWork (s.startPass leg) :=
  ((ringWork_modRing ..).trans (ringWork_plan ..)).trans (ringWork_plan ..)

/-- Two frames planned one after the other wait in that order. -/
theorem plan_plan_ring (hr : s.role ≠ .standby) (leg : Leg) (b : Bool) (cmd stake cmd' stake' : Nat) (p p' : List Byte) :
    ((s.plan leg b cmd stake p).plan leg b cmd' stake' p').ring = vmod s.ring leg (fun r => { r with due := r.due ++
      [{ fromB := b, cmd := cmd, stake := stake, payload := p, retry := 0, seq := 0 },
       { fromB := b, cmd := cmd', stake := stake', payload := p', retry := 0, seq := 0 }] }) := by
  have hplanned := (ringWork_plan leg b cmd stake p s).role_eq
  rw [plan_ring (hplanned ▸ hr), plan_ring hr, vmod_vmod]
  simp

/-- R126: a pass begins. -/
theorem startPass_ring (hr : s.role ≠ .standby) (leg : Leg) : (s.startPass leg).ring = vmod s.ring leg (s.passRing leg) := by
  unfold State.startPass
  refine (plan_plan_ring (by exact hr) ..).trans ?_
  rw [State.modRing_ring, vmod_vmod]
  rfl

/-- R74, R126: what one leg does as STAKING begins. -/
theorem beginLeg_spec (hr : s.role ≠ .standby) (leg : Leg) : ∃ t, (if s.populated leg && s.ring[leg.val].available then
      (s.modRing leg (fun r => { r with passes := 0 })).startPass leg else s) = t ∧ s.ringWork t ∧
    t.ring = vmod s.ring leg (s.stakingRing leg) := by
  split
  next h =>
    refine ⟨_, rfl, (ringWork_modRing ..).trans (ringWork_startPass ..), ?_⟩
    refine (startPass_ring (by exact hr) leg).trans ?_
    rw [State.modRing_ring, vmod_vmod]
    simp only [vmod, State.stakingRing, h, if_true]
    rfl
  next h => exact ⟨_, rfl, .refl, by simp [vmod, State.stakingRing, h]⟩

/-- R74, R126: the legs of a list without repetition as STAKING begins. -/
theorem beginLegs_spec (hr : s.role ≠ .standby) (legs : List Leg) (hl : legs.Nodup) : ∃ t, legs.foldl (fun t l =>
      if t.populated l && t.ring[l.val].available then (t.modRing l (fun r => { r with passes := 0 })).startPass l else t) s = t ∧
    s.ringWork t ∧ ∀ l : Leg, t.ring[l.val] = if l ∈ legs then s.stakingRing l s.ring[l.val] else s.ring[l.val] := by
  induction legs generalizing s with
  | nil => exact ⟨s, rfl, .refl, fun l => by simp⟩
  | cons a legs ih =>
    obtain ⟨hnot, hnodup⟩ := List.nodup_cons.1 hl
    obtain ⟨u, hu, hwork, hring⟩ := beginLeg_spec hr a
    obtain ⟨t, ht, hwork', hrings⟩ := ih (s := u) (hwork.role_eq ▸ hr) hnodup
    refine ⟨t, by rw [List.foldl_cons, hu, ht], hwork.trans hwork', fun l => ?_⟩
    have hsame : u.stakingRing l = s.stakingRing l := by rw [hwork.eq]; rfl
    rw [hrings l, hsame, hring]
    by_cases h : l = a
    · subst h
      simp [hnot]
    · simp [h, vmod_other _ _ _ _ h]

theorem beginStaking_spec (s : State) : ∃ t, s.beginStaking = t ∧ s.ringWork t ∧ (s.role = .standby → t.ring = s.ring) ∧
    (s.role ≠ .standby → ∀ l : Leg, t.ring[l.val] = s.stakingRing l s.ring[l.val]) := by
  unfold State.beginStaking
  split
  next h => exact ⟨s, rfl, .refl, fun _ => rfl, fun hn => absurd h hn⟩
  next h =>
    obtain ⟨t, ht, hwork, hrings⟩ := beginLegs_spec h allLegs (by decide)
    exact ⟨t, ht, hwork, fun hs => absurd hs h, fun _ l => (hrings l).trans (if_pos (mem_allLegs l))⟩

end BeginStaking

/-! The steps of a start. -/
section Steps
variable {s : State}

theorem exec_startupBistComplete {failed : Nat} (hm : s.mode = .boot) (hi : s.start.imageOk = true) (hp : s.start.bistPassed = false)
    (hf : s.start.bistFailed = 0) (h : failed < 32) : exec (.startupBistComplete failed) s = .next { s with
      mode := .plat, start := { s.start with bistPassed := failed == 0, bistFailed := failed, opAtBoot := s.fb.opMs }
      bist := { s.bist with keysValid := true } } := by
  simp [exec_startupBistComplete_eq, execStartupBistComplete, hm, hi, hp, hf, Nat.mod_eq_of_lt h]

/-- R75: only a start-up state has a limit, and BOOT without an image none. -/
theorem exec_stateLimitExpiry (h : s.mode = .plat ∨ s.mode = .load ∨ s.mode = .staking ∨ (s.mode = .boot ∧ s.start.noImage = false)) :
    exec .stateLimitExpiry s = .next ({ s with start := { s.start with limitExpired := some s.mode } } : State).enterFaultHold := by
  rw [exec_stateLimitExpiry_eq, execStateLimitExpiry, if_neg]
  rcases h with h | h | h | ⟨h, hn⟩
  · simp [State.inStates, h]
  · simp [State.inStates, h]
  · simp [State.inStates, h]
  · simp [State.inStates, h, hn]

theorem exec_mckPhaseTraining (hm : s.mode = .load) (busy : Vector Nat 20) : exec (.mckPhaseTraining busy) s = .next { s with start := { s.start with
    mckPhase := Vector.ofFn (fun (i : Fin 20) => if s.start.mckPhase[i.val] = 16 then phaseFor busy[i.val] else s.start.mckPhase[i.val]) } } := by
  simp [exec_mckPhaseTraining_eq, execMckPhaseTraining, hm]

theorem exec_loadComplete (hm : s.mode = .load) (hu : s.linkUp = true) (he : s.base.enginesLoaded = true) (hp : s.phasesTrained = true)
    (hl : ∀ l : Leg, s.populated l = true → s.role ≠ .standby → s.ring[l.val].available = true → s.ring[l.val].loaded = true) :
    exec .loadComplete s = .next ({ s with mode := .staking } : State).beginStaking := by
  have hlegs : allLegs.all (fun l => !s.populated l || s.role == .standby || s.ring[l.val].loaded || !s.ring[l.val].available) = true := by
    refine List.all_eq_true.2 fun l _ => ?_
    by_cases h : s.populated l = true ∧ s.role ≠ .standby ∧ s.ring[l.val].available = true
    · obtain ⟨hpop, hrole, havail⟩ := h
      simp [hl l hpop hrole havail]
    · simp only [not_and_or, Decidable.not_not, Bool.not_eq_true] at h
      rcases h with h | h | h <;> simp [h]
  rw [exec_loadComplete_eq, execLoadComplete, if_pos ⟨hm, hu, he, hp, hlegs⟩]

theorem exec_surveyedEntry (hm : s.mode = .staking) (hl : ∀ l : Leg, s.legResolved l = true ∧ s.legReady l = true)
    (ha : ∃ l : Leg, s.ring[l.val].available = true) (hr : s.start.learnedRead = true) : exec .surveyedEntry s = .next { s with
      mode := .surveyed, sf := { s.sf with tps := Vector.replicate 4 true }
      bist := { s.bist with run := if s.bist.enable then 1 else 3, passStart := s.fb.opMs } } := by
  obtain ⟨l, ha⟩ := ha
  have hresolved : allLegs.all (fun l => s.legResolved l) = true := List.all_eq_true.2 fun l _ => (hl l).1
  have hready : allLegs.all (fun l => s.legReady l) = true := List.all_eq_true.2 fun l _ => (hl l).2
  have hany : allLegs.any (fun l => s.ring[l.val].available) = true := List.any_eq_true.2 ⟨l, mem_allLegs l, ha⟩
  simp only [exec_surveyedEntry_eq, execSurveyedEntry, hm, hresolved, hready, hany, hr]
  rfl

theorem exec_surveyedEntry_of_none (hm : s.mode = .staking) (hl : ∀ l : Leg, s.legResolved l = true)
    (ha : ∀ l : Leg, s.ring[l.val].available = false) : exec .surveyedEntry s = .next s.enterFaultHold := by
  have hresolved : allLegs.all (fun l => s.legResolved l) = true := List.all_eq_true.2 fun l _ => hl l
  have hany : allLegs.any (fun l => s.ring[l.val].available) = false := by simp [List.any_eq_false, ha]
  simp only [exec_surveyedEntry_eq, execSurveyedEntry, hm, hresolved, hany]
  rfl
end Steps

/-! R84, R94, R95, R97: the headers. -/
section Headers
variable {s : State} {j : JedecTry} {a b : ReadTry}

/-- R97: recovery. -/
theorem enterRecovery_spec (s : State) : s.enterRecovery.mode = .faultHold ∧ s.enterRecovery.plat = { s.plat with recovery := true, copy := 2 } ∧
    s.enterRecovery.start = { s.start with reduced := true } := by
  have hbist (u : State) : u.books u.bistStartRecord := books_ite .refl (books_form ..)
  have hplat (u : State) : u.books u.platRecord := books_ite (books_form ..) .refl
  unfold State.enterRecovery
  generalize hu : State.mk .. = u
  obtain ⟨_, _, h⟩ := (hplat u).trans (hbist _)
  rw [h]
  subst hu
  exact ⟨rfl, rfl, rfl⟩

/-- R84: neither copy can be read. -/
theorem exec_platHeaderRead_of_lost (hm : s.mode = .plat) (hi : s.installReady = false) (hc : s.plat.candidates = [])
    (h : badJedec j.first = true ∧ badJedec j.again = true ∨ readLost a = true ∧ readLost b = true) :
    ∃ t, exec (.platHeaderRead j a b) s = .next t ∧ t.mode = .faultHold ∧ t.plat.recovery = true ∧ t.plat.copy = 2 ∧
      t.plat.result = #v[2, 2] ∧ t.start.reduced = true := by
  have hA : ((badJedec j.first && badJedec j.again) || readLost a) = true := by rcases h with ⟨h, k⟩ | ⟨h, k⟩ <;> simp [h, k]
  have hB : ((badJedec j.first && badJedec j.again) || readLost b) = true := by rcases h with ⟨h, k⟩ | ⟨h, k⟩ <;> simp [h, k]
  rw [exec_platHeaderRead_eq, execPlatHeaderRead, if_neg (by simp [hm, hi, hc])]
  simp only [hA, hB]
  obtain ⟨hmode, hplat, hstart⟩ := enterRecovery_spec { s with plat := { s.plat with
    headers := #v[none, none], serials := #v[none, none], candidates := [], result := #v[2, 2], clash := false } }
  exact ⟨_, rfl, hmode, congrArg Plat.recovery hplat, congrArg Plat.copy hplat, congrArg Plat.result hplat, congrArg Start.reduced hstart⟩

/-- R95: copy A alone has a good header. -/
theorem exec_platHeaderRead_of_first (hm : s.mode = .plat) (hi : s.installReady = false) (hc : s.plat.candidates = [])
    (hj : badJedec j.first = false ∨ badJedec j.again = false) (ha : readLost a = false) (hb : readLost b = true)
    (hh : headerResult s.start.imageVersion (Memory.readBytes s.plat.flash 0 96) = 0) :
    exec (.platHeaderRead j a b) s = .next { s with plat := { s.plat with
      headers := #v[some (parseHeader (Memory.readBytes s.plat.flash 0 96)), none]
      serials := #v[some (parseHeader (Memory.readBytes s.plat.flash 0 96)).serial, none]
      candidates := [0], result := #v[1, 2], clash := false } } := by
  have hid : (badJedec j.first && badJedec j.again) = false := by rcases hj with h | h <;> simp [h]
  have hbase : platBase 0 = 0 := Nat.zero_mul _
  rw [exec_platHeaderRead_eq, execPlatHeaderRead, if_neg (by simp [hm, hi, hc])]
  simp [hid, ha, hb, hbase, hh]
end Headers

/-- Settles O8: each step by its rule above; the legs in FAULT-HOLD by `enterFaultHold_legIdle`. -/
theorem startupSteps : Obligations.StartupSteps := by
  unfold Obligations.StartupSteps
  refine ⟨fun failed s => exec_startupBistComplete, fun jedec again a b s hm hi hc h => ?lost, fun jedec again a b s hm hi hc hj ha hb hh => ?first,
    fun s => exec_stateLimitExpiry, fun busy s hm => ⟨_, exec_mckPhaseTraining hm busy, rfl, fun i => by simp⟩,
    fun s hm hu he hp hl => ?loaded, fun s => exec_surveyedEntry, fun s => exec_surveyedEntry_of_none, fun s => ?hold⟩
  case lost =>
    obtain ⟨t, hexec, hmode, hrecovery, hcopy, hresult, hreduced⟩ := exec_platHeaderRead_of_lost (j := ⟨jedec, again⟩) hm hi hc h
    exact ⟨t, hexec, hmode, hrecovery, hcopy, hresult, hreduced, kept_of_next (execPlatHeaderRead_kept ..) hexec⟩
  case first => exact ⟨_, exec_platHeaderRead_of_first (j := ⟨jedec, again⟩) hm hi hc hj ha hb hh, hm, rfl, rfl, rfl, rfl, rfl⟩
  case loaded =>
    have hsame (l : Leg) : State.populated { s with mode := .staking } l = s.populated l := rfl
    obtain ⟨t, ht, hwork, hstandby, hrings⟩ := beginStaking_spec { s with mode := .staking }
    refine ⟨t, (exec_loadComplete hm hu he hp hl).trans (congrArg _ ht), hwork.eq, hstandby, fun l => ⟨?idle, ?begun⟩⟩
    case idle =>
      intro h
      by_cases hr : s.role = .standby
      · rw [hstandby hr]
      · rw [hrings hr l, State.stakingRing, if_neg]
        rcases h with h | h | h
        · exact absurd h hr
        · simp [hsame, h]
        · simp [h]
    case begun =>
      intro hr hpop havail
      rw [hrings hr l, State.stakingRing, if_pos]
      · exact ⟨rfl, rfl, rfl⟩
      · simp [hsame, hpop, havail]
  case hold =>
    obtain ⟨_, hheld, hmode, -⟩ := enterFaultHold_spec s
    refine ⟨by rw [hheld]; exact hmode, fun p => enterFaultHold_phase_off p s, fun l => ?_, State.enterFaultHold_kept s⟩
    obtain ⟨-, hcle, hlive, hen⟩ := enterFaultHold_legIdle l s
    exact ⟨hcle, hlive, hen⟩

/-! R101, R102: the installation of a staged plat. -/
section Install
variable {s : State} {e : InstallEntry} {back : List Byte}

/-- R102: an entry of the install control is bytes of the store. -/
theorem programInstall_eq (ready : Bool) (target fails serial : Nat) (hash : List Byte) (s : State) :
    ∃ store, s.programInstall ready target fails serial hash = { s with store := store } := ⟨_, rfl⟩

/-- R101: the target slot of the plat flash with a staged copy programmed, as read back. -/
def State.installedFlash (s : State) (e : InstallEntry) (back : List Byte) : List Host.Cell :=
  Memory.program (Memory.erase s.plat.flash (platBase (e.target % 2)) ((s.stagedCopy.length + 4095) / 4096 * 4096)) (platBase (e.target % 2)) back

/-- R101, R102: a staged copy that still matches its entry is programmed; it is installed where it reads back. -/
theorem exec_platInstallProgram (hm : s.mode = .plat) (hg : s.governing = some e) (hr : e.ready = true) (hs : s.stagedHeader.serial = e.serial)
    (hh : s.stagedHeader.bodyHash.take 12 = e.hash) : ∃ store fail, exec (.platInstallProgram back) s = .next { s with
      store := store
      plat := { s.plat with flash := s.installedFlash e back, installed := s.plat.installed || back == s.stagedCopy, installFail := fail } } := by
  rw [exec_platInstallProgram_eq, execPlatInstallProgram, hg]
  dsimp only
  rw [if_neg (by simp [hm, hr]), if_neg (by simp [hs, hh])]
  split
  next h =>
    have hback : (back == s.stagedCopy) = true := by simpa using h
    exact ⟨_, _, by rw [hback, Bool.or_true]; rfl⟩
  next h =>
    have hback : (back == s.stagedCopy) = false := by simpa using h
    rw [hback, Bool.or_false]
    split
    · exact ⟨_, _, rfl⟩
    · exact ⟨_, _, rfl⟩

/-- R101: a staged copy with another serial fails. -/
theorem exec_platInstallProgram_of_serial (hm : s.mode = .plat) (hg : s.governing = some e) (hr : e.ready = true)
    (hs : s.stagedHeader.serial ≠ e.serial) : ∃ store, exec (.platInstallProgram back) s = .next { s with
      store := store, plat := { s.plat with installFail := true } } := by
  rw [exec_platInstallProgram_eq, execPlatInstallProgram, hg]
  dsimp only
  rw [if_neg (by simp [hm, hr]), if_pos (.inl hs)]
  exact ⟨_, rfl⟩
end Install

/-! R64, R71, R95, R96: the body of a candidate. -/
section Body
variable {s : State} {c : Nat} {rest : List Nat} {h : PlatHeader} {read : ReadTry}

/-- R71: what the end of PLAT with an accepted copy keeps, and where it leads. -/
def State.leavesPlat (s t : State) : Prop := t.plat = s.plat ∧ (t.mode = .load ∨ t.mode = .faultHold)

theorem canStart_plat_mode (c : Fin 4) (s : State) : (s.canStart c).plat = s.plat ∧ (s.canStart c).mode = s.mode := by
  have hends : (s.canErrEnds c).plat = s.plat ∧ (s.canErrEnds c).mode = s.mode := by
    unfold State.canErrEnds
    split
    · exact ⟨rfl, rfl⟩
    · split
      · exact ⟨rfl, rfl⟩
      · exact ⟨rfl, rfl⟩
  simpa only [State.canStart, State.modCan_plat, State.modCan_mode] using hends

theorem startCans_plat_mode (s : State) : s.startCans.plat = s.plat ∧ s.startCans.mode = s.mode :=
  List.foldlRecOn (motive := fun (t : State) => t.plat = s.plat ∧ t.mode = s.mode) allCans _ ⟨rfl, rfl⟩ fun (t : State) ht c _ => by
    obtain ⟨hplat, hmode⟩ := ht
    split
    · obtain ⟨kplat, kmode⟩ := canStart_plat_mode c (t.modCan c (fun x => { x with enable := true }))
      exact ⟨kplat.trans hplat, kmode.trans hmode⟩
    · exact ⟨hplat, hmode⟩

theorem leavesPlat_enterLoad (s : State) : s.leavesPlat s.enterLoad := by
  obtain ⟨hplat, hmode⟩ := startCans_plat_mode ({ s with mode := .load } : State).loadGrid.loadStarts.lockComparators
  exact ⟨hplat, .inl hmode⟩

theorem leavesPlat_platAccepted (s : State) : s.leavesPlat s.platAccepted := by
  have hplat : (s.platRecord.checkStore.checkHoldup).plat = s.plat := by
    have hrecord : s.platRecord.plat = s.plat := by
      unfold State.platRecord
      dsimp only
      split <;> rfl
    have hholdup (u : State) : u.checkHoldup.plat = u.plat := by
      unfold State.checkHoldup
      dsimp only
      split <;> rfl
    exact (hholdup _).trans hrecord
  unfold State.platAccepted
  dsimp only
  generalize State.checkHoldup _ = u at hplat ⊢
  split
  next =>
    refine ⟨?_, .inr ?_⟩
    · unfold State.bistStartRecord
      split <;> exact hplat
    · unfold State.bistStartRecord
      split <;> rfl
  next =>
    split
    · exact ⟨hplat, .inr rfl⟩
    · obtain ⟨kplat, kmode⟩ := leavesPlat_enterLoad u
      exact ⟨kplat.trans hplat, kmode⟩

/-- The result of the body of a candidate (R96). -/
def State.bodyOf (s : State) (c : Nat) (h : PlatHeader) : BodyResult :=
  bodyResult (fun id => (State.reset.object id).isSome) h (Memory.readBytes s.plat.flash (platBase c + 96) h.bodyLen)

/-- R95: a candidate's body passes. -/
theorem exec_platBodyCheck_passes (hm : s.mode = .plat) (hc : s.plat.candidates = c :: rest) (hh : s.plat.headers.toList.getD c none = some h)
    (hr : readLost read = false) (hb : (s.bodyOf c h).code = 0) : exec (.platBodyCheck read) s =
      .next (({ s with plat := { s.plat with bodyCommand := h.command } } : State).acceptCopy c h (s.bodyOf c h)) := by
  rw [exec_platBodyCheck_eq, execPlatBodyCheck, if_neg (by simp [hm])]
  simp only [hc, hh, Option.getD_some, hr, Bool.false_eq_true, if_false]
  exact if_pos hb

theorem acceptCopy_spec (c : Nat) (h : PlatHeader) (r : BodyResult) (s : State) : ∃ t, s.acceptCopy c h r = t ∧ t.plat.copy = c ∧
    t.plat.header = some h ∧ t.plat.bodyCommand = s.plat.bodyCommand ∧ t.plat.recs = r.recs ∧ (t.mode = .load ∨ t.mode = .faultHold) := by
  refine ⟨_, rfl, ?_⟩
  unfold State.acceptCopy
  dsimp only
  obtain ⟨hplat, hmode⟩ := leavesPlat_platAccepted _
  rw [hplat]
  exact ⟨rfl, rfl, rfl, rfl, hmode⟩

/-- R84, R97: a candidate's body that cannot be read, with no other candidate to try. -/
theorem exec_platBodyCheck_of_lost (hm : s.mode = .plat) (hc : s.plat.candidates = c :: rest) (hh : s.plat.headers.toList.getD c none = some h)
    (hr : readLost read = true) (hn : rest = [] ∨ h.noFallback = true) : ∃ t, exec (.platBodyCheck read) s = .next t ∧ t.mode = .faultHold ∧
      t.plat.recovery = true ∧ t.plat.candidates = [] := by
  have hlast : (h.noFallback || rest.isEmpty) = true := by rcases hn with hn | hn <;> simp [hn]
  have hnone : (if h.noFallback then [] else rest) = ([] : List Nat) := by rcases hn with hn | hn <;> simp [hn]
  rw [exec_platBodyCheck_eq, execPlatBodyCheck, if_neg (by simp [hm])]
  simp only [hc, hh, Option.getD_some, hr, hlast, hnone, if_true]
  refine ⟨_, rfl, ?_⟩
  obtain ⟨hmode, hplat, -⟩ := enterRecovery_spec _
  rw [hmode, hplat]
  exact ⟨rfl, rfl, rfl⟩
end Body

/-! R355, R442 to R445: the choice of the image. -/
section Slots
variable {s t u : State}

theorem programEntry_mode (k state attempt reason gen : Nat) (s : State) : (s.programEntry k state attempt reason gen).mode = s.mode := by
  unfold State.programEntry
  dsimp only
  split <;> rfl

theorem failSlot_mode (k reason : Nat) (s : State) : (s.failSlot k reason).mode = s.mode := programEntry_mode ..

theorem retireBlock_mode (p : Fin 2) (page : Nat) (s : State) : (s.retireBlock p page).1.mode = s.mode := by
  unfold State.retireBlock
  dsimp only
  split <;> rfl

theorem openPort_mode (i : Fin 2) (p : PortProbe) (s : State) : (s.openPort i p).mode = s.mode := by
  have hbad (l : List Nat) (t : State) : (l.foldl (fun t b => (t.retireBlock i (b * 64 + (if i = 1 then t.portPages 0 else 0))).1) t).mode = t.mode :=
    List.foldlRecOn (motive := fun (u : State) => u.mode = t.mode) l _ rfl fun u hu _ _ => (retireBlock_mode ..).trans hu
  unfold State.openPort
  dsimp only
  split
  · rfl
  · split
    · exact hbad ..
    · rfl

theorem endTrials_mode (s : State) : s.endTrials.1.mode = s.mode := by
  unfold State.endTrials
  refine List.foldlRecOn (motive := fun (r : State × Bool) => r.1.mode = s.mode) [0, 1] _ rfl fun r hr k _ => ?_
  split
  · exact (failSlot_mode ..).trans hr
  · exact hr

theorem runSlot_spec (k : Nat) (fellBack : Bool) (s : State) : (s.runSlot k fellBack).mode = s.mode ∧ (s.runSlot k fellBack).start.imageOk = true := by
  refine ⟨?_, rfl⟩
  unfold State.runSlot
  dsimp only
  split
  · exact programEntry_mode ..
  · split <;> rfl

/-- R445: an image runs, or the module stays without one. -/
theorem tryCandidates_spec (ks : List Nat) (fault : Nat) (fellBack : Bool) (s : State) : (State.tryCandidates ks fault fellBack s).mode = s.mode ∧
    ((State.tryCandidates ks fault fellBack s).start.imageOk = true ∨ (State.tryCandidates ks fault fellBack s).start.noImage = true) := by
  induction ks generalizing fellBack s with
  | nil => exact ⟨rfl, .inr rfl⟩
  | cons k ks ih =>
    unfold State.tryCandidates
    split
    next =>
      obtain ⟨hmode, himage⟩ := runSlot_spec k fellBack s
      exact ⟨hmode, .inl himage⟩
    next =>
      have hfail : (if s.slotState k = 1 ∨ s.slotState k = 2 then s.failSlot k 6 else s).mode = s.mode := by
        split
        · exact failSlot_mode ..
        · rfl
      obtain ⟨hmode, himage⟩ := ih true (if s.slotState k = 1 ∨ s.slotState k = 2 then s.failSlot k 6 else s)
      exact ⟨hmode.trans hfail, himage⟩

theorem exec_bootSlotSelect {a b : PortProbe} {fault : Nat} (hm : s.mode = .boot) (hi : s.start.imageOk = false) (hn : s.start.noImage = false) :
    ∃ t, exec (.bootSlotSelect a b fault) s = .next t ∧ t.mode = .boot ∧ (t.start.imageOk = true ∨ t.start.noImage = true) := by
  rw [exec_bootSlotSelect_eq, execBootSlotSelect, if_neg (by simp [hm, hi, hn])]
  have hopen : ((s.openPort 0 a).openPort 1 b).mode = .boot := by rw [openPort_mode, openPort_mode, hm]
  dsimp only
  generalize State.openPort 1 b _ = u at hopen ⊢
  obtain ⟨hmode, himage⟩ := tryCandidates_spec u.endTrials.1.slotCandidates fault u.endTrials.2 u.endTrials.1
  exact ⟨_, rfl, hmode.trans ((endTrials_mode u).trans hopen), himage⟩
end Slots

/-- Settles O9: each row by its rule above; what it keeps by its lemma of Laws. -/
theorem platAndImage : Obligations.PlatAndImage := by
  unfold Obligations.PlatAndImage
  refine ⟨fun back s e hm hg hr hs hh => ?installs, fun back s e hm hg hr hs => ?refuses, fun c rest h read s hm hc hh hr hb => ?accepts,
    fun c rest h read s hm hc hh hr hn => ?lost, fun pa pb fault s hm hi hn => ?image⟩
  case installs =>
    obtain ⟨_, _, hexec⟩ := exec_platInstallProgram (back := back) hm hg hr hs hh
    exact ⟨_, hexec, rfl, rfl, hm, rfl, rfl⟩
  case refuses =>
    obtain ⟨_, hexec⟩ := exec_platInstallProgram_of_serial (back := back) hm hg hr hs
    exact ⟨_, hexec, rfl, hm, rfl⟩
  case accepts =>
    have hexec := exec_platBodyCheck_passes hm hc hh hr hb
    obtain ⟨t, ht, hcopy, hheader, hcommand, hrecs, hmode⟩ := acceptCopy_spec c h (s.bodyOf c h)
      { s with plat := { s.plat with bodyCommand := h.command } }
    rw [ht] at hexec
    exact ⟨t, hexec, hcopy, hheader, hcommand, hrecs, hmode, kept_of_next (execPlatBodyCheck_kept ..) hexec⟩
  case lost =>
    obtain ⟨t, hexec, hmode, hrecovery, hnone⟩ := exec_platBodyCheck_of_lost hm hc hh hr hn
    exact ⟨t, hexec, hmode, hrecovery, hnone, kept_of_next (execPlatBodyCheck_kept ..) hexec⟩
  case image =>
    obtain ⟨t, hexec, hmode, himage⟩ := exec_bootSlotSelect (a := pa) (b := pb) (fault := fault) hm hi hn
    exact ⟨t, hexec, hmode, himage, goes_of_next (execBootSlotSelect_goes ..) hexec⟩

end Sys2Proof.Machine
end

section
/-! SUPPORT. The learned values (R68, R217 to R222): triggers, snapshots, writes, the end of an ordered shutdown, and the reading at start. -/
namespace Sys2Proof.Machine

section Learned
variable {s : State}

theorem exec_learnPeriodExpiry_eq (s : State) : exec .learnPeriodExpiry s = .next (s.learnTrigger 1) := rfl
theorem exec_learnedSnapshot_eq (s : State) : exec .learnedSnapshot s = execLearnedSnapshot s := rfl
theorem exec_learnedWriteComplete_eq (fault : Nat) (s : State) : exec (.learnedWriteComplete fault) s = execLearnedWriteComplete fault s := rfl
theorem exec_shutdownPersistTimeout_eq (s : State) : exec .shutdownPersistTimeout s = .next s.finishShutdown := rfl
theorem exec_learnedValuesRead_eq (s : State) : exec .learnedValuesRead s = execLearnedValuesRead s := rfl

/-! R220, R221: the trigger. -/
/-- R221: of two triggers the lower code. -/
def lowerCode (code : Nat) : Option Nat → Nat
  | some c => min c code
  | none => code

theorem learnTrigger_of_read (h : s.start.learnedRead = true) (code : Nat) :
    s.learnTrigger code = { s with learn := { s.learn with due := some (lowerCode code s.learn.due) } } := by
  rw [State.learnTrigger, if_neg (by simp [h])]
  rfl

theorem learnTrigger_of_unread (h : s.start.learnedRead = false) (code : Nat) : s.learnTrigger code = s := by
  simp [State.learnTrigger, h]

/-! R220, R221: the snapshot. -/
theorem exec_learnedSnapshot_of_none (h : s.learn.due = none) : exec .learnedSnapshot s = .next s := by
  simp only [exec_learnedSnapshot_eq, execLearnedSnapshot, h]

theorem exec_learnedSnapshot_written {code : Nat} (h : s.learn.due = some code) (hw : s.learn.writing = none) :
    exec .learnedSnapshot s = .next { s with learn := { s.learn with
      due := none, writing := some (s.learnSet code ((s.learn.generation + 1) % 2 ^ 32)) } } := by
  simp only [exec_learnedSnapshot_eq, execLearnedSnapshot, h, hw]

theorem exec_learnedSnapshot_waiting {code : Nat} {w v : LearnSet} (h : s.learn.due = some code) (hw : s.learn.writing = some w)
    (hv : s.learn.waiting = some v) : exec .learnedSnapshot s = .next { s with learn := { s.learn with
      due := none, waiting := some (s.learnSet (min v.trigger code) 0) } } := by
  simp only [exec_learnedSnapshot_eq, execLearnedSnapshot, h, hw, hv]

/-! R217, R218, R221: the write. -/
/-- R217: the buffer that does not hold the newest full set. -/
def State.otherBuffer (s : State) : Nat := if s.learn.fullGen.isSome then 1 - s.learn.fullBuffer else 0

/-- R221: the set that waited for the write in progress takes the next GENERATION. -/
def State.nextSet (s : State) (gen : Nat) : Option LearnSet := s.learn.waiting.map (fun x => { x with generation := (gen + 1) % 2 ^ 32 })

/-- R217: the store with the buffer of the write erased. -/
def State.bufferErased (s : State) : List Host.Cell := Memory.erase s.store (fullBase s.otherBuffer) (448 * 4096)

theorem otherBuffer_eq (s : State) : (match s.learn.fullGen with
    | some _ => 1 - s.learn.fullBuffer
    | none => 0) = s.otherBuffer := by
  unfold State.otherBuffer
  cases s.learn.fullGen <;> rfl

theorem exec_learnedWriteComplete_of_none (h : s.learn.writing = none) (fault : Nat) : exec (.learnedWriteComplete fault) s = .next s := by
  simp only [exec_learnedWriteComplete_eq, execLearnedWriteComplete, h]

theorem exec_learnedWriteComplete {w : LearnSet} (h : s.learn.writing = some w) (ht : w.trigger ≠ 6) :
    exec (.learnedWriteComplete 0) s = .next { s with
      store := Memory.writeBytes s.bufferErased (fullBase s.otherBuffer) w.fullBytes
      learn := { s.learn with
        lastTrigger := w.trigger, generation := w.generation, fullGen := some w.generation, fullBuffer := s.otherBuffer
        writing := s.nextSet w.generation, waiting := none } } := by
  simp only [exec_learnedWriteComplete_eq, execLearnedWriteComplete, h, ht, ne_eq, not_true_eq_false, if_false, State.bufferErased, ← otherBuffer_eq]
  rfl

theorem exec_learnedWriteComplete_of_fault {w : LearnSet} {fault : Nat} (h : s.learn.writing = some w) (hf : fault ≠ 0) :
    exec (.learnedWriteComplete fault) s = .next (({ s with
      store := s.bufferErased
      learn := { s.learn with writeFail := true, writing := s.nextSet s.learn.generation, waiting := none } } : State).form 0x2004 1 71 noIndex
        w.generation fault) := by
  simp only [exec_learnedWriteComplete_eq, execLearnedWriteComplete, h, hf, ne_eq, not_false_eq_true, if_true, State.bufferErased, ← otherBuffer_eq]
  rfl

/-! R220: an ordered shutdown. -/
theorem finishShutdown_of_ordered (h : s.learn.shutdown = 2 ∨ s.learn.shutdown = 3) : s.finishShutdown = s.moduleReset cHost := if_pos h

theorem finishShutdown_of_none (h : s.learn.shutdown = 0) : s.finishShutdown = s := if_neg (by simp [h])

/-! R222: the reading at start. -/
theorem exec_learnedValuesRead_of_none (hm : s.mode = .staking) (hr : s.start.learnedRead = false) (h0 : s.fullSet 0 = none) (h1 : s.fullSet 1 = none) :
    ∃ est fb, exec .learnedValuesRead s = .next { s with
      start := { s.start with learnedRead := true }, est := est, store := Memory.erase s.store (shortBase 0) 16384
      learn := { s.learn with initialised := true }, fb := fb } := by
  rw [exec_learnedValuesRead_eq, execLearnedValuesRead, if_neg (by simp [hm, hr])]
  simp only [h0, h1]
  exact ⟨_, _, rfl⟩

theorem exec_learnedValuesRead_of_first {a : List Byte} (hm : s.mode = .staking) (hr : s.start.learnedRead = false) (h0 : s.fullSet 0 = some a)
    (h1 : s.fullSet 1 = none) (hs : s.shortSet (genOf a) = none) : ∃ est, exec .learnedValuesRead s = .next { s with
      start := { s.start with learnedRead := true }, est := est, store := Memory.erase s.store (shortBase 0) 16384
      eleg := Vector.ofFn (fun (i : Fin 4) => { s.eleg[i.val] with
        offset := f64At (64 + 64 * i.val) a, calAt := fieldAt (72 + 64 * i.val) 8 a, offsetKnown := true })
      learn := { s.learn with fullGen := some (genOf a), fullBuffer := 0, shortApplied := false, initialised := false, generation := genOf a } } := by
  have hshort : State.shortSet { s with start := { s.start with learnedRead := true } } (genOf a) = none := hs
  rw [exec_learnedValuesRead_eq, execLearnedValuesRead, if_neg (by simp [hm, hr])]
  simp only [h0, h1, hshort, Option.isSome_none]
  exact ⟨_, rfl⟩
end Learned

/-- Settles O26: each row by its rule above. -/
theorem learnedValues : Obligations.LearnedValues := by
  unfold Obligations.LearnedValues
  refine ⟨fun s h => ?period, fun s h => ?unread, fun s => exec_learnedSnapshot_of_none, fun code s => exec_learnedSnapshot_written,
    fun code w v s => exec_learnedSnapshot_waiting, fun fault s h => exec_learnedWriteComplete_of_none h fault, fun w s h ht => ?written,
    fun fault w s h hf => ?failed, fun s h => ?resets, fun s h => ?noShutdown, fun s hm hr h0 h1 => ?initialised, fun a s hm hr h0 h1 hs => ?read⟩
  case period =>
    rw [exec_learnPeriodExpiry_eq, learnTrigger_of_read h]
    rfl
  case unread => rw [exec_learnPeriodExpiry_eq, learnTrigger_of_unread h]
  case written =>
    refine ⟨_, s.otherBuffer, exec_learnedWriteComplete h ht, rfl, ?store, rfl, rfl, rfl, rfl, rfl, ?frame⟩
    case store => dsimp only [State.bufferErased]
    case frame => dsimp only
  case failed =>
    refine ⟨_, s.otherBuffer, exec_learnedWriteComplete_of_fault h hf, rfl, ?store, rfl, rfl, ?frame⟩
    case store => simp only [State.form_store, State.bufferErased]
    case frame => simp only [State.form, State.formAt]
  case resets =>
    rw [exec_shutdownPersistTimeout_eq, finishShutdown_of_ordered h]
    exact ⟨_, rfl, moduleReset_restarts ..⟩
  case noShutdown => rw [exec_shutdownPersistTimeout_eq, finishShutdown_of_none h]
  case initialised =>
    obtain ⟨_, _, hexec⟩ := exec_learnedValuesRead_of_none hm hr h0 h1
    exact ⟨_, hexec, rfl, rfl, rfl, rfl⟩
  case read =>
    obtain ⟨_, hexec⟩ := exec_learnedValuesRead_of_first hm hr h0 h1 hs
    exact ⟨_, hexec, rfl, rfl, rfl, rfl, rfl, fun l => by simp, rfl⟩

end Sys2Proof.Machine
end

section
/-! SUPPORT. The axes (R73, R338 to R348): the PWM period of axes that do not run or hold, the inputs, standstill, and the motor voltage. -/
namespace Sys2Proof.Machine

theorem exec_axisPwmPeriod_eq (v : Vector Nat 4) (s : State) : exec (.axisPwmPeriod v) s =
    .next (allAxes.foldl (fun t i => t.axisPeriod i v[i.val]) s) := rfl
theorem exec_axisHomeEdge_eq (ax : Fin 4) (level : Bool) (stamp : Nat) (s : State) :
    exec (.axisHomeEdge ax level stamp) s = execAxisHomeEdge ax level stamp s := rfl
theorem exec_axisChatterClear_eq (ax : Fin 4) (s : State) : exec (.axisChatterClear ax) s =
    .next (s.modAxis ax (fun a => { a with chatterWarn := false, chatterAt := [] })) := rfl
theorem exec_axisLimit_eq (ax : Fin 4) (positive level : Bool) (s : State) :
    exec (.axisLimit ax positive level) s = execAxisLimit ax positive level s := rfl
theorem exec_axisStandstill_eq (ax : Fin 4) (s : State) : exec (.axisStandstill ax) s =
    .next (s.modAxis ax (fun a => if a.st = .holding then { a with st := .standstill } else a)) := rfl
theorem exec_axisVmotFault_eq (ax : Fin 4) (s : State) : exec (.axisVmotFault ax) s = execAxisVmotFault ax s := rfl
theorem exec_axisVmotRecover_eq (ax : Fin 4) (s : State) : exec (.axisVmotRecover ax) s = execAxisVmotRecover ax s := rfl

/-! R338 to R340: the PWM period. -/
section Period
variable {s : State} {f : State → Fin 4 → State} {Q : Fin 4 → Axis → Prop}

/-- A fold over axes of a step that changes its own axis alone. -/
theorem foldl_axes (hstep : ∀ (v : Vector Axis 4) (i : Fin 4), v[i.val] = s.axis[i.val] →
      ∃ a, f { s with axis := v } i = { s with axis := vmod v i (fun _ => a) } ∧ Q i a)
    {l : List (Fin 4)} (hl : l.Nodup) (v : Vector Axis 4) (hv : ∀ i ∈ l, v[i.val] = s.axis[i.val]) :
    ∃ w, l.foldl f { s with axis := v } = { s with axis := w } ∧ (∀ i ∈ l, Q i w[i.val]) ∧ ∀ i ∉ l, w[i.val] = v[i.val] := by
  induction l generalizing v with
  | nil => exact ⟨v, rfl, by simp, fun _ _ => rfl⟩
  | cons i l ih =>
    obtain ⟨hnot, hnodup⟩ := List.nodup_cons.1 hl
    obtain ⟨a, ha, hQ⟩ := hstep v i (hv i (List.mem_cons_self ..))
    have hother (j : Fin 4) (hj : j ≠ i) : (vmod v i (fun _ => a))[j.val] = v[j.val] := vmod_other _ _ _ _ hj
    obtain ⟨w, hw, hall, hrest⟩ := ih hnodup (vmod v i (fun _ => a)) fun j hj =>
      (hother j (fun h => hnot (h ▸ hj))).trans (hv j (List.mem_cons_of_mem _ hj))
    refine ⟨w, by rw [List.foldl_cons, ha, hw], fun j hj => ?_, fun j hj => ?_⟩
    · rcases List.mem_cons.1 hj with rfl | hj
      · rw [hrest j hnot, vmod_same]
        exact hQ
      · exact hall j hj
    · obtain ⟨hne, hj⟩ := not_or.1 (mt List.mem_cons.2 hj)
      exact (hrest j hj).trans (hother j hne)

theorem mem_allAxes (i : Fin 4) : i ∈ allAxes := mem_allLegs i

/-- R339: the motor voltage that a code measures. -/
def State.motorVoltage (s : State) (i : Fin 4) (code : Nat) : Nat := (roundDiv ((code : Int) * 3300 * s.axPar i P.vmotDiv) 409500).toNat

/-- R73: an axis whose outputs are off, with its motor voltage measured. -/
theorem axisPeriod_of_off (hr : s.axesRun = false) (i : Fin 4) (code : Nat) : s.axisPeriod i code = { s with
    axis := vmod s.axis i (fun a => { a with vmot := s.motorVoltage i code, off := true, dutyA := 0, dutyB := 0 }) } := by
  have hrun (v : Vector Axis 4) : State.axesRun { s with axis := v } = false := hr
  simp only [State.axisPeriod, State.modAxis, hrun, Bool.not_false, if_true, vmod_vmod]
  rfl

theorem axisPwmPeriod_of_off (hr : s.axesRun = false) (v : Vector Nat 4) : ∃ axis, exec (.axisPwmPeriod v) s = .next { s with axis := axis } ∧
    ∀ i : Fin 4, axis[i.val] = { s.axis[i.val] with vmot := s.motorVoltage i v[i.val], off := true, dutyA := 0, dutyB := 0 } := by
  obtain ⟨w, hw, hall, -⟩ := foldl_axes (s := s) (f := fun t i => t.axisPeriod i v[i.val])
    (Q := fun i a => a = { s.axis[i.val] with vmot := s.motorVoltage i v[i.val], off := true, dutyA := 0, dutyB := 0 })
    (fun x i hx => ⟨_, by rw [axisPeriod_of_off (s := { s with axis := x }) hr]; simp only [vmod, hx]; rfl, rfl⟩)
    (l := allAxes) (by decide) s.axis fun _ _ => rfl
  exact ⟨w, by rw [exec_axisPwmPeriod_eq]; exact congrArg _ hw, fun i => hall i (mem_allAxes i)⟩

/-- R347: an axis at rest, with no move to start and no edge to qualify. -/
def Axis.atRest (a : Axis) : Prop := a.st = .holding ∧ a.edge = none ∧ a.lead = 0

/-- R338: the outputs do not move the axis. -/
theorem driveAxis_keeps (i : Fin 4) (a : Axis) (s : State) :
    (s.driveAxis i a).x = a.x ∧ (s.driveAxis i a).v = a.v ∧ (s.driveAxis i a).st = a.st := by
  unfold State.driveAxis
  dsimp only
  split
  · exact ⟨rfl, rfl, rfl⟩
  · split <;> exact ⟨rfl, rfl, rfl⟩

theorem axisMotion_of_rest {a : Axis} (h : a.atRest) (i : Fin 4) (s : State) : s.axisMotion i a = a := by
  obtain ⟨hst, -, hlead⟩ := h
  simp [State.axisMotion, hst, hlead]

theorem qualify_of_rest {a : Axis} (h : a.atRest) : a.qualify = a := by
  obtain ⟨-, hedge, -⟩ := h
  simp [Axis.qualify, hedge]

theorem modAxis_of_fixed {i : Fin 4} {f : Axis → Axis} (h : f s.axis[i.val] = s.axis[i.val]) : s.modAxis i f = s := by
  simp [State.modAxis, vmod, h]

/-- R340, R347: a period of an axis at rest. -/
theorem axisPeriod_of_rest {i : Fin 4} (hd : s.axesDriven = true) (ha : s.axis[i.val].atRest) (code : Nat) :
    ∃ a, s.axisPeriod i code = { s with axis := vmod s.axis i (fun _ => a) } ∧
      a.x = s.axis[i.val].x ∧ a.v = s.axis[i.val].v ∧ a.st = .holding := by
  obtain ⟨hrun, hdrives⟩ := Bool.and_eq_true_iff.1 hd
  unfold State.axisPeriod
  dsimp only
  generalize hw : State.modAxis i _ s = w
  have hself : w.axis[i.val] = { s.axis[i.val] with vmot := s.motorVoltage i code } := by rw [← hw]; exact vmod_same ..
  have hrest : w.axis[i.val].atRest := by rw [hself]; exact ha
  have hrun' : w.axesRun = true := by rw [← hw]; exact hrun
  have hdrives' : w.drives .axis = true := by rw [← hw]; exact hdrives
  have hmotion : w.modAxis i (fun a => (w.axisMotion i a).qualify) = w :=
    modAxis_of_fixed (by rw [axisMotion_of_rest hrest, qualify_of_rest hrest])
  obtain ⟨hx, hv, hst⟩ := driveAxis_keeps i w.axis[i.val] w
  rw [if_neg (by simp [hrun']), hmotion, if_neg (by simp [hrest.1]), hdrives']
  refine ⟨{ w.driveAxis i w.axis[i.val] with edgeNow := false, limitNow := false }, ?_, ?_, ?_, ?_⟩
  · rw [← hw]
    simp only [State.modAxis, vmod, Vector.set_set, Vector.getElem_set_self, if_true]
  · exact hx.trans (by rw [hself])
  · exact hv.trans (by rw [hself])
  · exact hst.trans hrest.1

theorem axisPwmPeriod_of_rest (hd : s.axesDriven = true) (ha : ∀ i : Fin 4, s.axis[i.val].atRest) (v : Vector Nat 4) :
    ∃ axis, exec (.axisPwmPeriod v) s = .next { s with axis := axis } ∧
      ∀ i : Fin 4, axis[i.val].x = s.axis[i.val].x ∧ axis[i.val].v = s.axis[i.val].v ∧ axis[i.val].st = .holding := by
  obtain ⟨w, hw, hall, -⟩ := foldl_axes (s := s) (f := fun t i => t.axisPeriod i v[i.val])
    (Q := fun i a => a.x = s.axis[i.val].x ∧ a.v = s.axis[i.val].v ∧ a.st = .holding)
    (fun x i hx => by
      obtain ⟨a, ha', hQ⟩ := axisPeriod_of_rest (s := { s with axis := x }) (i := i) hd (hx.symm ▸ ha i) v[i.val]
      exact ⟨a, ha', hx ▸ hQ⟩) (l := allAxes) (by decide) s.axis fun _ _ => rfl
  exact ⟨w, by rw [exec_axisPwmPeriod_eq]; exact congrArg _ hw, fun i => hall i (mem_allAxes i)⟩
end Period

/-! R343: the home input. -/
section Home
variable {s : State} {ax : Fin 4}

theorem modAxis_eq (i : Fin 4) (f : Axis → Axis) (s : State) : s.modAxis i f = { s with axis := vmod s.axis i f } := rfl

theorem exec_axisHomeEdge_latches (hp : s.axPar ax P.homePol = 1) (hl : s.axis[ax.val].homeLevel = false) (hq : s.axis[ax.val].homeQual = false)
    (he : s.axis[ax.val].edge = none) (hn : s.axis[ax.val].limitNow = false) (stamp : Nat) : exec (.axisHomeEdge ax true stamp) s =
      .next (s.modAxis ax (fun a => { a with homeLevel := true, edgeNow := true, edge := some (a.x, stamp, true) })) := by
  simp [exec_axisHomeEdge_eq, execAxisHomeEdge, hp, hl, hq, he, hn, State.modAxis, vmod_vmod]

theorem exec_axisHomeEdge_chatters {e : Int × Nat × Bool} (hp : s.axPar ax P.homePol = 1) (hl : s.axis[ax.val].homeLevel = true)
    (he : s.axis[ax.val].edge = some e) (hc : s.axis[ax.val].chatterAt = []) (stamp : Nat) : exec (.axisHomeEdge ax false stamp) s =
      .next (s.modAxis ax (fun a => { a with
        homeLevel := false, edgeNow := true, edge := none, chatter := incSat a.chatter, chatterAt := [stamp] })) := by
  have hrecent : [stamp].filter (fun t => decide (stamp < t + ticksPerSecond)) = [stamp] := by simp [ticksPerSecond]
  simp [exec_axisHomeEdge_eq, execAxisHomeEdge, hp, hl, he, hc, hrecent, State.modAxis, vmod_vmod]
end Home

/-! R344: a limit input. -/
section Limit
variable {s : State} {ax : Fin 4}

/-- R344: the positive limit ahead of a moving axis stops it at LIMIT_DEC, with a record. -/
theorem exec_axisLimit_ahead (hf : bitAt (s.axPar ax P.limitsFitted).toNat 0 = true) (hp : s.axPar ax P.limPol = 1)
    (hm : s.axis[ax.val].st = .moving) (hv : 0 < s.axis[ax.val].v) : exec (.axisLimit ax true true) s =
      .next ((s.modAxis ax (fun a => { a with
        limit := vmod a.limit 0 (fun _ => true), hit := vmod a.hit 0 (fun _ => true), limitNow := true, st := .stopping, limitDec := true })).form
          0x5801 17 123 ax.val s.axis[ax.val].position 0) := by
  simp [exec_axisLimit_eq, execAxisLimit, hf, hp, hm, hv, State.modAxis, vmod_vmod]

theorem exec_axisLimit_of_unfitted (hf : bitAt (s.axPar ax P.limitsFitted).toNat 1 = false) (level : Bool) :
    exec (.axisLimit ax false level) s = .next s := by
  simp [exec_axisLimit_eq, execAxisLimit, hf]
end Limit

/-! R348: the motor voltage. -/
section Voltage
variable {s : State} {ax : Fin 4}

/-- R348: a fault of an axis, with its record and host event. -/
theorem axisFault_eq (i : Fin 4) (cause : Nat) (s : State) : ∃ fb events, s.axisFault i cause = { s with
      axis := vmod s.axis i (fun a => { a with
        st := .fault, cause := cause, homed := false, held := false, edge := none
        v := if cause = 1 then 0 else a.v, off := a.off || cause == 1 })
      fb := fb, events := events } ∧ events.length = s.events.length + 1 := ⟨_, _, rfl, length_insertRecord ..⟩

theorem exec_axisVmotFault (hv : (s.axis[ax.val].vmot : Int) < s.axPar ax P.vmotMin) (hf : s.axPar ax P.axFitted = 1)
    (hs : s.axis[ax.val].st ≠ .fault) : exec (.axisVmotFault ax) s = .next (s.axisFault ax 1) := by
  simp [exec_axisVmotFault_eq, execAxisVmotFault, hv, hf, hs]

theorem exec_axisVmotFault_of_high (hv : s.axPar ax P.vmotMin ≤ s.axis[ax.val].vmot) : exec (.axisVmotFault ax) s = .next s := by
  simp [exec_axisVmotFault_eq, execAxisVmotFault, Int.not_lt.2 hv]

theorem exec_axisVmotRecover (hs : s.axis[ax.val].st = .fault) (hc : s.axis[ax.val].cause = 1) (hv : s.axPar ax P.vmotMin ≤ s.axis[ax.val].vmot)
    (ha : s.axPar ax P.autoHome = 0) : exec (.axisVmotRecover ax) s = .next (s.modAxis ax (fun a => { a with
      st := if a.enable then .holding else .disabled, cause := 0, target := a.position })) := by
  have hauto : (s.modAxis ax (fun a => { a with
      st := if a.enable then .holding else .disabled, cause := 0, target := a.position })).axPar ax P.autoHome = 0 := ha
  simp [exec_axisVmotRecover_eq, execAxisVmotRecover, hs, hc, hv, hauto]

theorem exec_axisVmotRecover_of_other (hs : s.axis[ax.val].st ≠ .fault) : exec (.axisVmotRecover ax) s = .next s := by
  simp [exec_axisVmotRecover_eq, execAxisVmotRecover, hs]
end Voltage

/-- Settles O42: the periods by `axisPwmPeriod_of_off` and `axisPwmPeriod_of_rest`, the other rows by their rules above. -/
theorem axisMotion : Obligations.AxisMotion := by
  unfold Obligations.AxisMotion
  refine ⟨fun v s hr => ?off, fun v s hd ha => ?rest, fun ax stamp s hp hl hq he hn => ?latches, fun ax stamp e s hp hl he hc => ?chatters,
    fun ax s => ⟨_, exec_axisChatterClear_eq ax s, rfl, vmod_same ..⟩, fun ax s hf hp hm hv => ?limit,
    fun ax level s hf => exec_axisLimit_of_unfitted hf level, fun ax s hs => ?standstill, fun ax s hv hf hs => ?fault,
    fun ax s => exec_axisVmotFault_of_high, fun ax s hs hc hv ha => ⟨_, exec_axisVmotRecover hs hc hv ha, rfl, vmod_same ..⟩,
    fun ax s => exec_axisVmotRecover_of_other⟩
  case off =>
    obtain ⟨axis, hexec, haxis⟩ := axisPwmPeriod_of_off hr v
    exact ⟨_, hexec, rfl, fun i => by simp only [haxis]; exact ⟨trivial, trivial, trivial, trivial, rfl⟩⟩
  case rest =>
    obtain ⟨axis, hexec, haxis⟩ := axisPwmPeriod_of_rest hd ha v
    exact ⟨_, hexec, rfl, haxis⟩
  case latches => exact ⟨_, exec_axisHomeEdge_latches hp hl hq he hn stamp, rfl, vmod_same ..⟩
  case chatters => exact ⟨_, exec_axisHomeEdge_chatters hp hl he hc stamp, rfl, by simp, by simp, by simp⟩
  case limit =>
    have hvec (v : Vector Bool 2) : (vmod v 0 (fun _ => true))[0] = true := vmod_same v 0 _
    refine ⟨_, exec_axisLimit_ahead hf hp hm hv, ?_⟩
    simp only [State.form_axis, State.modAxis_axis, vmod_same, hvec]
    exact ⟨trivial, trivial, trivial, trivial, trivial, rfl⟩
  case standstill => exact ⟨_, exec_axisStandstill_eq ax s, rfl, by simp [hs]⟩
  case fault =>
    obtain ⟨_, _, hfault, hevents⟩ := axisFault_eq ax 1 s
    exact ⟨_, (exec_axisVmotFault hv hf hs).trans (congrArg _ hfault), by simp, by simp, by simp, by simp, by simp, hevents, rfl⟩

end Sys2Proof.Machine
end

section
/-! SUPPORT. The pins in each state (R71 to R73, R97, R301), ALERT_N, and the heartbeat tone along a ring (R129, R130, R132). -/
namespace Sys2Proof.Machine

/-! R72, R73: the plant outputs. -/
section Plant
variable {g : Signal} {s : State}

theorem ne_alert_of_plant (h : g.plant = true) : g ≠ .alert := by
  rintro rfl
  exact absurd h (by decide)

/-- R72: the states in which the table holds the plant outputs high-impedance. -/
theorem pinTable_of_plant (h : g.plant = true) {m : Mode} (h5 : m ≠ .surveyed) (h6 : m ≠ .armed) (h7 : m ≠ .running) (h8 : m ≠ .stopping)
    (h10 : m ≠ .faultHold) : pinTable g m = .z := by
  have hplant : g = .pwm ∨ g = .pwmen ∨ g = .sfo ∨ g = .axis ∨ g = .fan ∨ g = .syncout := by simpa [Signal.plant, or_assoc] using h
  cases m
  case surveyed => exact absurd rfl h5
  case armed => exact absurd rfl h6
  case running => exact absurd rfl h7
  case stopping => exact absurd rfl h8
  case faultHold => exact absurd rfl h10
  all_goals rcases hplant with rfl | rfl | rfl | rfl | rfl | rfl <;> rfl

theorem drive_of_forced (h : g.plant = true) (hf : s.sf.forceoff = true ∨ s.standbyZ g = true) : s.drive g = .z := by
  rw [State.drive, if_neg (fun hb => ne_alert_of_plant h hb.2.2), if_pos]
  rcases hf with hf | hf <;> simp [h, hf]

/-- R73: outside last-gasp and FAULT-HOLD a plant output stands as the table says, or high-impedance. -/
theorem drive_of_plant (h : g.plant = true) (hz : pinTable g s.mode = .z) (hg : s.start.lastGasp = false) (hm : s.mode ≠ .faultHold) :
    s.drive g = .z := by
  by_cases hf : (s.standbyZ g || (s.sf.forceoff && g.plant)) = true
  · refine drive_of_forced h ?_
    simpa [h, or_comm] using hf
  · rw [State.drive, if_neg (fun hb => ne_alert_of_plant h hb.2.2), if_neg hf, if_neg (by simp [hg]), if_neg (fun hb => hm hb.1), hz]

theorem standbyZ_of_plant (h : g.plant = true) (hs : g ≠ .sfo) (hr : s.role = .standby) : s.standbyZ g = true := by
  simp [State.standbyZ, hr, h, hs]
end Plant

/-! R71, R73: ALERT_N. -/
section Alert
variable {s : State}

/-- R73: beside BOOT without an image the table alone decides on ALERT_N. -/
theorem drive_alert (h : ¬ (s.mode = .boot ∧ s.start.noImage = true)) : s.drive .alert = pinTable .alert s.mode := by
  have hz : (s.standbyZ .alert || (s.sf.forceoff && Signal.plant .alert)) = false := by simp [State.standbyZ, Signal.plant]
  rw [State.drive, if_neg (fun hb => h ⟨hb.1, hb.2.1⟩), if_neg (by simp [hz])]
  split
  · rfl
  · split
    · rfl
    · rfl

theorem alertLow_of_noImage (hm : s.mode = .boot) (hn : s.start.noImage = true) : s.alertLow = true := by
  simp [State.alertLow, State.drive, hm, hn]

theorem alertLow_of_faultHold (hm : s.mode = .faultHold) : s.alertLow = true := by
  rw [State.alertLow, drive_alert (by simp [hm]), hm]
  rfl

theorem alertLow_of_active (hb : s.mode ≠ .boot) (ha : pinTable .alert s.mode = .active) : s.alertLow = s.alertCause := by
  rw [State.alertLow, drive_alert (fun h => hb h.1), ha]
end Alert

/-! R129, R130, R132: the tone at a station. -/
section Tone
variable {st : Station} {forward here back : Bool} {now : Nat}

/-- R130: relayed. -/
theorem tone_of_relay (hs : st.sleeping = false) (hw : st.withholds = false) (ht : st.turnsFrom forward = false) :
    st.tone forward here back now = here := by
  simp [Station.tone, hs, hw, ht]

/-- R130: withheld on the forward path. -/
theorem tone_of_withheld (hs : st.sleeping = false) (hw : st.withholds = true) (ht : st.turnsFrom true = false) :
    st.tone true here back now = false := by
  simp [Station.tone, hs, hw, ht]

/-- R132: returned. -/
theorem tone_of_turn (hs : st.sleeping = false) (ht : st.turnsFrom forward = true) : st.tone forward here true now = true := by
  simp [Station.tone, hs, ht]

theorem toneAlong_cons (xs : List (Station × Bool)) : toneAlong forward now here ((st, back) :: xs) =
    (here :: (toneAlong forward now (st.tone forward here back now) xs).1, (toneAlong forward now (st.tone forward here back now) xs).2) := rfl

theorem toneAlong_of_relays {xs : List (Station × Bool)}
    (h : ∀ x ∈ xs, x.1.sleeping = false ∧ x.1.withholds = false ∧ x.1.turnsFrom forward = false) :
    toneAlong forward now here xs = (List.replicate xs.length here, here) := by
  induction xs with
  | nil => rfl
  | cons x xs ih =>
    obtain ⟨hs, hw, ht⟩ := h x (List.mem_cons_self ..)
    rw [toneAlong_cons, tone_of_relay hs hw ht, ih fun y hy => h y (List.mem_cons_of_mem _ hy)]
    rfl
end Tone

/-- Settles O60: the pins by `drive_of_plant`, `drive_of_forced` and `drive_alert`, the tone station by station. -/
theorem pinsAndTones : Obligations.PinsAndTones := by
  unfold Obligations.PinsAndTones
  refine ⟨fun g s h h5 h6 h7 h8 h10 hg => drive_of_plant h (pinTable_of_plant h h5 h6 h7 h8 h10) hg h10,
    fun g s h hf => drive_of_forced h (.inl hf), fun g s h hs hr => drive_of_forced h (.inr (standbyZ_of_plant h hs hr)),
    fun s => alertLow_of_noImage, fun s => alertLow_of_faultHold, fun s h => ?caused, fun forward here now xs => toneAlong_of_relays,
    fun st here back now xs hs hw ht => ?withheld, fun st forward here now xs hs ht => by rw [toneAlong_cons, tone_of_turn hs ht]⟩
  case caused => rcases h with h | h | h | h | h | h | h <;> exact alertLow_of_active (by simp [h]) (by rw [h]; rfl)
  case withheld =>
    have hwithholds : st.withholds = true := by simpa [Station.withholds] using hw
    rw [toneAlong_cons, tone_of_withheld hs hwithholds ht]

end Sys2Proof.Machine
end
section
/-! SUPPORT. Demands of the safety pair and the end of a stop (R284, R288, R290 to R293). -/
namespace Sys2Proof.Machine

/-! R291, R292: what a demand is, by the state it meets. -/
section Demands
variable {s t u : State} {cause cat : Nat} {latching : Bool}

/-- R291: the safety part with the cause of a demand entered, and latched where it latches. -/
def State.causeEntered (s : State) (cause : Nat) (latching : Bool) : Safety :=
  let fresh := s.sf.stopCat == 0 && (s.mode == .armed || s.mode == .running || s.sf.stopCause == 0)
  { s.sf with
    stopCause := withBit s.sf.stopCause cause
    latched := if latching then withBit s.sf.latched cause else s.sf.latched
    firstCause := if fresh then cause else s.sf.firstCause
    stopStamp := if fresh then s.time.meridian else s.sf.stopStamp }

/-- R292: the safety part at the beginning of a stop. -/
def State.stopBegun (s : State) (cause cat : Nat) (latching : Bool) : Safety :=
  { s.causeEntered cause latching with
    stopCat := cat, stopLatching := latching, stopFrames := 0, zeroRun := 0, opened := false, i0 := s.lat.legMa
    outOfEnvelope := Vector.replicate 4 false }

/-- R291: the safety part after a demand during a stop. -/
def State.stopRaised (s : State) (cause cat : Nat) (latching : Bool) : Safety :=
  { s.causeEntered cause latching with
    stopCat := if s.sf.stopCat = 0 then cat else if cat = 1 then 1 else if s.sf.stopCat = 3 ∧ cat = 2 then 2 else s.sf.stopCat
    stopLatching := s.sf.stopLatching || latching }

/-- What the beginning of a stop changes apart from mode and safety part (R190, R220, R292): a record and an event, the learned set
that falls due, the probes that yield, the balancing that ends. -/
def State.windsDown (s t : State) : Prop :=
  ∃ (fb : FieldBook) (events : List FbRecord) (learn : Learn) (eleg : Vector EstLeg 4) (probe : Vector ProbePair 2) (conv : Vector LegConv 4)
    (cle : Vector Cle 4) (ring : Vector Ring 4) (diag : Vector LegDiag 4) (ahead : List Flit) (c2f : LinkDir),
    t = { s with fb := fb, events := events, learn := learn, eleg := eleg, probe := probe, conv := conv, cle := cle, ring := ring
                 diag := diag, base := { s.base with ahead := ahead, c2f := c2f } }

theorem State.windsDown.trans (h : s.windsDown t) (k : t.windsDown u) : s.windsDown u := by
  obtain ⟨_, _, _, _, _, _, _, _, _, _, _, rfl⟩ := h
  obtain ⟨_, _, _, _, _, _, _, _, _, _, _, rfl⟩ := k
  exact ⟨_, _, _, _, _, _, _, _, _, _, _, rfl⟩

theorem State.yields.windsDown (h : s.yields t) : s.windsDown t := by
  obtain ⟨_, _, _, _, _, _, rfl⟩ := h
  exact ⟨_, _, _, _, _, _, _, _, _, _, _, rfl⟩

theorem State.plans.windsDown (h : s.plans t) : s.windsDown t := by
  obtain ⟨_, _, _, rfl, -⟩ := h
  exact ⟨_, _, _, _, _, _, _, _, _, _, _, rfl⟩

theorem windsDown_formAt (type code source index : Nat) (a b : Int) (stamp : Nat) (ext : List Byte) (deferred : Bool) (s : State) :
    s.windsDown (s.formAt type code source index a b stamp ext deferred) := ⟨_, _, _, _, _, _, _, _, _, _, _, rfl⟩
theorem windsDown_event (type code source index : Nat) (a b : Int) (s : State) : s.windsDown (s.event type code source index a b) :=
  ⟨_, _, _, _, _, _, _, _, _, _, _, rfl⟩
theorem windsDown_learnTrigger (code : Nat) (s : State) : s.windsDown (s.learnTrigger code) := by
  unfold State.learnTrigger
  split
  · exact ⟨_, _, _, _, _, _, _, _, _, _, _, rfl⟩
  · exact ⟨_, _, _, _, _, _, _, _, _, _, _, rfl⟩

theorem trigger_of_active (h : s.mode = .armed ∨ s.mode = .running) :
    ({ s with mode := .stopping, sf := s.stopBegun cause cat latching } : State).windsDown (s.trigger cause cat latching) := by
  simp only [State.trigger, if_pos h]
  exact (windsDown_formAt ..).trans ((windsDown_learnTrigger ..).trans ((yields_yieldAll ..).windsDown.trans
    ((plans_stopAllBalancing _).windsDown.trans (windsDown_event ..))))

theorem trigger_of_stopping (h : s.mode = .stopping) :
    s.trigger cause cat latching = { s with sf := s.stopRaised cause cat latching } := by
  simp [State.trigger, h, State.stopRaised, State.causeEntered]

theorem trigger_elsewhere (ha : s.mode ≠ .armed) (hr : s.mode ≠ .running) (hs : s.mode ≠ .stopping) :
    s.trigger cause cat latching = { s with sf := s.causeEntered cause latching } := by
  simp [State.trigger, ha, hr, hs, State.causeEntered]

/-- R291, R292: a trigger is a demand. -/
theorem trigger_demands (cause cat : Nat) (latching : Bool) (s : State) : s.demands cause cat latching (s.trigger cause cat latching) := by
  have hcause : bitAt (withBit s.sf.stopCause cause) cause = true := bitAt_withBit ..
  have hlatched : latching = true → bitAt (if latching then withBit s.sf.latched cause else s.sf.latched) cause = true := by
    rintro rfl
    exact bitAt_withBit ..
  by_cases hactive : s.mode = .armed ∨ s.mode = .running
  · have hstop : s.mode ≠ .stopping := by rintro h; simp [h] at hactive
    obtain ⟨_, _, _, _, _, _, _, _, _, _, _, ht⟩ := trigger_of_active (cause := cause) (cat := cat) (latching := latching) hactive
    rw [ht]
    refine ⟨rfl, hcause, hlatched, rfl, rfl, fun _ => ⟨rfl, rfl, rfl, rfl, rfl, rfl⟩, fun h => absurd h hstop, fun ha hr => ?_⟩
    exact absurd hactive (by simp [ha, hr])
  by_cases hstop : s.mode = .stopping
  · rw [trigger_of_stopping hstop]
    refine ⟨rfl, hcause, hlatched, rfl, rfl, fun h => absurd h hactive, fun _ => ⟨hstop, ?_, ?_, rfl, rfl⟩, fun _ _ h => absurd hstop h⟩
    · rintro rfl
      simp [State.stopRaised]
    · intro hcat
      simp [State.stopRaised, hcat]
  · obtain ⟨harmed, hrunning⟩ := not_or.mp hactive
    rw [trigger_elsewhere harmed hrunning hstop]
    exact ⟨rfl, hcause, hlatched, rfl, rfl, fun h => absurd h hactive, fun h => absurd h hstop, fun _ _ _ => rfl⟩

/-- R291: what the safety pair knows of cells and stations is not touched by a demand. -/
theorem trigger_invalids (cause cat : Nat) (latching : Bool) (s : State) :
    (s.trigger cause cat latching).sf.cellInvalid = s.sf.cellInvalid ∧ (s.trigger cause cat latching).sf.stationInvalid = s.sf.stationInvalid := by
  by_cases hactive : s.mode = .armed ∨ s.mode = .running
  · obtain ⟨_, _, _, _, _, _, _, _, _, _, _, ht⟩ := trigger_of_active (cause := cause) (cat := cat) (latching := latching) hactive
    rw [ht]
    exact ⟨rfl, rfl⟩
  by_cases hstop : s.mode = .stopping
  · rw [trigger_of_stopping hstop]
    exact ⟨rfl, rfl⟩
  · obtain ⟨harmed, hrunning⟩ := not_or.mp hactive
    rw [trigger_elsewhere harmed hrunning hstop]
    exact ⟨rfl, rfl⟩

/-- What a demand reads and holds of the safety part. -/
def Safety.stopPart (f : Safety) : Vector SafetyOutput 8 × List Byte × Nat × Vector Int 4 × Nat :=
  (f.output, f.permit, f.stopCat, f.i0, f.stopFrames)

/-- A demand that follows a change of records and of the rest of the safety part is a demand of the state before. -/
theorem State.demands.of_safetyFrame (k : u.demands cause cat latching t) (h : s.safetyFrame u) (hsf : u.sf.stopPart = s.sf.stopPart) :
    s.demands cause cat latching t := by
  obtain ⟨f, b, rfl⟩ : ∃ (f : Safety) (b : FieldBook), u = { s with sf := f, fb := b } := ⟨_, _, h⟩
  simp only [Safety.stopPart, Prod.mk.injEq] at hsf
  obtain ⟨houtput, hpermit, hcat, hi0, hframes⟩ := hsf
  obtain ⟨ht, hcause, hlatched, koutput, kpermit, hactive, hstopping, helse⟩ := k
  refine ⟨ht, hcause, hlatched, koutput.trans houtput, kpermit.trans hpermit, hactive, fun hm => ?_, helse⟩
  obtain ⟨hmode, hone, hkeep, ki0, kframes⟩ := hstopping hm
  exact ⟨hmode, hone, fun h => hkeep (hcat.trans h), ki0.trans hi0, kframes.trans hframes⟩
end Demands

/-! R290, R291: the demands of cells, temperature points, pre-charge and inhibits. -/
section Causes
variable {s : State}

theorem exec_cellInvalidTimeout_eq (i : Nat) (s : State) : exec (.cellInvalidTimeout i) s = execCellInvalidTimeout i s := rfl
theorem exec_tempPointsInvalidTimeout_eq (leg : Leg) (k : Nat) (s : State) :
    exec (.tempPointsInvalidTimeout leg k) s = execTempPointsInvalidTimeout leg k s := rfl
theorem exec_prechargeTimeout_eq (s : State) :
    exec .prechargeTimeout s = .next (if s.sf.seqStep = 2 then s.trigger 15 2 true else s) := rfl
theorem exec_inhibitCurrentViolation_eq (leg : Leg) (chg : Bool) (s : State) :
    exec (.inhibitCurrentViolation leg chg) s = .next (if s.inhibited chg then s.trigger 18 2 true else s) := rfl

/-- R291: the trigger of a cell or a station, with its record, is a demand of the state before what the safety pair noted. -/
theorem cellTrigger_demands {f : Safety → Safety} (hf : (f s.sf).stopPart = s.sf.stopPart) (cause source index : Nat) (reading threshold : Int) :
    ∃ t, (s.modSf f).cellTrigger cause source index reading threshold = t ∧ t.sf.cellInvalid = (f s.sf).cellInvalid ∧
      t.sf.stationInvalid = (f s.sf).stationInvalid ∧ s.demands cause 2 true t := by
  obtain ⟨hcell, hstation⟩ := trigger_invalids cause 2 true ((s.modSf f).form 0x4003 cause source index reading threshold)
  exact ⟨_, rfl, hcell, hstation, (trigger_demands cause 2 true _).of_safetyFrame rfl hf⟩

theorem exec_cellInvalidTimeout_demands {i : Nat} (hp : (s.legKeys (legOfCell i)).any (fun k => k.2.2 == i) = true)
    (hi : (s.cell i).invalid = true) (hu : s.conv[(legOfCell i).val].st ≠ .disabled) (hn : s.sf.cellInvalid.contains i = false) :
    ∃ t, exec (.cellInvalidTimeout i) s = .next t ∧ t.sf.cellInvalid = s.sf.cellInvalid ++ [i] ∧ s.demands 7 2 true t := by
  obtain ⟨t, ht, hcell, -, hd⟩ := cellTrigger_demands (s := s) (f := fun f => { f with cellInvalid := f.cellInvalid ++ [i] }) rfl 7 23 i
    (s.cell i).v (s.par P.invalidT)
  refine ⟨t, ?_, hcell, hd⟩
  rw [exec_cellInvalidTimeout_eq, execCellInvalidTimeout]
  rw [if_neg (by simp only [hp, hi, hn]; simpa using hu), ht]

theorem exec_cellInvalidTimeout_of_valid {i : Nat} (hi : (s.cell i).invalid = false) : exec (.cellInvalidTimeout i) s = .next s := by
  simp [exec_cellInvalidTimeout_eq, execCellInvalidTimeout, hi]

theorem exec_tempPointsInvalidTimeout_demands {leg : Leg} {k : Nat} (h1 : 1 ≤ k) (hk : k ≤ s.stations leg)
    (hn : s.sf.stationInvalid.contains (stationKey leg k) = false)
    (ht : ∀ j : Nat, j < 8 → (s.temp (8 * stationKey leg k + j)).t = tInvalid) :
    ∃ t, exec (.tempPointsInvalidTimeout leg k) s = .next t ∧ t.sf.stationInvalid = s.sf.stationInvalid ++ [stationKey leg k] ∧
      s.demands 9 2 true t := by
  obtain ⟨t, htrigger, -, hstation, hd⟩ := cellTrigger_demands (s := s)
    (f := fun f => { f with stationInvalid := f.stationInvalid ++ [stationKey leg k] }) rfl 9 24 (8 * stationKey leg k) tInvalid
    (s.par P.tempInvalidT)
  have hall : (List.range 8).all (fun j => (s.temp (8 * stationKey leg k + j)).t == tInvalid) = true := by simpa using ht
  refine ⟨t, ?_, hstation, hd⟩
  rw [exec_tempPointsInvalidTimeout_eq, execTempPointsInvalidTimeout]
  rw [if_neg (by simp only [hall, hn]; simp; omega), htrigger]
end Causes

/-! R284, R292: every group is turned off. -/
section Opening
variable {s : State}

/-- R284: a group that is turned off. -/
def Group.turnedOff (x : Group) : Group :=
  if x.on = false then x
  else { x with on := false, operating := true, peerHold := false, age := 0, st := if x.st = .welded then .welded else .opening }

theorem Group.turnedOff_on (x : Group) : x.turnedOff.on = false := by
  unfold Group.turnedOff
  split
  · assumption
  · rfl

theorem Group.turnedOff_turnedOff (x : Group) : x.turnedOff.turnedOff = x.turnedOff := by
  rw [Group.turnedOff, if_pos x.turnedOff_on]

theorem Group.turnedOff_st {x : Group} (hon : x.on = true) (hw : x.st ≠ .welded) : x.turnedOff.st = .opening := by
  simp [Group.turnedOff, hon, hw]

theorem command_false (g : Fin 4) (s : State) : s.command g false = s.modGroup g Group.turnedOff := by
  unfold State.command State.modGroup Group.turnedOff
  split
  next h => simp [vmod, h]
  next h => simp [vmod, h]

/-- R284: the groups of a list turned off one after the other. -/
theorem turnOff_spec (gs : List (Fin 4)) (s : State) : ∃ v : Vector Group 4,
    gs.foldl (fun t g => t.command g false) s = { s with sf := { s.sf with group := v } } ∧
      ∀ g : Fin 4, v[g.val] = if g ∈ gs then s.sf.group[g.val].turnedOff else s.sf.group[g.val] := by
  induction gs generalizing s with
  | nil => exact ⟨_, rfl, fun _ => rfl⟩
  | cons k gs ih =>
    obtain ⟨v, hv, hgroup⟩ := ih (s.modGroup k Group.turnedOff)
    refine ⟨v, by rw [List.foldl_cons, command_false, hv]; rfl, fun g => ?_⟩
    rw [hgroup, State.modGroup]
    by_cases hg : g = k
    · subst hg
      simp [Group.turnedOff_turnedOff]
    · simp [vmod_other _ _ _ _ hg, hg]

theorem openAll_spec (s : State) : ∃ v : Vector Group 4,
    s.openAll = { s with sf := { s.sf with group := v, seqStep := 6, opened := true } } ∧ ∀ g : Fin 4, v[g.val] = s.sf.group[g.val].turnedOff := by
  obtain ⟨v, hv, hgroup⟩ := turnOff_spec allLegs s
  exact ⟨v, by rw [State.openAll, hv]; rfl, fun g => (hgroup g).trans (if_pos (mem_allLegs g))⟩

theorem exec_stopTMaxExpiry_opens (hm : s.mode = .stopping) (hc : 2 ≤ s.sf.stopCat) (ho : s.sf.opened = false) :
    exec .stopTMaxExpiry s = .next s.openAll := by
  have hexec : exec .stopTMaxExpiry s = execStopTMaxExpiry s := rfl
  simp [hexec, execStopTMaxExpiry, hm, hc, ho]
end Opening

/-! R71, R284: the end of a stop. -/
section Exit
variable {s : State}

theorem exec_stoppingExit_eq (s : State) : exec .stoppingExit s = execStoppingExit s := rfl

theorem exec_stoppingExit_surveyed (hm : s.mode = .stopping) (ho : s.sf.opened = true) (ha : s.allOpen = true) (hl : s.start.lastGasp = false)
    (hc : s.base.coreLost = false) (he : s.upd.endDue = 0) (hw : s.welded = false) (hk : s.sf.stopLatching = false) :
    ∃ t, exec .stoppingExit s = .next t ∧ t.mode = .surveyed ∧ t.sf.stopCat = 0 ∧ t.sf.seqStep = 0 := by
  rw [exec_stoppingExit_eq, execStoppingExit, if_neg (by simp [hm, ho, ha, hl, hc]), if_neg (by simp [he]), if_neg (by simp [hw, hk])]
  exact ⟨_, rfl, rfl, rfl, rfl⟩

theorem exec_stoppingExit_faultHold (hm : s.mode = .stopping) (ho : s.sf.opened = true) (ha : s.allOpen = true) (hl : s.start.lastGasp = false)
    (hc : s.base.coreLost = false) (he : s.upd.endDue = 0) (hw : s.welded = true ∨ s.sf.stopLatching = true) :
    exec .stoppingExit s = .next s.enterFaultHold := by
  rw [exec_stoppingExit_eq, execStoppingExit, if_neg (by simp [hm, ho, ha, hl, hc]), if_neg (by simp [he]), if_pos (by simpa using hw)]

theorem exec_stoppingExit_waits (h : s.mode ≠ .stopping ∨ s.allOpen = false) : exec .stoppingExit s = .next s := by
  rw [exec_stoppingExit_eq, execStoppingExit, if_pos]
  rcases h with h | h
  · exact .inl h
  · simp [h]
end Exit

/-- Settles O32: a demand is `trigger_demands`; the opening is `openAll_spec`. -/
theorem stopDemands : Obligations.StopDemands := by
  unfold Obligations.StopDemands
  refine ⟨fun _ _ hp hi hu hn => exec_cellInvalidTimeout_demands hp hi hu hn, fun _ _ hi => exec_cellInvalidTimeout_of_valid hi,
    fun _ _ _ h1 hk hn ht => exec_tempPointsInvalidTimeout_demands h1 hk hn ht,
    fun s h => ⟨_, by rw [exec_prechargeTimeout_eq, if_pos h], trigger_demands 15 2 true s⟩,
    fun s h => by rw [exec_prechargeTimeout_eq, if_neg h],
    fun leg chg s h => ⟨_, by rw [exec_inhibitCurrentViolation_eq, if_pos h], trigger_demands 18 2 true s⟩,
    fun leg chg s h => by rw [exec_inhibitCurrentViolation_eq, if_neg (by simp [h])],
    ?opens, ?surveyed, ?faultHold, fun _ h => exec_stoppingExit_waits h⟩
  case opens =>
    intro s hm hc ho
    obtain ⟨v, hopen, hv⟩ := openAll_spec s
    refine ⟨_, exec_stopTMaxExpiry_opens hm hc ho, ?_⟩
    rw [hopen]
    exact ⟨rfl, rfl, rfl, fun g => (congrArg Group.on (hv g)).trans (Group.turnedOff_on _),
      fun g hon hw => (congrArg Group.st (hv g)).trans (Group.turnedOff_st hon hw)⟩
  case surveyed =>
    intro s hm ho ha hl hc he hw hk
    obtain ⟨t, ht, hmode, hcat, hstep⟩ := exec_stoppingExit_surveyed hm ho ha hl hc he hw hk
    exact ⟨t, ht, hmode, hcat, hstep, kept_of_next (execStoppingExit_kept s) ht⟩
  case faultHold =>
    intro s hm ho ha hl hc he hw
    have ht := exec_stoppingExit_faultHold hm ho ha hl hc he hw
    have hidle (l : Leg) : s.enterFaultHold.conv[l.val].pwmen = false := by
      obtain ⟨-, -, -, hpwmen⟩ := enterFaultHold_legIdle l s
      exact hpwmen
    exact ⟨_, ht, rfl, rfl, hidle, kept_of_next (execStoppingExit_kept s) ht⟩

end Sys2Proof.Machine
end
section
/-! SUPPORT. The module commands (R68, R71, R76, R255, R291, R417, R468): how each is served, and the beginning of the laid-up sequence. -/
namespace Sys2Proof.Machine

/-! R410, R417: a command that has passed the checks. -/
section Served
variable {s t u : State} {r : HostReq} {code status : Nat}

theorem exec_commandArm_eq (r : HostReq) (s : State) : exec (.commandArm r) s = .next (s.subRequest 4 0 commandCodes 0x01 r) := rfl
theorem exec_commandDisarm_eq (r : HostReq) (s : State) : exec (.commandDisarm r) s = .next (s.subRequest 4 0 commandCodes 0x02 r) := rfl
theorem exec_commandRelease_eq (r : HostReq) (s : State) : exec (.commandRelease r) s = .next (s.subRequest 4 0 commandCodes 0x03 r) := rfl
theorem exec_commandReset_eq (r : HostReq) (s : State) : exec (.commandReset r) s = .next (s.subRequest 4 0 commandCodes 0x04 r) := rfl
theorem exec_commandLayUp_eq (r : HostReq) (s : State) : exec (.commandLayUp r) s = .next (s.subRequest 4 0 commandCodes 0x05 r) := rfl

theorem subRequest_of_accepted (ha : s.accepts 4 r u) (hc : fieldAt 0 1 r.payload = code) :
    s.subRequest 4 0 commandCodes code r = u.serveCommand r := by
  obtain ⟨hcheck, hscope⟩ := ha
  simp [State.subRequest, hc, State.hostRequest, hcheck, hscope, State.serve]

/-- R417: outside a reset the response reports what the command answered. -/
theorem serveCommand_of_answer (h : u.command1 r = (status, t)) (hb : t.mode ≠ .boot) : u.serveCommand r = t.answer 4 r status [] := by
  simp [State.serveCommand, h, hb]

/-- R419: a command that resets at once leaves no response. -/
theorem serveCommand_of_reset (h : u.command1 r = (status, t)) (hb : t.mode = .boot) : u.serveCommand r = t := by
  simp [State.serveCommand, h, hb]

/-- R417: a command that passed the checks is answered with its status. -/
theorem command_answered (ha : s.accepts 4 r u) (hc : fieldAt 0 1 r.payload = code) (h : u.command1 r = (status, t)) (hb : t.mode ≠ .boot) :
    s.subRequest 4 0 commandCodes code r = t.answer 4 r status [] :=
  (subRequest_of_accepted ha hc).trans (serveCommand_of_answer h hb)

theorem command1_arm (hc : fieldAt 0 1 r.payload = 0x01) : u.command1 r = u.arm := by simp [State.command1, hc]
theorem command1_disarm (hc : fieldAt 0 1 r.payload = 0x02) : u.command1 r = u.disarmCommand := by simp [State.command1, hc]
theorem command1_release (hc : fieldAt 0 1 r.payload = 0x03) (hl : 5 ≤ r.payload.length) (hm : fieldAt 4 1 r.payload = 0) :
    u.command1 r = u.release := by
  simp [State.command1, hc, hm, Nat.not_lt.mpr hl]
theorem command1_releaseLegs (hc : fieldAt 0 1 r.payload = 0x03) (hl : 5 ≤ r.payload.length) (hm : fieldAt 4 1 r.payload ≠ 0) :
    u.command1 r = u.releaseLegs (fieldAt 4 1 r.payload) := by
  simp [State.command1, hc, hm, Nat.not_lt.mpr hl]
theorem command1_reset (hc : fieldAt 0 1 r.payload = 0x04) : u.command1 r = u.resetCommand := by simp [State.command1, hc]
theorem command1_layUp (hc : fieldAt 0 1 r.payload = 0x05) : u.command1 r = u.layUp := by simp [State.command1, hc]
end Served

/-! R71, R284: ARM and DISARM. -/
section Arm
variable {s u : State}

theorem selectBanks_cle (mode : Nat) (s : State) : ∃ v : Vector Cle 4, s.selectBanks mode = { s with cle := v } :=
  List.foldlRecOn (motive := fun t : State => ∃ v, t = { s with cle := v }) allLegs _ ⟨_, rfl⟩ fun _ ht _ _ => by
    obtain ⟨_, rfl⟩ := ht
    exact ⟨_, rfl⟩

theorem autoHome_axis (s : State) : ∃ v : Vector Axis 4, s.autoHome = { s with axis := v } := by
  refine List.foldlRecOn (motive := fun t : State => ∃ v, t = { s with axis := v }) allAxes _ ⟨_, rfl⟩ fun t ht i _ => ?_
  obtain ⟨_, rfl⟩ := ht
  dsimp only
  split
  · exact ⟨_, rfl⟩
  · split
    · exact ⟨_, rfl⟩
    · exact ⟨_, rfl⟩

/-- R284: a commanded group stands as commanded; no other part of the safety part is touched. -/
theorem command_group (g : Fin 4) (on : Bool) (s : State) : ∃ v : Vector Group 4,
    s.command g on = { s with sf := { s.sf with group := v } } ∧ v[g.val].on = on := by
  unfold State.command
  split
  next h => exact ⟨_, rfl, h⟩
  next => exact ⟨_, rfl, by simp⟩

/-- R71, R284: what the entry to ARMED changes. -/
theorem enterArmed_spec (s : State) : ∃ (group : Vector Group 4) (cle : Vector Cle 4) (axis : Vector Axis 4) (therm : Thermal),
    s.enterArmed = { s with
      mode := .armed, str := { s.str with running := s.parN P.mode }, sf := { s.sf with group := group, seqStep := 1, stepFrames := 0 }
      cle := cle, axis := axis, therm := therm } ∧ group[1].on = true := by
  unfold State.enterArmed
  dsimp only
  generalize hu : State.seqTo 1 _ = u
  obtain ⟨group, hgroup, hon⟩ := command_group 1 true u
  obtain ⟨cle, hcle⟩ := selectBanks_cle (s.parN P.mode) (u.command 1 true)
  obtain ⟨axis, haxis⟩ := autoHome_axis { u.command 1 true with cle := cle }
  rw [hcle, haxis, hgroup, ← hu]
  exact ⟨group, cle, axis, _, rfl, hon⟩

theorem arm_of_healthy (hm : s.mode = .surveyed) (hl : s.layup.step = 0) (hh : s.healthy = true) (hf : s.fuses.lifecycle = 2) :
    s.arm = (0, s.enterArmed) := by
  simp [State.arm, hm, hl, hh, hf]

theorem arm_elsewhere (hm : s.mode ≠ .surveyed) : s.arm = (4, s) := by simp [State.arm, hm]

theorem arm_refused (hm : s.mode = .surveyed) (hl : s.layup.step = 0) (h : s.healthy = false ∨ s.fuses.lifecycle ≠ 2) : s.arm = (8, s) := by
  simp [State.arm, hm, hl, h]

theorem disarmCommand_of_active (h : s.mode = .armed ∨ s.mode = .running) : s.disarmCommand = (0, s.trigger 19 3 false) := by
  simp [State.disarmCommand, State.disarm, h]

theorem disarmCommand_elsewhere (ha : s.mode ≠ .armed) (hr : s.mode ≠ .running) : s.disarmCommand = (4, s) := by
  simp [State.disarmCommand, ha, hr]
end Arm

/-! R255, R291: RELEASE. -/
section Release
variable {s : State}

theorem release_clears (hm : s.mode = .surveyed ∨ (s.mode = .faultHold ∧ s.releasable = true)) (hp : s.persisting = 0)
    (ht : s.sf.tripReq = true → s.feedbackOpen = true) : s.release = (0, { s.clearLatches with mode := .surveyed }) := by
  have hstate : ¬ (s.mode ≠ .surveyed ∧ s.mode ≠ .faultHold) := by
    rintro ⟨hsurveyed, hhold⟩
    exact hm.elim hsurveyed fun h => hhold h.1
  have hleft : ¬ (s.persisting ≠ 0 ∨ (s.sf.tripReq ∧ !s.feedbackOpen)) := by simpa [hp] using ht
  have hreset : ¬ (s.mode = .faultHold ∧ !s.releasable) := by
    rintro ⟨hhold, hnot⟩
    rcases hm with hm | ⟨-, hrel⟩
    · exact absurd (hm.symm.trans hhold) (by decide)
    · simp [hrel] at hnot
  rw [State.release, if_neg hstate]
  dsimp only
  rw [if_neg hleft, if_neg hreset]

theorem release_of_persisting (hm : s.mode = .surveyed ∨ s.mode = .faultHold) (hp : s.persisting ≠ 0) :
    s.release = (8, { s with sf := { s.sf with latched := s.sf.latched &&& s.persisting } }) := by
  have hstate : ¬ (s.mode ≠ .surveyed ∧ s.mode ≠ .faultHold) := fun h => hm.elim h.1 h.2
  rw [State.release, if_neg hstate]
  dsimp only
  rw [if_pos (.inl hp)]
  rfl

/-- R280, R285, R291: no latch of a pair or an output is left. -/
theorem clearLatches_latches (s : State) : (∀ k : Fin 8, s.clearLatches.sf.pair[k.val].latched = false) ∧
    ∀ k : Fin 8, s.clearLatches.sf.output[k.val].stuckOn = false ∧ s.clearLatches.sf.output[k.val].stuckOff = false := by
  simp [State.clearLatches, State.modSf]

theorem bitAt_two_pow (k l : Nat) : bitAt (2 ^ k) l = decide (k = l) := by
  rw [bitAt, Nat.testBit_two_pow]

theorem filter_allLegs_eq (leg : Leg) : allLegs.filter (fun l => leg.val = l.val) = [leg] := by revert leg; decide

/-- R255: a mask that names one latched leg whose cause has cleared. -/
theorem releaseLegs_single {leg : Leg} (hm : s.mode = .surveyed ∨ s.mode = .armed ∨ s.mode = .running) (hf : s.conv[leg.val].st = .fault)
    (hp : s.legPersists leg = false) : s.releaseLegs (2 ^ leg.val) = (0, s.unlatchLeg leg) := by
  have hstate : s.inStates [.surveyed, .armed, .running] = true := by simpa [State.inStates] using hm
  have hmask : 2 ^ leg.val < 16 := Nat.pow_lt_pow_right (by decide) leg.isLt
  have hnamed : allLegs.filter (fun l => bitAt (2 ^ leg.val) l.val && s.conv[l.val].st == .fault) = [leg] := by
    refine (List.filter_congr fun l _ => ?_).trans (filter_allLegs_eq leg)
    rw [bitAt_two_pow]
    by_cases h : leg.val = l.val
    · simp [← h, hf]
    · simp [h]
  simp [State.releaseLegs, hstate, hnamed, hp, hmask]

theorem phaseA_ne_phaseB (leg : Leg) : phaseA leg ≠ phaseB leg := by revert leg; decide

theorem unlatchLeg_spec (leg : Leg) (s : State) : ∃ t, s.unlatchLeg leg = t ∧ t.conv[leg.val] = { s.conv[leg.val] with st := .disabled, cause := 0 } ∧
    t.pwm[(phaseA leg).val] = { s.pwm[(phaseA leg).val] with run := 0 } ∧ t = { s with conv := t.conv, pwm := t.pwm } := by
  refine ⟨_, rfl, ?_, ?_, rfl⟩
  · simp [State.unlatchLeg]
  · rw [State.unlatchLeg]
    dsimp only
    rw [State.modPwm_pwm, vmod_other _ _ _ _ (phaseA_ne_phaseB leg), State.modPwm_pwm, vmod_same]
    rfl
end Release

/-! R68, R220: RESET; R76: LAY_UP. -/
section ResetLayUp
variable {s : State}

theorem resetCommand_now (hm : s.mode = .surveyed ∨ s.mode = .faultHold) (hl : s.start.learnedRead = false) :
    s.resetCommand = (0, s.moduleReset 128) := by
  simp [State.resetCommand, hm, State.orderlyReset, hl, cHost]

theorem resetCommand_waits (hm : s.mode = .surveyed ∨ s.mode = .faultHold) (hl : s.start.learnedRead = true) (hd : s.learn.due = none) :
    s.resetCommand = (0, { s with learn := { s.learn with due := some 6, shutdown := 2 } }) := by
  simp [State.resetCommand, hm, State.orderlyReset, hl, learnTrigger_of_read, hd, lowerCode]

theorem resetCommand_elsewhere (hs : s.mode ≠ .surveyed) (hf : s.mode ≠ .faultHold) : s.resetCommand = (4, s) := by
  simp [State.resetCommand, hs, hf]

theorem layUp_accepted (hm : s.mode = .surveyed) (hs : s.layup.step = 0) (hd : s.layup.due = false) :
    s.layUp = (0, { s with layup := { s.layup with due := true } }) := by
  simp [State.layUp, hm, hs, hd]

theorem layUp_refused (h : s.mode ≠ .surveyed ∨ s.layup.step ≠ 0 ∨ s.layup.due = true) : s.layUp = (4, s) := by
  simp [State.layUp, h]

/-! R76, R165: the beginning of the laid-up sequence. Whether a leg can be measured does not turn on the frames planned for it. -/
theorem planAt_measurable (first : Bool) (leg : Leg) (b : Bool) (cmd stake : Nat) (payload : List Byte) (s : State) (l : Leg) :
    (s.planAt first leg b cmd stake payload).measurable l = s.measurable l := by
  unfold State.planAt
  dsimp only
  split
  · rfl
  · by_cases hl : l = leg
    · subst hl
      simp [State.measurable, State.populated, State.inStates, State.pushFlit]
    · simp [State.measurable, State.populated, State.inStates, State.pushFlit, vmod_other _ _ _ _ hl]

theorem planFirst_measurable (leg : Leg) (cmd : Nat) (payload : List Byte) (s : State) (l : Leg) :
    (s.planFirst leg cmd payload).measurable l = s.measurable l :=
  List.foldlRecOn (motive := fun t : State => t.measurable l = s.measurable l) _ _ rfl
    fun _ ht _ _ => (planAt_measurable ..).trans ht

theorem stopBalancing_measurable (leg : Leg) (s : State) (l : Leg) : (s.stopBalancing leg).measurable l = s.measurable l := by
  unfold State.stopBalancing
  split
  · exact planFirst_measurable ..
  · rfl

theorem stopAllBalancing_measurable (s : State) (l : Leg) : s.stopAllBalancing.measurable l = s.measurable l :=
  List.foldlRecOn (motive := fun t : State => t.measurable l = s.measurable l) allLegs _ rfl
    fun _ ht _ _ => (stopBalancing_measurable ..).trans ht

theorem foldl_planSleep_of_unmeasured {u : State} (h : ∀ l : Leg, u.measurable l = false) : allLegs.foldl (fun t l => t.planSleep l) u = u :=
  List.foldlRecOn (motive := fun t : State => t = u) allLegs _ rfl fun t ht l _ => by
    subst ht
    simp [State.planSleep, h l]

theorem layupPersist_begins (hs : s.layup.step = 1) (ha : s.layup.awaiting = []) (hl : s.start.learnedRead = true) : s.layupPersist = { s with
    layup := { s.layup with step := 2 }, learn := { s.learn with due := some (lowerCode 6 s.learn.due), shutdown := 1 } } := by
  rw [State.layupPersist, if_pos ⟨hs, ha⟩, learnTrigger_of_read hl]

/-- R76: without a leg that can be measured no station is awaited, and step 2 begins at once. -/
theorem beginLayup_of_unmeasured (hd : s.layup.due = true) (hm : s.mode = .surveyed) (hl : s.start.learnedRead = true)
    (hu : ∀ l : Leg, s.measurable l = false) : ∃ t, s.beginLayup = t ∧ t.mode = .surveyed ∧ t.layup.step = 2 ∧ t.layup.due = false ∧
      t.learn.shutdown = 1 ∧ t.learn.due.isSome = true := by
  have hfold := foldl_planSleep_of_unmeasured
    (u := { s.stopAllBalancing with layup := { s.layup with due := false, step := 1, awaiting := [] } })
    fun l => (stopAllBalancing_measurable s l).trans (hu l)
  obtain ⟨hmode, hread⟩ : s.stopAllBalancing.mode = .surveyed ∧ s.stopAllBalancing.start.learnedRead = true := by
    obtain ⟨_, _, _, hbalance, -⟩ := plans_stopAllBalancing s
    rw [hbalance]
    exact ⟨hm, hl⟩
  rw [State.beginLayup, if_neg (by simp [hd]), if_neg (by simp [hm])]
  exact ⟨_, (congrArg State.layupPersist hfold).trans (layupPersist_begins rfl rfl hread), hmode, rfl, rfl, rfl, rfl⟩
end ResetLayUp

/-- Settles O54: each command is served by the rule of its state, and answered unless it resets at once. -/
theorem moduleCommands : Obligations.ModuleCommands := by
  unfold Obligations.ModuleCommands
  refine ⟨?arm, ?armElsewhere, ?armRefused, ?disarm, ?disarmElsewhere, ?release, ?releasePersisting, ?releaseLeg, ?reset, ?resetWaits,
    ?resetElsewhere, ?layUp, ?layUpRefused, ?beginLayup⟩
  case arm =>
    intro r s u ha hc hm hl hh hf
    obtain ⟨group, cle, axis, therm, harmed, hon⟩ := enterArmed_spec u
    have hkept := State.enterArmed_kept u
    rw [harmed] at hkept
    have hcommand := (command1_arm hc).trans ((arm_of_healthy hm hl hh hf).trans (congrArg _ harmed))
    exact ⟨_, congrArg _ (command_answered ha hc hcommand Mode.noConfusion), rfl, rfl, hon, rfl, rfl, rfl, hkept⟩
  case armElsewhere =>
    intro r s u ha hc hm hb
    exact congrArg _ (command_answered ha hc ((command1_arm hc).trans (arm_elsewhere hm)) hb)
  case armRefused =>
    intro r s u ha hc hm hl h
    exact congrArg _ (command_answered ha hc ((command1_arm hc).trans (arm_refused hm hl h)) (by simp [hm]))
  case disarm =>
    intro r s u ha hc hm
    obtain ⟨-, -, -, -, -, hactive, -⟩ := trigger_demands 19 3 false u
    obtain ⟨hstopping, -⟩ := hactive hm
    exact ⟨_, congrArg _ (command_answered ha hc ((command1_disarm hc).trans (disarmCommand_of_active hm)) (by simp [hstopping])),
      trigger_demands 19 3 false u⟩
  case disarmElsewhere =>
    intro r s u ha hc h1 h2 hb
    exact congrArg _ (command_answered ha hc ((command1_disarm hc).trans (disarmCommand_elsewhere h1 h2)) hb)
  case release =>
    intro r s u ha hc hl hz hm hp ht
    obtain ⟨hpair, houtput⟩ := clearLatches_latches u
    have hcommand := (command1_release hc hl hz).trans (release_clears hm hp ht)
    exact ⟨_, congrArg _ (command_answered ha hc hcommand Mode.noConfusion), rfl, rfl, rfl, rfl, rfl, hpair, houtput, rfl⟩
  case releasePersisting =>
    intro r s u ha hc hl hz hm hp
    have hboot : u.mode ≠ .boot := by rcases hm with hm | hm <;> simp [hm]
    exact congrArg _ (command_answered ha hc ((command1_release hc hl hz).trans (release_of_persisting hm hp)) hboot)
  case releaseLeg =>
    intro leg r s u ha hc hl hz hm hf hp
    obtain ⟨t, ht, hconv, hpwm, hframe⟩ := unlatchLeg_spec leg u
    have hboot : u.mode ≠ .boot := by rcases hm with hm | hm | hm <;> simp [hm]
    have hmask : fieldAt 4 1 r.payload ≠ 0 := by simp [hz]
    have hcommand := (command1_releaseLegs (u := u) hc hl hmask).trans (hz ▸ releaseLegs_single hm hf hp)
    rw [ht] at hcommand
    exact ⟨t, congrArg _ (command_answered ha hc hcommand (by rw [hframe]; exact hboot)), hconv, hpwm, hframe⟩
  case reset =>
    intro r s u ha hc hm hl
    have hcommand := (command1_reset hc).trans (resetCommand_now hm hl)
    exact ⟨_, congrArg Host.Outcome.next ((subRequest_of_accepted ha hc).trans (serveCommand_of_reset hcommand rfl)), moduleReset_restarts 128 u⟩
  case resetWaits =>
    intro r s u ha hc hm hl hd
    have hboot : u.mode ≠ .boot := by rcases hm with hm | hm <;> simp [hm]
    exact congrArg _ (command_answered ha hc ((command1_reset hc).trans (resetCommand_waits hm hl hd)) hboot)
  case resetElsewhere =>
    intro r s u ha hc h1 h2 hb
    exact congrArg _ (command_answered ha hc ((command1_reset hc).trans (resetCommand_elsewhere h1 h2)) hb)
  case layUp =>
    intro r s u ha hc hm hs hd
    have hboot : u.mode ≠ .boot := by simp [hm]
    exact congrArg _ (command_answered ha hc ((command1_layUp hc).trans (layUp_accepted hm hs hd)) hboot)
  case layUpRefused =>
    intro r s u ha hc h hb
    exact congrArg _ (command_answered ha hc ((command1_layUp hc).trans (layUp_refused h)) hb)
  case beginLayup =>
    intro s hd hm hl hu
    obtain ⟨t, ht, hmode, hstep, hdue, hshutdown, hlearn⟩ := beginLayup_of_unmeasured hd hm hl hu
    exact ⟨t, ht, hmode, hstep, hdue, hshutdown, hlearn, ht ▸ State.beginLayup_kept s⟩
end Sys2Proof.Machine
end
section
/-! SUPPORT. What every step keeps (R83, R354, R408, R446): each command ends in a next state, the queue gives up its front alone, fuses
are only blown further, and both flash memories stay canonical. -/
namespace Sys2Proof.Machine

/-- The outcome is a next state: the block goes on. -/
def Answers (o : Host.Outcome State Fault Refusal) : Prop := ∃ t, o = .next t

theorem answers_next (t : State) : Answers (.next t) := ⟨t, rfl⟩

theorem answers_ite {c : Prop} [Decidable c] {a b : Host.Outcome State Fault Refusal} (ha : Answers a) (hb : Answers b) :
    Answers (if c then a else b) := by
  split
  · exact ha
  · exact hb

/-- The meaning of a command is a tree of tests (`if` and `match`) with a next state at every leaf. The meanings unfolded by name are
those with a `match`; `answers_ite` sees through the others. -/
theorem exec_answers (i : Instr) (s : State) : Answers (exec i s) := by
  cases i
  all_goals dsimp only [exec, execPlatInstallProgram, execPlatBodyCheck, execLearnedValuesRead, execLearnedSnapshot, execLearnedWriteComplete,
    execBaselineFlitReceived, execBaselineFlitRelease, execMemoryEccUncorrectable, execPtpFollowUpReceived, execPtpDelayRespReceived,
    execTrainReturnTimeout, execBalSwitchTestSchedule, execModeChangeBankSwitch, execLoadStepTurnOff, execContactorSequenceStep,
    execDarkTestStart, execDarkTestOffCheck, execDarkTestRecoveryCheck, execStandbyCleStart, execTwinSampleCompare, execJoinRequest,
    execAxisHomeEdge, execAxisLimit, execSubscriptionPublish, execCanArbitrationStart, execCanTxComplete, execCanTxError, execCanMapTimeout,
    execCanTxMapSend, execBacksightFlitSend]
  all_goals repeat' first | exact answers_next _ | apply answers_ite | split

/-- The commands that can write a fuse or a flash memory are the host's requests (those held during a key re-derivation among them) and the
work on the store and the plat flash, also at a loss of power and in laying up; every other command keeps all four parts. -/
theorem exec_goes (i : Instr) (s : State) : OutGoes (exec i s) s := by
  cases i
  case hostRead | hostWrite | hostSubscribe => exact State.hostRequest_goes ..
  case eventsRead | eventsFollow | eventsUnfollow | commandArm | commandDisarm | commandRelease | commandReset | commandLayUp
      | commandDispatch | commandSwap | commandPlatStage | commandPlatInstall | commandKeyRevoke | windowRead | windowWrite | windowErase
      | windowFlush | windowStatus | windowResume | windowAbandon | updateHeader | updateBody | updateApply | updateStart | updateReject
      | updateAbort | updateStatus | canTxLoad | canTxAbort | canTxStatus | canRxRead | canRxAck | canControllerStatus =>
    exact State.subRequest_goes ..
  case bootSlotSelect => exact execBootSlotSelect_goes ..
  case platInstallProgram => exact execPlatInstallProgram_goes ..
  case learnedValuesRead => exact execLearnedValuesRead_goes ..
  case learnedWriteComplete => exact execLearnedWriteComplete_goes ..
  case dmaBurst => exact execDmaBurst_goes ..
  case dmaResume => exact execDmaResume_goes ..
  case flashProgramComplete => exact execFlashProgramComplete_goes ..
  case flashEraseComplete => exact execFlashEraseComplete_goes ..
  case portTimeout => exact execPortTimeout_goes ..
  case fieldBookReplay => exact execFieldBookReplay_goes ..
  case applyBlockComplete => exact execApplyBlockComplete_goes ..
  case windowW5Store => exact execWindowW5Store_goes ..
  case lastGaspStart => exact execLastGaspStart_goes ..
  case lastGaspComplete => exact execLastGaspComplete_goes ..
  case layupPersistDone => exact execLayupPersistDone_goes ..
  case keyRederivationComplete => exact execKeyRederivationComplete_goes ..
  all_goals exact outGoes_of_keeps (by simp [exec])

theorem exec_next_goes (i : Instr) (s : State) : ∃ t, exec i s = .next t ∧ Goes s.kept t.kept := by
  obtain ⟨t, ht⟩ := exec_answers i s
  have hgoes := exec_goes i s
  rw [ht] at hgoes
  exact ⟨t, ht, hgoes⟩

/-- A step goes on from what the state has once the front of its queue is taken. -/
theorem step_next_goes (s : State) : ∃ t, step s = .next t ∧ Goes ({ s with pending := s.pending.tail } : State).kept t.kept := by
  unfold step
  split
  next hempty =>
    exact ⟨s, rfl, by simp [State.kept, hempty, Goes.refl]⟩
  next c rest hfront =>
    rw [hfront, List.tail_cons]
    exact exec_next_goes c _

/-- Settles O3: the commands that write what the statement names are those of `exec_goes`. -/
theorem everyStepKeeps : Obligations.EveryStepKeeps := by
  unfold Obligations.EveryStepKeeps
  intro s
  obtain ⟨t, ht, hpending, hfuses, hstore, hflash⟩ := step_next_goes s
  exact ⟨t, ht, hpending, hfuses, fun ⟨hs, hf⟩ => ⟨hstore hs, hflash hf⟩⟩
end Sys2Proof.Machine
end

section
/-! SUPPORT. The plat and key commands (R100, R102, R106, R408, R419): what each answers and what it changes, by the state it meets. -/
namespace Sys2Proof.Machine

section PlatAndKeys
variable {s u : State} {r : HostReq}

theorem command1_platStage (hc : fieldAt 0 1 r.payload = 0x30) : u.command1 r = u.platStage := by simp [State.command1, hc]
theorem command1_platInstall (hc : fieldAt 0 1 r.payload = 0x31) : u.command1 r = u.platInstall := by simp [State.command1, hc]
theorem command1_keyRevoke (hc : fieldAt 0 1 r.payload = 0x40) : u.command1 r = u.keyRevoke r.keyId r.payload := by simp [State.command1, hc]

/-! R100, R102, R106: PLAT_INSTALL. -/

theorem installState_of_surveyed (hm : s.mode = .surveyed) : s.installState = true := by simp [State.installState, hm]

theorem installState_elsewhere (hs : s.mode ≠ .surveyed) (hf : s.mode ≠ .faultHold) : s.installState = false := by
  simp [State.installState, hs, hf]

/-- R106: FAULT-HOLD takes an installation in recovery, or where the plat allows it. -/
theorem installState_of_faultHold (hm : s.mode = .faultHold) (hr : s.plat.recovery = false) (hp : s.par P.installInFaultHold ≠ 1) :
    s.installState = false := by
  simp [State.installState, hm, hr, hp]

theorem platInstall_elsewhere (h : s.installState = false) : s.platInstall = (4, s) := by simp [State.platInstall, h]

theorem platInstall_refused (h : s.installState = true)
    (hr : s.stagedResult ≠ 0 ∨ (s.plat.recovery = false ∧ s.par P.platInstallEnable = 0)) : s.platInstall = (8, s) := by
  rcases hr with hstage | ⟨hrec, hen⟩
  · simp [State.platInstall, h, hstage]
  · simp [State.platInstall, h, hrec, hen]

/-- R102: the install control turns to READY for the other copy, and without a learned set to write the reset follows at once. -/
theorem platInstall_resets (h : s.installState = true) (hr : s.plat.recovery = false) (he : s.par P.platInstallEnable = 1)
    (hs : s.stagedResult = 0) (hl : s.start.learnedRead = false) : s.platInstall = (0,
      (s.programInstall true (if s.plat.copy = 0 then 1 else 0) 0 s.stagedHeader.serial s.stagedHeader.bodyHash).moduleReset cHost) := by
  obtain ⟨store, hprogram⟩ := programInstall_eq true (if s.plat.copy = 0 then 1 else 0) 0 s.stagedHeader.serial s.stagedHeader.bodyHash s
  simp [State.platInstall, h, hr, he, hs, State.orderlyReset, hprogram, hl]

/-! R408: KEY_REVOKE. -/

/-- R408: a slot revoked: its fuse is blown, and what its key subscribes to or follows is dropped. -/
def State.revokeSlot (k : Fin 8) (s : State) : State :=
  { s with
    fuses := { s.fuses with hostRevoked := vmod s.fuses.hostRevoked k (fun _ => true) }
    host := { s.host with subs := s.host.subs.filter (fun x => x.key != k.val), followers := s.host.followers.filter (fun f => f.key != k.val) } }

theorem keyRevoke_revokes {p : List Byte} {own : Nat} {k : Fin 8} (hl : 5 ≤ p.length) (hk : fieldAt 4 1 p = k.val) (ho : k.val ≠ own)
    (hm : s.otherMaintenance k.val = true) : s.keyRevoke own p = (0, s.revokeSlot k) := by
  have hslot : slotIndex k.val = k := Fin.ext (Nat.mod_eq_of_lt k.isLt)
  simp [State.keyRevoke, hk, Nat.not_lt.mpr hl, Nat.not_lt.mpr (Nat.lt_succ_iff.mp k.isLt), ho, hm, hslot, State.revokeSlot, State.modHost]

theorem keyRevoke_refused {p : List Byte} {own : Nat} (hl : 5 ≤ p.length) (hk : fieldAt 4 1 p ≤ 7)
    (h : fieldAt 4 1 p = own ∨ s.otherMaintenance (fieldAt 4 1 p) = false) : s.keyRevoke own p = (8, s) := by
  simp [State.keyRevoke, Nat.not_lt.mpr hl, Nat.not_lt.mpr hk, h]
end PlatAndKeys

/-- Settles O55: each command is served by the rule of its state, and answered unless it resets at once. -/
theorem platAndKeyCommands : Obligations.PlatAndKeyCommands := by
  unfold Obligations.PlatAndKeyCommands
  refine ⟨?stage, ?install, ?installRefused, ?installElsewhere, ?installFaultHold, ?revoke, ?revokeRefused⟩
  case stage =>
    intro r s u ha hc hb
    exact congrArg _ (command_answered ha hc (command1_platStage hc) hb)
  case install =>
    intro r s u ha hc hm hr he hs hl
    have hcommand := (command1_platInstall hc).trans (platInstall_resets (installState_of_surveyed hm) hr he hs hl)
    exact ⟨_, _, congrArg Host.Outcome.next ((subRequest_of_accepted ha hc).trans (serveCommand_of_reset hcommand rfl)),
      moduleReset_restarts 128 _, rfl⟩
  case installRefused =>
    intro r s u ha hc hm h
    have hcommand := (command1_platInstall hc).trans (platInstall_refused (installState_of_surveyed hm) h)
    exact congrArg _ (command_answered ha hc hcommand (by simp [hm]))
  case installElsewhere =>
    intro r s u ha hc h1 h2 hb
    have hcommand := (command1_platInstall hc).trans (platInstall_elsewhere (installState_elsewhere h1 h2))
    exact congrArg _ (command_answered ha hc hcommand hb)
  case installFaultHold =>
    intro r s u ha hc hm hr hp
    have hcommand := (command1_platInstall hc).trans (platInstall_elsewhere (installState_of_faultHold hm hr hp))
    exact congrArg _ (command_answered ha hc hcommand (by simp [hm]))
  case revoke =>
    intro k r s u ha hc hl hk ho hm hb
    have hcommand := (command1_keyRevoke hc).trans (keyRevoke_revokes hl hk ho hm)
    exact ⟨u.revokeSlot k, congrArg _ (command_answered ha hc hcommand hb), vmod_same .., fun j hj => vmod_other _ _ _ _ hj,
      by simp [State.revokeSlot], by simp [State.revokeSlot], rfl⟩
  case revokeRefused =>
    intro r s u ha hc hl hk hb h
    exact congrArg _ (command_answered ha hc ((command1_keyRevoke hc).trans (keyRevoke_refused hl hk h)) hb)
end Sys2Proof.Machine
end

section
/-! SUPPORT. What happens to a station of itself (R114, R122 to R124, R130, R132, R141, R160, R162, R166): each event is one station of a
chain changed, and what it makes of that station. -/
namespace Sys2Proof.Machine

/-! One station of a chain changed. -/
section OneStation
variable {leg : Leg} {pos : Nat} {f : Station → Station} {s : State}

theorem stationGoes_modChain (leg : Leg) (pos : Nat) (f : Station → Station) (s : State) : s.stationGoes leg pos f (s.modChain leg pos f) := by
  refine ⟨rfl, fun _ hl => vmod_other _ _ _ _ hl, by simp [State.modChain], fun i => ?_⟩
  simp [State.modChain, updAt, List.getElem?_modify, @eq_comm _ pos i]

/-- A command that changes one station. -/
theorem stationGoes_of_exec {c : Instr} (h : exec c s = .next (s.modChain leg pos f)) : ∃ t, exec c s = .next t ∧ s.stationGoes leg pos f t :=
  ⟨_, h, stationGoes_modChain leg pos f s⟩

/-- R124: a station of the chain powers up; what its receive pairs hear stands. -/
theorem exec_stationPowerUp (h : pos < s.ring[leg.val].chain.length) (uid hw rom : Nat) : exec (.stationPowerUp leg pos uid hw rom) s =
    .next (s.modChain leg pos (fun (old : Station) =>
      { uid := uid, hwId := hw, romVersion := rom, lostUp := old.lostUp, lostDown := old.lostDown, toneLost := old.toneLost })) := by
  have hexec : exec (.stationPowerUp leg pos uid hw rom) s = execStationPowerUp leg pos uid hw rom s := rfl
  rw [hexec]
  simp [execStationPowerUp, State.modChain, State.modRing, vmod, h, Station.powerUp]
end OneStation

/-! R123, R160, R162: the end of a test. -/
section TestEnd
variable (sel : Nat) (openWire : Bool) (values : List Int)

/-- The results that stand at the end of a test of a selection. -/
def testResults : List Int :=
  values.zipIdx.map (fun p => if bitAt sel p.2 || (!openWire && decide (16 ≤ p.2)) then p.1 else 0)

theorem finish_eq {x : StationTest} {sel : Nat} (h : x.running = some sel) (aborted : Bool) : x.finish aborted openWire values =
    { x with running := none, on := 0, endedSeq := x.seq, state := if aborted then 2 else 0
             values := if aborted then [] else testResults sel openWire values } := by
  simp only [StationTest.finish, h, testResults]

theorem length_testResults : (testResults sel openWire values).length = values.length := by simp [testResults]

theorem getElem?_testResults (i : Nat) : (testResults sel openWire values)[i]? =
    values[i]?.map (fun v => if bitAt sel i || (!openWire && decide (16 ≤ i)) then v else 0) := by
  cases h : values[i]? <;> simp [testResults, h]

variable {sel} {i : Nat}

theorem nth_testResults_selected (h : bitAt sel i = true) : nth (testResults sel openWire values) i 0 = nth values i 0 := by
  simp [List.getD_eq_getElem?_getD, getElem?_testResults, h]

/-- Results of lines and cells that were not selected are 0. -/
theorem nth_testResults_unselected (h : bitAt sel i = false) (hi : i < 16) : nth (testResults sel openWire values) i 0 = 0 := by
  cases hv : values[i]? <;> simp [List.getD_eq_getElem?_getD, getElem?_testResults, h, Nat.not_le.mpr hi, hv]
end TestEnd

/-- R122: of two windows the one that ends first is over. -/
theorem endWindow_of_two {st : Station} {a b : Nat × Nat} (hq : st.quiets = [a, b]) (h : a.2 < b.2) :
    st.endWindow = { st with quiets := [b] } := by
  have hmin : listMin? (st.quiets.map (fun q => (q.2 : Int))) = some (a.2 : Int) := by
    simp [hq, listMin?, min_eq_right (Int.ofNat_le.mpr h.le)]
  simp only [Station.endWindow, hmin]
  simp [hq, h]

/-- Settles O23: an event changes one station, as `stationGoes_modChain` says; the end of a test by the rules of its results. -/
theorem stationEvents : Obligations.StationEvents := by
  unfold Obligations.StationEvents
  refine ⟨fun _ _ _ _ _ _ _ => stationGoes_of_exec rfl, ?convert, fun _ _ _ _ _ _ => stationGoes_of_exec rfl, ?finish,
    fun _ _ _ => stationGoes_of_exec rfl, fun _ _ _ => stationGoes_of_exec rfl, fun _ _ _ => stationGoes_of_exec rfl,
    fun _ => ⟨rfl, rfl, rfl, rfl, rfl, rfl, rfl, rfl⟩, fun _ _ _ => stationGoes_of_exec rfl, fun _ _ _ _ _ => stationGoes_of_exec rfl,
    fun _ _ _ _ _ => stationGoes_of_exec rfl, fun _ _ _ _ => stationGoes_of_exec rfl, fun _ _ _ => stationGoes_of_exec rfl,
    fun _ _ _ hq h => endWindow_of_two hq h, fun _ _ _ _ _ _ h => stationGoes_of_exec (exec_stationPowerUp h ..)⟩
  case convert =>
    intro st cells v round tag wait late near h
    simp only [Station.convert, h]
  case finish =>
    intro x sel aborted openWire values h
    refine ⟨_, finish_eq openWire values h aborted, rfl, rfl, rfl, rfl, rfl, fun ha => if_pos ha, fun ha => ?_, fun ha i hi => ?_⟩
    · subst ha
      exact ⟨length_testResults .., fun i hi hsel => nth_testResults_unselected _ _ hsel hi⟩
    · subst ha
      exact nth_testResults_selected _ _ hi

end Sys2Proof.Machine
end

section
/-! SUPPORT. The frames of a leg's ring (R112, R117, R120, R122, R135): what sending one changes, the masks that the module notes of a
BALANCE_SET, and the counted attempts of CODE_RUN. -/
namespace Sys2Proof.Machine

/-! Sparse maps. -/
section SparseMap
variable {α : Type} (d v : α) {j k : Nat} (xs : List (Nat × α))

theorem lookupD_insertKey_same : lookupD d (insertKey k v xs) k = v := by
  induction xs with
  | nil => simp [insertKey, lookupD]
  | cons p ps ih =>
    unfold insertKey
    split
    · simp [lookupD]
    · split
      · simp [lookupD]
      · next h => simpa [lookupD, Ne.symm h] using ih

theorem lookupD_insertKey_other (h : j ≠ k) : lookupD d (insertKey k v xs) j = lookupD d xs j := by
  induction xs with
  | nil => simp [insertKey, lookupD, Ne.symm h]
  | cons p ps ih =>
    unfold insertKey
    split
    · simp [lookupD, Ne.symm h]
    · split
      · next hk => simp [lookupD, Ne.symm h, ← hk]
      · by_cases hj : p.1 = j
        · simp [lookupD, hj]
        · simpa [lookupD, hj] using ih
end SparseMap

/-! A station's diagnostics. -/
section Diagnostics
variable {leg : Leg} {j k : Nat} (f : StationDiag → StationDiag) (s : State)

theorem sdiagAt_modStation_same : (s.modStation leg k f).sdiagAt leg k = f (s.sdiagAt leg k) := lookupD_insertKey_same ..

theorem sdiagAt_modStation_other (h : j ≠ k) : (s.modStation leg (k + 1) f).sdiagAt leg (j + 1) = s.sdiagAt leg (j + 1) :=
  lookupD_insertKey_other _ _ _ (by simpa [stationKey] using h)
end Diagnostics

/-- R115: a frame passes stations; their number stays. -/
theorem length_walk (h : Heard) (reach : Nat) (bad : Option Nat) (i next : Nat) (path : List (Station × StationSense)) :
    (walk h reach bad i next path).1.length = path.length := by
  induction path generalizing i next with
  | nil => rfl
  | cons x path ih =>
    unfold walk
    dsimp only
    repeat' split
    all_goals simp [ih]

/-! R112, R117, R118: a frame sent. -/
section Sent
variable {x : RingTx} {cmd : Nat} {payload : List Byte} {s t u : State}

theorem endIx_not_ne (b : Bool) : endIx (!b) ≠ endIx b := by cases b <;> decide

/-- What sending a frame from a free end makes of its ring. -/
theorem sendFrame_spec (hfree : s.ring[x.leg.val].flight[(endIx x.fromB).val] = none) : ∃ (chain : List Station) (f : Flight)
    (seq loadAt : Vector Nat 2) (due : List DueFrame), s.sendFrame x cmd payload = s.modRing x.leg (fun r =>
      { r with chain := chain, flight := vmod r.flight (endIx x.fromB) (fun _ => some f), seq := seq, loadAt := loadAt, due := due }) ∧
    chain.length = s.ring[x.leg.val].chain.length ∧ f.cmd = cmd ∧ f.stake = x.stake ∧ f.payload = payload ∧
    (x.retry = false → f.retries = 0 ∧ f.seq = s.ring[x.leg.val].seq[(endIx x.fromB).val] ∧
      seq[(endIx x.fromB).val] = (f.seq + 1) % 256) := by
  simp only [State.sendFrame, hfree, Option.isSome_none, Bool.false_eq_true, if_false]
  generalize hp : List.find? _ s.ring[x.leg.val].due = planned
  refine ⟨_, _, _, _, _, rfl, ?_, rfl, rfl, rfl, fun hr => ?_⟩
  · split <;> simp [length_walk]
  · cases planned <;> simp [hr]

/-- R112, R117: the frame is in flight, and no other leg's ring has changed. -/
theorem sent_sendFrame (hfree : s.ring[x.leg.val].flight[(endIx x.fromB).val] = none) : s.sent x cmd payload (s.sendFrame x cmd payload) := by
  obtain ⟨chain, f, seq, loadAt, due, heq, hlen, hcmd, hstake, hpayload, hnew⟩ := sendFrame_spec (cmd := cmd) (payload := payload) hfree
  rw [heq]
  refine ⟨fun l hl => vmod_other _ _ _ _ hl, by simp, by simp [hlen], ?_, f, by simp, hcmd, hstake, hpayload, fun hr => ?_⟩
  · rw [State.modRing_ring, vmod_same]
    exact vmod_other _ _ _ _ (endIx_not_ne _)
  · obtain ⟨hretries, hseq, hnext⟩ := hnew hr
    exact ⟨hretries, hseq, by simpa using hnext⟩

theorem sendFrame_codeRuns (hfree : s.ring[x.leg.val].flight[(endIx x.fromB).val] = none) :
    (s.sendFrame x cmd payload).ring[x.leg.val].codeRuns = s.ring[x.leg.val].codeRuns := by
  obtain ⟨_, _, _, _, _, heq, -⟩ := sendFrame_spec (cmd := cmd) (payload := payload) hfree
  simp [heq]

theorem ringOnly_sendFrame (hfree : s.ring[x.leg.val].flight[(endIx x.fromB).val] = none) : s.ringOnly x.leg (s.sendFrame x cmd payload) := by
  obtain ⟨_, _, _, _, _, heq, -⟩ := sendFrame_spec (cmd := cmd) (payload := payload) hfree
  rw [heq]
  exact ringOnly_modRing _

/-- What a frame sent does not turn on: the state outside the rings, and the count of CODE_RUN attempts. -/
theorem State.sent.of_codeRuns (h : s.sent x cmd payload t) (n : Nat)
    (hu : u.ring = vmod t.ring x.leg (fun r => { r with codeRuns := n })) : s.sent x cmd payload u := by
  obtain ⟨hlegs, hring, hchain, hother, f, hf, hfields⟩ := h
  refine ⟨fun l hl => ?_, ?_, ?_, ?_, f, ?_, ?_⟩
  · rw [hu, vmod_other _ _ _ _ hl, hlegs l hl]
  all_goals rw [hu, vmod_same]
  · rw [hring]
  · exact hchain
  · exact hother
  · exact hf
  · exact hfields

theorem State.sent.of_ring_eq (h : s.sent x cmd payload t) (hu : u.ring = t.ring) : s.sent x cmd payload u := by
  unfold State.sent at h ⊢
  rwa [hu]
end Sent

/-! R62, R117, R120, R136, R146: whether a frame goes out. -/
section Launch
variable {x : RingTx} {cmd : Nat} {payload : List Byte} {s : State}

theorem flight_of_mayLaunch (h : s.mayLaunch x cmd payload = true) : s.ring[x.leg.val].flight[(endIx x.fromB).val] = none := by
  simp only [State.mayLaunch, Bool.and_eq_true, Option.isNone_iff_eq_none, and_assoc] at h
  obtain ⟨-, -, hfree, -⟩ := h
  exact hfree

theorem launch_of_launches (h : s.launches x cmd payload) : s.launch x cmd payload = s.sendFrame x cmd payload := by
  obtain ⟨hmay, htwin | hown⟩ := h
  · simp [State.launch, hmay, htwin]
  · simp [State.launch, hmay, hown]

theorem launch_of_not_mayLaunch (h : s.mayLaunch x cmd payload = false) : s.launch x cmd payload = s := by simp [State.launch, h]

theorem sent_launch (h : s.launches x cmd payload) : s.sent x cmd payload (s.launch x cmd payload) := by
  rw [launch_of_launches h]
  exact sent_sendFrame (flight_of_mayLaunch h.1)

theorem ringOnly_launch (h : s.launches x cmd payload) : s.ringOnly x.leg (s.launch x cmd payload) := by
  rw [launch_of_launches h]
  exact ringOnly_sendFrame (flight_of_mayLaunch h.1)

/-- A command that sends its frame and does no more. -/
theorem sent_of_exec {c : Instr} (hc : exec c s = .next (s.launch x cmd payload)) (h : s.launches x cmd payload) :
    ∃ t, exec c s = .next t ∧ t = { s with ring := t.ring } ∧ s.sent x cmd payload t :=
  ⟨_, hc, (ringOnly_launch h).1, sent_launch h⟩

/-- A command that sends nothing where its frame may not go out. -/
theorem exec_of_not_mayLaunch {c : Instr} (hc : exec c s = .next (s.launch x cmd payload)) (h : s.mayLaunch x cmd payload = false) :
    exec c s = .next s := by rw [hc, launch_of_not_mayLaunch h]
end Launch

/-! R49, R122: the masks commanded. -/
section Masks
variable (leg : Leg) (duration : Nat) (mask : List Nat) (s : State)

/-- Only the legs' and the stations' diagnostics differ. -/
def State.diagnoses (s t : State) : Prop := t = { s with diag := t.diag, sdiag := t.sdiag }

theorem diagnoses_noteMasks : s.diagnoses (s.noteMasks leg duration mask) := by
  unfold State.noteMasks
  dsimp only
  refine List.foldlRecOn (motive := s.diagnoses) _ _ ?_ fun t ht k _ => ?_
  · split <;> rfl
  · rw [ht]
    rfl

theorem noteMasks_mask {k : Nat} (hk : k < s.stations leg) :
    ((s.noteMasks leg duration mask).sdiagAt leg (k + 1)).mask = if duration = 0 then 0 else nth mask k 0 := by
  unfold State.noteMasks
  dsimp only
  generalize hu : (if duration = 0 ∨ mask.all (· == 0) then s.modDiag leg (fun d => { d with draining := false }) else s) = u
  have hstations : u.stations leg = s.stations leg := by
    rw [← hu]
    split <;> rfl
  refine foldl_establishes (p := fun t => (t.sdiagAt leg (k + 1)).mask = if duration = 0 then 0 else nth mask k 0)
    (List.mem_range.2 (hstations ▸ hk)) (fun t => ?_) (fun t j ht => ?_) u
  · rw [sdiagAt_modStation_same]
  · by_cases hj : k = j
    · subst hj
      rw [sdiagAt_modStation_same]
    · rwa [sdiagAt_modStation_other _ _ hj]
end Masks

/-! BALANCE_SET and CODE_RUN, which note what they send. -/
section Noting
variable (x : RingTx) {s : State}

/-- The payload of a BALANCE_SET. -/
def balancePayload (duration : Nat) (mask : List Nat) : List Byte :=
  leBytes 2 duration ++ (List.range 24).flatMap (fun k => leBytes 2 (nth mask k 0))

/-- The payload of a CODE_RUN. -/
def runPayload (length crc version : Nat) : List Byte := leBytes 4 length ++ leBytes 4 crc ++ leBytes 4 version

theorem exec_traverseBalanceSet_eq (duration : Nat) (mask : List Nat) (s : State) : exec (.traverseBalanceSet x duration mask) s =
    .next (if s.mayLaunch x 0x20 (balancePayload duration mask) then
      (s.launch x 0x20 (balancePayload duration mask)).noteMasks x.leg duration mask else s) := rfl

theorem exec_traverseCodeRun_eq (length crc version : Nat) (s : State) : exec (.traverseCodeRun x length crc version) s =
    .next (if s.mayLaunch x 0x51 (runPayload length crc version) then
      (s.launch x 0x51 (runPayload length crc version)).modRing x.leg (fun r =>
        { r with codeRuns := if !x.retry && (s.endsInUse x.leg).head? == some x.fromB then r.codeRuns + 1 else r.codeRuns }) else s) := rfl

theorem exec_traverseBalanceSet {duration : Nat} {mask : List Nat} (h : s.launches x 0x20 (balancePayload duration mask)) :
    ∃ t, exec (.traverseBalanceSet x duration mask) s = .next t ∧ t = { s with ring := t.ring, diag := t.diag, sdiag := t.sdiag } ∧
      (∀ k : Nat, 1 ≤ k → k ≤ s.stations x.leg → (t.sdiagAt x.leg k).mask = if duration = 0 then 0 else nth mask (k - 1) 0) ∧
      s.sent x 0x20 (balancePayload duration mask) t := by
  obtain ⟨hlaunch, -⟩ := ringOnly_launch h
  have hsent := sent_launch h
  have hexec := exec_traverseBalanceSet_eq x duration mask s
  rw [if_pos h.1] at hexec
  generalize s.launch x 0x20 (balancePayload duration mask) = u at hlaunch hsent hexec
  have hnoted := diagnoses_noteMasks x.leg duration mask u
  refine ⟨_, hexec, ?_, fun k h1 hk => ?_, hsent.of_ring_eq (by rw [hnoted])⟩
  · rw [hnoted, hlaunch]
  · obtain ⟨k, rfl⟩ := Nat.exists_eq_add_of_le' h1
    exact noteMasks_mask x.leg duration mask u (by rw [hlaunch]; exact hk)

theorem exec_traverseCodeRun {length crc version : Nat} (h : s.launches x 0x51 (runPayload length crc version)) :
    ∃ t, exec (.traverseCodeRun x length crc version) s = .next t ∧ t = { s with ring := t.ring } ∧
      t.ring[x.leg.val].codeRuns = s.ring[x.leg.val].codeRuns + b2n (!x.retry && (s.endsInUse x.leg).head? == some x.fromB) ∧
      s.sent x 0x51 (runPayload length crc version) t := by
  obtain ⟨hlaunch, -⟩ := ringOnly_launch h
  have hsent := sent_launch h
  have hruns := sendFrame_codeRuns (cmd := 0x51) (payload := runPayload length crc version) (flight_of_mayLaunch h.1)
  rw [← launch_of_launches h] at hruns
  have hexec := exec_traverseCodeRun_eq x length crc version s
  rw [if_pos h.1] at hexec
  generalize s.launch x 0x51 (runPayload length crc version) = u at hlaunch hsent hruns hexec
  refine ⟨_, hexec, ?_, ?_, hsent.of_codeRuns _ rfl⟩
  · rw [hlaunch]
    rfl
  · rw [State.modRing_ring, vmod_same, ← hruns]
    cases !x.retry && (s.endsInUse x.leg).head? == some x.fromB <;> rfl
end Noting

/-- Settles O20: each command is `State.launch` of its frame, which goes out by `sent_launch`; BALANCE_SET and CODE_RUN note it. -/
theorem traverseFramesSent : Obligations.TraverseFramesSent := by
  unfold Obligations.TraverseFramesSent
  refine ⟨fun _ _ _ _ => sent_of_exec rfl, fun _ _ => sent_of_exec rfl, fun _ _ _ => sent_of_exec rfl, fun _ _ _ _ _ => sent_of_exec rfl,
    fun _ _ _ => sent_of_exec rfl, fun _ _ => sent_of_exec rfl, fun _ _ => sent_of_exec rfl, fun x _ _ _ => exec_traverseBalanceSet x,
    fun _ _ _ _ => sent_of_exec rfl, fun _ _ _ => sent_of_exec rfl, fun _ _ _ => sent_of_exec rfl, fun _ _ _ _ _ _ _ => sent_of_exec rfl,
    fun _ _ _ => sent_of_exec rfl, ?codeLoad, fun x _ _ _ _ => exec_traverseCodeRun x, fun _ _ _ _ => sent_of_exec rfl,
    fun _ _ _ _ => sent_of_exec rfl, fun _ _ _ _ => exec_of_not_mayLaunch rfl, fun _ _ _ => exec_of_not_mayLaunch rfl, ?balanceSet, ?codeRun,
    fun _ _ _ _ => exec_of_not_mayLaunch rfl⟩
  case codeLoad =>
    intro x addr data s h hlen
    have hexec : exec (.traverseCodeLoad x addr data) s = .next (s.launch x 0x50 (leBytes 4 addr ++ data.take 48)) := rfl
    rw [List.take_of_length_le hlen] at hexec
    exact sent_of_exec hexec h
  case balanceSet =>
    intro x duration mask s h
    exact (exec_traverseBalanceSet_eq x duration mask s).trans (by rw [balancePayload, h]; rfl)
  case codeRun =>
    intro x length crc version s h
    exact (exec_traverseCodeRun_eq x length crc version s).trans (by rw [runPayload, h]; rfl)

end Sys2Proof.Machine
end

section
/-! SUPPORT. Contact loss, split mode and loop mode (R131 to R134, R137): what the modes of a ring and the search of R133 make of it, and the
frames that they plan. -/
namespace Sys2Proof.Machine

/-! A leg's ring changed, and frames planned for it. -/
section RingPlanned
variable {leg : Leg} {s t u : State}

/-- A frame as it is planned. -/
def dueFrame (b : Bool) (cmd stake : Nat) (payload : List Byte) : DueFrame :=
  { fromB := b, cmd := cmd, stake := stake, payload := payload, retry := 0, seq := 0 }

/-- R136, R318: a unit that is not a standby plans a frame behind the others. -/
theorem plan_eq (hr : s.role ≠ .standby) (leg : Leg) (b : Bool) (cmd stake : Nat) (payload : List Byte) : s.plan leg b cmd stake payload =
    (s.pushFlit .c2f (if cmd = 0x50 then 4 else 3) leg.val 0 (.ringFrame leg b cmd payload)).modRing leg
      (fun r => { r with due := r.due ++ [dueFrame b cmd stake payload] }) := by
  simp [State.plan, State.planAt, hr, dueFrame]

theorem State.ringPlanned.trans (h : s.ringPlanned leg t) (k : t.ringPlanned leg u) : s.ringPlanned leg u := by
  obtain ⟨ht, hr⟩ := h
  obtain ⟨hu, kr⟩ := k
  exact ⟨by rw [hu, ht], fun l hl => (kr l hl).trans (hr l hl)⟩

theorem ringPlanned_modRing (f : Ring → Ring) : s.ringPlanned leg (s.modRing leg f) := ⟨rfl, fun _ hl => vmod_other _ _ _ _ hl⟩

theorem ringPlanned_plan (leg : Leg) (b : Bool) (cmd stake : Nat) (payload : List Byte) (s : State) :
    s.ringPlanned leg (s.plan leg b cmd stake payload) := by
  refine ⟨(ringWork_plan ..).eq, fun l hl => ?_⟩
  by_cases hr : s.role = .standby
  · simp [State.plan, State.planAt, hr]
  · rw [plan_ring hr]
    exact vmod_other _ _ _ _ hl

/-- Some frames are planned for a leg behind the others, and no more. -/
def State.planned (leg : Leg) (ds : List DueFrame) (s t : State) : Prop :=
  s.ringPlanned leg t ∧ t.ring[leg.val] = { s.ring[leg.val] with due := s.ring[leg.val].due ++ ds }

theorem State.planned.trans {ds es : List DueFrame} (h : s.planned leg ds t) (k : t.planned leg es u) : s.planned leg (ds ++ es) u := by
  obtain ⟨hs, hring⟩ := h
  obtain ⟨ks, kring⟩ := k
  exact ⟨hs.trans ks, by simp [kring, hring]⟩

theorem State.planned.role_eq {ds : List DueFrame} (h : s.planned leg ds t) : t.role = s.role := by rw [h.1.1]

theorem State.planned.twinMember_eq {ds : List DueFrame} (h : s.planned leg ds t) : t.twinMember = s.twinMember := by
  rw [h.1.1]
  rfl

theorem planned_plan (hr : s.role ≠ .standby) (leg : Leg) (b : Bool) (cmd stake : Nat) (payload : List Byte) :
    s.planned leg [dueFrame b cmd stake payload] (s.plan leg b cmd stake payload) :=
  ⟨ringPlanned_plan .., by rw [plan_ring hr, vmod_same, dueFrame]⟩

/-- R133: in split mode a single module plans a frame for every station from each end. -/
theorem planned_planAll (ht : s.twinMember = false) (hm : s.ring[leg.val].mode = 1) (hr : s.role ≠ .standby) (cmd : Nat) (payload : List Byte) :
    s.planned leg [dueFrame false cmd 0 payload, dueFrame true cmd 0 payload] (s.planAll leg cmd payload) := by
  have hends : s.endsInUse leg = [false, true] := by simp [State.endsInUse, hm, State.endServed, ht]
  have hfirst := planned_plan hr leg false cmd 0 payload
  have hsecond := planned_plan (hfirst.role_eq ▸ hr) leg true cmd 0 payload
  rw [State.planAll, hends]
  exact hfirst.trans hsecond
end RingPlanned

/-! R131, R137: the tone lost and found. -/
section Contact
variable {leg : Leg} {s : State}

theorem exec_toneLoss_eq (leg : Leg) (s : State) : exec (.toneLoss leg) s = execToneLoss leg s := rfl
theorem exec_splitModeEntry_eq (leg : Leg) (s : State) : exec (.splitModeEntry leg) s = execSplitModeEntry leg s := rfl
theorem exec_splitReflectWait_eq (leg : Leg) (s : State) : exec (.splitReflectWait leg) s = execSplitReflectWait leg s := rfl
theorem exec_loopModeReturn_eq (leg : Leg) (s : State) : exec (.loopModeReturn leg) s = execLoopModeReturn leg s := rfl

theorem exec_toneLoss_of_known (h : s.ring[leg.val].mode ≠ 0 ∨ s.ring[leg.val].toneGone = true) : exec (.toneLoss leg) s = .next s := by
  simp [exec_toneLoss_eq, execToneLoss, h]

/-- R55, R383: an event changes the records of the book and the host events alone. -/
theorem formEvent_spec (type code source index : Nat) (a b : Int) (s : State) : ∃ (fb : FieldBook) (e : FbRecord),
    s.formEvent type code source index a b = { s with fb := fb, events := insertRecord e s.events } ∧
    e.type = type ∧ e.code = code ∧ e.source = source := ⟨_, _, rfl, rfl, rfl, rfl⟩

theorem exec_toneLoss (hm : s.ring[leg.val].mode = 0) (hg : s.ring[leg.val].toneGone = false) (hr : s.role ≠ .standby) :
    ∃ t e, exec (.toneLoss leg) s = .next t ∧
      t = { s with ring := t.ring, fb := t.fb, events := insertRecord e s.events, base := { s.base with c2f := t.base.c2f } } ∧
      t.ring[leg.val] = { s.ring[leg.val] with toneOk := false, toneGone := true, contactLost := true, contactPing := true
                                               due := s.ring[leg.val].due ++ [dueFrame s.ownEnd 0x03 0 [0]] } ∧
      e.type = 0x1001 + 0x100 * leg.val ∧ e.code = 1 ∧ e.source = 48 + leg.val := by
  have hexec : exec (.toneLoss leg) s = .next (((s.modRing leg (fun r =>
      { r with toneOk := false, toneGone := true, contactLost := true, contactPing := true })).formEvent (ringType leg) 1 (ringSource leg)
        noIndex 0 (s.par (P.toneLoss leg.val))).plan leg s.ownEnd 0x03 0 [0]) := by
    simp only [exec_toneLoss_eq, execToneLoss, hm, hg]
    rfl
  obtain ⟨fb, e, hform, htype, hcode, hsource⟩ := formEvent_spec (ringType leg) 1 (ringSource leg) noIndex 0 (s.par (P.toneLoss leg.val))
    (s.modRing leg (fun r => { r with toneOk := false, toneGone := true, contactLost := true, contactPing := true }))
  rw [hform, plan_eq (by exact hr)] at hexec
  exact ⟨_, e, hexec, rfl, by simp [State.pushFlit], htype, hcode, hsource⟩
end Contact

/-! R133: split mode. -/
section Split
variable {leg : Leg} {s : State}

theorem exec_splitModeEntry (h : s.ring[leg.val].splitDue = true) :
    ∃ t, exec (.splitModeEntry leg) s = .next t ∧ t = { s with ring := t.ring, fb := t.fb } ∧
      t.ring[leg.val] = { s.ring[leg.val] with mode := 1, splitDue := false, splitWait := true
                                               splitEntries := incSat s.ring[leg.val].splitEntries, sightings := 0, reachA := 0, reachB := 0
                                               seek := Vector.replicate 2 0 } := by
  rw [exec_splitModeEntry_eq, execSplitModeEntry, if_neg (by simp [h])]
  exact ⟨_, rfl, rfl, by simp⟩

/-- R133: no frame goes out during the wait. -/
theorem launch_of_splitWait {x : RingTx} {cmd : Nat} {p : List Byte} (h : s.ring[x.leg.val].splitWait = true) : s.launch x cmd p = s :=
  launch_of_not_mayLaunch (by simp [State.mayLaunch, State.ringWorks, h])

/-- R133: a ring as its wait ends: an end whose frames no station turns is searched, from the station next to it. -/
def Ring.searched (lostA lostB : Bool) (n : Nat) (r : Ring) : Ring :=
  { r with splitWait := false, seek := #v[if lostA then 1 else 0, if lostB then n else 0] }

/-- R133: the search from an end begins with a PING with TURN. -/
def State.planSearch (leg : Leg) (b lost : Bool) (stake : Nat) (s : State) : State :=
  if lost && s.endServed b then s.plan leg b 0x03 stake [1] else s

theorem planned_planSearch (ht : s.twinMember = false) (hr : s.role ≠ .standby) (leg : Leg) (b lost : Bool) (stake : Nat) :
    s.planned leg (if lost then [dueFrame b 0x03 stake [1]] else []) (s.planSearch leg b lost stake) := by
  have hserved : s.endServed b = true := by simp [State.endServed, ht]
  cases lost with
  | true => simpa [State.planSearch, hserved] using planned_plan hr leg b 0x03 stake [1]
  | false => exact ⟨⟨rfl, fun _ _ => rfl⟩, by simp [State.planSearch]⟩

theorem execSplitReflectWait_of_wait {lostA lostB : Bool} (hm : s.ring[leg.val].mode = 1) (hw : s.ring[leg.val].splitWait = true)
    (ht : s.twinMember = false) (hA : s.ring[leg.val].chain.any (fun st => st.turnsFrom false) = !lostA)
    (hB : s.ring[leg.val].chain.any (fun st => st.turnsFrom true) = !lostB) :
    execSplitReflectWait leg s = .next ((((s.modRing leg (Ring.searched lostA lostB (s.stations leg))).planAll leg 0x03 [0]).planSearch leg
      false lostA 1).planSearch leg true lostB (s.stations leg)) := by
  have hserved (b : Bool) : s.endServed b = true := by simp [State.endServed, ht]
  rw [execSplitReflectWait]
  simp only [hm, hw, hA, hB, hserved, Bool.not_not, Bool.and_true]
  rfl

/-- R133: the end of the wait. -/
theorem exec_splitReflectWait {lostA lostB : Bool} (hm : s.ring[leg.val].mode = 1) (hw : s.ring[leg.val].splitWait = true)
    (ht : s.twinMember = false) (hr : s.role ≠ .standby) (hA : s.ring[leg.val].chain.any (fun st => st.turnsFrom false) = !lostA)
    (hB : s.ring[leg.val].chain.any (fun st => st.turnsFrom true) = !lostB) :
    ∃ t, exec (.splitReflectWait leg) s = .next t ∧ s.ringPlanned leg t ∧
      t.ring[leg.val] = { s.ring[leg.val].searched lostA lostB (s.stations leg) with
        due := s.ring[leg.val].due ++ ([dueFrame false 0x03 0 [0], dueFrame true 0x03 0 [0]] ++
          (if lostA then [dueFrame false 0x03 1 [1]] else []) ++ (if lostB then [dueFrame true 0x03 (s.stations leg) [1]] else [])) } := by
  have hexec := (exec_splitReflectWait_eq leg s).trans (execSplitReflectWait_of_wait hm hw ht hA hB)
  have hwait := ringPlanned_modRing (s := s) (leg := leg) (Ring.searched lostA lostB (s.stations leg))
  have hring : (s.modRing leg (Ring.searched lostA lostB (s.stations leg))).ring[leg.val] = _ := vmod_same ..
  have hall := planned_planAll (s := s.modRing leg (Ring.searched lostA lostB (s.stations leg))) (leg := leg) (by exact ht)
    (by rw [hring]; exact hm) (by exact hr) 0x03 [0]
  have hfirst := hall.trans (planned_planSearch (hall.twinMember_eq.trans ht) (hall.role_eq ▸ hr) leg false lostA 1)
  have hboth := hfirst.trans (planned_planSearch (hfirst.twinMember_eq.trans ht) (hfirst.role_eq ▸ hr) leg true lostB (s.stations leg))
  exact ⟨_, hexec, hwait.trans hboth.1, hboth.2.trans (by rw [hring]; rfl)⟩

/-- R133: a ring whose search from an end has found the last station that answers there. -/
def Ring.found (b : Bool) (n k : Nat) (r : Ring) : Ring :=
  { r with
    seek := vmod r.seek (endIx b) (fun _ => 0), reachA := if b then r.reachA else k, reachB := if b then n + 1 - k else r.reachB }

/-- R133: a searched station does not answer: REFLECT is written to the one that answered before it. -/
theorem seekReflect_unanswered {b : Bool} {stake k : Nat} (hm : s.ring[leg.val].mode = 1) (hs : s.ring[leg.val].seek[(endIx b).val] = stake)
    (h0 : stake ≠ 0) (hk : (if b then (if stake < s.stations leg then stake + 1 else 0) else stake - 1) = k) (hk0 : k ≠ 0) :
    s.seekReflect leg b stake false = (s.modRing leg (Ring.found b (s.stations leg) k)).plan leg b 0x61 k
      (leBytes 2 0x13 ++ [1] ++ leBytes 2 (if b then 2 else 1)) := by
  have hfound : (s.modRing leg (fun g => { g with seek := vmod g.seek (endIx b) (fun _ => 0) })).modRing leg (fun g =>
      if b then { g with reachB := s.stations leg + 1 - k } else { g with reachA := k }) =
      s.modRing leg (Ring.found b (s.stations leg) k) := by
    rw [modRing_modRing]
    cases b <;> rfl
  rw [State.seekReflect, if_neg (by simp [hm, hs, h0])]
  simp only [hk, hk0, Bool.false_eq_true, false_and, if_false, hfound]

/-- The search of R133 ends: what becomes of the ring. -/
theorem seekReflect_spec {b : Bool} {stake k : Nat} (hm : s.ring[leg.val].mode = 1) (hs : s.ring[leg.val].seek[(endIx b).val] = stake)
    (h0 : stake ≠ 0) (hk : (if b then (if stake < s.stations leg then stake + 1 else 0) else stake - 1) = k) (hk0 : k ≠ 0)
    (hr : s.role ≠ .standby) : ∃ t, s.seekReflect leg b stake false = t ∧ s.ringPlanned leg t ∧
      t.ring[leg.val] = { s.ring[leg.val].found b (s.stations leg) k with
        due := s.ring[leg.val].due ++ [dueFrame b 0x61 k (leBytes 2 0x13 ++ [1] ++ leBytes 2 (if b then 2 else 1))] } := by
  have hplanned := planned_plan (s := s.modRing leg (Ring.found b (s.stations leg) k)) (by exact hr) leg b 0x61 k
    (leBytes 2 0x13 ++ [1] ++ leBytes 2 (if b then 2 else 1))
  refine ⟨_, seekReflect_unanswered hm hs h0 hk hk0, (ringPlanned_modRing _).trans hplanned.1, ?_⟩
  rw [hplanned.2, State.modRing_ring, vmod_same]
  rfl

/-- R126, R133: a PING that no station answers is one of the search alone, where no staking pass runs. -/
theorem takeArrival_missing_ping {a : Arrival} (hc : a.flight.cmd = 0x03) (hf : a.fate = .missing) (ht : a.taken = [])
    (hs : (s.seekReflect leg a.fromB a.flight.stake false).ring[leg.val].stakeStep = 0) :
    s.takeArrival leg a = s.seekReflect leg a.fromB a.flight.stake false := by
  have hkeep : s.keepStatuses leg [] = s := rfl
  simp [State.takeArrival, hc, hf, ht, hkeep, State.pingOfPass, hs]
end Split

/-! R134: loop mode. -/
section Loop
variable {leg : Leg} {s : State}

/-- R383: a record formed changes the book alone. -/
theorem form_spec (type code source index : Nat) (a b : Int) (s : State) :
    ∃ fb : FieldBook, s.form type code source index a b = { s with fb := fb } := ⟨_, rfl⟩

/-- R134: a ring as its leg returns to loop mode. -/
def Ring.looped (r : Ring) : Ring :=
  { r with mode := 0, sightings := 0, reachA := 0, reachB := 0, splitWait := false, splitExits := incSat r.splitExits }

/-- R134: a leg as it returns, with REFLECT 0 planned for every station. -/
def State.loopAgain (leg : Leg) (s : State) : State :=
  (s.modRing leg Ring.looped).plan leg s.ownEnd 0x61 0 (leBytes 2 0x13 ++ [1] ++ leBytes 2 0)

theorem loopAgain_spec (hr : s.role ≠ .standby) : s.ringPlanned leg (s.loopAgain leg) ∧
    (s.loopAgain leg).ring[leg.val] = { s.ring[leg.val].looped with
      due := s.ring[leg.val].due ++ [dueFrame s.ownEnd 0x61 0 (leBytes 2 0x13 ++ [1] ++ leBytes 2 0)] } := by
  have hplanned := planned_plan (s := s.modRing leg Ring.looped) (by exact hr) leg s.ownEnd 0x61 0 (leBytes 2 0x13 ++ [1] ++ leBytes 2 0)
  refine ⟨(ringPlanned_modRing _).trans hplanned.1, hplanned.2.trans ?_⟩
  rw [State.modRing_ring, vmod_same]
  rfl

theorem exec_loopModeReturn (hm : s.ring[leg.val].mode = 1) (h3 : 3 ≤ s.ring[leg.val].sightings) (hr : s.role ≠ .standby) :
    ∃ t, exec (.loopModeReturn leg) s = .next t ∧ t = { s with ring := t.ring, fb := t.fb, base := { s.base with c2f := t.base.c2f } } ∧
      t.ring[leg.val] = { s.ring[leg.val].looped with
        due := s.ring[leg.val].due ++ [dueFrame s.ownEnd 0x61 0 (leBytes 2 0x13 ++ [1] ++ leBytes 2 0)] } := by
  have hexec : exec (.loopModeReturn leg) s = .next ((s.loopAgain leg).form (ringType leg) 3 (ringSource leg) noIndex
      (s.loopAgain leg).ring[leg.val].splitEntries 0) := by
    rw [exec_loopModeReturn_eq, execLoopModeReturn, if_neg (by simp [hm, h3])]
    rfl
  obtain ⟨⟨hstate, -⟩, hring⟩ := loopAgain_spec (leg := leg) hr
  obtain ⟨fb, hform⟩ := form_spec (ringType leg) 3 (ringSource leg) noIndex (s.loopAgain leg).ring[leg.val].splitEntries 0 (s.loopAgain leg)
  rw [hform] at hexec
  refine ⟨_, hexec, ?_, hring⟩
  conv_lhs => rw [hstate]
end Loop

/-- Settles O24: each command by its rule above; the two ends of the search by `seekReflect_spec`, the two ends of the wait by
`exec_splitReflectWait`. -/
theorem ringModes : Obligations.RingModes := by
  unfold Obligations.RingModes
  refine ⟨fun _ _ hm hg hr => exec_toneLoss hm hg hr, fun _ _ h => exec_toneLoss_of_known h,
    fun _ _ => ⟨_, rfl, ringOnly_modRing _, vmod_same _ _ _⟩, fun _ _ h => exec_splitModeEntry h, fun _ _ _ _ h => launch_of_splitWait h,
    ?turned, ?unturned, ?seekA, ?seekB, fun _ _ _ hc hf ht _ hs => takeArrival_missing_ping hc hf ht hs,
    fun _ _ hm h3 hr => exec_loopModeReturn hm h3 hr⟩
  case turned =>
    intro leg s hm hw ht hr hA hB
    exact exec_splitReflectWait (lostA := false) (lostB := false) hm hw ht hr hA hB
  case unturned =>
    intro leg s hm hw ht hr hA hB
    exact exec_splitReflectWait (lostA := true) (lostB := true) hm hw ht hr hA hB
  case seekA =>
    intro leg k s hm hk hs hr
    obtain ⟨t, ht, hplanned, hring⟩ := seekReflect_spec (b := false) hm hs (Nat.succ_ne_zero k) rfl hk.ne' hr
    exact ⟨t, ht, hplanned, by simp [hring, Ring.found, endIx, vmod], by simp [hring, Ring.found], by rw [hring]; rfl⟩
  case seekB =>
    intro leg k s hm hk hn hs hr
    obtain ⟨t, ht, hplanned, hring⟩ := seekReflect_spec (b := true) hm hs hk.ne' (if_pos hn) (Nat.succ_ne_zero k) hr
    exact ⟨t, ht, hplanned, by simp [hring, Ring.found, endIx, vmod], by simp [hring, Ring.found], by rw [hring]; rfl⟩

end Sys2Proof.Machine
end

section
/-! SUPPORT. Voltage rounds and their captures (R139 to R146, R175, R189): what planning leaves of what a leg is measured by, the legs
worked one after another, and what a round and a capture make of a leg's ring. -/
namespace Sys2Proof.Machine

/-! R107, R133, R137: what a leg is measured by turns on its ring, the plat and the twin alone. -/
section Reads
variable {leg : Leg} {s u : State}

theorem populated_congr (hp : u.plat = s.plat) (leg : Leg) : u.populated leg = s.populated leg := by rw [State.populated, hp, State.populated]

theorem stations_congr (hp : u.plat = s.plat) (leg : Leg) : u.stations leg = s.stations leg := by
  simp only [State.stations, State.parN, State.par, hp]

theorem ownEnd_congr (hp : u.plat = s.plat) : u.ownEnd = s.ownEnd := by
  simp only [State.ownEnd, State.twinMember, State.unitB, State.par, hp]

theorem endsInUse_congr (hr : u.ring[leg.val] = s.ring[leg.val]) (hp : u.plat = s.plat) (ht : u.twin = s.twin) :
    u.endsInUse leg = s.endsInUse leg := by
  simp only [State.endsInUse, State.endServed, State.twinMember, ownEnd_congr hp, hr, hp, ht]
end Reads

/-! The legs one after another: each step leaves the rings of the other legs. -/
section EachLeg
variable {R : State → State → Prop} {f : State → Leg → State}

/-- A leg's step meets its ring as it was before the first one, in a state that the steps before it have led to. -/
theorem foldl_legs (hrefl : ∀ s, R s s) (htrans : ∀ {s t u}, R s t → R t u → R s u) (hstep : ∀ t l, R t (f t l))
    (hother : ∀ t (l j : Leg), j ≠ l → (f t l).ring[j.val] = t.ring[j.val]) {legs : List Leg} (hl : legs.Nodup) (s : State) :
    R s (legs.foldl f s) ∧ (∀ l ∉ legs, (legs.foldl f s).ring[l.val] = s.ring[l.val]) ∧
      ∀ l ∈ legs, ∃ u, R s u ∧ u.ring[l.val] = s.ring[l.val] ∧ (legs.foldl f s).ring[l.val] = (f u l).ring[l.val] := by
  induction legs generalizing s with
  | nil => exact ⟨hrefl s, fun _ _ => rfl, fun _ h => absurd h List.not_mem_nil⟩
  | cons a legs ih =>
    obtain ⟨hnot, hnodup⟩ := List.nodup_cons.1 hl
    obtain ⟨hall, hout, hin⟩ := ih hnodup (f s a)
    refine ⟨htrans (hstep s a) hall, fun l h => ?_, fun l h => ?_⟩
    · rw [List.mem_cons, not_or] at h
      exact (hout l h.2).trans (hother s a l h.1)
    · by_cases hla : l = a
      · subst hla
        exact ⟨s, hrefl s, rfl, hout l hnot⟩
      · obtain ⟨u, hu, hring, hdone⟩ := hin l ((List.mem_cons.1 h).resolve_left hla)
        exact ⟨u, htrans (hstep s a) hu, hring.trans (hother s a l hla), hdone⟩

theorem nodup_allLegs_filter (p : Leg → Bool) : (allLegs.filter p).Nodup := .filter _ (by decide)
end EachLeg

/-! R146, R318: frames planned for a leg behind the others; in a standby there are none. -/
section SomePlanned
variable {leg : Leg} {s t u : State}

/-- Frames are planned for a leg behind the others, or none. -/
def State.somePlanned (leg : Leg) (s t : State) : Prop := ∃ ds, s.planned leg ds t

theorem planned_none (leg : Leg) (s : State) : s.planned leg [] s := ⟨⟨rfl, fun _ _ => rfl⟩, by simp⟩

theorem State.somePlanned.refl : s.somePlanned leg s := ⟨[], planned_none leg s⟩

theorem State.somePlanned.trans (h : s.somePlanned leg t) (k : t.somePlanned leg u) : s.somePlanned leg u := by
  obtain ⟨_, h⟩ := h
  obtain ⟨_, k⟩ := k
  exact ⟨_, h.trans k⟩

theorem somePlanned_plan (leg : Leg) (b : Bool) (cmd stake : Nat) (payload : List Byte) (s : State) :
    s.somePlanned leg (s.plan leg b cmd stake payload) := by
  by_cases hr : s.role = .standby
  · simpa [State.plan, State.planAt, hr] using State.somePlanned.refl
  · exact ⟨_, planned_plan hr leg b cmd stake payload⟩

theorem somePlanned_foldl {α : Type} {f : State → α → State} (h : ∀ (t : State) a, t.somePlanned leg (f t a)) (l : List α) (s : State) :
    s.somePlanned leg (l.foldl f s) :=
  List.foldlRecOn l f .refl fun t ht a _ => ht.trans (h t a)
end SomePlanned

theorem State.ringPlanned.ringWork {leg : Leg} {s t : State} (h : s.ringPlanned leg t) : s.ringWork t := ⟨_, _, h.1⟩

/-! R139 to R146: a round of one leg. -/
section Round
variable {leg : Leg} {s : State}

theorem somePlanned_planRound (leg : Leg) (b : Bool) (round tp ahead : Nat) (s : State) :
    s.somePlanned leg (s.planRound leg b round tp ahead) := (somePlanned_plan ..).trans (somePlanned_plan ..)

theorem somePlanned_planReads (leg : Leg) (b : Bool) (kind : RoundKind) (edge : Option Nat) (round : Nat) (s : State) :
    s.somePlanned leg (s.planReads leg b kind edge round) := by
  unfold State.planReads
  split
  · exact .refl
  · exact .refl
  · exact somePlanned_foldl (fun t r => somePlanned_plan leg b 0x11 0 (leBytes 1 r) t) _ s
  · exact somePlanned_plan ..

/-- R146: a round as it is noted, unread from the ends that are to read it. -/
def notedRound (kind : RoundKind) (edge : Option Nat) (tp round : Nat) (ends : List Bool) : RoundInfo :=
  { round := round, regular := kind.regular, tp := tp, v := 0, i := 0, acc := 0, n := 0, probe := kind.probe.map Fin.val, edge := edge
    out := ends, left := ends }

variable (kind : RoundKind) (edge : Option Nat) (tp lead : Nat) (phase : Bool → Nat)

/-- R146: no round is the fifth unread one. -/
theorem startRound_of_four (h : 4 ≤ s.ring[leg.val].unreadCount) : s.startRound kind edge tp lead phase leg = s := if_pos h

theorem startRound_spec (h : s.ring[leg.val].unreadCount < 4) : ∃ t ds, s.startRound kind edge tp lead phase leg = t ∧ s.ringPlanned leg t ∧
    t.ring[leg.val] = { s.ring[leg.val] with
      due := s.ring[leg.val].due ++ ds, round := (s.ring[leg.val].round + 1) % 256
      unread := s.ring[leg.val].unread ++ [notedRound kind edge tp ((s.ring[leg.val].round + 1) % 256) (s.endsInUse leg)] } := by
  obtain ⟨ds, hplanned, hring⟩ := somePlanned_foldl (leg := leg)
    (f := fun t b => (t.planRound leg b ((s.ring[leg.val].round + 1) % 256) tp (lead + min (phase b) 124)).planReads leg b kind edge
      ((s.ring[leg.val].round + 1) % 256))
    (fun t b => (somePlanned_planRound ..).trans (somePlanned_planReads ..)) (s.endsInUse leg) s
  refine ⟨_, ds, if_neg (by omega), hplanned.trans (ringPlanned_modRing _), ?_⟩
  rw [State.modRing_ring, vmod_same, hring]
  rfl

theorem ringPlanned_startRound (leg : Leg) (s : State) : s.ringPlanned leg (s.startRound kind edge tp lead phase leg) := by
  by_cases h : 4 ≤ s.ring[leg.val].unreadCount
  · rw [startRound_of_four kind edge tp lead phase h]
    exact ⟨rfl, fun _ _ => rfl⟩
  · obtain ⟨_, _, ht, hplanned, -⟩ := startRound_spec kind edge tp lead phase (Nat.lt_of_not_le h)
    rwa [ht]
end Round

/-! The command. -/
section VoltageRound
variable {s : State}

theorem exec_voltageRound_eq (kind : RoundKind) (tp : Nat) (phase : List Nat) (s : State) :
    exec (.voltageRound kind tp phase) s = execVoltageRound kind tp phase s := rfl

/-- R139, R145: the legs that take a round. -/
def State.roundLegs (s : State) (kind : RoundKind) (tp : Nat) : List Leg :=
  allLegs.filter (fun l => s.measurable l && (!kind.regular || s.regularAt l tp))

/-- R139, R146, R189: a round of every leg whose turn it is. -/
def State.startRounds (kind : RoundKind) (edge : Option Nat) (tp : Nat) (phase : List Nat) (s : State) : State :=
  (s.roundLegs kind tp).foldl (fun t l => t.startRound kind edge tp s.plumbLead (fun b => nth phase (2 * l.val + b2n b) 0) l) s

theorem mem_roundLegs {kind : RoundKind} {tp : Nat} {l : Leg} :
    l ∈ s.roundLegs kind tp ↔ s.measurable l = true ∧ (kind.regular = true → s.regularAt l tp = true) := by
  cases h : kind.regular <;> simp [State.roundLegs, mem_allLegs, h]

theorem startRounds_spec (kind : RoundKind) (edge : Option Nat) (tp : Nat) (phase : List Nat) (s : State) :
    ∃ t, s.startRounds kind edge tp phase = t ∧ s.ringWork t ∧ ∀ l : Leg,
      (l ∈ s.roundLegs kind tp → s.ring[l.val].unreadCount < 4 → t.ring[l.val].round = (s.ring[l.val].round + 1) % 256 ∧
        t.ring[l.val].unread = s.ring[l.val].unread ++ [notedRound kind edge tp ((s.ring[l.val].round + 1) % 256) (s.endsInUse l)]) ∧
      (l ∉ s.roundLegs kind tp ∨ 4 ≤ s.ring[l.val].unreadCount → t.ring[l.val] = s.ring[l.val]) := by
  have hleg (t : State) (l : Leg) := ringPlanned_startRound kind edge tp s.plumbLead (fun b => nth phase (2 * l.val + b2n b) 0) l t
  obtain ⟨hwork, hout, hin⟩ := foldl_legs (R := State.ringWork) (fun _ => .refl) .trans (fun t l => (hleg t l).ringWork)
    (fun t l j hj => (hleg t l).2 j hj) (legs := s.roundLegs kind tp) (nodup_allLegs_filter _) s
  refine ⟨_, rfl, hwork, fun l => ⟨fun hl h4 => ?_, fun h => ?_⟩⟩
  · obtain ⟨u, hu, hring, hdone⟩ := hin l hl
    have hends : u.endsInUse l = s.endsInUse l := endsInUse_congr hring (by rw [hu.eq]) (by rw [hu.eq])
    obtain ⟨_, ds, ht, -, hround⟩ := startRound_spec (s := u) (leg := l) kind edge tp s.plumbLead (fun b => nth phase (2 * l.val + b2n b) 0)
      (by rw [hring]; exact h4)
    rw [State.startRounds, hdone, ht, hround, hring, hends]
    exact ⟨rfl, rfl⟩
  · by_cases hl : l ∈ s.roundLegs kind tp
    · obtain ⟨u, -, hring, hdone⟩ := hin l hl
      rw [State.startRounds, hdone, startRound_of_four _ _ _ _ _ (by rw [hring]; exact h.resolve_left (not_not_intro hl)), hring]
    · exact hout l hl

/-- R139, R146: a regular round. -/
theorem exec_voltageRound_regular {kind : RoundKind} {tp : Nat} {phase : List Nat} (hp : kind.probe = none) (hk : kind.regular = true)
    (ho : s.overlapsExtra tp = false) : exec (.voltageRound kind tp phase) s = .next (s.startRounds kind none tp phase) := by
  rw [exec_voltageRound_eq, execVoltageRound]
  simp [hp, hk, ho, State.startRounds, State.roundLegs]

/-- R189: an extra round at the latch that an edge gives it, and at any other stamp. -/
theorem exec_voltageRound_extra (i : Fin 4) (tp : Nat) (phase : List Nat) (s : State) :
    exec (.voltageRound { regular := false, probe := some i } tp phase) s = .next (if (s.edgeFor i tp).isSome then
      s.startRounds { regular := false, probe := some i } (s.edgeFor i tp) tp phase else s) := rfl

theorem exec_voltageRound_of_not_due {tp : Nat} {phase : List Nat} (h : s.overlapsExtra tp = true ∨ ∀ l : Leg, s.regularAt l tp = false) :
    exec (.voltageRound { regular := true, probe := none } tp phase) s = .next s := by
  rw [exec_voltageRound_eq, execVoltageRound]
  rcases h with h | h <;> simp [h]
end VoltageRound

/-! R142, R175: the captures of T_P. -/
section Captures
variable {leg : Leg} {tp : Nat} {c : PlumbCap} {s : State}

/-- A single capture is that of the first leg. -/
theorem exec_plumbCapture_single (tp : Nat) (c : PlumbCap) (s : State) : exec (.plumbCapture tp [c]) s = .next (s.capture tp c 0) := rfl

/-- R142, R175: a round of T_P captured: the leg's voltage and current there, and its count since the frame's latch. -/
def RoundInfo.capturedBy (c : PlumbCap) (g : EstLeg) (stamp : Nat) (u : RoundInfo) : RoundInfo :=
  { u with
    v := interpolate c.v0 c.v1 c.num c.den, i := interpolate c.i0 c.i1 c.num c.den, acc := (g.acc + c.dAcc) % (2 ^ 64 : Int)
    n := (g.n + c.dN) % 2 ^ 64, captured := true, mark := stamp, accMark := g.acc, nMark := g.n }

/-- R191: the regular round of T_P, where there is one, is noted as round 0 of a natural step. -/
def State.noteRound0 (leg : Leg) (tp : Nat) (s : State) : State :=
  match s.ring[leg.val].unread.find? (fun u => u.tp == tp && u.regular) with
  | some u => s.modEleg leg (fun g => if g.natStep.isNone then { g with natRound0 := some (u.round, tp, s.conv[leg.val].share) } else g)
  | none => s

theorem noteRound0_eq (leg : Leg) (tp : Nat) (s : State) : ∃ eleg, s.noteRound0 leg tp = { s with eleg := eleg } := by
  unfold State.noteRound0
  split <;> exact ⟨_, rfl⟩

/-- R142: a ring whose rounds of T_P take a capture, once. -/
def Ring.capturedBy (tp : Nat) (c : PlumbCap) (g : EstLeg) (stamp : Nat) (r : Ring) : Ring :=
  { r with unread := r.unread.map (fun u => if u.tp = tp ∧ !u.captured then u.capturedBy c g stamp else u) }

/-- R142: where no third extra round awaits the capture, the probe of the leg's pair stays as it is. -/
theorem capture_of_no_third (h : ∀ u ∈ s.ring[leg.val].unread, u.probe ≠ some 3) : s.capture tp c leg =
    (s.noteRound0 leg tp).modRing leg (Ring.capturedBy tp c s.eleg[leg.val] (s.noteRound0 leg tp).time.frameStamp) := by
  have hthird : s.ring[leg.val].unread.any (fun u => u.tp == tp && u.probe == some 3 && u.edge == some (s.plannedEdge (pairOf leg))) = false :=
    List.any_eq_false.2 fun u hu => by simp [h u hu]
  exact if_neg (by simp [hthird])

theorem capture_spec (h : ∀ u ∈ s.ring[leg.val].unread, u.probe ≠ some 3) : ∃ t, s.capture tp c leg = t ∧
    t = { s with ring := t.ring, eleg := t.eleg } ∧
    t.ring[leg.val] = s.ring[leg.val].capturedBy tp c s.eleg[leg.val] s.time.frameStamp := by
  obtain ⟨eleg, hnote⟩ := noteRound0_eq leg tp s
  rw [capture_of_no_third h, hnote]
  exact ⟨_, rfl, rfl, vmod_same ..⟩
end Captures

/-- Settles O18: the rounds by `startRounds_spec`, the capture by `capture_spec`. -/
theorem voltageRounds : Obligations.VoltageRounds := by
  unfold Obligations.VoltageRounds
  refine ⟨?regular, ?extra, fun _ _ _ h => exec_voltageRound_of_not_due h, ?noEdge, ?capture⟩
  case regular =>
    intro kind tp phase s hp hk ho
    obtain ⟨t, ht, hwork, hrings⟩ := startRounds_spec kind none tp phase s
    refine ⟨t, (exec_voltageRound_regular hp hk ho).trans (congrArg _ ht), hwork.eq, fun l => ⟨fun hm hr h4 => ?_, fun h => ?_⟩⟩
    · have hround := (hrings l).1 (mem_roundLegs.2 ⟨hm, fun _ => hr⟩) h4
      simpa only [notedRound, hp, hk, Option.map_none] using hround
    · refine (hrings l).2 ?_
      rcases h with h | h | h
      · exact .inl (by simp [mem_roundLegs, h])
      · exact .inl (by simp [mem_roundLegs, hk, h])
      · exact .inr h
  case extra =>
    intro i e tp phase s he
    obtain ⟨t, ht, hwork, hrings⟩ := startRounds_spec { regular := false, probe := some i } (some e) tp phase s
    refine ⟨t, ?_, hwork.eq, fun l hm h4 => ((hrings l).1 (mem_roundLegs.2 ⟨hm, fun h => absurd h Bool.false_ne_true⟩) h4).2⟩
    rw [exec_voltageRound_extra, he, ← ht]
    rfl
  case noEdge =>
    intro i tp phase s he
    rw [exec_voltageRound_extra, he]
    rfl
  case capture =>
    intro tp c u s hu htp hcap hprobe
    obtain ⟨t, ht, hstate, hring⟩ := capture_spec (leg := 0) (tp := tp) (c := c) (s := s) (by simp [hu, hprobe])
    refine ⟨t, u.capturedBy c s.eleg[0] s.time.frameStamp, (exec_plumbCapture_single ..).trans (congrArg _ ht), ?_, rfl, rfl, rfl, rfl, hstate⟩
    refine (congrArg Ring.unread hring).trans ?_
    simp [Ring.capturedBy, hu, htp, hcap]

end Sys2Proof.Machine
end

section
/-! SUPPORT. Timers of the measurement (R149 to R154, R158, R161, R163, R164, R177, R183): the tests of a station, the reads of temperatures,
the phases of balancing, and the calibration of a leg's offset. -/
namespace Sys2Proof.Machine

/-! What the planning of frames leaves: the slow round and the fast lists read of it what they read of the state before. -/
section Reads
variable {leg : Leg} {s t u : State}

theorem State.planned.plans {ds : List DueFrame} (h : s.planned leg ds t) : s.plans t := by
  obtain ⟨⟨ht, hother⟩, hring⟩ := h
  refine ⟨t.ring, s.diag, t.base.c2f, ht, fun l => ?_⟩
  by_cases hl : l = leg
  · rw [hl, hring]
  · rw [hother l hl]

theorem State.somePlanned.plans (h : s.somePlanned leg t) : s.plans t := h.choose_spec.plans

theorem State.somePlanned.ringPlanned (h : s.somePlanned leg t) : s.ringPlanned leg t := h.choose_spec.1

theorem State.plans.eq (h : s.plans t) : t = { s with ring := t.ring, diag := t.diag, base := { s.base with c2f := t.base.c2f } } := by
  obtain ⟨_, _, _, rfl, -⟩ := h
  rfl

theorem reaches_congr (hr : u.ring[leg.val] = s.ring[leg.val]) (hp : u.plat = s.plat) (b : Bool) (k : Nat) :
    u.reaches leg b k = s.reaches leg b k := by
  simp only [State.reaches, hr, stations_congr hp]

theorem fastList_congr (hd : u.sdiag = s.sdiag) (hp : u.plat = s.plat) (leg : Leg) : u.fastList leg = s.fastList leg := by
  simp only [State.fastList, State.sdiagAt, hd, stations_congr hp]
end Reads

/-! R161, R164: the tests of a station. -/
section Tests
variable {leg : Leg} {b : Bool} {s t : State}

theorem State.planned.endOf_eq {ds : List DueFrame} (h : s.planned leg ds t) (stake : Nat) : t.endOf leg stake = s.endOf leg stake := by
  obtain ⟨⟨ht, -⟩, hring⟩ := h
  have hp : t.plat = s.plat := by rw [ht]
  simp only [State.endOf, hring, ownEnd_congr hp, stations_congr hp]
  rfl

/-- R161: BALANCE_SET as the module has set the bleeds, those of a station off. -/
def State.bleedsOff (s : State) (leg : Leg) (stake : Nat) : List Byte :=
  leBytes 2 45 ++ (List.range 24).flatMap (fun k => leBytes 2 (if k + 1 = stake then 0 else (s.sdiagAt leg (k + 1)).mask))

theorem planTest_eq (he : s.endsInUse leg = [b]) (stake cmd : Nat) (sel : List Byte) :
    s.planTest leg stake cmd sel = (s.plan leg b 0x20 0 (s.bleedsOff leg stake)).planFor leg stake cmd sel := by
  simp only [State.planTest, State.planAll, he]
  rfl

/-- R161, R164: with one end in use, the station's bleeds go off before its test. -/
theorem planned_planTest (hr : s.role ≠ .standby) (he : s.endsInUse leg = [b]) (stake cmd : Nat) (sel : List Byte) :
    s.planned leg [dueFrame b 0x20 0 (s.bleedsOff leg stake), dueFrame (s.endOf leg stake) cmd stake sel] (s.planTest leg stake cmd sel) := by
  have hset := planned_plan hr leg b 0x20 0 (s.bleedsOff leg stake)
  rw [planTest_eq he, State.planFor, hset.endOf_eq]
  exact hset.trans (planned_plan (hset.role_eq ▸ hr) ..)

theorem exec_openWireRetest_eq (leg : Leg) (stake line : Nat) (s : State) :
    exec (.openWireRetest leg stake line) s = execOpenWireRetest leg stake line s := rfl

theorem exec_openWireRetest {stake line : Nat} (h : bitAt (s.sdiagAt leg stake).openWires line = true) :
    exec (.openWireRetest leg stake line) s = .next (s.planWires leg stake (2 ^ line)) := by
  rw [exec_openWireRetest_eq, execOpenWireRetest, if_neg (by simp [h])]

theorem exec_openWireRetest_of_intact {stake line : Nat} (h : bitAt (s.sdiagAt leg stake).openWires line = false) :
    exec (.openWireRetest leg stake line) s = .next s := by
  rw [exec_openWireRetest_eq, execOpenWireRetest, if_pos (by simp [h])]

/-- R164: the cells of a leg's next switch test: the odd or the even ones of its station. -/
def State.switchMask (s : State) (leg : Leg) : Nat :=
  s.cellMask leg s.diag[leg.val].swNext &&& (if s.diag[leg.val].swEven then 0xAAAA else 0x5555)

theorem exec_balSwitchTestSchedule_none (hm : s.measurable leg = true) (hmode : s.mode = .surveyed) :
    ∃ f : LegDiag → LegDiag, exec (.balSwitchTestSchedule leg none) s =
      .next ((s.planSwitches leg s.diag[leg.val].swNext (s.switchMask leg)).modDiag leg f) ∧ ∀ d, (f d).swEven = !d.swEven := by
  have hexec : exec (.balSwitchTestSchedule leg none) s = execBalSwitchTestSchedule leg none s := rfl
  rw [hexec, execBalSwitchTestSchedule, if_neg (by simp [hm, hmode])]
  exact ⟨_, rfl, fun _ => rfl⟩

theorem exec_balSwitchTestSchedule (hm : s.measurable leg = true) (hmode : s.mode = .surveyed) (hr : s.role ≠ .standby)
    (he : s.endsInUse leg = [b]) :
    ∃ t, exec (.balSwitchTestSchedule leg none) s = .next t ∧ t.diag[leg.val].swEven = !s.diag[leg.val].swEven ∧
      t.ring[leg.val].due.length = s.ring[leg.val].due.length + 2 ∧
      t = { s with ring := t.ring, diag := t.diag, base := { s.base with c2f := t.base.c2f } } := by
  obtain ⟨f, hexec, hf⟩ := exec_balSwitchTestSchedule_none hm hmode
  have htest := planned_planTest hr he s.diag[leg.val].swNext 0x31 (leBytes 2 (s.switchMask leg))
  have hdiag : (s.planSwitches leg s.diag[leg.val].swNext (s.switchMask leg)).diag = s.diag := by rw [State.planSwitches, htest.1.1]
  refine ⟨_, hexec, ?_, ?_, (htest.plans.trans (plans_modDiag f)).eq⟩
  · rw [State.modDiag_diag, vmod_same, hf, hdiag]
  · rw [State.modDiag_ring, State.planSwitches, htest.2]
    simp
end Tests

/-! R143, R149: the slow round. -/
section SlowRound
variable {leg : Leg} {s : State}

/-- R143, R149: what follows the read of the temperatures from an end: the housekeeping, and the delay of a stake that the end reaches. -/
def State.slowRest (leg : Leg) (k : Nat) (b : Bool) (s : State) : State :=
  let t := s.plan leg b 0x13 0 []
  if t.reaches leg b k then (List.range 4).foldl (fun u _ => u.plan leg b 0x03 k [1]) t else t

/-- R143, R149: the frames of a slow round from each end in use. -/
def State.slowReads (leg : Leg) (s : State) : State :=
  (s.endsInUse leg).foldl (fun t b => (t.plan leg b 0x12 0 []).slowRest leg s.ring[leg.val].hopNext b) s

theorem slowRound_eq (leg : Leg) (s : State) : ∃ (f : Ring → Ring) (g : LegDiag → LegDiag),
    s.slowRound leg = ((s.slowReads leg).modRing leg f).modDiag leg g ∧ ∀ r, (f r).due = r.due ∧ (f r).flight = r.flight :=
  ⟨_, _, rfl, fun _ => ⟨rfl, rfl⟩⟩

theorem somePlanned_slowRest (leg : Leg) (k : Nat) (b : Bool) (s : State) : s.somePlanned leg (s.slowRest leg k b) := by
  unfold State.slowRest
  dsimp only
  refine (somePlanned_plan leg b 0x13 0 [] s).trans ?_
  split
  · exact somePlanned_foldl (fun t _ => somePlanned_plan leg b 0x03 k [1] t) _ _
  · exact .refl

theorem somePlanned_slowStep (leg : Leg) (k : Nat) (b : Bool) (s : State) :
    s.somePlanned leg ((s.plan leg b 0x12 0 []).slowRest leg k b) := (somePlanned_plan ..).trans (somePlanned_slowRest ..)

theorem somePlanned_slowReads (leg : Leg) (s : State) : s.somePlanned leg (s.slowReads leg) :=
  somePlanned_foldl (fun t b => somePlanned_slowStep leg _ b t) _ s

/-- R149: the temperatures of a leg with an end in use are read. -/
theorem planned_slowReads (hr : s.role ≠ .standby) (he : s.endsInUse leg ≠ []) :
    ∃ b ds, s.planned leg (dueFrame b 0x12 0 [] :: ds) (s.slowReads leg) := by
  obtain ⟨b, bs, hends⟩ := List.exists_cons_of_ne_nil he
  obtain ⟨ds, hrest⟩ := (somePlanned_slowRest leg s.ring[leg.val].hopNext b (s.plan leg b 0x12 0 [])).trans
    (somePlanned_foldl (fun t b => somePlanned_slowStep leg s.ring[leg.val].hopNext b t) bs _)
  rw [State.slowReads, hends]
  exact ⟨b, ds, (planned_plan hr leg b 0x12 0 []).trans hrest⟩

theorem plans_slowRound (leg : Leg) (s : State) : s.plans (s.slowRound leg) := by
  obtain ⟨f, g, hround, hf⟩ := slowRound_eq leg s
  rw [hround]
  exact ((somePlanned_slowReads leg s).plans.trans (plans_modRing fun r => (hf r).2)).trans (plans_modDiag _)

theorem slowRound_ring_other {l : Leg} (hl : l ≠ leg) : (s.slowRound leg).ring[l.val] = s.ring[l.val] := by
  obtain ⟨f, g, hround, -⟩ := slowRound_eq leg s
  rw [hround]
  exact ((somePlanned_slowReads leg s).ringPlanned.trans (ringPlanned_modRing f)).2 l hl

theorem slowRound_due (hr : s.role ≠ .standby) (he : s.endsInUse leg ≠ []) :
    s.ring[leg.val].due.length < (s.slowRound leg).ring[leg.val].due.length := by
  obtain ⟨f, g, hround, hf⟩ := slowRound_eq leg s
  obtain ⟨b, ds, -, hring⟩ := planned_slowReads hr he
  rw [hround, State.modDiag_ring, State.modRing_ring, vmod_same, (hf _).1, hring]
  simp

theorem exec_tempSlowRound_eq (s : State) :
    exec .tempSlowRound s = .next ((allLegs.filter (fun l => s.measurable l)).foldl (fun t l => t.slowRound l) s) := rfl

theorem exec_tempSlowRound (hr : s.role ≠ .standby) :
    ∃ t, exec .tempSlowRound s = .next t ∧ t = { s with ring := t.ring, diag := t.diag, base := { s.base with c2f := t.base.c2f } } ∧
      ∀ l : Leg, s.measurable l = true → s.endsInUse l ≠ [] → s.ring[l.val].due.length < t.ring[l.val].due.length := by
  obtain ⟨hplans, -, hin⟩ := foldl_legs (R := State.plans) (fun _ => .refl) .trans (fun t l => plans_slowRound l t)
    (fun t l j hj => slowRound_ring_other hj) (nodup_allLegs_filter (fun l => s.measurable l)) s
  refine ⟨_, exec_tempSlowRound_eq s, hplans.eq, fun l hm he => ?_⟩
  obtain ⟨u, hu, hring, hdone⟩ := hin l (List.mem_filter.2 ⟨mem_allLegs l, hm⟩)
  have hends : u.endsInUse l = s.endsInUse l := endsInUse_congr hring (by rw [hu.eq]) (by rw [hu.eq])
  have hrole : u.role = s.role := by rw [hu.eq]
  rw [hdone, ← hring]
  exact slowRound_due (hrole ▸ hr) (hends ▸ he)
end SlowRound

/-! R150: the fast lists. -/
section FastLists
variable {leg : Leg} {s : State}

/-- R150: the reads of a leg's fast list from one end. -/
def State.readFastFrom (leg : Leg) (ks : List Nat) (b : Bool) (s : State) : State :=
  if ks.isEmpty then s
  else if ks.length ≤ 4 then (ks.filter (fun k => s.reaches leg b k)).foldl (fun w k => w.plan leg b 0x12 k []) s
  else s.plan leg b 0x12 0 []

/-- R150: the reads of a leg's fast list. -/
def State.readFast (s : State) (leg : Leg) : State := (s.endsInUse leg).foldl (fun u b => u.readFastFrom leg (s.fastList leg) b) s

theorem exec_fastListRound_eq (s : State) :
    exec .fastListRound s = .next ((allLegs.filter (fun l => s.measurable l)).foldl State.readFast s) := rfl

theorem somePlanned_readFastFrom (leg : Leg) (ks : List Nat) (b : Bool) (s : State) : s.somePlanned leg (s.readFastFrom leg ks b) := by
  unfold State.readFastFrom
  split
  · exact .refl
  · split
    · exact somePlanned_foldl (fun t k => somePlanned_plan leg b 0x12 k [] t) _ s
    · exact somePlanned_plan ..

theorem somePlanned_readFast (leg : Leg) (s : State) : s.somePlanned leg (s.readFast leg) :=
  somePlanned_foldl (fun t b => somePlanned_readFastFrom leg _ b t) _ s

/-- R150: the one station listed, which the end in use reaches, is read. -/
theorem planned_readFast {k : Nat} {b : Bool} (hr : s.role ≠ .standby) (hk : s.fastList leg = [k]) (he : s.endsInUse leg = [b])
    (hb : s.reaches leg b k = true) : s.planned leg [dueFrame b 0x12 k []] (s.readFast leg) := by
  simpa [State.readFast, State.readFastFrom, hk, he, hb] using planned_plan hr leg b 0x12 k []

theorem exec_fastListRound (hr : s.role ≠ .standby) :
    ∃ t, exec .fastListRound s = .next t ∧ t = { s with ring := t.ring, base := { s.base with c2f := t.base.c2f } } ∧
      ∀ (l : Leg) (k : Nat) (b : Bool), s.measurable l = true → s.fastList l = [k] → s.endsInUse l = [b] → s.reaches l b k = true →
        t.ring[l.val].due.length = s.ring[l.val].due.length + 1 := by
  have hleg (t : State) (l : Leg) := (somePlanned_readFast l t).ringPlanned
  obtain ⟨hwork, -, hin⟩ := foldl_legs (R := State.ringWork) (fun _ => .refl) .trans (fun t l => (hleg t l).ringWork)
    (fun t l j hj => (hleg t l).2 j hj) (nodup_allLegs_filter (fun l => s.measurable l)) s
  refine ⟨_, exec_fastListRound_eq s, hwork.eq, fun l k b hm hk he hb => ?_⟩
  obtain ⟨u, hu, hring, hdone⟩ := hin l (List.mem_filter.2 ⟨mem_allLegs l, hm⟩)
  have hp : u.plat = s.plat := by rw [hu.eq]
  obtain ⟨-, hread⟩ := planned_readFast (s := u) (leg := l) (k := k) (b := b) (hu.role_eq ▸ hr)
    ((fastList_congr (by rw [hu.eq]) hp l).trans hk) ((endsInUse_congr hring hp (by rw [hu.eq])).trans he) ((reaches_congr hring hp b k).trans hb)
  rw [hdone, hread, hring]
  simp

theorem exec_fastListLeave {k : Nat} (h : (s.validTemps leg k).any (fun t => s.nearThreshold leg t) = false) :
    ∃ t, exec (.fastListLeave leg k) s = .next t ∧ (t.sdiagAt leg k).fast = false ∧ t = { s with sdiag := t.sdiag } := by
  have hexec : exec (.fastListLeave leg k) s = execFastListLeave leg k s := rfl
  rw [hexec, execFastListLeave, if_neg (by simp [h])]
  exact ⟨_, rfl, by rw [sdiagAt_modStation_same], rfl⟩
end FastLists

/-! R152 to R154: the phases of balancing. -/
section Balancing
variable {leg : Leg} {s : State}

theorem exec_balancePhaseBoundary_eq (s : State) : exec .balancePhaseBoundary s = .next (allLegs.foldl (fun t l => t.balancePhase l) s) := rfl

theorem mayBalance_of_unpopulated (h : s.populated leg = false) : s.mayBalance leg = false := by simp [State.mayBalance, h]

/-- R152: a leg that is not balanced and may not be stays so. -/
theorem balancePhase_of_idle (hm : s.mayBalance leg = false) (hb : s.diag[leg.val].balancing = false) : s.balancePhase leg = s := by
  simp [State.balancePhase, State.stopBalancing, hm, hb]

theorem foldl_balancePhase_of_idle {legs : List Leg} (h : ∀ l ∈ legs, s.mayBalance l = false ∧ s.diag[l.val].balancing = false) :
    legs.foldl (fun t l => t.balancePhase l) s = s :=
  List.foldlRecOn (motive := fun t : State => t = s) legs _ rfl fun t ht l hl => by
    subst ht
    exact balancePhase_of_idle (h l hl).1 (h l hl).2

theorem foldl_modCell_eq {α : Type} (i : α → Nat) (f : α → Cell → Cell) (xs : List α) (s : State) :
    ∃ cells, xs.foldl (fun t x => t.modCell (i x) (f x)) s = { s with cells := cells } :=
  List.foldlRecOn (motive := fun t : State => ∃ cells, t = { s with cells := cells }) xs _ ⟨_, rfl⟩ fun t ht x _ => by
    obtain ⟨_, rfl⟩ := ht
    exact ⟨_, rfl⟩

/-- R154: a leg's diagnostics as a phase begins. -/
def LegDiag.inPhase (frame : Nat) (d : LegDiag) : LegDiag :=
  { d with balancing := true, oddNext := !(if d.balancing then d.oddNext else true), phaseAt := some frame }

/-- R153, R154: a phase that begins marks the active cells and the leg, and plans its BALANCE_SET. -/
theorem balancePhase_of_over (hm : s.mayBalance leg = true) (hd : s.diag[leg.val].draining = false) (hp : s.phaseOver leg = true) :
    ∃ cells f masks, s.balancePhase leg = (({ s with cells := cells } : State).modDiag leg f).planFirst leg 0x20 masks ∧
      f s.diag[leg.val] = s.diag[leg.val].inPhase s.time.frame := by
  obtain ⟨cells, hcells⟩ := foldl_modCell_eq (fun p : Nat × Nat × Bool × F64 => cellIndex leg p.1 p.2.1)
    (fun p c => { c with active := p.2.2.1 }) (s.planActive leg) s
  rw [State.balancePhase, if_neg (by simp [hm]), if_neg (by simp [hd, hp])]
  dsimp only
  rw [hcells]
  exact ⟨cells, _, _, rfl, rfl⟩

/-- R49, R154: with one end in use, a frame takes the first slot of its ring. -/
theorem planFirst_eq {b : Bool} (hr : s.role ≠ .standby) (he : s.endsInUse leg = [b]) (cmd : Nat) (payload : List Byte) :
    s.planFirst leg cmd payload = (s.pushFlit .c2f (if cmd = 0x50 then 4 else 3) leg.val 0 (.ringFrame leg b cmd payload)).modRing leg
      (fun r => { r with due := { dueFrame b cmd 0 payload with first := true } :: r.due }) := by
  simp [State.planFirst, State.planAt, he, hr, dueFrame]

/-- R153, R154: a leg with one end in use begins a phase. -/
theorem balancePhase_spec {b : Bool} (hm : s.mayBalance leg = true) (hd : s.diag[leg.val].draining = false) (hp : s.phaseOver leg = true)
    (hr : s.role ≠ .standby) (he : s.endsInUse leg = [b]) : ∃ t masks, s.balancePhase leg = t ∧
    t = { s with ring := t.ring, diag := t.diag, cells := t.cells, base := { s.base with c2f := t.base.c2f } } ∧
    t.diag[leg.val] = s.diag[leg.val].inPhase s.time.frame ∧ (∀ l : Leg, l ≠ leg → t.diag[l.val] = s.diag[l.val]) ∧
    t.ring[leg.val].due = { dueFrame b 0x20 0 masks with first := true } :: s.ring[leg.val].due := by
  obtain ⟨cells, f, masks, hphase, hf⟩ := balancePhase_of_over hm hd hp
  rw [planFirst_eq (s := ({ s with cells := cells } : State).modDiag leg f) (by exact hr) (Eq.trans (endsInUse_congr rfl rfl rfl) he)] at hphase
  refine ⟨_, masks, hphase, rfl, ?_, fun l hl => vmod_other _ _ _ _ hl, ?_⟩
  · exact (vmod_same ..).trans hf
  · rw [State.modRing_ring, vmod_same]
    rfl

theorem exec_balancePhaseBoundary_of_idle (h : ∀ l : Leg, s.mayBalance l = false ∧ s.diag[l.val].balancing = false) :
    exec .balancePhaseBoundary s = .next s := by
  rw [exec_balancePhaseBoundary_eq, foldl_balancePhase_of_idle fun l _ => h l]

/-- R152: where no other leg is populated, the phase is that of the first one. -/
theorem exec_balancePhaseBoundary_first {t : State} (ht : s.balancePhase 0 = t)
    (h : ∀ l : Leg, l ≠ 0 → t.populated l = false ∧ t.diag[l.val].balancing = false) : exec .balancePhaseBoundary s = .next t := by
  have hexec : exec .balancePhaseBoundary s = .next (([1, 2, 3] : List Leg).foldl (fun t l => t.balancePhase l) (s.balancePhase 0)) := rfl
  rw [hexec, ht, foldl_balancePhase_of_idle fun l hl => ?_]
  obtain ⟨hpop, hbal⟩ := h l (fun h0 => absurd (h0 ▸ hl) (by decide))
  exact ⟨mayBalance_of_unpopulated hpop, hbal⟩
end Balancing

/-! R158: a closure that fails too long. -/
theorem exec_closureHoldExpiry {leg : Leg} {s : State} (hf : s.diag[leg.val].closureFail = true) (he : s.diag[leg.val].holdExpired = false) :
    exec (.closureHoldExpiry leg) s = .next ((s.modDiag leg (fun d => { d with holdExpired := true })).startDrain leg (.fault 8)) := by
  have hexec : exec (.closureHoldExpiry leg) s = execClosureHoldExpiry leg s := rfl
  rw [hexec, execClosureHoldExpiry, if_neg (by simp [hf, he])]

/-! R177, R183: the calibration of a leg's offset, and its rest. -/
section Calibration
variable {leg : Leg} {s : State}

theorem exec_offsetCalibrationStart (h : s.mayCalibrate leg = true) :
    exec (.offsetCalibrationStart leg) s = .next (s.modEleg leg (fun g => { g with calRunning := true })) := by
  have hexec : exec (.offsetCalibrationStart leg) s = execOffsetCalibrationStart leg s := rfl
  rw [hexec, execOffsetCalibrationStart, if_pos h]

/-- R177: a leg's estimate with a new offset, due from the next frame on. -/
def EstLeg.calibrated (offset : F64) (frame now : Nat) (g : EstLeg) : EstLeg :=
  { g with offsetDue := some (offset, frame), calAt := now, offsetKnown := true, calNeeded := false, calRunning := false }

/-- R177: a first calibration. -/
theorem exec_offsetCalibrationComplete_first {sum : Int} {n : Nat} (hc : s.eleg[leg.val].calRunning = true) (hn : 0 < n)
    (hk : s.eleg[leg.val].offsetKnown = false) : exec (.offsetCalibrationComplete leg sum n []) s = .next
      { s.modEleg leg (EstLeg.calibrated ((F64.ofInt sum).div (F64.ofNat n)) s.time.frame s.time.meridian) with
        start := { s.start with offsetsDone := vmod s.start.offsetsDone leg (fun _ => true) } } := by
  have hexec : exec (.offsetCalibrationComplete leg sum n []) s = execOffsetCalibrationComplete leg sum n [] s := rfl
  rw [hexec, execOffsetCalibrationComplete, if_neg (by simp [hc, Nat.pos_iff_ne_zero.1 hn])]
  simp only [hk, Bool.false_and, Bool.false_eq_true, if_false, List.filter_nil, List.map_nil, List.append_nil]
  rfl

theorem exec_restTimerExpiry (hr : s.eleg[leg.val].rest = false)
    (h : (s.eleg[leg.val].mean.abs).lt ((s.parF P.restC 0xFF 0 3).mul (s.oneC leg)) = true) :
    exec (.restTimerExpiry leg) s = .next (s.modEleg leg (fun g => { g with rest := true, restDue := true })) := by
  have hexec : exec (.restTimerExpiry leg) s = execRestTimerExpiry leg s := rfl
  rw [hexec, execRestTimerExpiry, if_pos (by simp [h, hr])]
end Calibration

/-- Settles O19: each timer by its rule above; the tests by `planned_planTest`, the rounds leg by leg by `foldl_legs`. -/
theorem measurementTimers : Obligations.MeasurementTimers := by
  unfold Obligations.MeasurementTimers
  refine ⟨fun _ _ => exec_closureHoldExpiry, ?openWire, fun _ _ _ _ => exec_openWireRetest_of_intact,
    fun _ _ _ => exec_balSwitchTestSchedule, fun _ => exec_tempSlowRound, fun _ => exec_fastListRound, fun _ _ _ => exec_fastListLeave,
    fun _ _ => rfl, fun _ => exec_balancePhaseBoundary_of_idle, ?phase,
    fun _ _ h => ⟨_, exec_offsetCalibrationStart h, vmod_same .., rfl⟩,
    fun _ _ _ _ hc hn hk => ⟨_, exec_offsetCalibrationComplete_first hc hn hk, vmod_same .., vmod_same .., rfl⟩,
    fun _ _ hr h => ⟨_, exec_restTimerExpiry hr h, vmod_same .., rfl⟩⟩
  case openWire =>
    intro leg k line b s hopen hr he
    obtain ⟨⟨hstate, -⟩, hring⟩ := planned_planTest hr he k 0x30 (leBytes 4 (2 ^ line))
    exact ⟨_, _, exec_openWireRetest hopen, hstate, congrArg Ring.due hring, rfl, rfl, rfl⟩
  case phase =>
    intro b s hm hd hp he hr hothers
    obtain ⟨t, masks, ht, hstate, hphase, hdiag, hdue⟩ := balancePhase_spec (leg := 0) hm hd hp hr he
    have hplat : t.plat = s.plat := by rw [hstate]
    refine ⟨t, _, exec_balancePhaseBoundary_first ht fun l hl => ?_, congrArg LegDiag.balancing hphase, congrArg LegDiag.phaseAt hphase,
      congrArg List.head? hdue, rfl, rfl, hstate⟩
    rw [populated_congr hplat, hdiag l hl]
    exact hothers l hl

end Sys2Proof.Machine
end
section
/-! SUPPORT. The protection of a leg (R235, R250 to R256): what a probe that yields leaves of a leg's drive, how a leg brakes and
drains, and what the commands of the converters may change. -/
namespace Sys2Proof.Machine

/-! R190: a probe that yields takes from a leg's drive its offset alone. -/
section Drive
variable {p : Fin 2} {leg : Leg} {s t u : State}

/-- The phases stand, and of each converter and engine all but the mark of a probe offset and the words delivered. -/
def State.keepsDrive (s t : State) : Prop :=
  t.pwm = s.pwm ∧ ∀ l : Leg, ∃ offset words, t.conv[l.val] = { s.conv[l.val] with probeOffset := offset } ∧
    t.cle[l.val] = { s.cle[l.val] with words := words }

theorem State.keepsDrive.of_eq (hpwm : t.pwm = s.pwm) (hconv : t.conv = s.conv) (hcle : t.cle = s.cle) : s.keepsDrive t :=
  ⟨hpwm, fun l => ⟨s.conv[l.val].probeOffset, s.cle[l.val].words, by rw [hconv], by rw [hcle]⟩⟩

theorem State.keepsDrive.trans (h : s.keepsDrive t) (k : t.keepsDrive u) : s.keepsDrive u := by
  obtain ⟨hpwm, hlegs⟩ := h
  obtain ⟨kpwm, klegs⟩ := k
  refine ⟨kpwm.trans hpwm, fun l => ?_⟩
  obtain ⟨_, _, hconv, hcle⟩ := hlegs l
  obtain ⟨offset, words, kconv, kcle⟩ := klegs l
  exact ⟨offset, words, by rw [kconv, hconv], by rw [kcle, hcle]⟩

theorem keepsDrive_stripOffset (leg : Leg) (s : State) : s.keepsDrive (s.stripOffset leg) := by
  refine ⟨rfl, fun l => ?_⟩
  by_cases hl : l = leg
  · subst hl
    exact ⟨_, _, vmod_same .., vmod_same ..⟩
  · exact ⟨s.conv[l.val].probeOffset, s.cle[l.val].words, vmod_other _ _ _ _ hl, vmod_other _ _ _ _ hl⟩

theorem keepsDrive_modProbe (p : Fin 2) (f : ProbePair → ProbePair) (s : State) : s.keepsDrive (s.modProbe p f) := .of_eq rfl rfl rfl
theorem keepsDrive_modEleg (leg : Leg) (f : EstLeg → EstLeg) (s : State) : s.keepsDrive (s.modEleg leg f) := .of_eq rfl rfl rfl

theorem keepsDrive_removeOffsets (p : Fin 2) (s : State) : s.keepsDrive (s.removeOffsets p) :=
  ((keepsDrive_stripOffset ..).trans (keepsDrive_stripOffset ..)).trans (keepsDrive_modProbe ..)

/-- R190: a pair yields by no more than its result, its offsets and its own state. -/
theorem yieldPair_induct {motive : State → Prop} (hresult : ∀ code t, motive t → motive (t.probeResult p code))
    (hoffsets : ∀ t, motive t → motive (t.removeOffsets p)) (hprobe : ∀ f t, motive t → motive (t.modProbe p f))
    (y : YieldBy) (hs : motive s) : motive (s.yieldPair p y) := by
  have hspoilt (c : Prop) [Decidable c] (code : Nat) : motive (if c then s else s.probeResult p code) := by
    split
    · exact hs
    · exact hresult _ _ hs
  unfold State.yieldPair
  dsimp only
  split
  case h_1 => exact hs
  case h_2 =>
    split
    · exact hs
    · exact hprobe _ _ (hoffsets _ hs)
  case h_3 => exact hprobe _ _ (hoffsets _ (hresult _ _ hs))
  case h_4 =>
    split
    · split
      · exact hs
      · exact hprobe _ _ (hresult _ _ hs)
    · exact hprobe _ _ (hoffsets _ (hspoilt ..))
    · exact hprobe _ _ (hoffsets _ (hspoilt ..))
    · exact hprobe _ _ hs

theorem keepsDrive_yieldLeg (leg : Leg) (y : YieldBy) (s : State) : s.keepsDrive (s.yieldLeg leg y) :=
  yieldPair_induct (motive := s.keepsDrive) (fun _ _ h => h.trans ((keepsDrive_modEleg ..).trans (keepsDrive_modEleg ..)))
    (fun _ h => h.trans (keepsDrive_removeOffsets ..)) (fun _ _ h => h.trans (keepsDrive_modProbe ..)) y (keepsDrive_modEleg ..)
end Drive

/-! R235: a leg that braked. -/
section Braked
variable {leg : Leg} {st : LegSt} {cause : Nat} {s t : State}

theorem brakeLeg_braked (leg : Leg) (st : LegSt) (cause : Nat) (s : State) : State.braked leg st cause (s.brakeLeg leg st cause) := by
  obtain ⟨hA, hB⟩ := brakeLeg_phases_off leg st cause s
  obtain ⟨hst, hcause⟩ := brakeLeg_conv leg st cause s
  refine ⟨hst, hcause, ?_, ?_, ?_, hA, hB, ?_⟩ <;> simp [State.brakeLeg]

theorem State.braked.of_keepsDrive (h : State.braked leg st cause s) (k : s.keepsDrive t) : State.braked leg st cause t := by
  obtain ⟨hpwm, hlegs⟩ := k
  obtain ⟨_, _, hconv, hcle⟩ := hlegs leg
  simpa only [State.braked, hpwm, hconv, hcle] using h

/-- R71: at most the mode changes. -/
theorem settleRunning_eq (s : State) : ∃ mode, s.settleRunning = { s with mode := mode } := by
  unfold State.settleRunning
  split
  · exact ⟨_, rfl⟩
  · exact ⟨_, rfl⟩

/-- R250: a latched leg has braked and is no longer enabled. -/
theorem latchLeg_braked (leg : Leg) (cause : Nat) (current limit : Int) (s : State) :
    State.braked leg .fault cause (s.latchLeg leg cause current limit) ∧ (s.latchLeg leg cause current limit).conv[leg.val].enabled = false := by
  have hyield := (brakeLeg_braked leg .fault cause s).of_keepsDrive (keepsDrive_yieldLeg leg .protection _)
  obtain ⟨mode, hmode⟩ := settleRunning_eq ((((s.brakeLeg leg .fault cause).yieldLeg leg .protection).modConv leg
    (fun c => { c with enabled := false, heldEnable := false })).form 0x3001 cause (36 + leg.val) leg.val current limit)
  rw [State.latchLeg, hmode]
  exact ⟨by simpa [State.braked] using hyield, by simp⟩
end Braked

/-! What the commands of the converters may change. -/
section Frame
variable {leg : Leg} {s t u : State}

theorem State.converterFrame.trans (h : s.converterFrame t) (k : t.converterFrame u) : s.converterFrame u := by
  rw [State.converterFrame] at h k ⊢
  rw [k, h]

theorem State.switches.converterFrame (h : s.switches t) : s.converterFrame t := by
  obtain ⟨_, _, _, rfl⟩ := h
  rfl

theorem State.yields.converterFrame (h : s.yields t) : s.converterFrame t := by
  obtain ⟨_, _, _, _, _, _, rfl⟩ := h
  rfl

theorem converterFrame_form (type code source index : Nat) (a b : Int) (s : State) : s.converterFrame (s.form type code source index a b) := rfl

theorem converterFrame_settleRunning (s : State) : s.converterFrame s.settleRunning := by
  obtain ⟨_, h⟩ := settleRunning_eq s
  rw [h]
  rfl

theorem converterFrame_yieldLeg (leg : Leg) (y : YieldBy) (s : State) : s.converterFrame (s.yieldLeg leg y) := (yields_yieldLeg ..).converterFrame
theorem converterFrame_brakeLeg (leg : Leg) (st : LegSt) (cause : Nat) (s : State) : s.converterFrame (s.brakeLeg leg st cause) :=
  (switches_brakeLeg ..).converterFrame

theorem converterFrame_latchLeg (leg : Leg) (cause : Nat) (current limit : Int) (s : State) :
    s.converterFrame (s.latchLeg leg cause current limit) :=
  ((((converterFrame_brakeLeg ..).trans (converterFrame_yieldLeg ..)).trans (switches_modConv ..).converterFrame).trans
    (converterFrame_form ..)).trans (converterFrame_settleRunning _)
end Frame

/-! R251 to R253: a drain, from its beginning to its end. -/
section Drain
variable {leg : Leg} {target : DrainEnd} {rp : Ramp} {s : State}

/-- R254: outside bus-forming mode a leg without a ramp begins one at its set-point. -/
theorem presentRamp_of_setpoint (hramp : s.conv[leg.val].ramp = none) (hstr : s.str.running = 0) :
    s.presentRamp leg false = { ref := s.conv[leg.val].setpoint * 1000, direct := false, stop := false } := by
  simp [State.presentRamp, hramp, hstr]

/-- R253: the leg's converter as its drain begins. -/
def LegConv.drains (target : DrainEnd) (rp : Ramp) (c : LegConv) : LegConv :=
  { c with st := .draining, drainEnd := target, ramp := some rp, lowRun := 0, zeroCycles := 0 }

theorem startDrain_eq_of_running (hst : s.conv[leg.val].st = .running) : s.startDrain leg target =
    ((s.yieldLeg leg .protection).modCle leg (fun e =>
      { e with direct := ((s.yieldLeg leg .protection).presentRamp leg false).direct })).modConv leg
      (LegConv.drains target ((s.yieldLeg leg .protection).presentRamp leg false)) := by
  unfold State.startDrain
  dsimp only
  rw [hst]
  rfl

/-- R253: a running leg without a ramp drains towards its end from its present set-point. -/
theorem startDrain_of_running (hst : s.conv[leg.val].st = .running) (hramp : s.conv[leg.val].ramp = none) (hstr : s.str.running = 0) :
    ∃ t, s.startDrain leg target = t ∧ t.conv[leg.val].st = .draining ∧ t.conv[leg.val].drainEnd = target ∧
      t.conv[leg.val].ramp = some { ref := s.conv[leg.val].setpoint * 1000, direct := false, stop := false } ∧
      s.converterFrame t ∧ t.mode = s.mode := by
  have hframe := converterFrame_yieldLeg leg .protection s
  obtain ⟨_, _, _, _, _, _, hyield⟩ := yields_yieldLeg leg .protection s
  have hmode : (s.yieldLeg leg .protection).mode = s.mode := by rw [hyield]
  have hstr' : (s.yieldLeg leg .protection).str.running = 0 := by rw [hyield]; exact hstr
  obtain ⟨-, hlegs⟩ := keepsDrive_yieldLeg leg .protection s
  obtain ⟨_, _, hconv, -⟩ := hlegs leg
  have hpresent := presentRamp_of_setpoint (s := s.yieldLeg leg .protection) (by rw [hconv]; exact hramp) hstr'
  refine ⟨_, startDrain_eq_of_running hst, ?_, ?_, ?_, hframe.trans (((switches_modCle ..).trans (switches_modConv ..)).converterFrame), hmode⟩
  · simp [LegConv.drains]
  · simp [LegConv.drains]
  · simp [LegConv.drains, hpresent, hconv]

theorem finishDrain_of_disabled (h : s.conv[leg.val].drainEnd = .disabled) : s.finishDrain leg = (s.brakeLeg leg .disabled 0).settleRunning := by
  simp [State.finishDrain, h]

/-- R253: a drain whose ramp has reached zero, the current low for two latches, is at its end. -/
theorem endDrain_of_low (hst : s.conv[leg.val].st = .draining) (hramp : s.conv[leg.val].ramp = some rp) (hzero : rp.ref = 0)
    (hstop : rp.stop = false) (hlow : 2 ≤ s.conv[leg.val].lowRun) : s.endDrain leg = s.finishDrain leg := by
  simp [State.endDrain, hst, hramp, hzero, hstop, hlow]

theorem endDrain_of_ramping (hramp : s.conv[leg.val].ramp = some rp) (href : rp.ref ≠ 0) : s.endDrain leg = s := by
  simp [State.endDrain, hramp, href]
end Drain

/-! The commands, each as the operation it runs. -/
section Commands
variable {leg : Leg} {rp : Ramp} {s : State}

theorem exec_overloadTrip_of_running (ho : s.conv[leg.val].overload = true) (hst : s.conv[leg.val].st = .running) :
    exec (.overloadTrip leg) s = .next (s.startDrain leg (.fault 5)) := by
  have hexec : exec (.overloadTrip leg) s = execOverloadTrip leg s := rfl
  rw [hexec, execOverloadTrip, if_pos ⟨ho, .inr hst⟩]

theorem exec_overloadTrip_of_below (ho : s.conv[leg.val].overload = false) : exec (.overloadTrip leg) s = .next s := by
  have hexec : exec (.overloadTrip leg) s = execOverloadTrip leg s := rfl
  rw [hexec, execOverloadTrip, if_neg (by simp [ho])]

/-- R252: a leg in LOAD_STEP_OFF: both phases off, its engine idle, its ramp gone. -/
def State.loadStepLeg (leg : Leg) (s : State) : State :=
  (((s.modPwm (phaseA leg) (fun q => { q with on := false })).modPwm (phaseB leg) (fun q => { q with on := false })).modCle leg
    (fun e => { e with running := false, direct := false })).modConv leg
      (fun c => { c with st := .loadStepOff, reenterRun := 0, pulsed := false, soft := 0, ramp := none })

theorem switches_loadStepLeg (leg : Leg) (s : State) : s.switches (s.loadStepLeg leg) :=
  (((switches_modPwm ..).trans (switches_modPwm ..)).trans (switches_modCle ..)).trans (switches_modConv ..)

theorem loadStepLeg_off (leg : Leg) (s : State) : (s.loadStepLeg leg).conv[leg.val].st = .loadStepOff ∧
    (s.loadStepLeg leg).conv[leg.val].pwmen = s.conv[leg.val].pwmen ∧ (s.loadStepLeg leg).pwm[(phaseA leg).val].on = false ∧
    (s.loadStepLeg leg).pwm[(phaseB leg).val].on = false ∧ (s.loadStepLeg leg).cle[leg.val].running = false := by
  have hne : phaseA leg ≠ phaseB leg := by simp [phaseA, phaseB]
  simp [State.loadStepLeg, vmod_other _ _ _ _ hne]

theorem exec_loadStepTurnOff_eq (hd : s.discharging leg = true) (hst : s.conv[leg.val].st = .running) :
    exec (.loadStepTurnOff leg) s = .next (((s.form 0x3001 16 (36 + leg.val) leg.val (s.iBusLatch leg)
      (roundDiv (-(s.par P.reenterI * s.par P.iRated leg.val)) 1000)).yieldLeg leg .protection).loadStepLeg leg) := by
  have hexec : exec (.loadStepTurnOff leg) s = execLoadStepTurnOff leg s := rfl
  rw [hexec, execLoadStepTurnOff]
  simp only [hd, hst]
  rfl

theorem exec_loadStepTurnOff_of_charging (hd : s.discharging leg = false) : exec (.loadStepTurnOff leg) s = .next s := by
  have hexec : exec (.loadStepTurnOff leg) s = execLoadStepTurnOff leg s := rfl
  rw [hexec, execLoadStepTurnOff, if_pos (by simp [hd])]

/-- R252, R256: a loss of bus load turns a running leg off, PWMEN as before. -/
theorem exec_loadStepTurnOff_of_running (hd : s.discharging leg = true) (hst : s.conv[leg.val].st = .running) :
    ∃ t, exec (.loadStepTurnOff leg) s = .next t ∧ t.conv[leg.val].st = .loadStepOff ∧ t.conv[leg.val].pwmen = s.conv[leg.val].pwmen ∧
      t.pwm[(phaseA leg).val].on = false ∧ t.pwm[(phaseB leg).val].on = false ∧ t.cle[leg.val].running = false ∧ s.converterFrame t ∧
      t.mode = s.mode := by
  refine ⟨_, exec_loadStepTurnOff_eq hd hst, ?_⟩
  generalize hform : s.form 0x3001 16 (36 + leg.val) leg.val (s.iBusLatch leg) (roundDiv (-(s.par P.reenterI * s.par P.iRated leg.val)) 1000) = u
  have hframe := (converterFrame_yieldLeg leg .protection u).trans (switches_loadStepLeg leg _).converterFrame
  obtain ⟨-, hlegs⟩ := keepsDrive_yieldLeg leg .protection u
  obtain ⟨_, _, hconv, -⟩ := hlegs leg
  obtain ⟨hoff, hpwmen, hA, hB, hcle⟩ := loadStepLeg_off leg (u.yieldLeg leg .protection)
  have hmode : ((u.yieldLeg leg .protection).loadStepLeg leg).mode = u.mode := by
    obtain ⟨_, _, _, _, _, _, hyield⟩ := yields_yieldLeg leg .protection u
    rw [(switches_loadStepLeg leg _).mode_eq, hyield]
  subst hform
  exact ⟨hoff, hpwmen.trans (by rw [hconv]; rfl), hA, hB, hcle, (converterFrame_form ..).trans hframe, hmode⟩

theorem exec_loadStepTimeout_of_off (hst : s.conv[leg.val].st = .loadStepOff) :
    exec (.loadStepTimeout leg) s = .next (s.latchLeg leg 7 (s.iBusLatch leg) 0) := by
  have hexec : exec (.loadStepTimeout leg) s = execLoadStepTimeout leg s := rfl
  rw [hexec, execLoadStepTimeout, if_pos hst]

theorem exec_legDrainComplete_eq (leg : Leg) (s : State) : exec (.legDrainComplete leg) s = .next (s.endDrain leg) := rfl

theorem exec_legHeadroomLoss_of_running (hst : s.conv[leg.val].st = .running)
    (hv : 2000 * s.vLegMean leg < s.vBusMean * (2000 + s.par P.headroom)) :
    exec (.legHeadroomLoss leg) s = .next (s.startDrain leg .waitBus) := by
  have hexec : exec (.legHeadroomLoss leg) s = execLegHeadroomLoss leg s := rfl
  rw [hexec, execLegHeadroomLoss, if_pos ⟨hst, hv⟩]
end Commands

/-- Settles O29: a drain begins by `startDrain_of_running` and ends by `finishDrain`, a latched leg is that of `latchLeg_braked`. -/
theorem legProtection : Obligations.LegProtection := by
  unfold Obligations.LegProtection
  refine ⟨?overload, fun _ _ => exec_overloadTrip_of_below, fun _ _ => exec_loadStepTurnOff_of_running, fun _ _ => exec_loadStepTurnOff_of_charging,
    ?timeout, ?drained, fun leg _ s hramp href => (exec_legDrainComplete_eq leg s).trans (congrArg _ (endDrain_of_ramping hramp href)), ?headroom⟩
  case overload =>
    intro leg s ho hst hramp hstr
    obtain ⟨t, ht, hdrain⟩ := startDrain_of_running (target := .fault 5) hst hramp hstr
    exact ⟨t, (exec_overloadTrip_of_running ho hst).trans (congrArg _ ht), hdrain⟩
  case timeout =>
    intro leg s hst
    obtain ⟨hbraked, hen⟩ := latchLeg_braked leg 7 (s.iBusLatch leg) 0 s
    exact ⟨_, exec_loadStepTimeout_of_off hst, hbraked, hen, converterFrame_latchLeg ..⟩
  case drained =>
    intro leg rp s hst hramp hzero hstop hlow hend
    obtain ⟨mode, hmode⟩ := settleRunning_eq (s.brakeLeg leg .disabled 0)
    refine ⟨_, exec_legDrainComplete_eq leg s, ?_⟩
    rw [endDrain_of_low hst hramp hzero hstop hlow, finishDrain_of_disabled hend]
    exact ⟨hmode ▸ brakeLeg_braked leg .disabled 0 s, (converterFrame_brakeLeg ..).trans (converterFrame_settleRunning _)⟩
  case headroom =>
    intro leg s hst hv hramp hstr
    obtain ⟨t, ht, hdrain, hend, -, hframe, -⟩ := startDrain_of_running (target := .waitBus) hst hramp hstr
    exact ⟨t, (exec_legHeadroomLoss_of_running hst hv).trans (congrArg _ ht), hdrain, hend, hframe⟩

end Sys2Proof.Machine
end
section
/-! SUPPORT. The edges of a probe (R186 to R189, R194, R197). -/
namespace Sys2Proof.Machine

section Edges
variable {p : Fin 2} {s : State}

theorem exec_probeDue_of_idle (hp : s.probe[p.val].phase = .idle) (hd : s.probe[p.val].due = false) :
    exec (.probeDue p) s = .next (s.modProbe p (fun q => { q with due := true, dueAt := s.time.meridian })) := by
  have hexec : exec (.probeDue p) s = execProbeDue p s := rfl
  rw [hexec, execProbeDue, if_pos ⟨hp, by simp [hd]⟩]

theorem exec_probeDue_of_busy (hp : s.probe[p.val].phase ≠ .idle) : exec (.probeDue p) s = .next s := by
  have hexec : exec (.probeDue p) s = execProbeDue p s := rfl
  rw [hexec, execProbeDue, if_neg (by simp [hp])]

/-- R189: the offset of both legs of a pair set or removed. -/
def State.markOffsets (p : Fin 2) (on : Bool) (s : State) : State :=
  (s.modConv (pairA p) (fun c => { c with probeOffset := on })).modConv (pairB p) (fun c => { c with probeOffset := on })

theorem markOffsets_legs (p : Fin 2) (on : Bool) (s : State) :
    (s.markOffsets p on).conv[(pairA p).val] = { s.conv[(pairA p).val] with probeOffset := on } ∧
    (s.markOffsets p on).conv[(pairB p).val] = { s.conv[(pairB p).val] with probeOffset := on } := by
  have hne : pairA p ≠ pairB p := by simp [pairA, pairB]
  simp [State.markOffsets, vmod_other _ _ _ _ hne, vmod_other _ _ _ _ hne.symm]

/-- R188: a pair at its leading edge E. -/
def ProbePair.started (now : Nat) (q : ProbePair) : ProbePair := { q with phase := .running, edge := now, executed := incSat q.executed }

/-- R189: a pair after its trailing edge, its period begun anew where the offsets still stood. -/
def ProbePair.released (now : Nat) (q : ProbePair) : ProbePair :=
  { q with phase := .idle, due := false, applied := false, draining := false, endedAt := if q.applied then now else q.endedAt }

theorem exec_probeLeadingEdge_of_committed (hp : s.probe[p.val].phase = .committed) :
    exec (.probeLeadingEdge p) s = .next ((s.modProbe p (ProbePair.started s.time.meridian)).markOffsets p true) := by
  have hexec : exec (.probeLeadingEdge p) s = execProbeLeadingEdge p s := rfl
  rw [hexec, execProbeLeadingEdge, if_neg (not_not.2 hp)]
  rfl

theorem exec_probeLeadingEdge_of_other (hp : s.probe[p.val].phase ≠ .committed) : exec (.probeLeadingEdge p) s = .next s := by
  have hexec : exec (.probeLeadingEdge p) s = execProbeLeadingEdge p s := rfl
  rw [hexec, execProbeLeadingEdge, if_pos hp]

/-- R189: a pair whose observation is complete or spoilt keeps its results. -/
theorem exec_probeTrailingEdge_of_seen
    (hp : s.probe[p.val].phase = .observed ∨ (s.probe[p.val].phase = .running ∧ s.probe[p.val].spoilt.isSome = true)) :
    exec (.probeTrailingEdge p) s = .next ((s.markOffsets p false).modProbe p (ProbePair.released s.time.meridian)) := by
  have hexec : exec (.probeTrailingEdge p) s = execProbeTrailingEdge p s := rfl
  rw [hexec, execProbeTrailingEdge]
  obtain ho | ⟨hr, hs⟩ := hp
  · simp only [ho, reduceCtorEq, false_and, or_true, if_true, if_false]
    rfl
  · simp only [hr, Option.isNone_eq_false_iff.2 hs, reduceCtorEq, Bool.false_eq_true, and_false, true_or, if_true, if_false]
    rfl

/-- R194: a pair that T_P,3 never captured has missed a round. -/
theorem exec_probeTrailingEdge_of_missed (hp : s.probe[p.val].phase = .running) (hs : s.probe[p.val].spoilt = none) :
    exec (.probeTrailingEdge p) s = .next (((s.probeResult p 5).markOffsets p false).modProbe p (ProbePair.released s.time.meridian)) := by
  have hexec : exec (.probeTrailingEdge p) s = execProbeTrailingEdge p s := rfl
  rw [hexec, execProbeTrailingEdge]
  simp only [hp, hs, Option.isNone_none, true_or, and_self, if_true]
  rfl

theorem probeResult_first (p : Fin 2) (code : Nat) (s : State) : (s.probeResult p code).eleg[(pairA p).val] =
    { s.eleg[(pairA p).val] with lastResult := code, natural := false, discarded := incSat s.eleg[(pairA p).val].discarded } := by
  have hne : pairA p ≠ pairB p := by simp [pairA, pairB]
  simp [State.probeResult, vmod_other _ _ _ _ hne]
end Edges

/-- Settles O25: each edge by its rule above, the legs by `markOffsets_legs`. -/
theorem probeEdges : Obligations.ProbeEdges := by
  unfold Obligations.ProbeEdges
  refine ⟨?due, fun _ _ => exec_probeDue_of_busy, ?leading, fun _ _ => exec_probeLeadingEdge_of_other, ?seen, ?missed⟩
  case due =>
    intro p s hp hd
    exact ⟨_, exec_probeDue_of_idle hp hd, rfl, vmod_same .., fun q hq => vmod_other _ _ _ _ hq⟩
  case leading =>
    intro p s hp
    exact ⟨_, exec_probeLeadingEdge_of_committed hp, rfl, vmod_same ..,
      markOffsets_legs p true (s.modProbe p (ProbePair.started s.time.meridian))⟩
  case seen =>
    intro p s hp
    exact ⟨_, exec_probeTrailingEdge_of_seen hp, rfl, vmod_same .., markOffsets_legs p false s⟩
  case missed =>
    intro p s hp hs
    obtain ⟨t, ht⟩ : ∃ t, s.probeResult p 5 = t := ⟨_, rfl⟩
    have hstate : t = { s with eleg := t.eleg } := by subst ht; rfl
    refine ⟨_, exec_probeTrailingEdge_of_missed hp hs, ?_, congrArg ProbePair.phase (vmod_same ..), probeResult_first p 5 s⟩
    rw [ht, hstate]
    rfl

end Sys2Proof.Machine
end
section
/-! SUPPORT. The life of a pair (R308, R309, R313, R314, R318, R319): a join and its end, a takeover, a swap of the roles. -/
namespace Sys2Proof.Machine

/-! R308, R309: a join. -/
section Join
variable {j : JoinState} {s : State}

theorem twinSend_of_up (hm : s.twinMember = true) (hu : s.twin.up = true) (cls : Nat) (m : TwinMsg) :
    s.twinSend cls m = s.modTwin (fun w => { w with tx := { w.tx with pending := w.tx.pending ++ [(cls, m)] } }) :=
  if_pos (by simp [hm, hu])

/-- R308: a twin part at the beginning of a join. -/
def Twin.joins (w : Twin) : Twin := { w with step := .joining, blocks := 0, final := false, eligibleFrom := none }

theorem exec_joinRequest_of_standby (hm : s.twinMember = true) (hu : s.twin.up = true) (hi : s.twin.incompatible = false)
    (hstep : s.twin.step = .none) (hr : s.role = .standby) :
    exec .joinRequest s = .next ((s.modTwin Twin.joins).twinSend 3 .joinRequest) := by
  have hexec : exec .joinRequest s = execJoinRequest s := rfl
  have hpaired : s.twin.step.paired = false := by rw [hstep]; rfl
  rw [hexec, execJoinRequest, if_neg (by simp [hm, hu, hi, hpaired])]
  simp only [hr]
  rfl

/-- R309: an active unit that accepts a join holds TAKEOVER_N meanwhile. -/
theorem exec_joinRequest_of_active (hm : s.twinMember = true) (hu : s.twin.up = true) (hi : s.twin.incompatible = false)
    (hstep : s.twin.step = .none) (hr : s.role = .active) (ha : s.acceptsJoin = true) :
    exec .joinRequest s = .next (((s.modTwin Twin.joins).modTwin (fun w => { w with takeoverOut := true })).twinSend 3 .joinAccept) := by
  have hexec : exec .joinRequest s = execJoinRequest s := rfl
  have hpaired : s.twin.step.paired = false := by rw [hstep]; rfl
  rw [hexec, execJoinRequest, if_neg (by simp [hm, hu, hi, hpaired])]
  simp only [hr, ha, if_true]
  rfl

theorem exec_joinRequest_of_paired (h : s.twin.step.paired = true) : exec .joinRequest s = .next s := by
  have hexec : exec .joinRequest s = execJoinRequest s := rfl
  rw [hexec, execJoinRequest, if_pos (by simp [h])]

theorem exec_joinBlockReceived_of_joining (hr : s.role = .standby) (hstep : s.twin.step = .joining) (i : Nat) (d : List Byte) :
    exec (.joinBlockReceived i d) s =
      .next ((s.modTwin (fun w => { w with blocks := w.blocks + 1 })).twinSend 5 (.joinAck (s.twin.blocks + 1))) := by
  have hexec : exec (.joinBlockReceived i d) s = execJoinBlockReceived i d s := rfl
  rw [hexec, execJoinBlockReceived, if_neg (by simp [hr, hstep])]
  rfl

theorem exec_joinConverged_of_standby (hstep : s.twin.step = .joining) (hr : s.role = .standby) :
    exec .joinConverged s = .next { s with twin := { s.twin with final := true } } := by
  have hexec : exec .joinConverged s = execJoinConverged s := rfl
  rw [hexec, execJoinConverged, if_neg (not_not.2 hstep), if_neg (by simp [State.isActive, hr])]
  rfl

/-- R309: the pair in step, the standby eligible in two frames, and TAKEOVER_N of an active unit released then. -/
def State.putInStep (s : State) : State :=
  (s.modTwin (fun w =>
    { w with
      step := .inStep, eligibleFrom := some (s.time.frame + 2), inStepAt := s.time.meridian, final := false
      diffRun := Vector.replicate 18 0, releaseAt := if s.isActive then some (s.time.frame + 2) else none })).twinRecord 129 17 noIndex

theorem exec_joinComplete_of_active (hstep : s.twin.step = .joining) (hf : s.twin.final = true) (hr : s.role = .active)
    (ha : s.acceptsJoin = true) : exec (.joinComplete j) s = .next s.putInStep := by
  have hexec : exec (.joinComplete j) s = execJoinComplete j s := rfl
  rw [hexec, execJoinComplete, if_neg (by simp [hstep, hf]), if_neg (by simp [ha])]
  simp only [hr, reduceCtorEq, if_false]
  rfl

theorem exec_joinComplete_of_standby (hstep : s.twin.step = .joining) (hf : s.twin.final = true) (hr : s.role = .standby) :
    exec (.joinComplete j) s = .next (s.takeJoin j).putInStep := by
  have hexec : exec (.joinComplete j) s = execJoinComplete j s := rfl
  rw [hexec, execJoinComplete, if_neg (by simp [hstep, hf]), if_neg (by simp [State.isActive, hr])]
  simp only [hr, if_true]
  rfl

/-- R309: an active unit that no longer accepts the join abandons it. -/
theorem exec_joinComplete_of_refused (hstep : s.twin.step = .joining) (hf : s.twin.final = true) (hr : s.role = .active)
    (ha : s.acceptsJoin = false) :
    exec (.joinComplete j) s = .next { s with twin := { s.twin with step := .none, blocks := 0, final := false } } := by
  have hexec : exec (.joinComplete j) s = execJoinComplete j s := rfl
  rw [hexec, execJoinComplete, if_neg (by simp [hstep, hf]), if_pos (by simp [State.isActive, hr, ha]), State.abandonJoin, if_pos hstep,
    if_neg (by simp [hr])]
  rfl

theorem exec_joinComplete_of_early (hf : s.twin.final = false) : exec (.joinComplete j) s = .next s := by
  have hexec : exec (.joinComplete j) s = execJoinComplete j s := rfl
  rw [hexec, execJoinComplete, if_pos (by simp [hf])]

theorem exec_joinTimeout_of_active (hstep : s.twin.step = .joining) (hr : s.role = .active) :
    exec .joinTimeout s = .next { s with twin := { s.twin with blocks := 0, final := false } } := by
  have hexec : exec .joinTimeout s = execJoinTimeout s := rfl
  rw [hexec, execJoinTimeout, if_neg (not_not.2 hstep)]
  exact congrArg _ (if_neg (by simp [hr]))

theorem putInStep_spec (hr : s.role = .active) : s.putInStep.twin.step = .inStep ∧ s.putInStep.twin.eligibleFrom = some (s.time.frame + 2) ∧
    s.putInStep.twin.releaseAt = some (s.time.frame + 2) ∧ s.putInStep = { s with twin := s.putInStep.twin, fb := s.putInStep.fb } :=
  ⟨rfl, rfl, if_pos (by simp [State.isActive, hr]), rfl⟩

/-- R308: an engine of the standby computes on as the active unit's. -/
theorem takeJoin_cle (j : JoinState) (s : State) (l : Leg) : (s.takeJoin j).cle[l.val].comp = j.cle[l.val].comp ∧
    (s.takeJoin j).cle[l.val].word = j.cle[l.val].word := by
  simp [State.takeJoin, Cle.joined]
end Join

/-! R314, R318: a takeover, and R319: a swap. -/
section Roles
variable {s : State}

/-- R397: at most the network part changes. -/
theorem announceService_eq (s : State) : ∃ net, s.announceService = { s with net := net } := by
  unfold State.announceService
  split
  · exact ⟨_, rfl⟩
  · exact ⟨_, rfl⟩

/-- R190, R397: what a unit that becomes active changes besides its role and its twin part. -/
theorem selectSource_announceService_eq (s : State) : ∃ grid net, s.selectSource.announceService = { s with grid := grid, net := net } := by
  obtain ⟨_, _, hselect⟩ := selectSource_eq s
  obtain ⟨_, hannounce⟩ := announceService_eq s.selectSource
  exact ⟨_, _, by rw [hannounce, hselect]; rfl⟩

/-- R314: a twin part of the standby that takes over. -/
def Twin.takesOver (w : Twin) : Twin :=
  { w with decided := none, activeN := true, takeoverOut := true, degraded := true, step := .none, eligibleFrom := none, missing := false }

theorem exec_takeoverSwitch_of_decided {d : Nat} (hd : s.twin.decided = some d) (hr : s.role = .standby) :
    exec .takeoverSwitch s =
      .next ((({ s with role := .active } : State).modTwin Twin.takesOver).selectSource.announceService.yieldAll .protection) := by
  have hexec : exec .takeoverSwitch s = execTakeoverSwitch s := rfl
  rw [hexec, execTakeoverSwitch, if_neg (by simp [hd, hr])]
  rfl

theorem exec_takeoverSwitch_of_active (hr : s.role = .active) : exec .takeoverSwitch s = .next s := by
  have hexec : exec .takeoverSwitch s = execTakeoverSwitch s := rfl
  rw [hexec, execTakeoverSwitch, if_pos (by simp [hr])]

/-- R314: the unit that took over, its role and its twin part. -/
theorem takeover_fields (s : State) : (s.selectSource.announceService.yieldAll .protection).role = s.role ∧
    (s.selectSource.announceService.yieldAll .protection).twin = s.twin := by
  obtain ⟨_, _, hactive⟩ := selectSource_announceService_eq s
  obtain ⟨_, _, _, _, _, _, hyield⟩ := yields_yieldAll .protection s.selectSource.announceService
  rw [hyield, hactive]
  exact ⟨rfl, rfl⟩

/-- R319: a unit in its new role. -/
def State.swapped (role : Role) (s : State) : State :=
  ({ s with role := role } : State).modTwin (fun w => { w with swapAt := none, activeN := role == Role.active, outcome := 8 })

/-- R319: the planned frames of every leg dropped. -/
def State.dropPlanned (s : State) : State := allLegs.foldl (fun t l => t.modRing l (fun r => { r with due := [] })) s

theorem dropPlanned_spec (s : State) : s.dropPlanned = { s with ring := s.dropPlanned.ring } ∧
    ∀ l : Leg, s.dropPlanned.ring[l.val] = { s.ring[l.val] with due := [] } := by
  obtain ⟨hring, -, hin⟩ := foldl_legs (R := fun s t => t = { s with ring := t.ring })
    (f := fun t l => t.modRing l (fun r => { r with due := [] })) (fun _ => rfl) (fun h k => by rw [k, h]) (fun _ _ => rfl)
    (fun _ _ _ hj => vmod_other _ _ _ _ hj) (legs := allLegs) (by decide) s
  refine ⟨hring, fun l => ?_⟩
  obtain ⟨u, -, hu, hdone⟩ := hin l (mem_allLegs l)
  exact hdone.trans (by rw [State.modRing_ring, vmod_same, hu])

/-- R319: a unit takes its new role: the active one chooses its source and announces itself, the standby drops what it served. -/
def State.changeOver (role : Role) (s : State) : State :=
  (if role = .active then (s.swapped role).selectSource.announceService
    else ((s.swapped role).endListeners.modGrid (fun g => { g with source := 3 })).dropPlanned).twinRecord 131 8 noIndex

theorem exec_swapBoundary_of_due (hat : s.twin.swapAt = some s.time.frame) (hstep : s.twin.step = .inStep) (hf : s.twin.ownFault = false) :
    exec .swapBoundary s = .next (s.changeOver (if s.isActive then .standby else .active)) := by
  have hexec : exec .swapBoundary s = execSwapBoundary s := rfl
  rw [hexec, execSwapBoundary, if_neg (not_not.2 hat)]
  dsimp only
  rw [if_neg (by simp [hstep, hf])]
  rfl

theorem exec_swapBoundary_of_other (h : s.twin.swapAt ≠ some s.time.frame) : exec .swapBoundary s = .next s := by
  have hexec : exec .swapBoundary s = execSwapBoundary s := rfl
  rw [hexec, execSwapBoundary, if_pos h]
end Roles

/-! R319, R417: the command to swap. -/
section Command
variable {s u : State} {r : HostReq}

theorem exec_commandSwap_eq (r : HostReq) (s : State) : exec (.commandSwap r) s = .next (s.subRequest 4 0 commandCodes 0x20 r) := rfl
theorem command1_swap (hc : fieldAt 0 1 r.payload = 0x20) : u.command1 r = u.swapCommand r := by simp [State.command1, hc]

theorem swapCommand_of_ready (hr : u.role = .active) (hs : u.swapReady = true) : u.swapCommand r = (0, u.beginSwap) :=
  if_pos (by simp [State.isActive, hr, hs])

theorem swapCommand_of_unready (hs : u.swapReady = false) : u.swapCommand r = (4, u) := if_neg (by simp [hs])
end Command

/-- Settles O40: each command by its rule above; what a takeover keeps is its lemma of Laws/Kept. -/
theorem joinTakeoverSwap : Obligations.JoinTakeoverSwap := by
  unfold Obligations.JoinTakeoverSwap
  refine ⟨?request, ?accept, fun _ => exec_joinRequest_of_paired, ?block, fun _ => exec_joinConverged_of_standby, ?inStep, ?joined,
    fun _ _ => exec_joinComplete_of_early, fun _ => exec_joinTimeout_of_active, ?takeover, fun _ => exec_takeoverSwitch_of_active, ?swap, ?unready,
    ?toStandby, ?toActive, fun _ => exec_swapBoundary_of_other, fun _ _ => exec_joinComplete_of_refused⟩
  case request =>
    intro s hm hu hi hstep hr
    have hsend := twinSend_of_up (s := s.modTwin Twin.joins) (by exact hm) (by exact hu) 3 .joinRequest
    exact ⟨_, (exec_joinRequest_of_standby hm hu hi hstep hr).trans (congrArg _ hsend), rfl, rfl, rfl, rfl⟩
  case accept =>
    intro s hm hu hi hstep hr ha
    have hsend := twinSend_of_up (s := (s.modTwin Twin.joins).modTwin (fun w => { w with takeoverOut := true }))
      (by exact hm) (by exact hu) 3 .joinAccept
    exact ⟨_, (exec_joinRequest_of_active hm hu hi hstep hr ha).trans (congrArg _ hsend), rfl, rfl, rfl, rfl⟩
  case block =>
    intro i d s hr hstep hm hu
    have hsend := twinSend_of_up (s := s.modTwin (fun w => { w with blocks := w.blocks + 1 }))
      (by exact hm) (by exact hu) 5 (.joinAck (s.twin.blocks + 1))
    exact ⟨_, (exec_joinBlockReceived_of_joining hr hstep i d).trans (congrArg _ hsend), rfl, rfl, rfl⟩
  case inStep =>
    intro j s hstep hf hr ha
    exact ⟨_, exec_joinComplete_of_active hstep hf hr ha, putInStep_spec hr⟩
  case joined =>
    intro j s hstep hf hr
    exact ⟨_, exec_joinComplete_of_standby hstep hf hr, rfl, rfl, rfl, rfl, rfl, rfl, rfl, rfl, takeJoin_cle j s, rfl, rfl, rfl, rfl, rfl⟩
  case takeover =>
    intro d s hd hr
    have hexec := exec_takeoverSwitch_of_decided hd hr
    obtain ⟨hrole, htwin⟩ := takeover_fields (({ s with role := .active } : State).modTwin Twin.takesOver)
    refine ⟨_, hexec, hrole, ?_, ?_, ?_, ?_, kept_of_next (execTakeoverSwitch_kept s) hexec⟩ <;> rw [htwin] <;> rfl
  case swap =>
    intro r s u ha hc hr hs hb
    have hswap := (command1_swap hc).trans (swapCommand_of_ready hr hs)
    exact (exec_commandSwap_eq r s).trans (congrArg _ (command_answered ha hc hswap hb))
  case unready =>
    intro r s u ha hc hs hb
    have hswap := (command1_swap hc).trans (swapCommand_of_unready hs)
    exact (exec_commandSwap_eq r s).trans (congrArg _ (command_answered ha hc hswap hb))
  case toStandby =>
    intro s hat hstep hf hr
    have hrole : (if s.isActive then Role.standby else .active) = .standby := if_pos (by simp [State.isActive, hr])
    obtain ⟨hstate, hring⟩ := dropPlanned_spec ((s.swapped .standby).endListeners.modGrid (fun g => { g with source := 3 }))
    rw [exec_swapBoundary_of_due hat hstep hf, hrole, State.changeOver, if_neg (by decide), hstate]
    exact ⟨_, rfl, rfl, rfl, rfl, rfl, rfl, hring, rfl⟩
  case toActive =>
    intro s hat hstep hf hr
    obtain ⟨_, _, hactive⟩ := selectSource_announceService_eq (s.swapped .active)
    have hrole : (if s.isActive then Role.standby else .active) = .active := if_neg (by simp [State.isActive, hr])
    rw [exec_swapBoundary_of_due hat hstep hf, hrole, State.changeOver, if_pos rfl, hactive]
    exact ⟨_, rfl, rfl, rfl, rfl⟩

end Sys2Proof.Machine
end
section
/-! SUPPORT. The starts of a leg (R245 to R247, R252, R271): the entry into soft start, and a start into a short. -/
namespace Sys2Proof.Machine

/-! R245, R246, R271: the entry into soft start. -/
section SoftStart
variable {leg : Leg} {s : State}

/-- R246: only in bus-forming mode does a start move the reference. -/
theorem startReference_of_steering (h : s.str.running = 0) : s.startReference = s := if_pos (.inl (by simp [h]))

theorem enterSoftStart_conv (leg : Leg) (s : State) : (s.enterSoftStart leg).conv[leg.val].st = .softStart ∧
    (s.enterSoftStart leg).conv[leg.val].pwmen = true ∧ (s.enterSoftStart leg).conv[leg.val].soft = 0 ∧
    (s.enterSoftStart leg).conv[leg.val].f10 = F64.zero ∧ (s.enterSoftStart leg).conv[leg.val].f1s = F64.zero ∧
    (s.enterSoftStart leg).conv[leg.val].ramp = none := by
  simp [State.enterSoftStart]

/-- R271: the histories of the outer loop begin at 0, those of the phase loops at d0. -/
theorem enterSoftStart_comp (leg : Leg) (s : State) : (s.enterSoftStart leg).cle[leg.val].comp[0].u1 = 0 ∧
    (s.enterSoftStart leg).cle[leg.val].comp[1].u1 = s.presetDuty leg (s.dMin leg s.cle[leg.val].bank) (s.dMax leg s.cle[leg.val].bank) := by
  simp [State.enterSoftStart, State.presetCle]

theorem enterSoftStart_frame (leg : Leg) (s : State) : s.enterSoftStart leg =
    { s with conv := (s.enterSoftStart leg).conv, cle := (s.enterSoftStart leg).cle, eleg := (s.enterSoftStart leg).eleg } := rfl

theorem enterSoftStart_other {l : Leg} (hl : l ≠ leg) : (s.enterSoftStart leg).conv[l.val] = s.conv[l.val] ∧
    (s.enterSoftStart leg).cle[l.val] = s.cle[l.val] :=
  ⟨vmod_other _ _ _ _ hl, vmod_other _ _ _ _ hl⟩
end SoftStart

/-! R247: a start into a short. -/
section Short
variable {leg : Leg} {s t : State}

/-- The legs in soft start. -/
def State.starting (s : State) : List Leg := allLegs.filter (fun l => s.conv[l.val].st == .softStart)

theorem starting_of_single (hst : s.conv[leg.val].st = .softStart) (hother : ∀ l : Leg, l ≠ leg → s.conv[l.val].st ≠ .softStart) :
    s.starting = [leg] := by
  have honly : (fun l : Leg => s.conv[l.val].st == .softStart) = (fun l => decide (leg.val = l.val)) := by
    funext l
    by_cases hl : l = leg
    · simp [hl, hst]
    · simp [hother l hl, Ne.symm (Fin.val_ne_of_ne hl)]
  rw [State.starting, honly, filter_allLegs_eq]

theorem starting_of_none (h : ∀ l : Leg, s.conv[l.val].st ≠ .softStart) : s.starting = [] :=
  List.filter_eq_nil_iff.2 fun l _ => by simp [h l]

/-- R247: SHORT_V × V_BUS_NOM, in mV. -/
def State.shortLimit (s : State) : Int := roundDiv (s.par P.shortV * s.par P.vBusNom) 1000

/-- R247: one leg brakes into RETRY_WAIT, with its record. -/
def State.retryLeg (limit : Int) (leg : Leg) (s : State) : State :=
  ((s.brakeLeg leg .retryWait 0).yieldLeg leg .protection).form 0x3001 17 (36 + leg.val) leg.val (s.iBusLatch leg) limit

theorem State.switches.str_mode (h : s.switches t) : t.str = s.str ∧ t.mode = s.mode := by
  obtain ⟨_, _, _, rfl⟩ := h
  exact ⟨rfl, rfl⟩

theorem State.yields.str_mode (h : s.yields t) : t.str = s.str ∧ t.mode = s.mode := by
  obtain ⟨_, _, _, _, _, _, rfl⟩ := h
  exact ⟨rfl, rfl⟩

theorem retryLeg_spec (limit : Int) (leg : Leg) (s : State) : State.braked leg .retryWait 0 (s.retryLeg limit leg) ∧
    (s.retryLeg limit leg).str = s.str ∧ s.converterFrame (s.retryLeg limit leg) ∧ (s.retryLeg limit leg).mode = s.mode := by
  have hbraked := (brakeLeg_braked leg .retryWait 0 s).of_keepsDrive (keepsDrive_yieldLeg leg .protection _)
  have hframe := (converterFrame_brakeLeg leg .retryWait 0 s).trans (converterFrame_yieldLeg leg .protection _)
  obtain ⟨kstr, kmode⟩ := (switches_brakeLeg leg .retryWait 0 s).str_mode
  obtain ⟨hstr, hmode⟩ := (yields_yieldLeg leg .protection (s.brakeLeg leg .retryWait 0)).str_mode
  exact ⟨by simpa [State.retryLeg, State.braked] using hbraked, (State.form_str ..).trans (hstr.trans kstr), hframe.trans (converterFrame_form ..),
    (State.form_mode ..).trans (hmode.trans kmode)⟩

theorem exec_startIntoShort_of_pulsed (hp : s.starting.any (fun l => s.conv[l.val].pulsed) = true) :
    exec .startIntoShort s =
      if s.str.retries ≥ s.parN P.startRetries then .next (s.starting.foldl (fun t l => t.latchLeg l 6 (t.iBusLatch l) s.shortLimit) s)
      else .next (s.starting.foldl (fun t l => t.retryLeg s.shortLimit l) { s with str := { s.str with retries := s.str.retries + 1 } }) := by
  have hexec : exec .startIntoShort s = execStartIntoShort s := rfl
  rw [hexec, execStartIntoShort]
  exact if_neg (by simpa [State.starting] using hp)

theorem exec_startIntoShort_retries (hstart : s.starting = [leg]) (hp : s.conv[leg.val].pulsed = true)
    (hr : s.str.retries < s.parN P.startRetries) :
    exec .startIntoShort s = .next (({ s with str := { s.str with retries := s.str.retries + 1 } } : State).retryLeg s.shortLimit leg) := by
  rw [exec_startIntoShort_of_pulsed (by simp [hstart, hp]), if_neg (Nat.not_le.2 hr), hstart]
  rfl

/-- R247: the retries spent, the leg is latched. -/
theorem exec_startIntoShort_latches (hstart : s.starting = [leg]) (hp : s.conv[leg.val].pulsed = true)
    (hr : s.parN P.startRetries ≤ s.str.retries) :
    exec .startIntoShort s = .next (s.latchLeg leg 6 (s.iBusLatch leg) s.shortLimit) := by
  rw [exec_startIntoShort_of_pulsed (by simp [hstart, hp]), if_pos hr, hstart]
  rfl

theorem exec_startIntoShort_of_none (h : s.starting = []) : exec .startIntoShort s = .next s := by
  have hexec : exec .startIntoShort s = execStartIntoShort s := rfl
  rw [State.starting] at h
  rw [hexec, execStartIntoShort]
  exact if_pos (by simp [h])
end Short

/-! The other commands, each as the operation it runs. -/
section Commands
variable {leg : Leg} {s : State}

theorem exec_legWaitBusReady_of_ready (hst : s.conv[leg.val].st = .waitBus) (hen : s.conv[leg.val].enabled = true) (hm : s.mode = .running)
    (hb : s.busReady leg = true) (hq : s.sf.seqStep = 5) (ht : s.therm.stageTrip[leg.val] = false) :
    exec (.legWaitBusReady leg) s = .next (s.startReference.enterSoftStart leg) := by
  have hexec : exec (.legWaitBusReady leg) s = execLegWaitBusReady leg s := rfl
  rw [hexec, execLegWaitBusReady, if_pos ⟨hst, hen, hm, hb, hq, by simp [ht]⟩]

theorem exec_legWaitBusReady_of_unready
    (h : s.conv[leg.val].st ≠ .waitBus ∨ s.mode ≠ .running ∨ s.busReady leg = false ∨ s.sf.seqStep ≠ 5) :
    exec (.legWaitBusReady leg) s = .next s := by
  have hexec : exec (.legWaitBusReady leg) s = execLegWaitBusReady leg s := rfl
  rw [hexec, execLegWaitBusReady]
  refine if_neg ?_
  rintro ⟨hst, -, hm, hb, hq, -⟩
  rcases h with h | h | h | h
  · exact h hst
  · exact h hm
  · exact Bool.noConfusion (h.symm.trans hb)
  · exact h hq

theorem exec_retrySpacingExpiry_of_waiting (hst : s.conv[leg.val].st = .retryWait) :
    exec (.retrySpacingExpiry leg) s = .next (s.modConv leg (fun c => { c with st := .waitBus })) := by
  have hexec : exec (.retrySpacingExpiry leg) s = execRetrySpacingExpiry leg s := rfl
  rw [hexec, execRetrySpacingExpiry, if_pos hst]

theorem exec_loadStepReentry_of_quiet (hst : s.conv[leg.val].st = .loadStepOff) (hq : 2 ≤ s.conv[leg.val].reenterRun) (hm : s.mode = .running) :
    exec (.loadStepReentry leg) s = .next (s.enterSoftStart leg) := by
  have hexec : exec (.loadStepReentry leg) s = execLoadStepReentry leg s := rfl
  rw [hexec, execLoadStepReentry, if_pos ⟨hst, hq, hm⟩]
end Commands

/-- Settles O28: the entries into soft start by `enterSoftStart_conv`; a single starting leg is the one that retries or is latched. -/
theorem legStarts : Obligations.LegStarts := by
  unfold Obligations.LegStarts
  refine ⟨?ready, fun _ _ => exec_legWaitBusReady_of_unready, ?retry, ?latched, fun _ h => exec_startIntoShort_of_none (starting_of_none h),
    fun _ _ hst => ⟨_, exec_retrySpacingExpiry_of_waiting hst, rfl, vmod_same ..⟩, ?reentry⟩
  case ready =>
    intro leg s hst hen hm hb hq ht hstr
    obtain ⟨hsoft, hpwmen, hzero, hf10, hf1s, hramp⟩ := enterSoftStart_conv leg s
    obtain ⟨houter, hphase⟩ := enterSoftStart_comp leg s
    have hexec := exec_legWaitBusReady_of_ready hst hen hm hb hq ht
    rw [startReference_of_steering hstr] at hexec
    exact ⟨_, hexec, hsoft, hpwmen, hzero, hf10, hf1s, hramp, houter, hphase, enterSoftStart_frame leg s, fun _ => enterSoftStart_other⟩
  case retry =>
    intro leg s hst hp hother hr
    obtain ⟨hbraked, hstr, hframe, hmode⟩ := retryLeg_spec s.shortLimit leg { s with str := { s.str with retries := s.str.retries + 1 } }
    have hcounted : s.converterFrame { s with str := { s.str with retries := s.str.retries + 1 } } := rfl
    exact ⟨_, exec_startIntoShort_retries (starting_of_single hst hother) hp hr, hbraked, by rw [hstr], hcounted.trans hframe, hmode⟩
  case latched =>
    intro leg s hst hp hother hr
    obtain ⟨hbraked, hen⟩ := latchLeg_braked leg 6 (s.iBusLatch leg) s.shortLimit s
    exact ⟨_, exec_startIntoShort_latches (starting_of_single hst hother) hp hr, hbraked, hen, converterFrame_latchLeg ..⟩
  case reentry =>
    intro leg s hst hq hm
    obtain ⟨hsoft, -, hzero, -⟩ := enterSoftStart_conv leg s
    exact ⟨_, exec_loadStepReentry_of_quiet hst hq hm, enterSoftStart_frame leg s, hsoft, hzero⟩

end Sys2Proof.Machine
end
section
/-! SUPPORT. A sample and a carrier period of the converters (R226, R231, R232, R234, R248 to R250, R269, R270, R307): what the latch of a
sample makes of the engines' codes, the compare values of a write, and a phase from its carrier start to a trip. -/
namespace Sys2Proof.Machine

/-- A value limited to a range lies in it. -/
theorem clampInt_mem {lo hi : Int} (h : lo ≤ hi) (x : Int) : lo ≤ clampInt lo hi x ∧ clampInt lo hi x ≤ hi := by
  unfold clampInt
  split
  · exact ⟨le_rfl, h⟩
  · split
    · exact ⟨h, le_rfl⟩
    · omega

/-! R231, R234, R270: the engines at the latch of a sample. -/
section Latch
variable {leg : Leg} {codes : Vector Int 20} {s t u : State}

/-- Only converters, engines and the string level differ, and the codes of each engine stand. -/
def State.keepsCodes (s t : State) : Prop :=
  (∃ (conv : Vector LegConv 4) (cle : Vector Cle 4) (str : StringConv), t = { s with conv := conv, cle := cle, str := str }) ∧
    ∀ l : Leg, t.cle[l.val].codes = s.cle[l.val].codes

theorem State.keepsCodes.refl : s.keepsCodes s := ⟨⟨_, _, _, rfl⟩, fun _ => rfl⟩

theorem State.keepsCodes.trans (h : s.keepsCodes t) (k : t.keepsCodes u) : s.keepsCodes u := by
  obtain ⟨⟨_, _, _, rfl⟩, hcodes⟩ := h
  obtain ⟨⟨_, _, _, rfl⟩, kcodes⟩ := k
  exact ⟨⟨_, _, _, rfl⟩, fun l => (kcodes l).trans (hcodes l)⟩

theorem keepsCodes_modConv (leg : Leg) (f : LegConv → LegConv) (s : State) : s.keepsCodes (s.modConv leg f) := ⟨⟨_, _, _, rfl⟩, fun _ => rfl⟩

theorem keepsCodes_modCle (leg : Leg) {f : Cle → Cle} (h : ∀ c, (f c).codes = c.codes) (s : State) : s.keepsCodes (s.modCle leg f) := by
  refine ⟨⟨_, _, _, rfl⟩, fun l => ?_⟩
  by_cases hl : l = leg
  · subst hl
    simp [h]
  · rw [State.modCle_cle, vmod_other _ _ _ _ hl]

/-- R270, R272: the word and the bank of a sample leave its codes. -/
theorem applyWord_codes (s : State) (leg : Leg) (c : Cle) : (s.applyWord leg c).codes = c.codes := by
  unfold State.applyWord
  dsimp only
  repeat' split
  all_goals rfl

theorem keepSample_codes (frame sample : Nat) (w : SetPoint) (direct : Option Int) (c : Cle) :
    (keepSample frame sample w direct c).codes = c.codes := rfl

theorem keepsCodes_latchLegSample (leg : Leg) (s : State) : s.keepsCodes (s.latchLegSample leg) := by
  unfold State.latchLegSample
  extract_lets worded latched c e written w computes direct kept computed tgt done finished
  have hlatched : s.keepsCodes latched := (keepsCodes_modCle leg (applyWord_codes s leg) s).trans (keepsCodes_modConv ..)
  have hkept : latched.keepsCodes kept := by
    unfold kept
    split
    · exact keepsCodes_modCle leg (keepSample_codes _ _ _ _) latched
    · exact .refl
  have hcomputed : kept.keepsCodes computed := by
    refine keepsCodes_modCle leg (fun x => ?_) kept
    split
    · rfl
    · rfl
  have hfinished : s.keepsCodes finished := ((hlatched.trans hkept).trans hcomputed).trans (keepsCodes_modConv ..)
  split
  · exact hfinished.trans ⟨⟨_, _, _, rfl⟩, fun _ => rfl⟩
  · exact hfinished

/-- R234: every engine takes the codes. -/
def State.takeCodes (codes : Vector Int 20) (s : State) : State := allLegs.foldl (fun t l => t.modCle l (fun c => { c with codes := codes })) s

theorem takeCodes_frame (codes : Vector Int 20) (s : State) : ∃ cle, s.takeCodes codes = { s with cle := cle } :=
  List.foldlRecOn allLegs _ (motive := fun t => ∃ cle, t = { s with cle := cle }) ⟨_, rfl⟩ fun t ht l _ => by
    obtain ⟨_, rfl⟩ := ht
    exact ⟨_, rfl⟩

theorem takeCodes_codes (codes : Vector Int 20) (s : State) (l : Leg) : (s.takeCodes codes).cle[l.val].codes = codes := by
  refine foldl_establishes (p := fun t => t.cle[l.val].codes = codes) (mem_allLegs l) (fun t => by simp) (fun t b ht => ?_) s
  by_cases hb : l = b
  · subst hb
    simp
  · rw [State.modCle_cle, vmod_other _ _ _ _ hb, ht]

theorem latchSample_eq (codes : Vector Int 20) (s : State) :
    s.latchSample codes = allLegs.foldl (fun t l => t.latchLegSample l) (s.takeCodes (s.corrected codes)) := rfl

/-- R231, R234: after a latch every engine holds the corrected codes. -/
theorem latchSample_spec (codes : Vector Int 20) (s : State) : (s.latchSample codes).mode = s.mode ∧ (s.latchSample codes).sf = s.sf ∧
    ∀ l : Leg, (s.latchSample codes).cle[l.val].codes = s.corrected codes := by
  have hlegs : (s.takeCodes (s.corrected codes)).keepsCodes (s.latchSample codes) :=
    latchSample_eq codes s ▸ List.foldlRecOn allLegs _ (motive := (s.takeCodes (s.corrected codes)).keepsCodes) .refl
      fun t ht l _ => ht.trans (keepsCodes_latchLegSample l t)
  obtain ⟨_, htaken⟩ := takeCodes_frame (s.corrected codes) s
  obtain ⟨⟨_, _, _, hframe⟩, hcodes⟩ := hlegs
  exact ⟨by rw [hframe, htaken], by rw [hframe, htaken], fun l => (hcodes l).trans (takeCodes_codes ..)⟩

theorem corrected_getElem (s : State) (codes : Vector Int 20) (i : Fin 20) :
    (s.corrected codes)[i.val] = clampInt (-131071) 131071 ((s.trained codes)[i.val] - s.mdOffset[i.val]) := by
  simp [State.corrected]

/-- R307: at most the twin part changes. -/
theorem sendCodes_fields (codes : Vector Int 20) (s : State) :
    (s.sendCodes codes).mode = s.mode ∧ (s.sendCodes codes).sf = s.sf ∧ (s.sendCodes codes).cle = s.cle := by
  unfold State.sendCodes State.twinSend
  split
  · split
    · exact ⟨rfl, rfl, rfl⟩
    · exact ⟨rfl, rfl, rfl⟩
  · exact ⟨rfl, rfl, rfl⟩

/-- R34: at most the time base and the grid change. -/
theorem stampLatch_fields (s : State) : s.stampLatch.mode = s.mode ∧ s.stampLatch.sf = s.sf ∧
    ∀ codes : Vector Int 20, s.stampLatch.corrected codes = s.corrected codes := ⟨rfl, rfl, fun _ => rfl⟩

theorem exec_sampleLatch_of_standby (hr : s.role = .standby) (hd : s.twin.decided = none) :
    exec (.sampleLatch codes) s = .next (s.stampLatch.modTwin (fun w => { w with ownCodes := codes, missing := false })) := by
  have hexec : exec (.sampleLatch codes) s = execSampleLatch codes s := rfl
  rw [hexec, execSampleLatch]
  exact if_pos ⟨hr, hd⟩

theorem exec_sampleLatch_of_active (hr : s.role = .active) :
    exec (.sampleLatch codes) s = .next ((s.stampLatch.latchSample codes).sendCodes codes) := by
  have hexec : exec (.sampleLatch codes) s = execSampleLatch codes s := rfl
  have hrole : s.stampLatch.role ≠ .standby := fun h => Role.noConfusion (hr.symm.trans h)
  rw [hexec, execSampleLatch]
  exact if_neg fun h => hrole h.1
end Latch

/-! R234, R269: the write instant. -/
section Write
variable {leg : Leg} {s : State}

/-- R269: the compare values of both phases of a leg. -/
def State.writeLeg (leg : Leg) (s : State) : State :=
  ((s.modPwm (phaseA leg) (fun q => { q with written := s.compareOf leg s.cle[leg.val].out[1] })).modPwm (phaseB leg)
    (fun q => { q with written := s.compareOf leg s.cle[leg.val].out[2] })).modCle leg (fun c =>
      { c with hist := updAt c.hist 0 (fun h =>
          { h with written := some (s.compareOf leg s.cle[leg.val].out[1], s.compareOf leg s.cle[leg.val].out[2]) }) })

/-- R269: an engine that computes writes its leg. -/
def State.writeRunning (leg : Leg) (s : State) : State := if s.cle[leg.val].running then s.writeLeg leg else s

theorem exec_compareWrite_eq (s : State) : exec .compareWrite s = .next (allLegs.foldl (fun t l => t.writeRunning l) s).sampleFlits.sendWords := rfl

theorem writeRunning_of_running (h : s.cle[leg.val].running = true) : s.writeRunning leg = s.writeLeg leg := if_pos h
theorem writeRunning_of_idle (h : s.cle[leg.val].running = false) : s.writeRunning leg = s := if_neg (by simp [h])

theorem writeLeg_cle_other {l : Leg} (hl : l ≠ leg) : (s.writeLeg leg).cle[l.val] = s.cle[l.val] := vmod_other _ _ _ _ hl

theorem writeLeg_pwm (leg : Leg) (s : State) :
    (s.writeLeg leg).pwm[(phaseA leg).val] = { s.pwm[(phaseA leg).val] with written := s.compareOf leg s.cle[leg.val].out[1] } ∧
    (s.writeLeg leg).pwm[(phaseB leg).val] = { s.pwm[(phaseB leg).val] with written := s.compareOf leg s.cle[leg.val].out[2] } := by
  have hne := phaseA_ne_phaseB leg
  simp [State.writeLeg, vmod_other _ _ _ _ hne, vmod_other _ _ _ _ hne.symm]

theorem writeLeg_frame (leg : Leg) (s : State) : ∃ pwm cle, s.writeLeg leg = { s with pwm := pwm, cle := cle } := ⟨_, _, rfl⟩

/-- A step that acts for one leg alone acts once, wherever that leg stands. -/
theorem foldl_allLegs_of_single {f : State → Leg → State} (hbefore : ∀ l : Leg, l ≠ leg → f s l = s)
    (hafter : ∀ l : Leg, l ≠ leg → f (f s leg) l = f s leg) : allLegs.foldl f s = f s leg := by
  have hfix (u : State) (ls : List Leg) (h : ∀ l ∈ ls, f u l = u) : ls.foldl f u = u :=
    List.foldlRecOn ls f (motive := fun t => t = u) rfl fun t ht l hl => by rw [ht, h l hl]
  have hnodup : allLegs.Nodup := by decide
  obtain ⟨before, after, hlegs⟩ := List.append_of_mem (mem_allLegs leg)
  rw [hlegs, List.nodup_middle, List.nodup_cons, List.mem_append, not_or] at hnodup
  obtain ⟨⟨hnotBefore, hnotAfter⟩, -⟩ := hnodup
  rw [hlegs, List.foldl_append, List.foldl_cons, hfix s before fun l hl => hbefore l (ne_of_mem_of_not_mem hl hnotBefore),
    hfix _ after fun l hl => hafter l (ne_of_mem_of_not_mem hl hnotAfter)]

theorem foldl_writeRunning_of_single (hrun : s.cle[leg.val].running = true) (hother : ∀ l : Leg, l ≠ leg → s.cle[l.val].running = false) :
    allLegs.foldl (fun t l => t.writeRunning l) s = s.writeLeg leg := by
  have hwrite := writeRunning_of_running hrun
  rw [foldl_allLegs_of_single (fun l hl => writeRunning_of_idle (hother l hl)) fun l hl => ?_, hwrite]
  rw [hwrite]
  exact writeRunning_of_idle (by rw [writeLeg_cle_other hl, hother l hl])

/-- R21: the copies of a sample only wait for their slots. -/
theorem sampleFlits_eq (s : State) : ∃ f2c, s.sampleFlits = { s with base := { s.base with f2c := f2c } } :=
  List.foldlRecOn allLegs _ (motive := fun t => ∃ f2c, t = { s with base := { s.base with f2c := f2c } }) ⟨_, rfl⟩ fun t ht l _ => by
    obtain ⟨_, rfl⟩ := ht
    split
    · exact ⟨_, rfl⟩
    · exact ⟨_, rfl⟩

theorem sampleFlits_of_idle (h : ∀ l : Leg, s.cle[l.val].running = false) : s.sampleFlits = s :=
  List.foldl_fixed' (fun l => if_neg (by simp [h l])) allLegs

theorem sendWords_of_unpaired (h : s.twin.step.paired = false) : s.sendWords = s := if_neg (by simp [h])

theorem exec_compareWrite_of_idle (h : ∀ l : Leg, s.cle[l.val].running = false) (hp : s.twin.step.paired = false) :
    exec .compareWrite s = .next s := by
  have hwrite : allLegs.foldl (fun t l => t.writeRunning l) s = s := List.foldl_fixed' (fun l => writeRunning_of_idle (h l)) allLegs
  rw [exec_compareWrite_eq, hwrite, sampleFlits_of_idle h, sendWords_of_unpaired hp]

/-- R232: a compare value lies within C_MIN to C_MAX. -/
theorem compareOf_mem (u : Int) (hmin : 0 ≤ s.cMin leg) (h : s.cMin leg ≤ s.cMax leg) :
    s.cMin leg ≤ s.compareOf leg u ∧ s.compareOf leg u ≤ s.cMax leg := by
  obtain ⟨hlo, hhi⟩ := clampInt_mem h ((u * s.period + 2 ^ 29) / 2 ^ 30)
  rw [State.compareOf, Int.toNat_of_nonneg (hmin.trans hlo)]
  exact ⟨hlo, hhi⟩
end Write

/-! R232, R248 to R250: a phase. -/
section Phases
variable {p : Phase} {i : Int} {s : State}

/-- R235: the phase switches in the carrier period that begins. -/
def State.carrierOn (s : State) (p : Phase) : Bool :=
  s.conv[(legOf p).val].st.live && s.conv[(legOf p).val].st != .loadStepOff && s.conv[(legOf p).val].pwmen && s.conv[(legOf p).val].lead == 0 &&
    s.sf.legPwm[(legOf p).val] && !s.sf.forceoff

/-- R250: consecutive trip periods, that which ends counted. -/
def PhasePwm.tripRun (q : PhasePwm) : Nat := if q.fast || q.desat then q.run + 1 else 0

/-- R232, R234, R248 to R250: a phase at its carrier start. -/
def PhasePwm.carrier (on : Bool) (q : PhasePwm) : PhasePwm :=
  { q with
    compare := q.written, held := false, fast := false, desat := false, run := q.tripRun
    runDesat := if (q.fast || q.desat) ∧ q.run = 0 then q.desat else q.runDesat
    fastTrips := if q.fast then incSat q.fastTrips else q.fastTrips
    desatTrips := if q.desat then incSat q.desatTrips else q.desatTrips
    on := on }

/-- R247: the converter of a leg notes its first pulse. -/
def LegConv.pulses (on : Bool) (c : LegConv) : LegConv := { c with pulsed := c.pulsed || (on && c.st == .softStart) }

/-- R250: too few trips in a row, or a leg that does not switch: nothing is latched. -/
theorem exec_pwmCarrierStart_of_unlatched
    (h : ¬(s.parN P.fastLatch (legOf p).val ≤ s.pwm[p.val].tripRun ∧ s.conv[(legOf p).val].st.live = true)) :
    exec (.pwmCarrierStart p) s =
      .next ((s.modPwm p (PhasePwm.carrier (s.carrierOn p))).modConv (legOf p) (LegConv.pulses (s.carrierOn p))) := by
  have hexec : exec (.pwmCarrierStart p) s = execPwmCarrierStart p s := rfl
  rw [hexec, execPwmCarrierStart]
  exact congrArg _ (if_neg h)

theorem carrierOn_of_blocked (h : s.conv[(legOf p).val].pwmen = false ∨ s.sf.legPwm[(legOf p).val] = false ∨ s.sf.forceoff = true) :
    s.carrierOn p = false := by
  rcases h with h | h | h <;> simp [State.carrierOn, h]

theorem exec_fastLimitTrip_of_beyond (hon : s.pwm[p.val].on = true) (hi : s.par P.fastLim (legOf p).val < i.natAbs) :
    exec (.fastLimitTrip p i) s = .next (s.modPwm p (fun q => { q with held := true, fast := q.fast || !q.desat, tripMa := i })) := by
  have hexec : exec (.fastLimitTrip p i) s = execFastLimitTrip p i s := rfl
  rw [hexec, execFastLimitTrip, if_pos ⟨hon, hi⟩]

theorem exec_fastLimitTrip_of_within (hi : (i.natAbs : Int) ≤ s.par P.fastLim (legOf p).val) : exec (.fastLimitTrip p i) s = .next s := by
  have hexec : exec (.fastLimitTrip p i) s = execFastLimitTrip p i s := rfl
  rw [hexec, execFastLimitTrip, if_neg fun h => not_lt_of_ge hi h.2]

theorem exec_desatTrip_of_on (hon : s.pwm[p.val].on = true) :
    exec (.desatTrip p) s = .next (s.modPwm p (fun q => { q with held := true, desat := q.desat || !q.fast, tripMa := s.iPhaseLatch p })) := by
  have hexec : exec (.desatTrip p) s = execDesatTrip p s := rfl
  rw [hexec, execDesatTrip, if_pos hon]

/-- R248, R249: both outputs of a phase under a trip are low. -/
theorem pwm_low_of_held (h : s.pwm[p.val].held = true) (c : Nat) : s.pwmHigh p c = false ∧ s.pwmLow p c = false := by
  simp [State.pwmHigh, State.pwmLow, h]

/-- R232: PWMpL rises only a dead time after PWMpH has fallen. -/
theorem pwmLow_of_pwmHigh {c : Nat} (h : s.pwmHigh p c = true) : s.pwmLow p c = false := by
  have hbefore : c < s.pwm[p.val].compare := by
    simp only [State.pwmHigh, Bool.and_eq_true, decide_eq_true_eq] at h
    exact h.2
  have hdead : ¬ s.pwm[p.val].compare + s.parN P.deadTime (legOf p).val ≤ c := by omega
  simp [State.pwmLow, hdead]
end Phases

/-- Settles O30: the latch by `latchSample_spec`, the write by the one leg that computes, the phases by `exec_pwmCarrierStart_of_unlatched` and
`pwm_low_of_held`. -/
theorem samplesAndPwm : Obligations.SamplesAndPwm := by
  unfold Obligations.SamplesAndPwm
  refine ⟨?standby, ?active, fun _ => exec_compareWrite_of_idle, ?write, fun _ u _ => compareOf_mem u, ?carrier, ?fast,
    fun _ _ _ => exec_fastLimitTrip_of_within, ?desat, ?exclusive⟩
  case standby =>
    intro codes s hr hd
    exact ⟨_, exec_sampleLatch_of_standby hr hd, rfl, rfl, rfl⟩
  case active =>
    intro codes s hr
    have hexec := exec_sampleLatch_of_active (codes := codes) hr
    obtain ⟨hmode, hsf, hcle⟩ := sendCodes_fields codes (s.stampLatch.latchSample codes)
    obtain ⟨kmode, ksf, kcodes⟩ := latchSample_spec codes s.stampLatch
    obtain ⟨jmode, jsf, jcodes⟩ := stampLatch_fields s
    have hkept := kept_of_next (execSampleLatch_kept codes s) hexec
    refine ⟨_, hexec, hkept, hmode.trans (kmode.trans jmode), hsf.trans (ksf.trans jsf), fun l i => ?_⟩
    simp only [hcle, kcodes, jcodes]
    exact corrected_getElem s codes i
  case write =>
    intro leg s hrun hother hp
    obtain ⟨f2c, hflits⟩ := sampleFlits_eq (s.writeLeg leg)
    obtain ⟨hA, hB⟩ := writeLeg_pwm leg s
    obtain ⟨pwm, cle, hframe⟩ := writeLeg_frame leg s
    rw [hframe] at hflits hA hB
    refine ⟨{ s with pwm := pwm, cle := cle, base := { s.base with f2c := f2c } }, ?_, hA, hB, rfl⟩
    rw [exec_compareWrite_eq, foldl_writeRunning_of_single hrun hother, hframe, hflits]
    exact congrArg _ (sendWords_of_unpaired hp)
  case carrier =>
    intro p s h
    have hunlatched : ¬(s.parN P.fastLatch (legOf p).val ≤ s.pwm[p.val].tripRun ∧ s.conv[(legOf p).val].st.live = true) := by
      rintro ⟨hrun, hlive⟩
      rcases h with hst | ⟨hfast, hdesat, hlatch⟩
      · rw [hst] at hlive
        exact Bool.noConfusion hlive
      · rw [PhasePwm.tripRun, if_neg (by simp [hfast, hdesat])] at hrun
        omega
    have hphase : (s.modPwm p (PhasePwm.carrier (s.carrierOn p))).pwm[p.val] = s.pwm[p.val].carrier (s.carrierOn p) := vmod_same ..
    refine ⟨_, exec_pwmCarrierStart_of_unlatched hunlatched, rfl, ?_⟩
    rw [State.modConv_pwm, hphase]
    exact ⟨rfl, rfl, rfl, rfl, rfl, carrierOn_of_blocked⟩
  case fast =>
    intro p i s hon hi
    have hheld : (s.modPwm p (fun q => { q with held := true, fast := q.fast || !q.desat, tripMa := i })).pwm[p.val].held = true := by simp
    exact ⟨_, exec_fastLimitTrip_of_beyond hon hi, rfl, hheld, by simp, pwm_low_of_held hheld⟩
  case desat =>
    intro p s hon
    have hheld : (s.modPwm p (fun q => { q with held := true, desat := q.desat || !q.fast, tripMa := s.iPhaseLatch p })).pwm[p.val].held = true := by
      simp
    exact ⟨_, exec_desatTrip_of_on hon, rfl, hheld, pwm_low_of_held hheld⟩
  case exclusive =>
    rintro p c s ⟨hhigh, hlow⟩
    exact Bool.noConfusion ((pwmLow_of_pwmHigh hhigh).symm.trans hlow)

end Sys2Proof.Machine
end
section
/-! SUPPORT. Contactor groups (R283, R284, R287, R317): their commands, their feedback, and their faults. -/
namespace Sys2Proof.Machine

/-! A bit that is set, and the bits below it. -/
section Bits
variable (n i j : Nat) (b : Bool)

theorem testBit_setBit_same : (setBit n i b).testBit i = b := by
  unfold setBit
  split
  next h => exact h
  next h =>
    cases b
    case true => simpa [Nat.add_comm n, Nat.testBit_two_pow_add_eq] using h
    case false =>
      have hbit : n.testBit i = true := by simpa using h
      have hflip := Nat.testBit_two_pow_add_eq (n - 2 ^ i) i
      rw [Nat.add_sub_cancel' (Nat.ge_two_pow_of_testBit hbit), hbit] at hflip
      simpa using hflip.symm

variable {i j} in
theorem testBit_setBit_of_lt (h : j < i) : (setBit n i b).testBit j = n.testBit j := by
  unfold setBit
  split
  next => rfl
  next hne =>
    cases b
    case true => simp [Nat.add_comm n, Nat.testBit_two_pow_add_gt h]
    case false =>
      have hbit : n.testBit i = true := by simpa using hne
      have hlow := Nat.testBit_two_pow_add_gt h (n - 2 ^ i)
      rw [Nat.add_sub_cancel' (Nat.ge_two_pow_of_testBit hbit)] at hlow
      simpa using hlow.symm
end Bits

/-! R283: the feedback of a group, as its inputs were read last. -/
section Feedback
variable {g : Fin 4} {s : State}

theorem setFbk_bits (g : Fin 4) (levels : Nat) (s : State) : bitAt (s.setFbk g levels).sf.fbk (2 * g.val) = bitAt levels 0 ∧
    bitAt (s.setFbk g levels).sf.fbk (2 * g.val + 1) = bitAt levels 1 :=
  ⟨(testBit_setBit_of_lt _ _ (Nat.lt_succ_self _)).trans (testBit_setBit_same ..), testBit_setBit_same ..⟩

theorem readsOpen_setFbk (h : s.fbkUse g = 2) (levels : Nat) : (s.setFbk g levels).readsOpen g = (bitAt levels 0 && bitAt levels 1) := by
  have huse : (s.setFbk g levels).fbkUse g = 2 := h
  simp [State.readsOpen, huse, setFbk_bits]

theorem readsClosed_setFbk (h : s.fbkUse g = 2) (levels : Nat) :
    (s.setFbk g levels).readsClosed g = (!bitAt levels 0 && !bitAt levels 1) := by
  have huse : (s.setFbk g levels).fbkUse g = 2 := h
  simp [State.readsClosed, huse, setFbk_bits]
end Feedback

/-! R284: a group is turned on. -/
section Closing

/-- R284: a group that is turned on. -/
def Group.turnedOn (x : Group) : Group :=
  if x.on = true then x
  else { x with on := true, operating := true, peerHold := false, age := 0, st := if x.st = .welded then .welded else .closing }

theorem Group.turnedOn_on (x : Group) : x.turnedOn.on = true := by
  unfold Group.turnedOn
  split
  · assumption
  · rfl

theorem Group.turnedOn_st {x : Group} (hoff : x.on = false) (hw : x.st ≠ .welded) : x.turnedOn.st = .closing := by
  simp [Group.turnedOn, hoff, hw]

theorem command_true (g : Fin 4) (s : State) : s.command g true = s.modGroup g Group.turnedOn := by
  unfold State.command State.modGroup Group.turnedOn
  split
  next h => simp [vmod, h]
  next h => simp [vmod, h]

/-- R284: step 3 turns on the main positive group, and the auxiliary group where it is used. -/
def State.closeMains (s : State) : State :=
  if (s.command 0 true).groupUnused 3 then s.command 0 true else (s.command 0 true).command 3 true

theorem closeMains_spec (s : State) : ∃ v : Vector Group 4, s.closeMains = { s with sf := { s.sf with group := v } } ∧
    v[0].on = true ∧ v[3].on = (s.sf.group[3].on || !s.groupUnused 3) := by
  have hunused : (s.modGroup 0 Group.turnedOn).groupUnused 3 = s.groupUnused 3 := rfl
  have hmain := vmod_same s.sf.group (0 : Fin 4) Group.turnedOn
  have hmainOn : (vmod s.sf.group 0 Group.turnedOn)[0].on = true := (congrArg Group.on hmain).trans (Group.turnedOn_on _)
  simp only [State.closeMains, command_true, hunused]
  cases hu : s.groupUnused 3
  case true =>
    have haux := vmod_other s.sf.group (0 : Fin 4) (3 : Fin 4) Group.turnedOn (by decide)
    exact ⟨_, rfl, hmainOn, by simpa using congrArg Group.on haux⟩
  case false =>
    have hkeep := vmod_other (vmod s.sf.group 0 Group.turnedOn) (3 : Fin 4) (0 : Fin 4) Group.turnedOn (by decide)
    have haux := vmod_same (vmod s.sf.group 0 Group.turnedOn) (3 : Fin 4) Group.turnedOn
    exact ⟨_, rfl, (congrArg Group.on hkeep).trans hmainOn, by simpa using (congrArg Group.on haux).trans (Group.turnedOn_on _)⟩
end Closing

/-! R284: the steps of the closing sequence. -/
section Sequence
variable {s : State} (hm : s.mode = .armed ∨ s.mode = .running)
include hm

theorem exec_contactorSequenceStep_of_one (hstep : s.sf.seqStep = 1) :
    exec .contactorSequenceStep s = .next (if s.closed 1 then (s.command 2 true).seqTo 2 else s) := by
  have hexec : exec .contactorSequenceStep s = execContactorSequenceStep s := rfl
  rw [hexec, execContactorSequenceStep, if_neg (by tauto), hstep]
  rfl

theorem exec_contactorSequenceStep_of_settled (hstep : s.sf.seqStep = 2) (hf : 100 ≤ s.sf.stepFrames) (hb : s.busSettled = true) :
    exec .contactorSequenceStep s = .next (s.closeMains.seqTo 3) := by
  have hexec : exec .contactorSequenceStep s = execContactorSequenceStep s := rfl
  rw [hexec, execContactorSequenceStep, if_neg (by tauto), hstep]
  simp [hf, hb, State.closeMains]

theorem exec_contactorSequenceStep_of_three (hstep : s.sf.seqStep = 3) (h0 : s.closed 0 = true) (h3 : s.closed 3 = true) :
    exec .contactorSequenceStep s = .next (s.seqTo 4) := by
  have hexec : exec .contactorSequenceStep s = execContactorSequenceStep s := rfl
  rw [hexec, execContactorSequenceStep, if_neg (by tauto), hstep]
  simp [h0, h3]

theorem exec_contactorSequenceStep_of_four (hstep : s.sf.seqStep = 4) :
    exec .contactorSequenceStep s =
      .next (if s.sf.group[2].on then (if s.parN P.prechargeOverlap ≤ s.sf.stepFrames then s.command 2 false else s)
        else if s.standsOpen 2 then s.seqTo 5 else s) := by
  have hexec : exec .contactorSequenceStep s = execContactorSequenceStep s := rfl
  rw [hexec, execContactorSequenceStep, if_neg (by tauto), hstep]
  rfl
end Sequence

/-! R287: the faults of a group, as demands. -/
section Faults

/-- R291: what the safety pair knows of the groups is not touched by a demand. -/
theorem trigger_groups (cause cat : Nat) (latching : Bool) (s : State) :
    (s.trigger cause cat latching).sf.group = s.sf.group ∧ (s.trigger cause cat latching).sf.tripReq = s.sf.tripReq := by
  by_cases hactive : s.mode = .armed ∨ s.mode = .running
  · obtain ⟨_, _, _, _, _, _, _, _, _, _, _, ht⟩ := trigger_of_active (cause := cause) (cat := cat) (latching := latching) hactive
    rw [ht]
    exact ⟨rfl, rfl⟩
  by_cases hstop : s.mode = .stopping
  · rw [trigger_of_stopping hstop]
    exact ⟨rfl, rfl⟩
  · obtain ⟨harmed, hrunning⟩ := not_or.mp hactive
    rw [trigger_elsewhere harmed hrunning hstop]
    exact ⟨rfl, rfl⟩

/-- A fault of a group other than WELDED is its demand. -/
theorem groupFault_demands (g : Fin 4) (st : GroupSt) (code cause cat : Nat) (s : State) :
    (s.groupFault g st code cause cat).sf.group[g.val].st = st ∧ s.demands cause cat true (s.groupFault g st code cause cat) := by
  have hgroup : (s.groupFault g st code cause cat).sf.group[g.val] = { s.sf.group[g.val] with st := st } := by
    simp only [State.groupFault, trigger_groups]
    exact vmod_same ..
  exact ⟨by rw [hgroup], (trigger_demands cause cat true _).of_safetyFrame rfl rfl⟩

/-- A weld is its demand, with a trip request. -/
theorem declareWelded_demands (g : Fin 4) (s : State) : (s.declareWelded g).sf.group[g.val].st = .welded ∧
    (s.declareWelded g).sf.tripReq = true ∧ s.demands 16 2 true (s.declareWelded g) := by
  have hgroup : (s.declareWelded g).sf.group[g.val] = { s.sf.group[g.val] with st := .welded, operating := false, peerHold := false } := by
    simp only [State.declareWelded, trigger_groups]
    exact vmod_same ..
  have htrip : (s.declareWelded g).sf.tripReq = true := by
    simp only [State.declareWelded, trigger_groups]
    rfl
  exact ⟨by rw [hgroup], htrip, (trigger_demands 16 2 true _).of_safetyFrame rfl rfl⟩
end Faults

/-! R287, R317: the end of an operate time, a change of feedback, and the end of a hold by the peer. -/
section Operated
variable {g : Fin 4} {s : State}

/-- R287: a group at the end of its operate time, with its feedback read. -/
def State.operated (g : Fin 4) (levels : Nat) (s : State) : State := (s.setFbk g levels).modGroup g (fun x => { x with operating := false })

/-- A demand at the end of an operate time is a demand of the state before. -/
theorem State.demands.of_operated {t : State} {cause cat levels : Nat} {latching : Bool} (h : (s.operated g levels).demands cause cat latching t) :
    s.demands cause cat latching t := h.of_safetyFrame rfl rfl

theorem exec_contactorOperateTimeout_of_used (hu : s.groupUnused g = false) (hw : s.sf.group[g.val].st ≠ .welded) (levels : Nat) :
    exec (.contactorOperateTimeout g levels) s =
      .next (if (s.operated g levels).fbkDisagree g then (s.operated g levels).groupFault g .fbkDiscrepancy 12 15 2
        else if s.sf.group[g.val].on then
          (if s.fbkUse g = 0 ∨ (s.setFbk g levels).readsClosed g then (s.operated g levels).modGroup g (fun x => { x with st := .closed })
            else (s.operated g levels).groupFault g .failedToClose 9 15 2)
        else if s.fbkUse g = 0 ∨ (s.setFbk g levels).readsOpen g then (s.operated g levels).modGroup g (fun x => { x with st := .opened })
        else if s.peerHolds g then
          ((s.operated g levels).modGroup g (fun x => { x with peerHold := true })).modTwin (fun w => { w with takeoverOut := true })
        else (s.operated g levels).declareWelded g) := by
  have hexec : exec (.contactorOperateTimeout g levels) s = execContactorOperateTimeout g levels s := rfl
  rw [hexec, execContactorOperateTimeout, if_neg (by simp [hu, hw])]
  rfl

theorem operated_fbkDisagree (levels : Nat) : (s.operated g levels).fbkDisagree g =
    (s.fbkUse g == 2 && !(s.setFbk g levels).readsOpen g && !(s.setFbk g levels).readsClosed g) := rfl

/-- R284: without feedback a group is taken as it was commanded. -/
theorem exec_contactorOperateTimeout_of_noFeedback (hu : s.groupUnused g = false) (hw : s.sf.group[g.val].st ≠ .welded) (h : s.fbkUse g = 0)
    (levels : Nat) : exec (.contactorOperateTimeout g levels) s =
      .next ((s.operated g levels).modGroup g (fun x => { x with st := if s.sf.group[g.val].on then .closed else .opened })) := by
  have hagree : (s.operated g levels).fbkDisagree g = false := by simp [operated_fbkDisagree, h]
  rw [exec_contactorOperateTimeout_of_used hu hw, if_neg (by simp [hagree])]
  cases hon : s.sf.group[g.val].on <;> simp [h]

/-- R287: commanded closed, and the feedback still open. -/
theorem exec_contactorOperateTimeout_of_open (hu : s.groupUnused g = false) (hw : s.sf.group[g.val].st ≠ .welded) (h : s.fbkUse g = 2)
    (hon : s.sf.group[g.val].on = true) :
    exec (.contactorOperateTimeout g 3) s = .next ((s.operated g 3).groupFault g .failedToClose 9 15 2) := by
  have hopen : (s.setFbk g 3).readsOpen g = true := readsOpen_setFbk h 3
  have hclosed : (s.setFbk g 3).readsClosed g = false := readsClosed_setFbk h 3
  rw [exec_contactorOperateTimeout_of_used hu hw, if_neg (by simp [operated_fbkDisagree, hopen]), if_pos hon, if_neg (by simp [h, hclosed])]

/-- R287, R317: commanded open, the feedback still closed, and no hold by the peer. -/
theorem exec_contactorOperateTimeout_of_closed (hu : s.groupUnused g = false) (hw : s.sf.group[g.val].st ≠ .welded) (h : s.fbkUse g = 2)
    (hoff : s.sf.group[g.val].on = false) (hp : s.peerHolds g = false) :
    exec (.contactorOperateTimeout g 0) s = .next ((s.operated g 0).declareWelded g) := by
  have hopen : (s.setFbk g 0).readsOpen g = false := readsOpen_setFbk h 0
  have hclosed : (s.setFbk g 0).readsClosed g = true := readsClosed_setFbk h 0
  rw [exec_contactorOperateTimeout_of_used hu hw, if_neg (by simp [operated_fbkDisagree, hclosed]), if_neg (by simp [hoff]),
    if_neg (by simp [h, hopen]), if_neg (by simp [hp])]

theorem exec_contactorFeedbackChange_of_on (hu : s.groupUnused g = false) (h : s.fbkUse g = 2) (hc : s.base.coreLost = false)
    (hon : s.sf.group[g.val].on = true) (levels : Nat) : exec (.contactorFeedbackChange g levels) s =
      .next (if s.sf.group[g.val].st == .closed && (s.setFbk g levels).readsOpen g then (s.setFbk g levels).groupFault g .dropped 11 14 1
        else if s.sf.group[g.val].st == .closing && (s.setFbk g levels).readsClosed g then
          (s.setFbk g levels).modGroup g (fun x => { x with st := .closed })
        else s.setFbk g levels) := by
  have hexec : exec (.contactorFeedbackChange g levels) s = execContactorFeedbackChange g levels s := rfl
  have huse : (s.setFbk g levels).fbkUse g = 2 := h
  have hused : (s.setFbk g levels).groupUnused g = false := hu
  have hbase : (s.setFbk g levels).base.coreLost = false := hc
  rw [hexec, execContactorFeedbackChange]
  simp only [huse, hused, hbase, hon, if_true]
  rfl

theorem exec_weldPeerHoldExpiry_of_held (h : s.sf.group[g.val].peerHold = true) (levels : Nat) : exec (.weldPeerHoldExpiry g levels) s =
    .next (if (s.setFbk g levels).readsClosed g then (s.setFbk g levels).declareWelded g
      else (s.setFbk g levels).modGroup g (fun x => { x with peerHold := false, st := .opened })) := by
  have hexec : exec (.weldPeerHoldExpiry g levels) s = execWeldPeerHoldExpiry g levels s := rfl
  rw [hexec, execWeldPeerHoldExpiry, if_neg (by simp [h])]
end Operated

/-- Settles O33: the sequence step by step; a fault of a group is the demand of `groupFault_demands` or `declareWelded_demands`, with the
feedback as `setFbk` has read it. -/
theorem contactors : Obligations.Contactors := by
  unfold Obligations.Contactors
  refine ⟨?one, ?two, ?three, ?overlap, ?opened, ?waits, ?noFeedback, ?failed, ?welded, ?dropped, ?confirmed, ?peerHold, ?noHold⟩
  case one =>
    intro s hm hstep hclosed hoff hw
    rw [exec_contactorSequenceStep_of_one hm hstep, if_pos hclosed, command_true]
    have hgroup := vmod_same s.sf.group (2 : Fin 4) Group.turnedOn
    exact ⟨_, rfl, rfl, rfl, (congrArg Group.on hgroup).trans (Group.turnedOn_on _),
      (congrArg Group.st hgroup).trans (Group.turnedOn_st hoff hw), rfl⟩
  case two =>
    intro s hm hstep hf hb hoff
    obtain ⟨v, hv, hmain, haux⟩ := closeMains_spec s
    rw [exec_contactorSequenceStep_of_settled hm hstep hf hb, hv]
    exact ⟨_, rfl, rfl, hmain, haux, rfl⟩
  case three =>
    intro s hm hstep h0 h3
    exact ⟨_, exec_contactorSequenceStep_of_three hm hstep h0 h3, rfl⟩
  case overlap =>
    intro s hm hstep hon hf
    rw [exec_contactorSequenceStep_of_four hm hstep, if_pos hon, if_pos hf, command_false]
    exact ⟨_, rfl, (congrArg Group.on (vmod_same s.sf.group (2 : Fin 4) Group.turnedOff)).trans (Group.turnedOff_on _), hstep, rfl⟩
  case opened =>
    intro s hm hstep hoff hopen
    rw [exec_contactorSequenceStep_of_four hm hstep, if_neg (by simp [hoff]), if_pos hopen]
    exact ⟨_, rfl, rfl⟩
  case waits =>
    intro s hm hstep hclosed
    rw [exec_contactorSequenceStep_of_one hm hstep, if_neg (by simp [hclosed])]
  case noFeedback =>
    intro g levels s hu hw h
    refine ⟨_, exec_contactorOperateTimeout_of_noFeedback hu hw h levels, ?_, ?_, rfl⟩
    · simp [State.operated]
    · simp
  case failed =>
    intro g s hu hw h hon
    obtain ⟨hst, hd⟩ := groupFault_demands g .failedToClose 9 15 2 (s.operated g 3)
    exact ⟨_, exec_contactorOperateTimeout_of_open hu hw h hon, hst, hd.of_operated⟩
  case welded =>
    intro g s hu hw h hoff hp
    obtain ⟨hst, htrip, hd⟩ := declareWelded_demands g (s.operated g 0)
    exact ⟨_, exec_contactorOperateTimeout_of_closed hu hw h hoff hp, hst, htrip, hd.of_operated⟩
  case dropped =>
    intro g s hu h hon hst hc
    have hopen : (s.setFbk g 3).readsOpen g = true := readsOpen_setFbk h 3
    obtain ⟨hdropped, hd⟩ := groupFault_demands g .dropped 11 14 1 (s.setFbk g 3)
    rw [exec_contactorFeedbackChange_of_on hu h hc hon, if_pos (by simp [hst, hopen])]
    exact ⟨_, rfl, hdropped, hd.of_safetyFrame rfl rfl⟩
  case confirmed =>
    intro g s hu h hon hst hc
    have hclosed : (s.setFbk g 0).readsClosed g = true := readsClosed_setFbk h 0
    rw [exec_contactorFeedbackChange_of_on hu h hc hon, if_neg (by simp [hst]), if_pos (by simp [hst, hclosed])]
    exact ⟨_, rfl, by simp, rfl⟩
  case peerHold =>
    intro g s hh h
    have hopen : (s.setFbk g 3).readsClosed g = false := readsClosed_setFbk h 3
    have hclosed : (s.setFbk g 0).readsClosed g = true := readsClosed_setFbk h 0
    obtain ⟨hst, htrip, hd⟩ := declareWelded_demands g (s.setFbk g 0)
    rw [exec_weldPeerHoldExpiry_of_held hh, exec_weldPeerHoldExpiry_of_held hh, if_neg (by simp [hopen]), if_pos hclosed]
    exact ⟨⟨_, rfl, by simp, by simp, rfl⟩, ⟨_, rfl, hst, htrip, hd.of_safetyFrame rfl rfl⟩⟩
  case noHold =>
    intro g levels s h
    have hexec : exec (.weldPeerHoldExpiry g levels) s = execWeldPeerHoldExpiry g levels s := rfl
    rw [hexec, execWeldPeerHoldExpiry, if_pos (by simp [h])]

end Sys2Proof.Machine
end
section
/-! SUPPORT. Safety telegrams (R294, R404 to R406): how a copy is taken in, what an evaluation accepts, and what is sent. -/
namespace Sys2Proof.Machine

/-! R406: a copy arrives. -/
section Copies
variable {lan : Fin 2} {b : List Byte} {stamp : Nat} {s : State}

/-- R406: a copy of the same telegram has come from the same port. -/
def State.hasCopy (s : State) (lan : Fin 2) (b : List Byte) : Bool :=
  s.sf.tgCopies.any (fun c => c.lan == lan.val && tgSource c.body == tgSource b && tgSeqOf c.body == tgSeqOf b)

theorem exec_safeTelegramReceived_eq (lan : Fin 2) (b : List Byte) (stamp : Nat) (s : State) :
    exec (.safeTelegramReceived lan b stamp) s = .next (if s.inStates [.off, .boot, .plat, .laidUp] ∨ b.length ≠ 46 then s.at' stamp
      else if s.hasCopy lan b then (s.at' stamp).tgCount 3
      else (s.at' stamp).modSf (fun f => { f with tgCopies := f.tgCopies ++ [{ lan := lan.val, stamp := stamp, body := b }] })) := by
  have hexec : exec (.safeTelegramReceived lan b stamp) s = execSafeTelegramReceived lan b stamp s := rfl
  have hstates : (s.at' stamp).inStates [.off, .boot, .plat, .laidUp] = s.inStates [.off, .boot, .plat, .laidUp] := rfl
  have hcopies : (s.at' stamp).hasCopy lan b = s.hasCopy lan b := rfl
  rw [hexec, execSafeTelegramReceived, apply_ite Host.Outcome.next, apply_ite Host.Outcome.next, ← hstates, ← hcopies]
  rfl

theorem served_of_mode (hm : s.mode = .surveyed ∨ s.mode = .armed ∨ s.mode = .running) : s.inStates [.off, .boot, .plat, .laidUp] = false := by
  rcases hm with h | h | h <;> simp [State.inStates, h]
end Copies

/-! R294, R406: the evaluation of two copies. -/
section Evaluation
variable {a b : TelegramCopy} {s : State}

theorem tgEvaluate_of_equal (h : a.body = b.body) :
    s.tgEvaluate [a, b] = if s.tgValid a.body then (s.tgAccept a.body).tgCount 0 else s := by
  simp [State.tgEvaluate, h]

theorem tgEvaluate_of_unequal (h : a.body ≠ b.body) :
    s.tgEvaluate [a, b] = (s.tgCount 2).form 0x7001 8 86 noIndex (tgSource a.body) (tgSeqOf a.body) := by
  simp [State.tgEvaluate, h]

/-- R294: a control telegram without a stop bit demands nothing; its sequence number and its inhibits are taken. -/
theorem tgAccept_of_noStop {b : List Byte} (ht : tgType b = 1) (hstop : fieldAt 18 1 b % 4 = 0) :
    s.tgAccept b = s.modSf (fun f =>
      { f with
        tgSeq := some (tgSeqOf b), tgRx := incSat f.tgRx, tgStop := 0, tgChargeInhibit := bitAt (fieldAt 18 1 b) 2
        tgDischargeInhibit := bitAt (fieldAt 18 1 b) 3, tgWd := false }) := by
  have h0 : bitAt (fieldAt 18 1 b) 0 = false := by simp [bitAt, Nat.testBit_eq_decide_div_mod_eq]; omega
  have h1 : bitAt (fieldAt 18 1 b) 1 = false := by simp [bitAt, Nat.testBit_eq_decide_div_mod_eq]; omega
  simp [State.tgAccept, ht, h0, h1, hstop]

/-- R294, R404: what a valid telegram has at least. -/
theorem tgValid_parts {b : List Byte} (h : s.tgValid b = true) :
    b.length = 46 ∧ fieldAt 42 4 b = safetyCrc (b.take 42) ∧ tgSource b ≠ 0 := by
  simp only [State.tgValid, Bool.and_eq_true, beq_iff_eq, bne_iff_ne] at h
  obtain ⟨⟨⟨⟨⟨⟨⟨⟨hlength, -⟩, -⟩, hcrc⟩, -⟩, -⟩, hsource⟩, -⟩, -⟩ := h
  exact ⟨hlength, hcrc, hsource⟩
end Evaluation

theorem exec_telegramWatchdogExpiry_eq (s : State) : exec .telegramWatchdogExpiry s =
    .next (if s.par P.telegramRequired = 1 then s.modSf (fun f => { f with tgWd := true }) else s) := rfl

/-! R294, R405: the status telegrams. -/
section Status
variable {s : State}

theorem exec_statusTelegramSend_of_active (hr : s.role = .active) (hm : s.mode = .running) (hl : s.sf.lockstep = false) :
    exec .statusTelegramSend s = .next ((s.sendStatus (s.parN P.telegramSource)).sendStatus (s.parN P.tripDest)) := by
  have hexec : exec .statusTelegramSend s = execStatusTelegramSend s := rfl
  rw [hexec, execStatusTelegramSend, if_neg (by simp [State.isActive, State.inStates, hr, hm, hl])]

theorem exec_statusTelegramSend_of_inactive (hr : s.role ≠ .active) : exec .statusTelegramSend s = .next s := by
  have hexec : exec .statusTelegramSend s = execStatusTelegramSend s := rfl
  rw [hexec, execStatusTelegramSend, if_pos (by simp [State.isActive, hr])]

/-- R294: destination 0 is skipped. -/
theorem sendStatus_zero (s : State) : s.sendStatus 0 = s := if_pos rfl

theorem sendStatus_of_ne {dest : Nat} (h : dest ≠ 0) (s : State) : s.sendStatus dest = { s with
    sf := { s.sf with tgSent := s.sf.tgSent ++ [(dest, s.statusTelegram dest)], tgTxSeq := (s.sf.tgTxSeq + 1) % 2 ^ 32 }
    net := { s.net with txSeq := (s.net.txSeq + 1) % 65536 } } := if_neg h
end Status

/-- Settles O36: a copy by `exec_safeTelegramReceived_eq`, its evaluation by the rules of `tgEvaluate`, what is sent by those of
`sendStatus`. -/
theorem telegrams : Obligations.Telegrams := by
  unfold Obligations.Telegrams
  refine ⟨?kept, ?second, ?misfit, ?accepted, ?unequal, ?invalid, fun _ _ => tgValid_parts, ?required, ?optional, ?sent,
    fun _ => exec_statusTelegramSend_of_inactive⟩
  case kept =>
    intro lan b stamp s hm hb hc
    have hcopy : s.hasCopy lan b = false := hc
    rw [exec_safeTelegramReceived_eq, if_neg (by simp [served_of_mode hm, hb]), if_neg (by simp [hcopy])]
    rfl
  case second =>
    intro lan b stamp s hm hb hc
    have hcopy : s.hasCopy lan b = true := hc
    rw [exec_safeTelegramReceived_eq, if_neg (by simp [served_of_mode hm, hb]), if_pos hcopy]
    exact ⟨_, rfl, vmod_same s.net.tg (3 : Fin 5) incSat, rfl, rfl⟩
  case misfit =>
    intro lan b stamp s hb
    rw [exec_safeTelegramReceived_eq, if_pos (.inr hb)]
    exact ⟨_, rfl, rfl⟩
  case accepted =>
    intro a b s hab hv ht hstop
    rw [tgEvaluate_of_equal hab, if_pos hv, tgAccept_of_noStop ht hstop]
    rfl
  case unequal =>
    intro a b s hab
    rw [tgEvaluate_of_unequal hab]
    exact ⟨_, rfl, rfl, vmod_same s.net.tg (2 : Fin 5) incSat, rfl⟩
  case invalid =>
    intro a b s hab hv
    rw [tgEvaluate_of_equal hab, if_neg (by simp [hv])]
  case required =>
    intro s h
    rw [exec_telegramWatchdogExpiry_eq, if_pos h]
    rfl
  case optional =>
    intro s h
    rw [exec_telegramWatchdogExpiry_eq, if_neg (by simp [h])]
  case sent =>
    intro s hr hm hl hsource htrip
    rw [exec_statusTelegramSend_of_active hr hm hl, htrip, sendStatus_zero, sendStatus_of_ne hsource]

end Sys2Proof.Machine
end
section
/-! SUPPORT. Read-back and dark tests of the safety outputs (R285, R286, R289). -/
namespace Sys2Proof.Machine

/-! R289: the outputs are driven anew. -/
section Drive

/-- At most the drive of each output changes, and a channel before the off-check of its dark test is off. -/
theorem driveOutputs_spec (s : State) : ∃ v : Vector SafetyOutput 8, s.driveOutputs = { s with sf := { s.sf with output := v } } ∧
    (∀ c : Fin 8, ∃ on : Bool, v[c.val] = { s.sf.output[c.val] with driven := on }) ∧
    (∀ c : Fin 8, s.sf.dark = some (c.val, none) → v[c.val].driven = false) := by
  refine ⟨_, rfl, fun c => ⟨_, Vector.getElem_ofFn _⟩, fun c h => ?_⟩
  simp [h]
end Drive

/-! R285: STUCK_ON, STUCK_OFF and DIAG_FAULT of a single module. -/
section Stuck
variable {c : Fin 8} {s : State}

/-- R285, R286, R291: a fault of an output of a single module is entered with its record, and is a demand. -/
theorem outputFault_spec (ht : s.twinMember = false) (c : Fin 8) (f : SafetyOutput → SafetyOutput) (code : Nat) (level : Int) (cause cat : Nat) :
    ∃ t, ((s.modOut c f).ioRecord 19 code c.val level).declareFault (fun u => u.trigger cause cat true) = t ∧
      t.sf.output[c.val] = f s.sf.output[c.val] ∧ bitAt t.sf.latched cause = true ∧
      (s.mode = .running → t.mode = .stopping ∧ t.sf.stopCat = cat) := by
  have hsingle : ((s.modOut c f).ioRecord 19 code c.val level).twinMember = false := ht
  obtain ⟨-, -, hlatched, houtput, -, hactive, -⟩ := trigger_demands cause cat true ((s.modOut c f).ioRecord 19 code c.val level)
  refine ⟨_, declareFault_of_single hsingle _, ?_, hlatched rfl, fun hm => ?_⟩
  · rw [houtput]
    exact vmod_same ..
  · obtain ⟨hmode, hcat, -⟩ := hactive (.inr hm)
    exact ⟨hmode, hcat⟩

/-- R285: what STUCK_OFF does in RUNNING. -/
theorem stuckOff_of_running (h : s.sf.output[c.val].stuckOff = false) (ht : s.twinMember = false) (hm : s.mode = .running) :
    ∃ t, s.stuckOff c = t ∧ t.sf.output[c.val].stuckOff = true ∧ t.mode = .stopping ∧ t.sf.stopCat = 1 ∧ bitAt t.sf.latched 14 = true := by
  obtain ⟨t, heq, houtput, hlatched, hstop⟩ := outputFault_spec ht c (fun o => { o with stuckOff := true }) 7 0 14 1
  obtain ⟨hmode, hcat⟩ := hstop hm
  exact ⟨t, (if_neg (by simp [h])).trans heq, by rw [houtput], hmode, hcat, hlatched⟩

/-- R285: what STUCK_ON does in RUNNING. -/
theorem stuckOn_of_running (h : s.sf.output[c.val].stuckOn = false) (ht : s.twinMember = false) (hm : s.mode = .running) :
    ∃ t, s.stuckOn c = t ∧ t.sf.output[c.val].stuckOn = true ∧ t.mode = .stopping ∧ t.sf.stopCat = 2 ∧ bitAt t.sf.latched 13 = true := by
  obtain ⟨t, heq, houtput, hlatched, hstop⟩ := outputFault_spec ht c (fun o => { o with stuckOn := true }) 6 1 13 2
  obtain ⟨hmode, hcat⟩ := hstop hm
  exact ⟨t, (if_neg (by simp [h])).trans heq, by rw [houtput], hmode, hcat, hlatched⟩
end Stuck

/-! R285: the read-back of an output. -/
section Readback
variable {c : Fin 8} {on : Bool} {s : State}

/-- R285: an output with its read-back taken. -/
def State.readBack (c : Fin 8) (on : Bool) (s : State) : State := s.modOut c (fun o => { o with readback := on })

theorem readBack_output (c : Fin 8) (on : Bool) (s : State) : (s.readBack c on).sf.output[c.val] = { s.sf.output[c.val] with readback := on } :=
  vmod_same ..

theorem exec_outputReadbackMismatch_of_agreeing (h : s.sf.output[c.val].driven = on) :
    exec (.outputReadbackMismatch c on) s = .next (s.readBack c on) := by
  have hexec : exec (.outputReadbackMismatch c on) s = execOutputReadbackMismatch c on s := rfl
  have hdriven : (s.readBack c on).sf.output[c.val].driven = on := by rw [readBack_output, h]
  rw [hexec, execOutputReadbackMismatch]
  exact congrArg _ (if_pos (Bool.or_eq_true_iff.2 (.inr (beq_iff_eq.2 hdriven))))

theorem exec_outputReadbackMismatch_of_differing (hd : s.sf.dark = none) (h : s.sf.output[c.val].driven = !on) :
    exec (.outputReadbackMismatch c on) s = .next (if on then (s.readBack c on).stuckOn c else (s.readBack c on).stuckOff c) := by
  have hexec : exec (.outputReadbackMismatch c on) s = execOutputReadbackMismatch c on s := rfl
  have hdriven : (s.readBack c on).sf.output[c.val].driven = !on := by rw [readBack_output, h]
  rw [hexec, execOutputReadbackMismatch]
  simp only [hd]
  exact congrArg _ (if_neg (by rw [Bool.false_or]; exact beq_iff_eq.not.2 (by rw [← State.readBack, hdriven]; cases on <;> decide)))
end Readback

/-! R285, R286: the course of a dark test. -/
section DarkTest
variable {c : Fin 8} {s : State}

theorem channel_val (c : Fin 8) : channel c.val = c := Fin.ext (Nat.mod_eq_of_lt c.isLt)

/-- R285: a dark test of a channel begins. -/
def State.beginDark (c : Fin 8) (s : State) : State :=
  s.modSf (fun f => { f with darkNext := none, dark := some (c.val, none), darkOn := bitAt f.fieldCmd c.val })

theorem exec_darkTestStart_of_due (hn : s.sf.darkNext = some c.val) (hd : s.sf.dark = none) :
    exec .darkTestStart s = .next (s.beginDark c).driveOutputs := by
  have hexec : exec .darkTestStart s = execDarkTestStart s := rfl
  rw [hexec, execDarkTestStart, hn, hd]
  rfl

theorem exec_darkTestStart_of_none (hn : s.sf.darkNext = none) : exec .darkTestStart s = .next s := by
  have hexec : exec .darkTestStart s = execDarkTestStart s := rfl
  rw [hexec, execDarkTestStart, hn]

theorem exec_darkTestOffCheck_of_off (h : s.sf.dark = some (c.val, none)) :
    exec (.darkTestOffCheck false) s = .next (s.modSf (fun f => { f with dark := some (c.val, some true) })).driveOutputs := by
  have hexec : exec (.darkTestOffCheck false) s = execDarkTestOffCheck false s := rfl
  rw [hexec, execDarkTestOffCheck, h]
  rfl

/-- R286: an output after a good dark test. -/
def SafetyOutput.tested (o : SafetyOutput) : SafetyOutput := { o with lastGood := true, goodNow := true, missed := 0, good := incSat o.good }

/-- R285: the window of a dark test is closed. -/
def State.endDark (s : State) : State := s.modSf (fun f => { f with dark := none, darkOn := false })

theorem exec_darkTestRecoveryCheck_of_on (h : s.sf.dark = some (c.val, some true)) (ho : s.sf.darkOn = true)
    (hd : s.sf.output[c.val].driven = true) :
    exec (.darkTestRecoveryCheck true) s = .next (s.modOut c SafetyOutput.tested).endDark.driveOutputs := by
  have hexec : exec (.darkTestRecoveryCheck true) s = execDarkTestRecoveryCheck true s := rfl
  have htested : (fun o : SafetyOutput => { o with lastGood := true, goodNow := o.goodNow || true, missed := 0, good := incSat o.good }) =
      SafetyOutput.tested := funext fun o => by rw [Bool.or_true]; rfl
  rw [hexec, execDarkTestRecoveryCheck, h]
  simp only [channel_val, ho, hd]
  rw [← htested]
  rfl
end DarkTest

/-! R286: the end of an interval of a channel. -/
section Interval
variable {c : Fin 8} {s : State}

theorem exec_darkTestIntervalEnd_of_good (h : s.sf.output[c.val].goodNow = true) :
    exec (.darkTestIntervalEnd c) s = .next (s.modOut c (fun o => { o with goodNow := false })) := by
  have hexec : exec (.darkTestIntervalEnd c) s = execDarkTestIntervalEnd c s := rfl
  rw [hexec, execDarkTestIntervalEnd, if_pos h]

/-- R286: a channel with n intervals in a row without a good test. -/
def State.missedDark (c : Fin 8) (n : Nat) (s : State) : State := s.modOut c (fun o => { o with missed := n })

theorem exec_darkTestIntervalEnd_of_missed (h : s.sf.output[c.val].goodNow = false) (ht : s.darkTested c = true) {n : Nat}
    (hn : min 15 (s.sf.output[c.val].missed + 1) = n) : exec (.darkTestIntervalEnd c) s =
      .next (if n < 3 ∨ s.sf.output[c.val].diagFault then s.missedDark c n
        else (((s.missedDark c n).modOut c (fun o => { o with diagFault := true })).ioRecord 19 8 c.val n).declareFault
          (fun u => u.trigger 13 2 true)) := by
  have hexec : exec (.darkTestIntervalEnd c) s = execDarkTestIntervalEnd c s := rfl
  rw [hexec, execDarkTestIntervalEnd, if_neg (by simp [h]), if_neg (by simp [ht]), hn]
  rfl
end Interval

/-- Settles O34: the faults of an output are `outputFault_spec`, the drive in and after a dark test is `driveOutputs_spec`. -/
theorem outputTests : Obligations.OutputTests := by
  unfold Obligations.OutputTests
  refine ⟨?agreeing, ?stuckOff, ?stuckOn, ?start, fun _ => exec_darkTestStart_of_none, ?offCheck, ?recovery, ?good, ?missed, ?diagFault⟩
  case agreeing =>
    intro c on s h
    exact ⟨_, exec_outputReadbackMismatch_of_agreeing h, readBack_output c on s, rfl⟩
  case stuckOff =>
    intro c s hd hn h ht hm
    have hfree : (s.readBack c false).sf.output[c.val].stuckOff = false := by rw [readBack_output, h]
    obtain ⟨t, heq, hspec⟩ := stuckOff_of_running hfree ht hm
    exact ⟨t, (exec_outputReadbackMismatch_of_differing hn hd).trans (congrArg _ heq), hspec⟩
  case stuckOn =>
    intro c s hd hn h ht hm
    have hfree : (s.readBack c true).sf.output[c.val].stuckOn = false := by rw [readBack_output, h]
    obtain ⟨t, heq, hspec⟩ := stuckOn_of_running hfree ht hm
    exact ⟨t, (exec_outputReadbackMismatch_of_differing hn hd).trans (congrArg _ heq), hspec⟩
  case start =>
    intro c s hn hd
    obtain ⟨v, hv, -, hoff⟩ := driveOutputs_spec (s.beginDark c)
    rw [exec_darkTestStart_of_due hn hd, hv]
    exact ⟨_, rfl, rfl, rfl, rfl, hoff c rfl, rfl⟩
  case offCheck =>
    intro c s h
    obtain ⟨v, hv, -⟩ := driveOutputs_spec (s.modSf (fun f => { f with dark := some (c.val, some true) }))
    rw [exec_darkTestOffCheck_of_off h, hv]
    exact ⟨_, rfl, rfl, rfl⟩
  case recovery =>
    intro c s h ho hd
    obtain ⟨v, hv, hkeep, -⟩ := driveOutputs_spec (s.modOut c SafetyOutput.tested).endDark
    obtain ⟨on, hon⟩ := hkeep c
    have houtput : v[c.val] = { s.sf.output[c.val].tested with driven := on } :=
      hon.trans (congrArg (fun o : SafetyOutput => { o with driven := on }) (vmod_same ..))
    rw [exec_darkTestRecoveryCheck_of_on h ho hd, hv]
    exact ⟨_, rfl, rfl, rfl, congrArg SafetyOutput.missed houtput, congrArg SafetyOutput.lastGood houtput,
      congrArg SafetyOutput.goodNow houtput, congrArg SafetyOutput.good houtput, rfl⟩
  case good =>
    intro c s h
    exact ⟨_, exec_darkTestIntervalEnd_of_good h, vmod_same .., rfl⟩
  case missed =>
    intro c s h ht hlt
    rw [exec_darkTestIntervalEnd_of_missed h ht (Nat.min_eq_right (by omega)), if_pos (.inl (by omega))]
    exact ⟨_, rfl, vmod_same .., rfl⟩
  case diagFault =>
    intro c s h ht hm hd hs
    have hthree : min 15 (s.sf.output[c.val].missed + 1) = 3 := by rw [hm]; rfl
    obtain ⟨t, heq, houtput, hlatched, -⟩ := outputFault_spec (s := s.missedDark c 3) hs c (fun o => { o with diagFault := true }) 8 3 13 2
    rw [exec_darkTestIntervalEnd_of_missed h ht hthree, if_neg (by simp [hd])]
    exact ⟨t, congrArg _ heq, by rw [houtput], hlatched⟩

end Sys2Proof.Machine
end
section
/-! SUPPORT. The role decision (R300) with the code load that an ACTIVE unit runs (R135, R136). -/
namespace Sys2Proof.Machine

/-- R300: a unit A that hears no ACTIVE peer becomes ACTIVE, with PEER_ALIVE_OUT high. -/
theorem exec_twinRoleDecision_of_unitA {s : State} (ht : s.twinMember = true) (hm : s.mode = .load) (ha : s.twin.aliveOut = false)
    (hu : s.unitB = false) (hf : s.sf.forceoff = false) (alive : Bool) : exec (.twinRoleDecision false alive) s =
      .next (s.modTwin (fun w => { w with aliveOut := true, peerAlive := alive })).becomeActive := by
  have hexec : exec (.twinRoleDecision false alive) s = execTwinRoleDecision false alive s := rfl
  have hunit : (s.modTwin (fun w => { w with aliveOut := true, peerAlive := alive })).unitB = false := hu
  have hforce : (s.modTwin (fun w => { w with aliveOut := true, peerAlive := alive })).sf.forceoff = false := hf
  rw [hexec, execTwinRoleDecision, if_neg (by simp [ht, hm, ha])]
  simp only [hunit, hforce]
  rfl

/-- R135, R444: in the running image one component, the station code, of 48 bytes. -/
def oneBlockImage : List Host.Cell := ((leBytes 4 1 ++ leBytes 4 6 ++ leBytes 4 32 ++ leBytes 4 48 ++ leBytes 4 1).zipIdx 12).map Prod.swap

/-- A unit A in LOAD before its role decision: its engines are loaded, leg 0 is populated, and the station code stands in the store. -/
def loadedUnitA : State :=
  { State.reset with
    mode := .load, base := { State.reset.base with enginesLoaded := true }, store := oneBlockImage
    plat := { State.reset.plat with recs := [⟨0x4801, 0xFF, false, []⟩, ⟨0x1001, 0xFF, false, []⟩] } }

/-- R135, R136: as it becomes ACTIVE, it plans the first CODE_LOAD of leg 0. -/
theorem loadedUnitA_plansCodeLoad :
    (loadedUnitA.modTwin (fun w => { w with aliveOut := true, peerAlive := false })).becomeActive.ring[0].due.map DueFrame.cmd = [0x50] := by
  decide +kernel

/-- Refutes O37: a decision for ACTIVE changes more than role and twin part. `loadedUnitA` begins the code load of R135 with it, as R136
asks of the unit that is ACTIVE at start, and its ring, without a planned frame before, holds a CODE_LOAD after. -/
theorem not_twinRolesAndPins : ¬ Obligations.TwinRolesAndPins := by
  unfold Obligations.TwinRolesAndPins
  rintro ⟨-, hdecision, -⟩
  obtain ⟨t, ht, -, hrest, -⟩ := hdecision false loadedUnitA rfl rfl rfl
  rw [exec_twinRoleDecision_of_unitA rfl rfl rfl (by decide +kernel) rfl] at ht
  have hring : t.ring = loadedUnitA.ring := by rw [hrest]
  have hplanned := loadedUnitA_plansCodeLoad
  rw [Host.Outcome.next.inj ht, hring] at hplanned
  exact absurd hplanned (by decide +kernel)

end Sys2Proof.Machine
end
section
/-! SUPPORT. Suspicion, dispute and arbitration of a pair (R308, R310 to R312): how words are compared, what a divergence and a dispute
make of the twin part, and how two verdicts end a dispute. -/
namespace Sys2Proof.Machine

/-! What the twin part sends, records and loses. -/
section Pair
variable {s : State}

/-- R303: a message to the peer changes at most what waits for a slot. -/
theorem twinSend_eq (cls : Nat) (m : TwinMsg) (s : State) :
    ∃ tx, s.twinSend cls m = { s with twin := { s.twin with tx := tx } } := by
  unfold State.twinSend
  split
  · exact ⟨_, rfl⟩
  · exact ⟨_, rfl⟩

/-- R308: the twin part of a unit that diverges. -/
def Twin.diverges (now : Nat) (active : Bool) (w : Twin) : Twin :=
  { w with
    step := .joining, eligibleFrom := none, blocks := 0, final := false, divergences := incSat w.divergences, swapAt := none
    own := none, peer := none, divergeAt := now :: w.divergeAt.filter (fun t => decide (now < t + 600 * ticksPerSecond))
    takeoverOut := w.takeoverOut || active, degraded := w.degraded || active, releaseAt := none }

theorem diverge_of_active (hr : s.role = .active) :
    s.diverge = (s.twinRecord 129 16 noIndex).modTwin (Twin.diverges s.time.meridian s.isActive) :=
  if_neg (by simp [State.twinRecord, hr])

/-- R308: an active unit that diverges holds TAKEOVER_N again, and changes nothing outside its twin part and its records. -/
theorem diverge_spec_of_active (hr : s.role = .active) : s.diverge.twin.step = .joining ∧ s.diverge.twin.divergences = incSat s.twin.divergences ∧
    s.diverge.twin.takeoverOut = true ∧ s.diverge = { s with twin := s.diverge.twin, fb := s.diverge.fb } := by
  rw [diverge_of_active hr]
  exact ⟨rfl, rfl, by simp [Twin.diverges, State.twinRecord, State.isActive, hr], rfl⟩

theorem loseStandby_of_active (hr : s.role = .active) : s.loseStandby =
    s.modTwin (fun w => { w with step := .none, eligibleFrom := none, degraded := true, swapAt := none, releaseAt := none }) := if_pos hr

/-- R71: the entry into FAULT-HOLD keeps the role and the level of FORCEOFF_N. -/
theorem enterFaultHold_role_forceoff (s : State) : s.enterFaultHold.role = s.role ∧ s.enterFaultHold.sf.forceoff = s.sf.forceoff := by
  have hplans := plans_stopAllBalancing s
  have hbrake := switches_foldl (fun t l => switches_brakeLeg l (if t.conv[l.val].st = .fault then .fault else .disabled) t.conv[l.val].cause t)
    allLegs s.stopAllBalancing
  simp only [State.enterFaultHold]
  generalize List.foldl _ s.stopAllBalancing allLegs = u at hbrake ⊢
  generalize s.stopAllBalancing = v at hplans hbrake
  obtain ⟨_, _, _, rfl, -⟩ := hplans
  obtain ⟨_, _, _, rfl⟩ := hbrake
  exact ⟨rfl, rfl⟩

/-- R312: an ESTRANGED unit holds its FORCEOFF_N low. -/
theorem estrange_role_forceoff (s : State) : s.estrange.role = .estranged ∧ s.estrange.sf.forceoff = true := by
  unfold State.estrange
  dsimp only
  split
  · exact ⟨rfl, rfl⟩
  · exact enterFaultHold_role_forceoff _
end Pair

/-! R311, R312: the comparison of words. -/
section Compare
variable {a b : SampleWords} {o p : FrameWords} {k : Nat} {s : State}

theorem firstDiff_self (xs : List Int) : firstDiff xs xs = none := by
  induction xs with
  | nil => rfl
  | cons x xs ih => simp [firstDiff, ih]

/-- R311, R312: what the first difference of two sample words, or none, makes of a pair in a given step. -/
def State.compared (s : State) : Option Nat → TwinStep → State
  | none, .suspect => s.modTwin (fun w => { w with step := .inStep })
  | none, _ => s
  | some _, .inStep =>
    s.modTwin (fun w => { w with step := .suspect, singleDiffs := incSat w.singleDiffs, suspectAt := (s.time.frame, s.grid.sample) })
  | some k, .suspect => s.openDispute k
  | some _, _ => s

/-- The words in hand, consumed by a comparison. -/
def Twin.takesWords (w : Twin) : Twin := { w with ownWords := none, peerWords := none }

theorem exec_twinSampleCompare_of_computed (hstep : s.twin.step.paired = true) (hown : s.twin.ownWords = some a) (hpeer : s.twin.peerWords = some b)
    (ha : a.held = 0) (ha' : a.notComputed = 0) (hb : b.held = 0) (hb' : b.notComputed = 0) :
    exec .twinSampleCompare s = .next ((s.modTwin Twin.takesWords).compared (firstDiff (sampleFlat a) (sampleFlat b)) s.twin.step) := by
  have hexec : exec .twinSampleCompare s = execTwinSampleCompare s := rfl
  rw [hexec, execTwinSampleCompare, if_neg (by simp [hstep])]
  simp only [hown, hpeer, ha, ha', hb, hb', ne_eq, not_true, or_self, if_false]
  rw [State.modTwin_twin]
  generalize firstDiff (sampleFlat a) (sampleFlat b) = diff
  generalize s.twin.step = step
  cases diff <;> cases step <;> rfl

/-- R308: a sample that a unit held is a divergence. -/
theorem exec_twinSampleCompare_of_held (hstep : s.twin.step.paired = true) (hown : s.twin.ownWords = some a) (hpeer : s.twin.peerWords = some b)
    (ha : a.held ≠ 0) : exec .twinSampleCompare s = .next (s.modTwin Twin.takesWords).diverge := by
  have hexec : exec .twinSampleCompare s = execTwinSampleCompare s := rfl
  rw [hexec, execTwinSampleCompare, if_neg (by simp [hstep])]
  simp only [hown, hpeer]
  exact if_pos (.inl ha)

/-- The permit and frame words of the peer, consumed by a comparison. -/
def Twin.takesFrame (w : Twin) : Twin := { w with peerPermit := none, peerFrame := none }

theorem exec_twinFrameCompare_of_equal_permit (hstep : s.twin.step = .inStep) (hpermit : s.twin.peerPermit = some s.sf.permit)
    (hframe : s.twin.peerFrame = none) : exec .twinFrameCompare s = .next (s.modTwin Twin.takesFrame) := by
  have hexec : exec .twinFrameCompare s = execTwinFrameCompare s := rfl
  rw [hexec, execTwinFrameCompare, if_neg (by simp [hstep])]
  simp only [hpermit, hframe, firstDiff_self, Option.map_none]
  rfl

theorem exec_twinFrameCompare_of_differing (hstep : s.twin.step = .inStep) (hpermit : s.twin.peerPermit = none) (hpeer : s.twin.peerFrame = some p)
    (hown : s.twin.ownFrame = some o) (hdiff : firstDiff (frameFlat o) (frameFlat p) = some k) :
    exec .twinFrameCompare s = .next ((s.modTwin Twin.takesFrame).openDispute (k + 16)) := by
  have hexec : exec .twinFrameCompare s = execTwinFrameCompare s := rfl
  rw [hexec, execTwinFrameCompare, if_neg (by simp [hstep])]
  simp only [hpermit, hpeer, hown, hdiff, Option.map_some]
  rfl
end Compare

/-! R311, R312: verdicts and arbitration. -/
section Arbitration
variable {own peer : Bool} {s : State}

/-- R312: the outcome of a dispute, of the verdicts of the active unit and of the standby. -/
def verdictOutcome (active standby : Bool) : Nat := if !active && standby then 1 else if active && !standby then 2 else if active then 3 else 4

/-- R312, R322: the outcome of a dispute, noted and recorded. -/
def State.noteOutcome (outcome : Nat) (s : State) : State :=
  (s.modTwin (fun w => { w with outcome := outcome, disputeOutcome := outcome })).twinRecord 129 outcome s.twin.disputeWord

theorem noteOutcome_eq (outcome : Nat) (s : State) :
    ∃ fb, s.noteOutcome outcome = { s with twin := { s.twin with outcome := outcome, disputeOutcome := outcome }, fb := fb } := ⟨_, rfl⟩

/-- R312: a host event tells of an outcome that blames neither unit alone. -/
def State.tellOutcome (outcome word : Nat) (s : State) : State := if outcome > 2 then s.event 0x4801 outcome 129 word s.time.frame 0 else s

theorem tellOutcome_two (word : Nat) (s : State) : s.tellOutcome 2 word = s := if_neg (by decide)

theorem tellOutcome_four (word : Nat) (s : State) : s.tellOutcome 4 word = s.event 0x4801 4 129 word s.time.frame 0 := if_pos (by decide)

/-- R312: the end of a dispute. -/
def State.concludeDispute (outcome : Nat) (s : State) : State :=
  let t := s.noteOutcome outcome
  if outcome = 1 then (if t.role = .standby then t.decideTakeover 1 else t)
  else
    let t := t.tellOutcome outcome s.twin.disputeWord
    if t.isActive then t.loseStandby.modTwin (fun w => { w with takeoverOut := true }) else t.estrange

theorem arbitrate_of_own_missing (h : s.twin.own = none) : s.arbitrate = s := by simp [State.arbitrate, h]

theorem arbitrate_of_peer_missing (h : s.twin.peer = none) : s.arbitrate = s := by simp [State.arbitrate, h]

theorem arbitrate_of_verdicts (hstep : s.twin.step = .dispute) (hown : s.twin.own = some own) (hpeer : s.twin.peer = some peer) :
    s.arbitrate = s.concludeDispute (verdictOutcome (if s.isActive then own else peer) (if s.isActive then peer else own)) := by
  rw [State.arbitrate, if_neg (not_not.2 hstep)]
  simp only [hown, hpeer]
  rfl

/-- R312: the standby takes over from an active unit found bad; the active unit waits for it. -/
theorem concludeDispute_one_of_active (hr : s.role = .active) : ∃ t, s.concludeDispute 1 = t ∧ t.twin.outcome = 1 ∧ t.role = .active ∧
    t = { s with twin := t.twin, fb := t.fb } := by
  obtain ⟨_, hnote⟩ := noteOutcome_eq 1 s
  have hrole : (s.noteOutcome 1).role ≠ .standby := fun h => Role.noConfusion (hr.symm.trans h)
  rw [State.concludeDispute, if_pos rfl, if_neg hrole, hnote]
  exact ⟨_, rfl, rfl, hr, rfl⟩

theorem tellOutcome_role (outcome word : Nat) (s : State) : (s.tellOutcome outcome word).role = s.role := by
  unfold State.tellOutcome
  split
  · rfl
  · rfl

/-- R312: any other outcome leaves the active unit alone. -/
theorem concludeDispute_of_active {outcome : Nat} (ho : outcome ≠ 1) (hr : s.role = .active) : s.concludeDispute outcome =
    ((s.noteOutcome outcome).tellOutcome outcome s.twin.disputeWord).loseStandby.modTwin (fun w => { w with takeoverOut := true }) := by
  have hrole := (tellOutcome_role outcome s.twin.disputeWord (s.noteOutcome outcome)).trans hr
  rw [State.concludeDispute, if_neg ho]
  exact if_pos (by simp [State.isActive, hrole])

/-- R312: and estranges the standby. -/
theorem concludeDispute_of_standby {outcome : Nat} (ho : outcome ≠ 1) (hr : s.role = .standby) :
    s.concludeDispute outcome = ((s.noteOutcome outcome).tellOutcome outcome s.twin.disputeWord).estrange := by
  have hrole := (tellOutcome_role outcome s.twin.disputeWord (s.noteOutcome outcome)).trans hr
  rw [State.concludeDispute, if_neg ho]
  exact if_neg (by simp [State.isActive, hrole])

/-- R312: the standby was bad. -/
theorem concludeDispute_two_of_active (hr : s.role = .active) : ∃ t, s.concludeDispute 2 = t ∧ t.twin.outcome = 2 ∧ t.twin.step = .none ∧
    t.twin.takeoverOut = true ∧ t.twin.degraded = true ∧ t = { s with twin := t.twin, fb := t.fb } := by
  obtain ⟨_, hnote⟩ := noteOutcome_eq 2 s
  rw [concludeDispute_of_active (by decide) hr, tellOutcome_two, loseStandby_of_active (by exact hr), hnote]
  exact ⟨_, rfl, rfl, rfl, rfl, rfl, rfl⟩

/-- R312: neither unit reproduced its own output. -/
theorem concludeDispute_four_of_active (hr : s.role = .active) : ∃ t, s.concludeDispute 4 = t ∧ t.twin.outcome = 4 ∧ t.twin.takeoverOut = true ∧
    t.events.length = s.events.length + 1 := by
  rw [concludeDispute_of_active (by decide) hr, tellOutcome_four, loseStandby_of_active (by exact hr)]
  exact ⟨_, rfl, rfl, rfl, length_insertRecord ..⟩

theorem exec_twinRecomputeComplete_of_frameWord (hstep : s.twin.step = .dispute) (hown : s.twin.own = none) (hword : 9 ≤ s.twin.disputeWord)
    (ok : Bool) : exec (.twinRecomputeComplete ok) s =
      .next ((s.modTwin (fun w => { w with own := some ok })).twinSend 3 (.verdict ok)).arbitrate := by
  have hexec : exec (.twinRecomputeComplete ok) s = execTwinRecomputeComplete ok s := rfl
  have hverdict : (ok && (decide (9 ≤ s.twin.disputeWord) || s.sampleVerdict)) = ok := by simp [hword]
  rw [hexec, execTwinRecomputeComplete, if_neg (by simp [hstep, hown]), hverdict]

theorem exec_twinVerdictReceived_of_dispute (hstep : s.twin.step = .dispute) (hpeer : s.twin.peer = none) (ok : Bool) :
    exec (.twinVerdictReceived ok) s = .next (s.modTwin (fun w => { w with peer := some ok })).arbitrate := by
  have hexec : exec (.twinVerdictReceived ok) s = execTwinVerdictReceived ok s := rfl
  rw [hexec, execTwinVerdictReceived, if_neg (by simp [hstep, hpeer])]

/-- R312: the peer's verdict comes last, and ends the dispute. -/
theorem exec_twinVerdictReceived_of_active (hstep : s.twin.step = .dispute) (hpeer : s.twin.peer = none) (hown : s.twin.own = some own)
    (hr : s.role = .active) (ok : Bool) : exec (.twinVerdictReceived ok) s =
      .next ((s.modTwin (fun w => { w with peer := some ok })).concludeDispute (verdictOutcome own ok)) := by
  have hactive : (s.modTwin (fun w => { w with peer := some ok })).isActive = true := by simp [State.isActive, hr]
  rw [exec_twinVerdictReceived_of_dispute hstep hpeer, arbitrate_of_verdicts (by exact hstep) (by exact hown) rfl, hactive, if_pos rfl, if_pos rfl]

theorem exec_twinVerdictReceived_of_standby (hstep : s.twin.step = .dispute) (hpeer : s.twin.peer = none) (hown : s.twin.own = some own)
    (hr : s.role = .standby) (ok : Bool) : exec (.twinVerdictReceived ok) s =
      .next ((s.modTwin (fun w => { w with peer := some ok })).concludeDispute (verdictOutcome ok own)) := by
  have hstandby : (s.modTwin (fun w => { w with peer := some ok })).isActive = false := by simp [State.isActive, hr]
  rw [exec_twinVerdictReceived_of_dispute hstep hpeer, arbitrate_of_verdicts (by exact hstep) (by exact hown) rfl, hstandby,
    if_neg Bool.false_ne_true, if_neg Bool.false_ne_true]

theorem exec_twinVerdictTimeout_of_none (hstep : s.twin.step = .dispute) (hown : s.twin.own = none) (hpeer : s.twin.peer = none) :
    exec .twinVerdictTimeout s = .next ((s.modTwin (fun w => { w with own := some false, peer := some false })).concludeDispute 4) := by
  have hexec : exec .twinVerdictTimeout s = execTwinVerdictTimeout s := rfl
  have hmissing : s.modTwin (fun w => { w with own := some (w.own.getD false), peer := some (w.peer.getD false) }) =
      s.modTwin (fun w => { w with own := some false, peer := some false }) := by simp [State.modTwin, hown, hpeer]
  rw [hexec, execTwinVerdictTimeout, if_neg (not_not.2 hstep), hmissing, arbitrate_of_verdicts (by exact hstep) rfl rfl, ite_self]
  rfl

theorem exec_twinVerdictTimeout_of_other (hstep : s.twin.step ≠ .dispute) : exec .twinVerdictTimeout s = .next s := by
  have hexec : exec .twinVerdictTimeout s = execTwinVerdictTimeout s := rfl
  rw [hexec, execTwinVerdictTimeout, if_pos hstep]
end Arbitration

/-- Settles O39: words by `compared` and `openDispute`, a held sample by `diverge`, verdicts by `arbitrate_of_verdicts`. -/
theorem twinComparison : Obligations.TwinComparison := by
  unfold Obligations.TwinComparison
  refine ⟨?equal, ?differ, ?held, fun _ => exec_twinFrameCompare_of_equal_permit, ?frame, ?recomputed, ?received, ?activeBad, ?standbyBad,
    ?estranged, ?missing, fun _ => exec_twinVerdictTimeout_of_other⟩
  case equal =>
    intro w s hheld hcomp hown hpeer
    have hexec (hpaired : s.twin.step.paired = true) :=
      exec_twinSampleCompare_of_computed hpaired hown hpeer hheld hcomp hheld hcomp
    rw [firstDiff_self] at hexec
    refine ⟨fun hstep => ?_, fun hstep => ?_⟩
    · exact (hexec (by rw [hstep]; rfl)).trans (by rw [hstep]; rfl)
    · exact (hexec (by rw [hstep]; rfl)).trans (by rw [hstep]; rfl)
  case differ =>
    intro a b k s ha ha' hb hb' hown hpeer hdiff
    have hexec (hpaired : s.twin.step.paired = true) := exec_twinSampleCompare_of_computed hpaired hown hpeer ha ha' hb hb'
    rw [hdiff] at hexec
    refine ⟨fun hstep => ?_, fun hstep => ⟨(s.modTwin Twin.takesWords).openDispute k, ?_, rfl, rfl, rfl, rfl, rfl, rfl⟩⟩
    · exact (hexec (by rw [hstep]; rfl)).trans (by rw [hstep]; rfl)
    · exact (hexec (by rw [hstep]; rfl)).trans (by rw [hstep]; rfl)
  case held =>
    intro a b s hstep hr ha hown hpeer
    obtain ⟨hjoining, hcount, -, hframe⟩ := diverge_spec_of_active (s := s.modTwin Twin.takesWords) (by exact hr)
    exact ⟨_, exec_twinSampleCompare_of_held (by rw [hstep]; rfl) hown hpeer ha, hjoining, hcount, hframe⟩
  case frame =>
    intro p o k s hstep hpermit hpeer hown hdiff
    exact ⟨_, exec_twinFrameCompare_of_differing hstep hpermit hpeer hown hdiff, rfl, rfl, rfl, rfl⟩
  case recomputed =>
    intro ok s hstep hown hpeer hword
    obtain ⟨_, hsend⟩ := twinSend_eq 3 (.verdict ok) (s.modTwin (fun w => { w with own := some ok }))
    rw [exec_twinRecomputeComplete_of_frameWord hstep hown hword, hsend, arbitrate_of_peer_missing (by exact hpeer)]
    exact ⟨_, rfl, rfl, hstep, rfl⟩
  case received =>
    intro ok s hstep hpeer hown
    exact (exec_twinVerdictReceived_of_dispute hstep hpeer ok).trans (congrArg _ (arbitrate_of_own_missing (by exact hown)))
  case activeBad =>
    intro s hstep hpeer hown hr
    obtain ⟨t, ht, hspec⟩ := concludeDispute_one_of_active (s := s.modTwin (fun w => { w with peer := some true })) (by exact hr)
    exact ⟨t, (exec_twinVerdictReceived_of_active hstep hpeer hown hr true).trans (congrArg _ ht), hspec⟩
  case standbyBad =>
    intro s hstep hpeer hown hr
    obtain ⟨t, ht, hspec⟩ := concludeDispute_two_of_active (s := s.modTwin (fun w => { w with peer := some false })) (by exact hr)
    exact ⟨t, (exec_twinVerdictReceived_of_active hstep hpeer hown hr false).trans (congrArg _ ht), hspec⟩
  case estranged =>
    intro s hstep hpeer hown hr
    have hexec := exec_twinVerdictReceived_of_standby hstep hpeer hown hr true
    exact ⟨_, hexec.trans (congrArg _ (concludeDispute_of_standby (by decide) (by exact hr))), estrange_role_forceoff _⟩
  case missing =>
    intro s hstep hown hpeer hr
    obtain ⟨t, ht, hspec⟩ := concludeDispute_four_of_active
      (s := s.modTwin (fun w => { w with own := some false, peer := some false })) (by exact hr)
    exact ⟨t, (exec_twinVerdictTimeout_of_none hstep hown hpeer).trans (congrArg _ ht), hspec⟩

end Sys2Proof.Machine
end
section
/-! SUPPORT. What a sealed train leaves alone (R42, R119, R306): the safety image, the measurement bundle of the frame, and the twin part. -/
namespace Sys2Proof.Machine

section Trains
variable {s t u : State}

/-- R306: what a seal bundle sets, and no train of it: the safety image, the measurement bundle, the twin part. -/
def State.inputs (s : State) : (Nat × Nat × Nat) × Latched × Twin := ((s.sf.imgSfi, s.sf.imgFbk, s.sf.imgReadback), s.lat, s.twin)

@[simp] theorem inputs_ite (c : Prop) [Decidable c] (t u : State) : (if c then t else u).inputs = if c then t.inputs else u.inputs :=
  apply_ite ..

@[simp] theorem inputs_foldl {α : Type} (f : State → α → State) (l : List α) (s : State) (h : ∀ t a, (f t a).inputs = t.inputs) :
    (l.foldl f s).inputs = s.inputs :=
  List.foldlRecOn (motive := fun t => t.inputs = s.inputs) l f rfl fun t ht a _ => (h t a).trans ht

/-- A fold that carries a verdict beside the state. -/
theorem inputs_foldl_fst {α β : Type} (f : State × β → α → State × β) (l : List α) (p : State × β)
    (h : ∀ p a, (f p a).1.inputs = p.1.inputs) : (l.foldl f p).1.inputs = p.1.inputs :=
  List.foldlRecOn (motive := fun q => q.1.inputs = p.1.inputs) l f rfl fun q hq a _ => (h q a).trans hq

theorem State.transfers.inputs_eq (h : s.transfers t) : t.inputs = s.inputs := by
  obtain ⟨_, _, _, _, _, _, rfl, -⟩ := h
  rfl

/-! The updates that trains make. -/
section Updates
variable (leg : Leg) (s : State)
@[simp] theorem modRing_inputs (f : Ring → Ring) : (s.modRing leg f).inputs = s.inputs := by simp [State.inputs]
@[simp] theorem modDiag_inputs (f : LegDiag → LegDiag) : (s.modDiag leg f).inputs = s.inputs := rfl
@[simp] theorem modStation_inputs (k : Nat) (f : StationDiag → StationDiag) : (s.modStation leg k f).inputs = s.inputs := rfl
@[simp] theorem modCell_inputs (i : Nat) (f : Cell → Cell) : (s.modCell i f).inputs = s.inputs := by simp [State.inputs]
@[simp] theorem withTemps_inputs (x : List (Nat × TempPoint)) : State.inputs { s with temps := x } = s.inputs := rfl
@[simp] theorem withStart_inputs (x : Start) : State.inputs { s with start := x } = s.inputs := rfl
@[simp] theorem learnTrigger_inputs (code : Nat) : (s.learnTrigger code).inputs = s.inputs := (transfers_learnTrigger ..).inputs_eq
@[simp] theorem abandonLayup_inputs (code index : Nat) : (s.abandonLayup code index).inputs = s.inputs := (transfers_abandonLayup ..).inputs_eq
@[simp] theorem withLayup_inputs (x : Layup) : State.inputs { s with layup := x } = s.inputs := rfl
@[simp] theorem withLayup_withLearn_inputs (x : Layup) (y : Learn) : State.inputs { s with layup := x, learn := y } = s.inputs := rfl
@[simp] theorem form_inputs (type code source index : Nat) (a b : Int) : (s.form type code source index a b).inputs = s.inputs := rfl
@[simp] theorem event_inputs (type code source index : Nat) (a b : Int) : (s.event type code source index a b).inputs = s.inputs := rfl
@[simp] theorem formEvent_inputs (type code source index : Nat) (a b : Int) : (s.formEvent type code source index a b).inputs = s.inputs := rfl
end Updates

/-! R146: frames planned. -/
section Planning
variable (leg : Leg) (b : Bool) (s : State)

theorem State.plans.inputs_eq (h : s.plans t) : t.inputs = s.inputs := by
  obtain ⟨_, _, _, rfl, -⟩ := h
  rfl

@[simp] theorem plan_inputs (cmd stake : Nat) (payload : List Byte) : (s.plan leg b cmd stake payload).inputs = s.inputs :=
  (plans_planAt ..).inputs_eq

@[simp] theorem planHop_inputs (k : Nat) : (s.planHop leg b k).inputs = s.inputs := by simp [State.planHop]
@[simp] theorem planRegisters_inputs (k : Nat) : (s.planRegisters leg k).inputs = s.inputs := by simp [State.planRegisters]
@[simp] theorem planAllRegisters_inputs (ks : List Nat) : (s.planAllRegisters leg ks).inputs = s.inputs := by simp [State.planAllRegisters]
@[simp] theorem planMeasure_inputs : (s.planMeasure leg).inputs = s.inputs := by
  simp [State.planMeasure, -List.foldl_reverse]
@[simp] theorem planTest_inputs (k cmd : Nat) (sel : List Byte) : (s.planTest leg k cmd sel).inputs = s.inputs := by
  simp [State.planTest, State.planAll, State.planFor]
@[simp] theorem planRestake_inputs : (s.planRestake leg).inputs = s.inputs := by simp [State.planRestake]
@[simp] theorem resendLoad_inputs (recs : List RingRec) : (s.resendLoad leg recs).inputs = s.inputs :=
  (plans_planLoad ..).inputs_eq
end Planning

/-! R126: staking passes. -/
section Staking
variable (leg : Leg) (b : Bool) (s : State)
@[simp] theorem recount_inputs : (s.recount leg).inputs = s.inputs := rfl
@[simp] theorem startPass_inputs : (s.startPass leg).inputs = s.inputs := by simp [State.startPass]
@[simp] theorem failPass_inputs : (s.failPass leg).inputs = s.inputs := by simp [State.failPass]
@[simp] theorem spoilPass_inputs : (s.spoilPass leg).inputs = s.inputs := by simp [State.spoilPass]
@[simp] theorem stakeFromFar_inputs : (s.stakeFromFar leg).inputs = s.inputs := by simp [State.stakeFromFar]
@[simp] theorem learnStakes_inputs : (s.learnStakes leg).inputs = s.inputs := by simp [State.learnStakes]
@[simp] theorem missStake_inputs : (s.missStake leg b).inputs = s.inputs := by simp [State.missStake]
@[simp] theorem concludeStakes_inputs : (s.concludeStakes leg).inputs = s.inputs := by simp [State.concludeStakes]
@[simp] theorem onStakeTrain_inputs (f : Flight) (recs : List Taken) : (s.onStakeTrain leg b f recs).inputs = s.inputs := by
  simp [State.onStakeTrain]
end Staking

/-! R128, R132 to R134: PINGs. -/
section Pings
variable (leg : Leg) (b answered : Bool) (k : Nat) (a : Arrival) (s : State)
@[simp] theorem takeHop_inputs (d : Int) : (s.takeHop leg b k d).inputs = s.inputs := by simp [State.takeHop]
@[simp] theorem measureHop_inputs (rtt : Nat) : (s.measureHop leg b k rtt).inputs = s.inputs := by simp [State.measureHop]
@[simp] theorem seekReflect_inputs : (s.seekReflect leg b k answered).inputs = s.inputs := by simp [State.seekReflect]
@[simp] theorem pingOfPass_inputs : (s.pingOfPass leg b k answered).inputs = s.inputs := by simp [State.pingOfPass]
@[simp] theorem answerContact_inputs : (s.answerContact leg a).inputs = s.inputs := by simp [State.answerContact]
@[simp] theorem onPingTrain_inputs : (s.onPingTrain leg a).inputs = s.inputs := by simp [State.onPingTrain]
end Pings

/-! R147 to R149, R42: readings of cells and temperatures. -/
section Readings
variable (leg : Leg) (k : Nat) (a : Arrival) (s : State)
@[simp] theorem loseStation_inputs : (s.loseStation leg k).inputs = s.inputs := by simp [State.loseStation]
@[simp] theorem loseUnreached_inputs : (s.loseUnreached leg).inputs = s.inputs := by simp [State.loseUnreached]
@[simp] theorem enterCells_inputs (data : List Byte) (tp : Nat) : (s.enterCells leg k data tp).inputs = s.inputs := by simp [State.enterCells]
@[simp] theorem missCells_inputs (tp : Nat) : (s.missCells leg k tp).inputs = s.inputs := by simp [State.missCells]
@[simp] theorem enterRound_inputs (expected : List Nat) (recs : List Taken) (tp : Nat) :
    (s.enterRound leg expected recs tp).inputs = s.inputs := by
  refine inputs_foldl _ expected s fun t k => ?_
  split
  · exact enterCells_inputs ..
  · exact missCells_inputs ..
@[simp] theorem pollTests_inputs : (s.pollTests leg).inputs = s.inputs := by
  simp [State.pollTests, State.planWires, State.planSwitches, State.planFor]
@[simp] theorem sealRound_inputs (x : RoundInfo) : (s.sealRound leg x).inputs = s.inputs := by simp [State.sealRound]
@[simp] theorem onCellsTrain_inputs : (s.onCellsTrain leg a).inputs = s.inputs := by
  unfold State.onCellsTrain
  dsimp only
  split
  · simp
  · simp
@[simp] theorem enterTemps_inputs (data : List Byte) : (s.enterTemps leg k data).inputs = s.inputs := by simp [State.enterTemps]
@[simp] theorem noteFirst_inputs : (s.noteFirst leg).inputs = s.inputs := by simp [State.noteFirst]
@[simp] theorem onTempsTrain_inputs : (s.onTempsTrain leg a).inputs = s.inputs := by simp [State.onTempsTrain]
end Readings

/-! R151, R155, R160 to R163: housekeeping, balancing and the tests of a station. -/
section Checks
variable (leg : Leg) (k : Nat) (a : Arrival) (s : State)
@[simp] theorem checkHousekeeping_inputs (sum : Option Int) (data : List Byte) : (s.checkHousekeeping leg k sum data).1.inputs = s.inputs := by
  simp [State.checkHousekeeping]
@[simp] theorem onHousekeepingTrain_inputs : (s.onHousekeepingTrain leg a).inputs = s.inputs := by
  simp [State.onHousekeepingTrain, inputs_foldl_fst]
@[simp] theorem onBalanceTrain_inputs : (s.onBalanceTrain leg a).inputs = s.inputs := by simp [State.onBalanceTrain]
@[simp] theorem setLine_inputs (w : Nat) (opened : Bool) : (s.setLine leg k w opened).inputs = s.inputs := by simp [State.setLine]
@[simp] theorem classifyLine_inputs (w : Nat) (dv : Int) : (s.classifyLine leg k w dv).inputs = s.inputs := by simp [State.classifyLine]
@[simp] theorem onOpenWireTrain_inputs : (s.onOpenWireTrain leg a).inputs = s.inputs := by simp [State.onOpenWireTrain, State.planWires]
@[simp] theorem evaluateSwitches_inputs (mask : Nat) (data : List Byte) : (s.evaluateSwitches leg k mask data).inputs = s.inputs := by
  simp [State.evaluateSwitches]
@[simp] theorem onSwitchTrain_inputs : (s.onSwitchTrain leg a).inputs = s.inputs := by simp [State.onSwitchTrain, State.planSwitches]
end Checks

/-! R165, R135: SET_SLEEP_THRESHOLDS and CODE_RUN. -/
section Commands
variable (leg : Leg) (k : Nat) (a : Arrival) (s : State)
@[simp] theorem layupPersist_inputs : s.layupPersist.inputs = s.inputs := by simp [State.layupPersist]
@[simp] theorem sleepNotConfirmed_inputs : (s.sleepNotConfirmed leg k).inputs = s.inputs := by simp [State.sleepNotConfirmed]
@[simp] theorem onSleepTrain_inputs : (s.onSleepTrain leg a).inputs = s.inputs := by simp [State.onSleepTrain]
@[simp] theorem onCodeRunTrain_inputs : (s.onCodeRunTrain leg a).inputs = s.inputs := by simp [State.onCodeRunTrain]
end Commands

@[simp] theorem keepStatuses_inputs (leg : Leg) (recs : List Taken) (s : State) : (s.keepStatuses leg recs).inputs = s.inputs := by
  simp [State.keepStatuses]

/-- R42, R119: a train changes what its command measures, and no input of a seal. -/
theorem takeArrival_inputs (leg : Leg) (a : Arrival) (s : State) : (s.takeArrival leg a).inputs = s.inputs := by
  unfold State.takeArrival
  cases a.fate <;> simp

/-- R306: nor does one that comes in a seal bundle. -/
theorem takeSealedTrain_inputs (x : SealedTrain) (s : State) : (s.takeSealedTrain x).inputs = s.inputs := by
  unfold State.takeSealedTrain
  cases x.info <;> simp [takeArrival_inputs]
end Trains

end Sys2Proof.Machine
end
section
/-! SUPPORT. The Backsight and the seal (R303, R304, R306 to R308): a flit slot, a flit that arrives, the seal bundle of the active unit, and
a standby's sample. -/
namespace Sys2Proof.Machine

/-! R303, R304: a flit slot. -/
section Send
variable {cls : Nat} {m : TwinMsg} {s : State}

/-- R303: the bytes of the unit's next flit of a class. -/
def State.nextFlit (s : State) (cls : Nat) (m : TwinMsg) : List Byte :=
  backFlit cls s.twin.tx.nextSeq s.twin.rx.lastRx s.twin.rx.nakDue s.time.frame m

/-- R303: a twin part after a flit slot, in which any owed NAK has gone. -/
def Twin.sends (tx : BackDir) (w : Twin) : Twin := { w with rx := { w.rx with nakDue := false }, tx := tx }

theorem exec_backsightFlitSend_idle (hm : s.twinMember = true) (hu : s.twin.up = true) (hr : s.twin.tx.replaying = []) (hp : s.twin.tx.pending = []) :
    exec .backsightFlitSend s = .next (s.modTwin (Twin.sends { s.twin.tx with onWire := some (7, .idle), wire := s.nextFlit 7 .idle })) := by
  have hexec : exec .backsightFlitSend s = execBacksightFlitSend s := rfl
  have hlowest : lowestClass s.twin.tx.pending = none := by rw [hp]; rfl
  rw [hexec, execBacksightFlitSend, if_neg (by simp [hm, hu])]
  simp only [hr, hlowest]
  rfl

/-- R304: a class that a replay repeats is kept, the newest 16. -/
theorem exec_backsightFlitSend_waiting (hm : s.twinMember = true) (hu : s.twin.up = true) (hr : s.twin.tx.replaying = [])
    (hp : s.twin.tx.pending = [(cls, m)]) (hc : replayed cls = true) (hl : s.twin.tx.replay.length < 16) :
    exec .backsightFlitSend s = .next (s.modTwin (Twin.sends { s.twin.tx with
      pending := [], replay := s.twin.tx.replay ++ [(s.twin.tx.nextSeq, (cls, m))], nextSeq := (s.twin.tx.nextSeq + 1) % 256
      onWire := some (cls, m), wire := s.nextFlit cls m })) := by
  have hexec : exec .backsightFlitSend s = execBacksightFlitSend s := rfl
  have hlowest : lowestClass s.twin.tx.pending = some (cls, m) := by rw [hp]; rfl
  have hnone : (s.twin.tx.replay ++ [(s.twin.tx.nextSeq, (cls, m))]).length - 16 = 0 := by
    rw [List.length_append, List.length_singleton]
    omega
  rw [hexec, execBacksightFlitSend, if_neg (by simp [hm, hu])]
  simp only [hr, hlowest]
  simp only [hc, if_true, hnone, List.drop_zero, hp, List.erase_cons_head]
  rfl
end Send

/-! R304: a flit arrives. -/
section Receive
variable {cls seq ack : Nat} {nak ok : Bool} {m : TwinMsg} {s : State}

theorem exec_backsightFlitReceived_down (hu : s.twin.up = false) : exec (.backsightFlitReceived cls seq ack nak ok m) s = .next s := by
  have hexec : exec (.backsightFlitReceived cls seq ack nak ok m) s = execBacksightFlitReceived cls seq ack nak ok m s := rfl
  rw [hexec, execBacksightFlitReceived, if_pos (by simp [hu])]

theorem exec_backsightFlitReceived_bad_replayed (hm : s.twinMember = true) (hu : s.twin.up = true) (hc : replayed cls = true) :
    exec (.backsightFlitReceived cls seq ack nak false m) s = .next (s.modTwin (fun w => { w with
      errors := incSat w.errors, rx := { w.rx with discarding := true, nakDue := true, owed := w.rx.owed + 1 } })) := by
  have hexec : exec (.backsightFlitReceived cls seq ack nak false m) s = execBacksightFlitReceived cls seq ack nak false m s := rfl
  have hsample : ¬(cls = 1 ∨ cls = 2) := by
    rintro (rfl | rfl)
    · exact absurd hc (by decide)
    · exact absurd hc (by decide)
  rw [hexec, execBacksightFlitReceived, if_neg (by simp [hm, hu]), if_pos (by rfl)]
  dsimp only
  rw [if_neg hsample, if_pos hc]
  rfl

/-- R304, R308: a flit with a sample is counted and its SEQ taken, and nothing of it comes again: the pair diverges. -/
def Twin.losesSample (seq : Nat) (w : Twin) : Twin :=
  { w with errors := incSat w.errors, rx := if w.rx.discarding then w.rx else { w.rx with lastRx := seq } }

theorem exec_backsightFlitReceived_bad_sample (hm : s.twinMember = true) (hu : s.twin.up = true) (hstep : s.twin.step.paired = true)
    (hc : cls = 1 ∨ cls = 2) :
    exec (.backsightFlitReceived cls seq ack nak false m) s = .next (s.modTwin (Twin.losesSample seq)).diverge := by
  have hexec : exec (.backsightFlitReceived cls seq ack nak false m) s = execBacksightFlitReceived cls seq ack nak false m s := rfl
  have htwin : (s.modTwin (fun w => { w with errors := incSat w.errors })).modTwin
      (fun w => if w.rx.discarding then w else { w with rx := { w.rx with lastRx := seq } }) = s.modTwin (Twin.losesSample seq) := by
    cases hd : s.twin.rx.discarding <;> simp [State.modTwin, Twin.losesSample, hd]
  rw [hexec, execBacksightFlitReceived, if_neg (by simp [hm, hu]), if_pos (by rfl)]
  dsimp only
  rw [if_pos hc, htwin, if_pos (by exact hstep)]

theorem exec_backsightFlitReceived_good_replayed (hm : s.twinMember = true) (hu : s.twin.up = true) (hc : replayed cls = true)
    (hd : s.twin.rx.discarding = false) (ho : s.twin.rx.owed = 0) :
    exec (.backsightFlitReceived cls seq ack false true m) s =
      .next ((s.modTwin (fun w => { w with rx := { w.rx with discarding := false, owed := 0, lastRx := seq } })).twinMessage m) := by
  have hexec : exec (.backsightFlitReceived cls seq ack false true m) s = execBacksightFlitReceived cls seq ack false true m s := rfl
  rw [hexec, execBacksightFlitReceived, if_neg (by simp [hm, hu]), if_neg (by simp)]
  dsimp only
  rw [if_neg Bool.false_ne_true, if_pos hc, if_neg (by simp [hd])]
  simp only [State.modTwin, ho, Nat.lt_irrefl, if_false]
end Receive

/-! R306, R308: the seal. -/
section Seal
variable {b : SealBundle} {s : State}

theorem openAll_inputs (s : State) : s.openAll.inputs = s.inputs := by
  obtain ⟨_, hopen, -⟩ := openAll_spec s
  rw [hopen]
  rfl

theorem stopBoundary_inputs (s : State) : s.stopBoundary.inputs = s.inputs := by
  unfold State.stopBoundary
  split
  · rfl
  · extract_lets n counted
    have hcounted : counted.inputs = s.inputs := by simp [counted, State.inputs]
    rw [inputs_ite, openAll_inputs, ite_self, hcounted]

/-- R292, R325, R333: the checks of a frame's inputs leave the inputs alone. -/
theorem checkLatched_inputs (s : State) : s.checkLatched.inputs = s.inputs := by
  rw [State.checkLatched, State.safetyBoundary]
  rw [stopBoundary_inputs]
  simp [State.inputs, State.takeNtc, State.countTach]

/-- R306: the seal of a standby by the active unit's. -/
def State.takeSeal (b : SealBundle) (s : State) : State :=
  ((b.trains.foldl (fun t x => t.takeSealedTrain x) (((s.takeBundle b.latch).takeImage b.sfi b.latch.fbk b.latch.readback).modSf
    (fun f => { f with fbk := b.latch.fbk }))).postMail.modTwin (fun w => { w with sealed := b.frame })).checkLatched

theorem exec_sealBundleReceived_of_standby (hr : s.role = .standby) (hc : b.crcOk = true) (hf : b.frame = s.time.frame) :
    exec (.sealBundleReceived b) s = .next (s.takeSeal b) := by
  have hexec : exec (.sealBundleReceived b) s = execSealBundleReceived b s := rfl
  rw [hexec, execSealBundleReceived, if_neg (by simp [hr, hc, hf])]
  rfl

theorem exec_sealBundleReceived_refused (h : s.role ≠ .standby ∨ b.crcOk = false ∨ b.frame ≠ s.time.frame) :
    exec (.sealBundleReceived b) s = .next s := by
  have hexec : exec (.sealBundleReceived b) s = execSealBundleReceived b s := rfl
  rw [hexec, execSealBundleReceived, if_pos (by simpa using h)]

/-- R306: the standby's inputs are those of the bundle. -/
theorem takeSeal_spec (b : SealBundle) (s : State) : (s.takeSeal b).twin.sealed = b.frame ∧ (s.takeSeal b).sf.imgSfi = b.sfi ∧
    (s.takeSeal b).sf.imgFbk = b.latch.fbk ∧ (s.takeSeal b).sf.imgReadback = b.latch.readback ∧ (s.takeSeal b).lat.ntc = b.latch.ntc := by
  have htrains := inputs_foldl _ b.trains (((s.takeBundle b.latch).takeImage b.sfi b.latch.fbk b.latch.readback).modSf
    (fun f => { f with fbk := b.latch.fbk })) fun t x => takeSealedTrain_inputs x t
  have hchecked : (s.takeSeal b).inputs = _ := checkLatched_inputs _
  simp only [State.inputs, Prod.mk.injEq] at htrains hchecked
  obtain ⟨⟨hsfi, hfbk, hreadback⟩, hlat, -⟩ := htrains
  obtain ⟨⟨ksfi, kfbk, kreadback⟩, klat, ktwin⟩ := hchecked
  exact ⟨congrArg Twin.sealed ktwin, ksfi.trans hsfi, kfbk.trans hfbk, kreadback.trans hreadback, congrArg Latched.ntc (klat.trans hlat)⟩

theorem diverge_of_standby (hr : s.role = .standby) (hd : s.twin.divergeAt = []) :
    s.diverge = ((s.twinRecord 129 16 noIndex).modTwin (Twin.diverges s.time.meridian s.isActive)).twinSend 3 .joinRequest := by
  have hfew : ¬((s.twinRecord 129 16 noIndex).modTwin (Twin.diverges s.time.meridian s.isActive)).twin.divergeAt.length > 3 := by
    simp [Twin.diverges, State.twinRecord, hd]
  exact (if_pos hr).trans (if_neg hfew)

theorem exec_sealBundleLate_of_missing (hr : s.role = .standby) (hstep : s.twin.step.paired = true) (hs : s.twin.sealed ≠ s.time.frame) :
    exec .sealBundleLate s = .next s.diverge := by
  have hexec : exec .sealBundleLate s = execSealBundleLate s := rfl
  rw [hexec, execSealBundleLate, if_pos ⟨hr, hstep, hs⟩]

theorem exec_sealBundleLate_of_sealed (hs : s.twin.sealed = s.time.frame) : exec .sealBundleLate s = .next s := by
  have hexec : exec .sealBundleLate s = execSealBundleLate s := rfl
  rw [hexec, execSealBundleLate, if_neg fun h => h.2.2 hs]
end Seal

/-! R307: the sample of a standby in step. -/
section Sample
variable {c : Vector Int 18} {s : State}

theorem latchSample_frame (codes : Vector Int 20) (s : State) :
    ∃ conv cle str, s.latchSample codes = { s with conv := conv, cle := cle, str := str } := by
  have hlegs : (s.takeCodes (s.corrected codes)).keepsCodes (s.latchSample codes) :=
    latchSample_eq codes s ▸ List.foldlRecOn allLegs _ (motive := (s.takeCodes (s.corrected codes)).keepsCodes) .refl
      fun t ht l _ => ht.trans (keepsCodes_latchLegSample l t)
  obtain ⟨_, htaken⟩ := takeCodes_frame (s.corrected codes) s
  obtain ⟨⟨_, _, _, hframe⟩, -⟩ := hlegs
  exact ⟨_, _, _, by rw [hframe, htaken]⟩

theorem exec_standbyCleStart_of_missing (hr : s.role = .standby) (hstep : s.twin.step.paired = true) (hd : s.twin.decided = none)
    (hc : s.twin.codes = none) : exec .standbyCleStart s = .next (s.modTwin (fun w => { w with missing := true })) := by
  have hexec : exec .standbyCleStart s = execStandbyCleStart s := rfl
  rw [hexec, execStandbyCleStart, if_neg (by simp [hr, hstep, hd])]
  simp only [hc]

/-- R307: the run of samples in which each code differed from the standby's own. -/
def Twin.nextRun (c : Vector Int 18) (w : Twin) : Vector Nat 18 :=
  Vector.ofFn (fun (i : Fin 18) => if c.toList.getD i.val 0 = w.ownCodes.toList.getD i.val 0 then 0 else w.diffRun[i.val] + 1)

/-- R307: the forwarded codes in place of the standby's own. -/
def Twin.joinCodes (c : Vector Int 18) (w : Twin) : Vector Int 20 := Vector.ofFn (fun (i : Fin 20) => c.toList.getD i.val w.ownCodes[i.val])

theorem nextRun_lt {n : Nat} {w : Twin} (h : ∀ i : Fin 18, w.diffRun[i.val] + 1 < n) :
    (w.nextRun c).toList.any (fun k => decide (n ≤ k)) = false := by
  rw [List.any_eq_false]
  intro k hk
  obtain ⟨i, hi, rfl⟩ := Vector.getElem_of_mem (Vector.mem_toList_iff.1 hk)
  have hrun : w.diffRun[i] + 1 < n := h ⟨i, hi⟩
  simp only [Twin.nextRun, Vector.getElem_ofFn, decide_eq_true_eq]
  split <;> omega

theorem exec_standbyCleStart_of_codes (hr : s.role = .standby) (hstep : s.twin.step.paired = true) (hd : s.twin.decided = none)
    (hc : s.twin.codes = some c) (hn : ∀ i : Fin 18, s.twin.diffRun[i.val] + 1 < s.parN P.plausSamples) :
    exec .standbyCleStart s = .next ((s.latchSample (s.twin.joinCodes c)).modTwin
      (fun w => { w with codes := none, missing := false, diffRun := s.twin.nextRun c })) := by
  have hexec : exec .standbyCleStart s = execStandbyCleStart s := rfl
  have hpar : ((s.latchSample (s.twin.joinCodes c)).modTwin
      (fun w => { w with codes := none, missing := false, diffRun := s.twin.nextRun c })).parN P.plausSamples = s.parN P.plausSamples := by
    obtain ⟨_, _, _, h⟩ := latchSample_frame (s.twin.joinCodes c) s
    rw [h]
    rfl
  rw [hexec, execStandbyCleStart, if_neg (by simp [hr, hstep, hd])]
  simp only [hc]
  have hlow := nextRun_lt (c := c) hn
  rw [← hpar] at hlow
  exact congrArg _ (if_neg (Bool.eq_false_iff.1 hlow))

theorem standbySample_role (codes : Vector Int 20) (f : Twin → Twin) (s : State) : ((s.latchSample codes).modTwin f).role = s.role := by
  obtain ⟨_, _, _, h⟩ := latchSample_frame codes s
  rw [h]
  rfl
end Sample

/-- Settles O38: each command by its rule above; a divergence by `diverge_spec_of_active` and `diverge_of_standby`, the seal by
`takeSeal_spec`. -/
theorem backsightTraffic : Obligations.BacksightTraffic := by
  unfold Obligations.BacksightTraffic
  refine ⟨fun _ => exec_backsightFlitSend_idle, fun _ _ hm hu hr hp hl => exec_backsightFlitSend_waiting hm hu hr hp rfl hl,
    fun _ _ _ _ _ hm hu => exec_backsightFlitReceived_bad_replayed hm hu rfl,
    fun _ _ _ _ hm hu hd ho => exec_backsightFlitReceived_good_replayed hm hu rfl hd ho, ?diverged,
    fun _ _ _ _ _ _ _ => exec_backsightFlitReceived_down, ?sealed, fun _ _ => exec_sealBundleReceived_refused, ?late,
    fun _ => exec_sealBundleLate_of_sealed, ?missing, ?computed⟩
  case diverged =>
    intro seq ack m s hm hu hstep hr
    obtain ⟨hjoining, hcount, hout, hframe⟩ := diverge_spec_of_active (s := s.modTwin (Twin.losesSample seq)) (by exact hr)
    exact ⟨_, exec_backsightFlitReceived_bad_sample hm hu hstep (.inr rfl), hjoining, hcount, hout, hframe⟩
  case sealed =>
    intro b s hr hc hf
    have hexec := exec_sealBundleReceived_of_standby hr hc hf
    obtain ⟨hsealed, hsfi, hfbk, hreadback, hntc⟩ := takeSeal_spec b s
    exact ⟨_, hexec, hsealed, hsfi, hfbk, hreadback, hntc, kept_of_next (execSealBundleReceived_kept b s) hexec⟩
  case late =>
    intro s hr hstep hs hd
    obtain ⟨_, hsend⟩ := twinSend_eq 3 .joinRequest ((s.twinRecord 129 16 noIndex).modTwin (Twin.diverges s.time.meridian s.isActive))
    rw [exec_sealBundleLate_of_missing hr (by rw [hstep]; rfl) hs, diverge_of_standby hr hd, hsend]
    exact ⟨_, rfl, rfl, rfl, hr, rfl⟩
  case missing =>
    intro s hr hstep hd hc
    exact exec_standbyCleStart_of_missing hr (by rw [hstep]; rfl) hd hc
  case computed =>
    intro c s hr hstep hd hc hn
    have hexec := exec_standbyCleStart_of_codes hr (by rw [hstep]; rfl) hd hc hn
    exact ⟨_, hexec, rfl, rfl, (standbySample_role ..).trans hr, kept_of_next (execStandbyCleStart_kept s) hexec⟩

end Sys2Proof.Machine
end
section
/-! SUPPORT. Thermal management (R325, R328 to R330, R332 to R334): NTC faults, stage trips, die shutdown, valve loops, fans. -/
namespace Sys2Proof.Machine

theorem exec_ntcFault_eq (ch : Fin 12) (code : Nat) (s : State) : exec (.ntcFault ch code) s = execNtcFault ch code s := rfl
theorem exec_ntcFaultClear_eq (ch : Fin 12) (s : State) : exec (.ntcFaultClear ch) s = execNtcFaultClear ch s := rfl
theorem exec_stageThermalTrip_eq (ntc : Fin 8) (code : Nat) (s : State) : exec (.stageThermalTrip ntc code) s = execStageThermalTrip ntc code s := rfl
theorem exec_stageThermalRelease_eq (leg : Leg) (s : State) : exec (.stageThermalRelease leg) s = execStageThermalRelease leg s := rfl
theorem exec_dieThermalShutdown_eq (die : Fin 2) (temp : Int) (s : State) :
    exec (.dieThermalShutdown die temp) s = execDieThermalShutdown die temp s := rfl
theorem exec_dieShutdownRelease_eq (s : State) : exec .dieShutdownRelease s = execDieShutdownRelease s := rfl
theorem exec_valveLoop_eq (s : State) : exec .valveLoop s = execValveLoop s := rfl
theorem exec_fanPwmPeriod_eq (f : Fin 4) (s : State) : exec (.fanPwmPeriod f) s = execFanPwmPeriod f s := rfl
theorem exec_tachEdge_eq (f : Fin 4) (s : State) : exec (.tachEdge f) s = execTachEdge f s := rfl
theorem exec_fanFault_eq (f : Fin 4) (s : State) : exec (.fanFault f) s = execFanFault f s := rfl
theorem exec_fanFaultClear_eq (f : Fin 4) (s : State) : exec (.fanFaultClear f) s = execFanFaultClear f s := rfl

/-! R325: a channel of an NTC. -/
section Ntc
variable {ch : Fin 12} {code : Nat} {s : State}

/-- R325: a channel in fault, whose temperature is invalid. -/
def Thermal.faultNtc (ch : Fin 12) (h : Thermal) : Thermal :=
  { h with ntcFault := vmod h.ntcFault ch (fun _ => true), ntc := vmod h.ntc ch (fun _ => tInvalid) }

theorem exec_ntcFault (hc : code ≤ 40 ∨ 4055 ≤ code) (hf : s.therm.ntcFault[ch.val] = false) : exec (.ntcFault ch code) s =
    .next (({ s with therm := s.therm.faultNtc ch } : State).form 0x5001 6 122 ch.val tInvalid 0) := by
  have hv : ntcValid code = false := by
    simp only [ntcValid, Bool.and_eq_false_iff, decide_eq_false_iff_not]
    omega
  rw [exec_ntcFault_eq, execNtcFault, if_neg (by simp [hv, hf])]
  rfl

theorem exec_ntcFault_of_valid (h1 : 40 < code) (h2 : code < 4055) : exec (.ntcFault ch code) s = .next s := by
  rw [exec_ntcFault_eq, execNtcFault, if_pos (by simp [ntcValid, h1, h2])]
end Ntc

/-! R328, R334: a leg trips on its temperature, and is released. -/
section Stage
variable {ntc : Fin 8} {leg : Leg} {code : Nat} {s : State}

/-- R328: a leg that braked for its temperature starts again at the release. -/
def Thermal.tripStage (leg : Leg) (h : Thermal) : Thermal :=
  { h with
    stageTrip := vmod h.stageTrip leg (fun _ => true), stageTrips := vmod h.stageTrips leg incSat, restart := vmod h.restart leg (fun _ => true) }

/-- R328: the trip is over. -/
def Thermal.releaseStage (leg : Leg) (h : Thermal) : Thermal :=
  { h with stageTrip := vmod h.stageTrip leg (fun _ => false), restart := vmod h.restart leg (fun _ => false) }

/-- R235, R328: the leg's probe yields, and the leg brakes. -/
def State.tripLeg (leg : Leg) (s : State) : State := (s.yieldLeg leg .protection).brakeLeg leg .fault 0

theorem tripLeg_therm (leg : Leg) (s : State) : (s.tripLeg leg).therm = s.therm := by
  obtain ⟨_, _, _, hbrake⟩ := switches_brakeLeg leg .fault 0 (s.yieldLeg leg .protection)
  obtain ⟨_, _, _, _, _, _, hyield⟩ := yields_yieldLeg leg .protection s
  rw [State.tripLeg, hbrake, hyield]

theorem exec_stageThermalTrip (hc : code ≤ s.therm.tripCode[ntc.val]) (ht : s.therm.stageTrip[(legOf ntc).val] = false)
    (hr : s.conv[(legOf ntc).val].st = .running) : exec (.stageThermalTrip ntc code) s =
      .next ((({ s.tripLeg (legOf ntc) with therm := s.therm.tripStage (legOf ntc) } : State).formField 0x5001 3 2 ntc.val
        (({ s.tripLeg (legOf ntc) with therm := s.therm.tripStage (legOf ntc) } : State).ntcTemp code)
        (({ s.tripLeg (legOf ntc) with therm := s.therm.tripStage (legOf ntc) } : State).par P.stageShutdown)).settleRunning) := by
  have hlatched : (s.conv[(legOf ntc).val].st == .fault) = false := by rw [hr]; rfl
  rw [exec_stageThermalTrip_eq, execStageThermalTrip]
  simp only [hlatched]
  rw [if_neg (by simp [Nat.not_lt.2 hc, ht]), if_neg Bool.false_ne_true, ← State.tripLeg]
  simp only [tripLeg_therm]
  rfl

theorem exec_stageThermalTrip_of_cool (hc : s.therm.tripCode[ntc.val] < code) : exec (.stageThermalTrip ntc code) s = .next s := by
  rw [exec_stageThermalTrip_eq, execStageThermalTrip]
  exact if_pos (.inl hc)

theorem settleRunning_of_armed (hm : s.mode = .armed) : s.settleRunning = s := if_neg (by simp [hm])

theorem exec_stageThermalRelease (ht : s.therm.stageTrip[leg.val] = true) (hr : s.therm.restart[leg.val] = true)
    (hs : s.conv[leg.val].st = .fault) (he : s.conv[leg.val].enabled = true) (hm : s.mode = .armed) :
    ∃ fb, exec (.stageThermalRelease leg) s = .next { s with
      conv := vmod s.conv leg (fun c => { c with st := .waitBus, enabled := true, cause := 0 })
      therm := s.therm.releaseStage leg, fb := fb } := by
  rw [exec_stageThermalRelease_eq, execStageThermalRelease]
  rw [if_neg (by simp [ht])]
  dsimp only
  have hagain : (s.conv[leg.val].enabled && (s.mode == .armed || s.mode == .running)) = true := by simp [he, hm]
  simp only [if_pos (And.intro hs hr), hagain, if_true]
  rw [settleRunning_of_armed (by exact hm)]
  exact ⟨_, rfl⟩

theorem exec_stageThermalRelease_of_none (ht : s.therm.stageTrip[leg.val] = false) : exec (.stageThermalRelease leg) s = .next s := by
  rw [exec_stageThermalRelease_eq, execStageThermalRelease, if_pos (by simp [ht])]
end Stage

/-! R329: a junction. -/
section Die
variable {die : Fin 2} {temp : Int} {s : State}

theorem powerOff_pwm_off (s : State) (p : Phase) : s.powerOff.pwm[p.val].on = false := by
  have hpwm : s.powerOff.pwm = Vector.replicate 8 {} := rfl
  simp [hpwm]

theorem powerOff_output_low (s : State) (c : Fin 8) : s.powerOff.sf.output[c.val].driven = false := by
  have hout : s.powerOff.sf.output = Vector.replicate 8 {} := rfl
  simp [hout]

/-- R329: what retained memory keeps of the shutdown. -/
def State.dieHeld (s : State) (die : Fin 2) (temp : Int) : Retained :=
  { s.powerOff.ret with
    dieShutdown := some (die.val, temp, s.fieldStamp), dieHold := true, dieRestart := true
    lastGaspCut := s.powerOff.ret.lastGaspCut || s.start.lastGasp }

theorem exec_dieThermalShutdown (ht : 1300 ≤ temp) (hm : s.mode ≠ .off) :
    exec (.dieThermalShutdown die temp) s = .next { s.powerOff with ret := s.dieHeld die temp } := by
  rw [exec_dieThermalShutdown_eq, execDieThermalShutdown, if_neg (by simp [Int.not_lt.2 ht, hm])]
  rfl

theorem exec_dieThermalShutdown_of_cool (ht : temp < 1300) : exec (.dieThermalShutdown die temp) s = .next s := by
  rw [exec_dieThermalShutdown_eq, execDieThermalShutdown, if_pos (.inl ht)]

theorem exec_dieShutdownRelease (hm : s.mode = .off) (hd : s.ret.dieHold = true) :
    exec .dieShutdownRelease s = .next (({ s with ret := { s.ret with dieHold := false } } : State).moduleReset 0) := by
  rw [exec_dieShutdownRelease_eq, execDieShutdownRelease, if_pos ⟨hm, hd⟩]
end Die

/-! R330, R331: the valve loops. -/
section Valves
variable {v : Fin 4} {s t : State}

theorem exec_valveLoop_of_other_frame (hp : s.time.frame % (max 1 (s.parN P.valvePeriod)) ≠ 0) : exec .valveLoop s = .next s := by
  rw [exec_valveLoop_eq, execValveLoop, if_pos (.inl hp)]

theorem valveLoop_of_other_mode (h : s.par P.valveMode 0xFF v.val ≠ 1) : s.valveLoop v = s := if_pos h

/-- R331: a valve that already holds, without a temperature, goes to VALVE_FAILSAFE. -/
theorem valveLoop_of_invalid (h : s.par P.valveMode 0xFF v.val = 1) (ht : s.valveTemp v = none) (hh : s.therm.valveHold[v.val] = true) :
    s.valveLoop v = { s with
      therm := { s.therm with
        valveI := vmod s.therm.valveI v (fun _ => s.failsafe v)
        valveTarget := vmod s.therm.valveTarget v (fun _ => (s.valveSteps v (s.failsafe v)).toNat) }
      axis := vmod s.axis v (fun a => { a with nextTarget := some (s.valveSteps v (s.failsafe v)) }) } := by
  have hheld : s.holdValve v none = s := if_pos hh
  rw [State.valveLoop, if_neg (by simp [h])]
  simp only [ht, hheld]
  rfl

theorem exec_valveLoop_first (hp : s.time.frame % (max 1 (s.parN P.valvePeriod)) = 0) (hr : s.axesRun = true) (hc : s.base.coreLost = false)
    (hf : s.base.fieldLost = false) (ho : ∀ v : Fin 4, v ≠ 0 → s.par P.valveMode 0xFF v.val = 0) (h0 : s.valveLoop 0 = t) (hpar : t.plat = s.plat) :
    exec .valveLoop s = .next t := by
  have hrest (v : Fin 4) (hv : v ≠ 0) : t.valveLoop v = t := by
    refine valveLoop_of_other_mode ?_
    have hmode : t.par P.valveMode 0xFF v.val = s.par P.valveMode 0xFF v.val := by rw [State.par, hpar]; rfl
    rw [hmode, ho v hv]
    decide
  rw [exec_valveLoop_eq, execValveLoop, if_neg (by simp [hp, hr, hc, hf])]
  simp [allAxes, h0, hrest]
end Valves

/-! R332, R333: the fans. -/
section Fans
variable {f : Fin 4} {s : State}

/-- R332: the duty of a fan's PWM period, where its pin is driven. -/
def State.fanPeriod (s : State) (f : Fin 4) : Nat :=
  match s.drive .fan with
  | .active => s.therm.fanOut[f.val]
  | .high => 10000
  | .low => 0
  | .z | .idle => s.therm.fanDuty[f.val]

theorem exec_fanPwmPeriod : exec (.fanPwmPeriod f) s =
    .next { s with therm := { s.therm with fanDuty := vmod s.therm.fanDuty f (fun _ => s.fanPeriod f) } } := by
  rw [exec_fanPwmPeriod_eq, execFanPwmPeriod, State.fanPeriod]
  cases s.drive .fan <;> simp [vmod]

theorem exec_fanFault (ht : s.parN P.tachMinRpm 0xFF f.val ≠ 0) (hr : s.therm.fanRpm[f.val] < s.parN P.tachMinRpm 0xFF f.val)
    (hd : s.parN P.tachMinDuty ≤ s.therm.fanDuty[f.val]) (hf : s.therm.fanFault[f.val] = false) : exec (.fanFault f) s =
      .next (({ s with therm := { s.therm with fanFault := vmod s.therm.fanFault f (fun _ => true) } } : State).formEvent 0x5001 7 124 f.val
        s.therm.fanRpm[f.val] (s.parN P.tachMinRpm 0xFF f.val)) := by
  rw [exec_fanFault_eq, execFanFault]
  exact if_pos ⟨ht, hr, hd, by simp [hf]⟩

theorem exec_fanFaultClear (hr : s.parN P.tachMinRpm 0xFF f.val ≤ s.therm.fanRpm[f.val]) : exec (.fanFaultClear f) s =
    .next { s with therm := { s.therm with fanFault := vmod s.therm.fanFault f (fun _ => false) } } := by
  rw [exec_fanFaultClear_eq, execFanFaultClear, if_pos hr]
end Fans

/-- Settles O41: each command by its rule above; a tripped leg by `brakeLeg_braked`, the shutdown by `powerOff`. -/
theorem thermalProtection : Obligations.ThermalProtection := by
  unfold Obligations.ThermalProtection
  refine ⟨?fault, fun _ _ _ => exec_ntcFault_of_valid, fun _ _ => ⟨_, rfl, vmod_same .., rfl⟩, ?trip, fun _ _ _ => exec_stageThermalTrip_of_cool,
    ?release, fun _ _ => exec_stageThermalRelease_of_none, ?shutdown, fun _ _ _ => exec_dieThermalShutdown_of_cool, ?start,
    fun _ => exec_valveLoop_of_other_frame, ?valve, ?fan, fun _ _ => ⟨_, exec_tachEdge_eq .., vmod_same .., rfl⟩, ?fanFault,
    fun _ _ hr => ⟨_, exec_fanFaultClear hr, vmod_same .., rfl⟩⟩
  case fault =>
    intro ch code s hc hf
    exact ⟨_, exec_ntcFault hc hf, vmod_same .., vmod_same .., rfl⟩
  case trip =>
    intro ntc code s hc ht hr
    have hexec := exec_stageThermalTrip hc ht hr
    obtain ⟨mode, hmode⟩ := settleRunning_eq _
    have hbraked : State.braked (legOf ntc) .fault 0 (s.tripLeg (legOf ntc)) := brakeLeg_braked ..
    refine ⟨_, hexec, ?_, ?_, ?_, ?_, kept_of_next (execStageThermalTrip_kept ..) hexec⟩ <;> rw [hmode]
    · exact hbraked
    · exact vmod_same ..
    · exact vmod_same ..
    · exact vmod_same ..
  case release =>
    intro leg s ht hr hs he hm
    obtain ⟨fb, hexec⟩ := exec_stageThermalRelease ht hr hs he hm
    exact ⟨_, hexec, vmod_same .., vmod_same .., rfl⟩
  case shutdown =>
    intro die temp s ht hm
    exact ⟨_, exec_dieThermalShutdown ht hm, rfl, rfl, rfl, rfl, ⟨rfl, rfl, rfl, rfl, rfl, rfl⟩,
      powerOff_pwm_off s, powerOff_output_low s⟩
  case start =>
    intro s hm hd
    exact ⟨_, exec_dieShutdownRelease hm hd, moduleReset_restarts .., rfl⟩
  case valve =>
    intro s hp hr hc hf h1 ho ht _ hh
    have hfailsafe : (vmod s.therm.valveI 0 (fun _ => s.failsafe 0))[0] = s.failsafe 0 := vmod_same s.therm.valveI 0 _
    exact ⟨_, exec_valveLoop_first hp hr hc hf ho (valveLoop_of_invalid h1 ht hh) rfl, vmod_same _ 0 _, hfailsafe, rfl⟩
  case fan =>
    intro f s
    refine ⟨_, exec_fanPwmPeriod, rfl, ?_, ?_, ?_⟩ <;> intro h <;> simp [State.fanPeriod, h]
  case fanFault =>
    intro f s ht hr hd hf
    exact ⟨_, exec_fanFault ht hr hd hf, vmod_same .., length_insertRecord .., rfl⟩

end Sys2Proof.Machine
end
section
/-! SUPPORT. AX_TARGET (R342): when a write is taken, and what becomes of a target while the axis is not homed and when homing ends. -/
namespace Sys2Proof.Machine

section AxisTarget
variable {i : Fin 4} {v : Int} {s : State}

theorem object_axTarget (i : Fin 4) (s : State) : s.object (0x58000004 + i.val * 65536) = some (signedScalar 4 s.axis[i.val].target) := by
  fin_cases i <;> rfl

theorem writable_axTarget (i : Fin 4) (s : State) : s.writable (0x58000004 + i.val * 65536) 0 =
    some { refuse := if s.par P.valveMode 0xFF i.val = 1 then 4 else 0, lo := s.axPar i P.posMin, hi := s.axPar i P.posMax } := by
  fin_cases i <;> rfl

/-- R330, R342: the target of an axis that its valve loop drives is refused, any other by its bounds. -/
theorem writeStatus_axTarget (i : Fin 4) (v : Int) (hm : s.inStates runtimeStates = true) : s.writeStatus (0x58000004 + i.val * 65536) 0 v =
    if s.par P.valveMode 0xFF i.val = 1 then 4 else if v < s.axPar i P.posMin ∨ s.axPar i P.posMax < v then 3 else 0 := by
  have hid : hasW1c (0x58000004 + i.val * 65536) = false := by decide +revert
  by_cases hvalve : s.par P.valveMode 0xFF i.val = 1
  · simp [State.writeStatus, object_axTarget, signedScalar, clearOnes_eq_none_of_hasW1c_false hid, writable_axTarget, hm, hvalve]
  · rw [if_neg hvalve]
    exact writeStatus_of_runtime v hid (object_axTarget i s) Nat.one_pos (writable_axTarget i s) hm (if_neg hvalve)

theorem applyWrite_axTarget (i : Fin 4) (v : Int) (s : State) : s.applyWrite (0x58000004 + i.val * 65536) 0 v = s.axisTarget i v := by
  fin_cases i <;> rfl

theorem axisTarget_held (h : s.axis[i.val].homed = false ∨ s.axis[i.val].st = .homing) :
    s.axisTarget i v = { s with axis := vmod s.axis i (fun a => { a with target := v, held := true }) } := by
  have hwaits : (!s.axis[i.val].homed || s.axis[i.val].st == .homing) = true := by simpa using h
  simp only [State.axisTarget, State.modAxis, vmod, hwaits, if_true]
end AxisTarget

/-! R341, R345: the end of homing. -/
section HomingEnds
variable {i : Fin 4} {a : Axis} {s : State}

/-- R345: where the axis stands once its latch is HOME_OFFSET. -/
def Axis.homeX (a : Axis) (offset : Int) : Int := (a.position - a.latch + offset) * axU

/-- R345: an axis that has found its home. -/
def Axis.foundHome (a : Axis) (offset : Int) : Axis := { a with x := a.homeX offset, homed := true, st := .holding }

/-- R342: the target it stands at then: the held one, taken up, or its position. -/
def Axis.endsHoming (offset : Int) (a : Axis) : Axis :=
  if a.held then ({ a.foundHome offset with held := false } : Axis).takeUp
  else { a.foundHome offset with target := (a.foundHome offset).position }

theorem homingStep_found (hs : s.axis[i.val].step = .found) (hv : s.axis[i.val].v = 0) :
    ∃ fb, s.homingStep i = { s with axis := vmod s.axis i (Axis.endsHoming (s.axPar i P.homeOffset)), fb := fb } := by
  rw [State.homingStep]
  simp only [hs, hv]
  exact ⟨_, rfl⟩

/-- R341: taking up a target changes the state of motion alone. -/
theorem takeUp_keeps (a : Axis) : a.takeUp.homed = a.homed ∧ a.takeUp.held = a.held ∧ a.takeUp.target = a.target ∧ a.takeUp.x = a.x := by
  unfold Axis.takeUp
  split
  · exact ⟨rfl, rfl, rfl, rfl⟩
  · split <;> exact ⟨rfl, rfl, rfl, rfl⟩

theorem takeUp_moves (hx : a.target * axU ≠ a.x) (hm : a.mayMove = true) : a.takeUp.st = .moving := by
  rw [Axis.takeUp, if_neg fun h => hx h.1, if_pos hm]
end HomingEnds

/-- Settles O43: the answer by `writeStatus_axTarget`, the held target by `axisTarget_held`, the end of homing by `homingStep_found`. -/
theorem axisTargets : Obligations.AxisTargets := by
  unfold Obligations.AxisTargets
  refine ⟨fun i v s => writeStatus_axTarget i v, fun i v s h => ?waits, fun i s hs hv hh => ?taken, fun i s hs hv hh => ?stays⟩
  case waits => exact ⟨_, (applyWrite_axTarget i v s).trans (axisTarget_held h), rfl, vmod_same ..⟩
  case taken =>
    obtain ⟨_, hfound⟩ := homingStep_found hs hv
    obtain ⟨hhomed, hheld, htarget, hx⟩ := takeUp_keeps { s.axis[i.val].foundHome (s.axPar i P.homeOffset) with held := false }
    rw [hfound]
    refine ⟨_, _, rfl, rfl, ?_⟩
    simp only [vmod_same, Axis.endsHoming, hh, if_true]
    exact ⟨hhomed, hheld, htarget, hx, fun hne => takeUp_moves (a := { s.axis[i.val].foundHome (s.axPar i P.homeOffset) with held := false }) hne⟩
  case stays =>
    obtain ⟨_, hfound⟩ := homingStep_found hs hv
    rw [hfound]
    refine ⟨_, rfl, ?_⟩
    simp only [vmod_same, Axis.endsHoming, hh, Bool.false_eq_true, if_false]
    exact ⟨rfl, rfl⟩

end Sys2Proof.Machine
end
section
/-! SUPPORT. Lists put into the order of a number: the elements stay, and the head is a least one. -/
namespace Sys2Proof.Machine

section Order
variable {α : Type} {key : α → Nat}

theorem insertBy_perm (key : α → Nat) (x : α) (ys : List α) : (insertBy key x ys).Perm (x :: ys) := by
  induction ys with
  | nil => rfl
  | cons y ys ih =>
    unfold insertBy
    split
    · rfl
    · exact (ih.cons y).trans (.swap x y ys)

theorem insertBy_sorted (x : α) {ys : List α} (h : ys.Pairwise (fun a b => key a ≤ key b)) : (insertBy key x ys).Pairwise (fun a b => key a ≤ key b) := by
  induction ys with
  | nil => exact List.pairwise_singleton ..
  | cons y ys ih =>
    obtain ⟨hy, hys⟩ := List.pairwise_cons.1 h
    unfold insertBy
    split
    next hlt =>
      refine List.pairwise_cons.2 ⟨fun z hz => ?_, h⟩
      rcases List.mem_cons.1 hz with rfl | hz
      · exact hlt.le
      · exact hlt.le.trans (hy z hz)
    next hle =>
      refine List.pairwise_cons.2 ⟨fun z hz => ?_, ih hys⟩
      rcases List.mem_cons.1 ((insertBy_perm key x ys).mem_iff.1 hz) with rfl | hz
      · exact Nat.not_lt.1 hle
      · exact hy z hz

theorem foldl_insertBy (xs : List α) {ys : List α} (h : ys.Pairwise (fun a b => key a ≤ key b)) :
    (xs.foldl (fun acc x => insertBy key x acc) ys).Pairwise (fun a b => key a ≤ key b) ∧
      (xs.foldl (fun acc x => insertBy key x acc) ys).Perm (xs ++ ys) := by
  induction xs generalizing ys with
  | nil => exact ⟨h, .rfl⟩
  | cons x xs ih =>
    obtain ⟨hsorted, hperm⟩ := ih (insertBy_sorted x h)
    exact ⟨hsorted, hperm.trans (((insertBy_perm key x ys).append_left xs).trans List.perm_middle)⟩

theorem mem_sortBy {x : α} {xs : List α} : x ∈ sortBy key xs ↔ x ∈ xs := by
  have hperm := (foldl_insertBy (key := key) xs .nil).2
  rw [List.append_nil] at hperm
  exact hperm.mem_iff

theorem head_sortBy {x : α} {xs : List α} (h : (sortBy key xs).head? = some x) : x ∈ xs ∧ ∀ y ∈ xs, key x ≤ key y := by
  obtain ⟨rest, hrest⟩ := List.head?_eq_some_iff.1 h
  have hsorted : (sortBy key xs).Pairwise (fun a b => key a ≤ key b) := (foldl_insertBy xs .nil).1
  have hmem : x ∈ xs := mem_sortBy (key := key).1 (by rw [hrest]; exact List.mem_cons_self ..)
  refine ⟨hmem, fun y hy => ?_⟩
  have hy' := mem_sortBy (key := key).2 hy
  rw [hrest] at hsorted hy'
  rcases List.mem_cons.1 hy' with rfl | hy'
  · exact le_rfl
  · exact (List.pairwise_cons.1 hsorted).1 y hy'
end Order

end Sys2Proof.Machine
end

section
/-! SUPPORT. The store's arbiter, its bursts, programs and erases (R357, R361 to R364, R366). -/
namespace Sys2Proof.Machine

theorem exec_dmaBurst_eq (path : Fin 3) (cond : Nat) (s : State) : exec (.dmaBurst path cond) s =
    .next ((s.burstOn path cond).1.ownEvent (s.burstOn path cond).2) := rfl
theorem exec_flashProgramComplete_eq (p : Fin 2) (pass : Bool) (s : State) : exec (.flashProgramComplete p pass) s =
    .next ((s.programDone p pass).1.ownEvent (s.programDone p pass).2) := rfl
theorem exec_flashEraseComplete_eq (p : Fin 2) (pass : Bool) (s : State) : exec (.flashEraseComplete p pass) s =
    .next ((s.eraseDone p pass).1.ownEvent (s.eraseDone p pass).2) := rfl

theorem vmod_field {α β : Type} {n : Nat} (g : α → β) {f : α → α} (h : ∀ x, g (f x) = g x) (v : Vector α n) (i j : Fin n) :
    g (vmod v i f)[j.val] = g v[j.val] := by
  by_cases hj : j = i
  · rw [hj, vmod_same, h]
  · rw [vmod_other _ _ _ _ hj]

/-! R357: the page map depends on the kind and the size of the ports alone. -/
section PageMap
variable {su : StoreUnit} {s : State}

/-- R357: the ports are of the same kind and size. -/
def StoreUnit.sameMap (su tu : StoreUnit) : Prop :=
  ∀ q : Fin 2, tu.port[q.val].kind = su.port[q.val].kind ∧ tu.port[q.val].mb = su.port[q.val].mb

theorem StoreUnit.sameMap.of_vmod {ch : Vector Channel 16} {p : Fin 2} {f : Port → Port} (hk : ∀ x, (f x).kind = x.kind) (hm : ∀ x, (f x).mb = x.mb)
    (su : StoreUnit) : su.sameMap { su with ch := ch, port := vmod su.port p f } :=
  fun _ => ⟨vmod_field Port.kind hk .., vmod_field Port.mb hm ..⟩

theorem portPages_congr (h : s.su.sameMap su) (p : Fin 2) : ({ s with su := su } : State).portPages p = s.portPages p := by
  obtain ⟨hk, hm⟩ := h p
  simp only [State.portPages, State.reserveBlocks, hk, hm]
  rfl

theorem portOf_congr (h : s.su.sameMap su) (page : Nat) : ({ s with su := su } : State).portOf page = s.portOf page := by
  simp only [State.portOf, portPages_congr h]

theorem eraseUnit_congr (h : s.su.sameMap su) (a : Nat) : ({ s with su := su } : State).eraseUnit a = s.eraseUnit a := by
  simp only [State.eraseUnit, portOf_congr h]
  cases s.portOf (a / 4096) with
  | none => rfl
  | some p => simp only [Port.erasePages, (h p).1]

/-- R366: the fault of a channel's first touch, by its own state, the page map, and which ports are DOWN. -/
theorem touchFault_congr {c : Fin 16} (h : s.su.sameMap su) (hc : su.ch[c.val] = s.su.ch[c.val])
    (hd : ∀ q : Fin 2, su.port[q.val].down = s.su.port[q.val].down) (cond : Nat) :
    ({ s with su := su } : State).touchFault c cond = s.touchFault c cond := by
  have hwrite (page : Nat) : ({ s with su := su } : State).mayWrite c page = s.mayWrite c page := rfl
  simp only [State.touchFault, hc, portOf_congr h, hwrite]
  cases s.portOf s.su.ch[c.val].page with
  | none => rfl
  | some p => simp only [hd, (h p).1]
end PageMap

/-! R362: the arbiter. -/
section Arbiter
variable {c d : Fin 16} {path last : Nat} {may : Fin 16 → Bool} {s : State}

theorem mem_waiting : d ∈ allChannels.filter (fun c => s.su.ch[c.val].wants && s.pathOf c == path && may c) ↔
    s.su.ch[d.val].wants = true ∧ s.pathOf d = path ∧ may d = true := by
  simp [allChannels, List.mem_finRange, and_assoc]

theorem grant_spec (h : s.grant path last may = some c) : s.su.ch[c.val].wants = true ∧ s.pathOf c = path ∧ may c = true ∧
    ∀ d : Fin 16, s.su.ch[d.val].wants = true → s.pathOf d = path → may d = true →
      chPriority c.val * 16 + turn last c.val ≤ chPriority d.val * 16 + turn last d.val := by
  obtain ⟨hmem, hleast⟩ := head_sortBy h
  obtain ⟨hwants, hpath, hmay⟩ := mem_waiting.1 hmem
  exact ⟨hwants, hpath, hmay, fun d hw hp hm => hleast d (mem_waiting.2 ⟨hw, hp, hm⟩)⟩

/-- R362: the channels that wait are marked; the granted one is not. -/
theorem markWaiting_eq (path : Nat) (c : Fin 16) (s : State) :
    ∃ ch : Vector Channel 16, s.markWaiting path c = { s with su := { s.su with ch := ch } } ∧ ch[c.val] = s.su.ch[c.val] := by
  unfold State.markWaiting
  refine List.foldlRecOn (motive := fun t => ∃ ch : Vector Channel 16, t = { s with su := { s.su with ch := ch } } ∧ ch[c.val] = s.su.ch[c.val]) allChannels _
    ⟨s.su.ch, rfl, rfl⟩ fun t ht d _ => ?_
  obtain ⟨ch, rfl, hch⟩ := ht
  split
  next hd =>
    have hne : c ≠ d := by
      rintro rfl
      simp at hd
    exact ⟨_, rfl, (vmod_other _ _ _ _ hne).trans hch⟩
  next => exact ⟨ch, rfl, hch⟩
end Arbiter

/-! What a channel's owner does at the end of an action. -/
section Owner
variable {c : Fin 16} {s : State}

theorem ownEvent_done_of_unowned (h : c.val ∉ ownedChannels) : s.ownEvent (.done c) = s := by
  simp only [ownedChannels, List.mem_cons, List.not_mem_nil, or_false, not_or] at h
  obtain ⟨h2, h8, h12, h14, h15⟩ := h
  dsimp only [State.ownEvent]
  split
  case h_6 => rfl
  all_goals contradiction

theorem ownEvent_done_of_whole {whole : Prop} [Decidable whole] (h : whole → c.val ∉ ownedChannels) :
    s.ownEvent (if whole then .done c else .quiet) = s := by
  split
  next hw => exact ownEvent_done_of_unowned (h hw)
  next => rfl

theorem ownEvent_halted_of_unowned (h : c.val ∉ ownedChannels) : s.ownEvent (.halted c) = s := by
  simp only [ownedChannels, List.mem_cons, List.not_mem_nil, or_false, not_or] at h
  obtain ⟨h2, h8, h12, h14, h15⟩ := h
  dsimp only [State.ownEvent]
  split
  case h_6 => rfl
  all_goals contradiction
end Owner

/-! R362, R367: a granted burst. -/
section Burst
variable {p : Fin 2} {c : Fin 16} {cond fault : Nat} {s t : State}

/-- R367: a channel halted with a fault. -/
def Channel.halts (fault page : Nat) (x : Channel) : Channel :=
  { x with st := .halted, fault := fault, faultPage := page, buffer := [], issued := false, faults := incSat x.faults }

theorem haltCh_eq (c : Fin 16) (fault : Nat) (s : State) : ∃ fb page, s.haltCh c fault =
    { s with su := { s.su with ch := vmod s.su.ch c (Channel.halts fault page) }, fb := fb } := by
  unfold State.haltCh
  dsimp only
  split
  · exact ⟨_, _, rfl⟩
  · exact ⟨_, _, rfl⟩

/-- R362: the bytes of a read's burst. -/
def Channel.readLen (x : Channel) : Nat := burstLen (x.addr + x.progress) (x.len - x.progress)

theorem vmod_congr {α : Type} {n : Nat} {v : Vector α n} {i : Fin n} {f g : α → α} (h : f v[i.val] = g v[i.val]) : vmod v i f = vmod v i g :=
  congrArg (v.set i.val · i.isLt) h

theorem Channel.readLen_le (x : Channel) : x.readLen ≤ 64 := (Nat.min_le_right ..).trans (Nat.min_le_left ..)

/-- R362: a channel after a read's burst. -/
def Channel.reads (m : List Host.Cell) (x : Channel) : Channel :=
  { x with
    st := if x.len ≤ x.progress + x.readLen then .idle else .active, progress := x.progress + x.readLen
    data := x.data ++ Memory.readBytes m (x.addr + x.progress) x.readLen }

theorem burst_of_fault (h : s.touchFault c cond = fault) (hf : fault ≠ 0) : s.burst c cond = (s.haltCh c fault, .halted c) := by
  rw [State.burst, h]
  exact if_pos hf

theorem burst_read (h : s.touchFault c cond = 0) (ho : s.su.ch[c.val].op = .read) : s.burst c cond = (s.modCh c (Channel.reads s.store),
    if s.su.ch[c.val].len ≤ s.su.ch[c.val].progress + s.su.ch[c.val].readLen then .done c else .quiet) := by
  rw [State.burst, h]
  simp only [ho, ne_eq, not_true_eq_false, if_false, decide_eq_true_eq]
  exact Prod.ext (congrArg (fun ch => ({ s with su := { s.su with ch := ch } } : State)) (vmod_congr rfl)) rfl

/-- R362, R363: the bytes of a write's burst, which ends with the program unit. -/
def State.writeLen (s : State) (c : Fin 16) : Nat :=
  let x := s.su.ch[c.val]
  let a := x.addr + (x.progress + x.buffer.length)
  let unit := s.su.port[((s.portOf x.page).getD 0).val].unit
  min (burstLen a (x.len - (x.progress + x.buffer.length))) (unit - a % unit)

/-- R363: the burst of a write ends the program unit, or the descriptor's data. -/
def State.writeFull (s : State) (c : Fin 16) : Bool :=
  let x := s.su.ch[c.val]
  let n := x.progress + x.buffer.length
  decide ((x.addr + n + s.writeLen c) % s.su.port[((s.portOf x.page).getD 0).val].unit = 0) || decide (x.len ≤ n + s.writeLen c)

theorem writeLen_le (s : State) (c : Fin 16) : s.writeLen c ≤ 64 :=
  (Nat.min_le_left ..).trans ((Nat.min_le_right ..).trans (Nat.min_le_left ..))

/-- R363: a channel whose program buffer takes its next bytes, and whose program is issued where the buffer is full. -/
def Channel.fills (n : Nat) (full : Bool) (x : Channel) : Channel :=
  { x with st := .active, buffer := x.buffer ++ slice (x.progress + x.buffer.length) n x.data, issued := full }

/-- R363: a write fills the program buffer, and issues the program of a whole unit. -/
theorem burst_write (h : s.touchFault c cond = 0) (ho : s.su.ch[c.val].op = .write) : ∃ su : StoreUnit,
    s.burst c cond = ({ s with su := su }, .quiet) ∧ su.ch = vmod s.su.ch c (Channel.fills (s.writeLen c) (s.writeFull c)) := by
  rw [State.burst, h]
  simp only [ho, ne_eq, not_true_eq_false, if_false]
  split
  · refine ⟨_, rfl, ?_⟩
    dsimp only [State.modPort, State.modCh]
    exact vmod_congr rfl
  · refine ⟨_, rfl, ?_⟩
    dsimp only [State.modPort, State.modCh]
    exact vmod_congr rfl

/-- R363: a channel whose erase is issued. -/
def Channel.erases (x : Channel) : Channel := { x with st := .active, issued := true }

/-- R363: a port that erases for a channel. -/
def Port.erases (c : Fin 16) (q : Port) : Port := { q with busy := some c.val, suspends := 0 }

theorem burst_erase (h : s.touchFault c cond = 0) (ho : s.su.ch[c.val].op = .erase) : ∃ port : Fin 2, s.burst c cond =
    ((s.modCh c Channel.erases).modPort port (Port.erases c), .quiet) := by
  rw [State.burst, h]
  simp only [ho, ne_eq, not_true_eq_false, if_false]
  exact ⟨_, rfl⟩

/-- R362, R363: a port that grants a channel. -/
def Port.grants (c : Fin 16) (q : Port) : Port := { q with last := c.val, suspends := if q.busy.isSome then q.suspends + 1 else q.suspends }

theorem port_of_path (p : Fin 2) : (if p.val = 0 then (0 : Fin 2) else 1) = p := by decide +revert

/-- R362: a port that is at rest and grants a channel gives it the burst. -/
theorem burstOn_granted (hr : s.su.port[p.val].recovering = false) (hb : s.su.port[p.val].busy = none)
    (hg : s.grant p.val s.su.port[p.val].last (fun d => s.maySuspend p d) = some c) :
    ∃ su : StoreUnit, s.burstOn ⟨p.val, by omega⟩ cond = ({ s with su := su } : State).burst c cond ∧ su.ch[c.val] = s.su.ch[c.val] ∧
      ({ s with su := su } : State).touchFault c cond = s.touchFault c cond := by
  have hpath : ¬ p.val = 2 := by omega
  obtain ⟨ch, hmark, hch⟩ := markWaiting_eq p.val c s
  rw [State.burstOn]
  dsimp only
  rw [if_neg hpath]
  simp only [port_of_path, hr, hg, hmark]
  refine ⟨{ s.su with ch := ch, port := vmod s.su.port p (Port.grants c) }, ?_, hch, touchFault_congr ?_ hch ?_ cond⟩
  · rw [if_neg Bool.false_ne_true, if_neg (by rw [hb]; exact Bool.false_ne_true)]
    rfl
  · exact StoreUnit.sameMap.of_vmod (f := Port.grants c) (fun _ => rfl) (fun _ => rfl) s.su
  · exact fun _ => vmod_field (f := Port.grants c) Port.down (fun _ => rfl) ..

theorem burstOn_idle (h : s.su.port[p.val].recovering = true ∨ s.grant p.val s.su.port[p.val].last (fun d => s.maySuspend p d) = none) :
    s.burstOn ⟨p.val, by omega⟩ cond = (s, .quiet) := by
  have hpath : ¬ p.val = 2 := by omega
  rw [State.burstOn]
  dsimp only
  rw [if_neg hpath]
  simp only [port_of_path]
  rcases h with hr | hg
  · rw [if_pos hr]
  · simp only [hg, ite_self]
end Burst

/-! R362, R366: a port at rest gives its granted channel one burst. -/
section Granted
variable {p : Fin 2} {c : Fin 16} {cond fault : Nat} {s : State} (hr : s.su.port[p.val].recovering = false) (hb : s.su.port[p.val].busy = none)
  (hg : s.grant p.val s.su.port[p.val].last (fun d => s.maySuspend p d) = some c)
include hr hb hg

theorem exec_dmaBurst_read (ht : s.touchFault c cond = 0) (ho : s.su.ch[c.val].op = .read)
    (howned : s.su.ch[c.val].len ≤ s.su.ch[c.val].progress + s.su.ch[c.val].readLen → c.val ∉ ownedChannels) :
    ∃ su : StoreUnit, exec (.dmaBurst ⟨p.val, by omega⟩ cond) s = .next { s with su := su } ∧ su.ch[c.val] = s.su.ch[c.val].reads s.store := by
  obtain ⟨su, hburst, hch, htouch⟩ := burstOn_granted (cond := cond) hr hb hg
  rw [burst_read (htouch.trans ht) ((congrArg Channel.op hch).trans ho)] at hburst
  refine ⟨{ su with ch := vmod su.ch c (Channel.reads s.store) }, ?_, (vmod_same su.ch c (Channel.reads s.store)).trans (congrArg _ hch)⟩
  rw [exec_dmaBurst_eq, hburst]
  dsimp only
  rw [ownEvent_done_of_whole (by rw [hch]; exact howned)]
  rfl

theorem exec_dmaBurst_write (ht : s.touchFault c cond = 0) (ho : s.su.ch[c.val].op = .write) :
    ∃ (su : StoreUnit) (n : Nat) (full : Bool), exec (.dmaBurst ⟨p.val, by omega⟩ cond) s = .next { s with su := su } ∧ n ≤ 64 ∧
      su.ch[c.val] = s.su.ch[c.val].fills n full := by
  obtain ⟨su, hburst, hch, htouch⟩ := burstOn_granted (cond := cond) hr hb hg
  obtain ⟨su', hwrite, hch'⟩ := burst_write (htouch.trans ht) ((congrArg Channel.op hch).trans ho)
  refine ⟨su', State.writeLen { s with su := su } c, State.writeFull { s with su := su } c, ?_, writeLen_le _ c, ?_⟩
  · rw [exec_dmaBurst_eq, hburst, hwrite]
    rfl
  · rw [hch', vmod_same, hch]

theorem exec_dmaBurst_erase (ht : s.touchFault c cond = 0) (ho : s.su.ch[c.val].op = .erase) :
    ∃ (su : StoreUnit) (port : Fin 2), exec (.dmaBurst ⟨p.val, by omega⟩ cond) s = .next { s with su := su } ∧
      su.ch[c.val] = { s.su.ch[c.val] with st := .active, issued := true } ∧ su.port[port.val].busy = some c.val := by
  obtain ⟨su, hburst, hch, htouch⟩ := burstOn_granted (cond := cond) hr hb hg
  obtain ⟨port, herase⟩ := burst_erase (htouch.trans ht) ((congrArg Channel.op hch).trans ho)
  refine ⟨{ su with ch := vmod su.ch c Channel.erases, port := vmod su.port port (Port.erases c) }, port, ?_,
    (vmod_same su.ch c Channel.erases).trans (congrArg _ hch), congrArg Port.busy (vmod_same su.port port (Port.erases c))⟩
  rw [exec_dmaBurst_eq, hburst, herase]
  rfl

theorem exec_dmaBurst_fault (ht : s.touchFault c cond = fault) (hf : fault ≠ 0) (howned : c.val ∉ ownedChannels) :
    ∃ (su : StoreUnit) (fb : FieldBook) (page : Nat), exec (.dmaBurst ⟨p.val, by omega⟩ cond) s = .next { s with su := su, fb := fb } ∧
      su.ch[c.val] = s.su.ch[c.val].halts fault page := by
  obtain ⟨su, hburst, hch, htouch⟩ := burstOn_granted (cond := cond) hr hb hg
  obtain ⟨fb, page, hhalt⟩ := haltCh_eq c fault { s with su := su }
  refine ⟨{ su with ch := vmod su.ch c (Channel.halts fault page) }, fb, page, ?_, (vmod_same su.ch c (Channel.halts fault page)).trans (congrArg _ hch)⟩
  rw [exec_dmaBurst_eq, hburst, burst_of_fault (htouch.trans ht) hf, ownEvent_halted_of_unowned howned, hhalt]
end Granted

/-! R363, R364: the end of a program and of an erase. -/
section Completion
variable {p : Fin 2} {c : Fin 16} {s : State}

/-- R363: a port whose program or erase has ended. -/
def Port.freed (q : Port) : Port := { q with busy := none }

/-- R364: a channel whose program has passed. -/
def Channel.programmed (x : Channel) : Channel :=
  { x with
    progress := x.progress + x.buffer.length, buffer := [], issued := false, retried := false
    st := if x.len ≤ x.progress + x.buffer.length then .idle else if x.st = .draining then .disabled else .waiting }

/-- R364: a channel whose erase of `n` bytes has passed. -/
def Channel.erased (n : Nat) (x : Channel) : Channel := { x with st := .idle, progress := n, issued := false, retried := false }

theorem programDone_pass (hb : s.su.port[p.val].busy = some c.val) (ho : s.su.ch[c.val].op = .write) : s.programDone p true =
    ({ s with
      store := Memory.program s.store (s.su.ch[c.val].addr + s.su.ch[c.val].progress) s.su.ch[c.val].buffer
      su := { s.su with port := vmod s.su.port p Port.freed, ch := vmod s.su.ch c Channel.programmed } },
      if s.su.ch[c.val].len ≤ s.su.ch[c.val].progress + s.su.ch[c.val].buffer.length then .done c else .quiet) := by
  rw [State.programDone, hb]
  simp only [Nat.mod_eq_of_lt c.isLt, Fin.eta, ho, ne_eq, not_true_eq_false, if_false, Bool.not_true, decide_eq_true_eq, Bool.false_eq_true]
  dsimp only [State.modPort, State.modCh]
  exact Prod.ext (congrArg (fun ch => ({ s with store := _, su := { s.su with port := _, ch := ch } } : State)) (vmod_congr rfl)) rfl

theorem programDone_fail (hb : s.su.port[p.val].busy = some c.val) (ho : s.su.ch[c.val].op = .write) : s.programDone p false =
    ((s.modPort p Port.freed).haltCh c 4, .halted c) := by
  rw [State.programDone, hb]
  simp only [Nat.mod_eq_of_lt c.isLt, Fin.eta, ho, ne_eq, not_true_eq_false, if_false, Bool.not_false, if_true]
  rfl

theorem programDone_of_free (hb : s.su.port[p.val].busy = none) (pass : Bool) : s.programDone p pass = (s, .quiet) := by rw [State.programDone, hb]

theorem eraseDone_of_free (hb : s.su.port[p.val].busy = none) (pass : Bool) : s.eraseDone p pass = (s, .quiet) := by rw [State.eraseDone, hb]

theorem eraseDone_pass (hb : s.su.port[p.val].busy = some c.val) (ho : s.su.ch[c.val].op = .erase) : s.eraseDone p true =
    ({ s with
      store := Memory.erase s.store (s.eraseUnit s.su.ch[c.val].addr).1 (s.eraseUnit s.su.ch[c.val].addr).2
      su := { s.su with port := vmod s.su.port p Port.freed, ch := vmod s.su.ch c (Channel.erased (s.eraseUnit s.su.ch[c.val].addr).2) } }, .done c) := by
  have hunit := eraseUnit_congr (StoreUnit.sameMap.of_vmod (ch := s.su.ch) (p := p) (f := Port.freed) (fun _ => rfl) (fun _ => rfl) s.su) s.su.ch[c.val].addr
  rw [State.eraseDone, hb, ← hunit]
  simp only [Nat.mod_eq_of_lt c.isLt, Fin.eta, ho, ne_eq, not_true_eq_false, if_false, Bool.not_true, Bool.false_eq_true]
  rfl

theorem eraseDone_fail (hb : s.su.port[p.val].busy = some c.val) (ho : s.su.ch[c.val].op = .erase) : s.eraseDone p false =
    ((s.modPort p Port.freed).haltCh c 5, .halted c) := by
  rw [State.eraseDone, hb]
  simp only [Nat.mod_eq_of_lt c.isLt, Fin.eta, ho, ne_eq, not_true_eq_false, if_false, Bool.not_false, if_true]
  rfl
end Completion

end Sys2Proof.Machine
end

section
/-! SETTLES O44. -/
namespace Sys2Proof.Machine
open Sys2Proof

/-- Settles O44: what the arbiter grants is the head of a list in order of priority and turn; the rows are the burst, the
program and the erase of that channel. -/
theorem storeBursts : Obligations.StoreBursts := by
  unfold Obligations.StoreBursts
  refine ⟨?grant, ?read, ?write, ?erase, ?fault, ?idle, ?pass, ?fail, ?free, ?erased, ?notErased⟩
  case grant => exact fun _ _ _ _ _ => grant_spec
  case read =>
    intro _ _ _ _ hr hb hg ht ho howned
    obtain ⟨su, hexec, hch⟩ := exec_dmaBurst_read hr hb hg ht ho howned
    exact ⟨_, _, hexec, rfl, Channel.readLen_le _, hch, rfl⟩
  case write =>
    intro _ c _ s hr hb hg ht ho
    obtain ⟨su, n, full, hexec, hn, hch⟩ := exec_dmaBurst_write hr hb hg ht ho
    exact ⟨_, hexec, (congrArg Channel.progress hch :), congrArg Channel.st hch, ⟨n, hn, congrArg Channel.buffer hch⟩, rfl⟩
  case erase =>
    intro _ _ _ _ hr hb hg ht ho
    obtain ⟨su, port, hexec, hch, hbusy⟩ := exec_dmaBurst_erase hr hb hg ht ho
    exact ⟨_, hexec, hch, ⟨port, hbusy⟩, rfl⟩
  case fault =>
    intro _ _ _ _ _ hr hb hg ht hf howned
    obtain ⟨su, fb, page, hexec, hch⟩ := exec_dmaBurst_fault hr hb hg ht hf howned
    exact ⟨_, hexec, hch.trans (congrArg (Channel.halts _ · _) (congrArg Channel.faultPage hch).symm), rfl⟩
  case idle => exact fun _ _ _ h => by rw [exec_dmaBurst_eq, burstOn_idle h]; rfl
  case pass =>
    intro p c s hb ho howned
    rw [exec_flashProgramComplete_eq, programDone_pass hb ho, ownEvent_done_of_whole howned]
    refine ⟨_, rfl, rfl, ?_, ?_, ?_, ?_, rfl⟩
    · exact congrArg Port.busy (vmod_same s.su.port p Port.freed)
    · exact congrArg Channel.progress (vmod_same s.su.ch c Channel.programmed)
    · exact congrArg Channel.buffer (vmod_same s.su.ch c Channel.programmed)
    · exact congrArg Channel.issued (vmod_same s.su.ch c Channel.programmed)
  case fail =>
    intro p c s hb ho howned
    rw [exec_flashProgramComplete_eq, programDone_fail hb ho, ownEvent_halted_of_unowned howned]
    obtain ⟨fb, page, hhalt⟩ := haltCh_eq c 4 (s.modPort p Port.freed)
    have hch := vmod_same s.su.ch c (Channel.halts 4 page)
    rw [hhalt]
    exact ⟨_, rfl, congrArg Channel.st hch, congrArg Channel.fault hch, (congrArg Channel.progress hch :), rfl⟩
  case free =>
    intro p pass s hb
    rw [exec_flashProgramComplete_eq, exec_flashEraseComplete_eq, programDone_of_free hb, eraseDone_of_free hb]
    exact ⟨rfl, rfl⟩
  case erased =>
    intro p c s hb ho howned
    rw [exec_flashEraseComplete_eq, eraseDone_pass hb ho, ownEvent_done_of_unowned howned]
    exact ⟨_, rfl, rfl, congrArg Port.busy (vmod_same s.su.port p Port.freed),
      congrArg Channel.st (vmod_same s.su.ch c (Channel.erased (s.eraseUnit s.su.ch[c.val].addr).2)), rfl⟩
  case notErased =>
    intro p c s hb ho howned
    rw [exec_flashEraseComplete_eq, eraseDone_fail hb ho, ownEvent_halted_of_unowned howned]
    obtain ⟨fb, page, hhalt⟩ := haltCh_eq c 5 (s.modPort p Port.freed)
    have hch := vmod_same s.su.ch c (Channel.halts 5 page)
    rw [hhalt]
    exact ⟨_, rfl, congrArg Channel.st hch, congrArg Channel.fault hch, rfl⟩

end Sys2Proof.Machine
end
section
/-! SUPPORT. Faults of the store: resuming, abandoning, port timeouts and recovery (R356, R366, R368 to R370, R374). -/
namespace Sys2Proof.Machine

theorem exec_dmaResume_eq (c : Fin 16) (unit : Nat) (s : State) : exec (.dmaResume c unit) s = .next ((s.resumeCh c unit).1.ownEvent (s.resumeCh c unit).2) := rfl
theorem exec_dmaAbandon_eq (c : Fin 16) (s : State) : exec (.dmaAbandon c) s = .next (s.abandonCh c) := rfl
theorem exec_portTimeout_eq (p : Fin 2) (s : State) : exec (.portTimeout p) s = execPortTimeout p s := rfl
theorem exec_portRecovery_eq (p : Fin 2) (ok : Bool) (s : State) : exec (.portRecovery p ok) s = .next (s.recoverPort p ok).bookPort := rfl
theorem exec_windowHaltTimeout_eq (w : Fin 2) (s : State) : exec (.windowHaltTimeout w) s =
    .next (if s.su.ch[(winCh w).val].st = .halted then s.windowAbandon w else s) := rfl

/-! R368: a halted channel is resumed. -/
section Resume
variable {c : Fin 16} {p : Fin 2} {unit : Nat} {s t : State}

/-- R368: a channel that repeats the unit at PROGRESS. -/
def Channel.again (x : Channel) : Channel := { x with st := .waiting, fault := 0, retried := true }

/-- R356: the retired block's port, as `retireBlock` changes it. -/
def Port.retires (block spare : Nat) (q : Port) : Port := { q with retired := q.retired + 1, hasMap := true, remap := insertKey block spare q.remap }

theorem exec_dmaResume_of_quiet (h : s.resumeCh c unit = (t, .quiet)) : exec (.dmaResume c unit) s = .next t := by
  rw [exec_dmaResume_eq, h]
  rfl

theorem resumeCh_of_running (h : s.su.ch[c.val].st ≠ .halted) : s.resumeCh c unit = (s, .quiet) := by
  rw [State.resumeCh]
  exact if_pos h

theorem resumeCh_read (h : s.su.ch[c.val].st = .halted) (hf : s.su.ch[c.val].fault = 3) : s.resumeCh c unit = (s.modCh c Channel.again, .quiet) := by
  rw [State.resumeCh]
  simp only [h, hf, ne_eq, not_true_eq_false, if_false]
  rfl

theorem resumeCh_nor (h : s.su.ch[c.val].st = .halted) (hf : s.su.ch[c.val].fault = 4 ∨ s.su.ch[c.val].fault = 5)
    (hp : s.portOf s.su.ch[c.val].faultPage = some p) (hk : s.su.port[p.val].kind = 1) : s.resumeCh c unit = (s.modCh c Channel.again, .quiet) := by
  have hkind : ¬ s.su.port[p.val].kind = 2 := by omega
  rw [State.resumeCh]
  rcases hf with hf | hf
  all_goals
    simp only [h, hf, hp, Option.getD_some, hkind, ne_eq, not_true_eq_false, if_false]
    rfl

theorem resumeCh_nand (h : s.su.ch[c.val].st = .halted) (hf : s.su.ch[c.val].fault = 4 ∨ s.su.ch[c.val].fault = 5)
    (hp : s.portOf s.su.ch[c.val].faultPage = some p) (hk : s.su.port[p.val].kind = 2) : s.resumeCh c unit =
      (if (s.retireBlock p s.su.ch[c.val].faultPage).2 then (s.retireBlock p s.su.ch[c.val].faultPage).1.modCh c Channel.again
        else (s.retireBlock p s.su.ch[c.val].faultPage).1, .quiet) := by
  rw [State.resumeCh]
  rcases hf with hf | hf
  all_goals
    simp only [h, hf, hp, Option.getD_some, hk, ne_eq, not_true_eq_false, if_false, if_true]
    split
    · rfl
    · rfl

theorem retireBlock_reserve {page : Nat} (h : s.su.port[p.val].retired + 2 < s.reserveBlocks s.su.port[p.val]) :
    ∃ block spare, s.retireBlock p page = (s.modPort p (Port.retires block spare), true) := by
  rw [State.retireBlock]
  dsimp only
  rw [if_pos h]
  exact ⟨_, _, Prod.ext (congrArg (fun port => ({ s with su := { s.su with port := port } } : State)) (vmod_congr rfl)) rfl⟩

theorem retireBlock_empty {page : Nat} (h : s.reserveBlocks s.su.port[p.val] ≤ s.su.port[p.val].retired + 2) :
    s.retireBlock p page = ({ s with su := { s.su with reserveEmpty := true } }, false) := by
  rw [State.retireBlock]
  dsimp only
  rw [if_neg (Nat.not_lt.2 h)]
  rfl

/-- R368: a channel whose interrupted unit reads back as programmed goes on behind it. -/
def Channel.skips (n : Nat) (x : Channel) : Channel := { x.again with progress := x.progress + n, st := .waiting }

theorem resumeCh_programmed (h : s.su.ch[c.val].st = .halted) (hf : s.su.ch[c.val].fault = 6) (hp : s.portOf s.su.ch[c.val].faultPage = some p)
    (hu : s.su.port[p.val].up = true) (ho : s.su.ch[c.val].op = .write) (ha : s.su.ch[c.val].addr % s.su.port[p.val].unit = 0)
    (h0 : s.su.ch[c.val].progress = 0) (hlen : s.su.port[p.val].unit < s.su.ch[c.val].len) : s.resumeCh c 1 =
      ({ s with
        store := Memory.program s.store s.su.ch[c.val].addr (slice 0 s.su.port[p.val].unit s.su.ch[c.val].data)
        su := { s.su with ch := vmod s.su.ch c (Channel.skips s.su.port[p.val].unit) } }, .quiet) := by
  have hn : min s.su.ch[c.val].len s.su.port[p.val].unit = s.su.port[p.val].unit := by omega
  have hwhole : ¬ s.su.ch[c.val].len ≤ s.su.port[p.val].unit := by omega
  rw [State.resumeCh]
  simp only [h, hf, hp, hu, ho, ha, h0, Option.getD_some, ne_eq, not_true_eq_false, if_false, if_true, Bool.not_true, Bool.false_eq_true,
    Nat.add_zero, Nat.sub_zero, hn, Nat.zero_add, hwhole, decide_false]
  rfl

theorem resumeCh_refused (h : s.su.ch[c.val].fault = 1 ∨ s.su.ch[c.val].fault = 2 ∨ s.su.ch[c.val].fault = 7) : s.resumeCh c unit = (s, .quiet) := by
  rw [State.resumeCh]
  rcases h with h | h | h
  all_goals
    simp only [h, ite_self]
end Resume

/-! R369, R374: a halted channel is abandoned, by its owner or by its window's timeout. -/
section Abandon
variable {c : Fin 16} {w : Fin 2} {s : State}

/-- R369: a channel whose descriptor is abandoned. -/
def Channel.abandoned (x : Channel) : Channel := { x with st := .idle, buffer := [], issued := false, len := 0, data := [] }

/-- R369, R374: a window whose partial unit is discarded. -/
def HostWin.discarded (x : HostWin) : HostWin := { x with held := [], next := 0, reply := none }

theorem abandonCh_of_halted (h : s.su.ch[c.val].st = .halted) : s.abandonCh c = s.modCh c Channel.abandoned := by
  rw [State.abandonCh, if_pos h]
  rfl

theorem abandonCh_of_running (h : s.su.ch[c.val].st ≠ .halted) : s.abandonCh c = s := if_neg h

theorem windowAbandon_of_halted (h : s.su.ch[(winCh w).val].st = .halted) :
    s.windowAbandon w = (s.modCh (winCh w) Channel.abandoned).modWin w HostWin.discarded := by
  rw [State.windowAbandon, abandonCh_of_halted h]
  rfl
end Abandon

/-! R366, R370: a port's timeout and its recovery. -/
section Ports
variable {p : Fin 2} {s : State}

/-- R366: channels halted one after the other: those of the list are HALTED with the fault, the others stay. -/
theorem foldl_haltCh (fault : Nat) (cs : List (Fin 16)) (s : State) : ∃ (ch : Vector Channel 16) (fb : FieldBook),
    cs.foldl (fun t c => t.haltCh c fault) s = { s with su := { s.su with ch := ch }, fb := fb } ∧
      (∀ c ∈ cs, ch[c.val].st = .halted ∧ ch[c.val].fault = fault) ∧ ∀ c ∉ cs, ch[c.val] = s.su.ch[c.val] := by
  induction cs generalizing s with
  | nil => exact ⟨_, _, rfl, fun _ h => absurd h List.not_mem_nil, fun _ _ => rfl⟩
  | cons d ds ih =>
    obtain ⟨fb, page, hhalt⟩ := haltCh_eq d fault s
    obtain ⟨ch, fb', hfold, hin, hout⟩ := ih (s.haltCh d fault)
    rw [hhalt] at hfold hout
    refine ⟨ch, fb', by rw [List.foldl_cons, hhalt, hfold], fun c hc => ?_, fun c hc => ?_⟩
    · by_cases hds : c ∈ ds
      · exact hin c hds
      · obtain rfl := (List.mem_cons.1 hc).resolve_right hds
        have hch := (hout c hds).trans (vmod_same s.su.ch c (Channel.halts fault page))
        exact ⟨congrArg Channel.st hch, congrArg Channel.fault hch⟩
    · obtain ⟨hne, hds⟩ := not_or.1 (mt List.mem_cons.2 hc)
      exact (hout c hds).trans (vmod_other _ _ _ _ hne)

theorem foldl_ownEvent_of_unowned {cs : List (Fin 16)} (h : ∀ c ∈ cs, c.val ∉ ownedChannels) (s : State) :
    (cs.map ChEvent.halted).foldl (fun u e => u.ownEvent e) s = s := by
  induction cs with
  | nil => rfl
  | cons c cs ih =>
    rw [List.map_cons, List.foldl_cons, ownEvent_halted_of_unowned (h c (List.mem_cons_self ..))]
    exact ih fun d hd => h d (List.mem_cons_of_mem _ hd)

/-- R370: a port that timed out, in its JEDEC reset. -/
def Port.timesOut (q : Port) : Port :=
  { q with up := false, busy := none, recovering := !q.down, resets := if q.down then q.resets else incSat q.resets }

theorem exec_portTimeout (hk : s.su.port[p.val].kind ≠ 0) (howned : ∀ c ∈ s.onPort p, c.val ∉ ownedChannels) :
    ∃ (ch : Vector Channel 16) (fb : FieldBook), exec (.portTimeout p) s =
        .next { s with su := { s.su with ch := ch, port := vmod s.su.port p Port.timesOut }, fb := fb } ∧
      (∀ c ∈ s.onPort p, ch[c.val].st = .halted ∧ ch[c.val].fault = 6) ∧ ∀ c ∉ s.onPort p, ch[c.val] = s.su.ch[c.val] := by
  obtain ⟨ch, fb, hfold, hin, hout⟩ := foldl_haltCh 6 (s.onPort p) s
  refine ⟨ch, fb, ?_, hin, hout⟩
  rw [exec_portTimeout_eq, execPortTimeout, if_neg hk, State.timeoutPort]
  dsimp only
  rw [foldl_ownEvent_of_unowned howned, hfold]
  rfl

theorem bookPort_of_up (h : ∀ q : Fin 2, s.su.port[q.val].down = false) : s.bookPort = s := by
  rw [State.bookPort]
  split
  · rw [if_neg (by rw [h]; exact Bool.false_ne_true)]
  · rfl

theorem bookPort_eq (s : State) : ∃ fb : FieldBook, s.bookPort = { s with fb := fb } := by
  rw [State.bookPort]
  split
  · split
    · exact ⟨_, rfl⟩
    · exact ⟨_, rfl⟩
  · exact ⟨_, rfl⟩

/-- R370: a port whose reset sequence did not answer, for the first or second time. -/
def Port.fails (at' : List Nat) (q : Port) : Port := { q with failAt := at', resets := incSat q.resets }

/-- R370: a port whose third reset sequence within 10 s did not answer. -/
def Port.goesDown (at' : List Nat) (q : Port) : Port := { q with down := true, recovering := false, failAt := at' }

/-- R370: a port that answered its JEDEC ID. -/
def Port.comesUp (q : Port) : Port := { q with up := true, recovering := false }

theorem recoverPort_up (h : s.su.port[p.val].recovering = true) : s.recoverPort p true = s.modPort p Port.comesUp := by
  rw [State.recoverPort]
  simp only [h, Bool.not_true, Bool.false_eq_true, if_false, if_true]
  rfl

theorem recoverPort_first (h : s.su.port[p.val].recovering = true) (hfail : s.su.port[p.val].failAt = []) :
    s.recoverPort p false = s.modPort p (Port.fails [s.time.meridian]) := by
  have hlt : s.time.meridian < s.time.meridian + 10 * ticksPerSecond := by unfold ticksPerSecond; omega
  rw [State.recoverPort]
  simp only [h, hfail, Bool.not_true, Bool.false_eq_true, if_false, List.filter_cons, List.filter_nil, decide_eq_true hlt, if_true, List.length_singleton]
  rfl

theorem recoverPort_third {a b : Nat} (h : s.su.port[p.val].recovering = true) (hfail : s.su.port[p.val].failAt = [a, b])
    (ha : s.time.meridian < a + 10 * ticksPerSecond) (hb : s.time.meridian < b + 10 * ticksPerSecond) :
    s.recoverPort p false = s.modPort p (Port.goesDown [s.time.meridian, a, b]) := by
  have hlt : s.time.meridian < s.time.meridian + 10 * ticksPerSecond := by unfold ticksPerSecond; omega
  rw [State.recoverPort]
  simp only [h, hfail, Bool.not_true, Bool.false_eq_true, if_false, List.filter_cons, List.filter_nil, decide_eq_true hlt, decide_eq_true ha,
    decide_eq_true hb, if_true]
  rfl

theorem modPort_down {f : Port → Port} (hf : ∀ q, (f q).down = q.down) (h : ∀ q : Fin 2, s.su.port[q.val].down = false) (q : Fin 2) :
    (s.modPort p f).su.port[q.val].down = false := (vmod_field Port.down hf s.su.port p q).trans (h q)
end Ports

end Sys2Proof.Machine
end

section
/-! SETTLES O45. -/
namespace Sys2Proof.Machine
open Sys2Proof

/-- Settles O45, by the fault that halted the channel and the kind of its port. -/
theorem storeFaults : Obligations.StoreFaults := by
  unfold Obligations.StoreFaults
  refine ⟨?running, ?read, ?nor, ?nand, ?empty, ?programmed, ?refused, ?abandon, ?keep, ?timeout, ?absent, ?up, ?first, ?third, ?window, ?free⟩
  case running => exact fun c unit s h => exec_dmaResume_of_quiet (resumeCh_of_running h)
  case read =>
    intro c unit s h hf
    exact ⟨_, exec_dmaResume_of_quiet (resumeCh_read h hf), vmod_same s.su.ch c Channel.again, rfl⟩
  case nor =>
    intro c p unit s h hf hp hk
    exact ⟨_, exec_dmaResume_of_quiet (resumeCh_nor h hf hp hk), vmod_same s.su.ch c Channel.again, rfl, rfl⟩
  case nand =>
    intro c p unit s h hf hp hk hreserve
    obtain ⟨block, spare, hretire⟩ := retireBlock_reserve (page := s.su.ch[c.val].faultPage) hreserve
    have hresume := resumeCh_nand (unit := unit) h hf hp hk
    rw [hretire] at hresume
    exact ⟨_, exec_dmaResume_of_quiet hresume, vmod_same s.su.ch c Channel.again,
      congrArg Port.retired (vmod_same s.su.port p (Port.retires block spare)), rfl⟩
  case empty =>
    intro c p unit s h hf hp hk hreserve
    have hresume := resumeCh_nand (unit := unit) h hf hp hk
    rw [retireBlock_empty hreserve] at hresume
    exact exec_dmaResume_of_quiet hresume
  case programmed =>
    intro c p s h hf hp hu ho ha h0 hlen
    have hch := vmod_same s.su.ch c (Channel.skips s.su.port[p.val].unit)
    have hprogress : s.su.ch[c.val].progress + s.su.port[p.val].unit = s.su.port[p.val].unit := by rw [h0, Nat.zero_add]
    exact ⟨_, exec_dmaResume_of_quiet (resumeCh_programmed h hf hp hu ho ha h0 hlen), (congrArg Channel.progress hch :).trans hprogress,
      congrArg Channel.st hch, congrArg Channel.fault hch, rfl, rfl⟩
  case refused => exact fun c unit s _ hf => exec_dmaResume_of_quiet (resumeCh_refused hf)
  case abandon =>
    intro c s h
    rw [exec_dmaAbandon_eq, abandonCh_of_halted h]
    exact ⟨_, rfl, rfl, vmod_same s.su.ch c Channel.abandoned, fun d hd => vmod_other s.su.ch c d Channel.abandoned hd⟩
  case keep => exact fun c s h => by rw [exec_dmaAbandon_eq, abandonCh_of_running h]
  case timeout =>
    intro p s hk hd howned
    obtain ⟨ch, fb, hexec, hin, hout⟩ := exec_portTimeout hk howned
    refine ⟨_, hexec, rfl, (vmod_same s.su.port p Port.timesOut).trans ?_, hin, hout⟩
    simp [Port.timesOut, hd]
  case absent => exact fun p s hk => by rw [exec_portTimeout_eq, execPortTimeout, if_pos hk]
  case up =>
    intro p s h hd
    rw [exec_portRecovery_eq, recoverPort_up h, bookPort_of_up (modPort_down (f := Port.comesUp) (fun _ => rfl) hd)]
    exact ⟨_, rfl, vmod_same s.su.port p Port.comesUp, rfl⟩
  case first =>
    intro p s h hd hfail
    rw [exec_portRecovery_eq, recoverPort_first h hfail, bookPort_of_up (modPort_down (f := Port.fails [s.time.meridian]) (fun _ => rfl) hd)]
    exact ⟨_, rfl, vmod_same s.su.port p (Port.fails [s.time.meridian]), rfl⟩
  case third =>
    intro p a b s h hfail ha hb
    have hport := vmod_same s.su.port p (Port.goesDown [s.time.meridian, a, b])
    obtain ⟨fb, hbook⟩ := bookPort_eq (s.modPort p (Port.goesDown [s.time.meridian, a, b]))
    rw [exec_portRecovery_eq, recoverPort_third h hfail ha hb, hbook]
    exact ⟨_, rfl, congrArg Port.down hport, congrArg Port.recovering hport, rfl⟩
  case window =>
    intro w s h
    rw [exec_windowHaltTimeout_eq, if_pos h, windowAbandon_of_halted h]
    exact ⟨_, rfl, congrArg Channel.st (vmod_same s.su.ch (winCh w) Channel.abandoned), vmod_same s.su.win w HostWin.discarded, rfl⟩
  case free => exact fun w s h => by rw [exec_windowHaltTimeout_eq, if_neg h]

end Sys2Proof.Machine
end
section
/-! SETTLES O46. -/
namespace Sys2Proof.Machine
open Sys2Proof

/-- R369: a descriptor's start clears the FAULT of its own channel alone. -/
theorem fault_startDesc (c d : Fin 16) (op : DmaOp) (addr len : Nat) (data : List Byte) (s : State) :
    (s.startDesc d op addr len data).su.ch[c.val].fault = if d = c then 0 else s.su.ch[c.val].fault := by
  split
  next hd =>
    subst hd
    exact congrArg Channel.fault (vmod_same s.su.ch d _)
  next hd => exact congrArg Channel.fault (vmod_other s.su.ch d c _ (Ne.symm hd))

theorem wants_abandoned (x : Channel) : x.abandoned.wants = false := rfl

/-- Settles O46: the abandoned channel has nothing left to do, and only the start of its next descriptor clears FAULT. -/
theorem abandonedDescriptor : Obligations.AbandonedDescriptor := by
  unfold Obligations.AbandonedDescriptor
  intro c s h
  have hch : (s.modCh c Channel.abandoned).su.ch[c.val] = s.su.ch[c.val].abandoned := vmod_same ..
  have hfault : (s.modCh c Channel.abandoned).su.ch[c.val].fault = s.su.ch[c.val].fault := (congrArg Channel.fault hch :)
  refine ⟨_, (exec_dmaAbandon_eq c s).trans (congrArg Host.Outcome.next (abandonCh_of_halted h)), congrArg Channel.st hch, congrArg Channel.len hch,
    congrArg Channel.data hch, (congrArg Channel.wants hch).trans (wants_abandoned _), hfault, fun d op addr len data => ?_⟩
  rw [fault_startDesc, hfault]

end Sys2Proof.Machine
end
section
/-! SUPPORT. A request of one sub-operation that passed the checks of R409 is served. -/
namespace Sys2Proof.Machine

theorem hostRequest_of_accepted {op : Nat} {r : HostReq} {s u : State} (ha : s.accepts op r u) : s.hostRequest op r = u.serve op r := by
  obtain ⟨hcheck, hscope⟩ := ha
  simp [State.hostRequest, hcheck, hscope]

/-- R372, R416, R435, R449: the request that names a sub-operation is served by its own row. -/
theorem subRequest_served {op place code : Nat} {codes : List Nat} {r : HostReq} {s u : State} (ha : s.accepts op r u)
    (hc : fieldAt place 1 r.payload = code) : s.subRequest op place codes code r = u.serve op r := by
  rw [State.subRequest]
  simp only [hc, true_or, if_true]
  exact hostRequest_of_accepted ha

end Sys2Proof.Machine
end

section
/-! SUPPORT. WINDOW (R368, R369, R372 to R374, R416). -/
namespace Sys2Proof.Machine

section Window
variable {w : Fin 2} {r : HostReq} {s u : State} {sub : Nat}

theorem exec_windowRead (ha : s.accepts 5 r u) (hreq : windowReq r w 0) : exec (.windowRead r) s = .next (u.serveWindow r) :=
  congrArg Host.Outcome.next (subRequest_served ha hreq.2.1)
theorem exec_windowWrite (ha : s.accepts 5 r u) (hreq : windowReq r w 1) : exec (.windowWrite r) s = .next (u.serveWindow r) :=
  congrArg Host.Outcome.next (subRequest_served ha hreq.2.1)
theorem exec_windowErase (ha : s.accepts 5 r u) (hreq : windowReq r w 2) : exec (.windowErase r) s = .next (u.serveWindow r) :=
  congrArg Host.Outcome.next (subRequest_served ha hreq.2.1)
theorem exec_windowFlush (ha : s.accepts 5 r u) (hreq : windowReq r w 3) : exec (.windowFlush r) s = .next (u.serveWindow r) :=
  congrArg Host.Outcome.next (subRequest_served ha hreq.2.1)
theorem exec_windowStatus (ha : s.accepts 5 r u) (hreq : windowReq r w 4) : exec (.windowStatus r) s = .next (u.serveWindow r) :=
  congrArg Host.Outcome.next (subRequest_served ha hreq.2.1)
theorem exec_windowResume (ha : s.accepts 5 r u) (hreq : windowReq r w 5) : exec (.windowResume r) s = .next (u.serveWindow r) :=
  congrArg Host.Outcome.next (subRequest_served ha hreq.2.1)
theorem exec_windowAbandon (ha : s.accepts 5 r u) (hreq : windowReq r w 6) : exec (.windowAbandon r) s = .next (u.serveWindow r) :=
  congrArg Host.Outcome.next (subRequest_served ha hreq.2.1)

/-- R416: the window that a request names. -/
theorem window_named (w : Fin 2) : (if w.val = 1 then (1 : Fin 2) else 0) = w := by decide +revert

theorem serveWindow_status (hreq : windowReq r w 4) : u.serveWindow r = u.windowNow w r 0 := by
  obtain ⟨hw, hsub, hlen, _⟩ := hreq
  simp [State.serveWindow, hw, hsub, window_named, Nat.not_lt.2 hlen, Nat.not_lt.2 (Nat.lt_succ_iff.1 w.isLt)]

theorem serveWindow_resume (hreq : windowReq r w 5) : u.serveWindow r = u.windowResume w r := by
  obtain ⟨hw, hsub, hlen, _⟩ := hreq
  simp [State.serveWindow, hw, hsub, window_named, Nat.not_lt.2 hlen, Nat.not_lt.2 (Nat.lt_succ_iff.1 w.isLt)]

theorem serveWindow_abandon (hreq : windowReq r w 6) : u.serveWindow r =
    if u.su.ch[(winCh w).val].st = .active ∨ u.su.ch[(winCh w).val].st = .waiting then u.windowNow w r 6 else (u.windowAbandon w).windowNow w r 0 := by
  obtain ⟨hw, hsub, hlen, _⟩ := hreq
  simp [State.serveWindow, hw, hsub, window_named, Nat.not_lt.2 hlen, Nat.not_lt.2 (Nat.lt_succ_iff.1 w.isLt)]

/-- R372: a window at work, or halted, begins no operation. -/
theorem serveWindow_busy (hreq : windowReq r w sub) (hsub3 : sub ≤ 3) (hl : u.limited = false)
    (hst : u.su.ch[(winCh w).val].st = .halted ∨ u.su.ch[(winCh w).val].st = .active ∨ u.su.ch[(winCh w).val].st = .waiting) :
    u.serveWindow r = u.windowNow w r 6 := by
  obtain ⟨hw, hsub, hlen, hwrite⟩ := hreq
  have hcase : sub = 1 → (¬ r.payload.length = 12 + if sub ≤ 1 then fieldAt 10 2 r.payload else 0) → u.answer 5 r 8 [] = u.windowNow w r 6 := by
    intro h1 hlen'
    rw [if_pos h1.le] at hlen'
    exact absurd (hwrite h1) hlen'
  have hne : ¬ 6 < sub ∧ sub ≠ 4 ∧ sub ≠ 5 ∧ sub ≠ 6 := by omega
  obtain ⟨h6, hn4, hn5, hn6⟩ := hne
  simpa [State.serveWindow, hw, hsub, window_named, Nat.not_lt.2 hlen, Nat.not_lt.2 (Nat.lt_succ_iff.1 w.isLt), hl, hst, h6, hn4, hn5, hn6] using hcase

theorem serveWindow_flush (hreq : windowReq r w 3) (hi : u.windowIdle w) : u.serveWindow r = u.windowFlush w r := by
  obtain ⟨hw, hsub, hlen, _⟩ := hreq
  obtain ⟨hn1, hn2, hn3⟩ := hi
  simp [State.serveWindow, hw, hsub, window_named, Nat.not_lt.2 hlen, Nat.not_lt.2 (Nat.lt_succ_iff.1 w.isLt), hn1, hn2, hn3]

theorem serveWindow_erase (hreq : windowReq r w 2) (ho : fieldAt 8 2 r.payload ≤ 4095)
    (hf : u.windowFree w ((u.eraseUnit (fieldAt 4 4 r.payload * 4096)).1 / 4096)
      (((u.eraseUnit (fieldAt 4 4 r.payload * 4096)).1 + (u.eraseUnit (fieldAt 4 4 r.payload * 4096)).2 - 1) / 4096)) :
    u.serveWindow r = u.windowStart w r 2 .erase (fieldAt 4 4 r.payload * 4096) 4096 0 [] := by
  obtain ⟨hw, hsub, hlen, _⟩ := hreq
  obtain ⟨hl, ⟨hn1, hn2, hn3⟩, hfree⟩ := hf
  simp [State.serveWindow, hw, hsub, window_named, Nat.not_lt.2 hlen, Nat.not_lt.2 (Nat.lt_succ_iff.1 w.isLt), hl, hn1, hn2, hn3, hfree, Nat.not_lt.2 ho,
    State.windowFits]

/-- R372: the bytes and the pages of a READ or a WRITE are in order. -/
structure windowRange (u : State) (w : Fin 2) (r : HostReq) : Prop where
  offset : fieldAt 8 2 r.payload ≤ 4095
  fits : u.windowFits (windowAddr r) (fieldAt 10 2 r.payload) = true
  free : u.windowFree w (windowAddr r / 4096) ((windowAddr r + fieldAt 10 2 r.payload - 1) / 4096)

theorem serveWindow_read (hreq : windowReq r w 0) (hr : windowRange u w r) :
    u.serveWindow r = u.windowRead w r (windowAddr r) (fieldAt 10 2 r.payload) := by
  obtain ⟨hw, hsub, hlen, _⟩ := hreq
  obtain ⟨ho, hfits, hl, ⟨hn1, hn2, hn3⟩, hfree⟩ := hr
  rw [windowAddr] at hfits hfree
  simp [State.serveWindow, hw, hsub, window_named, Nat.not_lt.2 hlen, Nat.not_lt.2 (Nat.lt_succ_iff.1 w.isLt), hl, hn1, hn2, hn3, hfree, Nat.not_lt.2 ho, hfits,
    windowAddr]

theorem serveWindow_write (hreq : windowReq r w 1) (hr : windowRange u w r) :
    u.serveWindow r = u.windowWrite w r (windowAddr r) (r.payload.drop 12) := by
  obtain ⟨hw, hsub, hlen, hwrite⟩ := hreq
  obtain ⟨ho, hfits, hl, ⟨hn1, hn2, hn3⟩, hfree⟩ := hr
  rw [windowAddr] at hfits hfree
  simp [State.serveWindow, hw, hsub, window_named, hwrite, Nat.not_lt.2 (Nat.lt_succ_iff.1 w.isLt), hl, hn1, hn2, hn3, hfree, Nat.not_lt.2 ho, hfits,
    windowAddr]

/-! What the operations do. -/

/-- R363: a program unit is not empty. -/
theorem unitAt_pos (a : Nat) (u : State) : 0 < u.unitAt a := by
  have hunit (q : Port) : 0 < q.unit := by
    unfold Port.unit
    split
    · decide
    · decide
  rw [State.unitAt]
  split
  · exact hunit _
  · decide

/-- R372: a partial unit is padded to its end. -/
theorem padded (next : Nat) {unit : Nat} (h : 0 < unit) : (unit - next % unit) % unit < unit ∧ (next + (unit - next % unit) % unit) % unit = 0 := by
  refine ⟨Nat.mod_lt _ h, ?_⟩
  have hlt := Nat.mod_lt next h
  have hdiv := Nat.div_add_mod next unit
  have hsum : next + (unit - next % unit) = unit * (next / unit + 1) := by
    rw [Nat.mul_add_one]
    omega
  rw [Nat.add_mod_mod, hsum, Nat.mul_mod_right]

/-- The descriptor that a window starts (R364, R373). -/
def Channel.fresh (op : DmaOp) (a len : Nat) (data : List Byte) (x : Channel) : Channel :=
  { st := .waiting, op := op, addr := a, len := len, data := data, faults := x.faults }

/-- R373: a window at work for a request. -/
def HostWin.begins (sub : Nat) (r : HostReq) (before : Nat) (x : HostWin) : HostWin := { x with op := sub, reply := some (ctxOf 5 r), before := before }

theorem windowStart_eq (op : DmaOp) (a len before : Nat) (data : List Byte) : u.windowStart w r sub op a len before data =
    { u with su := { u.su with ch := vmod u.su.ch (winCh w) (Channel.fresh op a len data), win := vmod u.su.win w (HostWin.begins sub r before) } } := rfl

/-- R373: a window that holds the end of a WRITE. -/
def HostWin.holds (stop : Nat) (held : List Byte) (x : HostWin) : HostWin := { x with next := stop, held := held }

theorem begins_of_holds (sub before stop : Nat) (held : List Byte) :
    (vmod (vmod u.su.win w (HostWin.holds stop held)) w (HostWin.begins sub r before))[w.val] =
      (u.su.win[w.val].holds stop held).begins sub r before := (vmod_same ..).trans (congrArg _ (vmod_same ..))

/-- R373: a WRITE that ends with a program unit is programmed whole. -/
theorem windowWrite_whole {a : Nat} {data : List Byte} (hh : u.su.win[w.val].held = []) (hd : data ≠ [])
    (hend : (a + data.length) % u.unitAt (a + data.length) = 0) : u.windowWrite w r a data =
      (u.modWin w (HostWin.holds (a + data.length) [])).windowStart w r 1 .write a data.length 0 data := by
  rw [State.windowWrite]
  simp [hh, hend, hd]
  rfl

/-- R373: a WRITE that reaches no program unit's end is held. -/
theorem windowWrite_held {a : Nat} {data : List Byte} (hh : u.su.win[w.val].held = [])
    (hend : data.length ≤ (a + data.length) % u.unitAt (a + data.length)) : u.windowWrite w r a data =
      (u.modWin w (HostWin.holds (a + data.length) data)).windowNow w r 0 := by
  rw [State.windowWrite]
  simp [hh, Nat.min_eq_right hend]
  rfl

theorem windowFlush_of_empty (hh : u.su.win[w.val].held = []) : u.windowFlush w r = u.windowNow w r 0 := by
  rw [State.windowFlush]
  simp [hh]

/-- R372: a FLUSH programs the partial unit, padded with 0xFF. -/
theorem windowFlush_of_held (hh : u.su.win[w.val].held ≠ []) : ∃ (n : Nat),
    n < u.unitAt (u.su.win[w.val].next - u.su.win[w.val].held.length) ∧
    (u.su.win[w.val].next + n) % u.unitAt (u.su.win[w.val].next - u.su.win[w.val].held.length) = 0 ∧
    u.windowFlush w r = (u.modWin w (HostWin.holds 0 [])).windowStart w r 3 .write (u.su.win[w.val].next - u.su.win[w.val].held.length)
      (u.su.win[w.val].held.length + n) 0 (u.su.win[w.val].held ++ List.replicate n 0xFF) := by
  obtain ⟨hlt, hmod⟩ := padded u.su.win[w.val].next (unitAt_pos (u.su.win[w.val].next - u.su.win[w.val].held.length) u)
  refine ⟨_, hlt, hmod, ?_⟩
  rw [State.windowFlush]
  simp [hh]
  rfl

/-- R372: a window that answers for another request. -/
def HostWin.answers (r : HostReq) (x : HostWin) : HostWin := { x with reply := some (ctxOf 5 r) }

/-- R368, R372: RESUME repeats a read that ended in an uncorrectable error. -/
theorem windowResume_read (h : u.su.ch[(winCh w).val].st = .halted) (hf : u.su.ch[(winCh w).val].fault = 3) :
    u.windowResume w r = (u.modWin w (HostWin.answers r)).modCh (winCh w) Channel.again := by
  have hst : ((u.modWin w (HostWin.answers r)).modCh (winCh w) Channel.again).su.ch[(winCh w).val].st = .waiting :=
    congrArg Channel.st (vmod_same u.su.ch (winCh w) Channel.again)
  have hresume := resumeCh_read (s := u.modWin w (HostWin.answers r)) (unit := 0) h hf
  rw [State.windowResume]
  dsimp only
  rw [if_neg (not_not.2 h)]
  have heq : u.modWin w (fun x => { x with reply := some (ctxOf 5 r) }) = u.modWin w (HostWin.answers r) := rfl
  rw [heq, hresume]
  dsimp only
  rw [if_neg (by rw [hst]; decide)]

theorem windowResume_of_running (h : u.su.ch[(winCh w).val].st ≠ .halted) : u.windowResume w r = u.windowNow w r 8 := by
  rw [State.windowResume]
  exact if_pos h
end Window

end Sys2Proof.Machine
end

section
/-! SETTLES O56. -/
namespace Sys2Proof.Machine
open Sys2Proof

/-- Settles O56, by the sub-operation of the request and the state of the window's channel. -/
theorem windowOperations : Obligations.WindowOperations := by
  unfold Obligations.WindowOperations
  refine ⟨?read, ?busy, ?erase, ?write, ?flushEmpty, ?flush, ?status, ?resumeNone, ?resume, ?abandon, ?abandonBusy⟩
  case read =>
    intro w r s u ha hreq ho hlen hfits hfree
    refine ⟨_, exec_windowRead ha hreq, ?_⟩
    rw [serveWindow_read hreq ⟨ho, hfits, hfree⟩, State.windowRead, if_neg hlen, windowStart_eq]
    exact ⟨rfl, vmod_same u.su.win w (HostWin.begins 0 r 0), vmod_same u.su.ch (winCh w) (Channel.fresh .read (windowAddr r) (fieldAt 10 2 r.payload) [])⟩
  case busy =>
    intro w sub r s u ha hreq hl hst
    have hbusy (hsub : sub ≤ 3) : (.next (u.serveWindow r) : Host.Outcome State Fault Refusal) = .next (u.answer 5 r 6 (u.windowPayload w [])) :=
      congrArg Host.Outcome.next (serveWindow_busy hreq hsub hl hst)
    refine ⟨?_, ?_, ?_, ?_⟩
    · rintro rfl
      exact (exec_windowRead ha hreq).trans (hbusy (by decide))
    · rintro rfl
      exact (exec_windowWrite ha hreq).trans (hbusy (by decide))
    · rintro rfl
      exact (exec_windowErase ha hreq).trans (hbusy (by decide))
    · rintro rfl
      exact (exec_windowFlush ha hreq).trans (hbusy (by decide))
  case erase =>
    intro w r s u ha hreq ho hfree
    have hch := vmod_same u.su.ch (winCh w) (Channel.fresh .erase (fieldAt 4 4 r.payload * 4096) 4096 [])
    refine ⟨_, exec_windowErase ha hreq, ?_⟩
    rw [serveWindow_erase hreq ho hfree, windowStart_eq]
    exact ⟨rfl, congrArg Channel.st hch, congrArg Channel.op hch, congrArg Channel.addr hch,
      congrArg HostWin.reply (vmod_same u.su.win w (HostWin.begins 2 r 0))⟩
  case write =>
    intro w r s u ha hreq ho hfits hfree hheld hlen
    have hdata : (r.payload.drop 12).length = fieldAt 10 2 r.payload := by
      rw [List.length_drop, hreq.2.2.2 rfl, Nat.add_sub_cancel_left]
    have hserve := serveWindow_write hreq ⟨ho, hfits, hfree⟩
    refine ⟨fun hend => ?_, fun hend => ?_⟩
    · have hch := vmod_same u.su.ch (winCh w) (Channel.fresh .write (windowAddr r) (r.payload.drop 12).length (r.payload.drop 12))
      have hwin := begins_of_holds 1 0 (windowAddr r + (r.payload.drop 12).length) [] (w := w) (r := r) (u := u)
      refine ⟨_, exec_windowWrite ha hreq, ?_⟩
      rw [hserve, windowWrite_whole hheld (List.ne_nil_of_length_pos (by omega)) (by rwa [hdata]), windowStart_eq]
      exact ⟨rfl, congrArg Channel.st hch, congrArg Channel.op hch, congrArg Channel.addr hch, congrArg Channel.data hch, congrArg HostWin.held hwin,
        congrArg HostWin.reply hwin⟩
    · refine ⟨u.modWin w (HostWin.holds (windowAddr r + (r.payload.drop 12).length) (r.payload.drop 12)), ?_, rfl, ?_, rfl⟩
      · rw [exec_windowWrite ha hreq, hserve, windowWrite_held hheld (by rwa [hdata])]
        rfl
      · exact congrArg HostWin.held (vmod_same u.su.win w (HostWin.holds _ (r.payload.drop 12)))
  case flushEmpty =>
    intro w r s u ha hreq hi hheld
    rw [exec_windowFlush ha hreq, serveWindow_flush hreq hi, windowFlush_of_empty hheld]
    rfl
  case flush =>
    intro w r s u ha hreq hi hheld
    obtain ⟨n, hlt, hmod, hflush⟩ := windowFlush_of_held (r := r) hheld
    have hch := vmod_same u.su.ch (winCh w) (Channel.fresh .write (u.su.win[w.val].next - u.su.win[w.val].held.length) (u.su.win[w.val].held.length + n)
      (u.su.win[w.val].held ++ List.replicate n 0xFF))
    have hwin := begins_of_holds 3 0 0 [] (w := w) (r := r) (u := u)
    refine ⟨_, n, exec_windowFlush ha hreq, ?_⟩
    rw [serveWindow_flush hreq hi, hflush, windowStart_eq]
    exact ⟨rfl, congrArg HostWin.held hwin, congrArg Channel.op hch, congrArg Channel.addr hch, congrArg Channel.data hch, hlt, hmod⟩
  case status =>
    intro w r s u ha hreq
    rw [exec_windowStatus ha hreq, serveWindow_status hreq]
    rfl
  case resumeNone =>
    intro w r s u ha hreq hst
    rw [exec_windowResume ha hreq, serveWindow_resume hreq, windowResume_of_running hst]
    rfl
  case resume =>
    intro w r s u ha hreq hst hf
    refine ⟨_, exec_windowResume ha hreq, ?_⟩
    rw [serveWindow_resume hreq, windowResume_read hst hf]
    exact ⟨rfl, congrArg HostWin.reply (vmod_same u.su.win w (HostWin.answers r)), vmod_same u.su.ch (winCh w) Channel.again⟩
  case abandon =>
    intro w r s u ha hreq hst
    refine ⟨(u.modCh (winCh w) Channel.abandoned).modWin w HostWin.discarded, ?_, rfl, congrArg Channel.st (vmod_same u.su.ch (winCh w) Channel.abandoned),
      vmod_same u.su.win w HostWin.discarded⟩
    rw [exec_windowAbandon ha hreq, serveWindow_abandon hreq, if_neg (by rw [hst]; decide), windowAbandon_of_halted hst]
    rfl
  case abandonBusy =>
    intro w r s u ha hreq hst
    rw [exec_windowAbandon ha hreq, serveWindow_abandon hreq, if_pos hst]
    rfl

end Sys2Proof.Machine
end
section
/-! SUPPORT. The Field Book: what a replay leaves, the rows of a second and of the NAND page buffer, the forming of a
record (R377, R379, R380, R382 to R385). -/
namespace Sys2Proof.Machine

theorem exec_fieldBookReplay_eq (s : State) : exec .fieldBookReplay s = execFieldBookReplay s := rfl
theorem exec_fbTimeRecord_eq (s : State) : exec .fbTimeRecord s =
    .next (if s.inStates [.off, .laidUp] then s else s.form 0x0201 0 112 noIndex s.time.offset 0) := rfl
theorem exec_fbSecondEnd_eq (s : State) : exec .fbSecondEnd s = execFbSecondEnd s := rfl
theorem exec_fbNandFlush_eq (s : State) : exec .fbNandFlush s =
    .next (if s.bookReady ∧ s.bookNand ∧ s.fb.inProgram = none then s.bookPage else s) := rfl

/-! R383: a record enters the records of its frame. -/
section Forming
variable {fbRate : Nat} {r : FbRecord} {fb : FieldBook}

theorem form_of_share (hc : fb.closed = false) (h : r.source < 32 ∨ (rateOf fb r.source).1 < fbRate) :
    (fb.form fbRate r).forming = insertRecord r fb.forming ∧ (fb.form fbRate r).queue = fb.queue := by
  have hshare : ¬ (r.source ≥ 32 ∧ (rateOf fb r.source).1 ≥ fbRate) := by omega
  simp [FieldBook.form, hc, hshare]

theorem form_of_spent (hc : fb.closed = false) (h : 32 ≤ r.source) (hr : fbRate ≤ (rateOf fb r.source).1) :
    (fb.form fbRate r).forming = fb.forming ∧ (fb.form fbRate r).suppressed = incSat fb.suppressed := by
  simp [FieldBook.form, hc, h, hr]

theorem form_of_closed (hc : fb.closed = true) : fb.form fbRate r = fb := if_pos hc

/-- R55: a record is not after another, by stamp and then by source. -/
def FbRecord.upTo (a b : FbRecord) : Prop := a.stamp < b.stamp ∨ (a.stamp = b.stamp ∧ a.source ≤ b.source)

theorem FbRecord.upTo.trans {a b c : FbRecord} (h : a.upTo b) (k : b.upTo c) : a.upTo c := by
  unfold FbRecord.upTo at *
  omega

theorem mem_insertRecord {x : FbRecord} {l : List FbRecord} (h : x ∈ insertRecord r l) : x = r ∨ x ∈ l := by
  induction l with
  | nil => exact .inl (List.mem_singleton.1 h)
  | cons y l ih =>
    unfold insertRecord at h
    split at h
    · exact List.mem_cons.1 h
    · rcases List.mem_cons.1 h with rfl | h
      · exact .inr (List.mem_cons_self ..)
      · exact (ih h).imp_right (List.mem_cons_of_mem _)

theorem insertRecord_sorted {l : List FbRecord} (h : l.Pairwise FbRecord.upTo) : (insertRecord r l).Pairwise FbRecord.upTo := by
  induction l with
  | nil => exact List.pairwise_singleton ..
  | cons x l ih =>
    obtain ⟨hx, hl⟩ := List.pairwise_cons.1 h
    unfold insertRecord
    split
    next hlt =>
      have hrx : r.upTo x := hlt.imp_right (And.imp_right Nat.le_of_lt)
      refine List.pairwise_cons.2 ⟨fun y hy => ?_, h⟩
      rcases List.mem_cons.1 hy with rfl | hy
      · exact hrx
      · exact hrx.trans (hx y hy)
    next hge =>
      have hxr : x.upTo r := by
        unfold FbRecord.upTo
        omega
      refine List.pairwise_cons.2 ⟨fun y hy => ?_, ih hl⟩
      rcases mem_insertRecord hy with rfl | hy
      · exact hxr
      · exact hx y hy
end Forming

/-! R380, R382, R383: the time record, the end of a second, the flush of the NAND page buffer. -/
section Rows
variable {s : State}

theorem exec_fbTimeRecord (h1 : s.mode ≠ .off) (h2 : s.mode ≠ .laidUp) : exec .fbTimeRecord s = .next (s.form 0x0201 0 112 noIndex s.time.offset 0) := by
  rw [exec_fbTimeRecord_eq, if_neg (by simp [State.inStates, h1, h2])]

theorem exec_fbTimeRecord_of_off (h : s.mode = .off ∨ s.mode = .laidUp) : exec .fbTimeRecord s = .next s := by
  rw [exec_fbTimeRecord_eq, if_pos (by rcases h with h | h <;> simp [State.inStates, h])]

/-- R383: the SUPPRESSED records concern the book alone, and there is none where no source went beyond its share. -/
theorem suppressedRecords_eq (s : State) : ∃ fb : FieldBook, s.suppressedRecords = { s with fb := fb } ∧
    ((∀ e ∈ s.fb.rate, e.2.2 = 0) → fb = s.fb) := by
  rw [State.suppressedRecords]
  dsimp only
  have hfold (es : List (Nat × Nat × Nat)) : ∃ fb : FieldBook, es.foldl (fun t e =>
      if t.fb.closed then t
      else t.modFb (fun f => { f with
        forming := insertRecord (t.mkRecord 0x6802 e.1 117 noIndex e.2.2 0 ((s.fb.second + 1) * ticksPerSecond) [] false) f.forming
        srcSeq := insertKey 117 (((t.mkRecord 0x6802 e.1 117 noIndex e.2.2 0 ((s.fb.second + 1) * ticksPerSecond) [] false).seq + 1) % 256) f.srcSeq })) s =
      { s with fb := fb } := by
    refine List.foldlRecOn (motive := fun t => ∃ fb : FieldBook, t = { s with fb := fb }) es _ ⟨_, rfl⟩ fun t ht e _ => ?_
    obtain ⟨fb, rfl⟩ := ht
    split
    · exact ⟨_, rfl⟩
    · exact ⟨_, rfl⟩
  by_cases h : ∀ e ∈ s.fb.rate, e.2.2 = 0
  · have hnone : s.fb.rate.filter (fun e => decide (0 < e.2.2)) = [] :=
      List.filter_eq_nil_iff.2 fun e he => by simp [h e he]
    rw [hnone]
    exact ⟨s.fb, rfl, fun _ => rfl⟩
  · obtain ⟨fb, hfb⟩ := hfold (s.fb.rate.filter (fun e => decide (0 < e.2.2)))
    exact ⟨fb, hfb, fun h' => absurd h' h⟩

theorem exec_fbSecondEnd_of_same (h : s.time.meridian / ticksPerSecond ≤ s.fb.second) : exec .fbSecondEnd s = .next s := by
  rw [exec_fbSecondEnd_eq, execFbSecondEnd]
  exact if_pos h

theorem exec_fbSecondEnd (h : s.fb.second < s.time.meridian / ticksPerSecond) : exec .fbSecondEnd s =
    .next (s.suppressedRecords.modFb (fun f => { f with rate := [], second := s.time.meridian / ticksPerSecond })) := by
  rw [exec_fbSecondEnd_eq, execFbSecondEnd]
  exact if_neg (Nat.not_le.2 h)

theorem bookPage_of_empty (h : s.fb.nandBuffer = []) : s.bookPage = s := by
  rw [State.bookPage, if_pos (.inl (List.isEmpty_iff.2 h))]

/-- R380: the page buffer is programmed as one page, on channel 2. -/
theorem bookPage_of_held (hb : s.fb.nandBuffer ≠ []) (he : s.fb.erasedAhead ≠ 0) : ∃ data : List Byte, s.bookPage =
    { s with
      fb := { s.fb with inProgram := some (pageHeader s.fb.pageSeq s.fb.mb ++ s.fb.nandBuffer), marking := false }
      su := { s.su with ch := vmod s.su.ch 2 (Channel.fresh .write (s.fb.page * 4096) 4096 data) } } := by
  rw [State.bookPage, if_neg (by simp [hb, he])]
  exact ⟨_, rfl⟩

theorem exec_fbNandFlush (hr : s.bookReady = true) (hn : s.bookNand = true) (hp : s.fb.inProgram = none) : exec .fbNandFlush s = .next s.bookPage := by
  rw [exec_fbNandFlush_eq, if_pos ⟨hr, hn, hp⟩]

theorem exec_fbNandFlush_of_nothing (h : s.bookNand = false ∨ s.bookReady = false ∨ s.fb.nandBuffer = []) : exec .fbNandFlush s = .next s := by
  rw [exec_fbNandFlush_eq]
  rcases h with h | h | h
  · simp [h]
  · simp [h]
  · rw [bookPage_of_empty h, ite_self]
end Rows

/-! R384: a replay. -/
section Replay
variable {s t u : State}

/-- The write point and the counts of a book, which forming a record leaves as they are. -/
def FieldBook.place (fb : FieldBook) : FieldBook :=
  { fb with queue := [], forming := [], writeHalted := false, dropped := 0, suppressed := 0, rate := [], srcSeq := [] }

theorem place_form (fb : FieldBook) (fbRate : Nat) (r : FbRecord) : (fb.form fbRate r).place = fb.place := by
  unfold FieldBook.form
  split
  · rfl
  · dsimp only
    split
    · rfl
    · rfl

/-- R67, R384: what an opened book's records change; the write point and the counts stay. -/
def State.records (s t : State) : Prop :=
  ∃ (fb : FieldBook) (su : StoreUnit) (ret : Retained) (resetReq : ResetReq),
    t = { s with fb := fb, su := su, ret := ret, resetReq := resetReq } ∧ fb.place = s.fb.place

theorem State.records.refl : s.records s := ⟨_, _, _, _, rfl, rfl⟩

theorem State.records.trans (h : s.records t) (k : t.records u) : s.records u := by
  obtain ⟨_, _, _, _, rfl, hplace⟩ := h
  obtain ⟨_, _, _, _, rfl, hplace'⟩ := k
  exact ⟨_, _, _, _, rfl, hplace'.trans hplace⟩

theorem records_formAt (type code source index : Nat) (a b : Int) (stamp : Nat) (ext : List Byte) (deferred : Bool) (s : State) :
    s.records (s.formAt type code source index a b stamp ext deferred) := ⟨_, _, _, _, rfl, place_form ..⟩

theorem records_ite {c : Prop} [Decidable c] (h : s.records t) (k : s.records u) : s.records (if c then t else u) := by
  split
  · exact h
  · exact k

theorem records_form (type code source index : Nat) (a b : Int) (s : State) : s.records (s.form type code source index a b) := records_formAt ..

theorem records_told (h : s.records t) :
    ({ s with start := { s.start with transfers := [] } } : State).records { t with start := { t.start with transfers := [] } } := by
  obtain ⟨_, _, _, _, rfl, hplace⟩ := h
  exact ⟨_, _, _, _, rfl, hplace⟩

/-- R67, R70: the records of an opened book; the transfers that waited are no longer kept. -/
theorem records_openRecords (s : State) : ({ s with start := { s.start with transfers := [] } } : State).records s.openRecords := by
  unfold State.openRecords
  extract_lets _ boot stuck _ waited moved _ told _ cooled formatted lost _ counted
  have hboot : s.records boot := records_formAt ..
  have hwaited : boot.records waited := by
    refine records_ite (.trans (records_form 0x0102 1 120 noIndex 5000 0 boot) ?_) .refl
    exact ⟨_, _, _, _, rfl, rfl⟩
  have hmoved : waited.records moved := List.foldlRecOn _ _ .refl fun t ht x _ => ht.trans (records_formAt ..)
  have htold : ({ s with start := { s.start with transfers := [] } } : State).records told := records_told ((hboot.trans hwaited).trans hmoved)
  have hcooled : told.records cooled := by
    simp only [cooled]
    split
    · refine .trans (records_formAt ..) ⟨_, _, _, _, rfl, rfl⟩
    · exact .refl
  have hformatted : cooled.records formatted := records_ite (records_form ..) .refl
  have hcounted : formatted.records counted := by
    refine records_ite .refl (.trans ?_ (records_form ..))
    exact ⟨_, _, _, _, rfl, rfl⟩
  exact (((htold.trans hcooled).trans hformatted).trans hcounted).trans (records_form ..)

theorem records_bookPort (s : State) : s.records s.bookPort := by
  rw [State.bookPort]
  split
  · exact records_ite ⟨_, _, _, _, rfl, rfl⟩ .refl
  · exact .refl

theorem records_eraseAhead (s : State) : s.records s.eraseAhead := records_ite .refl ⟨_, _, _, _, rfl, rfl⟩

/-- R384, R391: the book opens at the write point that the replay found, and its records are counted. -/
def State.bookOpens (u : State) : State :=
  (u.modFb (fun f => { f with
    isOpen := true, replayed := true, erasedAhead := u.erasedFrom u.ringPages u.fb.page
    erasePage := fbStart + (f.page + u.erasedFrom u.ringPages u.fb.page - fbStart) % (max 1 u.ringPages) })).bookCount

theorem bookOpens_eq (u : State) : ∃ fb : FieldBook, u.bookOpens = { u with fb := fb } := ⟨_, rfl⟩

/-- R384: a replay opens the book at the write point it found. -/
theorem exec_fieldBookReplay (ho : s.fb.isOpen = false) (hc : s.fb.closed = false) (hm : s.mode = .load) (hshort : s.su.short = false) :
    ∃ (fb : FieldBook) (su : StoreUnit) (ret : Retained) (resetReq : ResetReq), exec .fieldBookReplay s =
        .next { s.bookResume with fb := fb, su := su, ret := ret, resetReq := resetReq, start := { s.bookResume.start with transfers := [] } } ∧
      fb.place = s.bookResume.bookOpens.fb.place := by
  have hexec : exec .fieldBookReplay s = .next s.bookResume.bookOpens.openRecords.bookPort.eraseAhead := by
    rw [exec_fieldBookReplay_eq, execFieldBookReplay, if_neg (by simp [ho, hc, hm, hshort, State.inStates])]
    rfl
  obtain ⟨fb, su, ret, resetReq, hopen, hplace⟩ :=
    ((records_openRecords s.bookResume.bookOpens).trans (records_bookPort _)).trans (records_eraseAhead _)
  obtain ⟨gb, hbook⟩ := bookOpens_eq s.bookResume
  refine ⟨fb, su, ret, resetReq, hexec.trans ?_, hplace⟩
  rw [hopen, hbook]

theorem exec_fieldBookReplay_of_done
    (h : s.fb.isOpen = true ∨ s.fb.closed = true ∨ s.mode = .boot ∨ s.mode = .plat ∨ s.mode = .off ∨ s.mode = .laidUp) :
    exec .fieldBookReplay s = .next s := by
  have hguard : s.fb.isOpen = true ∨ s.fb.closed = true ∨ s.inStates [.off, .boot, .plat, .laidUp] = true ∨ s.su.short = true := by
    simp only [State.inStates, List.contains_iff_mem, List.mem_cons, List.not_mem_nil, or_false]
    tauto
  rw [exec_fieldBookReplay_eq, execFieldBookReplay, if_pos hguard]

/-- R384: where a replay resumes. -/
def FieldBook.resumes (mb page seq corrupt op : Nat) (f : FieldBook) : FieldBook :=
  { f with mb := mb, page := page, offset := 0, pageSeq := seq, corrupt := corrupt, opMs := op }

section Resume
variable (hr : s.plat.recovery = false) (hh : s.plat.header.isSome = true)
include hr hh

theorem bookResume_of_erased (hs : s.store = []) : s.bookResume = s.modFb (FieldBook.resumes (s.parN P.fbMb) fbStart 1 s.fb.corrupt s.fb.opMs) := by
  obtain ⟨hdr, hhdr⟩ := Option.isSome_iff_exists.1 hh
  have hnone (n : Nat) : s.bookHeaders n = [] := by simp [State.bookHeaders, hs, listedPages]
  rw [State.bookResume]
  simp [hr, hhdr, hnone]
  rfl

theorem bookResume_of_page {p seq : Nat} (hp : s.bookHeaders s.fbPages = [(p, seq, s.parN P.fbMb)]) : ∃ op : Nat,
    s.bookResume = s.modFb (FieldBook.resumes (s.parN P.fbMb) (fbStart + (p + 1 - fbStart) % (max 1 (s.parN P.fbMb * 256))) ((seq + 1) % 2 ^ 32)
      (addSat s.fb.corrupt ((s.pageRecords p).filter (fun f => f.mark && !f.crc)).length) op) := by
  obtain ⟨hdr, hhdr⟩ := Option.isSome_iff_exists.1 hh
  rw [State.bookResume]
  simp [hr, hhdr, hp]
  exact ⟨_, rfl⟩
end Resume

/-- R385: on an erased store every page from the write point on is erased. -/
theorem erasedFrom_of_erased (hs : s.store = []) (n page : Nat) : s.erasedFrom n page = n := by
  induction n generalizing page with
  | zero => rfl
  | succ n ih =>
    rw [State.erasedFrom, ih]
    simp [hs, listedPages]

/-- R384: an opened book stands where the replay resumes. -/
structure FieldBook.standsAt (mb page seq corrupt : Nat) (fb : FieldBook) : Prop where
  isOpen : fb.isOpen = true
  replayed : fb.replayed = true
  page : fb.page = page
  offset : fb.offset = 0
  pageSeq : fb.pageSeq = seq
  mb : fb.mb = mb
  corrupt : fb.corrupt = corrupt

theorem FieldBook.standsAt.of_place {mb page seq corrupt : Nat} {fb gb : FieldBook} (h : fb.standsAt mb page seq corrupt) (hplace : gb.place = fb.place) :
    gb.standsAt mb page seq corrupt :=
  ⟨(congrArg FieldBook.isOpen hplace).trans h.isOpen, (congrArg FieldBook.replayed hplace).trans h.replayed, (congrArg FieldBook.page hplace).trans h.page,
    (congrArg FieldBook.offset hplace).trans h.offset, (congrArg FieldBook.pageSeq hplace).trans h.pageSeq, (congrArg FieldBook.mb hplace).trans h.mb,
    (congrArg FieldBook.corrupt hplace).trans h.corrupt⟩

/-- R384: a replay that resumes at a write point opens the book there. -/
theorem exec_fieldBookReplay_resumes {mb page seq corrupt op : Nat} (ho : s.fb.isOpen = false) (hc : s.fb.closed = false) (hm : s.mode = .load)
    (hshort : s.su.short = false) (hresume : s.bookResume = s.modFb (FieldBook.resumes mb page seq corrupt op)) :
    ∃ (fb : FieldBook) (su : StoreUnit) (ret : Retained) (resetReq : ResetReq), exec .fieldBookReplay s =
        .next { s with fb := fb, su := su, ret := ret, resetReq := resetReq, start := { s.start with transfers := [] } } ∧
      fb.standsAt mb page seq corrupt ∧ fb.place = s.bookResume.bookOpens.fb.place := by
  obtain ⟨fb, su, ret, resetReq, hexec, hplace⟩ := exec_fieldBookReplay ho hc hm hshort
  rw [hresume] at hexec hplace ⊢
  exact ⟨fb, su, ret, resetReq, hexec, .of_place ⟨rfl, rfl, rfl, rfl, rfl, rfl, rfl⟩ hplace, hplace⟩

/-- R384, R391: an opened book stands where the replay resumes, and on an erased store it is empty. -/
theorem bookOpens_of_erased (hs : s.store = []) : s.bookOpens.fb.records = 0 ∧ s.bookOpens.fb.erasedAhead = s.fb.mb * 256 := by
  have hcount (u : State) (hu : u.store = []) : u.bookCount.fb.records = 0 := by
    simp [State.bookCount, State.modFb, State.bookHeaders, hu, listedPages]
  exact ⟨hcount _ hs, erasedFrom_of_erased hs ..⟩
end Replay
end Sys2Proof.Machine
end

section
/-! SETTLES O47. -/
namespace Sys2Proof.Machine
open Sys2Proof

/-- Settles O47: a replay by `exec_fieldBookReplay`, whose records leave the write point as the replay found it. -/
theorem fieldBookRows : Obligations.FieldBookRows := by
  unfold Obligations.FieldBookRows
  refine ⟨fun s => exec_fieldBookReplay_of_done, ?erased, ?page, fun s => exec_fbTimeRecord, fun s => exec_fbTimeRecord_of_off,
    fun s => exec_fbSecondEnd_of_same, ?second, ?flush, fun s => exec_fbNandFlush_of_nothing, fun n r fb => form_of_share, fun n r fb => form_of_spent,
    fun n r fb => form_of_closed, fun r l => insertRecord_sorted⟩
  case erased =>
    intro s ho hc hm hshort hs hr hh
    have hresume := bookResume_of_erased hr hh hs
    obtain ⟨fb, su, ret, resetReq, hexec, hstands, hplace⟩ := exec_fieldBookReplay_resumes ho hc hm hshort hresume
    obtain ⟨hopen, hreplayed, hpage, hoffset, hseq, hmb, -⟩ := hstands
    obtain ⟨hrecords, hahead⟩ := bookOpens_of_erased (s := s.bookResume) (by rw [hresume]; exact hs)
    have hring : s.bookResume.fb.mb = s.parN P.fbMb := by rw [hresume]; rfl
    exact ⟨_, hexec, hopen, hreplayed, hpage, hoffset, hseq, hmb, (congrArg FieldBook.records hplace).trans hrecords,
      (congrArg FieldBook.erasedAhead hplace).trans (hring ▸ hahead), hs, rfl⟩
  case page =>
    intro p seq s ho hc hm hshort hr hh hp
    obtain ⟨op, hresume⟩ := bookResume_of_page hr hh hp
    obtain ⟨fb, su, ret, resetReq, hexec, hstands, -⟩ := exec_fieldBookReplay_resumes ho hc hm hshort hresume
    exact ⟨_, hexec, hstands.isOpen, hstands.offset, hstands.pageSeq, hstands.page, rfl⟩
  case second =>
    intro s h
    obtain ⟨fb, hfb, hsame⟩ := suppressedRecords_eq s
    refine ⟨_, exec_fbSecondEnd h, rfl, rfl, fun hnone => ?_, by rw [hfb]; rfl⟩
    rw [hfb, hsame hnone]
    rfl
  case flush =>
    intro s hr hn hp hb he
    obtain ⟨data, hpage⟩ := bookPage_of_held hb he
    have hch := vmod_same s.su.ch 2 (Channel.fresh .write (s.fb.page * 4096) 4096 data)
    refine ⟨_, (exec_fbNandFlush hr hn hp).trans (congrArg Host.Outcome.next hpage), ?_⟩
    exact ⟨congrArg Channel.st hch, congrArg Channel.op hch, congrArg Channel.addr hch, congrArg Channel.len hch, rfl, rfl⟩

end Sys2Proof.Machine
end
section
/-! SUPPORT. The writing of a record on NOR, and the scan of a page (R379). -/
namespace Sys2Proof.Machine

section Writing
variable {p : Fin 2} {b : List Byte} {r : FbRecord} {rest : List FbRecord} {s : State}

/-- R379: behind an open page's write point the record follows as it is. -/
theorem recordData_of_open (h : s.fb.offset ≠ 0) (bytes : List Byte) : s.recordData bytes = (s.fb.page * 4096 + s.fb.offset, bytes) := if_neg h

theorem bookProgram_of_fits {bytes : List Byte} (hf : s.recordFits bytes = true) (ho : s.fb.offset ≠ 0) : s.bookProgram bytes =
    (s.modFb (fun f => { f with inProgram := some bytes, marking := false })).startDesc 2 .write (s.fb.page * 4096 + s.fb.offset) bytes.length bytes := by
  rw [State.bookProgram]
  simp only [hf, if_true, ho, false_and, if_false, recordData_of_open ho]

theorem bookNext_of_record (hw : s.fb.writeHalted = false) (hr : s.bookReady = true) (hp : s.fb.inProgram = none) (hn : s.bookNand = false)
    (hq : s.fb.queue = r :: rest) : s.bookNext = (s.modFb (fun f => { f with queue := rest })).bookProgram r.bytes := by
  rw [State.bookNext]
  simp only [hw, hr, hp, hn, hq, Bool.not_true, Bool.false_eq_true, if_false]

/-- R363, R364: a store whose program has passed on a port. -/
def State.afterProgram (p : Fin 2) (c : Fin 16) (s : State) : State :=
  { s with
    store := Memory.program s.store (s.su.ch[c.val].addr + s.su.ch[c.val].progress) s.su.ch[c.val].buffer
    su := { s.su with port := vmod s.su.port p Port.freed, ch := vmod s.su.ch c Channel.programmed } }

theorem exec_flashProgramComplete_whole {c : Fin 16} (hb : s.su.port[p.val].busy = some c.val) (ho : s.su.ch[c.val].op = .write)
    (hlen : s.su.ch[c.val].len ≤ s.su.ch[c.val].progress + s.su.ch[c.val].buffer.length) :
    exec (.flashProgramComplete p true) s = .next ((s.afterProgram p c).ownEvent (.done c)) := by
  rw [exec_flashProgramComplete_eq, programDone_pass hb ho, if_pos hlen]
  rfl

theorem exec_flashProgramComplete_part {c : Fin 16} (hb : s.su.port[p.val].busy = some c.val) (ho : s.su.ch[c.val].op = .write)
    (hlen : s.su.ch[c.val].progress + s.su.ch[c.val].buffer.length < s.su.ch[c.val].len) :
    exec (.flashProgramComplete p true) s = .next (s.afterProgram p c) := by
  rw [exec_flashProgramComplete_eq, programDone_pass hb ho, if_neg (Nat.not_le.2 hlen)]
  rfl

theorem markBytes_eq : markBytes = [0x5C, 0xA5, 0xC3, 0x5A] := by decide

/-- R379: the MARK follows the body, as a program of its own. -/
theorem bookDone_of_body (hp : s.fb.inProgram = some b) (hn : s.bookNand = false) (hm : s.fb.marking = false) (ho : s.fb.offset ≠ 0) : s.bookDone =
    { s with
      fb := { s.fb with marking := true }
      su := { s.su with ch := vmod s.su.ch 2 (Channel.fresh .write (s.fb.page * 4096 + s.fb.offset + b.length) 4 markBytes) } } := by
  rw [State.bookDone, hp]
  dsimp only
  rw [hn, hm, if_neg Bool.false_ne_true, if_neg Bool.false_ne_true, if_neg ho]
  rfl

/-- R380: a port's kind and size alone tell whether the book lies on NAND. -/
theorem bookNand_congr {su : StoreUnit} (h : s.su.sameMap su) : ({ s with su := su } : State).bookNand = s.bookNand := by
  simp only [State.bookNand, portOf_congr h]
  cases s.portOf s.fb.page with
  | none => rfl
  | some p => simp only [(h p).1]
end Writing

section Scan
variable {f : Found} {page : List Byte}

/-- R379: what a scan says of a record: its MARK and its RCRC, where they stand. -/
theorem mem_scanPage {n o : Nat} (h : f ∈ scanPage page n o) : 32 ≤ f.len ∧
    f.mark = (fieldAt (f.off + f.len - 4) 4 page == 0x5AC3A55C) ∧
    f.crc = (fieldAt (f.off + f.len - 8) 4 page == crc32 (slice f.off (f.len - 8) page)) := by
  induction n generalizing o with
  | zero => exact absurd h List.not_mem_nil
  | succ n ih =>
    rw [scanPage] at h
    split at h
    · exact absurd h List.not_mem_nil
    · rcases List.mem_cons.1 h with rfl | h
      · have hmark : o + (fieldAt o 2 page + 32) - 4 = o + 28 + fieldAt o 2 page := by omega
        have hcrc : o + (fieldAt o 2 page + 32) - 8 = o + 24 + fieldAt o 2 page := by omega
        have hlen : fieldAt o 2 page + 32 - 8 = 24 + fieldAt o 2 page := by omega
        exact ⟨by simp, by rw [hmark], by rw [hcrc, hlen]⟩
      · exact ih h

theorem valid_iff {n o : Nat} (h : f ∈ scanPage page n o) : f.valid = true ↔ fieldAt (f.off + f.len - 4) 4 page = 0x5AC3A55C ∧
    fieldAt (f.off + f.len - 8) 4 page = crc32 (slice f.off (f.len - 8) page) := by
  obtain ⟨-, hmark, hcrc⟩ := mem_scanPage h
  rw [Found.valid, hmark, hcrc, Bool.and_eq_true, beq_iff_eq, beq_iff_eq]
end Scan

end Sys2Proof.Machine
end

section
/-! SETTLES O48. -/
namespace Sys2Proof.Machine
open Sys2Proof

/-- Settles O48: the body's pass status is what lets the MARK be issued; a record is judged by what a scan reads of it. -/
theorem recordWriting : Obligations.RecordWriting := by
  unfold Obligations.RecordWriting
  refine ⟨?body, ?mark, ?more, fun page n o f => valid_iff, ?corrupt⟩
  case body =>
    intro r rest s hw hr hp hn hq hf ho
    have hnext := (bookNext_of_record hw hr hp hn hq).trans (bookProgram_of_fits (s := s.modFb (fun f => { f with queue := rest })) hf ho)
    have hch := vmod_same s.su.ch 2 (Channel.fresh .write (s.fb.page * 4096 + s.fb.offset) r.bytes.length r.bytes)
    exact ⟨_, hnext, rfl, congrArg Channel.st hch, congrArg Channel.op hch, congrArg Channel.addr hch, congrArg Channel.data hch, rfl, rfl⟩
  case mark =>
    intro p b s hb ho hst hlen hp hn hm hoff
    have hnand : (s.afterProgram p 2).bookNand = false := (bookNand_congr (StoreUnit.sameMap.of_vmod (ch := vmod s.su.ch 2 Channel.programmed) (p := p)
      (f := Port.freed) (fun _ => rfl) (fun _ => rfl) s.su)).trans hn
    have hmark := bookDone_of_body (s := s.afterProgram p 2) hp hnand hm hoff
    have hch := vmod_same (s.afterProgram p 2).su.ch 2 (Channel.fresh .write (s.fb.page * 4096 + s.fb.offset + b.length) 4 markBytes)
    refine ⟨_, (exec_flashProgramComplete_whole (c := 2) hb ho hlen).trans (congrArg Host.Outcome.next hmark), rfl, congrArg Channel.st hch,
      congrArg Channel.op hch, congrArg Channel.addr hch, congrArg Channel.len hch, (congrArg Channel.data hch :).trans markBytes_eq, rfl⟩
  case more =>
    intro p s hb ho hst hlen
    have hch := vmod_same s.su.ch 2 Channel.programmed
    exact ⟨_, exec_flashProgramComplete_part (c := 2) hb ho hlen, rfl, (congrArg Channel.addr hch :), (congrArg Channel.data hch :)⟩
  case corrupt =>
    intro p seq s ho hc hm hshort hr hh hp
    obtain ⟨op, hresume⟩ := bookResume_of_page hr hh hp
    obtain ⟨fb, su, ret, resetReq, hexec, hstands, -⟩ := exec_fieldBookReplay_resumes ho hc hm hshort hresume
    exact ⟨_, hexec, hstands.corrupt⟩

end Sys2Proof.Machine
end
section
/-! SUPPORT. The check of a host request on receipt (R407 to R410, R467). -/
namespace Sys2Proof.Machine

/-! R409: which NONCEs are fresh. -/
section Nonce
variable {k : HostSlot} {n m : Nat}

theorem fresh_iff : k.fresh n = true ↔ k.nonce < n ∨ k.nonce ≤ n + 64 ∧ n < k.nonce ∧ n ∉ k.accepted := by
  simp [HostSlot.fresh, and_assoc]

theorem mem_accepted_accept : m ∈ (k.accept n).accepted ↔ (m = k.nonce ∨ m = n ∨ m ∈ k.accepted) ∧ m < max k.nonce n ∧ max k.nonce n ≤ m + 64 := by
  simp only [HostSlot.accept, List.mem_filter, List.mem_cons, Bool.and_eq_true, decide_eq_true_eq]

/-- R409: below the highest accepted NONCE only one not yet accepted is fresh. -/
theorem accept_not_fresh (hm : m ≤ max k.nonce n)
    (h : m < max k.nonce n → max k.nonce n ≤ m + 64 → m = k.nonce ∨ m = n ∨ m ∈ k.accepted) : (k.accept n).fresh m = false := by
  rw [← Bool.not_eq_true, fresh_iff]
  have hnonce : (k.accept n).nonce = max k.nonce n := rfl
  rw [hnonce]
  rintro (hlt | ⟨hwindow, hlt, hnew⟩)
  · omega
  · exact hnew (mem_accepted_accept.2 ⟨h hlt hwindow, hlt, hwindow⟩)

theorem accept_same_not_fresh : (k.accept n).fresh n = false :=
  accept_not_fresh (Nat.le_max_right ..) fun _ _ => .inr (.inl rfl)

theorem accept_keeps_stale (h : k.fresh m = false) : (k.accept n).fresh m = false := by
  rw [← Bool.not_eq_true, fresh_iff, not_or] at h
  obtain ⟨hle, hold⟩ := h
  refine accept_not_fresh (by omega) fun hlt hwindow => ?_
  by_cases heq : m = k.nonce
  · exact .inl heq
  · by_contra hnot
    exact hold ⟨by omega, by omega, fun hin => hnot (.inr (.inr hin))⟩
end Nonce

/-! R409: the check, one reason after the other. -/
section Check
variable {op role : Nat} {key : List Byte} {r : HostReq} {s t : State}

theorem exec_hostRead_eq (r : HostReq) (s : State) : exec (.hostRead r) s = .next (s.hostRequest 1 r) := rfl

theorem exec_hostRead_of_refused (h : s.hostCheck 1 r = (t, false)) : exec (.hostRead r) s = .next t := by
  rw [exec_hostRead_eq, State.hostRequest, h]
  rfl

theorem hostCheck_of_unserved (hf : r.forwarded = false) (hs : s.hostServed = false) : s.hostCheck op r = (s, false) := by
  simp [State.hostCheck, hf, hs]

theorem hostCheck_of_keyless (hf : r.forwarded = false) (hs : s.hostServed = true) (hk : s.bist.keyFault = false) (hv : s.bist.keysValid = false) :
    s.hostCheck op r = (s.modHost (fun h => { h with held := h.held ++ [(op, r)] }), false) := by
  simp [State.hostCheck, hf, hs, hk, hv]

section Keyed
variable (hf : r.forwarded = false) (hs : s.hostServed = true) (hk : s.bist.keyFault = false) (hv : s.bist.keysValid = true)
include hf hs hk hv

/-- R409: a request that fails on version, length, key or MAC. -/
theorem hostCheck_of_unknown (h : s.hostKey r.keyId = none ∨ r.version ≠ 1 ∨ lengthOk r = false ∨
    ∃ role key, s.hostKey r.keyId = some (role, key) ∧ macOk key op r = false) : s.hostCheck op r = (s.refuseUnknown op r, false) := by
  rw [State.hostCheck]
  simp only [hf, hs, hk, hv, Bool.false_eq_true, if_false, Bool.not_true]
  cases hkey : s.hostKey r.keyId with
  | none => rfl
  | some rk =>
    have hbad : (decide (r.version ≠ 1) || !lengthOk r || !macOk rk.2 op r) = true := by
      rcases h with h | h | h | ⟨role, key, hrk, h⟩
      · exact absurd (hkey.symm.trans h) (Option.some_ne_none _)
      · simp [h]
      · simp [h]
      · obtain rfl := Option.some.inj (hkey.symm.trans hrk)
        simp [h]
    exact if_pos hbad

variable (hkey : s.hostKey r.keyId = some (role, key)) (hver : r.version = 1) (hlen : lengthOk r = true) (hmac : macOk key op r = true)
include hkey hver hlen hmac

theorem hostCheck_of_epoch (he : r.epoch ≠ s.epoch) : s.hostCheck op r =
    ((s.modHost (fun h => { h with authFail := incSat h.authFail, failNow := h.failNow + 1 })).answer op r 5 [], false) := by
  simp [State.hostCheck, hf, hs, hk, hv, hkey, hver, hlen, hmac, he]

theorem hostCheck_of_replay (he : r.epoch = s.epoch) (hn : (s.host.slot[(slotIndex r.keyId).val]).fresh r.nonce = false) : s.hostCheck op r =
    ((s.modHost (fun h => { h with replay := incSat h.replay })).answer op r 5 [], false) := by
  simp [State.hostCheck, hf, hs, hk, hv, hkey, hver, hlen, hmac, he, hn]

theorem hostCheck_of_authentic (he : r.epoch = s.epoch) (hn : (s.host.slot[(slotIndex r.keyId).val]).fresh r.nonce = true) :
    s.hostCheck op r = s.letIn op role r := by
  simp [State.hostCheck, hf, hs, hk, hv, hkey, hver, hlen, hmac, he, hn]
end Keyed

theorem retried_of_first (hr : bitAt r.flags 4 = false) : s.retried r = none := by
  simp [State.retried, hr]

/-- R410: a role too low. -/
theorem letIn_of_role (hr : bitAt r.flags 4 = false) (h : role < roleFor op r.payload) :
    s.letIn op role r = ((s.modSlot r.keyId (HostSlot.accept r.nonce)).answer op r 8 [], false) := by
  rw [State.letIn]
  simp only [retried_of_first hr, if_pos h]

/-- R409: a frame that has admitted all it may. -/
theorem letIn_of_busy (hr : bitAt r.flags 4 = false) (h : roleFor op r.payload ≤ role) (hb : s.parN P.hostMaxPerFrame ≤ s.host.admitted) :
    s.letIn op role r = (((s.modSlot r.keyId (HostSlot.accept r.nonce)).modHost (fun h => { h with busy := incSat h.busy })).answer op r 6 [], false) := by
  rw [State.letIn]
  simp only [retried_of_first hr, if_neg (Nat.not_lt.2 h)]
  exact if_pos hb

theorem letIn_of_admitted (hr : bitAt r.flags 4 = false) (h : roleFor op r.payload ≤ role) (ha : s.host.admitted < s.parN P.hostMaxPerFrame) :
    s.letIn op role r =
      (((s.modSlot r.keyId (HostSlot.accept r.nonce)).modHost (fun h => { h with admitted := h.admitted + 1 })).forwardMessage op r, true) := by
  rw [State.letIn]
  simp only [retried_of_first hr, if_neg (Nat.not_lt.2 h)]
  exact if_neg (Nat.not_le.2 ha)

/-- R318: a READ is not forwarded. -/
theorem forwardMessage_read (r : HostReq) (s : State) : s.forwardMessage 1 r = s := by
  have hread : forwardable 1 r.payload = false := rfl
  rw [State.forwardMessage, hread, Bool.and_false, if_neg Bool.false_ne_true]

theorem prpSend_modHost (f : HostUnit → HostUnit) (n : Nat) (s : State) :
    (s.modHost f).prpSend n = { s with host := f s.host, net := { s.net with txSeq := (s.net.txSeq + n) % 65536 } } := rfl

/-- R409: what a request without a valid key changes. -/
theorem refuseUnknown_spec (op : Nat) (r : HostReq) (s : State) : ∃ (host : HostUnit) (net : Net), s.refuseUnknown op r = { s with host := host, net := net } ∧
    host.authFail = incSat s.host.authFail ∧ host.failNow = s.host.failNow + 1 ∧ host.slot = s.host.slot ∧ host.outbox = s.host.outbox ∧
    (s.host.unauthSecond = s.time.meridian / ticksPerSecond → 10 ≤ s.host.unauthNow → host.sent = s.host.sent) := by
  rw [State.refuseUnknown]
  by_cases hlt : (if s.host.unauthSecond = s.time.meridian / ticksPerSecond then s.host.unauthNow else 0) < 10
  · rw [if_pos hlt]
    have hspent (hsecond : s.host.unauthSecond = s.time.meridian / ticksPerSecond) (hten : 10 ≤ s.host.unauthNow) : False := by
      rw [if_pos hsecond] at hlt
      omega
    rw [prpSend_modHost]
    exact ⟨_, _, rfl, rfl, rfl, rfl, rfl, fun hsecond hten => (hspent hsecond hten).elim⟩
  · rw [if_neg hlt]
    exact ⟨_, _, rfl, rfl, rfl, rfl, rfl, fun _ _ => rfl⟩
end Check

end Sys2Proof.Machine
end

section
/-! SETTLES O50. -/
namespace Sys2Proof.Machine
open Sys2Proof

/-- Settles O50, one reason of the check after the other. -/
theorem requestChecks : Obligations.RequestChecks := by
  unfold Obligations.RequestChecks
  refine ⟨?unserved, ?held, ?unknown, ?authentic, fun k n _ => accept_same_not_fresh, fun k n m _ => accept_keeps_stale⟩
  case unserved => exact fun r s hf hs => exec_hostRead_of_refused (hostCheck_of_unserved hf hs)
  case held => exact fun r s hf hs hk hv => exec_hostRead_of_refused (hostCheck_of_keyless hf hs hk hv)
  case unknown =>
    intro r s hf hs hk hv h
    obtain ⟨host, net, hrefuse, hfail, hnow, hslot, hout, hsent⟩ := refuseUnknown_spec 1 r s
    have hexec := exec_hostRead_of_refused (hostCheck_of_unknown hf hs hk hv h)
    rw [hrefuse] at hexec
    exact ⟨_, hexec, hfail, hnow, hslot, hout, hsent, rfl⟩
  case authentic =>
    intro r role key s hf hs hk hv hkey hver hlen hmac
    have hcheck (he : r.epoch = s.epoch) (hn : (s.host.slot[(slotIndex r.keyId).val]).fresh r.nonce = true) :=
      hostCheck_of_authentic hf hs hk hv hkey hver hlen hmac he hn
    refine ⟨fun he => ?_, fun he hn => ?_, fun he hn hr hrole => ?_, fun he hn hr hrole hb => ?_, fun he hn hr hrole ha => ?_⟩
    · exact exec_hostRead_of_refused (hostCheck_of_epoch hf hs hk hv hkey hver hlen hmac he)
    · exact exec_hostRead_of_refused (hostCheck_of_replay hf hs hk hv hkey hver hlen hmac he hn)
    · exact exec_hostRead_of_refused ((hcheck he hn).trans (letIn_of_role hr hrole))
    · exact ⟨_, exec_hostRead_of_refused ((hcheck he hn).trans (letIn_of_busy hr hrole hb)), rfl⟩
    · have hslot := vmod_same s.host.slot (slotIndex r.keyId) (HostSlot.accept r.nonce)
      have hin := (hcheck he hn).trans (letIn_of_admitted hr hrole ha)
      rw [forwardMessage_read] at hin
      exact ⟨_, hin, rfl, congrArg HostSlot.nonce hslot, rfl⟩

end Sys2Proof.Machine
end
section
/-! SUPPORT. The Ethernet ports, PRP and the IP layer (R394, R396 to R400, R421). -/
namespace Sys2Proof.Machine

theorem exec_phyPoll_eq (v : Vector PhyRead 2) (s : State) : exec (.phyPoll v) s =
    .next (if s.hostServed then (s.pollPort 0 v[0]).pollPort 1 v[1] else s) := rfl
theorem exec_ethernetFrameReceived_eq (lan : Fin 2) (f : EthFrame) (stamp : Nat) (s : State) : exec (.ethernetFrameReceived lan f stamp) s =
    execEthernetFrameReceived lan f stamp s := rfl
theorem exec_arpRequest_eq (ip mac target : Nat) (s : State) : exec (.arpRequest ip mac target) s = execArpRequest ip mac target s := rfl
theorem exec_arpCacheExpiry_eq (ip : Nat) (s : State) : exec (.arpCacheExpiry ip) s =
    .next (s.modNet (fun m => { m with arp := m.arp.filter (fun p => p.1 != ip) })) := rfl
theorem exec_icmpEcho_eq (target : Nat) (s : State) : exec (.icmpEcho target) s = execIcmpEcho target s := rfl
theorem exec_prpSupervisionSend_eq (s : State) : exec .prpSupervisionSend s =
    .next (if s.hostServed then (s.modNet (fun m => { m with supervision := m.supervision + 1 })).prpSend 1 else s) := rfl
theorem exec_prpNodeForget_eq (mac : Nat) (s : State) : exec (.prpNodeForget mac) s =
    .next (s.modNet (fun m => { m with nodes := m.nodes.filter (fun n => n.mac != mac) })) := rfl
theorem exec_lanDegraded_eq (lan : Fin 2) (entered : Bool) (s : State) : exec (.lanDegraded lan entered) s = execLanDegraded lan entered s := rfl
theorem exec_hostAuthFailRecord_eq (s : State) : exec .hostAuthFailRecord s = execHostAuthFailRecord s := rfl

/-! R394: the polls of the PHYs. -/
section Phy
variable {r : PhyRead} {l : Lan} {i : Fin 2} {s : State}

theorem poll_of_link (hp : r.present = true) (hl : r.link = true) (ha : r.aneg = true) :
    Lan.poll r l = { l with present := true, aneg := true, misses := 0, link := true, speed := r.speed } := by
  simp [Lan.poll, hp, hl, ha]

theorem poll_of_second_miss (hp : r.present = true) (hl : r.link = false) (hm : 1 ≤ l.misses) : (Lan.poll r l).link = false ∧ (Lan.poll r l).speed = 0 := by
  have hmisses : ¬ l.misses + 1 < 2 := by omega
  simp [Lan.poll, hp, hl, hmisses]

theorem poll_of_first_miss (hp : r.present = true) (hl : r.link = false) (hm : l.misses = 0) : (Lan.poll r l).link = l.link ∧ (Lan.poll r l).misses = 1 := by
  simp [Lan.poll, hp, hl, hm]

/-- R394, R421: a record and a host event. -/
theorem netRecord_eq (source code index : Nat) (a : Int) (s : State) : ∃ (fb : FieldBook) (events : List FbRecord),
    s.netRecord source code index a = { s with fb := fb, events := events } ∧ events.length = s.events.length + 1 :=
  ⟨_, _, rfl, length_insertRecord ..⟩

/-- R394: a poll that finds the link as it was leaves no record. -/
theorem pollPort_eq (i : Fin 2) (r : PhyRead) (s : State) : ∃ (fb : FieldBook) (events : List FbRecord),
    s.pollPort i r = { s.modLan i (Lan.poll r) with fb := fb, events := events } ∧
      ((Lan.poll r s.net.lan[i.val]).link = s.net.lan[i.val].link → events = s.events ∧ fb = s.fb) := by
  have hlan : (s.modLan i (Lan.poll r)).net.lan[i.val] = Lan.poll r s.net.lan[i.val] := vmod_same ..
  rw [State.pollPort]
  dsimp only
  rw [hlan]
  split
  next => exact ⟨_, _, rfl, fun _ => ⟨rfl, rfl⟩⟩
  next hne =>
    have hchanged : ¬ (Lan.poll r s.net.lan[i.val]).link = s.net.lan[i.val].link := Ne.symm hne
    split
    · exact ⟨_, _, rfl, fun h => absurd h hchanged⟩
    · exact ⟨_, _, rfl, fun h => absurd h hchanged⟩
end Phy

/-! R396, R399: a frame arrives on a port. -/
section Frames
variable {lan : Fin 2} {f : EthFrame} {q stamp : Nat} {n : PrpNode} {s : State}

/-- R396: a port with a bad frame. -/
def Lan.bad (l : Lan) : Lan := { l with rxErrors := incSat l.rxErrors }
/-- R396: a port with a good frame. -/
def Lan.good (l : Lan) : Lan := { l with rxFrames := incSat l.rxFrames }

theorem exec_ethernetFrameReceived_of_unserved (h : s.hostServed = false) : exec (.ethernetFrameReceived lan f stamp) s = .next s := by
  rw [exec_ethernetFrameReceived_eq, execEthernetFrameReceived, h]
  rfl

section Served
variable (hs : s.hostServed = true) (hl : s.net.lan[lan.val].link = true)
include hs hl

theorem exec_ethernetFrameReceived_bad (hg : f.good = false) : exec (.ethernetFrameReceived lan f stamp) s = .next ((s.at' stamp).modLan lan Lan.bad) := by
  rw [exec_ethernetFrameReceived_eq, execEthernetFrameReceived, hs, hl, hg]
  rfl

theorem exec_ethernetFrameReceived_good (hg : f.good = true) : exec (.ethernetFrameReceived lan f stamp) s =
    .next (if s.vlanOk f.vlan then ((s.at' stamp).modLan lan Lan.good).prpReceive lan f stamp else (s.at' stamp).modLan lan Lan.good) := by
  rw [exec_ethernetFrameReceived_eq, execEthernetFrameReceived, hs, hl, hg]
  rfl
end Served

/-- R399: a frame that has already come on the other port is discarded. -/
theorem prpReceive_of_duplicate (hq : f.prp = some (q, 10 + lan.val)) (hb : bypasses f.kind = false) (hn : n ∈ s.net.nodes) (hm : n.mac = f.src)
    (hd : n.duplicate lan.val q stamp = true) : ∃ nodes : List PrpNode, s.prpReceive lan f stamp =
      s.modNet (fun m => { m with nodes := nodes, duplicates := incSat m.duplicates }) := by
  have hptp : f.kind ≠ .ptp := by
    rintro h
    rw [h] at hb
    exact absurd hb (by decide)
  have hany : s.net.nodes.any (fun n => n.mac == f.src && n.duplicate lan.val q stamp) = true :=
    List.any_eq_true.2 ⟨n, hn, by simp [hm, hd]⟩
  rw [State.prpReceive]
  simp only [hptp, if_false, hq, Option.map_some, hany, bne_self_eq_false, Bool.and_false, Bool.false_eq_true, hb, Bool.not_false, Bool.and_self, if_true]
  exact ⟨_, rfl⟩
end Frames

/-! R396 to R400, R409, R421: ARP, ICMP, PRP supervision, the LANs, the authentication failures. -/
section Ip
variable {ip mac target : Nat} {lan : Fin 2} {entered : Bool} {s : State}

theorem exec_arpRequest (hs : s.hostServed = true) (ha : s.answersOn target = true) : exec (.arpRequest ip mac target) s =
    .next ((s.modNet (fun m =>
      { m with arp := ((ip, mac) :: m.arp.filter (fun p => p.1 != ip)).take 32, arpSent := m.arpSent + 1 })).prpSend 1) := by
  rw [exec_arpRequest_eq, execArpRequest, hs, ha]
  rfl

theorem exec_arpRequest_of_other (ha : s.answersOn target = false) : exec (.arpRequest ip mac target) s = .next s := by
  simp [exec_arpRequest_eq, execArpRequest, ha]

theorem exec_icmpEcho (hs : s.hostServed = true) (ha : s.answersOn target = true) (hn : s.net.icmpSecond ≠ s.time.meridian / ticksPerSecond) :
    exec (.icmpEcho target) s = .next { s with net := { s.net with
      icmpSecond := s.time.meridian / ticksPerSecond, icmpNow := 1, icmpSent := s.net.icmpSent + 1, txSeq := (s.net.txSeq + 1) % 65536 } } := by
  rw [exec_icmpEcho_eq, execIcmpEcho, hs, ha]
  simp only [hn, if_false]
  rfl

theorem exec_icmpEcho_of_spent (hn : s.net.icmpSecond = s.time.meridian / ticksPerSecond) (h : 10 ≤ s.net.icmpNow) :
    exec (.icmpEcho target) s = .next s := by
  rw [exec_icmpEcho_eq, execIcmpEcho]
  dsimp only
  rw [if_pos hn, if_pos h, ite_self]

theorem exec_lanDegraded (hs : s.hostServed = true) (hd : s.net.lan[lan.val].degraded ≠ entered) : exec (.lanDegraded lan entered) s =
    .next ((s.modLan lan (fun l => { l with degraded := entered })).netRecord 82 (if entered then 3 else 4) lan.val 0) := by
  rw [exec_lanDegraded_eq, execLanDegraded, if_neg (by simp [hs, hd])]

theorem exec_lanDegraded_of_same (hd : s.net.lan[lan.val].degraded = entered) : exec (.lanDegraded lan entered) s = .next s := by
  rw [exec_lanDegraded_eq, execLanDegraded, if_pos (by simp [hd])]
end Ip

end Sys2Proof.Machine
end

section
/-! SETTLES O49. -/
namespace Sys2Proof.Machine
open Sys2Proof

/-- Settles O49, row by row. -/
theorem networkRows : Obligations.NetworkRows := by
  unfold Obligations.NetworkRows
  refine ⟨?pollNone, ?poll, fun r l => poll_of_link, fun r l => poll_of_second_miss, fun r l => poll_of_first_miss, ?bad, ?vlan, ?duplicate,
    fun lan f stamp s => exec_ethernetFrameReceived_of_unserved, ?arp, fun ip mac target s => exec_arpRequest_of_other, ?expiry,
    fun target s => exec_icmpEcho, fun target s => exec_icmpEcho_of_spent, ?supervision, ?forget, ?degraded, fun lan entered s => exec_lanDegraded_of_same,
    ?record, ?none⟩
  case pollNone => exact fun v s h => by rw [exec_phyPoll_eq, h]; rfl
  case poll =>
    intro v s hs
    obtain ⟨fb, events, h0, hsame0⟩ := pollPort_eq 0 v[0] s
    obtain ⟨fb', events', h1, hsame1⟩ := pollPort_eq 1 v[1] (s.pollPort 0 v[0])
    have hlan0 : (vmod (vmod s.net.lan 0 (Lan.poll v[0])) 1 (Lan.poll v[1]))[0] = Lan.poll v[0] s.net.lan[0] :=
      (vmod_other _ 1 0 _ (by decide)).trans (vmod_same ..)
    have hother : (vmod s.net.lan 0 (Lan.poll v[0]))[1] = s.net.lan[1] := vmod_other _ 0 1 _ (by decide)
    have hlan1 : (vmod (vmod s.net.lan 0 (Lan.poll v[0])) 1 (Lan.poll v[1]))[1] = Lan.poll v[1] s.net.lan[1] :=
      (vmod_same _ 1 _).trans (congrArg (Lan.poll v[1]) hother)
    rw [h0] at h1 hsame1
    refine ⟨_, (exec_phyPoll_eq v s).trans (congrArg Host.Outcome.next ((if_pos hs).trans ((congrArg (State.pollPort 1 v[1]) h0).trans h1))), hlan0, hlan1, rfl, fun hl0 hl1 => ?_⟩
    obtain ⟨hevents', hfb'⟩ := hsame1 ((congrArg Lan.link (congrArg (Lan.poll v[1]) hother)).trans
      ((congrArg Lan.link hlan1).symm.trans (hl1.trans (congrArg Lan.link hother).symm)))
    obtain ⟨hevents, hfb⟩ := hsame0 ((congrArg Lan.link hlan0).symm.trans hl0)
    exact ⟨hevents'.trans hevents, hfb'.trans hfb⟩
  case bad =>
    intro lan f stamp s hs hl hg
    exact ⟨_, exec_ethernetFrameReceived_bad hs hl hg, vmod_same s.net.lan lan Lan.bad, rfl, rfl⟩
  case vlan =>
    intro lan f stamp s hs hl hg hv
    refine ⟨_, (exec_ethernetFrameReceived_good hs hl hg).trans (congrArg Host.Outcome.next (if_neg (by rw [hv]; exact Bool.false_ne_true))),
      vmod_same s.net.lan lan Lan.good, rfl, rfl⟩
  case duplicate =>
    intro lan f q n stamp s hs hl hg hv hq hb hn hm hd
    obtain ⟨nodes, hdup⟩ := prpReceive_of_duplicate (s := (s.at' stamp).modLan lan Lan.good) hq hb hn hm hd
    exact ⟨_, (exec_ethernetFrameReceived_good hs hl hg).trans (congrArg Host.Outcome.next ((if_pos hv).trans hdup)), rfl, rfl⟩
  case arp =>
    intro ip mac target s hs ha
    exact ⟨_, exec_arpRequest hs ha, rfl, List.length_take_le .., rfl, rfl, rfl⟩
  case expiry =>
    intro ip s
    exact ⟨_, exec_arpCacheExpiry_eq ip s, fun p => by simp [State.modNet], rfl⟩
  case supervision => exact fun s h => by rw [exec_prpSupervisionSend_eq, if_pos h]; rfl
  case forget =>
    intro mac s
    exact ⟨_, exec_prpNodeForget_eq mac s, fun n => by simp [State.modNet], rfl⟩
  case degraded =>
    intro lan entered s hs hd
    obtain ⟨fb, events, hrecord, hlength⟩ := netRecord_eq 82 (if entered then 3 else 4) lan.val 0 (s.modLan lan (fun l => { l with degraded := entered }))
    refine ⟨_, (exec_lanDegraded hs hd).trans (congrArg Host.Outcome.next hrecord), vmod_same s.net.lan lan (fun l => { l with degraded := entered }), hlength, rfl⟩
  case record =>
    intro s h
    exact ⟨_, (exec_hostAuthFailRecord_eq s).trans (if_neg h), rfl, rfl⟩
  case none => exact fun s h => (exec_hostAuthFailRecord_eq s).trans (if_pos h)

end Sys2Proof.Machine
end
section
/-! SUPPORT. READ, WRITE, SUBSCRIBE and EVENTS of the host protocol (R411 to R415). -/
namespace Sys2Proof.Machine

section Operations
variable {r : HostReq} {is : List Item} {w : WriteItem} {ws : List WriteItem} {x : Sub} {i : Nat} {s u : State}

theorem exec_hostRead (ha : s.accepts 1 r u) : exec (.hostRead r) s = .next (u.serveRead r) := congrArg Host.Outcome.next (hostRequest_of_accepted ha)
theorem exec_hostWrite (ha : s.accepts 2 r u) : exec (.hostWrite r) s = .next (u.serveWrite r) := congrArg Host.Outcome.next (hostRequest_of_accepted ha)
theorem exec_hostSubscribe (ha : s.accepts 3 r u) : exec (.hostSubscribe r) s = .next (u.serveSubscribe r) :=
  congrArg Host.Outcome.next (hostRequest_of_accepted ha)
theorem exec_eventsRead (ha : s.accepts 7 r u) (hc : fieldAt 0 1 r.payload = 0) : exec (.eventsRead r) s = .next (u.eventsRead r) := by
  refine congrArg Host.Outcome.next ((subRequest_served ha hc).trans ?_)
  simp only [State.serve, State.serveEvents, hc]
theorem exec_eventsFollow (ha : s.accepts 7 r u) (hc : fieldAt 0 1 r.payload = 1) : exec (.eventsFollow r) s = .next (u.eventsFollow r) := by
  refine congrArg Host.Outcome.next ((subRequest_served ha hc).trans ?_)
  simp only [State.serve, State.serveEvents, hc]
theorem exec_eventsUnfollow (ha : s.accepts 7 r u) (hc : fieldAt 0 1 r.payload = 2) : exec (.eventsUnfollow r) s = .next (u.eventsUnfollow r) := by
  refine congrArg Host.Outcome.next ((subRequest_served ha hc).trans ?_)
  simp only [State.serve, State.serveEvents, hc]
theorem exec_subscriptionPublish_eq (i : Nat) (s : State) : exec (.subscriptionPublish i) s = execSubscriptionPublish i s := rfl
theorem exec_subscriptionLeaseExpiry_eq (follower : Bool) (i : Nat) (s : State) : exec (.subscriptionLeaseExpiry follower i) s =
    execSubscriptionLeaseExpiry follower i s := rfl

/-! R412: READ. -/

theorem serveRead_of_fits (hi : itemList r.payload = some is) (hn : u.readSize is ≤ 1426) : u.serveRead r = u.answer 1 r 0 (u.readPayload is) := by
  rw [State.serveRead, hi]
  exact if_neg (Nat.not_lt.2 hn)

theorem serveRead_of_large (hi : itemList r.payload = some is) (hn : 1426 < u.readSize is) : u.serveRead r = u.answer 1 r 3 [] := by
  rw [State.serveRead, hi]
  exact if_pos hn

theorem serveRead_of_malformed (hi : itemList r.payload = none) : u.serveRead r = u.answer 1 r 8 [] := by
  rw [State.serveRead, hi]

/-! R413: WRITE. -/

/-- R413: one item, accepted, is applied. -/
theorem serveWrite_of_item (hw : u.writeItems (fieldAt 0 1 r.payload) (r.payload.drop 1) = some [w]) (h0 : u.itemStatus w = 0) :
    u.serveWrite r = (u.applyItem w).answer 2 r 0 (leBytes 4 w.id ++ leBytes 4 0) := by
  rw [State.serveWrite, hw]
  simp [h0]
  rfl

/-- R413: with ALL_OR_NONE and a refused item, none is applied. -/
theorem serveWrite_of_refused (hw : u.writeItems (fieldAt 0 1 r.payload) (r.payload.drop 1) = some ws) (hall : bitAt r.flags 0 = true)
    (hbad : ∃ w ∈ ws, u.itemStatus w ≠ 0) : u.serveWrite r =
      u.answer 2 r 0 (ws.flatMap (fun w => leBytes 4 w.id ++ leBytes 1 (u.itemStatus w) ++ leBytes 1 0 ++ leBytes 2 0)) := by
  have hany : (ws.map (fun w => (w, u.itemStatus w))).any (fun p => p.2 != 0) = true := by simpa using hbad
  rw [State.serveWrite, hw]
  simp only [hall, hany, Bool.and_self, if_true, List.flatMap_map]

theorem serveWrite_of_malformed (hw : u.writeItems (fieldAt 0 1 r.payload) (r.payload.drop 1) = none) : u.serveWrite r = u.answer 2 r 8 [] := by
  rw [State.serveWrite, hw]

/-! R414: SUBSCRIBE, publications and leases. -/

theorem serveSubscribe_first (hi : itemList (r.payload.drop 4) = some is) (hid : fieldAt 0 1 r.payload ≤ 15) (hp : fieldAt 2 2 r.payload ≠ 0)
    (hn : u.readSize is + 1 ≤ 1426) (hs : u.host.subs = []) (hb : u.readSize is + 1 ≤ u.parN P.pubBytes) : u.serveSubscribe r =
      (u.modHost (fun h => { h with subs := [{
        id := fieldAt 0 1 r.payload, ip := r.ip, port := r.port, key := r.keyId, period := fieldAt 2 2 r.payload, items := is
        first := (u.time.frame + 1) % 2 ^ 32, count := 0, renewed := u.time.meridian }] })).answer 3 r 0 [] := by
  have hlarge : ¬ 1426 < u.pubSize is := by
    unfold State.pubSize
    omega
  have hroom : ¬ u.parN P.pubBytes < u.pubSize is + 0 := by
    unfold State.pubSize
    omega
  rw [State.serveSubscribe, hi]
  simp only [hs, List.filter_nil, List.map_nil, List.sum_nil, List.find?_nil, List.nil_append, if_neg (Nat.not_lt.2 hid), if_neg hp, if_neg hlarge,
    if_neg hroom]

theorem serveSubscribe_end (hi : itemList (r.payload.drop 4) = some is) (hid : fieldAt 0 1 r.payload ≤ 15) (hp : fieldAt 2 2 r.payload = 0) :
    u.serveSubscribe r = (u.modHost (fun h => { h with subs := u.host.subs.filter (fun x => x.id != fieldAt 0 1 r.payload) })).answer 3 r 0 [] := by
  rw [State.serveSubscribe, hi]
  simp only [if_neg (Nat.not_lt.2 hid), hp, if_true]

theorem serveSubscribe_of_id (hi : itemList (r.payload.drop 4) = some is) (hid : 15 < fieldAt 0 1 r.payload) : u.serveSubscribe r = u.answer 3 r 3 [] := by
  rw [State.serveSubscribe, hi]
  exact if_pos hid

theorem publish_eq (c : HostCtx) (payload : List Byte) (s : State) : s.publish c payload = { s with
    host := { s.host with
      slot := vmod s.host.slot (slotIndex c.key) (fun k => { k with txNonce := (s.message c 4 0 payload).nonce })
      sent := s.host.sent ++ [s.message c 4 0 payload] }
    net := { s.net with txSeq := (s.net.txSeq + 1) % 65536 } } := prpSend_modHost ..

/-- R414: a subscription whose publication has gone out. -/
def Sub.published (x : Sub) : Sub := { x with count := (x.count + 1) % 2 ^ 32 }

theorem exec_subscriptionPublish (hi : s.host.subs[i]? = some x) (hs : s.hostServed = true) (hd : x.due s.time.frame = true) :
    exec (.subscriptionPublish i) s =
      .next ((s.publish { op := 3, key := x.key, tag := x.count, ip := x.ip, port := x.port } (leBytes 1 x.id ++ s.readPayload x.items)).modHost
        (fun h => { h with subs := updAt h.subs i Sub.published })) := by
  rw [exec_subscriptionPublish_eq, execSubscriptionPublish, hi]
  dsimp only
  rw [hs, hd]
  rfl

theorem exec_subscriptionPublish_of_none (hi : s.host.subs[i]? = none) : exec (.subscriptionPublish i) s = .next s := by
  rw [exec_subscriptionPublish_eq, execSubscriptionPublish, hi]

theorem exec_subscriptionLeaseExpiry_sub (h : i < s.host.subs.length) : exec (.subscriptionLeaseExpiry false i) s =
    .next ((s.modHost (fun h => { h with subs := h.subs.eraseIdx i })).form 0x7001 9 84 noIndex 0 0) := by
  rw [exec_subscriptionLeaseExpiry_eq, execSubscriptionLeaseExpiry]
  simp [h]

theorem exec_subscriptionLeaseExpiry_follower (h : i < s.host.followers.length) : exec (.subscriptionLeaseExpiry true i) s =
    .next ((s.modHost (fun h => { h with followers := h.followers.eraseIdx i })).form 0x7001 9 84 noIndex 0 0) := by
  rw [exec_subscriptionLeaseExpiry_eq, execSubscriptionLeaseExpiry]
  simp [h]

/-! R415: EVENTS. -/

theorem eventsFollow_of_new (hn : ∀ f ∈ u.host.followers, f.is r = false) : u.eventsFollow r =
    if 8 ≤ u.host.followers.length then u.answer 7 r 6 []
    else (u.modHost (fun h => { h with followers := h.followers ++
      [{ ip := r.ip, port := r.port, key := r.keyId, count := 0, renewed := u.time.meridian }] })).answer 7 r 0 [] := by
  have hany : u.host.followers.any (fun f => f.is r) = false := List.any_eq_false.2 fun f hf => by simp [hn f hf]
  rw [State.eventsFollow, hany]
  rfl
end Operations

end Sys2Proof.Machine
end

section
/-! SETTLES O51. -/
namespace Sys2Proof.Machine
open Sys2Proof

/-- Settles O51, by the operation and the first check that its payload fails. -/
theorem hostOperations : Obligations.HostOperations := by
  unfold Obligations.HostOperations
  refine ⟨?read, ?large, ?malformed, ?write, ?refused, ?unwritten, ?subscribe, ?unsubscribe, ?badId, ?publish, fun i s => exec_subscriptionPublish_of_none,
    ?lease, ?leaseFollower, ?events, ?follow, ?unfollow⟩
  case read => exact fun r is s u ha hi hn => (exec_hostRead ha).trans (congrArg _ (serveRead_of_fits hi hn))
  case large => exact fun r is s u ha hi hn => (exec_hostRead ha).trans (congrArg _ (serveRead_of_large hi hn))
  case malformed => exact fun r s u ha hi => (exec_hostRead ha).trans (congrArg _ (serveRead_of_malformed hi))
  case write => exact fun r w s u ha hw h0 => (exec_hostWrite ha).trans (congrArg _ (serveWrite_of_item hw h0))
  case refused => exact fun r ws s u ha hw hall hbad => (exec_hostWrite ha).trans (congrArg _ (serveWrite_of_refused hw hall hbad))
  case unwritten => exact fun r s u ha hw => (exec_hostWrite ha).trans (congrArg _ (serveWrite_of_malformed hw))
  case subscribe =>
    exact fun r is s u ha hi hid hp hn hs hb => (exec_hostSubscribe ha).trans (congrArg _ (serveSubscribe_first hi hid hp hn hs hb))
  case unsubscribe =>
    intro r is s u ha hi hid hp
    exact ⟨_, (exec_hostSubscribe ha).trans (congrArg _ (serveSubscribe_end hi hid hp)), rfl, fun x => by simp [State.modHost]⟩
  case badId => exact fun r is s u ha hi hid => (exec_hostSubscribe ha).trans (congrArg _ (serveSubscribe_of_id hi hid))
  case publish =>
    intro i x s hi hs hd
    have hexec := exec_subscriptionPublish hi hs hd
    rw [publish_eq] at hexec
    refine ⟨_, _, hexec, rfl, rfl, rfl, rfl, rfl, rfl, fun j => ?_, rfl⟩
    refine (List.getElem?_modify ..).trans ?_
    simp only [eq_comm (a := j)]
    rfl
  case lease =>
    intro i s h
    exact ⟨_, exec_subscriptionLeaseExpiry_sub h, rfl, rfl⟩
  case leaseFollower =>
    intro i s h
    exact ⟨_, exec_subscriptionLeaseExpiry_follower h, rfl, rfl⟩
  case events =>
    intro r s u ha hc hlen
    exact ⟨_, _, _, (exec_eventsRead ha hc).trans (congrArg _ (if_neg (not_not.2 hlen))), rfl⟩
  case follow =>
    intro r s u ha hc hn
    have hfollow := (exec_eventsFollow ha hc).trans (congrArg Host.Outcome.next (eventsFollow_of_new hn))
    exact ⟨fun h => hfollow.trans (congrArg _ (if_neg (Nat.not_le.2 h))), fun h => hfollow.trans (congrArg _ (if_pos h))⟩
  case unfollow =>
    intro r s u ha hc
    exact ⟨_, exec_eventsUnfollow ha hc, rfl, fun f => by simp [State.modHost]⟩

end Sys2Proof.Machine
end
section
/-! SUPPORT. The CAN controllers (R423 to R429, R431 to R434, R436). -/
namespace Sys2Proof.Machine

theorem exec_canFrameReceived_eq (c : Fin 4) (f : CanFrame) (remote : Bool) (stamp : Nat) (s : State) :
    exec (.canFrameReceived c f remote stamp) s = execCanFrameReceived c f remote stamp s := rfl
theorem exec_canRxError_eq (c : Fin 4) (heavy : Bool) (s : State) : exec (.canRxError c heavy) s = execCanRxError c heavy s := rfl
theorem exec_canArbitrationStart_eq (c : Fin 4) (s : State) : exec (.canArbitrationStart c) s = execCanArbitrationStart c s := rfl
theorem exec_canTxComplete_eq (c : Fin 4) (stamp : Nat) (s : State) : exec (.canTxComplete c stamp) s = execCanTxComplete c stamp s := rfl
theorem exec_canTxError_eq (c : Fin 4) (lost : Bool) (s : State) : exec (.canTxError c lost) s = execCanTxError c lost s := rfl
theorem exec_canBusOffRecovery_eq (c : Fin 4) (s : State) : exec (.canBusOffRecovery c) s = execCanBusOffRecovery c s := rfl
theorem exec_canRateDwellExpiry_eq (c : Fin 4) (s : State) : exec (.canRateDwellExpiry c) s =
    .next (if s.can[c.val].detecting then s.nextRate c else s) := rfl
theorem exec_canMapTimeout_eq (c : Fin 4) (k : Nat) (s : State) : exec (.canMapTimeout c k) s = execCanMapTimeout c k s := rfl
theorem exec_canTxMapSend_eq (c : Fin 4) (k : Nat) (s : State) : exec (.canTxMapSend c k) s = execCanTxMapSend c k s := rfl
theorem exec_canStatusSetSend_eq (c : Fin 4) (s : State) : exec (.canStatusSetSend c) s = execCanStatusSetSend c s := rfl

theorem vmod_of_fixed {α : Type} {n : Nat} {v : Vector α n} {i : Fin n} {f : α → α} (h : f v[i.val] = v[i.val]) : vmod v i f = v := by
  rw [vmod, h]
  exact Vector.set_getElem_self ..

/-! R424: the error states. -/
section Errors
variable {c : Fin 4} {b : Fin 3} {x : Can} {t : CanTx} {s : State}

/-- R426: a one-shot frame that waits at bus-off has failed. -/
def CanTx.busOff (t : CanTx) : CanTx := if t.st = 1 ∧ t.oneShot then { t with st := 5 } else t

/-- R424: a controller whose error state follows its counters. -/
def Can.errs (e n : Nat) (off : Bool) (x : Can) : Can := { x with err := e, busOffs := n, tx := if off then x.tx.map CanTx.busOff else x.tx }

theorem busOff_of_other (h : ¬ (t.st = 1 ∧ t.oneShot = true)) : t.busOff = t := if_neg h

theorem tx_errs (e n : Nat) (off : Bool) (h : ¬ (x.tx[b.val].st = 1 ∧ x.tx[b.val].oneShot = true)) : (x.errs e n off).tx[b.val] = x.tx[b.val] := by
  cases off with
  | false => rfl
  | true => exact (Vector.getElem_map ..).trans (busOff_of_other h)

/-- R424, R438: what the check of the error state changes. -/
theorem canErr_eq (c : Fin 4) (s : State) : ∃ (e n : Nat) (off : Bool) (fb : FieldBook) (free : Nat),
    s.canErr c = { s with can := vmod s.can c (Can.errs e n off), fb := fb, freeCounter := free } := by
  rw [State.canErr]
  dsimp only
  split
  · refine ⟨s.can[c.val].err, s.can[c.val].busOffs, false, s.fb, s.freeCounter, ?_⟩
    rw [vmod_of_fixed rfl]
  · have hcan (e : Nat) (off : Prop) [Decidable off] : vmod s.can c (fun x => { x with
        err := e, busOffs := if off then incSat x.busOffs else x.busOffs
        tx := if off then x.tx.map (fun t => if t.st = 1 ∧ t.oneShot then { t with st := 5 } else t) else x.tx }) =
          vmod s.can c (Can.errs e (if off then incSat s.can[c.val].busOffs else s.can[c.val].busOffs) (decide off)) :=
      vmod_congr (by simp only [Can.errs, decide_eq_true_eq]; rfl)
    split
    · exact ⟨_, _, _, _, _, congrArg (fun can => ({ s with can := can, fb := _, freeCounter := _ } : State)) (hcan ..)⟩
    · exact ⟨_, _, _, _, _, congrArg (fun can => ({ s with can := can, fb := _ } : State)) (hcan ..)⟩

theorem canErr_of_same (h : s.can[c.val].err = errOf s.can[c.val].tec s.can[c.val].rxe) : s.canErr c = s := by
  rw [State.canErr]
  exact if_pos (.inl h)

/-- R436: a draining controller whose frame has ended. -/
def Can.drains (x : Can) : Can := if x.st = 3 ∧ x.tx.toList.all (fun t => t.st != 2) then { x with st := 4 } else x

theorem drains_eq (x : Can) : ∃ st : Nat, x.drains = { x with st := st } := by
  rw [Can.drains]
  split
  · exact ⟨_, rfl⟩
  · exact ⟨_, rfl⟩

theorem canDrained_eq (c : Fin 4) (s : State) : s.canDrained c = s.modCan c Can.drains := rfl

/-- R428: an empty queue refills nothing. -/
theorem canRefill_of_empty (h : s.can[c.val].queue = []) : s.canRefill c = s := by
  have hnext (byBuffer : Bool) : s.can[c.val].nextFrame byBuffer = none := by
    rw [Can.nextFrame, h]
    cases byBuffer with
    | false => rfl
    | true => rfl
  rw [State.canRefill, State.modCan, vmod_of_fixed]
  dsimp only
  split
  · rfl
  · simp only [List.foldl_cons, List.foldl_nil, hnext]

/-- R428: a controller that only listens, or whose own buffers are all in use, loads nothing. -/
theorem canRefill_of_full (h : s.can[c.val].listen = true ∨ ∀ b : Fin 3, s.can[c.val].tx[b.val].loadable = false) : s.canRefill c = s := by
  rw [State.canRefill, State.modCan, vmod_of_fixed]
  dsimp only
  split
  · rfl
  next hopen =>
    have hfull : ∀ b : Fin 3, s.can[c.val].tx[b.val].loadable = false := h.resolve_left (fun hl => hopen (by rw [hl]; rfl))
    refine List.foldlRecOn (motive := fun y => y = s.can[c.val]) _ _ rfl fun y hy b _ => ?_
    subst hy
    split
    · rw [hfull b, Bool.and_false, if_neg Bool.false_ne_true]
    · rfl
end Errors

/-! R423, R425, R429, R431: reception. -/
section Reception
variable {c : Fin 4} {f : CanFrame} {remote heavy : Bool} {stamp : Nat} {s : State}

theorem recAfter_low {rxe : Nat} (h : rxe < 128) (free : Int) : recAfter rxe free = rxe - 1 := if_neg (by omega)

theorem errOf_low {tec rxe : Nat} (ht : tec < 128) (hr : rxe < 128) : errOf tec rxe = 0 := by
  have h1 : ¬ 256 ≤ tec := by omega
  have h2 : ¬ 128 ≤ tec := by omega
  have h3 : ¬ 128 ≤ rxe := by omega
  simp [errOf, h1, h2, h3]

/-- R425: a controller that runs, and has taken part in a good reception. -/
def Can.hears (x : Can) : Can := { x with st := 2, rxe := x.rxe - 1 }

/-- R429: a controller that has received a frame, or a remote frame. -/
def Can.takes (f : CanFrame) (remote : Bool) (stamp : Nat) (x : Can) : Can := if remote then { x with rxRemote := incSat x.rxRemote } else x.receive f stamp

theorem takes_rate (f : CanFrame) (remote : Bool) (stamp : Nat) (x : Can) : (x.takes f remote stamp).rate = x.rate := by
  unfold Can.takes Can.receive
  split
  · rfl
  · split
    · rfl
    · rfl

/-- R431: a controller that accepts a pair of rates. -/
def Can.accepts (p : Nat × Nat) (x : Can) : Can := { x with detecting := false, arb := p.1, dat := p.2 }

/-- R431: the fourth good frame accepts the pair that the controller tries. -/
theorem acceptRate_spec {can : Vector Can 4} (hrate : can[c.val].rate = s.can[c.val].rate) : ∃ t, ({ s with can := can } : State).acceptRate c = t ∧
    t.can[c.val].detecting = false ∧ (t.can[c.val].arb, t.can[c.val].dat) = s.ratePair c s.can[c.val].rate ∧ t = { s with can := t.can, fb := t.fb } := by
  have haccept := vmod_same can c (Can.accepts (s.ratePair c can[c.val].rate))
  refine ⟨_, rfl, congrArg Can.detecting haccept, ?_, rfl⟩
  exact (congrArg (fun x : Can => (x.arb, x.dat)) haccept).trans (congrArg (s.ratePair c) hrate)

/-- R423, R425, R429: an error active controller takes a frame. -/
theorem exec_canFrameReceived (hst : s.can[c.val].st = 1 ∨ s.can[c.val].st = 2) (herr : s.can[c.val].err = 0) (ht : s.can[c.val].tec < 128)
    (hr : s.can[c.val].rxe < 128) : exec (.canFrameReceived c f remote stamp) s =
      .next (if !s.can[c.val].detecting then (s.modCan c Can.hears).modCan c (Can.takes f remote stamp)
        else if s.can[c.val].good + 1 = 4 then ((s.modCan c Can.hears).modCan c (Can.takes f remote stamp)).acceptRate c
        else ((s.modCan c Can.hears).modCan c (Can.takes f remote stamp)).modCan c (fun x => { x with good := x.good + 1 })) := by
  have hruns : (!(s.can[c.val].st == 1 || s.can[c.val].st == 2 || s.can[c.val].st == 3) || s.can[c.val].err == 2) = false := by
    rcases hst with h | h <;> simp [h, herr]
  have hfar : decide (127 < s.can[c.val].rxe) = false := decide_eq_false (by omega)
  have hhears : s.modCan c (fun x => { x with st := if x.st = 1 then 2 else x.st, rxe := recAfter x.rxe s.free }) = s.modCan c Can.hears := by
    refine congrArg (fun can => ({ s with can := can } : State)) (vmod_congr ?_)
    rcases hst with h | h <;> simp [Can.hears, h, recAfter_low hr]
  have hcan : (s.modCan c Can.hears).can[c.val] = s.can[c.val].hears := vmod_same ..
  have hsame : (s.modCan c Can.hears).canErr c = s.modCan c Can.hears := by
    refine canErr_of_same ?_
    rw [hcan]
    exact herr.trans (errOf_low ht (by simp only [Can.hears]; omega)).symm
  have htakes : (if remote then (s.modCan c Can.hears).modCan c (fun x => { x with rxRemote := incSat x.rxRemote })
      else (s.modCan c Can.hears).modCan c (Can.receive f stamp)) = (s.modCan c Can.hears).modCan c (Can.takes f remote stamp) := by
    cases remote with
    | false => rfl
    | true => rfl
  rw [exec_canFrameReceived_eq, execCanFrameReceived]
  dsimp only
  rw [hruns, hfar, if_neg Bool.false_ne_true, if_neg Bool.false_ne_true, hhears, hsame, htakes]
  split
  · rfl
  · split
    · rfl
    · rfl

theorem exec_canFrameReceived_of_off (h : s.can[c.val].err = 2) : exec (.canFrameReceived c f remote stamp) s = .next s := by
  simp [exec_canFrameReceived_eq, execCanFrameReceived, h]

theorem exec_canRxError_of_off (h : s.can[c.val].err = 2) : exec (.canRxError c heavy) s = .next s := by
  simp [exec_canRxError_eq, execCanRxError, h]

/-- R424: a controller that met an error on a frame it received. -/
def Can.mishears (n : Nat) (x : Can) : Can := { x with rxe := x.rxe + n }

theorem exec_canRxError (hst : s.can[c.val].st = 2) (herr : s.can[c.val].err ≠ 2) : exec (.canRxError c heavy) s =
    .next (if !s.can[c.val].detecting then (s.modCan c (Can.mishears (if heavy then 8 else 1))).canErr c
      else if s.can[c.val].errors + 1 = 3 then ((s.modCan c (Can.mishears (if heavy then 8 else 1))).canErr c).nextRate c
      else ((s.modCan c (Can.mishears (if heavy then 8 else 1))).canErr c).modCan c
        (fun x => { x with good := 0, errors := x.errors + 1 })) := by
  have hruns : (!(s.can[c.val].st == 1 || s.can[c.val].st == 2 || s.can[c.val].st == 3) || s.can[c.val].err == 2) = false := by
    simp [hst, herr]
  rw [exec_canRxError_eq, execCanRxError]
  dsimp only
  rw [hruns, if_neg Bool.false_ne_true]
  split
  · rfl
  · split
    · rfl
    · rfl
end Reception

/-! R426 to R428: arbitration and transmission. -/
section Transmission
variable {c : Fin 4} {b p : Fin 3} {x : Can} {lost : Bool} {stamp : Nat} {s : State}

theorem mem_pending : b ∈ ([0, 1, 2] : List (Fin 3)).filter (fun b => x.tx[b.val].st == 1) ↔ x.tx[b.val].st = 1 := by
  have hall : b ∈ ([0, 1, 2] : List (Fin 3)) := by revert b; decide
  simp only [List.mem_filter, hall, true_and, beq_iff_eq]

/-- R427: the controller chooses a pending frame: of the highest priority, or of the lowest buffer. -/
theorem choice_spec (byBuffer : Bool) (hp : x.tx[p.val].st = 1) : ∃ b : Fin 3, x.choice byBuffer = some b ∧ x.tx[b.val].st = 1 ∧
    (byBuffer = false → arbKey x.tx[b.val].frame ≤ arbKey x.tx[p.val].frame) ∧ (byBuffer = true → b.val ≤ p.val) := by
  have hmem := mem_pending.2 hp
  cases byBuffer with
  | false =>
    have hne : sortBy (fun (b : Fin 3) => arbKey x.tx[b.val].frame) (([0, 1, 2] : List (Fin 3)).filter (fun b => x.tx[b.val].st == 1)) ≠ [] :=
      List.ne_nil_of_mem (mem_sortBy.2 hmem)
    obtain ⟨b, hb⟩ := Option.isSome_iff_exists.1 (List.isSome_head?.2 hne)
    obtain ⟨hbm, hleast⟩ := head_sortBy hb
    exact ⟨b, hb, mem_pending.1 hbm, fun _ => hleast p hmem, fun h => absurd h (by decide)⟩
  | true =>
    obtain ⟨b, hb⟩ := Option.isSome_iff_exists.1 (List.isSome_head?.2 (List.ne_nil_of_mem hmem))
    obtain ⟨rest, hrest⟩ := List.head?_eq_some_iff.1 hb
    have hsorted : (([0, 1, 2] : List (Fin 3)).filter (fun b => x.tx[b.val].st == 1)).Pairwise (fun a b => a.val ≤ b.val) :=
      List.Pairwise.filter _ (by decide)
    refine ⟨b, hb, mem_pending.1 (List.mem_of_head? hb), fun h => absurd h (by decide), fun _ => ?_⟩
    rw [hrest] at hsorted hmem
    rcases List.mem_cons.1 hmem with rfl | hmem
    · exact le_rfl
    · exact (List.pairwise_cons.1 hsorted).1 p hmem

/-- R427: a buffer on the wire. -/
def Can.starts (b : Fin 3) (x : Can) : Can := { x with st := 2, tx := vmod x.tx b (fun t => { t with st := 2 }) }

theorem exec_canArbitrationStart (hst : s.can[c.val].st = 1 ∨ s.can[c.val].st = 2) (herr : s.can[c.val].err ≠ 2) (hl : s.can[c.val].listen = false)
    (hw : ∀ b : Fin 3, s.can[c.val].tx[b.val].st ≠ 2) (hb : s.can[c.val].choice (s.par P.canTxOrder c.val == 1) = some b) :
    exec (.canArbitrationStart c) s = .next (s.modCan c (Can.starts b)) := by
  have hwire : s.can[c.val].tx.toList.any (fun t => t.st == 2) = false := by
    refine List.any_eq_false.2 fun t ht => ?_
    obtain ⟨i, hi, rfl⟩ := List.getElem_of_mem ht
    have hi' : i < 3 := by simpa using hi
    simpa using hw ⟨i, hi'⟩
  have hruns : (!(s.can[c.val].st == 1 || s.can[c.val].st == 2) || s.can[c.val].err == 2 || s.can[c.val].listen ||
      s.can[c.val].tx.toList.any (fun t => t.st == 2)) = false := by
    rcases hst with h | h <;> simp [h, herr, hl, hwire]
  rw [exec_canArbitrationStart_eq, execCanArbitrationStart]
  rw [hruns, if_neg Bool.false_ne_true, hb]
  rfl

theorem exec_canArbitrationStart_of_off (h : s.can[c.val].err = 2) : exec (.canArbitrationStart c) s = .next s := by
  simp [exec_canArbitrationStart_eq, execCanArbitrationStart, h]

/-- R427: a base frame goes before an extended one with the same base part. -/
theorem arbKey_base_lt {f g : CanFrame} (hf : f.ide = false) (hg : g.ide = true) (h : f.id = g.id / 2 ^ 18) : arbKey f < arbKey g := by
  simp only [arbKey, hf, hg, h, Bool.false_eq_true, if_false, if_true]
  omega

/-- R426: a frame that was acknowledged. -/
def CanTx.done (stamp : Nat) (t : CanTx) : CanTx := { t with st := 3, stamp := stamp, abort := false }

/-- R426, R427: a frame whose attempt failed. -/
def CanTx.fails (draining : Bool) (t : CanTx) : CanTx := { t with st := if t.abort || draining then 4 else if t.oneShot then 5 else 1, abort := false }

/-- R425: a controller whose frame was acknowledged. -/
def Can.sends (b : Fin 3) (stamp : Nat) (x : Can) : Can :=
  { x with tx := vmod x.tx b (CanTx.done stamp), tec := x.tec - 1, txFrames := incSat x.txFrames }

/-- R424: a controller whose frame lost arbitration or met an error. -/
def Can.loses (b : Fin 3) (lost : Bool) (x : Can) : Can :=
  { x with tx := vmod x.tx b (CanTx.fails (x.st == 3)), tec := if lost then x.tec else x.tec + 8 }

/-- R424, R428, R436: after an attempt the error state follows, a drain may end, and with an empty queue nothing is loaded. -/
theorem canErr_canDrained_canRefill (hq : s.can[c.val].queue = []) : ∃ (e n : Nat) (off : Bool) (fb : FieldBook) (free st : Nat),
    ((s.canErr c).canDrained c).canRefill c = { s with
      can := vmod s.can c (fun x => { x.errs e n off with st := st }), fb := fb, freeCounter := free } := by
  obtain ⟨e, n, off, fb, free, herr⟩ := canErr_eq c s
  obtain ⟨st, hst⟩ := drains_eq (s.can[c.val].errs e n off)
  have hcan : vmod (vmod s.can c (Can.errs e n off)) c Can.drains = vmod s.can c (fun x => { x.errs e n off with st := st }) :=
    (vmod_vmod ..).trans (vmod_congr hst)
  have hdrained : (s.canErr c).canDrained c = { s with
      can := vmod s.can c (fun x => { x.errs e n off with st := st }), fb := fb, freeCounter := free } := by
    rw [canDrained_eq, herr, ← hcan]
    rfl
  refine ⟨e, n, off, fb, free, st, ?_⟩
  rw [hdrained]
  exact canRefill_of_empty ((congrArg Can.queue (vmod_same s.can c _)).trans hq)

theorem vmod_after_attempt {v : Vector Can 4} (f : Can → Can) (e n st : Nat) (off : Bool) :
    (vmod (vmod v c f) c (fun x => { x.errs e n off with st := st }))[c.val] = { (f v[c.val]).errs e n off with st := st } :=
  (vmod_same ..).trans (congrArg (fun x : Can => ({ x.errs e n off with st := st } : Can)) (vmod_same ..))

theorem exec_canTxComplete (hb : s.can[c.val].onWire = some b) : exec (.canTxComplete c stamp) s =
    .next ((((s.modCan c (Can.sends b stamp)).canErr c).canDrained c).canRefill c) := by
  rw [exec_canTxComplete_eq, execCanTxComplete, hb]
  rfl

theorem exec_canTxError (hb : s.can[c.val].onWire = some b) : exec (.canTxError c lost) s =
    .next ((((s.modCan c (Can.loses b lost)).canErr c).canDrained c).canRefill c) := by
  rw [exec_canTxError_eq, execCanTxError]
  rw [hb]
  rfl

theorem exec_canTxComplete_of_none (h : s.can[c.val].onWire = none) : exec (.canTxComplete c stamp) s = .next s := by
  rw [exec_canTxComplete_eq, execCanTxComplete, h]

theorem exec_canTxError_of_none (h : s.can[c.val].onWire = none) : exec (.canTxError c lost) s = .next s := by
  rw [exec_canTxError_eq, execCanTxError]
  rw [h]
end Transmission

/-! R424, R431: bus-off, and the rates tried. -/
section Rates
variable {c : Fin 4} {s : State}

/-- R424: a controller that joins again. -/
def Can.rejoins (x : Can) : Can := { x with err := 0, tec := 0, rxe := 0 }

theorem exec_canBusOffRecovery (he : s.can[c.val].err = 2) (ha : s.par P.canBusOffAuto c.val = 1) (hst : s.can[c.val].st = 1 ∨ s.can[c.val].st = 2) :
    exec (.canBusOffRecovery c) s = .next ((s.modCan c Can.rejoins).canRecord (96 + c.val) 3 c 0 0) := by
  have hruns : ¬ (s.can[c.val].err ≠ 2 ∨ s.par P.canBusOffAuto c.val = 0 ∨ (!(s.can[c.val].st == 1 || s.can[c.val].st == 2)) = true) := by
    rcases hst with h | h <;> simp [he, ha, h]
  rw [exec_canBusOffRecovery_eq, execCanBusOffRecovery, if_neg hruns]
  rfl

theorem exec_canBusOffRecovery_of_other (h : s.can[c.val].err ≠ 2 ∨ s.par P.canBusOffAuto c.val = 0) : exec (.canBusOffRecovery c) s = .next s := by
  rw [exec_canBusOffRecovery_eq, execCanBusOffRecovery, if_pos (h.imp_right .inl)]

/-- R431: a controller that tries the next of `n` pairs. -/
def Can.triesNext (n : Nat) (x : Can) : Can := { x with rate := (x.rate + 1) % max 1 n, good := 0, errors := 0 }

theorem nextRate_eq (c : Fin 4) (s : State) : s.nextRate c = s.modCan c (Can.triesNext (s.parN P.canRateCount c.val)) := rfl

theorem exec_canRateDwellExpiry (hd : s.can[c.val].detecting = true) : exec (.canRateDwellExpiry c) s =
    .next (s.modCan c (Can.triesNext (s.parN P.canRateCount c.val))) := by
  rw [exec_canRateDwellExpiry_eq, if_pos hd, nextRate_eq]

theorem exec_canRateDwellExpiry_of_found (hd : s.can[c.val].detecting = false) : exec (.canRateDwellExpiry c) s = .next s := by
  rw [exec_canRateDwellExpiry_eq, if_neg (by rw [hd]; exact Bool.false_ne_true)]
end Rates

/-! R432, R433: the message maps. -/
section Maps
variable {c : Fin 4} {k stamp : Nat} {m : RxMap} {f : CanFrame} {b : List Byte} {s : State}

/-- R432: an entry whose timeout has expired. -/
def Can.timesOut (k : Nat) (x : Can) : Can := { x with timedOut := x.timedOut ++ [k] }

theorem exec_canMapTimeout (hm : (s.rxMaps c)[k]? = some m) (ht : m.timeout ≠ 0) (hk : s.can[c.val].timedOut.contains k = false) (hs : s.canSealed = [])
    (hq : s.can[c.val].rxq = []) : exec (.canMapTimeout c k) s = .next (({ s.modCan c (Can.timesOut k) with
      signal := s.signal.set (slotIx m.slot).val (-0x80000000) (slotIx m.slot).isLt
      signalValid := s.signalValid.set (slotIx m.slot).val false (slotIx m.slot).isLt } : State).canRecord 100 8 c k 0) := by
  rw [exec_canMapTimeout_eq, execCanMapTimeout, hm]
  simp only [hs, hq, hk, ht, List.filter_nil, List.map_nil, List.append_nil, List.any_nil, Bool.false_eq_true, or_self, if_false]
  rfl

theorem exec_canMapTimeout_of_none (hm : (s.rxMaps c)[k]? = none) : exec (.canMapTimeout c k) s = .next s := by
  rw [exec_canMapTimeout_eq, execCanMapTimeout, hm]

/-- R432: a matching frame of the same frame wins. -/
theorem exec_canMapTimeout_of_hit (hm : (s.rxMaps c)[k]? = some m) (hf : (c.val, f, stamp) ∈ s.canSealed) (hh : m.hits f = true) :
    exec (.canMapTimeout c k) s = .next s := by
  have hsealed : f ∈ (s.canSealed.filter (fun p => p.1 == c.val)).map (fun p => p.2.1) :=
    List.mem_map.2 ⟨_, List.mem_filter.2 ⟨hf, beq_self_eq_true _⟩, rfl⟩
  have hany : ((s.canSealed.filter (fun p => p.1 == c.val)).map (fun p => p.2.1) ++
      (s.can[c.val].rxq.filter (fun e => !e.sealed)).map (fun e => e.frame)).any (fun f => m.hits f) = true :=
    List.any_eq_true.2 ⟨f, List.mem_append_left _ hsealed, hh⟩
  rw [exec_canMapTimeout_eq, execCanMapTimeout, hm]
  exact if_pos (.inr (.inr hany))

theorem exec_canTxMapSend (hb : (s.txMaps c)[k]? = some b) (hfirst : ∀ e ∈ (s.txMaps c).take k, fieldAt 0 4 e ≠ fieldAt 0 4 b)
    (hdue : s.time.frame % max 1 (fieldAt 6 2 b) = 0) : exec (.canTxMapSend c k) s = .next (s.canQueue c {
      ide := bitAt (fieldAt 0 4 b) 31, fd := bitAt (fieldAt 5 1 b) 0, brs := bitAt (fieldAt 5 1 b) 1, id := fieldAt 0 4 b % 2 ^ 29
      data := leBytes (fieldAt 4 1 b) (((s.txMaps c).filter (fun e => fieldAt 0 4 e == fieldAt 0 4 b)).map (fun e => s.txValue e)).sum }) := by
  have hany : ((s.txMaps c).take k).any (fun e => fieldAt 0 4 e == fieldAt 0 4 b) = false :=
    List.any_eq_false.2 fun e he => by simp [hfirst e he]
  rw [exec_canTxMapSend_eq, execCanTxMapSend, hb]
  dsimp only
  rw [hany, if_neg (by simp [hdue])]

theorem exec_canTxMapSend_of_none (hb : (s.txMaps c)[k]? = none) : exec (.canTxMapSend c k) s = .next s := by
  rw [exec_canTxMapSend_eq, execCanTxMapSend, hb]
end Maps

/-! R428, R434: the transmit queue and the status set. -/
section Queue
variable {c : Fin 4} {f : CanFrame} {k : Fin 5} {s : State}

/-- R428: a controller that drops a frame of the module. -/
def Can.overflows (x : Can) : Can := { x with txDropped := incSat x.txDropped, ovf := true }

/-- R428: a controller that queues a frame of the module. -/
def Can.queues (f : CanFrame) (x : Can) : Can := { x with queue := x.queue ++ [f] }

theorem canQueue_of_full (hst : s.can[c.val].st = 1 ∨ s.can[c.val].st = 2) (ha : s.role = .active) (hq : 32 ≤ s.can[c.val].queue.length) :
    s.canQueue c f = s.modCan c Can.overflows := by
  have hruns : (!(s.can[c.val].st == 1 || s.can[c.val].st == 2) || !s.isActive) = false := by
    rcases hst with h | h <;> simp [h, State.isActive, ha]
  rw [State.canQueue]
  rw [hruns, if_neg Bool.false_ne_true, if_neg (Nat.not_lt.2 hq)]
  rfl

theorem canQueue_of_room (hst : s.can[c.val].st = 2) (ha : s.role = .active) (hq : s.can[c.val].queue.length < 32)
    (hfull : s.can[c.val].listen = true ∨ ∀ b : Fin 3, s.can[c.val].tx[b.val].loadable = false) : s.canQueue c f = s.modCan c (Can.queues f) := by
  have hruns : (!(s.can[c.val].st == 1 || s.can[c.val].st == 2) || !s.isActive) = false := by simp [hst, State.isActive, ha]
  have hcan : (s.modCan c (Can.queues f)).can[c.val] = s.can[c.val].queues f := vmod_same ..
  rw [State.canQueue]
  rw [hruns, if_neg Bool.false_ne_true, if_pos hq]
  refine canRefill_of_full ?_
  rcases hfull with h | h
  · exact .inl ((congrArg Can.listen hcan).trans h)
  · exact .inr fun b => (congrArg (fun x : Can => x.tx[b.val].loadable) hcan).trans (h b)

/-- R428: queueing a frame concerns the controllers alone. -/
theorem canQueue_eq (c : Fin 4) (f : CanFrame) (s : State) : ∃ can : Vector Can 4, s.canQueue c f = { s with can := can } := by
  rw [State.canQueue]
  split
  · exact ⟨_, rfl⟩
  · split
    · exact ⟨_, rfl⟩
    · exact ⟨_, rfl⟩

/-- R434: a status message that is not enabled is not queued. -/
theorem sendMessage_of_disabled {j : Nat} (h : bitAt (s.parN P.canStatusEnable c.val) j = false) : s.sendMessage c j = s := by
  rw [State.sendMessage, h]
  rfl

/-- R434: status message k, where it is enabled. -/
theorem sendMessage_of_enabled (h : bitAt (s.parN P.canStatusEnable c.val) k.val = true) (hk : k ≠ 0) : s.sendMessage c k.val = s.canQueue c {
    ide := s.par P.canStatusExt c.val == 1, fd := false, brs := false, id := s.parN P.canStatusBaseId c.val + k.val, data := s.statusPayload c k.val } := by
  have hk0 : ¬ k.val = 0 := fun h0 => hk (Fin.ext h0)
  rw [State.sendMessage, h]
  simp only [Bool.not_true, Bool.false_eq_true, if_false, hk0]

/-- R434: messages that are not the one enabled are not queued. -/
theorem foldl_sendMessage_of_others (he : s.parN P.canStatusEnable c.val = 2 ^ k.val) {js : List Nat} (hjs : k.val ∉ js) :
    js.foldl (fun t j => t.sendMessage c j) s = s := by
  refine List.foldlRecOn (motive := fun t => t = s) js _ rfl fun t ht j hj => ?_
  subst ht
  have hne : k.val ≠ j := fun h => hjs (h ▸ hj)
  exact sendMessage_of_disabled (by rw [he, bitAt_two_pow, decide_eq_false hne])

/-- R434: where one message is enabled, the status set is that message. -/
theorem foldl_sendMessage (hk : k ≠ 0) (he : s.parN P.canStatusEnable c.val = 2 ^ k.val) :
    [0, 1, 2, 3, 4].foldl (fun t j => t.sendMessage c j) s = s.sendMessage c k.val := by
  have hlist : ([0, 1, 2, 3, 4] : List Nat) = List.range k.val ++ k.val :: List.range' (k.val + 1) (4 - k.val) ∧ k.val ∉ List.range k.val ∧
      k.val ∉ List.range' (k.val + 1) (4 - k.val) := by
    clear hk he
    revert k
    decide
  obtain ⟨hsplit, hbefore, hafter⟩ := hlist
  obtain ⟨can, hcan⟩ := canQueue_eq c {
    ide := s.par P.canStatusExt c.val == 1, fd := false, brs := false, id := s.parN P.canStatusBaseId c.val + k.val, data := s.statusPayload c k.val } s
  have hsend := (sendMessage_of_enabled (c := c) (by rw [he, bitAt_two_pow, decide_eq_true rfl]) hk).trans hcan
  rw [hsplit, List.foldl_append, foldl_sendMessage_of_others he hbefore, List.foldl_cons, hsend]
  exact foldl_sendMessage_of_others (s := { s with can := can }) he hafter

theorem exec_canStatusSetSend (ha : s.role = .active) (hst : s.can[c.val].st = 2) (hd : s.statusDue c = true) :
    exec (.canStatusSetSend c) s = .next ([0, 1, 2, 3, 4].foldl (fun t j => t.sendMessage c j) s) := by
  rw [exec_canStatusSetSend_eq, execCanStatusSetSend, if_neg (by simp [State.isActive, ha, hst, hd])]

theorem exec_canStatusSetSend_of_other (h : s.role ≠ .active ∨ s.statusDue c = false) : exec (.canStatusSetSend c) s = .next s := by
  rw [exec_canStatusSetSend_eq, execCanStatusSetSend, if_pos (by rcases h with h | h <;> simp [State.isActive, h])]
end Queue

end Sys2Proof.Machine
end

section
/-! SETTLES O58. -/
namespace Sys2Proof.Machine
open Sys2Proof

/-- Settles O58: what each row does to its controller; of the error state only that it changes neither counters nor the buffer
that the row is about. -/
theorem canBus : Obligations.CanBus := by
  unfold Obligations.CanBus
  refine ⟨?receive, ?accept, ?off, ?error, ?third, ?arbitration, fun f g => arbKey_base_lt, ?complete, ?lose, ?idle, ?recovery,
    fun c s => exec_canBusOffRecovery_of_other, ?dwell, fun c s => exec_canRateDwellExpiry_of_found, ?timeout, fun c k s => exec_canMapTimeout_of_none,
    fun c k m f stamp s => exec_canMapTimeout_of_hit, fun c k b s => exec_canTxMapSend, fun c k s => exec_canTxMapSend_of_none, ?full, ?room, ?status,
    fun c s => exec_canStatusSetSend_of_other⟩
  case receive =>
    intro c f remote stamp s hst herr ht hr hd
    have hexec := exec_canFrameReceived (f := f) (remote := remote) (stamp := stamp) hst herr ht hr
    have hcan : ((s.modCan c Can.hears).modCan c (Can.takes f remote stamp)).can[c.val] = (s.can[c.val].hears).takes f remote stamp :=
      (vmod_same ..).trans (congrArg _ (vmod_same ..))
    rw [hd] at hexec
    refine ⟨_, hexec, rfl, fun d hne => (vmod_other _ _ _ _ hne).trans (vmod_other _ _ _ _ hne), ?_, ?_, ?_⟩
    · rintro rfl hq
      exact hcan.trans (if_pos hq)
    · rintro rfl hq
      exact hcan.trans (if_neg (Nat.not_lt.2 hq))
    · rintro rfl
      exact hcan
  case accept =>
    intro c f stamp s hst herr ht hr hd hg
    have hexec := exec_canFrameReceived (f := f) (remote := false) (stamp := stamp) (.inr hst) herr ht hr
    have hcan : (vmod (vmod s.can c Can.hears) c (Can.takes f false stamp))[c.val] = (s.can[c.val].hears).takes f false stamp :=
      (vmod_same ..).trans (congrArg _ (vmod_same ..))
    obtain ⟨t, haccept, hrest⟩ := acceptRate_spec (s := s) ((congrArg Can.rate hcan).trans (takes_rate f false stamp s.can[c.val].hears))
    rw [hd, hg] at hexec
    exact ⟨t, hexec.trans (congrArg Host.Outcome.next haccept), hrest⟩
  case off =>
    intro c f b stamp s h
    exact ⟨exec_canFrameReceived_of_off h, exec_canRxError_of_off h, exec_canArbitrationStart_of_off h⟩
  case error =>
    intro c heavy s hst herr hd
    have hexec := exec_canRxError (heavy := heavy) hst herr
    obtain ⟨e, n, off, fb, free, hstate⟩ := canErr_eq c (s.modCan c (Can.mishears (if heavy then 8 else 1)))
    have hcan : (vmod (vmod s.can c (Can.mishears (if heavy then 8 else 1))) c (Can.errs e n off))[c.val] =
      (s.can[c.val].mishears (if heavy then 8 else 1)).errs e n off := (vmod_same ..).trans (congrArg _ (vmod_same ..))
    rw [hd, Bool.not_false, if_pos rfl, hstate] at hexec
    exact ⟨_, hexec, congrArg Can.rxe hcan, (congrArg Can.tec hcan :), rfl⟩
  case third =>
    intro c heavy s hst herr hd he
    have hexec := exec_canRxError (heavy := heavy) hst herr
    obtain ⟨e, n, off, fb, free, hstate⟩ := canErr_eq c (s.modCan c (Can.mishears (if heavy then 8 else 1)))
    have hcan : (vmod (vmod (vmod s.can c (Can.mishears (if heavy then 8 else 1))) c (Can.errs e n off)) c
        (Can.triesNext (s.parN P.canRateCount c.val)))[c.val] =
      ((s.can[c.val].mishears (if heavy then 8 else 1)).errs e n off).triesNext (s.parN P.canRateCount c.val) :=
      (vmod_same ..).trans (congrArg _ ((vmod_same ..).trans (congrArg _ (vmod_same ..))))
    rw [hd, Bool.not_true, if_neg Bool.false_ne_true, he, if_pos rfl, hstate, nextRate_eq] at hexec
    exact ⟨_, hexec, congrArg Can.rate hcan, congrArg Can.good hcan, congrArg Can.errors hcan⟩
  case arbitration =>
    intro c p s hst herr hl hw hp
    obtain ⟨b, hb, hbst, hleast, hfirst⟩ := choice_spec (s.par P.canTxOrder c.val == 1) hp
    have hcan := vmod_same s.can c (Can.starts b)
    refine ⟨_, b, exec_canArbitrationStart hst herr hl hw hb, hbst, congrArg Can.st hcan,
      (congrArg (fun x : Can => x.tx[b.val]) hcan).trans (vmod_same ..), rfl, fun h0 => hleast (by simp [h0]), fun h1 => hfirst (by simp [h1])⟩
  case complete =>
    intro c b stamp s hb hq
    obtain ⟨e, n, off, fb, free, st, hstate⟩ := canErr_canDrained_canRefill (s := s.modCan c (Can.sends b stamp))
      ((congrArg Can.queue (vmod_same s.can c (Can.sends b stamp))).trans hq)
    have hcan := vmod_after_attempt (v := s.can) (c := c) (Can.sends b stamp) e n st off
    have htx : (s.can[c.val].sends b stamp).tx[b.val] = s.can[c.val].tx[b.val].done stamp := vmod_same ..
    have htx' : ((s.can[c.val].sends b stamp).errs e n off).tx[b.val] = s.can[c.val].tx[b.val].done stamp :=
      (tx_errs e n off (by rw [htx]; simp [CanTx.done])).trans htx
    exact ⟨_, (exec_canTxComplete hb).trans (congrArg Host.Outcome.next hstate), (congrArg (fun x : Can => x.tx[b.val]) hcan).trans htx',
      congrArg Can.tec hcan, congrArg Can.txFrames hcan, rfl⟩
  case lose =>
    intro c b lost s hb hq hst
    obtain ⟨e, n, off, fb, free, st, hstate⟩ := canErr_canDrained_canRefill (s := s.modCan c (Can.loses b lost))
      ((congrArg Can.queue (vmod_same s.can c (Can.loses b lost))).trans hq)
    have hcan := vmod_after_attempt (v := s.can) (c := c) (Can.loses b lost) e n st off
    have htx : (s.can[c.val].loses b lost).tx[b.val] = s.can[c.val].tx[b.val].fails false :=
      (vmod_same ..).trans (by rw [hst]; rfl)
    have hkept (h : ¬ ((s.can[c.val].tx[b.val].fails false).st = 1 ∧ s.can[c.val].tx[b.val].oneShot = true)) :=
      (congrArg (fun x : Can => x.tx[b.val].st) hcan).trans
        (congrArg CanTx.st ((tx_errs e n off (by rw [htx]; exact h)).trans htx))
    refine ⟨_, (exec_canTxError hb).trans (congrArg Host.Outcome.next hstate), (congrArg Can.tec hcan).trans ?_, rfl, fun ha => ?_, fun ha ho => ?_,
      fun ha ho => ?_⟩
    · cases lost with
      | false => rfl
      | true => rfl
    · have h4 : (s.can[c.val].tx[b.val].fails false).st = 4 := by simp [CanTx.fails, ha]
      exact (hkept (by rw [h4]; omega)).trans h4
    · have h5 : (s.can[c.val].tx[b.val].fails false).st = 5 := by simp [CanTx.fails, ha, ho]
      exact (hkept (by rw [h5]; omega)).trans h5
    · have h1 : (s.can[c.val].tx[b.val].fails false).st = 1 := by simp [CanTx.fails, ha, ho]
      exact (hkept (by rw [ho]; exact fun h => absurd h.2 Bool.false_ne_true)).trans h1
  case idle =>
    intro c lost stamp s h
    exact ⟨exec_canTxComplete_of_none h, exec_canTxError_of_none h⟩
  case recovery =>
    intro c s he ha hst
    exact ⟨_, exec_canBusOffRecovery he ha hst, vmod_same s.can c Can.rejoins, rfl⟩
  case dwell =>
    intro c s hd
    exact ⟨_, exec_canRateDwellExpiry hd, rfl, vmod_same s.can c _⟩
  case timeout =>
    intro c k m s hm ht hk hs hq
    exact ⟨_, exec_canMapTimeout hm ht hk hs hq, Vector.getElem_set_self .., Vector.getElem_set_self ..,
      congrArg Can.timedOut (vmod_same s.can c (Can.timesOut k)), rfl⟩
  case full =>
    intro c f s hst ha hq
    exact ⟨_, canQueue_of_full hst ha hq, rfl, vmod_same s.can c Can.overflows⟩
  case room =>
    intro c f s hst ha hq hfull
    exact ⟨_, canQueue_of_room hst ha hq hfull, rfl, vmod_same s.can c (Can.queues f)⟩
  case status =>
    intro c k s ha hst hd hk he
    rw [exec_canStatusSetSend ha hst hd, foldl_sendMessage hk he, sendMessage_of_enabled (by rw [he, bitAt_two_pow, decide_eq_true rfl]) hk]

end Sys2Proof.Machine
end
section
/-! SUPPORT. The host's gateway to the CAN controllers (R426, R435). -/
namespace Sys2Proof.Machine

section Gateway
variable {c : Fin 4} {b : Fin 3} {sub : Nat} {r : HostReq} {s u : State}

theorem exec_canTxLoad (ha : s.accepts 8 r u) (hc : fieldAt 0 1 r.payload = 0) : exec (.canTxLoad r) s = .next (u.serveCan r) :=
  congrArg Host.Outcome.next (subRequest_served ha hc)
theorem exec_canTxAbort (ha : s.accepts 8 r u) (hc : fieldAt 0 1 r.payload = 1) : exec (.canTxAbort r) s = .next (u.serveCan r) :=
  congrArg Host.Outcome.next (subRequest_served ha hc)
theorem exec_canTxStatus (ha : s.accepts 8 r u) (hc : fieldAt 0 1 r.payload = 2) : exec (.canTxStatus r) s = .next (u.serveCan r) :=
  congrArg Host.Outcome.next (subRequest_served ha hc)
theorem exec_canRxRead (ha : s.accepts 8 r u) (hc : fieldAt 0 1 r.payload = 3) : exec (.canRxRead r) s = .next (u.serveCan r) :=
  congrArg Host.Outcome.next (subRequest_served ha hc)
theorem exec_canRxAck (ha : s.accepts 8 r u) (hc : fieldAt 0 1 r.payload = 4) : exec (.canRxAck r) s = .next (u.serveCan r) :=
  congrArg Host.Outcome.next (subRequest_served ha hc)
theorem exec_canControllerStatus (ha : s.accepts 8 r u) (hc : fieldAt 0 1 r.payload = 5) : exec (.canControllerStatus r) s = .next (u.serveCan r) :=
  congrArg Host.Outcome.next (subRequest_served ha hc)

theorem ix4_val (c : Fin 4) : ix4 c.val = c := by decide +revert

/-- R435: a request to a controller above 3. -/
theorem serveCan_of_absent (hlen : 4 ≤ r.payload.length) (h : 3 < fieldAt 1 1 r.payload) : u.serveCan r = u.answer 8 r 3 [] := by
  rw [State.serveCan, if_neg (Nat.not_lt.2 hlen), if_pos h]

section Controller
variable (hc : fieldAt 1 1 r.payload = c.val) (hlen : 4 ≤ r.payload.length)
include hc hlen

theorem serveCan_load (h : fieldAt 0 1 r.payload = 0) : u.serveCan r = u.gatewayLoad c r := by
  simp [State.serveCan, h, hc, Nat.not_lt.2 hlen, Nat.not_lt.2 (Nat.le_of_lt_succ c.isLt), ix4_val]
theorem serveCan_abort (h : fieldAt 0 1 r.payload = 1) : u.serveCan r = u.gatewayAbort c r := by
  simp [State.serveCan, h, hc, Nat.not_lt.2 hlen, Nat.not_lt.2 (Nat.le_of_lt_succ c.isLt), ix4_val]
theorem serveCan_status (h : fieldAt 0 1 r.payload = 2) : u.serveCan r =
    u.canReply r 0 (u.can[c.val].tx.toList.flatMap (fun x => leBytes 1 x.st ++ leBytes 3 0 ++ leBytes 8 x.stamp)) := by
  simp [State.serveCan, h, hc, Nat.not_lt.2 hlen, Nat.not_lt.2 (Nat.le_of_lt_succ c.isLt), ix4_val]
theorem serveCan_read (h : fieldAt 0 1 r.payload = 3) : u.serveCan r = u.gatewayRead c r := by
  simp [State.serveCan, h, hc, Nat.not_lt.2 hlen, Nat.not_lt.2 (Nat.le_of_lt_succ c.isLt), ix4_val]
theorem serveCan_ack (h : fieldAt 0 1 r.payload = 4) : u.serveCan r = u.gatewayAck c r := by
  simp [State.serveCan, h, hc, Nat.not_lt.2 hlen, Nat.not_lt.2 (Nat.le_of_lt_succ c.isLt), ix4_val]
theorem serveCan_controller (h : fieldAt 0 1 r.payload = 5) : u.serveCan r =
    u.canReply r 0 (leBytes 4 (u.canStatus c) ++ leBytes 1 (min 255 u.can[c.val].tec) ++ leBytes 1 (min 255 u.can[c.val].rxe) ++
      leBytes 1 u.can[c.val].rxq.length ++ leBytes 1 0) := by
  simp [State.serveCan, h, hc, Nat.not_lt.2 hlen, Nat.not_lt.2 (Nat.le_of_lt_succ c.isLt), ix4_val]
end Controller

/-! R426: a buffer of the gateway. -/

/-- A controller with one buffer changed. -/
def Can.modTx (b : Fin 3) (f : CanTx → CanTx) (x : Can) : Can := { x with tx := vmod x.tx b f }

theorem bufferState_eq (c : Fin 4) (b : Fin 3) (s : State) : s.bufferState c b.val = leBytes 1 b.val ++ leBytes 1 s.can[c.val].tx[b.val].st := by
  have hget : s.can[c.val].tx.toList.getD b.val {} = s.can[c.val].tx[b.val] := by
    rw [List.getD_eq_getElem?_getD, Vector.getElem?_toList]
    simp
  rw [State.bufferState, hget]

/-- R435: the frame that TX_LOAD gives. -/
def loadFrame (r : HostReq) : CanFrame :=
  { ide := bitAt (fieldAt 5 1 r.payload) 0, fd := bitAt (fieldAt 5 1 r.payload) 1, brs := bitAt (fieldAt 5 1 r.payload) 2
    id := fieldAt 8 4 r.payload % 2 ^ 29, data := r.payload.drop 12 }

theorem gatewayLoad_eq (hb : fieldAt 4 1 r.payload = b.val) (hlen : r.payload.length = 12 + fieldAt 6 1 r.payload) : u.gatewayLoad c r =
    (u.canLoad c b.val (loadFrame r) (bitAt (fieldAt 5 1 r.payload) 3)).2.canReply r (u.canLoad c b.val (loadFrame r) (bitAt (fieldAt 5 1 r.payload) 3)).1
      (if (u.canLoad c b.val (loadFrame r) (bitAt (fieldAt 5 1 r.payload) 3)).1 = 0
        then (u.canLoad c b.val (loadFrame r) (bitAt (fieldAt 5 1 r.payload) 3)).2.bufferState c b.val else []) := by
  have hdata : slice 12 (fieldAt 6 1 r.payload) r.payload = r.payload.drop 12 :=
    List.take_of_length_le (by rw [List.length_drop]; omega)
  rw [State.gatewayLoad]
  dsimp only
  rw [if_neg (not_not.2 hlen), hdata, hb]
  rfl

section Load
variable {f : CanFrame} {oneShot : Bool}

theorem canLoad_of_foreign (ho : u.gatewayOwns c b.val = false) : u.canLoad c b.val f oneShot = (8, u) := by
  rw [State.canLoad]
  simp [ho]

variable (ho : u.gatewayOwns c b.val = true) (hd : u.can[c.val].detecting = false) (hst : u.can[c.val].st = 1 ∨ u.can[c.val].st = 2)
include ho hd hst

theorem canLoad_of_busy (hl : u.can[c.val].tx[b.val].loadable = false) : u.canLoad c b.val f oneShot = (6, u) := by
  rw [State.canLoad]
  rcases hst with h | h <;> simp [ho, hd, h, hl]

theorem canLoad_of_free (hl : u.can[c.val].tx[b.val].loadable = true) (hn : canLenOk f.fd f.data.length = true) (hr : f.fd = true → u.can[c.val].dat ≠ 0) :
    u.canLoad c b.val f oneShot = (0, u.modCan c (Can.modTx b (CanTx.load f oneShot))) := by
  have hrate : ¬ (f.fd = true ∧ u.can[c.val].dat = 0) := fun h => hr h.1 h.2
  rw [State.canLoad]
  rcases hst with h | h
  all_goals
    simp [ho, hd, h, hl, hn, hrate]
    rfl
end Load

/-- R426: a buffer that the host aborts. -/
def CanTx.aborts (t : CanTx) : CanTx := if t.st = 1 then { t with st := 4 } else if t.st = 2 then { t with abort := true } else t

theorem gatewayAbort_of_owned (hb : fieldAt 4 1 r.payload = b.val) (ho : u.gatewayOwns c b.val = true) : u.gatewayAbort c r =
    (u.modCan c (Can.modTx b CanTx.aborts)).canReply r 0
      ((u.modCan c (Can.modTx b CanTx.aborts)).bufferState c b.val) := by
  have habort : u.canAbort c b.val = (0, u.modCan c (Can.modTx b CanTx.aborts)) := by
    rw [State.canAbort, dif_pos b.isLt, ho]
    rfl
  rw [State.gatewayAbort, hb, habort]
  rfl

/-! R435: the receive queue. -/

/-- R435: RX_READ takes whole entries from the oldest on, as many as asked for and as fit. -/
theorem takeEntries_spec (es : List CanRx) (n room : Nat) : takeEntries es n room <+: es ∧ (takeEntries es n room).length ≤ n ∧
    ((takeEntries es n room).flatMap CanRx.bytes).length ≤ room := by
  induction es generalizing n room with
  | nil => exact ⟨by rw [takeEntries], by rw [takeEntries]; exact Nat.zero_le _, by rw [takeEntries]; exact Nat.zero_le _⟩
  | cons e es ih =>
    cases n with
    | zero =>
      rw [takeEntries]
      · exact ⟨List.nil_prefix, Nat.zero_le _, Nat.zero_le _⟩
      · exact fun h => List.cons_ne_nil e es h
    | succ n =>
      rw [takeEntries]
      split
      next hfits =>
        obtain ⟨hprefix, hlength, hbytes⟩ := ih n (room - e.bytes.length)
        refine ⟨List.cons_prefix_cons.2 ⟨rfl, hprefix⟩, Nat.succ_le_succ hlength, ?_⟩
        rw [List.flatMap_cons, List.length_append]
        omega
      next => exact ⟨List.nil_prefix, Nat.zero_le _, Nat.zero_le _⟩

theorem gatewayRead_of_reader (hg : u.gatewayReads c = true) : u.gatewayRead c r =
    u.canReply r 0 (leBytes 1 (takeEntries u.can[c.val].rxq (fieldAt 4 1 r.payload) 1421).length ++
      (takeEntries u.can[c.val].rxq (fieldAt 4 1 r.payload) 1421).flatMap CanRx.bytes) := by
  rw [State.gatewayRead]
  exact if_pos hg

theorem gatewayRead_of_other (hg : u.gatewayReads c = false) : u.gatewayRead c r = u.canReply r 8 [] := by
  rw [State.gatewayRead]
  exact if_neg (by rw [hg]; exact Bool.false_ne_true)

/-- R435: RX_ACK releases the entries up to the one with its SEQ. -/
theorem ackEntries_of_found {a z : List CanRx} {e : CanRx} (ha : ∀ x ∈ a, x.seq ≠ e.seq) : ackEntries e.seq (a ++ e :: z) = some (a.length + 1, z) := by
  have hany : (a ++ e :: z).any (fun x => x.seq == e.seq) = true := by simp
  have hwhile : (a ++ e :: z).takeWhile (fun x => x.seq != e.seq) = a := by
    rw [List.takeWhile_append_of_pos (fun x hx => by simpa using ha x hx), List.takeWhile_cons_of_neg (by simp), List.append_nil]
  have hdrop : (a ++ e :: z).drop (a.length + 1) = z := by simp
  rw [ackEntries, hany, hwhile, if_pos rfl]
  exact congrArg (fun rest => some (a.length + 1, rest)) hdrop

theorem ackEntries_of_missing {es : List CanRx} {seq : Nat} (h : ∀ x ∈ es, x.seq ≠ seq) : ackEntries seq es = none := by
  have hany : es.any (fun x => x.seq == seq) = false := List.any_eq_false.2 fun x hx => by simpa using h x hx
  rw [ackEntries, hany, if_neg Bool.false_ne_true]

theorem gatewayAck_of_other (hg : u.gatewayReads c = false) : u.gatewayAck c r = u.canReply r 8 [] := by
  rw [State.gatewayAck, hg]
  rfl

theorem gatewayAck_of_missing (hg : u.gatewayReads c = true) (h : ackEntries (fieldAt 4 2 r.payload) u.can[c.val].rxq = none) :
    u.gatewayAck c r = u.canReply r 3 [] := by
  rw [State.gatewayAck, hg, h]
  rfl

theorem gatewayAck_of_found {n : Nat} {rest : List CanRx} (hg : u.gatewayReads c = true)
    (h : ackEntries (fieldAt 4 2 r.payload) u.can[c.val].rxq = some (n, rest)) :
    u.gatewayAck c r = (u.modCan c (fun x => { x with rxq := rest })).canReply r 0 (leBytes 1 n) := by
  rw [State.gatewayAck, hg, h]
  rfl
end Gateway

end Sys2Proof.Machine
end

section
/-! SETTLES O59. -/
namespace Sys2Proof.Machine
open Sys2Proof

/-- Settles O59, by the sub-operation of the request. -/
theorem canGateway : Obligations.CanGateway := by
  unfold Obligations.CanGateway
  refine ⟨?load, ?foreign, ?abort, ?status, ?read, ?ack, ?controller, ?absent⟩
  case load =>
    intro c b r s u ha hop hc hb hlen hdata ho hd hst hn hr
    have hload := (exec_canTxLoad ha hop).trans (congrArg Host.Outcome.next ((serveCan_load hc (by omega) hop).trans (gatewayLoad_eq hb hdata)))
    have hlength : (loadFrame r).data.length = fieldAt 6 1 r.payload := by
      rw [loadFrame, List.length_drop, hdata, Nat.add_sub_cancel_left]
    refine ⟨fun hl => ?_, fun hl => ?_⟩
    · have hcan := vmod_same u.can c (Can.modTx b (CanTx.load (loadFrame r) (bitAt (fieldAt 5 1 r.payload) 3)))
      have htx := (congrArg (fun x : Can => x.tx[b.val]) hcan).trans (vmod_same ..)
      have htx' : (u.modCan c (Can.modTx b (CanTx.load (loadFrame r) (bitAt (fieldAt 5 1 r.payload) 3)))).can[c.val].tx[b.val].st = 1 :=
        congrArg CanTx.st htx
      rw [canLoad_of_free ho hd hst hl (by rw [hlength]; exact hn) hr] at hload
      dsimp only at hload
      rw [if_pos rfl, bufferState_eq] at hload
      refine ⟨u.modCan c (Can.modTx b (CanTx.load (loadFrame r) (bitAt (fieldAt 5 1 r.payload) 3))), hload.trans ?_, rfl, fun d hne => vmod_other u.can c d _ hne, htx⟩
      rw [htx']
    · rw [canLoad_of_busy ho hd hst hl] at hload
      exact hload
  case foreign =>
    intro c b r s u ha hop hc hb hlen hdata ho
    have hload := (exec_canTxLoad ha hop).trans (congrArg Host.Outcome.next ((serveCan_load hc (by omega) hop).trans (gatewayLoad_eq hb hdata)))
    rw [canLoad_of_foreign ho] at hload
    exact hload
  case abort =>
    intro c b r s u ha hop hc hb hlen ho
    have hcan := vmod_same u.can c (Can.modTx b CanTx.aborts)
    have htx := (congrArg (fun x : Can => x.tx[b.val]) hcan).trans (vmod_same ..)
    have habort := (exec_canTxAbort ha hop).trans (congrArg Host.Outcome.next ((serveCan_abort hc hlen hop).trans (gatewayAbort_of_owned hb ho)))
    rw [bufferState_eq] at habort
    refine ⟨_, habort, rfl, fun h1 => htx.trans (if_pos h1), fun h2 => htx.trans ?_, fun hn1 hn2 => htx.trans ?_⟩
    · rw [CanTx.aborts, if_neg (by omega), if_pos h2]
    · rw [CanTx.aborts, if_neg hn1, if_neg hn2]
  case status => exact fun c r s u ha hop hc hlen => (exec_canTxStatus ha hop).trans (congrArg _ (serveCan_status hc hlen hop))
  case read =>
    intro c r s u ha hop hc hlen
    have hread := (exec_canRxRead ha hop).trans (congrArg Host.Outcome.next (serveCan_read hc hlen hop))
    exact ⟨fun hg => ⟨_, hread.trans (congrArg _ (gatewayRead_of_reader hg)), takeEntries_spec ..⟩, fun hg => hread.trans (congrArg _ (gatewayRead_of_other hg))⟩
  case ack =>
    intro c r s u ha hop hc hlen
    have hack := (exec_canRxAck ha hop).trans (congrArg Host.Outcome.next (serveCan_ack hc hlen hop))
    refine ⟨fun a z e hg hq he hseq => ?_, fun hg hq => hack.trans (congrArg _ (gatewayAck_of_missing hg (ackEntries_of_missing hq))),
      fun hg => hack.trans (congrArg _ (gatewayAck_of_other hg))⟩
    have hfound : ackEntries (fieldAt 4 2 r.payload) u.can[c.val].rxq = some (a.length + 1, z) := by
      rw [← he, hq]
      exact ackEntries_of_found hseq
    exact ⟨_, hack.trans (congrArg _ (gatewayAck_of_found hg hfound)), rfl, vmod_same u.can c (fun x => { x with rxq := z })⟩
  case controller => exact fun c r s u ha hop hc hlen => (exec_canControllerStatus ha hop).trans (congrArg _ (serveCan_controller hc hlen hop))
  case absent => exact fun r s u ha hop hlen h => (exec_canControllerStatus ha hop).trans (congrArg _ (serveCan_of_absent hlen h))

end Sys2Proof.Machine
end
section
/-! SUPPORT. UPDATE and the trial timer (R446, R447, R449 to R453, R455). -/
namespace Sys2Proof.Machine

theorem exec_applyBlockComplete_eq (fault : Nat) (s : State) : exec (.applyBlockComplete fault) s =
    .next (if s.upd.session ≠ 3 then s else if fault ≠ 0 then s.applyFails 14 else s.applyBlock) := rfl
theorem exec_trialTimerExpiry_eq (s : State) : exec .trialTimerExpiry s = .next (if s.upd.trial then s.endTrial 1 else s) := rfl

section Update
variable {r : HostReq} {code : Nat} {out : List Byte} {s u : State}

theorem exec_updateHeader (ha : s.accepts 6 r u) (hc : fieldAt 0 1 r.payload = 0) : exec (.updateHeader r) s = .next (u.serveUpdate r) :=
  congrArg Host.Outcome.next (subRequest_served ha hc)
theorem exec_updateBody (ha : s.accepts 6 r u) (hc : fieldAt 0 1 r.payload = 1) : exec (.updateBody r) s = .next (u.serveUpdate r) :=
  congrArg Host.Outcome.next (subRequest_served ha hc)
theorem exec_updateApply (ha : s.accepts 6 r u) (hc : fieldAt 0 1 r.payload = 2) : exec (.updateApply r) s = .next (u.serveUpdate r) :=
  congrArg Host.Outcome.next (subRequest_served ha hc)
theorem exec_updateStart (ha : s.accepts 6 r u) (hc : fieldAt 0 1 r.payload = 3) : exec (.updateStart r) s = .next (u.serveUpdate r) :=
  congrArg Host.Outcome.next (subRequest_served ha hc)
theorem exec_updateReject (ha : s.accepts 6 r u) (hc : fieldAt 0 1 r.payload = 4) : exec (.updateReject r) s = .next (u.serveUpdate r) :=
  congrArg Host.Outcome.next (subRequest_served ha hc)
theorem exec_updateAbort (ha : s.accepts 6 r u) (hc : fieldAt 0 1 r.payload = 5) : exec (.updateAbort r) s = .next (u.serveUpdate r) :=
  congrArg Host.Outcome.next (subRequest_served ha hc)
theorem exec_updateStatus (ha : s.accepts 6 r u) (hc : fieldAt 0 1 r.payload = 6) : exec (.updateStatus r) s = .next (u.serveUpdate r) :=
  congrArg Host.Outcome.next (subRequest_served ha hc)

/-! R449: which operation serves a request. -/
section Served
variable (hlen : 8 ≤ r.payload.length)
include hlen

theorem serveUpdate_status (hc : fieldAt 0 1 r.payload = 6) : u.serveUpdate r = u.answer 6 r 0 (u.updPayload 6 u.upd.session) := by
  simp [State.serveUpdate, hc, Nat.not_lt.2 hlen]

theorem serveUpdate_abort (hc : fieldAt 0 1 r.payload = 5) (hm : u.inStates runtimeStates = true) : u.serveUpdate r = u.updAbort r := by
  simp [State.serveUpdate, hc, Nat.not_lt.2 hlen, hm]

variable (h3 : u.upd.session ≠ 3) (h4 : u.upd.session ≠ 4)
include h3 h4

theorem serveUpdate_header (hc : fieldAt 0 1 r.payload = 0) (hm : u.inStates runtimeStates = true) : u.serveUpdate r = u.updHeader r := by
  simp [State.serveUpdate, hc, Nat.not_lt.2 hlen, hm, h3, h4]

theorem serveUpdate_body (hc : fieldAt 0 1 r.payload = 1) (hm : u.inStates runtimeStates = true) : u.serveUpdate r = u.updBody r := by
  simp [State.serveUpdate, hc, Nat.not_lt.2 hlen, hm, h3, h4]

theorem serveUpdate_apply (hc : fieldAt 0 1 r.payload = 2) (hm : u.inStates runtimeStates = true) : u.serveUpdate r = u.updApply r := by
  simp [State.serveUpdate, hc, Nat.not_lt.2 hlen, hm, h3, h4]

theorem serveUpdate_start (hc : fieldAt 0 1 r.payload = 3) : u.serveUpdate r = u.updStart r := by
  simp [State.serveUpdate, hc, Nat.not_lt.2 hlen, h3, h4]

theorem serveUpdate_reject (hc : fieldAt 0 1 r.payload = 4) : u.serveUpdate r = u.updRejectTrial r := by
  simp [State.serveUpdate, hc, Nat.not_lt.2 hlen, h3, h4]
end Served

/-! R446, R449, R452: the operations. -/

/-- R458: LAST_RESULT. -/
def Update.results (result : Nat) (x : Update) : Update := { x with lastResult := result }

theorem updAnswer_eq (r : HostReq) (status result : Nat) (s : State) : s.updAnswer r status result =
    (s.modUpd (Update.results result)).answer 6 r status ((s.modUpd (Update.results result)).updPayload (fieldAt 0 1 r.payload) result) := rfl

theorem updHeader_of_good (hr : u.upd.reply = none) (hp : (u.portOf 8192).isSome = true) (h0 : fieldAt 4 4 r.payload = 0)
    (hres : u.updHeaderResult (r.payload.drop 8) = 0) : u.updHeader r = (u.openSession (r.payload.drop 8)).updAnswer r 0 0 := by
  have hstaging : stagingBase / 4096 = 8192 := by decide
  obtain ⟨p, hport⟩ := Option.isSome_iff_exists.1 hp
  simp [State.updHeader, hr, h0, hres, hstaging, hport]

theorem updHeader_of_bad (hr : u.upd.reply = none) (h0 : fieldAt 4 4 r.payload = 0) (hres : u.updHeaderResult (r.payload.drop 8) ≠ 0) :
    u.updHeader r = (u.updRecord 1 u.spareSlot (u.updHeaderResult (r.payload.drop 8))).updAnswer r 8 (u.updHeaderResult (r.payload.drop 8)) := by
  simp [State.updHeader, hr, h0, hres, State.updReject]

/-- R451: an accepted header opens a session, whatever of its body is already staged. -/
theorem openSession_eq (h : List Byte) (u : State) : ∃ (store : List Host.Cell) (session received : Nat), (session = 1 ∨ session = 2) ∧
    u.openSession h = { u with
      store := store
      upd := { u.upd with session := session, header := h, received := received, applied := 0, block := 0, abortDue := false } } := by
  have hsession (whole : Prop) [Decidable whole] : (if whole then 2 else 1) = 1 ∨ (if whole then 2 else 1) = 2 := by
    split
    · exact .inr rfl
    · exact .inl rfl
  exact ⟨_, _, _, hsession _, rfl⟩

theorem updBody_of_good (h1 : u.upd.session = 1) (hr : u.upd.reply = none) (ha : fieldAt 4 4 r.payload = u.upd.received) (hd : 8 < r.payload.length)
    (hmax : r.payload.length ≤ 1032) (hb : u.upd.received + (r.payload.length - 8) ≤ u.bodyLen) : u.updBody r =
      (u.startDesc 8 .write (stagingBase + 4096 + u.upd.received) (r.payload.length - 8) (r.payload.drop 8)).modUpd
        (fun x => { x with reply := some (ctxOf 6 r) }) := by
  have hn : ¬ 1024 < r.payload.length - 8 := by omega
  have hne : r.payload.drop 8 ≠ [] := List.ne_nil_of_length_pos (by rw [List.length_drop]; omega)
  have hempty : (r.payload.drop 8).isEmpty = false := by simp [hne]
  rw [State.updBody]
  simp only [hr, Option.isSome_none, Bool.false_eq_true, if_false, List.length_drop, hn, h1, ha, Nat.not_lt.2 hb, hempty, ne_eq, not_true_eq_false,
    false_and, or_self]

section Apply
variable (h2 : u.upd.session = 2) (hw : u.upd.received = u.bodyLen)
include h2 hw

theorem updApply_of_good (hh : sha256 (Memory.readBytes u.store (stagingBase + 4096) u.bodyLen) = slice 104 32 u.upd.header)
    (hp : (u.portOf (4096 * u.spareSlot)).isSome = true) (hq : (u.portOf (4096 * u.spareSlot + 4095)).isSome = true) : ∃ store : List Host.Cell,
      u.updApply r = ({ u with
        store := store
        upd := { u.upd with session := if u.upd.enable then 3 else 4, applied := 0, block := 0, abortDue := false } } : State).updAnswer r 0 0 := by
  obtain ⟨p, hport⟩ := Option.isSome_iff_exists.1 hp
  obtain ⟨q, hport'⟩ := Option.isSome_iff_exists.1 hq
  have hready : ¬ (u.upd.session ≠ 2 ∨ u.upd.received ≠ u.bodyLen) := by simp [h2, hw]
  have hports : ¬ ((u.portOf (4096 * u.spareSlot)).isNone = true ∨ (u.portOf (4096 * u.spareSlot + 4095)).isNone = true) := by simp [hport, hport']
  rw [State.updApply]
  dsimp only
  rw [if_neg hready, if_neg (not_not.2 hh), if_neg hports]
  exact ⟨_, rfl⟩

theorem updApply_of_hash (hh : sha256 (Memory.readBytes u.store (stagingBase + 4096) u.bodyLen) ≠ slice 104 32 u.upd.header) :
    u.updApply r = (u.updNote 7 11).updAnswer r 8 11 := by
  rw [State.updApply]
  simp only [h2, hw, ne_eq, not_true_eq_false, or_self, if_false]
  exact if_pos hh
end Apply

/-- R452: an application that fails goes back to the whole body. -/
theorem applyFails_eq (result : Nat) (s : State) : ∃ (fb : FieldBook) (events : List FbRecord),
    s.applyFails result = { s with upd := { s.upd with session := 2, lastResult := result }, fb := fb, events := events } := ⟨_, _, rfl⟩

theorem updNote_eq (code : Nat) (value : Int) (s : State) : ∃ (fb : FieldBook) (events : List FbRecord),
    s.updNote code value = { s with fb := fb, events := events } := ⟨_, _, rfl⟩

/-- R448, R452: a block that is good is applied, and the next one begins. -/
theorem applyBlock_of_good (hb : blockOk (s.stagedBlock s.upd.block) = true)
    (ho : s.runOps (fieldAt 33 1 s.upd.header == 1) (fieldAt 24 4 (s.headerCopy s.upd.slot)) s.resultLen (s.stagedBlock s.upd.block) 4096 0 s.upd.applied =
      some out) (ha : s.upd.abortDue = false) (hmore : 4096 * (s.upd.block + 1) < s.bodyLen) (he : s.upd.enable = true) : s.applyBlock =
      { s with
        store := Memory.program s.store (slotBase s.spareSlot + s.upd.applied) out
        upd := { s.upd with applied := s.upd.applied + out.length, block := s.upd.block + 1 } } := by
  have hend : ¬ s.bodyLen ≤ 4096 * (s.upd.block + 1) := Nat.not_le.2 hmore
  rw [State.applyBlock]
  dsimp only
  rw [hb, if_neg (by decide), ho]
  exact (if_neg fun h => Bool.false_ne_true (ha.symm.trans h)).trans ((if_neg hend).trans (if_pos he))

/-! R449, R450, R455: resets. -/

theorem updStart_of_ready (hm : u.mode = .surveyed ∨ u.mode = .faultHold) (hs : u.slotState u.spareSlot = 1) : u.updStart r = u.moduleReset cUpdate := by
  have hstates : ¬ (u.role ≠ .standby ∧ u.mode ≠ .surveyed ∧ u.mode ≠ .faultHold) := fun h => hm.elim h.2.1 h.2.2
  rw [State.updStart, if_neg hstates, if_neg (not_not.2 hs)]

theorem updStart_of_unready (hm : u.mode = .surveyed ∨ u.mode = .faultHold) (hs : u.slotState u.spareSlot ≠ 1) : u.updStart r = u.updAnswer r 8 8 := by
  have hstates : ¬ (u.role ≠ .standby ∧ u.mode ≠ .surveyed ∧ u.mode ≠ .faultHold) := fun h => hm.elim h.2.1 h.2.2
  rw [State.updStart, if_neg hstates, if_pos hs]
  rfl

/-- R455: a trial ends at once where nothing is armed. -/
theorem endTrial_of_surveyed (hm : s.mode = .surveyed) :
    s.endTrial code = ({ s with ret := { s.ret with trialEnd := code } } : State).moduleReset cUpdate := by
  rw [State.endTrial, if_neg (by simp [State.inStates, hm])]

/-- R67, R455: a reset keeps the code that ends a trial. -/
theorem moduleReset_trialEnd (cause code : Nat) (s : State) :
    s.restarts cause (({ s with ret := { s.ret with trialEnd := code } } : State).moduleReset cause) ∧
      (({ s with ret := { s.ret with trialEnd := code } } : State).moduleReset cause).ret.trialEnd = code :=
  ⟨moduleReset_restarts .., rfl⟩

/-- R71, R455: an armed module is stopped first. -/
theorem endTrial_of_active (hm : s.mode = .armed ∨ s.mode = .running) :
    s.endTrial code = (s.modUpd (fun x => { x with endDue := code })).trigger 19 3 false := by
  rw [State.endTrial, if_pos (by rcases hm with h | h <;> simp [State.inStates, h])]
  exact if_pos hm

theorem updRejectTrial_of_surveyed (ht : u.upd.trial = true) (hm : u.mode = .surveyed) :
    u.updRejectTrial r = ({ u with ret := { u.ret with trialEnd := 2 } } : State).moduleReset cUpdate := by
  rw [State.updRejectTrial, ht, Bool.not_true, if_neg Bool.false_ne_true, endTrial_of_surveyed hm]
  exact if_pos rfl

/-- R71, R455: what the stop of an active module's trial leaves. -/
theorem endTrial_of_active_effect (hm : s.mode = .armed ∨ s.mode = .running) : (s.endTrial code).upd = { s.upd with endDue := code } ∧
    (s.endTrial code).mode = .stopping ∧ bitAt (s.endTrial code).sf.stopCause 19 = true ∧ (s.endTrial code).kept = s.kept := by
  rw [endTrial_of_active hm]
  obtain ⟨hrest, hcause, -, -, -, hactive, -⟩ := trigger_demands 19 3 false (s.modUpd (fun x => { x with endDue := code }))
  exact ⟨congrArg State.upd hrest, (hactive hm).1, hcause, State.trigger_kept ..⟩

theorem updRejectTrial_of_active (ht : u.upd.trial = true) (hm : u.mode = .armed ∨ u.mode = .running) :
    u.updRejectTrial r = (u.endTrial 2).updAnswer r 0 0 := by
  have hboot : (u.endTrial 2).mode ≠ .boot := by simp [(endTrial_of_active_effect (code := 2) hm).2.1]
  rw [State.updRejectTrial, ht, Bool.not_true, if_neg Bool.false_ne_true]
  exact if_neg hboot

/-! R449, R452: ABORT. -/

theorem updAbort_of_applying (h3 : u.upd.session = 3) :
    u.updAbort r = ({ u with upd := { u.upd with abortDue := true } } : State).updAnswer r 0 0 := by
  rw [State.updAbort, State.modUpd, if_pos h3]

theorem updAbort_of_idle (h3 : u.upd.session ≠ 3) :
    u.updAbort r = ({ u with upd := { u.upd with session := 0, abortDue := false } } : State).updAnswer r 0 0 := by
  rw [State.updAbort, State.modUpd, if_neg h3]
end Update

end Sys2Proof.Machine
end

section
/-! SETTLES O57. -/
namespace Sys2Proof.Machine
open Sys2Proof

/-- Settles O57: a request by its sub-operation, and what each answer leaves of the session. -/
theorem updateOperations : Obligations.UpdateOperations := by
  unfold Obligations.UpdateOperations
  refine ⟨?header, ?badHeader, ?body, ?apply, ?badHash, ?idle, ?fault, ?block, ?start, ?unready, ?reject, ?rejectActive, ?abort, ?close, ?status, ?noTrial,
    ?timer⟩
  case header =>
    intro r s u ha hc hlen hm h3 h4 hr hp h0 hres
    obtain ⟨store, session, received, hsession, hopen⟩ := openSession_eq (r.payload.drop 8) u
    have hserve := (serveUpdate_header hlen h3 h4 hc hm).trans (updHeader_of_good hr hp h0 hres)
    rw [hopen, updAnswer_eq, hc] at hserve
    exact ⟨_, (exec_updateHeader ha hc).trans (congrArg _ hserve), rfl, hsession, rfl, rfl, rfl, rfl⟩
  case badHeader =>
    intro r s u ha hc hlen hm h3 h4 hr h0 hres
    have hserve := (serveUpdate_header hlen h3 h4 hc hm).trans (updHeader_of_bad hr h0 hres)
    rw [updAnswer_eq, hc] at hserve
    exact ⟨_, (exec_updateHeader ha hc).trans (congrArg _ hserve), rfl, rfl⟩
  case body =>
    intro r s u ha hc hd hmax hm h1 hr hat hb
    have hserve := (serveUpdate_body hd.le (by omega) (by omega) hc hm).trans (updBody_of_good h1 hr hat hd hmax hb)
    exact ⟨_, (exec_updateBody ha hc).trans (congrArg _ hserve), rfl,
      vmod_same u.su.ch 8 (Channel.fresh .write (stagingBase + 4096 + u.upd.received) (r.payload.length - 8) (r.payload.drop 8)), rfl⟩
  case apply =>
    intro r s u ha hc hlen hm h2 hw hh hp hq
    obtain ⟨store, happly⟩ := updApply_of_good (r := r) h2 hw hh hp hq
    have hserve := (serveUpdate_apply hlen (by omega) (by omega) hc hm).trans happly
    rw [updAnswer_eq, hc] at hserve
    exact ⟨_, (exec_updateApply ha hc).trans (congrArg _ hserve), rfl, rfl, rfl⟩
  case badHash =>
    intro r s u ha hc hlen hm h2 hw hh
    obtain ⟨fb, events, hnote⟩ := updNote_eq 7 11 u
    have hserve := (serveUpdate_apply hlen (by omega) (by omega) hc hm).trans (updApply_of_hash (r := r) h2 hw hh)
    rw [hnote, updAnswer_eq, hc] at hserve
    exact ⟨_, (exec_updateApply ha hc).trans (congrArg _ hserve), rfl, rfl⟩
  case idle => exact fun fault s h => by rw [exec_applyBlockComplete_eq, if_pos h]
  case fault =>
    intro fault s h hf
    obtain ⟨fb, events, hfails⟩ := applyFails_eq 14 s
    have hnext := exec_applyBlockComplete_eq fault s
    rw [if_neg (not_not.2 h), if_pos hf, hfails] at hnext
    exact ⟨_, hnext, rfl, rfl⟩
  case block =>
    intro out s h hb ho ha hmore he
    rw [exec_applyBlockComplete_eq, if_neg (not_not.2 h), if_neg (not_not.2 rfl), applyBlock_of_good hb ho ha hmore he]
  case start =>
    intro r s u ha hc hlen h3 h4 hm hs
    have hserve := (serveUpdate_start hlen h3 h4 hc).trans (updStart_of_ready hm hs)
    exact ⟨_, (exec_updateStart ha hc).trans (congrArg _ hserve), moduleReset_restarts ..⟩
  case unready =>
    intro r s u ha hc hlen h3 h4 hm hs
    have hserve := (serveUpdate_start hlen h3 h4 hc).trans (updStart_of_unready hm hs)
    rw [updAnswer_eq, hc] at hserve
    exact ⟨_, (exec_updateStart ha hc).trans (congrArg _ hserve), rfl⟩
  case reject =>
    intro r s u ha hc hlen h3 h4 ht hm
    have hserve := (serveUpdate_reject hlen h3 h4 hc).trans (updRejectTrial_of_surveyed ht hm)
    exact ⟨_, (exec_updateReject ha hc).trans (congrArg _ hserve), moduleReset_trialEnd ..⟩
  case rejectActive =>
    intro r s u ha hc hlen h3 h4 ht hm
    obtain ⟨hupd, hmode, hcause, hkept⟩ := endTrial_of_active_effect (code := 2) hm
    have hserve := (serveUpdate_reject hlen h3 h4 hc).trans (updRejectTrial_of_active (r := r) ht hm)
    rw [updAnswer_eq, hc] at hserve
    exact ⟨_, (exec_updateReject ha hc).trans (congrArg _ hserve), congrArg (Update.results 0) hupd, hmode, hcause, hkept⟩
  case abort =>
    intro r s u ha hc hlen hm h3
    have hserve := (serveUpdate_abort hlen hc hm).trans (updAbort_of_applying h3)
    rw [updAnswer_eq, hc] at hserve
    exact ⟨_, (exec_updateAbort ha hc).trans (congrArg _ hserve), rfl⟩
  case close =>
    intro r s u ha hc hlen hm h3
    have hserve := (serveUpdate_abort hlen hc hm).trans (updAbort_of_idle h3)
    rw [updAnswer_eq, hc] at hserve
    exact ⟨_, (exec_updateAbort ha hc).trans (congrArg _ hserve), rfl⟩
  case status => exact fun r s u ha hc hlen => (exec_updateStatus ha hc).trans (congrArg _ (serveUpdate_status hlen hc))
  case noTrial => exact fun s h => by rw [exec_trialTimerExpiry_eq, if_neg (by rw [h]; exact Bool.false_ne_true)]
  case timer =>
    intro s ht hm
    refine ⟨_, ?_, moduleReset_trialEnd cUpdate 1 s⟩
    rw [exec_trialTimerExpiry_eq, if_pos ht, endTrial_of_surveyed hm]

end Sys2Proof.Machine
end
